-- ==== Sys2Proof/Word.lean ====
section
/-! DEFINITION. The word types of the device (R9: every multi-byte structure is little-endian) and sparse maps. -/

namespace Sys2Proof

/-- A byte of memory or of a structure. -/
abbrev Byte := BitVec 8

/-- An FP32 lane value, an integer lane value or a 32-bit field. -/
abbrev W32 := BitVec 32

/-- A 64-bit register or structure word. -/
abbrev W64 := BitVec 64

/-- A sparse map in canonical form: keys strictly rising, no entry equal to what an unlisted key reads as. -/
abbrev Sparse (V : Type) := List (Nat × V)

end Sys2Proof
end

