-- ==== Sys2Proof/Syntax.lean ====
section
/-! DEFINITION. The commands of the block: one constructor of Instr per row of spec/opcode_table.json. The table gives its
rows no bits; the operands are what the spec's rules say such a command or event brings to the device. A row that comes
about at a fabric time carries that time as its operand t (R621). -/

namespace Sys2Proof

/-- The fields every command descriptor has (R546), and its unused bytes as one number, 0 when all are 0. -/
structure CmdHead where
  flags : Nat
  timeout : Nat
  cmdId : Nat
  cntAddr : Nat
  pad : Nat := 0
  deriving DecidableEq, Repr

/-- A command with its operands (R548). -/
inductive CmdOp where
  | loadThallus (src len : Nat)
  | switchEpoch (epoch t pfx : Nat)
  | runSteps (first t0 ring slotBytes slots line inDev : Nat)
  | stopAtStep (step : Nat)
  | abort (target : Nat)
  | ckSave (dest offset len : Nat)
  | ckLoad (src len mode : Nat)
  | tableSwap (table desc s : Nat)
  | grantPeat (slot addr len : Nat)
  | revokePeat (slot : Nat)
  | fence
  | snapshot (dest : Nat)
  | freezeAt (t : Nat)
  | setScales (op l tensor e interval s : Nat)
  /-- A descriptor whose opcode is none of R548's. -/
  | bad (opcode : Nat)
  deriving DecidableEq, Repr

/-- A descriptor as fetched from the ring: its 64 bytes, and the bytes the device reads from host memory for it at its
start, none when that fetch fails. -/
structure Fetched where
  desc : List Byte
  data : Option (List Byte)
  deriving DecidableEq, Repr

/-- The device's output pins (20_package_and_ratings.md). -/
inductive OutPin where
  | fail | thermtrip | farPerst
  deriving DecidableEq, Repr

/-- A row entry of a LOOKUP_REQ or UPDATE_REQ: storage row (bits [39:0]) and remainder row (bits [63:40]) (R207). -/
structure RowEntry where
  row : Nat
  rem : Nat := 0
  deriving DecidableEq, Repr

/-- A ref of a bag: index of its row entry, and its weight or position (R207). -/
structure Ref where
  idx : Nat
  aux : Nat := 0
  deriving DecidableEq, Repr

/-- A bag of a message: sample index, refs, and in an UPDATE_REQ its FP16 gradient vector (R207, R235). -/
structure Bag where
  sample : Nat
  refs : List Ref
  grad : List Nat := []
  deriving DecidableEq, Repr

/-- LOOKUP_REQ (R207) and, with the bags' gradients, UPDATE_REQ (R234, R235). -/
structure BagMsg where
  version : Nat
  table : Nat
  requester : Nat
  mb : Nat
  step : Nat
  rows : List RowEntry
  bags : List Bag
  seq : Nat
  last : Bool
  deriving DecidableEq, Repr

/-- LOOKUP_RSP (R208): status 0 OK, 1 VERSION_UNKNOWN; records of sample index and FP16 elements. -/
structure LookupRsp where
  version : Nat
  table : Nat
  owner : Nat
  mb : Nat
  step : Nat
  ownerIndex : Nat
  seq : Nat
  nBags : Nat
  status : Nat
  recs : List (Nat × List Nat)
  deriving DecidableEq, Repr

/-- REM_GRAD (R250): remainder row and its pairs. -/
structure RemGrad where
  version : Nat
  table : Nat
  source : Nat
  step : Nat
  recs : List (Nat × List (W32 × W32))
  seq : Nat
  last : Bool
  deriving DecidableEq, Repr

/-- REM_ROW (R252): remainder row, BF16 plane, extension plane. -/
structure RemRow where
  version : Nat
  table : Nat
  source : Nat
  step : Nat
  recs : List (Nat × List Byte × List Byte)
  seq : Nat
  last : Bool
  deriving DecidableEq, Repr

/-- A soredium record (R257). -/
structure SorediumRec where
  row : Nat
  table : Nat
  rem : Bool
  delta : List Byte
  deriving DecidableEq, Repr

/-- SOREDIUM (R257, R234). -/
structure Soredium where
  source : Nat
  step : Nat
  recs : List SorediumRec
  seq : Nat
  last : Bool
  deriving DecidableEq, Repr

/-- How the checks of the words read turned out (R107, R108): no error, corrected words in the order of the reads (memory unit and byte
offset of each), or an uncorrectable word. -/
inductive MemErr where
  | none
  | corrected (words : List (Nat × Nat))
  | uncorrectable
  deriving DecidableEq, Repr

/-- The bytes WINDOW_READ asks for (R538), and what the check words of a frond store say of them (R107, R108). -/
structure WinSpan where
  len : Nat
  err : MemErr := .none
  deriving DecidableEq, Repr

/-- A frond whose unit goes on, and what the check words say of what it reads (R107, R108). -/
structure FrondWork where
  frond : Nat
  err : MemErr := .none
  deriving DecidableEq, Repr

/-- The value LDI loads (R154), and what the check words of the program memory say of its word (R107, R108, R185). -/
structure LdiValue where
  imm : Nat
  err : MemErr := .none
  deriving DecidableEq, Repr

/-- The fields of a format R instruction beside its opcode (R153). -/
structure EInstr where
  d : Nat := 0
  a : Nat := 0
  b : Nat := 0
  c : Nat := 0
  maskEn : Bool := false
  mreg : Nat := 0
  zero : Bool := false
  rnd : Nat := 0
  fmt : Nat := 0
  aux : Nat := 0
  /-- No field of the word: what the check words of the program memory, the store and the accumulator memory said while it ran
  (R107, R108, R185). -/
  err : MemErr := .none
  deriving DecidableEq, Repr

/-- REDUCE (R392, R393): FP16 elements of a contribution. -/
structure ReduceMsg where
  source : Nat
  block : Nat
  step : Nat
  offset : Nat
  elems : List Nat
  last : Bool
  /-- Flag bit 1: carried. -/
  carried : Bool := false
  deriving DecidableEq, Repr

/-- PART (R393, R398, R429): pairs of a part, or a skip; the last message carries the bitmap of group indices included. -/
structure PartMsg where
  source : Nat
  block : Nat
  step : Nat
  part : Nat
  offset : Nat
  pairs : List (W32 × W32)
  last : Bool
  skip : Bool
  /-- Group indices included, and the group's count. -/
  bitmap : List Nat
  grp : Nat
  deriving DecidableEq, Repr

/-- GRAD (R393, R418, R419): FP32 gradient elements, or a skip; the last message carries the bitmap. -/
structure GradMsg where
  source : Nat
  block : Nat
  step : Nat
  offset : Nat
  elems : List W32
  last : Bool
  skip : Bool
  /-- Group indices included, and the group's count. -/
  bitmap : List Nat
  grp : Nat
  deriving DecidableEq, Repr

/-- DIGEST (R393, R420): CRC-64 values from digest block `first`. -/
structure DigestMsg where
  source : Nat
  block : Nat
  step : Nat
  first : Nat
  crcs : List Nat
  last : Bool
  deriving DecidableEq, Repr

/-- PARAM (R393, R426): codes from element `offset`, scale bytes of an E2M1 block, format and exponent. -/
structure ParamMsg where
  source : Nat
  block : Nat
  step : Nat
  offset : Nat
  codes : List Nat
  scales : List Nat
  fmt : Nat
  e : Nat
  last : Bool
  deriving DecidableEq, Repr

/-- The values a barrier record carries (R407). -/
structure BarrierRec where
  vote : Bool
  s : W32
  c : W32
  tRec : Nat
  count : Nat
  deriving DecidableEq, Repr

/-- BARRIER (R393, R408). -/
structure BarrierMsg where
  source : Nat
  step : Nat
  level : Nat
  record : BarrierRec
  deriving DecidableEq, Repr

/-- The header of DATA, ERROR and E2E_ACK frames (R465). -/
structure Hdr where
  hops : Nat
  index : Nat
  msgSeq : Nat
  digestTag : Nat
  epochTag : Nat
  dateline : Bool
  plane : Nat
  vc : Nat
  src : Nat
  dst : Nat
  deriving DecidableEq, Repr

/-- A HEARTBEAT frame (R471). -/
structure Heartbeat where
  state : Nat
  device : Nat
  port : Nat
  lanes : Nat
  level : Nat
  epoch : Nat
  digest : Nat
  tTx : Nat
  tRxLast : Nat
  tTxEcho : Nat
  root : Nat
  deriving DecidableEq, Repr

/-- A Shurak frame by type (R464); the CRC it came with is given beside it where a frame arrives. -/
inductive Frame where
  | idle
  | data (h : Hdr) (payload : List Byte)
  | heartbeat (b : Heartbeat)
  | linkCtl (nak laneChange : Bool) (lanes acked expected : Nat) (credits : List Nat)
  | error (h : Hdr) (code vc msgSeq : Nat) (copy : Hdr)
  | e2eAck (h : Hdr) (vc next : Nat)
  | deviceFailed (device reason time : Nat)
  | reserved
  deriving DecidableEq, Repr

/-- How a frame arrived: port (0 to 23), its number among the sequenced frames sent to the port since UP (0 for others), the CRC in its
bytes 0xFC to 0xFF (R464), symbols corrected and codewords not correctable under it (R460, R461, R466), and the fabric time. -/
structure Rx where
  port : Nat
  num : Nat
  crc : Nat
  corr : Nat
  uncorr : Nat
  t : Nat
  deriving DecidableEq, Repr
/-- SCALE (R440): level, amax per tensor, presence by tensor. -/
structure ScaleMsg where
  source : Nat
  step : Nat
  level : Nat
  amax : List W32
  present : List Bool
  deriving DecidableEq, Repr

/-- A SILENT (kind 1), HEARD (2) or LOST (3) notice (R501 to R506). -/
structure Notice where
  kind : Nat
  subject : Nat
  origin : Nat
  epoch : Nat
  time : Nat
  reason : Nat
  deriving DecidableEq, Repr

/-- The row a recovery message names (R506). -/
structure SlotKey where
  table : Nat
  rem : Bool
  row : Nat
  deriving DecidableEq, Repr

/-- A parity slot a device holds: one of its own as holder, or that of a stripe of a lost holder, rebuilt into this device's spare slot (R510,
R522, R523). -/
inductive HeldSlot where
  | own (slot : Nat)
  | standIn (holder stripe : Nat)
  deriving DecidableEq, Repr

/-- A Shurak message by class and unit type (R488). -/
inductive Message where
  | lookupReq (m : BagMsg)
  | lookupRsp (m : LookupRsp)
  | updateReq (m : BagMsg)
  | lookupEnd (source step count : Nat)
  | remGrad (m : RemGrad)
  | remRow (m : RemRow)
  | soredium (m : Soredium)
  | sorediumAck (source step seq : Nat)
  | reduce (m : ReduceMsg)
  | part (m : PartMsg)
  | grad (m : GradMsg)
  | digest (m : DigestMsg)
  | param (m : ParamMsg)
  | barrier (m : BarrierMsg)
  | scale (m : ScaleMsg)
  | memWr (addr : Nat) (bytes : List Byte)
  | memRd (addr len : Nat)
  | memCpl (addr status seq : Nat) (bytes : List Byte)
  | storeWr (offset frond : Nat) (done : Option Nat) (stride rowBytes : Nat) (bytes : List Byte)
  | notice (n : Notice)
  | pieceRd (subject origin : Nat) (k : SlotKey)
  | piece (subject origin : Nat) (k : SlotKey) (data : List Byte)
  | fwd (subject origin : Nat) (r : SorediumRec)
  | stop (subject origin : Nat) (k : SlotKey)
  | stopped (subject origin : Nat) (k : SlotKey)
  | done (subject origin epoch : Nat)
  deriving DecidableEq, Repr

/-- What a base die's read of a line meets (R332, R334): the pins whose symbols err with the bits that flip in each, on the read and on
the re-read that follows a correction. -/
structure LineErr where
  read : List (Nat × Nat) := []
  again : List (Nat × Nat) := []
  deriving DecidableEq, Repr

/-- A read of a line without an error. -/
def LineErr.good : LineErr := {}

/-- What a refresh interval leaves (R331, R332): the burst times it cost, and the lines of the stack in whose cells symbols have come to
err since the last one, as line numbers, with what the next read of each meets. -/
structure RefreshEnd where
  lost : Nat
  errs : List (Nat × LineErr)
  deriving DecidableEq, Repr

/-- A bit that flips in the row cache of a stack (R329): line number, 64-bit word of the line, bit 0 to 71 of its codeword. -/
structure CacheUpset where
  stack : Nat
  line : Nat
  word : Nat
  bit : Nat
  deriving DecidableEq, Repr

/-- A LOOKUP_REQ as it arrives (R209), with the bits of the row cache that have flipped meanwhile (R329). -/
structure ReqArrival where
  msg : BagMsg
  upsets : List CacheUpset := []
  deriving DecidableEq, Repr

/-- How a training of a die-to-die link ends (R320): whether it succeeded on the signals left, and the signals that failed in each
direction. -/
structure TrainingEnd where
  good : Bool
  down : List Nat := []
  up : List Nat := []
  deriving DecidableEq, Repr

/-- A block whose digests are computed (R420), with the digest blocks an agreeing holder has sent for a copy (R422): index, bytes. -/
structure DigestRun where
  block : Nat
  copy : List (Nat × List Byte) := []
  deriving DecidableEq, Repr

/-- The answer of a base die to a transaction (R318): status 0 OK, 1 POISON, 2 VIOLATION; a MSG has none and goes to the sorus
engine. -/
inductive D2DReply where
  | data (tag status : Nat) (bytes : List Byte)
  | written (tag status : Nat)
  | msg (m : Message)
  deriving DecidableEq, Repr

/-- A transaction of R318 as it reaches base die: tag, offset in the stack, byte mask, bytes, outcome of the reads it needs. -/
inductive StackTx where
  | rd64 (tag off : Nat) (err : LineErr)
  | rd256 (tag off : Nat) (errs : List LineErr)
  | wr64 (tag off mask : Nat) (bytes : List Byte) (err : LineErr)
  | wr256 (tag off : Nat) (bytes : List Byte)
  | msg (m : Message)
  deriving DecidableEq, Repr

/-- The 72 bytes of a flit, or a training sequence, on a die-to-die link (R317, R320); `up` towards the compute die. -/
inductive FlitOut where
  | flit (up : Bool) (bytes : List Byte)
  | train
  deriving DecidableEq, Repr

/-- The straps as the board ties them (R680): POS0 to POS13, and FAR_X4 high. -/
structure Straps where
  pos : Nat
  farX4 : Bool
  deriving DecidableEq, Repr

/-- What happens to a management request while it executes (R650, R656): the fuse words written when the attended state fell, and
whether the boot flash took the data. -/
structure MgtEnv where
  lostAfter : Option Nat
  flashOk : Bool
  deriving DecidableEq, Repr

/-- The bit errors a margining run counts on a pin (R346): in 65,536 bursts at each timing offset −32 to +31 at nominal voltage, and at
each voltage offset −32 to +31 at nominal timing. -/
structure MarginPin where
  timing : List Nat
  voltage : List Nat
  deriving DecidableEq, Repr

/-- The commands of the table, in its order. -/
inductive Instr where
  /-- LOAD_THALLUS (R39). -/
  | loadThallus (h : CmdHead) (src len : Nat)
  /-- THALLUS_VERIFY_DONE (R41). -/
  | thallusVerifyDone (image : Option (List Byte)) (genChanged : Bool)
  /-- SWITCH_EPOCH (R52). -/
  | switchEpoch (h : CmdHead) (epoch t pfx : Nat)
  /-- EPOCH_SWITCH (R56). -/
  | epochSwitch (t : Nat)
  /-- RUN_STEPS (R551). -/
  | runSteps (h : CmdHead) (first t0 ring slotBytes slots line inDev : Nat)
  /-- STOP_AT_STEP (R548). -/
  | stopAtStep (h : CmdHead) (step : Nat)
  /-- ABORT (R561). -/
  | abort (h : CmdHead) (target : Nat)
  /-- CHECKPOINT_SAVE (R555). -/
  | checkpointSave (h : CmdHead) (dest offset len : Nat)
  /-- CHECKPOINT_LOAD (R557). -/
  | checkpointLoad (h : CmdHead) (src len : Nat) (data : Option (List Byte))
  /-- CHECKPOINT_CLEAR (R557). -/
  | checkpointClear (h : CmdHead)
  /-- CHECKPOINT_RESTORE (R557). -/
  | checkpointRestore (h : CmdHead) (src len : Nat) (data : Option (List Byte))
  /-- TABLE_SWAP (R215). -/
  | tableSwap (h : CmdHead) (table desc step : Nat)
  /-- TABLE_VERSION_RETIRE (R217). -/
  | tableVersionRetire (table : Nat)
  /-- GRANT_PEAT (R274). -/
  | grantPeat (h : CmdHead) (slot addr len : Nat)
  /-- REVOKE_PEAT (R276). -/
  | revokePeat (h : CmdHead) (slot : Nat)
  /-- FENCE (R560). -/
  | fence (h : CmdHead)
  /-- COUNTER_SNAPSHOT (R633). -/
  | counterSnapshot (h : CmdHead) (dest : Nat)
  /-- FREEZE_AT (R634). -/
  | freezeAt (h : CmdHead) (t : Nat)
  /-- FREEZE (R635). -/
  | freeze (t : Nat)
  /-- SET_LOSS (R454). -/
  | setLoss (h : CmdHead) (l step : Nat)
  /-- SET_INTERVAL (R454). -/
  | setInterval (h : CmdHead) (interval step : Nat)
  /-- LOSE_HISTORY (R449). -/
  | loseHistory (h : CmdHead) (step : Nat)
  /-- SET_TENSOR (R454). -/
  | setTensor (h : CmdHead) (tensor e step : Nat)
  /-- WATCH_LINE_INVALIDATE (R541). -/
  | watchLineInvalidate (produced consumed : Nat) (ds : List Fetched)
  /-- CONTROL_LINE_POLL (R542). -/
  | controlLinePoll (produced consumed : Nat) (ds : List Fetched)
  /-- INPUT_LINE (R551). -/
  | inputLine (supplied : Nat)
  /-- INPUT_COPY_DONE (R551). -/
  | inputCopyDone (step : Nat) (bytes : List Byte)
  /-- RETIRE (R18). -/
  | retire (index : Nat)
  /-- COMMAND_TIMEOUT (R550). -/
  | commandTimeout (index t : Nat)
  /-- HOST_WRITE_CONFIRM (R563). -/
  | hostWriteConfirm
  /-- STEP_START (R23). -/
  | stepStart (t : Nat)
  /-- HOST_PORT_LINK_UP (R562). -/
  | hostPortLinkUp (width speed : Nat) (cache : Bool)
  /-- HOST_RETRAIN (R563). -/
  | hostRetrain
  /-- HST_ATTACH (R690). -/
  | hstAttach (nonce : Nat)
  /-- CMD_CFG (R540). -/
  | cmdCfg (req v : Nat)
  /-- WIN_BASE (R539). -/
  | winBase (req v : Nat)
  /-- WINDOW_READ (R538). -/
  | windowRead (req off : Nat) (span : WinSpan)
  /-- WINDOW_WRITE (R538). -/
  | windowWrite (req off : Nat) (bytes : List Byte)
  /-- REGISTER_WRITE (R10). -/
  | registerWrite (req off len v : Nat)
  /-- FAR_LINK_UP (R534). -/
  | farLinkUp (x frames : Nat) (type3 : Bool)
  /-- EXPANDER_LINK_DOWN (R304). -/
  | expanderLinkDown (x : Nat)
  /-- HOST_WAIT_EXPIRY (R303). -/
  | hostWaitExpiry (t : Nat)
  /-- SET_ENDPOINT_ID (R646). -/
  | setEndpointId (iface eid : Nat)
  /-- GET_ENDPOINT_ID (R646). -/
  | getEndpointId (iface : Nat)
  /-- GET_MCTP_VERSION_SUPPORT (R646). -/
  | getMctpVersionSupport (iface ty : Nat)
  /-- GET_MESSAGE_TYPE_SUPPORT (R646). -/
  | getMessageTypeSupport (iface : Nat)
  /-- GET_VENDOR_DEFINED_MESSAGE_SUPPORT (R646). -/
  | getVendorDefinedMessageSupport (iface selector : Nat)
  /-- GET_INFO (R649). -/
  | getInfo (iface tag : Nat)
  /-- GET_DIGESTS (R63). -/
  | getDigests (iface tag : Nat)
  /-- GET_TELEMETRY (R649). -/
  | getTelemetry (iface tag : Nat)
  /-- READ_COUNTERS (R649). -/
  | readCounters (iface tag : Nat) (body : List Byte)
  /-- GET_CERTS (R660). -/
  | getCerts (iface tag : Nat)
  /-- CHALLENGE (R661). -/
  | challenge (iface tag : Nat) (body : List Byte)
  /-- READ_FUSES (R658). -/
  | readFuses (iface tag : Nat)
  /-- WRITE_FUSES (R659). -/
  | writeFuses (iface tag : Nat) (body : List Byte) (env : MgtEnv)
  /-- DEBUG_UNLOCK (R649). -/
  | debugUnlock (iface tag : Nat)
  /-- FW_LOAD (R654). -/
  | fwLoad (iface tag : Nat) (body : List Byte) (env : MgtEnv)
  /-- SET_COUNTER_PRIV (R639). -/
  | setCounterPriv (iface tag : Nat) (body : List Byte)
  /-- RESET (R649). -/
  | reset (iface tag : Nat)
  /-- MARGIN (R346). -/
  | margin (iface tag : Nat) (body : List Byte)
  /-- MARGIN_RUN_DONE (R348). -/
  | marginRunDone (stack : Nat) (pins : List MarginPin)
  /-- RAW_WINDOW (R649). -/
  | rawWindow (iface tag : Nat) (body : List Byte)
  /-- FAIL_DEVICE (R498). -/
  | failDevice (iface tag : Nat)
  /-- GET_REPAIR_LOG (R649). -/
  | getRepairLog (iface tag : Nat) (body : List Byte)
  /-- MAILBOX_GO (R663). -/
  | mailboxGo (v : Nat) (env : MgtEnv)
  /-- WATCHDOG_EXPIRY (R662). -/
  | watchdogExpiry
  /-- ATTEND_N (R655). -/
  | attendN (low : Bool)
  /-- FW_BOOT_VERIFY_DONE (R652). -/
  | fwBootVerifyDone
  /-- START_OK (R589). -/
  | startOk
  /-- START_TIMEOUT (R589). -/
  | startTimeout (t : Nat)
  /-- PWR_OK_RISE (R672). -/
  | pwrOkRise
  /-- PWR_OK_FALL (R673). -/
  | pwrOkFall (ns : Nat)
  /-- SUPPLY_RESET (R594). -/
  | supplyReset (rail : Nat)
  /-- PLL_LOCK_LOSS (R575). -/
  | pllLockLoss (domain : Nat)
  /-- PERST_N (R576). -/
  | perstN (cycles : Nat)
  /-- HOT_RESET (R576). -/
  | hotReset
  /-- FLR (R576). -/
  | flr
  /-- SURPRISE_LINK_DOWN (R576). -/
  | surpriseLinkDown
  /-- FABRIC_RST_N (R576). -/
  | fabricRstN (cycles : Nat)
  /-- THERMAL_TRIP (R600). -/
  | thermalTrip
  /-- DEBUG_RESET (R576). -/
  | debugReset (block t : Nat)
  /-- RST_BLOCK (R585). -/
  | rstBlock (v t : Nat)
  /-- QUIESCED (R583). -/
  | quiesced (t : Nat)
  /-- QUIESCE_TIMEOUT (R584). -/
  | quiesceTimeout (t : Nat)
  /-- RESET_HOLD_EXPIRY (R579). -/
  | resetHoldExpiry (t : Nat)
  /-- DROOP_TRIP (R595). -/
  | droopTrip (quads mv : Nat)
  /-- DROOP_RECOVER (R596). -/
  | droopRecover (quads mv : Nat)
  /-- DROOP_PAUSE (R597). -/
  | droopPause (t : Nat)
  /-- PAUSE_END (R597). -/
  | pauseEnd (t : Nat)
  /-- POWER_SAMPLE (R598). -/
  | powerSample (watts t : Nat)
  /-- THROTTLE_STEP (R598). -/
  | throttleStep (t : Nat)
  /-- THERMAL_SENSE (R599). -/
  | thermalSense (junction : Nat) (drams : List Nat) (t : Nat)
  /-- VR_HOT_N (R678). -/
  | vrHotN
  /-- FROND_INIT_DONE (R142). -/
  | frondInitDone (frond : Nat)
  /-- STACK_INIT_DONE (R349). -/
  | stackInitDone (stack : Nat)
  /-- PRODUCT (R131). -/
  | product (frond : Nat)
  /-- INVOKE (R144). -/
  | invoke (frond : Nat)
  /-- MOVE (R360). -/
  | move (work : FrondWork)
  /-- PASS (R111). -/
  | pass (frond : Nat) (err : MemErr)
  /-- DRAIN_ROW (R128). -/
  | drainRow (frond slot : Nat) (err : MemErr)
  /-- CHAIN_TILE_ARRIVAL (R129). -/
  | chainTileArrival (src dst : Nat)
  /-- DRAIN_INVOCATION (R181). -/
  | drainInvocation (work : FrondWork)
  /-- ROW_INVOCATION (R167). -/
  | rowInvocation (work : FrondWork)
  /-- QUEUE_SLOT_ARRIVAL (R370). -/
  | queueSlotArrival (queue : Nat)
  /-- CREDIT_RETURN (R371). -/
  | creditReturn (queue : Nat)
  /-- PLAN_STALL (R382). -/
  | planStall (frond t : Nat)
  /-- ADD (R156). -/
  | add (frond : Nat) (i : EInstr)
  /-- SUB (R156). -/
  | sub (frond : Nat) (i : EInstr)
  /-- MUL (R156). -/
  | mul (frond : Nat) (i : EInstr)
  /-- FMA (R156). -/
  | fma (frond : Nat) (i : EInstr)
  /-- MIN (R156). -/
  | min (frond : Nat) (i : EInstr)
  /-- MAX (R156). -/
  | max (frond : Nat) (i : EInstr)
  /-- CLAMP (R156). -/
  | clamp (frond : Nat) (i : EInstr)
  /-- ABS (R156). -/
  | abs (frond : Nat) (i : EInstr)
  /-- NEG (R156). -/
  | neg (frond : Nat) (i : EInstr)
  /-- CMPEQ (R156). -/
  | cmpeq (frond : Nat) (i : EInstr)
  /-- CMPLT (R156). -/
  | cmplt (frond : Nat) (i : EInstr)
  /-- CMPLE (R156). -/
  | cmple (frond : Nat) (i : EInstr)
  /-- CMPUN (R156). -/
  | cmpun (frond : Nat) (i : EInstr)
  /-- ICMPLTU (R156). -/
  | icmpltu (frond : Nat) (i : EInstr)
  /-- SEL (R156). -/
  | sel (frond : Nat) (i : EInstr)
  /-- AND (R156). -/
  | and (frond : Nat) (i : EInstr)
  /-- OR (R156). -/
  | or (frond : Nat) (i : EInstr)
  /-- XOR (R156). -/
  | xor (frond : Nat) (i : EInstr)
  /-- ANDN (R156). -/
  | andn (frond : Nat) (i : EInstr)
  /-- SHR (R156). -/
  | shr (frond : Nat) (i : EInstr)
  /-- SHL (R156). -/
  | shl (frond : Nat) (i : EInstr)
  /-- IADD (R156). -/
  | iadd (frond : Nat) (i : EInstr)
  /-- EXP2 (R158). -/
  | exp2 (frond : Nat) (i : EInstr)
  /-- LOG2 (R158). -/
  | log2 (frond : Nat) (i : EInstr)
  /-- RCP (R158). -/
  | rcp (frond : Nat) (i : EInstr)
  /-- RSQ (R158). -/
  | rsq (frond : Nat) (i : EInstr)
  /-- CVT (R163). -/
  | cvt (frond : Nat) (i : EInstr)
  /-- WID (R163). -/
  | wid (frond : Nat) (i : EInstr)
  /-- I2F (R156). -/
  | i2f (frond : Nat) (i : EInstr)
  /-- F2I (R156). -/
  | f2i (frond : Nat) (i : EInstr)
  /-- RND (R165). -/
  | rnd (frond : Nat) (i : EInstr)
  /-- MOV (R156). -/
  | mov (frond : Nat) (i : EInstr)
  /-- LDI (R154). -/
  | ldi (frond d : Nat) (value : LdiValue)
  /-- LD (R161). -/
  | ld (frond : Nat) (i : EInstr)
  /-- ST (R162). -/
  | st (frond : Nat) (i : EInstr)
  /-- RMAX (R172). -/
  | rmax (frond : Nat) (i : EInstr)
  /-- RSUM (R173). -/
  | rsum (frond : Nat) (i : EInstr)
  /-- SOFTMAX (R174). -/
  | softmax (frond : Nat) (i : EInstr)
  /-- LNORM (R176). -/
  | lnorm (frond : Nat) (i : EInstr)
  /-- LOOKUP_BATCH_ADMIT (R205). -/
  | lookupBatchAdmit (table mb : Nat)
  /-- LOOKUP_REQ (R209). -/
  | lookupReq (req : ReqArrival)
  /-- CRITICAL_ROW_FETCH (R290). -/
  | criticalRowFetch (addr len : Nat)
  /-- LOOKUP_RSP (R212). -/
  | lookupRsp (m : LookupRsp)
  /-- LOOKUP_END (R238). -/
  | lookupEnd (source step count : Nat)
  /-- UPDATE_BATCH_START (R230). -/
  | updateBatchStart (frond mb : Nat)
  /-- UPDATE_REQ (R240). -/
  | updateReq (m : BagMsg)
  /-- OWNER_STEP_CLOSE (R243). -/
  | ownerStepClose (step : Nat)
  /-- DET_ORDER_MERGE (R242). -/
  | detOrderMerge (step : Nat)
  /-- ROW_APPLY (R245). -/
  | rowApply (own table version row : Nat) (rem : Bool)
  /-- PENDING_ENTRY_COMPLETE (R254). -/
  | pendingEntryComplete (own table row : Nat) (rem : Bool)
  /-- SPILL_RING_RETURN (R255). -/
  | spillRingReturn (stack : Nat)
  /-- REM_GRAD (R251). -/
  | remGrad (m : RemGrad)
  /-- REM_ROW (R252). -/
  | remRow (m : RemRow)
  /-- SOREDIUM (R258). -/
  | soredium (m : Soredium)
  /-- SOREDIUM_ACK (R259). -/
  | sorediumAck (source step seq : Nat)
  /-- ROW_COMMIT (R259). -/
  | rowCommit (own table row : Nat) (rem : Bool)
  /-- HEAT_EPOCH (R278). -/
  | heatEpoch (t : Nat)
  /-- SCAN_VISIT (R280). -/
  | scanVisit
  /-- PROMOTE (R281). -/
  | promote
  /-- DEMOTE (R283). -/
  | demote
  /-- REBALANCE (R285). -/
  | rebalance
  /-- DEMAND (R291). -/
  | demand
  /-- EVACUATE (R287). -/
  | evacuate
  /-- REBUILD (R306). -/
  | rebuild
  /-- REVOKE (R276). -/
  | revoke
  /-- MIGRATION_PASS_DONE (R295). -/
  | migrationPassDone (page t : Nat)
  /-- FINAL_PASS_FLIP (R296). -/
  | finalPassFlip (page t : Nat)
  /-- FINAL_PASS_ABANDON (R297). -/
  | finalPassAbandon (page t : Nat)
  /-- SOURCE_FRAME_FREE (R298). -/
  | sourceFrameFree (page : Nat)
  /-- PEAT_READ_ERROR (R304). -/
  | peatReadError (page : Nat)
  /-- RD64 (R318). -/
  | rd64 (stack tag off : Nat) (err : LineErr)
  /-- RD256 (R318). -/
  | rd256 (stack tag off : Nat) (errs : List LineErr)
  /-- WR64 (R325). -/
  | wr64 (stack tag off mask : Nat) (bytes : List Byte) (err : LineErr)
  /-- WR256 (R318). -/
  | wr256 (stack tag off : Nat) (bytes : List Byte)
  /-- MSG (R318). -/
  | msg (stack : Nat) (m : Message)
  /-- D2D_FLIT (R317, R319): the header of the 72 bytes as a number, and the payload and check bytes after it. -/
  | d2dFlit (stack : Nat) (up : Bool) (header : Nat) (rest : List Byte)
  /-- D2D_LINK_CONTROL (R319). -/
  | d2dLinkControl (stack : Nat) (up nak : Bool) (seq : Nat)
  /-- D2D_RETRAIN_DONE (R320). -/
  | d2dRetrainDone (stack : Nat) (result : TrainingEnd)
  /-- PATROL_SCRUB (R338). -/
  | patrolScrub (stack : Nat) (err : LineErr)
  /-- REFRESH (R331). -/
  | refresh (stack : Nat) (r : RefreshEnd)
  /-- ROW_REPAIR_DONE (R340). -/
  | rowRepairDone (stack channel frame : Nat)
  /-- DATA (R486). -/
  | data (x : Rx) (h : Hdr) (payload : List Byte)
  /-- HEARTBEAT (R60). -/
  | heartbeat (x : Rx) (b : Heartbeat)
  /-- LINK_CTL (R467). -/
  | linkCtl (x : Rx) (nak laneChange : Bool) (lanes acked expected : Nat) (credits : List Nat)
  /-- ERROR (R491). -/
  | error (x : Rx) (h : Hdr) (code vc msgSeq : Nat) (copy : Hdr)
  /-- E2E_ACK (R490). -/
  | e2eAck (x : Rx) (h : Hdr) (vc next : Nat)
  /-- DEVICE_FAILED (R503). -/
  | deviceFailed (x : Rx) (device reason time : Nat)
  /-- IDLE (R676). -/
  | idle (port t : Nat)
  /-- RESERVED_FRAME (R464). -/
  | reservedFrame (x : Rx)
  /-- HEARTBEAT_SEND (R471). -/
  | heartbeatSend (t : Nat)
  /-- LINK_CTL_SEND (R467). -/
  | linkCtlSend (port t : Nat)
  /-- HEARTBEAT_SILENCE (R470). -/
  | heartbeatSilence (port t : Nat)
  /-- MISMATCH_TIMEOUT (R503). -/
  | mismatchTimeout (port t : Nat)
  /-- LANE_FAULT (R462). -/
  | laneFault (port good t : Nat)
  /-- RETRAIN_DONE (R463). -/
  | retrainDone (port t : Nat)
  /-- PORT_TRAINED (R470). -/
  | portTrained (port good t : Nat)
  /-- PORT_TRAIN_RETRY (R469). -/
  | portTrainRetry (port t : Nat)
  /-- E2E_TIMEOUT (R485). -/
  | e2eTimeout (dst vc t : Nat)
  /-- LANDING_TIMEOUT (R487). -/
  | landingTimeout (src vc t : Nat)
  /-- MEM_WR (R489). -/
  | memWr (h : Hdr) (addr : Nat) (bytes : List Byte)
  /-- MEM_RD (R489). -/
  | memRd (h : Hdr) (addr len : Nat)
  /-- MEM_CPL (R46). -/
  | memCpl (h : Hdr) (addr status seq : Nat) (bytes : List Byte)
  /-- STORE_WR (R489). -/
  | storeWr (h : Hdr) (offset frond : Nat) (doneBit : Option Nat) (stride rowBytes : Nat) (bytes : List Byte)
  /-- SILENT (R501). -/
  | silent (n : Notice)
  /-- HEARD (R501). -/
  | heard (n : Notice)
  /-- LOST (R502). -/
  | lost (n : Notice)
  /-- RECOVERY_COMMIT (R516). -/
  | recoveryCommit (t : Nat)
  /-- PIECE_RD (R521). -/
  | pieceRd (subject origin : Nat) (k : SlotKey)
  /-- PIECE (R521). -/
  | piece (subject origin : Nat) (k : SlotKey) (bytes : List Byte)
  /-- FWD (R521). -/
  | fwd (subject origin : Nat) (r : SorediumRec)
  /-- STOP (R521). -/
  | stop (subject origin : Nat) (k : SlotKey)
  /-- STOPPED (R523). -/
  | stopped (subject origin : Nat) (k : SlotKey)
  /-- DONE (R525). -/
  | done (subject origin epoch : Nat)
  /-- PARITY_SCRUB (R526). -/
  | parityScrub (table : Nat) (slot : HeldSlot) (rem : Bool)
  /-- REDUCE (R394). -/
  | reduce (m : ReduceMsg) (t : Nat)
  /-- PART (R398). -/
  | part (m : PartMsg) (t : Nat)
  /-- PART_DEADLINE (R399). -/
  | partDeadline (t : Nat)
  /-- WINDOW_CLOSE (R402). -/
  | windowClose (t : Nat)
  /-- BARRIER_RECORD (R407). -/
  | barrierRecord (t : Nat)
  /-- BARRIER (R408). -/
  | barrier (m : BarrierMsg)
  /-- SCALE (R440). -/
  | scale (m : ScaleMsg)
  /-- BLOCK_APPLY (R415). -/
  | blockApply (block : Nat)
  /-- GRAD (R418). -/
  | grad (m : GradMsg)
  /-- DIGEST_COMPUTE_DONE (R420). -/
  | digestComputeDone (run : DigestRun)
  /-- DIGEST (R421). -/
  | digest (m : DigestMsg) (copy : List (Nat × List Byte))
  /-- BLOCK_REPLAY_DONE (R423). -/
  | blockReplayDone (block : Nat) (copy : Option (List Byte))
  /-- ALL_GATHER (R426). -/
  | allGather (block : Nat)
  /-- PARAM (R427). -/
  | param (m : ParamMsg)
  /-- EVG_CLAIM (R609). -/
  | evgClaim (t : Nat)
  /-- EVG_COMPLETE (R610). -/
  | evgComplete (t v : Nat)
  /-- EVG_PEND (R616). -/
  | evgPend (w v : Nat)
  /-- HOLD (R615). -/
  | hold (v : Nat)
  /-- HOLD_EXPIRY (R615). -/
  | holdExpiry (t : Nat)
  /-- MODERATION_EXPIRY (R613). -/
  | moderationExpiry (target t : Nat)
  /-- EVENT_IN (R614). -/
  | eventIn (i low : Nat)
  /-- THAW (R636). -/
  | thaw (v : Nat)
  /-- TRACE_EN (R642). -/
  | traceEn (v : Nat)
  /-- CNT_TRACE_MARK (R640). -/
  | cntTraceMark (v : Nat)
  /-- PLANE_INVALID_EXPIRY (R485). -/
  | planeInvalidExpiry (dst vc t : Nat)
  /-- E2E_ACK_SEND (R490). -/
  | e2eAckSend (src vc t : Nat)
  /-- REGISTER_READ (R638). -/
  | registerRead (req off len : Nat)
  /-- CONFIGURATION_REQUEST (R605). -/
  | configurationRequest (msixEn maskAll : Bool)
  /-- PLL_LOCK (R579). -/
  | pllLock (domain : Nat) (straps : Straps)
  /-- PERST_N_RELEASE (R562). -/
  | perstNRelease
  /-- VR_HOT_N_RELEASE (R678). -/
  | vrHotNRelease
  /-- EVENT_IN_RELEASE (R614). -/
  | eventInRelease (i high : Nat)
  /-- FAR_PERST_N_RELEASE (R679). -/
  | farPerstNRelease
  deriving DecidableEq, Repr

end Sys2Proof
end

