-- ==== Sys2Proof/Config.lean ====
section
/-! DEFINITION. What an implementation fixes and what the spec leaves open: opaque constants, no value of which can be proved. -/

namespace Sys2Proof

/-- A value the spec leaves open, one for each number of the state's counter of free values. -/
opaque Config.freeValue : Nat → BitVec 256

/-- Which of the two neighbouring FP32 values a function circuit of R158 gives for an inexact result: true for the one of
larger magnitude. Function 0 EXP2, 1 LOG2, 2 RCP, 3 RSQ; the operand. -/
opaque Config.circuitUp : Nat → W32 → Bool

/-- The signature of the device's attestation key over bytes (R661), r and s of 48 bytes each. -/
opaque Config.attestSign : List Byte → List Byte

/-- The certificate chain the device holds (R660). -/
opaque Config.certChain : List Byte

/-- Factory contents of the 128 fuse words (R658): serial, vendor key hash and what else the factory programs. -/
opaque Config.factoryFuse : Nat → BitVec 32

/-- The 40-bit serial of DEV_SERIAL, made at manufacture (R685, R686). -/
opaque Config.serial : BitVec 40

/-- Bytes the boot flash holds until FW_LOAD overwrites them (R651). -/
opaque Config.factoryFlash : Nat → Byte

/-- Body of a GET_INFO response (R649 names its items and no layout): part, stepping, device ID, firmware version, security version,
RST_STATUS. -/
opaque Config.infoBytes : Nat → Nat → Nat → Nat → Nat → Nat → List Byte

/-- An entry of the repair log as GET_REPAIR_LOG returns it (R345, R649 give no layout): stack, kind, channel, frame or pin. -/
opaque Config.repairEntry : Nat → Nat → Nat → Nat → List Byte

/-- Body of a PRESENCE_LOST response (R656 gives no layout): words or bytes written. -/
opaque Config.progressBytes : Nat → List Byte

/-- Counts of cycles and of traffic the model does not carry (R626, R627): number of the reading, record word or register. -/
opaque Config.openCount : Nat → Nat → BitVec 64

/-- Bodies of the MCTP control responses of R646 whose contents no rule gives: message, argument. -/
opaque Config.mctpBody : Nat → Nat → List Byte

end Sys2Proof
end

