-- ==== Sys2Proof/Machine/Bits.lean ====
section
/-! DEFINITION. Bit fields, byte order (R9: little-endian) and small list helpers. -/

namespace Sys2Proof.Machine

/-- Bits [lo + w - 1 : lo] of `v`. -/
def bitsOf (v lo w : Nat) : Nat := (v >>> lo) % 2 ^ w

/-- `v` with bits [lo + w - 1 : lo] replaced by `x`. -/
def setBits (v lo w x : Nat) : Nat :=
  v - (bitsOf v lo w <<< lo) + ((x % 2 ^ w) <<< lo)

/-- Bit `i` of `v`. -/
def bitOf (v i : Nat) : Bool := v.testBit i

/-- The `n` bytes of `v`, least significant first. -/
def leBytes : Nat → Nat → List Byte
  | 0, _ => []
  | n + 1, v => BitVec.ofNat 8 v :: leBytes n (v >>> 8)

/-- The number that bytes spell, least significant first. -/
def leVal : List Byte → Nat
  | [] => 0
  | b :: bs => b.toNat + 256 * leVal bs

/-- The `n` bytes of `v`, most significant first. -/
def beBytes (n v : Nat) : List Byte := (leBytes n v).reverse

/-- The number that bytes spell, most significant first. -/
def beVal (bs : List Byte) : Nat := leVal bs.reverse

/-- The `n`-byte little-endian field at offset `o`; bytes past the end read as 0. -/
def fieldAt (bs : List Byte) (o n : Nat) : Nat := leVal ((bs.drop o).take n)

/-- Truth as a number. -/
def b2n (b : Bool) : Nat := if b then 1 else 0

/-- The two's-complement value of the low `w` bits of `v`. -/
def toSigned (w v : Nat) : Int :=
  let u := v % 2 ^ w
  if u < 2 ^ (w - 1) then (u : Int) else (u : Int) - (2 ^ w : Nat)

/-- `x` modulo 2^w, for a possibly negative `x`. -/
def ofSigned (w : Nat) (x : Int) : Nat := (x % ((2 ^ w : Nat) : Int)).toNat

/-- The 64-bit saturating sum of a count (every counter of the device saturates at all ones). -/
def satAdd64 (a b : Nat) : Nat := min (a + b) (2 ^ 64 - 1)

/-- Indices of the set bits of a `w`-bit number, ascending. -/
def setBitsOf (w v : Nat) : List Nat := if v = 0 then [] else (List.range w).filter (fun i => v.testBit i)

/-- Whether [a, a+n) and [b, b+m) share an address. -/
def overlaps (a n b m : Nat) : Bool := decide (a < b + m) && decide (b < a + n) && decide (0 < n) && decide (0 < m)

/-- The least element of a list by a key, the earliest on ties. -/
def minBy {A : Type} (key : A → Nat) : List A → Option A
  | [] => none
  | x :: xs => match minBy key xs with
    | none => some x
    | some y => if key y < key x then some y else some x

/-- A list in ascending order of a key, equal ones in their order (insertion). -/
def sortBy {A : Type} (key : A → Nat) (xs : List A) : List A :=
  xs.foldr (fun x ys => ys.takeWhile (fun y => decide (key y < key x)) ++ x :: ys.dropWhile (fun y => decide (key y < key x))) []

/-- The greatest element of a list by a key, the earliest on ties. -/
def maxBy {A : Type} (key : A → Nat) : List A → Option A
  | [] => none
  | x :: xs => match maxBy key xs with
    | none => some x
    | some y => if key x < key y then some y else some x

/-- Insert into an ascending list without repeats. -/
def insertAsc (a : Nat) : List Nat → List Nat
  | [] => [a]
  | x :: xs => if a < x then a :: x :: xs else if a = x then x :: xs else x :: insertAsc a xs

/-- Apply a state update for every element of a list, in order. -/
def forEach {S A : Type} (f : S → A → S) (s : S) (xs : List A) : S := xs.foldl f s

/-- The first `k` pieces of `n` elements of a list. -/
def chunks {A : Type} (n : Nat) : Nat → List A → List (List A)
  | 0, _ => []
  | k + 1, xs => xs.take n :: chunks n k (xs.drop n)

/-- Cut a list into pieces of `n` elements, the last possibly shorter. -/
def chunksOf {A : Type} (n : Nat) (xs : List A) : List (List A) := chunks n ((xs.length + n - 1) / n) xs

end Sys2Proof.Machine
end

