-- ==== Sys2Proof/Machine/RegTable.lean ====
section
/-! DEFINITION. The register table of BAR0: the blocks of R536 and R686 and, for each, its registers with offset, width,
reset value and access masks, as the register tables of the chapters give them (R10, R12, R13). -/

namespace Sys2Proof.Machine

/-- A register or an array of registers of one block: offset in the block, width in bits, first index, number of
elements, stride, reset value, mask of RW bits, mask of RW1C bits, whether it is a 64-bit count register, and which
rule gives the index-dependent part of its reset value. -/
structure RegRow where
  off : Nat
  w : Nat
  lo : Nat
  cnt : Nat
  stride : Nat
  reset : Nat
  rw : Nat
  w1c : Nat
  isCount : Bool
  special : Nat := 0
  deriving DecidableEq, Repr

/-- A block of BAR0: base offset, size, number of instances, distance between them, registers. -/
structure RegBlock where
  base : Nat
  size : Nat
  n : Nat
  stride : Nat
  rows : List RegRow
  deriving DecidableEq, Repr

/-- Registers of block DEV. -/
def rowsDEV : List RegRow := [
  ⟨0x0, 32, 0, 1, 0, 0x19408, 0x0, 0x0, false, 0⟩,  -- DEV_ID
  ⟨0x8, 64, 0, 1, 0, 0x0, 0x0, 0x0, false, 0⟩,  -- DEV_SERIAL
  ⟨0x10, 32, 0, 1, 0, 0x0, 0x0, 0x0, false, 0⟩,  -- DEV_FABRIC_ID
  ⟨0x2000, 64, 0, 1, 0, 0x0, 0x0, 0x0, false, 0⟩,  -- DEV_REC_STATUS
  ⟨0x2008, 32, 0, 1, 0, 0xf070a, 0xfffff, 0x0, false, 0⟩,  -- DEV_REC_CTL
  ⟨0x2010, 32, 0, 1, 0, 0x0, 0x0, 0x1f, false, 0⟩,  -- DEV_REC_FLAGS
  ⟨0x2018, 64, 0, 1, 0, 0x0, 0x0, 0x0, false, 0⟩,  -- DEV_REC_EPOCH
  ⟨0x2020, 32, 0, 1, 0, 0x0, 0x0, 0x0, false, 0⟩,  -- DEV_RB_HEAD
  ⟨0x2028, 32, 0, 1, 0, 0x0, 0x3fff, 0x0, false, 0⟩,  -- DEV_RB_TAIL
  ⟨0x2040, 64, 0, 1, 0, 0x0, 0x0, 0x0, true, 0⟩,  -- DEV_REC_REBUILT_CNT
  ⟨0x2048, 64, 0, 1, 0, 0x0, 0x0, 0x0, true, 0⟩,  -- DEV_REC_DEGRADED_CNT
  ⟨0x2050, 64, 0, 1, 0, 0x0, 0x0, 0x0, true, 0⟩,  -- DEV_REC_PIECE_BYTES
  ⟨0x2058, 64, 0, 1, 0, 0x0, 0x0, 0x0, true, 0⟩,  -- DEV_REC_SCRUB_FIX_CNT
  ⟨0x2060, 64, 0, 1, 0, 0x0, 0x0, 0x0, true, 0⟩,  -- DEV_REC_LOSTROW_CNT
  ⟨0x2068, 64, 0, 1, 0, 0x0, 0x0, 0x0, true, 0⟩,  -- DEV_REC_DROP_SAMPLES
  ⟨0x2070, 64, 0, 1, 0, 0x0, 0x0, 0x0, true, 0⟩,  -- DEV_REC_LATE_CNT
  ⟨0x2400, 64, 0, 256, 8, 0x0, 0x0, 0x0, false, 0⟩]  -- DEV_REC_LOSTMAP

/-- Registers of block HST. -/
def rowsHST : List RegRow := [
  ⟨0x0, 64, 0, 1, 0, 0x0, 0x0, 0x0, false, 0⟩,  -- HST_STATUS
  ⟨0x8, 32, 0, 1, 0, 0x140d, 0xffff0f, 0x0, false, 0⟩,  -- HST_CTL
  ⟨0x10, 64, 0, 1, 0, 0x0, 0xffffffff, 0x0, false, 0⟩,  -- HST_ATTACH
  ⟨0x18, 64, 0, 1, 0, 0x109fbfff0000, 0x0, 0x0, false, 0⟩,  -- HST_SPAGE
  ⟨0x20, 32, 0, 1, 0, 0x0, 0x0, 0x0, false, 0⟩,  -- HST_VIOL_HEAD
  ⟨0x28, 64, 0, 1, 0, 0x0, 0x0, 0x0, true, 0⟩,  -- HST_VIOL_CNT
  ⟨0x30, 64, 0, 1, 0, 0x0, 0x0, 0x0, true, 0⟩,  -- HST_DRY_STEPS
  ⟨0x100, 64, 0, 16, 16, 0x0, 0x0, 0x0, false, 0⟩,  -- HST_VIOL_LOG_W0
  ⟨0x108, 64, 0, 16, 16, 0x0, 0x0, 0x0, false, 0⟩,  -- HST_VIOL_LOG_W1
  ⟨0x8000, 32, 0, 128, 4, 0x0, 0xffffffff, 0x0, false, 6⟩,  -- MSI-X table words
  ⟨0x9000, 32, 0, 2, 4, 0x0, 0x0, 0x0, false, 0⟩]  -- MSI-X pending bits

/-- Registers of block WIN. -/
def rowsWIN : List RegRow := [
  ⟨0x0, 64, 0, 1, 0, 0x0, 0xffffffff0000, 0x0, false, 0⟩,  -- WIN_BASE
  ⟨0x8, 32, 0, 1, 0, 0x0, 0x1, 0x0, false, 0⟩]  -- WIN_CTL

/-- Registers of block CMD. -/
def rowsCMD : List RegRow := [
  ⟨0x0, 64, 0, 1, 0, 0x0, 0xfffffffffffff000, 0x0, false, 0⟩,  -- CMD_RING
  ⟨0x8, 64, 0, 1, 0, 0x0, 0xfffffffffffff000, 0x0, false, 0⟩,  -- CMD_CPL
  ⟨0x10, 64, 0, 1, 0, 0x0, 0xffffffffffffffc0, 0x0, false, 0⟩,  -- CMD_LINE
  ⟨0x18, 32, 0, 1, 0, 0x606, 0x8000ffff, 0x0, false, 0⟩,  -- CMD_CFG
  ⟨0x20, 64, 0, 1, 0, 0x0, 0x0, 0x0, false, 0⟩]  -- CMD_STATUS

/-- Registers of block EVG. -/
def rowsEVG : List RegRow := [
  ⟨0x0, 32, 0, 1, 0, 0x2100, 0x0, 0x0, false, 0⟩,  -- EVG_ID
  ⟨0x8, 32, 0, 1, 0, 0x0, 0x1, 0x2, false, 0⟩,  -- EVG_CTL
  ⟨0x10, 64, 0, 1, 0, 0x0, 0x0, 0x0, false, 0⟩,  -- EVG_STATUS
  ⟨0x18, 32, 0, 1, 0, 0x0, 0x0, 0x0, false, 0⟩,  -- EVG_ERR
  ⟨0x40, 32, 0, 10, 4, 0x0, 0xffffffff, 0x0, false, 0⟩,  -- EVG_MASK
  ⟨0x80, 32, 0, 10, 4, 0x0, 0xffffffff, 0x0, false, 0⟩,  -- EVG_PEND
  ⟨0xc0, 32, 0, 10, 4, 0x0, 0x0, 0x0, false, 0⟩,  -- EVG_INSVC
  ⟨0x400, 64, 0, 320, 8, 0x3f000000000000, 0xf1ffffffff, 0x0, false, 4⟩,  -- EVG_SRC_CFG
  ⟨0x1000, 32, 0, 33, 32, 0x0, 0x8000000f, 0x0, false, 5⟩,  -- EVG_TGT_CTL
  ⟨0x1004, 32, 0, 33, 32, 0x0, 0xffff, 0x0, false, 0⟩,  -- EVG_TGT_MOD
  ⟨0x1008, 32, 0, 33, 32, 0x0, 0x0, 0x0, false, 0⟩,  -- EVG_TGT_LEVEL
  ⟨0x100c, 32, 0, 33, 32, 0x1ff, 0x0, 0x0, false, 0⟩,  -- EVG_CLAIM
  ⟨0x1010, 32, 0, 33, 32, 0x0, 0x0, 0x0, false, 0⟩,  -- EVG_COMPLETE
  ⟨0x2000, 32, 0, 8, 4, 0x19, 0xff, 0x0, false, 0⟩,  -- EVG_PIN_CFG
  ⟨0x2080, 64, 0, 1, 0, 0x0, 0x0, 0x0, true, 0⟩,  -- EVG_MSG_CNT
  ⟨0x2088, 64, 0, 1, 0, 0x0, 0x0, 0x0, true, 0⟩,  -- EVG_FILTERED_CNT
  ⟨0x2090, 64, 0, 1, 0, 0x0, 0x0, 0x0, true, 0⟩]  -- EVG_MOD_DELAY_CNT

/-- Registers of block CNT. -/
def rowsCNT : List RegRow := [
  ⟨0x0, 32, 0, 1, 0, 0xa8, 0x0, 0x0, false, 0⟩,  -- CNT_ID
  ⟨0x8, 64, 0, 1, 0, 0x0, 0x0, 0x0, false, 0⟩,  -- CNT_STATUS
  ⟨0x10, 32, 0, 1, 0, 0x45, 0x4f, 0x0, false, 0⟩,  -- CNT_CTL
  ⟨0x18, 32, 0, 1, 0, 0x0, 0x0, 0x3f, false, 0⟩,  -- CNT_FLAGS
  ⟨0x20, 64, 0, 1, 0, 0x0, 0x0, 0x0, false, 0⟩,  -- CNT_FT
  ⟨0x28, 64, 0, 1, 0, 0x0, 0x0, 0x0, false, 0⟩,  -- CNT_FREEZE_T
  ⟨0x30, 64, 0, 1, 0, 0x0, 0x0, 0x0, false, 0⟩,  -- CNT_TRACE_HEAD
  ⟨0x38, 64, 0, 1, 0, 0x0, 0xffffffffffffffff, 0x0, false, 0⟩,  -- CNT_TRACE_TAIL
  ⟨0x40, 64, 0, 1, 0, 0x0, 0x0, 0x0, false, 0⟩,  -- CNT_TRACE_MARK
  ⟨0x48, 64, 0, 1, 0, 0x0, 0x0, 0x0, true, 0⟩,  -- CNT_TRACE_DROP
  ⟨0x50, 64, 0, 1, 0, 0x0, 0x0, 0x0, true, 0⟩,  -- CNT_PRIV_CNT
  ⟨0x58, 64, 0, 1, 0, 0x0, 0x0, 0x0, true, 0⟩,  -- CNT_LATCH_CNT
  ⟨0x800, 64, 8, 248, 8, 0x0, 0x0, 0x0, false, 0⟩,  -- CNT_VIEW
  ⟨0x1000, 64, 0, 256, 8, 0x0, 0x0, 0x0, false, 0⟩]  -- CNT_FROZEN

/-- Registers of block RST. -/
def rowsRST : List RegRow := [
  ⟨0x0, 32, 0, 1, 0, 0x280c, 0x0, 0x0, false, 0⟩,  -- RST_ID
  ⟨0x8, 64, 0, 1, 0, 0x0, 0x0, 0x0, false, 0⟩,  -- RST_STATUS
  ⟨0x10, 32, 0, 1, 0, 0xb, 0xf, 0x0, false, 0⟩,  -- RST_CTL
  ⟨0x18, 32, 0, 1, 0, 0x0, 0x0, 0x1f, false, 0⟩,  -- RST_FLAGS
  ⟨0x20, 64, 0, 1, 0, 0x0, 0x0, 0xfff, false, 0⟩,  -- RST_CAUSE
  ⟨0x28, 64, 0, 1, 0, 0x0, 0x0, 0x0, false, 0⟩,  -- RST_MAP
  ⟨0x30, 32, 0, 1, 0, 0x0, 0xff, 0x0, false, 0⟩,  -- RST_BLOCK
  ⟨0x38, 64, 0, 1, 0, 0x64, 0xffff, 0x0, false, 0⟩,  -- RST_QUIESCE
  ⟨0x40, 64, 0, 1, 0, 0xffff0000, 0xffff0000, 0x0, false, 0⟩,  -- RST_SUPPLY
  ⟨0x48, 64, 0, 1, 0, 0x0, 0xffffffff00000000, 0x0, false, 0⟩,  -- RST_PWR
  ⟨0x50, 32, 0, 1, 0, 0x578, 0x7ff, 0x0, false, 0⟩,  -- RST_PWR_CAP
  ⟨0x58, 64, 0, 1, 0, 0x0, 0x0, 0x0, false, 0⟩,  -- RST_THERM
  ⟨0x60, 64, 0, 1, 0, 0x0, 0x0, 0x0, false, 0⟩,  -- RST_CLK_STATUS
  ⟨0x80, 64, 0, 1, 0, 0x0, 0x0, 0x0, true, 0⟩,  -- RST_DROOP_CNT
  ⟨0x88, 64, 0, 1, 0, 0x0, 0x0, 0x0, true, 0⟩,  -- RST_PAUSE_CNT
  ⟨0x90, 64, 0, 1, 0, 0x0, 0x0, 0x0, true, 0⟩,  -- RST_PAUSE_TIME
  ⟨0x98, 64, 0, 1, 0, 0x0, 0x0, 0x0, true, 0⟩,  -- RST_THROTTLE_TIME
  ⟨0xa0, 64, 0, 1, 0, 0x0, 0x0, 0x0, true, 0⟩,  -- RST_FILTERED_CNT
  ⟨0xa8, 64, 0, 1, 0, 0x0, 0x0, 0x0, true, 0⟩,  -- RST_QTIMEOUT_CNT
  ⟨0xb0, 64, 0, 1, 0, 0x0, 0x0, 0x0, true, 0⟩]  -- RST_IGNORED_CNT

/-- Registers of block THL. -/
def rowsTHL : List RegRow := [
  ⟨0x0, 32, 0, 1, 0, 0x2, 0x0, 0x0, false, 0⟩,  -- THL_ID
  ⟨0x8, 64, 0, 1, 0, 0x0, 0x0, 0x0, false, 0⟩,  -- THL_STATUS
  ⟨0x10, 32, 0, 1, 0, 0x0, 0x0, 0x0, false, 0⟩,  -- THL_EPOCH
  ⟨0x18, 64, 0, 1, 0, 0x0, 0x0, 0x0, false, 0⟩,  -- THL_PENDING
  ⟨0x20, 64, 0, 1, 0, 0x0, 0x0, 0x0, false, 0⟩,  -- THL_PENDING_TIME
  ⟨0x28, 64, 0, 1, 0, 0x109fc0000000, 0x0, 0x0, false, 0⟩,  -- THL_STORE_BASE
  ⟨0x40, 64, 0, 6, 8, 0x0, 0x0, 0x0, false, 0⟩,  -- THL_ACTIVE_DIGEST
  ⟨0x70, 64, 0, 6, 8, 0x0, 0x0, 0x0, false, 0⟩,  -- THL_STAGED_DIGEST
  ⟨0xa0, 64, 0, 1, 0, 0x0, 0x0, 0x0, false, 0⟩,  -- THL_ACTIVE_STRUCT
  ⟨0xa8, 64, 0, 1, 0, 0x0, 0x0, 0x0, false, 0⟩,  -- THL_STAGED_STRUCT
  ⟨0xb0, 64, 0, 1, 0, 0xffe000000, 0x0, 0x0, false, 0⟩,  -- THL_LAST_ERR
  ⟨0xc0, 64, 0, 1, 0, 0x0, 0x0, 0x1ffffff, false, 0⟩,  -- THL_MISMATCH_PORTS
  ⟨0xc8, 64, 0, 1, 0, 0x0, 0x0, 0x0, true, 0⟩,  -- THL_REFUSED_CNT
  ⟨0xd0, 32, 0, 1, 0, 0x2710, 0xfffff, 0x0, false, 0⟩,  -- THL_CTL
  ⟨0xd8, 32, 0, 1, 0, 0x0, 0x0, 0x0, false, 0⟩]  -- THL_SIGN_STAT

/-- Registers of block TIER. -/
def rowsTIER : List RegRow := [
  ⟨0x0, 32, 0, 1, 0, 0xc4, 0x0, 0x0, false, 0⟩,  -- TIER_ID
  ⟨0x8, 64, 0, 1, 0, 0x0, 0x0, 0x0, false, 0⟩,  -- TIER_STATUS
  ⟨0x10, 32, 0, 1, 0, 0x100a17, 0xffff1f, 0x0, false, 0⟩,  -- TIER_CTL
  ⟨0x18, 32, 0, 1, 0, 0x0, 0x0, 0x1f, false, 0⟩,  -- TIER_FLAGS
  ⟨0x20, 32, 0, 1, 0, 0x0, 0x0, 0x0, false, 0⟩,  -- TIER_ERR
  ⟨0x28, 64, 0, 1, 0, 0x0, 0x0, 0x0, false, 0⟩,  -- TIER_RANGE
  ⟨0x30, 64, 0, 1, 0, 0x0, 0x0, 0x0, false, 0⟩,  -- TIER_T1_FREE
  ⟨0x38, 64, 0, 1, 0, 0x0, 0x0, 0x0, false, 0⟩,  -- TIER_HEAT_EPOCH
  ⟨0x40, 64, 0, 1, 0, 0x0, 0x0, 0x0, true, 0⟩,  -- TIER_PROMOTE_CNT
  ⟨0x48, 64, 0, 1, 0, 0x0, 0x0, 0x0, true, 0⟩,  -- TIER_DEMAND_CNT
  ⟨0x50, 64, 0, 1, 0, 0x0, 0x0, 0x0, true, 0⟩,  -- TIER_DEMOTE_CNT
  ⟨0x58, 64, 0, 1, 0, 0x0, 0x0, 0x0, true, 0⟩,  -- TIER_REBAL_CNT
  ⟨0x60, 64, 0, 1, 0, 0x0, 0x0, 0x0, true, 0⟩,  -- TIER_EVAC_CNT
  ⟨0x68, 64, 0, 1, 0, 0x0, 0x0, 0x0, true, 0⟩,  -- TIER_ABANDON_CNT
  ⟨0x70, 64, 0, 1, 0, 0x0, 0x0, 0x0, true, 0⟩,  -- TIER_CRIT_CNT
  ⟨0x78, 64, 0, 1, 0, 0x0, 0x0, 0x0, true, 0⟩,  -- TIER_LOST_CNT
  ⟨0x80, 64, 0, 1, 0, 0x0, 0x0, 0x0, true, 0⟩,  -- TIER_REBUILT_CNT
  ⟨0x88, 64, 0, 1, 0, 0x0, 0x0, 0x0, true, 0⟩,  -- TIER_FULL_TIME
  ⟨0x90, 64, 0, 1, 0, 0x0, 0x0, 0x0, true, 0⟩,  -- TIER_HOLD_MAX
  ⟨0x100, 64, 0, 8, 8, 0x0, 0x0, 0x0, false, 0⟩,  -- TIER_STK_TOUCH
  ⟨0x200, 64, 0, 16, 16, 0x0, 0x0, 0x0, false, 0⟩,  -- TIER_SRC_ADDR
  ⟨0x208, 64, 0, 16, 16, 0x0, 0x0, 0x0, false, 0⟩]  -- TIER_SRC_INFO

/-- Registers of block SCL. -/
def rowsSCL : List RegRow := [
  ⟨0x0, 32, 0, 1, 0, 0x1000, 0x0, 0x0, false, 0⟩,  -- SCL_ID
  ⟨0x8, 64, 0, 1, 0, 0x0, 0x0, 0x0, false, 0⟩,  -- SCL_STATUS
  ⟨0x10, 32, 0, 1, 0, 0x5, 0xf, 0x0, false, 0⟩,  -- SCL_CTL
  ⟨0x18, 32, 0, 1, 0, 0x0, 0x0, 0xf, false, 0⟩,  -- SCL_FLAGS
  ⟨0x20, 64, 0, 1, 0, 0x3e80000000f, 0x0, 0x0, true, 0⟩,  -- SCL_LOSS
  ⟨0x28, 64, 0, 1, 0, 0xffffffffffff, 0x0, 0x0, false, 0⟩,  -- SCL_STEP
  ⟨0x30, 32, 0, 1, 0, 0x0, 0x0, 0x0, false, 0⟩,  -- SCL_ERR
  ⟨0x38, 32, 0, 1, 0, 0x0, 0xfff, 0x0, false, 0⟩,  -- SCL_TSEL
  ⟨0x40, 64, 0, 1, 0, 0x0, 0x0, 0x0, false, 0⟩,  -- SCL_TENSOR
  ⟨0x48, 64, 0, 1, 0, 0x0, 0x0, 0x0, false, 0⟩,  -- SCL_TAMAX
  ⟨0x80, 64, 0, 1, 0, 0x0, 0x0, 0x0, true, 0⟩,  -- SCL_OVF_CNT
  ⟨0x88, 64, 0, 1, 0, 0x0, 0x0, 0x0, true, 0⟩,  -- SCL_SAT_CNT
  ⟨0x90, 64, 0, 1, 0, 0x0, 0x0, 0x0, true, 0⟩,  -- SCL_LATE_CNT
  ⟨0x98, 64, 0, 1, 0, 0x0, 0x0, 0x0, true, 0⟩]  -- SCL_PREPASS_CNT

/-- Registers of block FRD. -/
def rowsFRD : List RegRow := [
  ⟨0x0, 32, 0, 1, 0, 0x0, 0x0, 0x0, false, 2⟩,  -- FRD_ID
  ⟨0x8, 64, 0, 1, 0, 0x0, 0x0, 0x0, false, 0⟩,  -- FRD_STATUS
  ⟨0x10, 32, 0, 1, 0, 0x3, 0x7, 0x0, false, 0⟩,  -- FRD_CTL
  ⟨0x18, 32, 0, 1, 0, 0x0, 0x0, 0xf, false, 0⟩,  -- FRD_SLOT_FLAGS
  ⟨0x20, 64, 0, 1, 0, 0x0, 0x0, 0x0, true, 0⟩,  -- FRD_PASS_CNT
  ⟨0x28, 64, 0, 1, 0, 0x0, 0x0, 0x0, true, 0⟩,  -- FRD_BUSY_CNT
  ⟨0x30, 64, 0, 1, 0, 0x0, 0x0, 0x0, true, 0⟩,  -- FRD_STALL_SLOT
  ⟨0x38, 64, 0, 1, 0, 0x0, 0x0, 0x0, true, 0⟩,  -- FRD_STALL_OPND
  ⟨0x40, 64, 0, 1, 0, 0x0, 0x0, 0x0, true, 0⟩,  -- FRD_STALL_CHAIN
  ⟨0x48, 64, 0, 1, 0, 0x0, 0x0, 0x0, true, 0⟩,  -- FRD_SAT_CNT
  ⟨0x50, 64, 0, 1, 0, 0x0, 0x0, 0x0, true, 0⟩,  -- FRD_ECC_STAT
  ⟨0x100, 64, 0, 1, 0, 0x0, 0x0, 0x0, false, 0⟩,  -- FRD_EE_STATUS
  ⟨0x108, 32, 0, 1, 0, 0x2, 0xf, 0x0, false, 0⟩,  -- FRD_EE_CTL
  ⟨0x110, 32, 0, 1, 0, 0x0, 0x0, 0x3f, false, 0⟩,  -- FRD_EE_FLAGS
  ⟨0x118, 64, 0, 1, 0, 0x0, 0x0, 0x0, true, 0⟩,  -- FRD_EE_BUSY_CNT
  ⟨0x120, 64, 0, 1, 0, 0x0, 0x0, 0x0, true, 0⟩,  -- FRD_EE_INVOKE_CNT
  ⟨0x128, 64, 0, 1, 0, 0x0, 0x0, 0x0, true, 0⟩,  -- FRD_EE_EMPTY_CNT
  ⟨0x130, 64, 0, 1, 0, 0x0, 0x0, 0x0, true, 0⟩,  -- FRD_EE_NANROW_CNT
  ⟨0x138, 64, 0, 1, 0, 0x0, 0x0, 0x0, true, 0⟩,  -- FRD_EE_CLAMP_CNT
  ⟨0x180, 64, 0, 1, 0, 0x0, 0x0, 0x0, false, 0⟩,  -- FRD_PLAN_STATUS
  ⟨0x188, 32, 0, 1, 0, 0x80002710, 0x80ffffff, 0x0, false, 0⟩,  -- FRD_PLAN_CTL
  ⟨0x190, 64, 0, 1, 0, 0x0, 0x0, 0x0, true, 0⟩,  -- FRD_BUBBLE_CNT
  ⟨0x198, 64, 0, 1, 0, 0x0, 0x0, 0x0, true, 0⟩]  -- FRD_CREDIT_STALL

/-- Registers of block SOR. -/
def rowsSOR : List RegRow := [
  ⟨0x0, 32, 0, 1, 0, 0x0, 0x0, 0x0, false, 1⟩,  -- SOR_ID
  ⟨0x8, 64, 0, 1, 0, 0x0, 0x0, 0x0, false, 0⟩,  -- SOR_STATUS
  ⟨0x10, 32, 0, 1, 0, 0xa, 0xf, 0x0, false, 0⟩,  -- SOR_CTL
  ⟨0x18, 32, 0, 1, 0, 0x0, 0x0, 0x1f, false, 0⟩,  -- SOR_LK_FLAGS
  ⟨0x20, 32, 0, 1, 0, 0x0, 0xfff, 0x0, false, 0⟩,  -- SOR_TBL_SEL
  ⟨0x28, 64, 0, 1, 0, 0x0, 0x0, 0x0, false, 0⟩,  -- SOR_TBL_CTL
  ⟨0x30, 64, 0, 1, 0, 0x0, 0x0, 0x0, false, 0⟩,  -- SOR_TBL_SWAP_STEP
  ⟨0x38, 64, 0, 1, 0, 0x0, 0x0, 0x0, true, 0⟩,  -- SOR_LK_ID_CNT
  ⟨0x40, 64, 0, 1, 0, 0x0, 0x0, 0x0, true, 0⟩,  -- SOR_LK_UNIQ_CNT
  ⟨0x48, 64, 0, 1, 0, 0x0, 0x0, 0x0, true, 0⟩,  -- SOR_LK_ROW_CNT
  ⟨0x50, 64, 0, 1, 0, 0x0, 0x0, 0x0, true, 0⟩,  -- SOR_LK_REF_CNT
  ⟨0x58, 64, 0, 1, 0, 0x0, 0x0, 0x0, true, 0⟩,  -- SOR_RC_HIT_CNT
  ⟨0x60, 64, 0, 1, 0, 0x0, 0x0, 0x0, true, 0⟩,  -- SOR_RC_MISS_CNT
  ⟨0x68, 64, 0, 1, 0, 0x0, 0x0, 0x0, true, 0⟩,  -- SOR_LK_BAG_CNT
  ⟨0x70, 64, 0, 1, 0, 0x0, 0x0, 0x0, true, 0⟩,  -- SOR_LK_BUSY_CNT
  ⟨0x78, 64, 0, 1, 0, 0x0, 0x0, 0x0, true, 0⟩,  -- SOR_VER_REFUSED_CNT
  ⟨0x100, 64, 0, 1, 0, 0x0, 0x0, 0x0, false, 0⟩,  -- SOR_UPD_STATUS
  ⟨0x108, 32, 0, 1, 0, 0x32, 0x3f, 0x0, false, 0⟩,  -- SOR_UPD_CTL
  ⟨0x110, 32, 0, 1, 0, 0x0, 0x0, 0x3f, false, 0⟩,  -- SOR_UPD_FLAGS
  ⟨0x118, 64, 0, 1, 0, 0xffffffffffff, 0x0, 0x0, false, 0⟩,  -- SOR_UPD_STEP
  ⟨0x120, 64, 0, 1, 0, 0x0, 0x0, 0x0, true, 0⟩,  -- SOR_UPD_MSG_CNT
  ⟨0x128, 64, 0, 1, 0, 0x0, 0x0, 0x0, true, 0⟩,  -- SOR_UPD_TERM_CNT
  ⟨0x130, 64, 0, 1, 0, 0x0, 0x0, 0x0, true, 0⟩,  -- SOR_UPD_COMMIT_CNT
  ⟨0x138, 64, 0, 1, 0, 0x0, 0x0, 0x0, true, 0⟩,  -- SOR_UPD_SKIP_CNT
  ⟨0x140, 64, 0, 1, 0, 0x0, 0x0, 0x0, true, 0⟩,  -- SOR_UPD_RSKIP_CNT
  ⟨0x148, 64, 0, 1, 0, 0x0, 0x0, 0x0, true, 0⟩,  -- SOR_UPD_LATE_CNT
  ⟨0x150, 64, 0, 1, 0, 0x0, 0x0, 0x0, true, 0⟩,  -- SOR_UPD_DUP_CNT
  ⟨0x158, 64, 0, 1, 0, 0x0, 0x0, 0x0, true, 0⟩,  -- SOR_UPD_NOSTAGE_CNT
  ⟨0x160, 64, 0, 1, 0, 0x0, 0x0, 0x0, true, 0⟩,  -- SOR_UPD_PEND_CNT
  ⟨0x168, 64, 0, 1, 0, 0x0, 0x0, 0x0, true, 0⟩,  -- SOR_UPD_SPILL_CNT
  ⟨0x170, 64, 0, 1, 0, 0x0, 0x0, 0x0, true, 0⟩,  -- SOR_UPD_BP_CNT
  ⟨0x178, 64, 0, 1, 0, 0x0, 0x0, 0x0, true, 0⟩,  -- SOR_UPD_DELTA_CNT
  ⟨0x180, 64, 0, 1, 0, 0x0, 0x0, 0x0, true, 0⟩,  -- SOR_UPD_BUSY_CNT
  ⟨0x10000, 64, 0, 4096, 8, 0x0, 0x0, 0x0, false, 0⟩]  -- SOR_TBL_DROP

/-- Registers of block STK. -/
def rowsSTK : List RegRow := [
  ⟨0x0, 32, 0, 1, 0, 0x10402000, 0x0, 0x0, false, 1⟩,  -- STK_ID
  ⟨0x8, 64, 0, 1, 0, 0x0, 0x0, 0x0, false, 0⟩,  -- STK_STATUS
  ⟨0x10, 32, 0, 1, 0, 0x181003dc, 0xffff07ff, 0x0, false, 0⟩,  -- STK_CTL
  ⟨0x18, 32, 0, 1, 0, 0x4400103, 0xffffffff, 0x0, false, 0⟩,  -- STK_SCHED
  ⟨0x20, 32, 0, 1, 0, 0x0, 0x0, 0x1ff, false, 0⟩,  -- STK_FLAGS
  ⟨0x28, 64, 0, 1, 0, 0x0, 0x0, 0x0, false, 0⟩,  -- STK_ERR_ADDR
  ⟨0x30, 32, 0, 1, 0, 0x0, 0x0, 0x0, false, 0⟩,  -- STK_TEMP
  ⟨0x38, 64, 0, 1, 0, 0x10, 0x0, 0x0, false, 0⟩,  -- STK_SPARE
  ⟨0x40, 64, 0, 1, 0, 0x0, 0x0, 0x0, true, 0⟩,  -- STK_RD_BYTES
  ⟨0x48, 64, 0, 1, 0, 0x0, 0x0, 0x0, true, 0⟩,  -- STK_WR_BYTES
  ⟨0x50, 64, 0, 1, 0, 0x0, 0x0, 0x0, true, 0⟩,  -- STK_NARROW_CNT
  ⟨0x58, 64, 0, 1, 0, 0x0, 0x0, 0x0, true, 0⟩,  -- STK_TURN_CNT
  ⟨0x60, 64, 0, 1, 0, 0x0, 0x0, 0x0, true, 0⟩,  -- STK_CONFLICT_CNT
  ⟨0x68, 64, 0, 1, 0, 0x0, 0x0, 0x0, true, 0⟩,  -- STK_CORR_CNT
  ⟨0x70, 64, 0, 1, 0, 0x0, 0x0, 0x0, true, 0⟩,  -- STK_UNCORR_CNT
  ⟨0x78, 64, 0, 1, 0, 0x0, 0x0, 0x0, true, 0⟩,  -- STK_D2D_RETRY_CNT
  ⟨0x80, 64, 0, 1, 0, 0x0, 0x0, 0x0, true, 0⟩,  -- STK_RETRAIN_CNT
  ⟨0x88, 64, 0, 1, 0, 0x0, 0x0, 0x0, true, 0⟩,  -- STK_REPAIR_CNT
  ⟨0x90, 64, 0, 1, 0, 0x0, 0x0, 0x0, true, 0⟩,  -- STK_RETIRE_CNT
  ⟨0x98, 64, 0, 1, 0, 0x0, 0x0, 0x0, true, 0⟩,  -- STK_SCRUB_PASS_CNT
  ⟨0xa0, 64, 0, 1, 0, 0x0, 0x0, 0x0, true, 0⟩,  -- STK_REFRESH_TIME
  ⟨0x100, 32, 0, 32, 4, 0x0, 0x0, 0x0, false, 0⟩,  -- STK_PIN_MARK
  ⟨0x200, 64, 0, 1, 0, 0x0, 0x0, 0x0, false, 0⟩,  -- STK_MRG_STATUS
  ⟨0x208, 64, 0, 72, 8, 0x0, 0x0, 0x0, false, 0⟩]  -- STK_MRG_RESULT

/-- Registers of block SHK. -/
def rowsSHK : List RegRow := [
  ⟨0x0, 32, 0, 1, 0, 0x0, 0x0, 0x0, false, 3⟩,  -- SHK_ID
  ⟨0x8, 64, 0, 1, 0, 0x0, 0x0, 0x0, false, 0⟩,  -- SHK_STATUS
  ⟨0x10, 32, 0, 1, 0, 0x401f, 0xffff1f, 0x0, false, 0⟩,  -- SHK_CTL
  ⟨0x18, 32, 0, 1, 0, 0x0, 0x0, 0x3f, false, 0⟩,  -- SHK_FLAGS
  ⟨0x20, 64, 0, 1, 0, 0x3f00, 0x0, 0x0, false, 0⟩,  -- SHK_FT_STATUS
  ⟨0x28, 64, 0, 1, 0, 0x0, 0x0, 0x0, false, 0⟩,  -- SHK_FT_OFFSET
  ⟨0x40, 64, 0, 1, 0, 0x0, 0x0, 0x0, true, 0⟩,  -- SHK_RESEND_CNT
  ⟨0x48, 64, 0, 1, 0, 0x0, 0x0, 0x0, true, 0⟩,  -- SHK_OUTSEQ_CNT
  ⟨0x50, 64, 0, 1, 0, 0x0, 0x0, 0x0, true, 0⟩,  -- SHK_NOROUTE_CNT
  ⟨0x58, 64, 0, 1, 0, 0x0, 0x0, 0x0, true, 0⟩,  -- SHK_ABANDON_CNT
  ⟨0x60, 64, 0, 1, 0, 0x0, 0x0, 0x0, true, 0⟩,  -- SHK_STALE_CNT
  ⟨0x68, 64, 0, 1, 0, 0x0, 0x0, 0x0, true, 0⟩,  -- SHK_BADFRAME_CNT
  ⟨0x100, 64, 0, 12, 64, 0x0, 0x0, 0x0, false, 0⟩,  -- SHK_PORT_STATUS
  ⟨0x108, 32, 0, 12, 64, 0x0, 0x0, 0x0, false, 0⟩,  -- SHK_PORT_LANES
  ⟨0x110, 64, 0, 12, 64, 0x0, 0x0, 0x0, true, 0⟩,  -- SHK_PORT_FEC_CORR
  ⟨0x118, 64, 0, 12, 64, 0x0, 0x0, 0x0, true, 0⟩,  -- SHK_PORT_FEC_UNCORR
  ⟨0x120, 64, 0, 12, 64, 0x0, 0x0, 0x0, true, 0⟩,  -- SHK_PORT_REPLAY_CNT
  ⟨0x128, 64, 0, 12, 64, 0x0, 0x0, 0x0, true, 0⟩,  -- SHK_PORT_TX_BYTES
  ⟨0x130, 64, 0, 12, 64, 0x0, 0x0, 0x0, true, 0⟩,  -- SHK_PORT_RX_BYTES
  ⟨0x138, 64, 0, 12, 64, 0x0, 0x0, 0x0, true, 0⟩]  -- SHK_PORT_HB_MISS

/-- Registers of block RAU. -/
def rowsRAU : List RegRow := [
  ⟨0x0, 32, 0, 1, 0, 0x0, 0x0, 0x0, false, 1⟩,  -- RAU_ID
  ⟨0x8, 64, 0, 1, 0, 0x0, 0x0, 0x0, false, 0⟩,  -- RAU_STATUS
  ⟨0x10, 32, 0, 1, 0, 0x3c, 0x3f, 0x0, false, 0⟩,  -- RAU_CTL
  ⟨0x18, 32, 0, 1, 0, 0x0, 0x0, 0x3f, false, 0⟩,  -- RAU_FLAGS
  ⟨0x20, 64, 0, 1, 0, 0xffffffffffff, 0x0, 0x0, false, 0⟩,  -- RAU_STEP
  ⟨0x28, 64, 0, 1, 0, 0x0, 0x0, 0x0, false, 0⟩,  -- RAU_WINDOW
  ⟨0x30, 64, 0, 1, 0, 0x3f80000000000000, 0x0, 0x0, false, 0⟩,  -- RAU_NORM
  ⟨0x38, 32, 0, 1, 0, 0x0, 0x0, 0x0, false, 0⟩,  -- RAU_ETA
  ⟨0x40, 64, 0, 1, 0, 0x0, 0x0, 0x0, false, 0⟩,  -- RAU_LAST_DIV
  ⟨0x80, 64, 0, 1, 0, 0x0, 0x0, 0x0, true, 0⟩,  -- RAU_CONTRIB_CNT
  ⟨0x88, 64, 0, 1, 0, 0x0, 0x0, 0x0, true, 0⟩,  -- RAU_LATE_CNT
  ⟨0x90, 64, 0, 1, 0, 0x0, 0x0, 0x0, true, 0⟩,  -- RAU_CARRY_CNT
  ⟨0x98, 64, 0, 1, 0, 0x0, 0x0, 0x0, true, 0⟩,  -- RAU_DROP_CNT
  ⟨0xa0, 64, 0, 1, 0, 0x0, 0x0, 0x0, true, 0⟩,  -- RAU_DUP_CNT
  ⟨0xa8, 64, 0, 1, 0, 0x0, 0x0, 0x0, true, 0⟩,  -- RAU_MAJORITY_CNT
  ⟨0xb0, 64, 0, 1, 0, 0x0, 0x0, 0x0, true, 0⟩,  -- RAU_REPLAY_CNT
  ⟨0xb8, 64, 0, 1, 0, 0x0, 0x0, 0x0, true, 0⟩,  -- RAU_ROLLBACK_CNT
  ⟨0xc0, 64, 0, 1, 0, 0x0, 0x0, 0x0, true, 0⟩,  -- RAU_NONFIN_CNT
  ⟨0xc8, 64, 0, 1, 0, 0x0, 0x0, 0x0, true, 0⟩,  -- RAU_UNMAPPED_CNT
  ⟨0xd0, 64, 0, 1, 0, 0x0, 0x0, 0x0, true, 0⟩,  -- RAU_BYTES_IN
  ⟨0xd8, 64, 0, 1, 0, 0x0, 0x0, 0x0, true, 0⟩,  -- RAU_BYTES_OUT
  ⟨0xe0, 64, 0, 1, 0, 0x0, 0x0, 0x0, true, 0⟩]  -- RAU_BUSY_CNT

/-- Registers of block MGT. -/
def rowsMGT : List RegRow := [
  ⟨0x0, 64, 0, 1, 0, 0x0, 0x0, 0x4, false, 0⟩,  -- MGT_STATUS
  ⟨0x8, 32, 0, 1, 0, 0x1, 0x1, 0x0, false, 0⟩,  -- MGT_CTL
  ⟨0x10, 64, 0, 1, 0, 0x0, 0x0, 0x0, false, 0⟩,  -- MGT_FW
  ⟨0x1000, 64, 0, 512, 8, 0x0, 0xffffffffffffffff, 0x0, false, 0⟩,  -- MGT_REQ
  ⟨0x2000, 64, 0, 512, 8, 0x0, 0x0, 0x0, false, 0⟩]  -- MGT_RSP

/-- The blocks of BAR0 (R536). -/
def regBlocks : List RegBlock := [
  ⟨0x0, 0x10000, 1, 0x0, rowsDEV⟩,
  ⟨0x10000, 0x10000, 1, 0x0, rowsHST⟩,
  ⟨0x20000, 0x10000, 1, 0x0, rowsWIN⟩,
  ⟨0x30000, 0x10000, 1, 0x0, rowsCMD⟩,
  ⟨0x40000, 0x10000, 1, 0x0, rowsEVG⟩,
  ⟨0x50000, 0x40000, 1, 0x0, rowsCNT⟩,
  ⟨0x90000, 0x10000, 1, 0x0, rowsRST⟩,
  ⟨0xa0000, 0x10000, 1, 0x0, rowsTHL⟩,
  ⟨0xb0000, 0x10000, 1, 0x0, rowsTIER⟩,
  ⟨0xc0000, 0x10000, 1, 0x0, rowsSCL⟩,
  ⟨0x100000, 0x10000, 32, 0x10000, rowsFRD⟩,
  ⟨0x400000, 0x20000, 8, 0x40000, rowsSOR⟩,
  ⟨0x420000, 0x20000, 8, 0x40000, rowsSTK⟩,
  ⟨0x800000, 0x100000, 2, 0x100000, rowsSHK⟩,
  ⟨0xa00000, 0x40000, 2, 0x40000, rowsRAU⟩,
  ⟨0xc00000, 0x10000, 1, 0x0, rowsMGT⟩]

end Sys2Proof.Machine
end

