-- ==== Sys2Proof/Machine/Regs.lean ====
section
/-! DEFINITION. BAR0 offsets of the registers (R536 and each chapter's register table) and the fields the meanings use. -/

namespace Sys2Proof.Machine

/-- A register field: its lowest bit and its width. -/
structure Field where
  lo : Nat
  w : Nat
  deriving DecidableEq, Repr

namespace R

-- 02_thallus_images.md
def THL_ID : Nat := 0xa0000
def THL_STATUS : Nat := 0xa0008
def THL_EPOCH : Nat := 0xa0010
def THL_PENDING : Nat := 0xa0018
def THL_PENDING_TIME : Nat := 0xa0020
def THL_STORE_BASE : Nat := 0xa0028
def THL_ACTIVE_DIGEST (i : Nat) : Nat := 0xa0040 + i * 8
def THL_STAGED_DIGEST (i : Nat) : Nat := 0xa0070 + i * 8
def THL_ACTIVE_STRUCT : Nat := 0xa00a0
def THL_STAGED_STRUCT : Nat := 0xa00a8
def THL_LAST_ERR : Nat := 0xa00b0
def THL_MISMATCH_PORTS : Nat := 0xa00c0
def THL_REFUSED_CNT : Nat := 0xa00c8
def THL_CTL : Nat := 0xa00d0
def THL_SIGN_STAT : Nat := 0xa00d8
-- 04_frond_matrix_array.md
def FRD_ID (n : Nat) : Nat := 0x100000 + n * 0x10000
def FRD_STATUS (n : Nat) : Nat := 0x100008 + n * 0x10000
def FRD_CTL (n : Nat) : Nat := 0x100010 + n * 0x10000
def FRD_SLOT_FLAGS (n : Nat) : Nat := 0x100018 + n * 0x10000
def FRD_PASS_CNT (n : Nat) : Nat := 0x100020 + n * 0x10000
def FRD_BUSY_CNT (n : Nat) : Nat := 0x100028 + n * 0x10000
def FRD_STALL_SLOT (n : Nat) : Nat := 0x100030 + n * 0x10000
def FRD_STALL_OPND (n : Nat) : Nat := 0x100038 + n * 0x10000
def FRD_STALL_CHAIN (n : Nat) : Nat := 0x100040 + n * 0x10000
def FRD_SAT_CNT (n : Nat) : Nat := 0x100048 + n * 0x10000
def FRD_ECC_STAT (n : Nat) : Nat := 0x100050 + n * 0x10000
-- 05_element_programs.md
def FRD_EE_STATUS (n : Nat) : Nat := 0x100100 + n * 0x10000
def FRD_EE_CTL (n : Nat) : Nat := 0x100108 + n * 0x10000
def FRD_EE_FLAGS (n : Nat) : Nat := 0x100110 + n * 0x10000
def FRD_EE_BUSY_CNT (n : Nat) : Nat := 0x100118 + n * 0x10000
def FRD_EE_INVOKE_CNT (n : Nat) : Nat := 0x100120 + n * 0x10000
def FRD_EE_EMPTY_CNT (n : Nat) : Nat := 0x100128 + n * 0x10000
def FRD_EE_NANROW_CNT (n : Nat) : Nat := 0x100130 + n * 0x10000
def FRD_EE_CLAMP_CNT (n : Nat) : Nat := 0x100138 + n * 0x10000
-- 06_embedding_lookup.md
def SOR_ID (n : Nat) : Nat := 0x400000 + n * 0x40000
def SOR_STATUS (n : Nat) : Nat := 0x400008 + n * 0x40000
def SOR_CTL (n : Nat) : Nat := 0x400010 + n * 0x40000
def SOR_LK_FLAGS (n : Nat) : Nat := 0x400018 + n * 0x40000
def SOR_TBL_SEL (n : Nat) : Nat := 0x400020 + n * 0x40000
def SOR_TBL_CTL (n : Nat) : Nat := 0x400028 + n * 0x40000
def SOR_TBL_SWAP_STEP (n : Nat) : Nat := 0x400030 + n * 0x40000
def SOR_LK_ID_CNT (n : Nat) : Nat := 0x400038 + n * 0x40000
def SOR_LK_UNIQ_CNT (n : Nat) : Nat := 0x400040 + n * 0x40000
def SOR_LK_ROW_CNT (n : Nat) : Nat := 0x400048 + n * 0x40000
def SOR_LK_REF_CNT (n : Nat) : Nat := 0x400050 + n * 0x40000
def SOR_RC_HIT_CNT (n : Nat) : Nat := 0x400058 + n * 0x40000
def SOR_RC_MISS_CNT (n : Nat) : Nat := 0x400060 + n * 0x40000
def SOR_LK_BAG_CNT (n : Nat) : Nat := 0x400068 + n * 0x40000
def SOR_LK_BUSY_CNT (n : Nat) : Nat := 0x400070 + n * 0x40000
def SOR_VER_REFUSED_CNT (n : Nat) : Nat := 0x400078 + n * 0x40000
def SOR_TBL_DROP (n i : Nat) : Nat := 0x410000 + n * 0x40000 + i * 8
-- 07_sparse_row_updates.md
def SOR_UPD_STATUS (n : Nat) : Nat := 0x400100 + n * 0x40000
def SOR_UPD_CTL (n : Nat) : Nat := 0x400108 + n * 0x40000
def SOR_UPD_FLAGS (n : Nat) : Nat := 0x400110 + n * 0x40000
def SOR_UPD_STEP (n : Nat) : Nat := 0x400118 + n * 0x40000
def SOR_UPD_MSG_CNT (n : Nat) : Nat := 0x400120 + n * 0x40000
def SOR_UPD_TERM_CNT (n : Nat) : Nat := 0x400128 + n * 0x40000
def SOR_UPD_COMMIT_CNT (n : Nat) : Nat := 0x400130 + n * 0x40000
def SOR_UPD_SKIP_CNT (n : Nat) : Nat := 0x400138 + n * 0x40000
def SOR_UPD_RSKIP_CNT (n : Nat) : Nat := 0x400140 + n * 0x40000
def SOR_UPD_LATE_CNT (n : Nat) : Nat := 0x400148 + n * 0x40000
def SOR_UPD_DUP_CNT (n : Nat) : Nat := 0x400150 + n * 0x40000
def SOR_UPD_NOSTAGE_CNT (n : Nat) : Nat := 0x400158 + n * 0x40000
def SOR_UPD_PEND_CNT (n : Nat) : Nat := 0x400160 + n * 0x40000
def SOR_UPD_SPILL_CNT (n : Nat) : Nat := 0x400168 + n * 0x40000
def SOR_UPD_BP_CNT (n : Nat) : Nat := 0x400170 + n * 0x40000
def SOR_UPD_DELTA_CNT (n : Nat) : Nat := 0x400178 + n * 0x40000
def SOR_UPD_BUSY_CNT (n : Nat) : Nat := 0x400180 + n * 0x40000
-- 08_tiered_memory.md
def TIER_ID : Nat := 0xb0000
def TIER_STATUS : Nat := 0xb0008
def TIER_CTL : Nat := 0xb0010
def TIER_FLAGS : Nat := 0xb0018
def TIER_ERR : Nat := 0xb0020
def TIER_RANGE : Nat := 0xb0028
def TIER_T1_FREE : Nat := 0xb0030
def TIER_HEAT_EPOCH : Nat := 0xb0038
def TIER_STK_TOUCH (i : Nat) : Nat := 0xb0100 + i * 8
def TIER_SRC_ADDR (i : Nat) : Nat := 0xb0200 + i * 16
def TIER_SRC_INFO (i : Nat) : Nat := 0xb0208 + i * 16
def TIER_PROMOTE_CNT : Nat := 0xb0040
def TIER_DEMAND_CNT : Nat := 0xb0048
def TIER_DEMOTE_CNT : Nat := 0xb0050
def TIER_REBAL_CNT : Nat := 0xb0058
def TIER_EVAC_CNT : Nat := 0xb0060
def TIER_ABANDON_CNT : Nat := 0xb0068
def TIER_CRIT_CNT : Nat := 0xb0070
def TIER_LOST_CNT : Nat := 0xb0078
def TIER_REBUILT_CNT : Nat := 0xb0080
def TIER_FULL_TIME : Nat := 0xb0088
def TIER_HOLD_MAX : Nat := 0xb0090
-- 09_stack_memory.md
def STK_ID (n : Nat) : Nat := 0x420000 + n * 0x40000
def STK_STATUS (n : Nat) : Nat := 0x420008 + n * 0x40000
def STK_CTL (n : Nat) : Nat := 0x420010 + n * 0x40000
def STK_SCHED (n : Nat) : Nat := 0x420018 + n * 0x40000
def STK_FLAGS (n : Nat) : Nat := 0x420020 + n * 0x40000
def STK_ERR_ADDR (n : Nat) : Nat := 0x420028 + n * 0x40000
def STK_TEMP (n : Nat) : Nat := 0x420030 + n * 0x40000
def STK_SPARE (n : Nat) : Nat := 0x420038 + n * 0x40000
def STK_PIN_MARK (n i : Nat) : Nat := 0x420100 + n * 0x40000 + i * 4
def STK_MRG_STATUS (n : Nat) : Nat := 0x420200 + n * 0x40000
def STK_MRG_RESULT (n i : Nat) : Nat := 0x420208 + n * 0x40000 + i * 8
def STK_RD_BYTES (n : Nat) : Nat := 0x420040 + n * 0x40000
def STK_WR_BYTES (n : Nat) : Nat := 0x420048 + n * 0x40000
def STK_NARROW_CNT (n : Nat) : Nat := 0x420050 + n * 0x40000
def STK_TURN_CNT (n : Nat) : Nat := 0x420058 + n * 0x40000
def STK_CONFLICT_CNT (n : Nat) : Nat := 0x420060 + n * 0x40000
def STK_CORR_CNT (n : Nat) : Nat := 0x420068 + n * 0x40000
def STK_UNCORR_CNT (n : Nat) : Nat := 0x420070 + n * 0x40000
def STK_D2D_RETRY_CNT (n : Nat) : Nat := 0x420078 + n * 0x40000
def STK_RETRAIN_CNT (n : Nat) : Nat := 0x420080 + n * 0x40000
def STK_REPAIR_CNT (n : Nat) : Nat := 0x420088 + n * 0x40000
def STK_RETIRE_CNT (n : Nat) : Nat := 0x420090 + n * 0x40000
def STK_SCRUB_PASS_CNT (n : Nat) : Nat := 0x420098 + n * 0x40000
def STK_REFRESH_TIME (n : Nat) : Nat := 0x4200a0 + n * 0x40000
-- 10_backward_and_pipelines.md
def FRD_PLAN_STATUS (n : Nat) : Nat := 0x100180 + n * 0x10000
def FRD_PLAN_CTL (n : Nat) : Nat := 0x100188 + n * 0x10000
def FRD_BUBBLE_CNT (n : Nat) : Nat := 0x100190 + n * 0x10000
def FRD_CREDIT_STALL (n : Nat) : Nat := 0x100198 + n * 0x10000
-- 11_reduce_and_apply.md
def RAU_ID (n : Nat) : Nat := 0xa00000 + n * 0x40000
def RAU_STATUS (n : Nat) : Nat := 0xa00008 + n * 0x40000
def RAU_CTL (n : Nat) : Nat := 0xa00010 + n * 0x40000
def RAU_FLAGS (n : Nat) : Nat := 0xa00018 + n * 0x40000
def RAU_STEP (n : Nat) : Nat := 0xa00020 + n * 0x40000
def RAU_WINDOW (n : Nat) : Nat := 0xa00028 + n * 0x40000
def RAU_NORM (n : Nat) : Nat := 0xa00030 + n * 0x40000
def RAU_ETA (n : Nat) : Nat := 0xa00038 + n * 0x40000
def RAU_LAST_DIV (n : Nat) : Nat := 0xa00040 + n * 0x40000
def RAU_CONTRIB_CNT (n : Nat) : Nat := 0xa00080 + n * 0x40000
def RAU_LATE_CNT (n : Nat) : Nat := 0xa00088 + n * 0x40000
def RAU_CARRY_CNT (n : Nat) : Nat := 0xa00090 + n * 0x40000
def RAU_DROP_CNT (n : Nat) : Nat := 0xa00098 + n * 0x40000
def RAU_DUP_CNT (n : Nat) : Nat := 0xa000a0 + n * 0x40000
def RAU_MAJORITY_CNT (n : Nat) : Nat := 0xa000a8 + n * 0x40000
def RAU_REPLAY_CNT (n : Nat) : Nat := 0xa000b0 + n * 0x40000
def RAU_ROLLBACK_CNT (n : Nat) : Nat := 0xa000b8 + n * 0x40000
def RAU_NONFIN_CNT (n : Nat) : Nat := 0xa000c0 + n * 0x40000
def RAU_UNMAPPED_CNT (n : Nat) : Nat := 0xa000c8 + n * 0x40000
def RAU_BYTES_IN (n : Nat) : Nat := 0xa000d0 + n * 0x40000
def RAU_BYTES_OUT (n : Nat) : Nat := 0xa000d8 + n * 0x40000
def RAU_BUSY_CNT (n : Nat) : Nat := 0xa000e0 + n * 0x40000
-- 12_loss_and_format_scales.md
def SCL_ID : Nat := 0xc0000
def SCL_STATUS : Nat := 0xc0008
def SCL_CTL : Nat := 0xc0010
def SCL_FLAGS : Nat := 0xc0018
def SCL_LOSS : Nat := 0xc0020
def SCL_STEP : Nat := 0xc0028
def SCL_ERR : Nat := 0xc0030
def SCL_TSEL : Nat := 0xc0038
def SCL_TENSOR : Nat := 0xc0040
def SCL_TAMAX : Nat := 0xc0048
def SCL_OVF_CNT : Nat := 0xc0080
def SCL_SAT_CNT : Nat := 0xc0088
def SCL_LATE_CNT : Nat := 0xc0090
def SCL_PREPASS_CNT : Nat := 0xc0098
-- 13_shurak_links.md
def SHK_ID (n : Nat) : Nat := 0x800000 + n * 0x100000
def SHK_STATUS (n : Nat) : Nat := 0x800008 + n * 0x100000
def SHK_CTL (n : Nat) : Nat := 0x800010 + n * 0x100000
def SHK_FLAGS (n : Nat) : Nat := 0x800018 + n * 0x100000
def SHK_FT_STATUS (n : Nat) : Nat := 0x800020 + n * 0x100000
def SHK_FT_OFFSET (n : Nat) : Nat := 0x800028 + n * 0x100000
def SHK_PORT_STATUS (n i : Nat) : Nat := 0x800100 + n * 0x100000 + i * 64
def SHK_PORT_LANES (n i : Nat) : Nat := 0x800108 + n * 0x100000 + i * 64
def SHK_RESEND_CNT (n : Nat) : Nat := 0x800040 + n * 0x100000
def SHK_OUTSEQ_CNT (n : Nat) : Nat := 0x800048 + n * 0x100000
def SHK_NOROUTE_CNT (n : Nat) : Nat := 0x800050 + n * 0x100000
def SHK_ABANDON_CNT (n : Nat) : Nat := 0x800058 + n * 0x100000
def SHK_STALE_CNT (n : Nat) : Nat := 0x800060 + n * 0x100000
def SHK_BADFRAME_CNT (n : Nat) : Nat := 0x800068 + n * 0x100000
def SHK_PORT_FEC_CORR (n i : Nat) : Nat := 0x800110 + n * 0x100000 + i * 64
def SHK_PORT_FEC_UNCORR (n i : Nat) : Nat := 0x800118 + n * 0x100000 + i * 64
def SHK_PORT_REPLAY_CNT (n i : Nat) : Nat := 0x800120 + n * 0x100000 + i * 64
def SHK_PORT_TX_BYTES (n i : Nat) : Nat := 0x800128 + n * 0x100000 + i * 64
def SHK_PORT_RX_BYTES (n i : Nat) : Nat := 0x800130 + n * 0x100000 + i * 64
def SHK_PORT_HB_MISS (n i : Nat) : Nat := 0x800138 + n * 0x100000 + i * 64
-- 14_absorbing_failure.md
def DEV_REC_STATUS : Nat := 0x2000
def DEV_REC_CTL : Nat := 0x2008
def DEV_REC_FLAGS : Nat := 0x2010
def DEV_REC_EPOCH : Nat := 0x2018
def DEV_RB_HEAD : Nat := 0x2020
def DEV_RB_TAIL : Nat := 0x2028
def DEV_REC_LOSTMAP (i : Nat) : Nat := 0x2400 + i * 8
-- 15_host_port_and_commands.md
def DEV_ID : Nat := 0x0
def DEV_SERIAL : Nat := 0x8
def DEV_FABRIC_ID : Nat := 0x10
def HST_STATUS : Nat := 0x10000
def HST_CTL : Nat := 0x10008
def HST_ATTACH : Nat := 0x10010
def HST_SPAGE : Nat := 0x10018
def HST_VIOL_HEAD : Nat := 0x10020
def HST_VIOL_CNT : Nat := 0x10028
def HST_DRY_STEPS : Nat := 0x10030
def WIN_BASE : Nat := 0x20000
def WIN_CTL : Nat := 0x20008
def CMD_RING : Nat := 0x30000
def CMD_CPL : Nat := 0x30008
def CMD_LINE : Nat := 0x30010
def CMD_CFG : Nat := 0x30018
def CMD_STATUS : Nat := 0x30020
-- 16_reset_clocks_supplies.md
def RST_ID : Nat := 0x90000
def RST_STATUS : Nat := 0x90008
def RST_CTL : Nat := 0x90010
def RST_FLAGS : Nat := 0x90018
def RST_CAUSE : Nat := 0x90020
def RST_MAP : Nat := 0x90028
def RST_BLOCK : Nat := 0x90030
def RST_QUIESCE : Nat := 0x90038
def RST_SUPPLY : Nat := 0x90040
def RST_PWR : Nat := 0x90048
def RST_PWR_CAP : Nat := 0x90050
def RST_THERM : Nat := 0x90058
def RST_CLK_STATUS : Nat := 0x90060
def RST_DROOP_CNT : Nat := 0x90080
def RST_PAUSE_CNT : Nat := 0x90088
def RST_PAUSE_TIME : Nat := 0x90090
def RST_THROTTLE_TIME : Nat := 0x90098
def RST_FILTERED_CNT : Nat := 0x900a0
def RST_QTIMEOUT_CNT : Nat := 0x900a8
def RST_IGNORED_CNT : Nat := 0x900b0
-- 17_event_gatherer.md
def EVG_ID : Nat := 0x40000
def EVG_CTL : Nat := 0x40008
def EVG_STATUS : Nat := 0x40010
def EVG_ERR : Nat := 0x40018
def EVG_MASK (i : Nat) : Nat := 0x40040 + i * 4
def EVG_PEND (i : Nat) : Nat := 0x40080 + i * 4
def EVG_INSVC (i : Nat) : Nat := 0x400c0 + i * 4
def EVG_SRC_CFG (i : Nat) : Nat := 0x40400 + i * 8
def EVG_TGT_CTL (i : Nat) : Nat := 0x41000 + i * 32
def EVG_TGT_MOD (i : Nat) : Nat := 0x41004 + i * 32
def EVG_TGT_LEVEL (i : Nat) : Nat := 0x41008 + i * 32
def EVG_CLAIM (i : Nat) : Nat := 0x4100c + i * 32
def EVG_COMPLETE (i : Nat) : Nat := 0x41010 + i * 32
def EVG_PIN_CFG (i : Nat) : Nat := 0x42000 + i * 4
def EVG_MSG_CNT : Nat := 0x42080
def EVG_FILTERED_CNT : Nat := 0x42088
def EVG_MOD_DELAY_CNT : Nat := 0x42090
-- 18_counters_and_fabric_time.md
def CNT_ID : Nat := 0x50000
def CNT_STATUS : Nat := 0x50008
def CNT_CTL : Nat := 0x50010
def CNT_FLAGS : Nat := 0x50018
def CNT_FT : Nat := 0x50020
def CNT_FREEZE_T : Nat := 0x50028
def CNT_TRACE_HEAD : Nat := 0x50030
def CNT_TRACE_TAIL : Nat := 0x50038
def CNT_TRACE_MARK : Nat := 0x50040
def CNT_TRACE_DROP : Nat := 0x50048
def CNT_PRIV_CNT : Nat := 0x50050
def CNT_LATCH_CNT : Nat := 0x50058
def CNT_VIEW (i : Nat) : Nat := 0x50800 + i * 8
def CNT_FROZEN (i : Nat) : Nat := 0x51000 + i * 8
-- 19_management_and_trust.md
def MGT_STATUS : Nat := 0xc00000
def MGT_CTL : Nat := 0xc00008
def MGT_FW : Nat := 0xc00010
def MGT_REQ (i : Nat) : Nat := 0xc01000 + i * 8
def MGT_RSP (i : Nat) : Nat := 0xc02000 + i * 8
-- 15_host_port_and_commands.md
def HST_VIOL_LOG_W0 (i : Nat) : Nat := 0x10100 + i * 16
def HST_VIOL_LOG_W1 (i : Nat) : Nat := 0x10108 + i * 16
-- 14_absorbing_failure.md
def DEV_REC_REBUILT_CNT : Nat := 0x2040
def DEV_REC_DEGRADED_CNT : Nat := 0x2048
def DEV_REC_PIECE_BYTES : Nat := 0x2050
def DEV_REC_SCRUB_FIX_CNT : Nat := 0x2058
def DEV_REC_LOSTROW_CNT : Nat := 0x2060
def DEV_REC_DROP_SAMPLES : Nat := 0x2068
def DEV_REC_LATE_CNT : Nat := 0x2070
-- MSI-X table and pending-bit array (R536), as 32-bit words
def MSIX_TABLE (i : Nat) : Nat := 0x18000 + i * 4
def MSIX_PBA (i : Nat) : Nat := 0x19000 + i * 4

end R

namespace F

def THL_STATUS_image_tag : Field := ⟨32, 32⟩
def THL_STATUS_staged_gen : Field := ⟨16, 16⟩
def THL_STATUS_active_gen : Field := ⟨8, 8⟩
def THL_STATUS_struct_change : Field := ⟨4, 1⟩
def THL_STATUS_switch_pending : Field := ⟨3, 1⟩
def THL_STATUS_loading : Field := ⟨2, 1⟩
def THL_STATUS_staged_valid : Field := ⟨1, 1⟩
def THL_STATUS_active_valid : Field := ⟨0, 1⟩
def THL_EPOCH_epoch : Field := ⟨0, 32⟩
def THL_PENDING_epoch : Field := ⟨0, 32⟩
def THL_LAST_ERR_offset : Field := ⟨36, 28⟩
def THL_LAST_ERR_section : Field := ⟨25, 11⟩
def THL_LAST_ERR_reason : Field := ⟨0, 8⟩
def THL_CTL_min_lead : Field := ⟨0, 20⟩
def THL_SIGN_STAT_active_signed : Field := ⟨11, 1⟩
def THL_SIGN_STAT_active_slot : Field := ⟨9, 2⟩
def THL_SIGN_STAT_revoked : Field := ⟨5, 4⟩
def THL_SIGN_STAT_programmed : Field := ⟨1, 4⟩
def THL_SIGN_STAT_sign_required : Field := ⟨0, 1⟩
def FRD_ID_quadrant : Field := ⟨8, 8⟩
def FRD_ID_index : Field := ⟨0, 5⟩
def FRD_STATUS_cur_product : Field := ⟨48, 16⟩
def FRD_STATUS_stall : Field := ⟨10, 3⟩
def FRD_STATUS_quiesced : Field := ⟨9, 1⟩
def FRD_STATUS_init_done : Field := ⟨8, 1⟩
def FRD_STATUS_array_busy : Field := ⟨7, 1⟩
def FRD_STATUS_crozier_busy : Field := ⟨6, 1⟩
def FRD_STATUS_slot1_state : Field := ⟨3, 3⟩
def FRD_STATUS_slot0_state : Field := ⟨0, 3⟩
def FRD_CTL_corr_event_en : Field := ⟨2, 1⟩
def FRD_CTL_infnan_event_en : Field := ⟨1, 1⟩
def FRD_CTL_sat_event_en : Field := ⟨0, 1⟩
def FRD_SLOT_FLAGS_s1_infnan : Field := ⟨3, 1⟩
def FRD_SLOT_FLAGS_s1_sat : Field := ⟨2, 1⟩
def FRD_SLOT_FLAGS_s0_infnan : Field := ⟨1, 1⟩
def FRD_SLOT_FLAGS_s0_sat : Field := ⟨0, 1⟩
def FRD_ECC_STAT_unit : Field := ⟨56, 2⟩
def FRD_ECC_STAT_addr : Field := ⟨32, 24⟩
def FRD_ECC_STAT_count : Field := ⟨0, 32⟩
def FRD_EE_STATUS_cur_invoke : Field := ⟨48, 16⟩
def FRD_EE_STATUS_pc : Field := ⟨40, 8⟩
def FRD_EE_STATUS_program : Field := ⟨16, 9⟩
def FRD_EE_STATUS_bank : Field := ⟨3, 1⟩
def FRD_EE_STATUS_quiesced : Field := ⟨2, 1⟩
def FRD_EE_STATUS_row_mode : Field := ⟨1, 1⟩
def FRD_EE_STATUS_busy : Field := ⟨0, 1⟩
def FRD_EE_CTL_row_event_en : Field := ⟨3, 1⟩
def FRD_EE_CTL_nan_in_event_en : Field := ⟨2, 1⟩
def FRD_EE_CTL_inv_event_en : Field := ⟨1, 1⟩
def FRD_EE_CTL_ovf_event_en : Field := ⟨0, 1⟩
def FRD_EE_FLAGS_len_clamp : Field := ⟨5, 1⟩
def FRD_EE_FLAGS_row_nan : Field := ⟨4, 1⟩
def FRD_EE_FLAGS_row_empty : Field := ⟨3, 1⟩
def FRD_EE_FLAGS_nan_in : Field := ⟨2, 1⟩
def FRD_EE_FLAGS_inv : Field := ⟨1, 1⟩
def FRD_EE_FLAGS_ovf : Field := ⟨0, 1⟩
def SOR_STATUS_req_batches : Field := ⟨32, 16⟩
def SOR_STATUS_own_msgs : Field := ⟨16, 16⟩
def SOR_STATUS_quiesced : Field := ⟨1, 1⟩
def SOR_STATUS_busy : Field := ⟨0, 1⟩
def SOR_CTL_dedup_en : Field := ⟨3, 1⟩
def SOR_CTL_nan_event_en : Field := ⟨2, 1⟩
def SOR_CTL_ver_event_en : Field := ⟨1, 1⟩
def SOR_CTL_drop_event_en : Field := ⟨0, 1⟩
def SOR_LK_FLAGS_clamp : Field := ⟨4, 1⟩
def SOR_LK_FLAGS_ver_refused : Field := ⟨3, 1⟩
def SOR_LK_FLAGS_nan_in : Field := ⟨2, 1⟩
def SOR_LK_FLAGS_ovf : Field := ⟨1, 1⟩
def SOR_LK_FLAGS_drop : Field := ⟨0, 1⟩
def SOR_TBL_SEL_table : Field := ⟨0, 12⟩
def SOR_TBL_CTL_inflight_old : Field := ⟨48, 16⟩
def SOR_TBL_CTL_pending_version : Field := ⟨40, 8⟩
def SOR_TBL_CTL_old_version : Field := ⟨32, 8⟩
def SOR_TBL_CTL_version : Field := ⟨24, 8⟩
def SOR_TBL_CTL_swap_err : Field := ⟨16, 8⟩
def SOR_TBL_CTL_swap_pending : Field := ⟨2, 1⟩
def SOR_TBL_CTL_live : Field := ⟨0, 2⟩
def SOR_TBL_DROP_invalid : Field := ⟨32, 32⟩
def SOR_TBL_DROP_missing : Field := ⟨0, 32⟩
def SOR_UPD_STATUS_pend : Field := ⟨48, 16⟩
def SOR_UPD_STATUS_spill : Field := ⟨32, 16⟩
def SOR_UPD_STATUS_stage : Field := ⟨16, 16⟩
def SOR_UPD_STATUS_holding : Field := ⟨4, 1⟩
def SOR_UPD_STATUS_bp : Field := ⟨3, 1⟩
def SOR_UPD_STATUS_det_order : Field := ⟨2, 1⟩
def SOR_UPD_STATUS_quiesced : Field := ⟨1, 1⟩
def SOR_UPD_STATUS_busy : Field := ⟨0, 1⟩
def SOR_UPD_CTL_bp_event_en : Field := ⟨5, 1⟩
def SOR_UPD_CTL_nostage_event_en : Field := ⟨4, 1⟩
def SOR_UPD_CTL_dup_event_en : Field := ⟨3, 1⟩
def SOR_UPD_CTL_late_event_en : Field := ⟨2, 1⟩
def SOR_UPD_CTL_rskip_event_en : Field := ⟨1, 1⟩
def SOR_UPD_CTL_skip_event_en : Field := ⟨0, 1⟩
def SOR_UPD_FLAGS_bp : Field := ⟨5, 1⟩
def SOR_UPD_FLAGS_nostage : Field := ⟨4, 1⟩
def SOR_UPD_FLAGS_dup : Field := ⟨3, 1⟩
def SOR_UPD_FLAGS_late : Field := ⟨2, 1⟩
def SOR_UPD_FLAGS_rskip : Field := ⟨1, 1⟩
def SOR_UPD_FLAGS_skip : Field := ⟨0, 1⟩
def SOR_UPD_STEP_step : Field := ⟨0, 48⟩
def TIER_STATUS_active : Field := ⟨48, 16⟩
def TIER_STATUS_queued : Field := ⟨32, 16⟩
def TIER_STATUS_full : Field := ⟨7, 1⟩
def TIER_STATUS_low : Field := ⟨6, 1⟩
def TIER_STATUS_host_down : Field := ⟨5, 1⟩
def TIER_STATUS_rebuilding : Field := ⟨4, 1⟩
def TIER_STATUS_holding : Field := ⟨3, 1⟩
def TIER_STATUS_quiesced : Field := ⟨2, 1⟩
def TIER_STATUS_policy_valid : Field := ⟨1, 1⟩
def TIER_STATUS_busy : Field := ⟨0, 1⟩
def TIER_CTL_max_active : Field := ⟨16, 8⟩
def TIER_CTL_host_wait : Field := ⟨8, 8⟩
def TIER_CTL_mig_en : Field := ⟨4, 1⟩
def TIER_CTL_abandon_event_en : Field := ⟨3, 1⟩
def TIER_CTL_low_event_en : Field := ⟨2, 1⟩
def TIER_CTL_lost_event_en : Field := ⟨1, 1⟩
def TIER_CTL_full_event_en : Field := ⟨0, 1⟩
def TIER_FLAGS_t2_err : Field := ⟨4, 1⟩
def TIER_FLAGS_abandon : Field := ⟨3, 1⟩
def TIER_FLAGS_lost : Field := ⟨2, 1⟩
def TIER_FLAGS_full : Field := ⟨1, 1⟩
def TIER_FLAGS_low : Field := ⟨0, 1⟩
def TIER_ERR_slot : Field := ⟨8, 4⟩
def TIER_ERR_reason : Field := ⟨0, 8⟩
def TIER_T1_FREE_pool : Field := ⟨32, 32⟩
def TIER_T1_FREE_free : Field := ⟨0, 32⟩
def TIER_SRC_INFO_state : Field := ⟨62, 2⟩
def TIER_SRC_INFO_used : Field := ⟨32, 28⟩
def TIER_SRC_INFO_frames : Field := ⟨0, 28⟩
def STK_STATUS_marked : Field := ⟨40, 8⟩
def STK_STATUS_degraded : Field := ⟨32, 8⟩
def STK_STATUS_mrg_active : Field := ⟨7, 1⟩
def STK_STATUS_self_refresh : Field := ⟨6, 1⟩
def STK_STATUS_retraining : Field := ⟨5, 1⟩
def STK_STATUS_link_up : Field := ⟨4, 1⟩
def STK_STATUS_quiesced : Field := ⟨3, 1⟩
def STK_STATUS_init_done : Field := ⟨2, 1⟩
def STK_STATUS_hot : Field := ⟨1, 1⟩
def STK_STATUS_busy : Field := ⟨0, 1⟩
def STK_CTL_scrub_hours : Field := ⟨24, 8⟩
def STK_CTL_pin_thr : Field := ⟨16, 8⟩
def STK_CTL_ref_allbank : Field := ⟨10, 1⟩
def STK_CTL_rc_en : Field := ⟨9, 1⟩
def STK_CTL_spares_event_en : Field := ⟨8, 1⟩
def STK_CTL_degraded_event_en : Field := ⟨7, 1⟩
def STK_CTL_retire_event_en : Field := ⟨6, 1⟩
def STK_CTL_repair_event_en : Field := ⟨5, 1⟩
def STK_CTL_mark_event_en : Field := ⟨4, 1⟩
def STK_CTL_uncorr_event_en : Field := ⟨3, 1⟩
def STK_CTL_retrain_event_en : Field := ⟨2, 1⟩
def STK_CTL_retry_event_en : Field := ⟨1, 1⟩
def STK_CTL_corr_event_en : Field := ⟨0, 1⟩
def STK_FLAGS_spares_low : Field := ⟨8, 1⟩
def STK_FLAGS_degraded : Field := ⟨7, 1⟩
def STK_FLAGS_retire : Field := ⟨6, 1⟩
def STK_FLAGS_repair : Field := ⟨5, 1⟩
def STK_FLAGS_mark : Field := ⟨4, 1⟩
def STK_FLAGS_uncorr : Field := ⟨3, 1⟩
def STK_FLAGS_retrain : Field := ⟨2, 1⟩
def STK_FLAGS_retry : Field := ⟨1, 1⟩
def STK_FLAGS_corr : Field := ⟨0, 1⟩
def STK_ERR_ADDR_symbol : Field := ⟨48, 8⟩
def STK_ERR_ADDR_uncorr : Field := ⟨47, 1⟩
def STK_ERR_ADDR_offset : Field := ⟨0, 37⟩
def STK_TEMP_max_temp : Field := ⟨8, 8⟩
def STK_TEMP_temp : Field := ⟨0, 8⟩
def STK_SPARE_used : Field := ⟨16, 16⟩
def STK_SPARE_min_free : Field := ⟨0, 5⟩
def STK_PIN_MARK_valid : Field := ⟨8, 1⟩
def STK_PIN_MARK_degraded : Field := ⟨7, 1⟩
def STK_PIN_MARK_pin : Field := ⟨0, 7⟩
def STK_MRG_STATUS_error : Field := ⟨16, 8⟩
def STK_MRG_STATUS_channel : Field := ⟨8, 8⟩
def STK_MRG_STATUS_dir : Field := ⟨2, 1⟩
def STK_MRG_STATUS_done : Field := ⟨1, 1⟩
def STK_MRG_STATUS_running : Field := ⟨0, 1⟩
def FRD_PLAN_STATUS_head : Field := ⟨48, 16⟩
def FRD_PLAN_STATUS_head_w : Field := ⟨32, 16⟩
def FRD_PLAN_STATUS_deferred : Field := ⟨20, 12⟩
def FRD_PLAN_STATUS_stalled : Field := ⟨3, 1⟩
def FRD_PLAN_STATUS_forced : Field := ⟨2, 1⟩
def FRD_PLAN_STATUS_complete : Field := ⟨1, 1⟩
def FRD_PLAN_STATUS_running : Field := ⟨0, 1⟩
def FRD_PLAN_CTL_stall_event_en : Field := ⟨31, 1⟩
def FRD_PLAN_CTL_stall_limit : Field := ⟨0, 24⟩
def RAU_ID_split_inv : Field := ⟨8, 1⟩
def RAU_STATUS_primaries : Field := ⟨43, 21⟩
def RAU_STATUS_replicas : Field := ⟨22, 21⟩
def RAU_STATUS_replaying : Field := ⟨7, 1⟩
def RAU_STATUS_barrier_wait : Field := ⟨6, 1⟩
def RAU_STATUS_reducing : Field := ⟨5, 1⟩
def RAU_STATUS_quiesced : Field := ⟨2, 1⟩
def RAU_STATUS_plan_valid : Field := ⟨1, 1⟩
def RAU_STATUS_busy : Field := ⟨0, 1⟩
def RAU_CTL_nonfin_event_en : Field := ⟨5, 1⟩
def RAU_CTL_rollback_event_en : Field := ⟨4, 1⟩
def RAU_CTL_replay_event_en : Field := ⟨3, 1⟩
def RAU_CTL_majority_event_en : Field := ⟨2, 1⟩
def RAU_CTL_dup_event_en : Field := ⟨1, 1⟩
def RAU_CTL_late_event_en : Field := ⟨0, 1⟩
def RAU_FLAGS_nonfin : Field := ⟨5, 1⟩
def RAU_FLAGS_rollback : Field := ⟨4, 1⟩
def RAU_FLAGS_replay : Field := ⟨3, 1⟩
def RAU_FLAGS_majority : Field := ⟨2, 1⟩
def RAU_FLAGS_dup : Field := ⟨1, 1⟩
def RAU_FLAGS_late : Field := ⟨0, 1⟩
def RAU_STEP_step : Field := ⟨0, 48⟩
def SCL_STATUS_jit_left : Field := ⟨12, 4⟩
def SCL_STATUS_reducing : Field := ⟨5, 1⟩
def SCL_STATUS_pending : Field := ⟨4, 1⟩
def SCL_STATUS_waiting : Field := ⟨3, 1⟩
def SCL_STATUS_quiesced : Field := ⟨2, 1⟩
def SCL_STATUS_plan_valid : Field := ⟨1, 1⟩
def SCL_STATUS_busy : Field := ⟨0, 1⟩
def SCL_CTL_late_event_en : Field := ⟨3, 1⟩
def SCL_CTL_jit_event_en : Field := ⟨2, 1⟩
def SCL_CTL_sat_event_en : Field := ⟨1, 1⟩
def SCL_CTL_skip_event_en : Field := ⟨0, 1⟩
def SCL_FLAGS_late : Field := ⟨3, 1⟩
def SCL_FLAGS_jit : Field := ⟨2, 1⟩
def SCL_FLAGS_sat : Field := ⟨1, 1⟩
def SCL_FLAGS_skip : Field := ⟨0, 1⟩
def SCL_LOSS_interval : Field := ⟨32, 16⟩
def SCL_LOSS_count : Field := ⟨16, 16⟩
def SCL_LOSS_fast : Field := ⟨8, 1⟩
def SCL_LOSS_L : Field := ⟨0, 5⟩
def SCL_STEP_step : Field := ⟨0, 48⟩
def SCL_ERR_reason : Field := ⟨0, 8⟩
def SCL_TSEL_tensor : Field := ⟨0, 12⟩
def SCL_TENSOR_jit_ok : Field := ⟨31, 1⟩
def SCL_TENSOR_kind : Field := ⟨30, 1⟩
def SCL_TENSOR_sat_last : Field := ⟨29, 1⟩
def SCL_TENSOR_hist : Field := ⟨24, 5⟩
def SCL_TENSOR_headroom : Field := ⟨16, 3⟩
def SCL_TENSOR_fmt : Field := ⟨8, 8⟩
def SCL_TENSOR_e : Field := ⟨0, 8⟩
def SCL_TAMAX_hist_max : Field := ⟨32, 32⟩
def SCL_TAMAX_last : Field := ⟨0, 32⟩
def SHK_ID_device : Field := ⟨0, 14⟩
def SHK_STATUS_flows : Field := ⟨48, 16⟩
def SHK_STATUS_up_ports : Field := ⟨36, 12⟩
def SHK_STATUS_landing : Field := ⟨4, 4⟩
def SHK_STATUS_table_valid : Field := ⟨3, 1⟩
def SHK_STATUS_quiesced : Field := ⟨2, 1⟩
def SHK_STATUS_mode : Field := ⟨1, 1⟩
def SHK_STATUS_busy : Field := ⟨0, 1⟩
def SHK_CTL_e2e_timeout : Field := ⟨8, 16⟩
def SHK_CTL_unsync_event_en : Field := ⟨4, 1⟩
def SHK_CTL_route_event_en : Field := ⟨3, 1⟩
def SHK_CTL_wiring_event_en : Field := ⟨2, 1⟩
def SHK_CTL_lane_event_en : Field := ⟨1, 1⟩
def SHK_CTL_down_event_en : Field := ⟨0, 1⟩
def SHK_FLAGS_mismatch_dst : Field := ⟨5, 1⟩
def SHK_FLAGS_unsync : Field := ⟨4, 1⟩
def SHK_FLAGS_noroute : Field := ⟨3, 1⟩
def SHK_FLAGS_miswire : Field := ⟨2, 1⟩
def SHK_FLAGS_lane : Field := ⟨1, 1⟩
def SHK_FLAGS_down : Field := ⟨0, 1⟩
def SHK_FT_STATUS_root : Field := ⟨32, 14⟩
def SHK_FT_STATUS_delay : Field := ⟨16, 16⟩
def SHK_FT_STATUS_level : Field := ⟨8, 6⟩
def SHK_FT_STATUS_parent : Field := ⟨0, 5⟩
def SHK_PORT_STATUS_nbr_device : Field := ⟨36, 14⟩
def SHK_PORT_STATUS_nbr_port : Field := ⟨31, 5⟩
def SHK_PORT_STATUS_state : Field := ⟨0, 3⟩
def SHK_PORT_LANES_width : Field := ⟨8, 4⟩
def SHK_PORT_LANES_good : Field := ⟨0, 8⟩
def DEV_REC_STATUS_group : Field := ⟨48, 16⟩
def DEV_REC_STATUS_k : Field := ⟨40, 8⟩
def DEV_REC_STATUS_lost : Field := ⟨24, 16⟩
def DEV_REC_STATUS_stand_in : Field := ⟨6, 1⟩
def DEV_REC_STATUS_deputy : Field := ⟨5, 1⟩
def DEV_REC_STATUS_paused : Field := ⟨4, 1⟩
def DEV_REC_STATUS_degraded : Field := ⟨3, 1⟩
def DEV_REC_STATUS_rebuilding : Field := ⟨2, 1⟩
def DEV_REC_STATUS_open : Field := ⟨1, 1⟩
def DEV_REC_STATUS_failed : Field := ⟨0, 1⟩
def DEV_REC_CTL_lost_event_en : Field := ⟨18, 1⟩
def DEV_REC_CTL_rollback_event_en : Field := ⟨17, 1⟩
def DEV_REC_CTL_failed_event_en : Field := ⟨16, 1⟩
def DEV_REC_CTL_scrub_days : Field := ⟨8, 8⟩
def DEV_REC_FLAGS_rb_wrap : Field := ⟨4, 1⟩
def DEV_REC_FLAGS_scrub_fix : Field := ⟨3, 1⟩
def DEV_REC_FLAGS_rollback : Field := ⟨2, 1⟩
def DEV_REC_FLAGS_late : Field := ⟨1, 1⟩
def DEV_REC_FLAGS_lost : Field := ⟨0, 1⟩
def DEV_REC_EPOCH_epoch : Field := ⟨32, 32⟩
def DEV_REC_EPOCH_commit : Field := ⟨0, 32⟩
def DEV_RB_HEAD_head : Field := ⟨0, 14⟩
def DEV_ID_stepping : Field := ⟨16, 8⟩
def DEV_ID_part : Field := ⟨0, 16⟩
def DEV_FABRIC_ID_device : Field := ⟨0, 14⟩
def HST_STATUS_held : Field := ⟨32, 13⟩
def HST_STATUS_width : Field := ⟨16, 8⟩
def HST_STATUS_speed : Field := ⟨12, 4⟩
def HST_STATUS_input_dry : Field := ⟨6, 1⟩
def HST_STATUS_torn : Field := ⟨5, 1⟩
def HST_STATUS_far_bad : Field := ⟨4, 1⟩
def HST_STATUS_cache_up : Field := ⟨3, 1⟩
def HST_STATUS_watch : Field := ⟨2, 1⟩
def HST_STATUS_attached : Field := ⟨1, 1⟩
def HST_STATUS_link_up : Field := ⟨0, 1⟩
def HST_CTL_viol_event_en : Field := ⟨3, 1⟩
def HST_CTL_detach_event_en : Field := ⟨2, 1⟩
def HST_CTL_dry_event_en : Field := ⟨1, 1⟩
def HST_CTL_watch_en : Field := ⟨0, 1⟩
def HST_ATTACH_session : Field := ⟨32, 32⟩
def HST_ATTACH_nonce : Field := ⟨0, 32⟩
def HST_VIOL_HEAD_head : Field := ⟨0, 4⟩
def WIN_BASE_base : Field := ⟨16, 32⟩
def WIN_CTL_raw_ok : Field := ⟨1, 1⟩
def WIN_CTL_en : Field := ⟨0, 1⟩
def CMD_CFG_en : Field := ⟨31, 1⟩
def CMD_CFG_cpl_log2 : Field := ⟨8, 8⟩
def CMD_CFG_ring_log2 : Field := ⟨0, 8⟩
def CMD_STATUS_fetched : Field := ⟨32, 32⟩
def CMD_STATUS_in_progress : Field := ⟨16, 16⟩
def CMD_STATUS_cfg_err : Field := ⟨0, 1⟩
def RST_STATUS_throttle : Field := ⟨16, 5⟩
def RST_STATUS_last_source : Field := ⟨12, 4⟩
def RST_STATUS_last_level : Field := ⟨9, 3⟩
def RST_STATUS_fail_count : Field := ⟨6, 3⟩
def RST_STATUS_recovery : Field := ⟨5, 1⟩
def RST_STATUS_start_ok : Field := ⟨4, 1⟩
def RST_STATUS_paused : Field := ⟨3, 1⟩
def RST_STATUS_droop : Field := ⟨2, 1⟩
def RST_STATUS_block_busy : Field := ⟨1, 1⟩
def RST_STATUS_sequencing : Field := ⟨0, 1⟩
def RST_CTL_qtimeout_event_en : Field := ⟨3, 1⟩
def RST_CTL_limit_event_en : Field := ⟨2, 1⟩
def RST_CTL_pause_event_en : Field := ⟨1, 1⟩
def RST_CTL_droop_event_en : Field := ⟨0, 1⟩
def RST_FLAGS_therm : Field := ⟨4, 1⟩
def RST_FLAGS_pwr : Field := ⟨3, 1⟩
def RST_FLAGS_qtimeout : Field := ⟨2, 1⟩
def RST_FLAGS_pause : Field := ⟨1, 1⟩
def RST_FLAGS_droop : Field := ⟨0, 1⟩
def RST_CAUSE_lock_domain : Field := ⟨40, 6⟩
def RST_BLOCK_err : Field := ⟨9, 1⟩
def RST_BLOCK_busy : Field := ⟨8, 1⟩
def RST_BLOCK_block : Field := ⟨0, 8⟩
def RST_QUIESCE_block : Field := ⟨56, 8⟩
def RST_QUIESCE_step : Field := ⟨52, 4⟩
def RST_QUIESCE_timed_out : Field := ⟨51, 1⟩
def RST_QUIESCE_elapsed : Field := ⟨16, 16⟩
def RST_QUIESCE_timeout : Field := ⟨0, 16⟩
def RST_SUPPLY_min_mv : Field := ⟨16, 16⟩
def RST_SUPPLY_mv : Field := ⟨0, 16⟩
def RST_PWR_peak : Field := ⟨32, 32⟩
def RST_PWR_mean : Field := ⟨0, 32⟩
def RST_PWR_CAP_cap : Field := ⟨0, 11⟩
def RST_THERM_max_seen : Field := ⟨16, 8⟩
def RST_THERM_dram : Field := ⟨8, 8⟩
def RST_THERM_junction : Field := ⟨0, 8⟩
def EVG_CTL_hold_exp : Field := ⟨1, 1⟩
def EVG_CTL_hold : Field := ⟨0, 1⟩
def EVG_ERR_code : Field := ⟨16, 8⟩
def EVG_ERR_source : Field := ⟨0, 9⟩
def EVG_SRC_CFG_cur_target : Field := ⟨48, 6⟩
def EVG_SRC_CFG_priority : Field := ⟨36, 4⟩
def EVG_SRC_CFG_targets : Field := ⟨0, 33⟩
def EVG_TGT_CTL_en : Field := ⟨31, 1⟩
def EVG_TGT_CTL_threshold : Field := ⟨0, 4⟩
def EVG_TGT_MOD_interval : Field := ⟨0, 16⟩
def EVG_TGT_LEVEL_signalled : Field := ⟨20, 4⟩
def EVG_TGT_LEVEL_level : Field := ⟨16, 4⟩
def EVG_TGT_LEVEL_levels : Field := ⟨1, 15⟩
def EVG_PIN_CFG_state : Field := ⟨8, 1⟩
def EVG_PIN_CFG_filter : Field := ⟨0, 8⟩
def CNT_STATUS_n_sel : Field := ⟨8, 8⟩
def CNT_STATUS_trace_on : Field := ⟨4, 1⟩
def CNT_STATUS_trace_stopped : Field := ⟨3, 1⟩
def CNT_STATUS_freeze_pending : Field := ⟨2, 1⟩
def CNT_STATUS_frozen : Field := ⟨1, 1⟩
def CNT_STATUS_priv : Field := ⟨0, 1⟩
def CNT_CTL_trace_en : Field := ⟨6, 1⟩
def CNT_CTL_drop_event_en : Field := ⟨3, 1⟩
def CNT_CTL_trace_stop_event_en : Field := ⟨2, 1⟩
def CNT_CTL_trace_half_event_en : Field := ⟨1, 1⟩
def CNT_CTL_freeze_event_en : Field := ⟨0, 1⟩
def CNT_FLAGS_priv : Field := ⟨5, 1⟩
def CNT_FLAGS_drop : Field := ⟨4, 1⟩
def CNT_FLAGS_trace_stop : Field := ⟨3, 1⟩
def CNT_FLAGS_trace_half : Field := ⟨2, 1⟩
def CNT_FLAGS_refreeze : Field := ⟨1, 1⟩
def CNT_FLAGS_freeze : Field := ⟨0, 1⟩
def MGT_STATUS_rsp_len : Field := ⟨16, 16⟩
def MGT_STATUS_rsp_status : Field := ⟨8, 8⟩
def MGT_STATUS_recovery : Field := ⟨4, 1⟩
def MGT_STATUS_attended : Field := ⟨3, 1⟩
def MGT_STATUS_reset_seen : Field := ⟨2, 1⟩
def MGT_STATUS_done : Field := ⟨1, 1⟩
def MGT_STATUS_busy : Field := ⟨0, 1⟩
def MGT_CTL_done_event_en : Field := ⟨0, 1⟩
def MGT_FW_version : Field := ⟨32, 32⟩
def MGT_FW_svn : Field := ⟨0, 32⟩

end F

end Sys2Proof.Machine
end

