-- ==== Sys2Proof/Machine/Sparse.lean ====
section
/-! DEFINITION. Operations of the canonical sparse maps that hold registers and memory. -/

namespace Sys2Proof.Machine

/-- What key `a` reads as, `d` being the value of an unlisted key. -/
def spGet {V : Type} (d : V) : Sparse V → Nat → V
  | [], _ => d
  | (k, v) :: m, a => if k = a then v else spGet d m a

/-- A map without the entries of key `a`. -/
def spDel {V : Type} (m : Sparse V) (a : Nat) : Sparse V := m.filter (fun e => decide (e.1 ≠ a))

/-- Write `v` at `a`; the entry goes when `v` is the unlisted value `d`. -/
def spSet {V : Type} [DecidableEq V] (d : V) : Sparse V → Nat → V → Sparse V
  | [], a, v => if v = d then [] else [(a, v)]
  | (k, w) :: m, a, v =>
    if a < k then (if v = d then (k, w) :: spDel m a else (a, v) :: (k, w) :: m)
    else if a = k then (if v = d then spDel m a else (a, v) :: m)
    else (k, w) :: spSet d m a v

/-- Remove every entry whose key `p` selects: those keys read as unlisted again. -/
def spClear {V : Type} (p : Nat → Bool) (m : Sparse V) : Sparse V := m.filter (fun e => !p e.1)

/-- Every key of the map is at least `lo`, keys rise strictly and no value is the unlisted one. -/
def spWfFrom {V : Type} [DecidableEq V] (d : Nat → V) : Nat → Sparse V → Bool
  | _, [] => true
  | lo, (k, v) :: m => decide (lo ≤ k) && decide (v ≠ d k) && spWfFrom d (k + 1) m

/-- The canonical form, `d k` being what the unlisted key `k` reads as. -/
def spWf {V : Type} [DecidableEq V] (d : Nat → V) (m : Sparse V) : Bool := spWfFrom d 0 m

/-- An association list read with a default. -/
def alGet {K V : Type} [DecidableEq K] (d : V) : List (K × V) → K → V
  | [], _ => d
  | (k, v) :: m, a => if k = a then v else alGet d m a

/-- Set the value of a key of an association list, keeping its place when it has one. -/
def alSet {K V : Type} [DecidableEq K] : List (K × V) → K → V → List (K × V)
  | [], a, v => [(a, v)]
  | (k, w) :: m, a, v => if k = a then (k, v) :: m else (k, w) :: alSet m a v

/-- Remove a key of an association list. -/
def alDel {K V : Type} [DecidableEq K] (m : List (K × V)) (a : K) : List (K × V) :=
  m.filter (fun e => decide (e.1 ≠ a))

/-- Replace the `i`th element of a list by `f` of it. -/
def modAt {A : Type} (f : A → A) : List A → Nat → List A
  | [], _ => []
  | x :: xs, 0 => f x :: xs
  | x :: xs, i + 1 => x :: modAt f xs i

end Sys2Proof.Machine
end

