-- ==== Sys2Proof/Machine/State.lean ====
section
/-! DEFINITION. The state of the device as plain data: every register, memory, queue, mode and pin of the spec, and the
queue of waiting commands. A register's reset value is in Machine/RegTable.lean; what a field's docstring calls
"model's own" is no state of the spec. -/

namespace Sys2Proof.Machine

/-- Why the machine stops with a fault. -/
inductive Fault where
  /-- Raised by an element-engine row whose operand selector, rounding or format field holds a value the spec calls
  invalid (R153 to R156, R163): the loader rejects such a program, so the spec gives the row no effect. Safe. -/
  | invalidEncoding
  deriving DecidableEq, Repr

/-- Why the model has no meaning for a command. -/
inductive Refusal where
  /-- An arm of exec whose meaning is not written yet; no meaning answers with it. Safe. -/
  | notModelled (mnemonic : String)
  deriving DecidableEq, Repr

/-- A value of a PCIe read answer. -/
inductive ReadAnswer where
  | value (v : Nat)
  /-- Unsupported Request (R569). -/
  | ur
  /-- Completer Abort (R569). -/
  | ca
  deriving DecidableEq, Repr

/-- What leaves the device (model's own record, newest first in State.out). -/
inductive Out where
  /-- A write to host memory: command index, host address, bytes. -/
  | hostWrite (cmd addr : Nat) (bytes : List Byte)
  /-- A read the device issues to host memory. -/
  | hostRead (addr len : Nat)
  /-- The flushing read of R563. -/
  | flushRead
  /-- The answer to a host read. -/
  | readData (a : ReadAnswer)
  /-- An advisory non-fatal error reported through AER (R569). -/
  | aer
  /-- An MSI-X message. -/
  | msix (vector : Nat)
  /-- A message of the event gatherer to the management core (target 32). -/
  | mgmtEvent (prio : Nat)
  /-- A management response: interface, completion code, body. -/
  | response (iface code : Nat) (body : List Byte)
  /-- A frame sent on link port `port` (0 to 23). -/
  | frame (port : Nat) (f : Frame)
  /-- A Shurak message handed to the transport: destination device, message. -/
  | message (dst : Nat) (m : Message)
  /-- A die-to-die transaction answer of base die `n`. -/
  | d2d (n : Nat) (r : D2DReply)
  /-- What crosses the die-to-die link of stack `n`. -/
  | flit (n : Nat) (f : FlitOut)
  /-- A read or a write the device issues to a frame of a peat source (R275, R290). -/
  | peatRead (source frame off len : Nat)
  | peatWrite (source frame off : Nat) (bytes : List Byte)
  /-- An output pin driven to a level. -/
  | pin (p : OutPin) (high : Bool)
  /-- A piece of the tile, row or stage-queue traffic sent to another unit of the device or a clique peer. -/
  | tile (dst : Nat) (addr : Nat) (bytes : List Byte)
  /-- A message passed from the landing buffer to its unit: source, virtual channel, bytes (R486, R487). -/
  | delivered (src vc : Nat) (bytes : List Byte)
  deriving DecidableEq, Repr

/-- A LOAD_THALLUS in progress (R38 to R46). -/
structure LoadRun where
  /-- Command index. -/
  cmd : Nat
  src : Nat
  len : Nat
  /-- Bytes received so far from a peer: offset, bytes (R46). -/
  got : List (Nat × List Byte)
  deriving DecidableEq, Repr

/-- An OPTIMISER_PARAMS section in effect from a step on (R57, R229, R414): instance 0 dense, 1 sparse. -/
structure LiveSec where
  inst : Nat
  step : Nat
  bytes : List Byte
  deriving DecidableEq, Repr

/-- The thallus loader beside its registers (R27 to R66). Image bytes lie in memory from THL_STORE_BASE. -/
structure Thl where
  /-- Which slot (0 or 1) is the active one; reset 0. -/
  activeSlot : Nat := 0
  /-- Length of the image in the active slot and in the staged slot, signature trailer included; reset 0. -/
  activeLen : Nat := 0
  stagedLen : Nat := 0
  /-- Full structural digests, 48 bytes (R34, R63); reset empty (no image). -/
  activeStruct : List Byte := []
  stagedStruct : List Byte := []
  /-- Signed flag and key slot of the staged image; reset false, 0. -/
  stagedSigned : Bool := false
  stagedKeySlot : Nat := 0
  /-- Generation numbers in full (R46); reset 0. -/
  activeGen : Nat := 0
  stagedGen : Nat := 0
  /-- Program bank that invocations starting now use (R182); reset 0. -/
  bank : Nat := 0
  /-- The load in progress; reset none. -/
  load : Option LoadRun := none
  /-- Command index of the pending SWITCH_EPOCH; reset none. -/
  switchCmd : Option Nat := none
  /-- Previous epoch, its digest prefix and the time of the switch, for the grace period (R58); reset none. -/
  previous : Option (Nat × Nat × Nat) := none
  /-- OPTIMISER_PARAMS sections as the steps started took them, newest first; reset empty. -/
  live : List LiveSec := []
  deriving DecidableEq, Repr

/-- A live version of a table (R215 to R219): the 128-byte descriptor, its owner list, the step from which batches bind to it
and whether an epoch switch installed it. -/
structure TableVersion where
  desc : List Byte
  owners : List Nat
  effStep : Nat
  fromEpoch : Bool
  /-- A batch bound to it has been admitted (R217). -/
  bound : Bool := false
  deriving DecidableEq, Repr

/-- A pending TABLE_SWAP (R215): command index, descriptor, owner list, effective step. -/
structure PendingSwap where
  cmd : Nat
  desc : List Byte
  owners : List Nat
  step : Nat
  deriving DecidableEq, Repr

/-- A table's version state (R215 to R219): live versions, newest first. -/
structure TableState where
  id : Nat
  versions : List TableVersion := []
  pending : Option PendingSwap := none
  /-- The command whose swap installed the newest version and which completes when the replaced version retires. -/
  swapCmd : Option Nat := none
  swapErr : Nat := 0
  /-- Greatest step of a look-up batch admitted, plus 1; 0 before the first. -/
  admitted : Nat := 0
  deriving DecidableEq, Repr

/-- A bag of a batch in progress at the requester: sample index, vector's store address, valid identifiers. -/
structure BatchBag where
  sample : Nat
  dest : Nat
  valid : Nat
  deriving DecidableEq, Repr

/-- A message of a batch waiting for its answer: owner index, owner, the message, whether it is answered, and the device it was last
sent to, none while no device serves the owner's rows (R221). -/
structure BatchReq where
  k : Nat
  dst : Nat
  msg : BagMsg
  answered : Bool := false
  sent : Option Nat := none
  deriving DecidableEq, Repr

/-- A look-up batch in progress at the requester (R205). -/
structure Batch where
  table : Nat
  step : Nat
  mb : Nat
  version : Nat
  home : Nat
  bags : List BatchBag
  reqs : List BatchReq
  /-- Partials received: owner index, seq, records. -/
  parts : List (Nat × Nat × List (Nat × List Nat)) := []
  complete : Bool := false
  deriving DecidableEq, Repr

/-- A staging entry (R236): table, version, row (quotient or remainder), stack, count, pairs. -/
structure StageEntry where
  /-- The member whose row it is: this device, or a lost one it is deputy of. -/
  own : Nat
  table : Nat
  version : Nat
  row : Nat
  rem : Bool
  stack : Nat
  step : Nat
  count : Nat
  pairs : List (W32 × W32)
  deriving DecidableEq, Repr

/-- An UPDATE_REQ the owner expects (R241): requester, table, version, micro-batch, seq, step; 0 expected, 1 merged or
logged, 2 cancelled. -/
structure Expected where
  src : Nat
  table : Nat
  version : Nat
  mb : Nat
  seq : Nat
  step : Nat
  status : Nat
  /-- Table of the request answered, when an alias asked. -/
  asked : Nat
  /-- Row entries of the request, whose entries' counts the message lowers (R240). -/
  rows : List RowEntry
  deriving DecidableEq, Repr

/-- The parameters of an optimiser (R245, R415): algorithm 0 SGD_MOMENTUM, 1 ROW_ADAGRAD, 2 ADAM. -/
structure OptParams where
  algo : Nat
  decoupled : Bool
  biasCorr : Bool
  /-- Block moments (dense groups). -/
  blockMoments : Bool
  lrScale : W32
  beta1 : W32
  beta2 : W32
  eps : W32
  decay : W32
  clip : W32
  deriving DecidableEq, Repr

/-- A pending entry (R253): row, stack, the gradient g as FP32 words; `spilled` while in the spill ring (R255). -/
structure PendEntry where
  own : Nat
  table : Nat
  version : Nat
  row : Nat
  rem : Bool
  stack : Nat
  step : Nat
  g : List W32
  /-- The optimiser parameters its apply began with (R57, R229). -/
  par : OptParams
  spilled : Bool
  deriving DecidableEq, Repr

/-- A row in the commit buffer (R259): new planes and state, and the SOREDIUM message that carries its delta. -/
structure CommitEntry where
  own : Nat
  table : Nat
  version : Nat
  row : Nat
  rem : Bool
  stack : Nat
  step : Nat
  /-- Tiered-range address and bytes of each part to write. -/
  parts : List (Nat × List Byte)
  /-- Parity holder and seq of its SOREDIUM message; none when the row needs no acknowledgement. -/
  holder : Option (Nat × Nat)
  acked : Bool
  /-- The delta sent, for a stand-in holder should the holder be lost (R522). -/
  delta : List Byte
  /-- Command whose write the commit is, which retires after it (R18). -/
  cmd : Option Nat := none
  deriving DecidableEq, Repr

/-- A row of a table part and step: member, table, version, row, remainder flag, step. -/
structure RowKey where
  own : Nat
  table : Nat
  version : Nat
  row : Nat
  rem : Bool
  step : Nat
  deriving DecidableEq, Repr

/-- A remainder row its home has committed: its new planes (R252). -/
structure RemOut where
  table : Nat
  version : Nat
  step : Nat
  row : Nat
  bf : List Byte
  ext : List Byte
  deriving DecidableEq, Repr

/-- A REM_ROW message received: table, step, sender, its place in the series, and whether it is the last (R252). -/
structure RemSeen where
  table : Nat
  step : Nat
  source : Nat
  seq : Nat
  last : Bool
  deriving DecidableEq, Repr

/-- Look-ups and updates of the device: requester and owner work of the eight sorus engines (R186 to R264). -/
structure Sorus where
  tables : List TableState := []
  /-- Requester: batches in progress. -/
  batches : List Batch := []
  /-- Requester: LOOKUP_REQ messages sent in a step to a device (R238): step and device, number. -/
  sentReqs : List ((Nat × Nat) × Nat) := []
  /-- Requester: steps whose requests have all been cut, newest first: their LOOKUP_END messages are due or sent (R238); the latest
  four. -/
  ending : List Nat := []
  /-- Requester: LOOKUP_END messages sent (R238): step, device. -/
  endsSent : List (Nat × Nat) := []
  /-- Requester: update batches whose UPDATE_REQ messages of the step have been sent: table, micro-batch, step. -/
  updSent : List (Nat × Nat × Nat) := []
  /-- dedup_en as sampled at each batch's admission (R231): table, micro-batch, step, value. -/
  dedup : List (Nat × Nat × Nat × Bool) := []
  /-- Owner: LOOKUP_REQ answered: requester, step, number (R238). -/
  answered : List (Nat × Nat × Nat) := []
  /-- Owner: LOOKUP_END received: requester, step, number (R238). -/
  ends : List (Nat × Nat × Nat) := []
  /-- Owner: requests held under R260, oldest first. -/
  heldReqs : List (Nat × BagMsg) := []
  stage : List StageEntry := []
  /-- Rows refused a staging entry, whose contributions the step discards (R237); reset empty. -/
  unstaged : List RowKey := []
  expected : List Expected := []
  /-- det_order log: accepted UPDATE_REQ messages not merged yet (R242): source, message. -/
  log : List (Nat × BagMsg) := []
  pend : List PendEntry := []
  commit : List CommitEntry := []
  /-- Last step closed on the device, plus 1 (R243); reset 0. -/
  closed : Nat := 0
  /-- Steps whose logged messages have been merged, plus 1 (R242); reset 0. -/
  merged : Nat := 0
  /-- REM_GRAD received, per table, step and sender, and which sender sent its last (R250). -/
  remGrads : List RemGrad := []
  /-- REM_ROW messages received (R252, R260). -/
  remRows : List RemSeen := []
  /-- Remainder merges done by this home: table, step (R251). -/
  remDone : List (Nat × Nat) := []
  /-- Update-path messages waiting under back-pressure or for a row's bytes, oldest first (R256). -/
  inq : List Message := []
  /-- Row lines in T2 fetched for look-ups that have not read them yet (R290): address, length; reset empty. -/
  fetched : List (Nat × Nat) := []
  /-- Row lines in T2 that reads of rows other than look-ups wait for (R290): address, length; reset empty. -/
  wanted : List (Nat × Nat) := []
  /-- Remainder rows committed by this home and not sent yet (R252). -/
  remOut : List RemOut := []
  /-- REM_ROW messages sent as home: table, step (R252). -/
  remSent : List (Nat × Nat) := []
  /-- Next seq of the SOREDIUM series of a step to a holder (R234): holder and step, seq. -/
  sorSeq : List ((Nat × Nat) × Nat) := []
  /-- SOREDIUM series whose last message has been sent (R234): holder, step. -/
  sorEnded : List (Nat × Nat) := []
  /-- Header fields of the sparse OPTIMISER_PARAMS in effect (R229): det_order, stage_size, spill_size, bases. -/
  detOrder : Bool := false
  /-- det_order of the latest steps, newest first (R229); reset empty. -/
  detSteps : List (Nat × Bool) := []
  stageSize : Nat := 0
  spillSize : Nat := 0
  deriving DecidableEq, Repr

/-- A migration kind, in the order of precedence of R287. -/
inductive MigKind where
  | evacuate | demand | rebuild | revoke | demote | promote | rebalance
  deriving DecidableEq, Repr

/-- A place a page can be held in: a T1 frame of a stack, or a T2 frame of a source (R269). -/
inductive Place where
  | t1 (stack frame : Nat)
  | t2 (source frame : Nat)
  deriving DecidableEq, Repr

/-- A write held during a final pass (R296) or waiting (R302): the device address and bytes of each part of one access (R73), and its
place in the order of arrival (R323). -/
structure HeldWrite where
  parts : List (Nat × List Byte)
  seq : Nat
  deriving DecidableEq, Repr

/-- A read that waits for its place or for a rebuild (R303, R320, R340, R348, R349, R524): a peer's MEM_RD with its header, or a host
read through the window; and its place in the order of arrival (R323). -/
structure WaitRead where
  hdr : Option Hdr
  addr : Nat
  len : Nat
  seq : Nat
  deriving DecidableEq, Repr

/-- An overloaded stack of the ended heat epoch (R285): the heat still to move, and its hottest pages with their heat, hottest first. -/
structure Overload where
  stack : Nat
  excess : Nat
  pages : List (Nat × Nat)
  deriving DecidableEq, Repr

/-- A migration in progress (R292 to R298). -/
structure Migration where
  page : Nat
  kind : MigKind
  /-- Source place; none for a rebuild of a lost page. -/
  src : Option Place
  dst : Place
  /-- Pass in progress: 0, 1, 2, and 3 for the final pass (R295). -/
  pass : Nat
  /-- Lines the pass in progress copies. -/
  lines : List Nat
  /-- Dirty bitmap: the lines whose bit is set, ascending (R292, R294). -/
  dirty : List Nat
  /-- Fabric time at which the final pass began to hold writes. -/
  holdAt : Nat
  held : List HeldWrite
  /-- Lines of the row that started a DEMAND, copied first (R291). -/
  first : List Nat
  deriving DecidableEq, Repr

/-- The TIER_POLICY section in effect (R308, R309). -/
structure TierPolicy where
  rangePages : Nat
  promoteThr : Nat
  demoteThr : Nat
  rebalThr : Nat
  expMask : Nat
  freeLow : Nat
  freeHigh : Nat
  promoteBudget : Nat
  demoteBudget : Nat
  rebalBudget : Nat
  /-- First frame and frame count of each stack's T1 pool. -/
  pools : List (Nat × Nat)
  /-- First page, pages, flags. -/
  ranges : List (Nat × Nat × Nat)
  deriving DecidableEq, Repr

/-- A peat source (R273 to R276): state 0 absent, 1 in use, 2 being revoked. -/
structure PeatSource where
  state : Nat := 0
  base : Nat := 0
  frames : Nat := 0
  /-- Command index of the REVOKE_PEAT in progress. -/
  revokeCmd : Option Nat := none
  deriving DecidableEq, Repr

/-- The tier manager beside its registers (R265 to R314). The page table itself lies in memory (R268). -/
structure Tier where
  /-- The policy in effect; reset none. -/
  policy : Option TierPolicy := none
  /-- An epoch switch has made a new section due at the next heat epoch (R311); reset false. -/
  policyDue : Bool := false
  /-- Peat sources 0 to 15, 16 entries; reset absent. -/
  sources : List PeatSource := List.replicate 16 {}
  /-- Capacity in frames of each expander that is up, whether used or not (R273, R534): expander, frames; reset empty. -/
  expanders : List (Nat × Nat) := []
  /-- Touches of each stack in the running heat epoch, 8 counts (R282, R285); reset 0. -/
  touches : List Nat := List.replicate 8 0
  /-- Promotion queue, at most 4,096 pages (R281); reset empty. -/
  queue : List Nat := []
  /-- Migrations in progress (R287); reset empty. -/
  migs : List Migration := []
  /-- Pages whose migration was abandoned in the running heat epoch (R289); reset empty. -/
  abandoned : List Nat := []
  /-- Source frames not yet free because reads issued against them are in progress: page, place (R298); reset empty. -/
  draining : List (Nat × Place) := []
  /-- Retired T1 frames: stack, frame (R342); reset empty. -/
  retired : List (Nat × Nat) := []
  /-- Pages that must leave their frame by EVACUATE (R287, R342); reset empty. -/
  evacuate : List Nat := []
  /-- Pages with a DEMAND promotion due, with the lines of the row that asked first (R291); reset empty. -/
  demand : List (Nat × List Nat) := []
  /-- Next page the scanner visits (R280); reset 0. -/
  scanPos : Nat := 0
  /-- Effective-heat bound of demotions above demote_thr (R283); reset 0. -/
  boundRise : Nat := 0
  /-- Demotions run until free_high is reached (R283); reset false. -/
  demoting : Bool := false
  /-- Pages the scanner has selected for demotion (R283); reset empty. -/
  demoteSel : List Nat := []
  /-- Heat promotions, demotions and rebalance moves started in the heat epoch (R287); reset 0. -/
  promoted : Nat := 0
  demoted : Nat := 0
  rebalanced : Nat := 0
  /-- Overloaded stacks of the ended heat epoch still to be relieved (R285); reset empty. -/
  rebal : List Overload := []
  /-- Pages that must move by REBALANCE because the new pools exclude their frame (R311); reset empty. -/
  poolMoves : List Nat := []
  /-- Writes that wait for a frame, for the rebuild of a lost page or for their stack or grant (R302, R303, R349), oldest first;
  reset empty. -/
  waitWrites : List HeldWrite := []
  /-- Writes to rows of the tiered range whose commit waits until the row can be read (R513, R524): address, bytes; reset empty. -/
  waitCommits : List (Nat × List Byte) := []
  /-- Reads that wait, oldest first; reset empty. -/
  waitReads : List WaitRead := []
  /-- Model's own: the next place in the order in which accesses that wait arrived (R323); reset 0. -/
  arrivals : Nat := 0
  /-- Fabric time since which an operation waits for a frame (R302); reset none. -/
  fullSince : Option Nat := none
  /-- Fabric time since which the host port is unusable with grants in use (R303); reset none. -/
  hostDownSince : Option Nat := none
  deriving DecidableEq, Repr

/-- A flit's header fields and payload (R317); its sequence number is given when it is sent. -/
structure Flit where
  kind : Nat
  seq : Nat := 0
  tag : Nat
  info : Nat
  payload : List Byte
  deriving DecidableEq, Repr

/-- One direction of a die-to-die link (R317, R319, R320): sender and receiver. -/
structure D2DLink where
  /-- Sequence number of the next new flit, modulo 1,024; reset 0. -/
  next : Nat := 0
  /-- Retry buffer: flits sent and not acknowledged, oldest first, at most 512; reset empty. -/
  retry : List Flit := []
  /-- Flits waiting for room in the retry buffer or for the link, oldest first; reset empty. -/
  queued : List Flit := []
  /-- Signals mapped out onto spare signals, at most 16 (R320); reset empty. -/
  mapped : List Nat := []
  /-- Receiver: next expected seq, flits accepted since the last ACK, whether flits are discarded until a replay, refusals of the
  same seq in a row; reset 0, 0, false, 0. -/
  expected : Nat := 0
  sinceAck : Nat := 0
  discarding : Bool := false
  refusals : Nat := 0
  deriving DecidableEq, Repr

/-- A transaction on its way (R318, R322): whether its flits have all left the compute die, so that the base die has accepted it, the
fabric time at which it was issued, and the lines of it that the scheduler has served. -/
structure QueuedTx where
  tx : StackTx
  since : Nat
  sent : Bool
  served : List Nat := []
  /-- Its place in the order of arrival at the base die, once it is sent (R323). -/
  seq : Nat := 0
  deriving DecidableEq, Repr

/-- Where the scheduler of a channel stands (R322): the queue whose share runs, bursts served of that share, and of each queue
(narrow, wide) the direction of its batch and the accesses served of it; STK_SCHED as the running batch took it. -/
structure ChanSched where
  wide : Bool := false
  share : Nat := 0
  narrowDir : Bool := false
  narrowCount : Nat := 0
  wideDir : Bool := false
  wideCount : Nat := 0
  sched : Option Nat := none
  deriving DecidableEq, Repr

/-- A line the row cache holds (R327 to R329), as a line number of its stack, with the bits of its words' codewords that have flipped
since they were written: word, bit. -/
structure CacheLine where
  line : Nat
  flips : List (Nat × Nat) := []
  deriving DecidableEq, Repr

/-- A stack and its base die beside its registers (R315 to R351). -/
structure Stack where
  down : D2DLink := {}
  up : D2DLink := {}
  /-- Retrains failed in a row, and whether the stack is lost (R321); reset 0, false. -/
  trainFails : Nat := 0
  lost : Bool := false
  /-- Transactions not complete, oldest first (R320, R322, R340, R349); reset empty. -/
  waiting : List QueuedTx := []
  /-- Schedulers of the 32 channels (R322); reset at the start of a narrow share, direction read. -/
  sched : List ChanSched := List.replicate 32 {}
  /-- The row cache, most recently used line first (R327); reset empty. -/
  cache : List CacheLine := []
  /-- Distinct DRAM rows with a corrected symbol in the running scrub period: channel, pin, frame (R335); reset empty. -/
  pinRows : List (Nat × Nat × Nat) := []
  /-- DRAM rows being repaired: channel, frame (R316, R340); reset empty. -/
  failing : List (Nat × Nat) := []
  /-- Spares used by a row address: channel, frame, number (R341, R342); nonvolatile through the repair log; reset empty. -/
  rowSpares : List (Nat × Nat × Nat) := []
  /-- Spare rows used in a bank: channel, bank, number (R340); reset empty. -/
  bankSpares : List (Nat × Nat × Nat) := []
  /-- Lines that hold poison, as line numbers in the stack (R337, R340); reset empty. -/
  poison : List Nat := []
  /-- What errs in the cells of the DRAM, as the next read of each line meets it (R332, R334, R337): line number, errors; reset empty. -/
  errs : List (Nat × LineErr) := []
  /-- Next line the patrol scrub reads, and the fabric time since which that read waits for its channel (R338); reset 0, none. -/
  scrubPos : Nat := 0
  scrubSince : Option Nat := none
  /-- Last direction of each channel, true for a write, 32 entries (R322, R331); reset read. -/
  dirs : List Bool := List.replicate 32 false
  /-- Open row of each bank: channel, bank, row (R322, R331); reset none. -/
  openRows : List (Nat × Nat × Nat) := []
  /-- All-bank refresh in effect in the running refresh interval (STK_CTL.ref_allbank); reset false. -/
  allBank : Bool := false
  deriving DecidableEq, Repr

/-- Work a unit had accepted and the retire point reports as not done (R19, R140, R184, R223, R553, R584). -/
inductive Work where
  /-- An op of a frond's list: frond, step, list index. -/
  | op (frond step idx : Nat)
  /-- A look-up batch: table, step, micro-batch. -/
  | lookup (table step mb : Nat)
  /-- A row commit of a sorus engine: table, step, row. -/
  | commit (table step row : Nat)
  /-- A die-to-die transaction of a stack. -/
  | transaction (stack : Nat) (t : StackTx)
  /-- The migration of a page. -/
  | migration (page : Nat)
  /-- The SCALE reduction of a step. -/
  | scale (step : Nat)
  /-- The load of an image: command index. -/
  | load (cmd : Nat)
  /-- The reduction of a block. -/
  | reduction (block step : Nat)
  deriving DecidableEq, Repr

/-- A turn unit the crozier holds (R113, R114): its half, whether it is the stationary operand's, and its rows as it delivers
them, each a list of element codes. -/
structure TurnUnit where
  half : Nat
  stationary : Bool
  rows : List (List Nat)
  deriving DecidableEq, Repr

/-- An accumulator slot beside its state field of FRD_STATUS (R123 to R130). -/
structure Slot where
  /-- List index of the product that has taken the slot. -/
  op : Option Nat := none
  /-- Frond whose CHAIN tile the slot holds or awaits (R129), rows of it received, and whether it has arrived. -/
  seed : Option Nat := none
  seedRows : Nat := 0
  arrived : Bool := false
  /-- Passes added (R121) and rows its drain consumer has read (R128). -/
  passes : Nat := 0
  drained : Nat := 0
  /-- Place of the slot's product in the order of issue, and of its chained tile in the order of sending, against the other
  slot's; the whole chained tile has been sent (R129). -/
  turn : Nat := 0
  order : Nat := 0
  sent : Bool := false
  /-- The sat and infnan flags of the tile, which go with it to its consumer (R130), and those the chained tile came with. -/
  sat : Bool := false
  inf : Bool := false
  seedSat : Bool := false
  seedInf : Bool := false
  deriving DecidableEq, Repr

/-- An invocation an element engine runs (R144 to R152, R167): list index, kind, drained slot, product descriptor (DRAIN),
call record, program words, shape header, and where it stands. -/
structure Invocation where
  op : Nat
  row : Bool
  slot : Nat
  desc : List Byte
  call : List Byte
  prog : List Nat
  shape : List Byte
  step : Nat
  /-- Group of a DRAIN; row of a ROW. -/
  group : Nat := 0
  chunk : Nat := 0
  /-- First instruction of the sweep, and the instruction issuing next. -/
  sweep : Nat := 0
  pc : Nat := 0
  /-- Row reduction: largest value so far, NaN seen, pair, whether a position was active (R172, R173). -/
  best : Option W32 := none
  nan : Bool := false
  sum : W32 × W32 := (0, 0)
  any : Bool := false
  /-- Flag byte of the row (R178). -/
  rowFlags : Nat := 0
  /-- The sat and infnan flags that came with the drained tile (R130). -/
  sat : Bool := false
  inf : Bool := false
  /-- JIT pre-pass (R452): stores into bound regions are suppressed. -/
  pre : Bool := false
  /-- Largest magnitudes the pre-pass has recorded: tensor, amax. -/
  amax : List (Nat × W32) := []
  deriving DecidableEq, Repr

/-- An element engine (R143 to R185): registers v0 to v15, each a list of 256 lanes, and s0 to s7; missing ones read +0. -/
structure Engine where
  v : List (List W32) := []
  sr : List W32 := []
  run : Option Invocation := none
  deriving DecidableEq, Repr

/-- A MOVE to a stage queue on its way to a consumer of this device (R370): queue, index k of the move, bytes, list index. -/
structure QueueMove where
  queue : Nat
  k : Nat
  bytes : List Byte
  op : Nat
  deriving DecidableEq, Repr

/-- A program in a bank of an engine (R166, R182): its slot in the image, its 32-byte header, its instruction words. -/
structure Program where
  slot : Nat
  shape : List Byte
  words : List Nat
  deriving DecidableEq, Repr

/-- A frond beside its registers, its store and its accumulator memory (R105 to R142, R358 to R373). -/
structure FrondState where
  /-- Scoreboard bits b0 to b1023 (R362); reset POOL_FREE and GRAD_FREE clear, set at job start. -/
  sb : Nat := 0
  /-- List index of the first unissued non-W op and of the first unissued W op (R368). -/
  head : Nat := 0
  headW : Nat := 0
  /-- Ops completed of the running list (R365). -/
  done : Nat := 0
  /-- Step whose list is or was last in progress, and the step whose list starts once it is complete. -/
  step : Nat := 0
  next : Option Nat := none
  /-- Accumulator slots 0 and 1; reset FREE. -/
  slots : List Slot := [{}, {}]
  /-- Slot the array fills (R366, R369); reset none. -/
  array : Option Nat := none
  /-- DRAIN and ROW invocations issued and not started, in plan order: list indices (R181). -/
  engQ : List Nat := []
  eng : Engine := {}
  /-- Program banks 0 and 1 of the engine (R182, R185); reset empty. -/
  banks : List (List Program) := [[], []]
  /-- MOVE to a queue in progress on the move engine (R366, R370); reset none. -/
  move : Option QueueMove := none
  /-- List indices of MOVEs whose messages their destinations have not all acknowledged (R365); reset empty. -/
  sent : List Nat := []
  /-- Weight registers of the array, active and shadow (R105, R111): row by row the element codes of a tile of B, each with its
  block's scale byte (0 but for E2M1); missing ones hold 0; reset empty. -/
  active : List (List (Nat × Nat)) := []
  shadow : List (List (Nat × Nat)) := []
  /-- Turn units in the crozier (R105, R113, R114); reset empty. -/
  crozier : List TurnUnit := []
  /-- Answers of window reads of the store that wait for the end of the zero-fill, oldest first (R142); reset empty. -/
  heldReads : List Nat := []
  /-- The frond issues no new pass, group, row or op until its next list starts (R140, R141, R184); reset false. -/
  halted : Bool := false
  /-- Fabric time from which PLAN_STALL counts (R382). -/
  since : Nat := 0
  deriving DecidableEq, Repr

/-- The RUN_STEPS in progress (R548, R551). -/
structure RunSteps where
  cmd : Nat
  t0 : Nat
  ring : Nat
  slotBytes : Nat
  slots : Nat
  line : Nat
  inDev : Nat
  deriving DecidableEq, Repr

/-- The step sequencer (R22 to R25, R358 to R383, R548, R551 to R553). -/
structure SeqState where
  /-- The step in progress, from its start to the completion of its barrier; reset none. -/
  step : Option Nat := none
  /-- The step in progress runs without samples (R552); reset false. -/
  dry : Bool := false
  /-- The RUN_STEPS in progress; reset none. -/
  run : Option RunSteps := none
  /-- First step of that run. -/
  first : Nat := 0
  /-- STOP_AT_STEP commands in progress: command index, step (R548); reset empty. -/
  stops : List (Nat × Nat) := []
  /-- Steps supplied, as the input line gave it last (R551); reset 0. -/
  supplied : Nat := 0
  /-- Steps whose input has been copied into device memory, the last four (R551); reset empty. -/
  copied : List Nat := []
  /-- Last step whose barrier completed, plus 1; reset 0. -/
  barrier : Nat := 0
  /-- Last step settled, plus 1; reset 0 (R548). -/
  settled : Nat := 0
  /-- Steps ended by an ABORT, which do not settle (R553); reset empty. -/
  aborted : List Nat := []
  /-- The device takes part in barriers without a RUN_STEPS, as R553 leaves it after an ABORT; reset false. -/
  idleStep : Bool := false
  /-- Ended the dense work of the job when a clique member was lost (R520); reset false. -/
  densePaused : Bool := false
  /-- Steps whose look-up batches have not all been admitted, oldest first (R22). -/
  admitQ : List Nat := []
  /-- Look-up batches of the steps at work: those admitted and those complete, as step, table, micro-batch; micro-batches whose vectors
  the sorus engines have begun to write, and those whose pooled bit is set, as step, micro-batch (R22, R204, R214, R363). -/
  admitted : List (Nat × Nat × Nat) := []
  pooled : List (Nat × Nat × Nat) := []
  writing : List (Nat × Nat) := []
  ready : List (Nat × Nat) := []
  /-- Credits of stage queues used by their producers, moves made this step, and credits on the way back (R370 to R372). -/
  used : List (Nat × Nat) := []
  moved : List (Nat × Nat) := []
  returning : List Nat := []
  /-- Work reported through the retire point as not done, newest first (R19, R584); reset empty. -/
  notDone : List Work := []
  /-- Fronds F0 to F31. -/
  fronds : List FrondState := List.replicate 32 {}
  deriving DecidableEq, Repr

/-- A contribution of one source to one block and step (R394): the elements received by offset, whether all are, whether it
is late (R403). -/
structure Contribution where
  source : Nat
  step : Nat
  got : List (Nat × List Nat)
  complete : Bool := false
  late : Bool := false
  deriving DecidableEq, Repr

/-- A part of a split block at the primary (R398): pairs, included group indices, skip. -/
structure PartIn where
  block : Nat
  step : Nat
  part : Nat
  got : List (Nat × List (W32 × W32))
  bitmap : List Nat
  skip : Bool
  complete : Bool
  deriving DecidableEq, Repr

/-- Where the pairs of a reduction are: in the RAU's pair buffer, or, of blocks beyond its 4,194,304 elements, in the partition (R385). -/
inductive PairHome where
  | buffer
  | partition
  deriving DecidableEq, Repr

/-- The reduction of a block for one step, as primary of an unsplit block, or of one part as its leader (R397, R398). -/
structure Reduction where
  block : Nat
  step : Nat
  /-- Part index when reducing as part leader; none as primary. -/
  part : Option Nat
  /-- Group index next to be added. -/
  next : Nat
  /-- Pairs summed so far, by leaf in split-invariant mode, else one list (R397, R401). -/
  leaves : List (List (W32 × W32))
  /-- Group indices added. -/
  bitmap : List Nat
  /-- Contributions added, carried ones included (R406). -/
  added : Nat
  /-- A BLOCK reset cleared its pairs (R429). -/
  cleared : Bool := false
  /-- Where its pairs are. -/
  home : PairHome := .buffer
  deriving DecidableEq, Repr

/-- The state of one block a holder keeps beside its region of the partition (R415 to R425). -/
structure BlockState where
  block : Nat
  /-- Last step applied or skipped, plus 1. -/
  applied : Nat
  /-- Last step whose digests this holder has computed, plus 1 (R420). -/
  digested : Nat
  /-- Last step agreed, plus 1 (R421). -/
  agreed : Nat
  /-- Last step all-gathered, plus 1 (R426). -/
  gathered : Nat
  /-- Last step whose gradient (or skip) stands in the log on this holder, plus 1 (R394, R418). -/
  ready : Nat
  /-- GRAD messages of the step `ready`: elements received, by offset (R418). -/
  grads : List (Nat × List W32) := []
  /-- Bitmaps of included contributors that came with the GRAD messages of steps not yet applied: step, group indices (R393, R419). -/
  maps : List (Nat × List Nat) := []
  /-- Steps skipped for this block alone (R419, R429). -/
  skips : List Nat := []
  /-- Own digests and those received: step, holder, CRCs (R420, R421). -/
  digests : List (Nat × Nat × List Nat) := []
  /-- A replay has been done for the step being agreed (R423, R424). -/
  replayed : Bool := false
  /-- A rollback of R423 is in progress. -/
  replaying : Bool := false
  deriving DecidableEq, Repr

/-- What the barrier of a step gave the holders (R409, R410, R412): result, clip factor, learning rate. -/
structure StepResult where
  step : Nat
  record : BarrierRec
  eta : W32
  deriving DecidableEq, Repr

/-- The two RAUs and the step barrier (R385 to R430). -/
structure RauState where
  /-- Contributions in the contribution buffer: block, contribution (R394, R404). -/
  cbuf : List (Nat × Contribution) := []
  /-- Contributions settled: block, step, source; 0 counted as dropped, 1 added, 2 arrived and discarded before it is known that the
  reduction goes without it, 3 arrived and discarded after it was counted (R394, R404, R405). -/
  seen : List (Nat × Nat × Nat × Nat) := []
  reds : List Reduction := []
  parts : List PartIn := []
  blocks : List BlockState := []
  /-- Digests recorded with snapshots 0 and 1: block, slot, step, CRCs (R421); reset empty. -/
  snaps : List (Nat × Nat × Nat × List Nat) := []
  /-- First step of the run in progress or last run (R402). -/
  base : Nat := 0
  /-- Barrier: own record of the running step; level the device is at, 1 to 4; records received: step, level, source. -/
  own : Option (Nat × BarrierRec) := none
  level : Nat := 0
  recs : List (Nat × Nat × Nat × BarrierRec) := []
  /-- Results of completed barriers, newest first, at most 64 (R409). -/
  results : List StepResult := []
  /-- Step of the open or last window, plus 1; 0 before the first (R402). -/
  window : Nat := 0
  /-- Window closed up to this step, plus 1 (R402). -/
  closed : Nat := 0
  /-- t_max of the last barrier or t0 of the RUN_STEPS (R402). -/
  tMax : Nat := 0
  /-- PARAM blocks received: block, step + 1 of the newest that arrived whole (R374). -/
  arrived : List (Nat × Nat) := []
  /-- Last step whose barrier cleared the parameter bits, plus 1 (R374). -/
  gen : Nat := 0
  /-- PARAM blocks received in part: block, step, elements (R426). -/
  paramGot : List (Nat × Nat × Nat) := []
  /-- PARAM messages that wait for the barrier of their step and for the lists that still use the parameters they replace,
  oldest first (R21, R374); reset empty. -/
  paramHeld : List ParamMsg := []
  /-- Close time of the open or last window (R402), which RAU_WINDOW shows until a BLOCK reset; reset 0. -/
  closeAt : Nat := 0
  /-- Blocks written by a checkpoint load and not all-gathered yet (R557). -/
  regather : List Nat := []
  /-- Late policy of the newest windows, at most 8, newest first (R414): step, CARRY; reset empty. -/
  policies : List (Nat × Bool) := []
  /-- Split blocks whose parts a BLOCK reset has cleared, until it ends: block, step (R429); reset empty. -/
  cutSplits : List (Nat × Nat) := []
  /-- RAU messages that a unit which accepts none leaves in the landing buffer, oldest first, with the digest blocks that came with a
  DIGEST (R428, R487); reset empty. -/
  landed : List (Message × List (Nat × List Byte)) := []
  deriving DecidableEq, Repr

/-- A scaled tensor (R435 to R445). -/
structure Tensor where
  fmt : Nat
  headroom : Nat
  kind : Nat
  initExp : Int
  /-- Exponent of the next step. -/
  e : Int
  /-- History, newest first, at most 16 (R441). -/
  hist : List W32 := []
  /-- Largest amax recorded and whether any conversion occurred since the last latch (R440). -/
  amax : W32 := 0
  present : Bool := false
  /-- Last reduced amax and whether it saturated (R443). -/
  last : W32 := 0
  satLast : Bool := false
  jitOk : Bool := false
  deriving DecidableEq, Repr

/-- A pending SET_SCALES (R456): command index, operation, operands, effective step. -/
structure PendScales where
  cmd : Nat
  op : Nat
  l : Nat
  tensor : Nat
  e : Int
  interval : Nat
  step : Nat
  deriving DecidableEq, Repr

/-- A SCALE reduction in progress (R440, R457): the values latched for it, the record joined so far, the level it is at. -/
structure ScaleRun where
  latched : ScaleMsg
  own : ScaleMsg
  level : Nat
  deriving DecidableEq, Repr

/-- The scale unit beside its registers (R431 to R458). L, count, fast flag and interval of the next step are in SCL_LOSS. -/
structure Scl where
  tensors : List Tensor := []
  /-- Exponents published, newest four steps (R437, R439): step, exponents by tensor. -/
  pubs : List (Nat × List Int) := []
  /-- Loss-scale exponent of the steps started: step, L, newest first, two kept (R433). -/
  lossOf : List (Nat × Nat) := []
  /-- Overflow bits set: steps (R434). -/
  ovf : List Nat := []
  /-- Steps whose barrier record has been formed, newest first (R434). -/
  formed : List Nat := []
  pend : Option PendScales := none
  /-- SCALE reductions in progress, and the records received for them (R440); reset empty. -/
  runs : List ScaleRun := []
  recs : List ScaleMsg := []
  /-- Reduced amaxes of steps (R440), once level 4 is combined; reset empty. -/
  reduced : List ScaleMsg := []
  /-- Steps whose barrier has completed and whose next exponents are not published yet, oldest first (R442); reset empty. -/
  due : List Nat := []
  /-- Tensors whose exponent was set, or lost its history, before a step: the reductions of earlier steps leave it (R449, R456); reset
  empty. -/
  fixed : List (Nat × Nat) := []
  /-- The running step lies in a JIT window (R450). -/
  jitStep : Bool := false
  /-- JIT: pre-pass amax by tensor, micro-batch, frond and op (R452). -/
  prepass : List (Nat × Nat × Nat × Nat × W32) := []
  /-- JIT exponents set: tensor, micro-batch, e (R452). -/
  jitExp : List (Nat × Nat × Int) := []
  deriving DecidableEq, Repr

/-- The fields of the two ROUTE_TABLE sections (R478). -/
structure RouteTable where
  portEnA : Nat
  portEnB : Nat
  fab : List Nat
  org : List Nat
  size : List Nat
  mode : Nat
  timeRoot : Nat
  backupRoot : Nat
  deriving DecidableEq, Repr

/-- A message of an outgoing flow (R485): its sequence number, its tags and the command it belongs to. -/
structure OutMsg where
  seq : Nat
  msg : Message
  epochTag : Nat
  digestTag : Nat
  cmd : Option Nat
  /-- The MOVE whose rows it carries: frond, list index (R365). -/
  op : Option (Nat × Nat) := none
  /-- The port it goes by when a rule names one, while that is UP (R503, R504). -/
  port : Option Nat := none
  deriving DecidableEq, Repr

/-- An outgoing flow: destination and virtual channel (R482, R485). -/
structure FlowOut where
  dst : Nat
  vc : Nat
  /-- Next msg_seq, modulo 1,024. -/
  next : Nat := 0
  /-- Unacknowledged messages, oldest first, at most 512. -/
  unacked : List OutMsg := []
  /-- Messages waiting for room among the 512 or for a valid plane. -/
  waiting : List OutMsg := []
  plane : Nat := 0
  /-- The link die whose router last injected a message of the flow (R485, R493). -/
  die : Nat := 0
  /-- Planes invalid after a NO_ROUTE, with the time their invalidity ends. -/
  invalid : List (Nat × Nat) := []
  /-- Fabric time at which the acknowledgement last advanced or the flow last sent. -/
  progress : Nat := 0
  deriving DecidableEq, Repr

/-- A partly landed message (R486, R487): sequence, frames landed, bytes, time of the last frame, link die. -/
structure Landing where
  seq : Nat
  frames : Nat
  bytes : List Byte
  last : Nat
  die : Nat
  deriving DecidableEq, Repr

/-- An incoming flow: source and virtual channel (R486, R490). -/
structure FlowIn where
  src : Nat
  vc : Nat
  expected : Nat := 0
  landing : Option Landing := none
  /-- Messages delivered since the last E2E_ACK, and the time of the earliest of those deliveries. -/
  sinceAck : Nat := 0
  ackFrom : Option Nat := none
  /-- The message refused last with one ERROR: msg_seq, epoch tag, digest tag (R492); none once its msg_seq is delivered. -/
  refused : Option (Nat × Nat × Nat) := none
  deriving DecidableEq, Repr

/-- A sequenced frame waiting to be sent on a port: the neighbour's pool it enters (vc × 3 + class), and the port and pool of
this device whose buffer slot it holds when it came in over a link (R468). -/
structure QEntry where
  pool : Nat
  frame : Frame
  origin : Option (Nat × Nat) := none
  deriving DecidableEq, Repr

/-- A DATA frame that waits at the router input for room in the landing buffer (R487), or behind such a frame. -/
structure Blocked where
  port : Nat
  hdr : Hdr
  payload : List Byte
  deriving DecidableEq, Repr

/-- A link port beside its registers (R466 to R475). -/
structure Port where
  /-- Successive good heartbeats in CHECK (R470); reset 0. -/
  goodHb : Nat := 0
  /-- Fabric time of the last heartbeat; none before the first (R470, R471); reset none. -/
  lastHb : Option Nat := none
  /-- Fabric time at which the port last entered CHECK from training (R470); reset 0. -/
  checkFrom : Nat := 0
  /-- t_rx_last and t_tx_echo as the next heartbeat sends them (R471); reset 0. -/
  tRxLast : Nat := 0
  tTxEcho : Nat := 0
  /-- Level and root of the neighbour's latest heartbeat (R473); reset 63, 0. -/
  nbrLevel : Nat := 63
  nbrRoot : Nat := 0
  /-- State field of the neighbour's latest heartbeat (R471, R503); reset 0. -/
  nbrState : Nat := 0
  /-- Fabric time since which the port is in MISMATCH (R503); reset none. -/
  mismatchSince : Option Nat := none
  /-- Sequenced frames sent and accepted since UP (R466); reset 0. -/
  sent : Nat := 0
  accepted : Nat := 0
  /-- Sequenced frames sent and not acknowledged, oldest first, at most 2,048 (R466); reset empty. -/
  replay : List Frame := []
  /-- Frames waiting to be sent; reset empty. -/
  queue : List QEntry := []
  /-- Frames sent into each of the neighbour's 12 pools since UP, and freed slots it reported (R468); reset 0. -/
  poolSent : List Nat := List.replicate 12 0
  poolFreed : List Nat := List.replicate 12 0
  /-- Slots of the port's own 12 input pools freed since UP (R467); reset 0. -/
  ownFreed : List Nat := List.replicate 12 0
  /-- A frame failed its CRC, or came in RETRAIN, and later sequenced frames are discarded until its replay (R463, R466); reset false. -/
  discarding : Bool := false
  /-- Number of the first frame to replay when RETRAIN ends, as a NAK that came in RETRAIN asked (R463, R466); reset none. -/
  replayDue : Option Nat := none
  /-- Sequenced frames accepted since the last LINK_CTL was sent (R467); reset 0. -/
  sinceCtl : Nat := 0
  deriving DecidableEq, Repr

/-- The links, both dies (R459 to R495). -/
structure Shk where
  /-- Ports A0 to A11, then B0 to B11: 24 entries. -/
  ports : List Port := List.replicate 24 {}
  outFlows : List FlowOut := []
  inFlows : List FlowIn := []
  /-- The active ROUTE_TABLE fields (R478): port_en A and B, fabric size, origin, extent, mode, roots; reset none. -/
  route : Option RouteTable := none
  /-- Flows that keep the path of the table before the last switch until they are drained (R484): dst, vc, old table;
  reset empty. -/
  oldRoutes : List (Nat × Nat × RouteTable) := []
  /-- The table before the last switch that changed it, with the epoch and digest tags of its work (R484); reset none. -/
  oldTable : Option ((Nat × Nat) × RouteTable) := none
  /-- Messages of which a NO_ROUTE has been sent to the source: source, destination, vc, msg_seq (R483); reset empty. -/
  noRoute : List (Nat × Nat × Nat × Nat) := []
  /-- Frames waiting at the router input, oldest first (R487); reset empty. -/
  blocked : List Blocked := []
  /-- A first synchronisation has happened since reset (R475, R620); reset false. -/
  synced : Bool := false
  /-- Offset still to be removed by slewing, ft, signed (R475); reset 0. -/
  slew : Int := 0
  /-- Thousandths of a ft the changed rate has moved the counter beyond whole ft (R475); reset 0. -/
  slewPart : Nat := 0
  /-- SHK_FLAGS.unsync has been set since level 63 was reached (R473); reset false. -/
  unsyncSet : Bool := false
  deriving DecidableEq, Repr

/-- A piece asked of a device: the device, and the subject and row its PIECE_RD names (R521). -/
abbrev PieceAsk := Nat × Nat × SlotKey

/-- A rebuild of one slot or row at its target (R521 to R523). -/
structure Rebuild where
  /-- The device whose piece is missing (the device itself for a lost page). -/
  subject : Nat
  key : SlotKey
  /-- The missing piece is a parity slot, not a data row. -/
  parity : Bool
  /-- For a parity slot: its holder's slot number. -/
  slot : Nat
  /-- Pieces asked, received, stopped. -/
  asked : List PieceAsk
  received : List PieceAsk
  stopped : List PieceAsk
  acc : List Byte
  /-- Asked at once for a degraded read (R524). -/
  demand : Bool
  done : Bool
  deriving DecidableEq, Repr

/-- A source's obligation to copy deltas to a rebuild target (R521): the row named by the PIECE_RD, the lost member, the
target, and what the source holds: a row of the member `owner` it serves, or (parity) the slot of the holder `owner`. -/
structure Forward where
  owner : Nat
  subject : Nat
  target : Nat
  named : SlotKey
  own : SlotKey
  parity : Bool
  deriving DecidableEq, Repr

/-- A target's place in its share of a lost device (R525): the next row, or (parity) stripe, of a table to rebuild. -/
structure Share where
  subject : Nat
  table : Nat
  rem : Bool
  parity : Bool
  next : Nat
  deriving DecidableEq, Repr

/-- Lost rows of an owner (R530, R531): first, first + stride, and so on, but for those restored. -/
structure LostSet where
  owner : Nat
  table : Nat
  rem : Bool
  first : Nat
  stride : Nat
  count : Nat
  restored : List Nat
  deriving DecidableEq, Repr

/-- The rewrite of a slot's parity by the server of a restored row of `own` (R531): the pieces asked, received and stopped, each by its
device, subject and row, and the XOR of the parity and the data rows. -/
structure Rewrite where
  own : Nat
  key : SlotKey
  asked : List PieceAsk
  received : List PieceAsk
  stopped : List PieceAsk
  acc : List Byte
  deriving DecidableEq, Repr

/-- A parity slot under scrub (R526): table, remainder flag, slot, the data rows asked and received, each by its device, owner and row, the
XOR of those received, and the SOREDIUM messages held back, with their senders. -/
structure Scrub where
  table : Nat
  rem : Bool
  slot : HeldSlot
  asked : List PieceAsk
  received : List PieceAsk
  acc : List Byte
  held : List (Nat × Soredium)
  deriving DecidableEq, Repr

/-- A device declared lost (R502): its ID, t_d, the reason, the step counter at the declaration, and whether its recovery
epoch has committed. -/
structure LostDev where
  device : Nat
  td : Nat
  reason : Nat
  step : Nat
  committed : Bool
  deriving DecidableEq, Repr

/-- Recovery state beside its registers (R496 to R532). -/
structure Rec where
  /-- Notices held, oldest first (R504). -/
  notices : List Notice := []
  /-- The lost set, in order of declaration (R505). -/
  lost : List LostDev := []
  /-- The open recovery epoch: its number and t_commit (R516). -/
  open_ : Option (Nat × Nat) := none
  /-- Commit time of the last committed epoch (R516). -/
  lastCommit : Nat := 0
  rebuilds : List Rebuild := []
  /-- Slots whose spare has taken a lost piece's place: subject, key, parity (R523). -/
  spared : List (Nat × SlotKey × Bool) := []
  /-- Deltas to forward as a source (R521). -/
  forwards : List Forward := []
  /-- PIECE_RD served once pending commits are written: requester, subject, key (R521); and reads of rebuilt rows asked of this
  target by a deputy (R524). -/
  waitRd : List (Nat × Nat × SlotKey) := []
  /-- Rebuild shares in progress as a target (R525). -/
  shares : List Share := []
  /-- DONE notices held: subject, sender, and whether this device sent its own (R525). -/
  dones : List (Nat × Nat) := []
  /-- Rows lost under R527 (R531). -/
  lostRows : List LostSet := []
  /-- Dense blocks lost and not restored (R531). -/
  lostBlocks : List Nat := []
  /-- Rollback records in the ring that software has not read, at most 16,384 (R530); reset 0. -/
  rbCount : Nat := 0
  /-- Parity slots being rewritten after a restore (R531); reset empty. -/
  rewrites : List Rewrite := []
  /-- Rows of lost members that their spare holder has given this device since they were rebuilt (R524); reset empty. -/
  given : List (Nat × SlotKey) := []
  /-- The parity slot under scrub (R526); reset none. -/
  scrub : Option Scrub := none
  deriving DecidableEq, Repr

/-- Where a fetched command stands (R549). -/
inductive CmdPhase where
  | waiting | running
  deriving DecidableEq, Repr

/-- The end a command has reached: status, reason, outcome and result bytes of R547. -/
structure CmdEnd where
  status : Nat
  reason : Nat := 0
  outcome : Nat := 0
  result : List Byte := []
  deriving DecidableEq, Repr

/-- A command in progress (R543, R546). -/
structure Cmd where
  /-- 64-bit index (R540). -/
  index : Nat
  op : CmdOp
  head : CmdHead
  /-- Fabric time of the fetch (R550). -/
  tFetch : Nat
  /-- Fabric time of the start (R547). -/
  tStart : Nat
  phase : CmdPhase
  /-- Set once the command's work has ended naturally; it then waits for the retire point. -/
  fin : Option CmdEnd := none
  /-- Bytes the device read for the command from host memory, when they came with the fetch. -/
  data : Option (List Byte) := none
  /-- The command is fetching from host memory (R564). -/
  fetching : Bool := false
  /-- Host-bound data bytes issued and not yet confirmed, and confirmed (R563). -/
  unconf : Nat := 0
  confirmed : Nat := 0
  /-- An unconfirmed host-bound write of the command was discarded (R564). -/
  torn : Bool := false
  /-- Device-local writes of the command, which retires after them (R18): address, length. -/
  wrote : List (Nat × Nat) := []
  /-- An ABORT or its timeout has stopped the command (R550, R561). -/
  stopped : Bool := false
  deriving DecidableEq, Repr

/-- A completion record (R547), its flag apart. -/
structure CplRec where
  index : Nat
  cmdId : Nat
  opcode : Nat
  status : Nat
  reason : Nat
  outcome : Nat
  tStart : Nat
  tEnd : Nat
  result : List Byte
  /-- Host-bound data bytes of the command confirmed and not (R563, R566). -/
  confirmed : Nat
  unconf : Nat
  /-- The record is written after the writes of its command (R558): those to device memory, address and length, and with peer_order the
  messages to peers. A device that fails lets it go at once (R499). -/
  waits : Bool := false
  wrote : List (Nat × Nat) := []
  ordered : Bool := false
  deriving DecidableEq, Repr

/-- Command intake (R540 to R567). -/
structure CmdState where
  /-- Descriptors fetched, 64 bits (R540); reset 0. -/
  fetched : Nat := 0
  /-- Commands in progress in index order, at most 256 (R543); reset empty. -/
  active : List Cmd := []
  /-- Completion records held, oldest first (R545, R565); reset empty. -/
  held : List CplRec := []
  /-- Finished commands that wait at the retire point for room, in order of arrival (R565); reset empty. -/
  atPoint : List Nat := []
  /-- Flushing reads issued and not completed, oldest first (R563): records written to the ring when it was issued, and
  the host-bound bytes each command had issued by then; reset empty. -/
  flushes : List (Nat × List (Nat × Nat)) := []
  /-- Records written to the ring and not confirmed, oldest first (R563); reset empty. -/
  unconf : List CplRec := []
  /-- Indices of completed commands, newest first, at most 65,536 (R561); reset empty. -/
  done : List Nat := []
  /-- Completion records written to the ring in use (R544, R545); reset 0. -/
  cplWritten : Nat := 0
  /-- cpl_consumed as last read from the control line (R545); reset 0. -/
  cplConsumed : Nat := 0
  /-- Status page cpl_durable (R566); reset 0. -/
  cplDurable : Nat := 0
  /-- Torn list: index, host-bound bytes confirmed (R566); reset empty. -/
  torn : List (Nat × Nat) := []
  /-- Status page reason of the last detach (R566); reset 0. -/
  detachReason : Nat := 0
  /-- Status page detach_time (R566); reset 0. -/
  detachTime : Nat := 0
  /-- Status page input_step (R566); reset 0. -/
  inputStep : Nat := 0
  /-- Session of the last attach as the status page holds it (R566); reset 0. -/
  session : Nat := 0
  deriving DecidableEq, Repr

/-- The host port beside its registers (R533, R562, R605). -/
structure HostPort where
  /-- PERST_N high: the host link may train (R562); reset false. -/
  perstHigh : Bool := false
  /-- MSI-X enabled on the function (R605); reset false. -/
  msixEn : Bool := false
  /-- MSI-X function mask (PCIe MSI-X, R605); reset false. -/
  msixMaskAll : Bool := false
  /-- The host port is in reset (level HOSTPORT or above); reset true. -/
  inReset : Bool := true
  /-- CXL.cache negotiated at the last link-up (R571); reset false. -/
  cacheNegotiated : Bool := false
  /-- Expanders present, bit i for expander i (R534, R571); reset 0. -/
  expPresent : Nat := 0
  /-- Far-memory port in x16 mode (R571), strap FAR_X4 (R680); reset true. -/
  farX16 : Bool := true
  /-- FAR_PERST_N is high (R679); reset false. -/
  farPerstHigh : Bool := false
  /-- Bases whose last write was not aligned, which reserved bits do not show: bit 0 CMD_RING, 1 CMD_CPL, 2 CMD_LINE (R540); reset 0. -/
  unaligned : Nat := 0
  deriving DecidableEq, Repr

/-- The reset controller and the power manager beside their registers (R572 to R601, R672 to R680). -/
structure Rst where
  /-- Level of the reset that is held, 1 HOSTPORT to 4 FULL; reset FULL, held by the power-on source (R576, R672). -/
  hold : Option Nat := some 4
  /-- The power-on source is asserted (R672); reset true. -/
  powerOn : Bool := true
  /-- PWR_OK is high (R672, R673); reset false. -/
  pwrOk : Bool := false
  /-- The thermal trip holds reset: THERMTRIP_N is low (R600, R677); reset false. -/
  tripped : Bool := false
  /-- How far the release order of R580 has come: 0 held, 1 FTM and AON, 2 MGT and DBG, 3 every domain; reset 0. -/
  phase : Nat := 0
  /-- Domains released, bit d for domain d (R579, R580); reset 0. -/
  released : Nat := 0
  /-- Level of the reset that began the bring-up (R590); reset FULL. -/
  startLevel : Nat := 4
  /-- A recovery image load has been done since recovery mode began (R592); reset false. -/
  imageLoaded : Bool := false
  /-- FAIL_N and FAR_PERST_N are driven high (R679); FAR_PERST_N stands in HostPort; reset false. -/
  failHigh : Bool := false
  /-- Code of the block whose BLOCK reset is in progress, the time of its request, and whether its reset is asserted (R583);
  reset none, 0, false. -/
  block : Option Nat := none
  blockAt : Nat := 0
  asserted : Bool := false
  /-- Quadrants whose clock is halved, and quadrants whose detectors halved NOC, as masks (R595, R596); reset 0. -/
  halved : Nat := 0
  noc : Nat := 0
  /-- Fabric time at which the pause began (R597); reset 0. -/
  pauseSince : Nat := 0
  /-- Package power of the last 100 µs, newest first, in W (R598); reset empty. -/
  samples : List Nat := []
  /-- Time since which the mean has been below 98% of the cap (R598); reset none. -/
  belowSince : Option Nat := none
  /-- Time of the last throttle step, and time up to which throttled time is counted (R598); reset 0. -/
  stepAt : Nat := 0
  countedTo : Nat := 0
  /-- A junction sensor has read 100 °C and not every sensor below 95 °C since (R599); reset false. -/
  hot : Bool := false
  /-- Stacks whose base die limits them to half their bandwidth, as a mask (R599); reset 0. -/
  limited : Nat := 0
  /-- VR_HOT_N is low (R678); reset false. -/
  vrHot : Bool := false
  deriving DecidableEq, Repr

/-- A source in service on a target with the priority it holds there (R609, R612). -/
structure InService where
  target : Nat
  source : Nat
  prio : Nat
  deriving DecidableEq, Repr

/-- The event gatherer beside its registers (R602 to R618). -/
structure Evg where
  /-- Target each source was last routed to; an unlisted source counts as target 32 (R606); reset empty. -/
  last : Sparse Nat := []
  /-- Sources in service (R607, R609); reset empty. -/
  insvc : List InService := []
  /-- Firings latched while hold is set, oldest first (R615); reset empty. -/
  latched : List Nat := []
  /-- Fabric time at which hold was last set (R615); reset 0. -/
  holdSince : Nat := 0
  /-- Targets with a message delayed by moderation (R613); reset empty. -/
  delayed : List Nat := []
  /-- Fabric time of the last message to each target (R613); reset empty. -/
  lastMsg : List (Nat × Nat) := []
  /-- MSI-X pending-bit array, targets waiting for their entry to be unmasked (R605); reset empty. -/
  msixPend : List Nat := []
  deriving DecidableEq, Repr

/-- A trace entry (R640). -/
structure TraceEntry where
  time : Nat
  kind : Nat
  unit : Nat
  arg0 : Nat
  arg1 : Nat
  deriving DecidableEq, Repr

/-- A COUNTER_PLAN section in effect (R643). -/
structure CounterPlan where
  nSel : Nat := 0
  mode : Nat := 0
  kinds : Nat := 0
  base : Nat := 0
  pages : Nat := 0
  sels : List Nat := []
  deriving DecidableEq, Repr

/-- The counter block and trace unit beside their registers (R619 to R644). -/
structure Cnt where
  /-- Record words 8 to 87, 64 bits each, saturating (R623, R626 to R628); reset 0. -/
  words : Sparse Nat := []
  /-- Increments of every count register since the CNT block's reset, by BAR0 offset (R623, R629); reset 0. -/
  sums : Sparse Nat := []
  /-- The register file as a freeze found it, while the frozen view lasts (R635); the record words of the view are
  CNT_FROZEN; reset none. -/
  frozen : Option (Sparse W64) := none
  /-- Model's own: the number under which the freeze took its open counts (Config.openCount); reset 0. -/
  frozenKey : Nat := 0
  /-- The active COUNTER_PLAN (R643); reset none selected, trace off. -/
  plan : CounterPlan := {}
  /-- Fabric time of the last latch of the bus (R632); reset none. -/
  lastLatch : Option Nat := none
  /-- Command index of the pending FREEZE_AT (R634); reset none. -/
  freezeCmd : Option Nat := none
  /-- Entries waiting in the trace unit's buffer, oldest first, at most 64 (R641); reset empty. -/
  traceQ : List TraceEntry := []
  /-- Entries were dropped since the last one accepted (R641); reset false. -/
  dropped : Bool := false
  /-- Fabric time from which the trace unit may write its next entry (R641); reset 0. -/
  traceFrom : Nat := 0
  /-- Half of the ring was reached since software last wrote the tail (R642); reset false. -/
  halfSeen : Bool := false
  /-- Krovat compatibility mode chosen, in effect from the next latch (R639), AON; reset none. -/
  privNext : Option Bool := none
  deriving DecidableEq, Repr

/-- A management request (R648): interface (0 I3C, 1 PCIe, 2 mailbox), opcode, tag, body, and what happens while it executes. -/
structure MgtReq where
  iface : Nat
  opcode : Nat
  tag : Nat
  body : List Byte
  env : MgtEnv := ⟨none, true⟩
  deriving DecidableEq, Repr

/-- The management controller beside its registers (R645 to R663). -/
structure Mgt where
  /-- Bits set in each fuse word since manufacture (R658, R659), over Config.factoryFuse; nonvolatile; reset none. -/
  fuseSet : Sparse Nat := []
  /-- The same as sensed at the last FULL reset, from which the fuses take effect (R659); reset none. -/
  fuseSensed : Sparse Nat := []
  /-- Boot flash bytes that FW_LOAD has written, over Config.factoryFlash (R651, R654); nonvolatile; reset none. -/
  flash : Sparse (Option Byte) := []
  /-- The repair log in the boot flash, oldest first: stack, kind (1 repair, 2 marked pin, 3 retired frame), channel or 0xFF, and
  frame or pin (R345); nonvolatile; reset empty. -/
  repairLog : List (Nat × Nat × Nat × Nat) := []
  /-- The controller's program: 0 the boot ROM reading the image, 1 the firmware, 2 the boot ROM alone (R591, R652); reset 0. -/
  running : Nat := 0
  /-- SHA-384 of the running firmware's header and body (R661); reset none. -/
  fwDigest : List Byte := []
  /-- DEBUG_UNLOCK in effect (R649); reset false. -/
  debugUnlocked : Bool := false
  /-- MCTP endpoint IDs of the I3C and PCIe interfaces (R646); reset 0. -/
  eids : List Nat := [0, 0]
  /-- The MARGIN request that executes, with its stack (R347, R348, R647); reset none. -/
  margin : Option (MgtReq × Nat) := none
  /-- Requests that wait, oldest first, at most one of each interface (R647); reset empty. -/
  waiting : List MgtReq := []
  deriving DecidableEq, Repr
/-- The whole machine. -/
structure State where
  /-- Every BAR0 register (R536), keyed by BAR0 offset; an unlisted offset holds its table's reset value. -/
  regs : Sparse W64 := []
  /-- Memory bytes: device addresses (R265, R267, R106), peat frames and accumulator memory under the model keys of
  Machine/Mem.lean; an unlisted byte is 0 (R349, R142, R270). -/
  mem : Sparse Byte := []
  /-- The fabric-time counter, 64 bits (R619); reset 0. -/
  ft : Nat := 0
  /-- The step counter, 48 bits (R101); reset 0. -/
  stepCtr : Nat := 0
  thl : Thl := {}
  tier : Tier := {}
  /-- Stacks 0 to 7: 8 entries. -/
  stackList : List Stack := List.replicate 8 {}
  cmd : CmdState := {}
  hst : HostPort := {}
  shk : Shk := {}
  sor : Sorus := {}
  seq : SeqState := {}
  rau : RauState := {}
  scl : Scl := {}
  recov : Rec := {}
  evg : Evg := {}
  cnt : Cnt := {}
  mgt : Mgt := {}
  rst : Rst := {}
  /-- Model's own: the commands waiting, first in first out; reset empty. -/
  pending : List Instr := []
  /-- Model's own: what left the device, newest first; reset empty. -/
  out : List Out := []
  /-- Model's own: how many free values have been taken; reset 0. -/
  free : Nat := 0
  deriving DecidableEq, Repr

/-- The machine at power-on, while the power-on source holds it and before PWR_OK rises (R576, R672): every field at its reset value;
RST_STATUS and RST_CAUSE record the power-on source at level FULL. -/
def State.reset : State := { regs := [(0x90008, 0x800), (0x90020, 1)] }

end Sys2Proof.Machine
end

