-- ==== Sys2Proof/Machine/Ops.lean ====
section
/-! DEFINITION. Named operations over registers, memory bytes, outputs, time and free values. -/

namespace Sys2Proof.Machine

/-! ## The register table -/

/-- A register a BAR0 offset lies in: its block's index, the block's instance, its row, its index in an array, its own
first offset. -/
structure RegHit where
  blk : Nat
  inst : Nat
  row : RegRow
  idx : Nat
  start : Nat
  deriving DecidableEq, Repr

/-- The row of a block, if any, with a byte at block offset `o`. -/
def rowHit : List RegRow → Nat → Option (RegRow × Nat × Nat)
  | [], _ => none
  | r :: rs, o =>
    let i := if r.stride = 0 then 0 else (o - r.off) / r.stride
    let start := r.off + i * r.stride
    if r.off ≤ o ∧ r.lo ≤ i ∧ i < r.lo + r.cnt ∧ start ≤ o ∧ o < start + r.w / 8 then some (r, i, start)
    else rowHit rs o

/-- The block of BAR0 an offset lies in (R536): its index, its instance, its offset inside. -/
def blockHit : List RegBlock → Nat → Nat → Option (RegBlock × Nat × Nat × Nat)
  | [], _, _ => none
  | b :: bs, k, off =>
    let i := if b.n = 1 then 0 else (off - b.base) / b.stride
    if b.base ≤ off ∧ i < b.n ∧ off - b.base - i * b.stride < b.size then some (b, k, i, off - b.base - i * b.stride)
    else blockHit bs (k + 1) off

/-- The register a BAR0 offset lies in. -/
def regHit (off : Nat) : Option RegHit :=
  match blockHit regBlocks 0 off with
  | none => none
  | some (b, k, i, o) =>
    match rowHit b.rows o with
    | none => none
    | some (r, idx, start) => some ⟨k, i, r, idx, off - o + start⟩

/-- The part of a reset value that depends on the block's instance or the register's index (Reset and Meaning columns of
FRD_ID, SOR_ID, STK_ID, RAU_ID, SHK_ID, EVG_SRC_CFG, EVG_TGT_CTL). No rule gives the words of the MSI-X table a reset value (R605):
each vector-control word starts with its mask bit set, the others at 0 (PRESUMED, log 126). -/
def resetSpecial (h : RegHit) : Nat :=
  match h.row.special with
  | 1 => h.inst
  | 2 => h.inst + (h.inst / 8) <<< 8
  | 3 => h.inst <<< 16
  | 4 => if 141 ≤ h.idx ∧ h.idx ≤ 150 then 8 <<< 36 + 1 <<< 32 else 0
  | 5 => if h.idx = 32 then 1 <<< 31 else 0
  | 6 => if h.idx % 4 = 3 then 1 else 0
  | _ => 0

/-- The reset value of the register that starts at a BAR0 offset (R12). -/
def regReset (r : Nat) : W64 :=
  match regHit r with
  | none => 0
  | some h => BitVec.ofNat 64 (h.row.reset + resetSpecial h)

/-! ## Registers -/

/-- The stored value of the register at BAR0 offset `r`. -/
def reg (s : State) (r : Nat) : W64 := spGet (regReset r) s.regs r

/-- Store a register's value. -/
def setReg (s : State) (r : Nat) (v : W64) : State := { s with regs := spSet (regReset r) s.regs r v }

/-- A field of a register's value. -/
def fget (f : Field) (v : W64) : Nat := bitsOf v.toNat f.lo f.w

/-- A register's value with a field replaced. -/
def fset (f : Field) (v : W64) (x : Nat) : W64 := BitVec.ofNat 64 (setBits v.toNat f.lo f.w x)

/-- A field of a register. -/
def rf (s : State) (r : Nat) (f : Field) : Nat := fget f (reg s r)

/-- Whether a one-bit field is set. -/
def rb (s : State) (r : Nat) (f : Field) : Bool := decide (rf s r f = 1)

/-- Set a field of a register. -/
def wf (s : State) (r : Nat) (f : Field) (x : Nat) : State := setReg s r (fset f (reg s r) x)

/-- Add to a 64-bit count register, saturating, and report the increment to the CNT block (R623). -/
def bump (s : State) (r n : Nat) : State :=
  let s := setReg s r (BitVec.ofNat 64 (satAdd64 (reg s r).toNat n))
  { s with cnt := { s.cnt with sums := spSet 0 s.cnt.sums r (satAdd64 (spGet 0 s.cnt.sums r) n) } }

/-- Add to a word of the counter record (R623, R626 to R628). -/
def cntAdd (s : State) (w n : Nat) : State :=
  { s with cnt := { s.cnt with words := spSet 0 s.cnt.words w (satAdd64 (spGet 0 s.cnt.words w) n) } }

/-- Raise a register count to at least `n` (a longest-duration register). -/
def raiseTo (s : State) (r n : Nat) : State := setReg s r (BitVec.ofNat 64 (max (reg s r).toNat (min n (2 ^ 64 - 1))))

/-- Return the registers in [lo, lo + n) that `keep` does not select to their reset values. -/
def resetRegs (s : State) (lo n : Nat) (keep : Nat → Bool) : State :=
  { s with regs := spClear (fun r => decide (lo ≤ r) && decide (r < lo + n) && !keep r) s.regs }

/-! ## Memory bytes -/

/-- The byte at a model key. -/
def byteAt (s : State) (a : Nat) : Byte := spGet 0 s.mem a

/-- `n` bytes from a model key upwards. -/
def bytesAt (s : State) (a n : Nat) : List Byte := (List.range n).map (fun i => byteAt s (a + i))

/-- The `n`-byte little-endian number at a model key. -/
def numAt (s : State) (a n : Nat) : Nat := leVal (bytesAt s a n)

/-- A byte stored. -/
def putByte (m : Sparse Byte) (a : Nat) (b : Byte) : Sparse Byte := spSet 0 m a b

/-- Bytes stored from a key upwards. -/
def putBytes (m : Sparse Byte) : Nat → List Byte → Sparse Byte
  | _, [] => m
  | a, b :: bs => putBytes (putByte m a b) (a + 1) bs

/-- Store bytes at a model key. -/
def setBytes (s : State) (a : Nat) (bs : List Byte) : State := { s with mem := putBytes s.mem a bs }

/-- Zero the keys in [a, a + n). -/
def zeroKeys (s : State) (a n : Nat) : State :=
  { s with mem := spClear (fun k => decide (a ≤ k) && decide (k < a + n)) s.mem }

/-! ## Outputs, time, free values -/

/-- Record what leaves the device. -/
def emit (s : State) (o : Out) : State := { s with out := o :: s.out }

/-- A value the spec leaves open, `w` bits wide, fresh at each call. -/
def takeFree (w : Nat) (s : State) : Nat × State :=
  ((Config.freeValue s.free).toNat % 2 ^ w, { s with free := s.free + 1 })

/-! ## Requests of the reset controller (R583, R597, R679) -/

/-- The reset controller asks the block of a code of R585 to go idle, or holds its reset. -/
def idleAsked (s : State) (code : Nat) : Bool := decide (s.rst.block = some code)

/-- A BLOCK reset holds sorus engine `n`: it retires no work until it is released (R584). -/
def engineHeld (s : State) (n : Nat) : Bool := s.rst.asserted && idleAsked s (0x20 + n)

/-- The device pauses (R597). -/
def pausedNow (s : State) : Bool := rb s R.RST_STATUS F.RST_STATUS_paused

/-- Drive FAIL_N. -/
def setFailPin (s : State) (high : Bool) : State :=
  if s.rst.failHigh = high then s else emit { s with rst := { s.rst with failHigh := high } } (.pin .fail high)

/-! ## Fuses (R658, R659) -/

/-- Fuse word `w` as made: words 56 to 127 by the factory, the others unprogrammed. -/
def fuseMade (w : Nat) : Nat := if 56 ≤ w then (Config.factoryFuse w).toNat else 0

/-- A fuse word as programmed now, and as sensed at the last FULL reset. -/
def fuseNow (s : State) (w : Nat) : Nat := fuseMade w ||| spGet 0 s.mgt.fuseSet w
def fuseWord (s : State) (w : Nat) : Nat := fuseMade w ||| spGet 0 s.mgt.fuseSensed w

/-- Capability `n` is not disabled by fuse (R65). -/
def capFused (s : State) (n : Nat) : Bool := !bitOf (fuseWord s 5) n

/-! ## Identity -/

/-- The device's own ID (R6, R686). -/
def selfId (s : State) : Nat := bitsOf (reg s R.DEV_FABRIC_ID).toNat 0 14

/-- Clique part of a device ID, member part (R6). -/
def cliqueOf (d : Nat) : Nat := d / 4
def memberOf (d : Nat) : Nat := d % 4

end Sys2Proof.Machine
end

