-- ==== Sys2Proof/Machine/Events.lean ====
section
/-! DEFINITION. Events: firing, routing and messages of the event gatherer, the trace buffer and the violation log. -/

namespace Sys2Proof.Machine

/-! ## The event gatherer (R603 to R613) -/

/-- The pending bit of a source (R603). -/
def evgPend (s : State) (src : Nat) : Bool := (reg s (R.EVG_PEND (src / 32))).toNat.testBit (src % 32)

/-- Set or clear a pending bit. -/
def setPend (s : State) (src : Nat) (v : Bool) : State :=
  wf s (R.EVG_PEND (src / 32)) ⟨src % 32, 1⟩ (b2n v)

/-- Pending sources, ascending. -/
def pendingSources (s : State) : List Nat :=
  (List.range 10).flatMap (fun w => (setBitsOf 32 (reg s (R.EVG_PEND w)).toNat).map (fun b => 32 * w + b))

/-- Priority and current target of a source. -/
def evgPrio (s : State) (src : Nat) : Nat := rf s (R.EVG_SRC_CFG src) F.EVG_SRC_CFG_priority
def evgTarget (s : State) (src : Nat) : Nat := rf s (R.EVG_SRC_CFG src) F.EVG_SRC_CFG_cur_target

/-- A source is masked (R604). -/
def evgMasked (s : State) (src : Nat) : Bool := (reg s (R.EVG_MASK (src / 32))).toNat.testBit (src % 32)

/-- A target is enabled (R605). -/
def evgEnabled (s : State) (t : Nat) : Bool :=
  rb s (R.EVG_TGT_CTL t) F.EVG_TGT_CTL_en && (decide (32 ≤ t) || s.hst.msixEn)

/-- A target is an enabled one in the source's mask. -/
def evgCandidate (s : State) (src t : Nat) : Bool :=
  decide (t < 33) && evgEnabled s t && (reg s (R.EVG_SRC_CFG src)).toNat.testBit t

/-- The first enabled target in the source's mask after the one it was last routed to (R606). -/
def evgNextTarget (s : State) (src : Nat) : Option Nat :=
  let l := spGet 32 s.evg.last src
  ((List.range 33).map (fun i => (l + 1 + i) % 33)).find? (evgCandidate s src)

/-- Route a source afresh (R606). -/
def evgRoute (s : State) (src : Nat) : State :=
  match evgNextTarget s src with
  | none => wf s (R.EVG_SRC_CFG src) F.EVG_SRC_CFG_cur_target 0x3F
  | some t =>
    let s := wf s (R.EVG_SRC_CFG src) F.EVG_SRC_CFG_cur_target t
    { s with evg := { s.evg with last := spSet 32 s.evg.last src t } }

/-- A source is in service on a target. -/
def inService (s : State) (src t : Nat) : Bool := s.evg.insvc.any (fun e => e.source = src && e.target = t)

/-- The level of a target: the highest priority in service on it (R607). -/
def evgLevel (s : State) (t : Nat) : Nat :=
  s.evg.insvc.foldl (fun m e => if e.target = t then max m e.prio else m) 0

/-- A pending source routed to `t` is deliverable there (R604, R607). -/
def evgDeliverable (s : State) (t src : Nat) : Bool :=
  evgPend s src && decide (evgTarget s src = t) && !evgMasked s src
    && decide (max (rf s (R.EVG_TGT_CTL t) F.EVG_TGT_CTL_threshold) (evgLevel s t) < evgPrio s src)

/-- The deliverable source of highest priority on a target, ties to the lower number (R609). -/
def evgBest (s : State) (t : Nat) : Option Nat :=
  maxBy (evgPrio s) ((pendingSources s).filter (evgDeliverable s t))

/-- A target is idle but for the source just deliverable: nothing in service, no other pending source routed to it (R613). -/
def evgIdle (s : State) (t : Nat) : Bool :=
  !(s.evg.insvc.any (fun e => e.target = t))
    && decide (((pendingSources s).filter (fun x => evgTarget s x = t)).length ≤ 1)

/-- The MSI-X table entry of a vector is masked (R605): bit 0 of its fourth word. -/
def msixMasked (s : State) (t : Nat) : Bool :=
  s.hst.msixMaskAll || (reg s (R.MSIX_TABLE (4 * t + 3))).toNat.testBit 0

/-- Send a message of priority `p` to a target (R608). -/
def evgSend (s : State) (t p : Nat) : State :=
  let s := wf s (R.EVG_TGT_LEVEL t) F.EVG_TGT_LEVEL_signalled p
  let s := { s with evg := { s.evg with lastMsg := alSet s.evg.lastMsg t s.ft, delayed := s.evg.delayed.filter (· ≠ t) } }
  let s := bump s R.EVG_MSG_CNT 1
  if t = 32 then emit s (.mgmtEvent p)
  else if msixMasked s t then { s with evg := { s.evg with msixPend := insertAsc t s.evg.msixPend } }
  else emit s (.msix t)

/-- The interval of a target has passed since its last message, or there is none (R613). -/
def evgIntervalOver (s : State) (t : Nat) : Bool :=
  let iv := rf s (R.EVG_TGT_MOD t) F.EVG_TGT_MOD_interval
  match s.evg.lastMsg.find? (fun e => e.1 = t) with
  | none => true
  | some e => decide (e.2 + iv * 100 ≤ s.ft)

/-- Send or delay the message a target is due (R608, R613). The exception for an idle target holds for a source that becomes
deliverable anew (`new`), not for one that was pending behind its own service (R611; DEDUCED, log 98). -/
def evgNotifyAs (new : Bool) (s : State) (t : Nat) : State :=
  match evgBest s t with
  | none => s
  | some src =>
    let p := evgPrio s src
    if p ≤ rf s (R.EVG_TGT_LEVEL t) F.EVG_TGT_LEVEL_signalled then s
    else if evgIntervalOver s t || (new && evgIdle s t) then evgSend s t p
    else if s.evg.delayed.contains t then s
    else bump { s with evg := { s.evg with delayed := s.evg.delayed ++ [t] } } R.EVG_MOD_DELAY_CNT 1

/-- Route every pending source whose target is gone, then send what the targets are due (R606, R608). -/
def evgSettle (s : State) : State :=
  let s := forEach (fun s src => if evgCandidate s src (evgTarget s src) then s else evgRoute s src) s (pendingSources s)
  forEach (evgNotifyAs true) s (((pendingSources s).map (evgTarget s)).eraseDups.filter (· < 33))

/-- A firing outside hold: the pending bit is set and, unless the source is in service where it is routed, it is routed
(R603, R606, R611). Answers whether the firing did not merge. -/
def evgMark (s : State) (src : Nat) : State × Bool :=
  if evgPend s src then (s, false)
  else
    let s := setPend s src true
    let s := if inService s src (evgTarget s src) then s else evgRoute s src
    (evgSettle s, true)

/-! ## The trace unit's buffer (R640, R641) -/

/-- A kind is traced now: the unit is on and the active plan selects the kind (R643). -/
def traceWants (s : State) (kind : Nat) : Bool :=
  rb s R.CNT_STATUS F.CNT_STATUS_trace_on && bitOf s.cnt.plan.kinds kind

/-- Hand an entry to the trace unit; beyond 64 waiting it is dropped (R641). -/
def tracePush (s : State) (kind unit arg0 arg1 : Nat) : State :=
  if !traceWants s kind then s
  else if s.cnt.traceQ.length < 64 then
    { s with cnt := { s.cnt with traceQ := s.cnt.traceQ ++ [⟨s.ft, kind, unit, arg0, arg1⟩] } }
  else
    let s := bump { s with cnt := { s.cnt with dropped := true } } R.CNT_TRACE_DROP 1
    let s := wf s R.CNT_FLAGS F.CNT_FLAGS_drop 1
    if rb s R.CNT_CTL F.CNT_CTL_drop_event_en then
      let r := evgMark s 149
      if r.2 && traceWants s 7 then bump r.1 R.CNT_TRACE_DROP 1 else r.1
    else s

/-- A source becomes pending, with its trace entry when the firing does not merge. -/
def evgPendSource (s : State) (src : Nat) : State :=
  let r := evgMark s src
  if r.2 then tracePush r.1 7 0xFF src (evgTarget r.1 src) else r.1

/-- A source fires (R603); under hold the firing is latched (R615). -/
def evgFire (s : State) (src : Nat) : State :=
  if rb s R.EVG_CTL F.EVG_CTL_hold then { s with evg := { s.evg with latched := s.evg.latched ++ [src] } }
  else
    evgPendSource s src

/-- Fire a source when an enable holds. -/
def evgFireIf (s : State) (en : Bool) (src : Nat) : State := if en then evgFire s src else s

/-- Set a sticky flag, firing the source when the flag was clear and the enable holds. -/
def flagEvent (s : State) (r : Nat) (f : Field) (en : Bool) (src : Nat) : State :=
  if rb s r f then s else evgFireIf (wf s r f 1) en src

/-! ## Violations (R568 to R570) -/

/-- Enter a violation in the log, count it and raise its event (R570). Source 0 host port, 1 window, 2 peer,
3 internal. -/
def violation (s : State) (source addr requester : Nat) (write : Bool) (cause : Nat) : State :=
  let h := rf s R.HST_VIOL_HEAD F.HST_VIOL_HEAD_head
  let s := setReg s (R.HST_VIOL_LOG_W0 h) (BitVec.ofNat 64 (source <<< 62 + addr % 2 ^ 62))
  let s := setReg s (R.HST_VIOL_LOG_W1 h)
    (BitVec.ofNat 64 ((s.ft % 2 ^ 32) <<< 32 + (requester % 2 ^ 16) <<< 16 + b2n write <<< 8 + cause))
  let s := wf s R.HST_VIOL_HEAD F.HST_VIOL_HEAD_head (h + 1)
  let s := cntAdd (bump s R.HST_VIOL_CNT 1) 21 1
  evgFireIf s (rb s R.HST_CTL F.HST_CTL_viol_event_en) 144

/-- A violating read and a violating write of the host (R569, R570). -/
def violRead (s : State) (source addr req cause : Nat) (ur : Bool) : State :=
  emit (violation s source addr req false cause) (.readData (if ur then .ur else .ca))
def violWrite (s : State) (source addr req cause : Nat) : State := emit (violation s source addr req true cause) .aer

/-- BAR0 serves the block of an offset: in recovery mode DEV, HST, RST and the MGT mailbox only (R591). -/
def barServed (s : State) (off : Nat) : Bool :=
  !rb s R.RST_STATUS F.RST_STATUS_recovery || (match blockHit regBlocks 0 off with
    | some (_, k, _, _) => [0, 1, 6, 15].contains k
    | none => false)

/-- A write of the host, with requester ID `req`, to the register at a BAR0 offset: its effect, or the violation of R591; nothing
arrives without a link. -/
def hostWrites (s : State) (req off : Nat) (f : State → State) : State :=
  if !rb s R.HST_STATUS F.HST_STATUS_link_up then s
  else if barServed s off then f s
  else violWrite s 0 off req 2

end Sys2Proof.Machine
end

