-- ==== Sys2Proof/Machine/Mem.lean ====
section
/-! DEFINITION. The device address space (R265 to R269, R106), the page table, translation, allocation of frames, touches and
writes of the tiered range (R270 to R302). -/

namespace Sys2Proof.Machine

/-! ## Addresses -/

/-- Raw HBM base of stack `n` (R267). -/
def hbmBase (n : Nat) : Nat := 0x1000_0000_0000 + n * 0x14_0000_0000

/-- Frond store base (R106). -/
def storeBase (f : Nat) : Nat := 0x2000_0000_0000 + f * 0x100_0000

/-- Bytes of a frond store, 12 MiB (R105). -/
def storeSize : Nat := 0xC0_0000

/-- Model key of a peat frame's first byte (model's own addressing, above the 48-bit device space). -/
def peatKey (source frame : Nat) : Nat := 2 ^ 48 + source * 2 ^ 44 + frame * 0x1_0000

/-- Model key of a place's first byte. -/
def placeKey : Place → Nat
  | .t1 n f => hbmBase n + f * 0x1_0000
  | .t2 s f => peatKey s f

/-- Stack of a raw HBM address, none outside raw HBM. -/
def hbmStack (a : Nat) : Option Nat :=
  if 0x1000_0000_0000 ≤ a ∧ a < 0x1000_0000_0000 + 8 * 0x14_0000_0000 then some ((a - 0x1000_0000_0000) / 0x14_0000_0000)
  else none

/-! ## Stacks as accesses find them (R316, R320 to R324, R340, R348 to R351) -/

def stackOf (s : State) (n : Nat) : Stack := s.stackList.getD n {}
def modStack (s : State) (n : Nat) (f : Stack → Stack) : State := { s with stackList := modAt f s.stackList n }

/-- Bytes of a stack (R265). -/
def stackSize : Nat := 0x14_0000_0000

/-- Frame, channel, bank and DRAM row of an offset in a stack (R316). -/
def frameOf (off : Nat) : Nat := off / 65536
def channelOf (off : Nat) : Nat := off % 65536 / 64 % 32
def bankOf (off : Nat) : Nat := frameOf off % 64
def rowOf (off : Nat) : Nat := frameOf off / 64

/-- Offset and lines a transaction touches. -/
def txLines : StackTx → Nat × Nat
  | .rd64 _ off _ => (off, 1)
  | .rd256 _ off _ => (off, 4)
  | .wr64 _ off _ _ _ => (off, 1)
  | .wr256 _ off _ => (off, 4)
  | .msg _ => (0, 0)

/-- The base die serves accesses: initialised, its link trained and the stack not lost (R320, R321, R349). -/
def stackServes (s : State) (n : Nat) : Bool :=
  let st := R.STK_STATUS n
  rb s st F.STK_STATUS_init_done && !rb s st F.STK_STATUS_retraining && !(stackOf s n).lost

/-- It accepts new ones as well: it has not been asked to go idle (R351). -/
def stackOpen (s : State) (n : Nat) : Bool := stackServes s n && !idleAsked s (0x28 + n)

/-- A channel serves no access while it is margined (R348). -/
def channelBusy (s : State) (n c : Nat) : Bool :=
  rb s (R.STK_STATUS n) F.STK_STATUS_mrg_active && decide (rf s (R.STK_MRG_STATUS n) F.STK_MRG_STATUS_channel = c)

/-- The pieces of [a, a + n) by 64 KiB, pages or frames: number, offset in it, length. -/
def pageSegs (a n : Nat) : List (Nat × Nat × Nat) :=
  if n = 0 then [] else
  (List.range ((a + n - 1) / 0x1_0000 - a / 0x1_0000 + 1)).map (fun i =>
    let p := a / 0x1_0000 + i
    let lo := max a (p * 0x1_0000)
    let hi := min (a + n) ((p + 1) * 0x1_0000)
    (p, lo - p * 0x1_0000, hi - lo))

/-- The lines of a page that [off, off + n) covers. -/
def linesOf (off n : Nat) : List Nat :=
  if n = 0 then [] else (List.range ((off + n - 1) / 64 - off / 64 + 1)).map (off / 64 + ·)

/-- [off, off + n) of a frame holds a line of channel `c`. -/
def onChannel (off n c : Nat) : Bool :=
  let m := (off + n - 1) / 64 - off / 64 + 1
  decide (0 < n) && (decide (32 ≤ m) || decide ((c + 32 - off / 64 % 32) % 32 < m))

/-- Two ranges of addresses meet. -/
def meets (a n b m : Nat) : Bool := decide (a < b + m) && decide (b < a + n)

/-- What a write of [off, off + n) does to the stack beside its bytes: lines it fills hold no poison and no error (R337), and cached copies take the
new words (R328). -/
def lineWritten (s : State) (k off n : Nat) : State :=
  let first := (off + 63) / 64
  let last := (off + n) / 64
  let renew (c : CacheLine) : CacheLine :=
    { c with flips := c.flips.filter (fun b => !(decide (off ≤ 64 * c.line + 8 * b.1) && decide (64 * c.line + 8 * b.1 + 8 ≤ off + n))) }
  let inRun (l : Nat) : Bool := decide (first ≤ l) && decide (l < last)
  modStack s k (fun x => { x with
    poison := x.poison.filter (fun l => !inRun l)
    errs := x.errs.filter (fun e => !inRun e.1)
    cache := x.cache.map renew })

/-- Bytes written at an address of raw HBM. -/
def hbmSet (s : State) (a : Nat) (bs : List Byte) : State :=
  match hbmStack a with
  | some k => lineWritten (setBytes s a bs) k (a - hbmBase k) bs.length
  | none => setBytes s a bs

/-! ## The page table (R268, R269) -/

/-- Address of the page-table entry of a page. -/
def pteAddr (p : Nat) : Nat := hbmBase (p % 8) + p / 8 * 8

/-- A page-table entry as a number. -/
def pte (s : State) (p : Nat) : Nat := numAt s (pteAddr p) 8

/-- Store a page-table entry; every translation cache copy goes with it (R272). -/
def setPte (s : State) (p v : Nat) : State := setBytes s (pteAddr p) (leBytes 8 v)

def pteHeat (e : Nat) : Nat := bitsOf e 56 8
def pteStamp (e : Nat) : Nat := bitsOf e 48 8
def pteStack (e : Nat) : Nat := bitsOf e 45 3
def pteTier (e : Nat) : Nat := bitsOf e 43 2
def ptePin (e : Nat) : Bool := bitOf e 42
def pteMig (e : Nat) : Bool := bitOf e 41
def pteCovered (e : Nat) : Bool := bitOf e 40
def pteSource (e : Nat) : Nat := bitsOf e 36 4
def pteFrame (e : Nat) : Nat := bitsOf e 0 28

/-- The place an entry names, none when unbacked or lost. -/
def ptePlace (e : Nat) : Option Place :=
  match pteTier e with
  | 1 => some (.t1 (pteStack e) (pteFrame e))
  | 2 => some (.t2 (pteSource e) (pteFrame e))
  | _ => none

/-- An entry moved to a place, heat and flags kept; a T2 page is served by stack `srv`. -/
def pteAt (e srv : Nat) : Place → Nat
  | .t1 n f => setBits (setBits (setBits (setBits e 45 3 n) 43 2 1) 36 4 0) 0 28 f
  | .t2 s f => setBits (setBits (setBits (setBits e 45 3 srv) 43 2 2) 36 4 s) 0 28 f

/-- Pages with a nonzero entry, ascending, with the entries. -/
def ptPages (s : State) : List (Nat × Nat) :=
  let ks := s.mem.filterMap (fun c =>
    match hbmStack c.1 with
    | none => none
    | some n => let o := c.1 - hbmBase n
      if o < 0x1000_0000 then some (o / 8 * 8 + n) else none)
  (ks.foldl (fun acc p => insertAsc p acc) []).map (fun p => (p, pte s p))

/-! ## The policy (R308 to R311) -/

/-- Pages of the tiered range in effect. -/
def rangePages (s : State) : Nat := match s.tier.policy with
  | none => 0
  | some p => p.rangePages

/-- Flags of the range a page lies in; 0 outside every range (R309). -/
def rangeFlags (s : State) (p : Nat) : Nat :=
  match s.tier.policy with
  | none => 0
  | some pol => match pol.ranges.find? (fun r => r.1 ≤ p && decide (p < r.1 + r.2.1)) with
    | none => 0
    | some r => r.2.2

def noHost (s : State) (p : Nat) : Bool := bitOf (rangeFlags s p) 2

/-- An entry with the flags of its page's range (R311). -/
def withFlags (s : State) (p e : Nat) : Nat :=
  setBits (setBits e 42 1 (rangeFlags s p)) 40 1 (rangeFlags s p / 2)

def freeLow (s : State) : Nat := match s.tier.policy with
  | none => 0
  | some p => p.freeLow
def freeHigh (s : State) : Nat := match s.tier.policy with
  | none => 0
  | some p => p.freeHigh

/-! ## The order of accesses to a line (R320, R323, R324, R340, R348, R349) -/

/-- Where [a, a + n) of the device space lies in stacks: stack, offset, length of each piece. -/
def rawSegs (s : State) (a n : Nat) : List (Nat × Nat × Nat) :=
  if a + n ≤ rangePages s * 0x1_0000 then (pageSegs a n).filterMap (fun g => match ptePlace (pte s g.1) with
    | some (.t1 k f) => some (k, f * 0x1_0000 + g.2.1, g.2.2)
    | _ => none)
  else match hbmStack a with
    | some k => [(k, a - hbmBase k, n)]
    | none => []

/-- [off, off + n) and [o, o + m) of a stack share a line. -/
def shareLine (off n o m : Nat) : Bool := meets (off / 64 * 64) (off + n - off / 64 * 64) (o / 64 * 64) (o + m - o / 64 * 64)

/-- A waiting write has come to its base dies: it waits neither for a frame nor for a lost page. -/
def HeldWrite.placed (s : State) (w : HeldWrite) : Bool :=
  w.parts.all (fun q => decide (hbmBase 0 ≤ q.1) || (pageSegs q.1 q.2.length).all (fun g => (ptePlace (pte s g.1)).isSome))

/-- An access that came before place `seq` in the order of arrival, other than a transaction, waits for a line of [off, off + n) of a
stack (R323). -/
def waitsBefore (s : State) (seq k off n : Nat) : Bool :=
  let on (a m : Nat) : Bool := (rawSegs s a m).any (fun g => decide (g.1 = k) && shareLine off n g.2.1 g.2.2)
  s.tier.waitWrites.any (fun w => decide (w.seq < seq) && w.placed s && w.parts.any (fun q => on q.1 q.2.length))
    || s.tier.waitReads.any (fun w => decide (w.seq < seq) && on w.addr w.len)

/-- The access at place `seq` of the order of arrival to [off, off + n) of a stack waits: for the stack, for a row under repair, for a
channel under margining, or behind an access of one of its lines that came before (R323, R340, R348, R349). -/
def hbmWaitsAt (s : State) (seq k off n : Nat) : Bool :=
  let x := stackOf s k
  !stackOpen s k
    || (pageSegs off n).any (fun g => x.failing.any (fun r => decide (r.2 = g.1) && onChannel g.2.1 g.2.2 r.1)
        || (rb s (R.STK_STATUS k) F.STK_STATUS_mrg_active && onChannel g.2.1 g.2.2 (rf s (R.STK_MRG_STATUS k) F.STK_MRG_STATUS_channel)))
    || x.waiting.any (fun q => q.sent && decide (q.seq < seq) && shareLine off n (txLines q.tx).1 (64 * (txLines q.tx).2))
    || waitsBefore s seq k off n

/-- A new access to [off, off + n) of a stack waits. -/
def hbmWaits (s : State) (k off n : Nat) : Bool := hbmWaitsAt s s.tier.arrivals k off n

/-- A write waits, in its place in the order of arrival. -/
def waitWrite (s : State) (w : HeldWrite) : State :=
  { s with tier := { s.tier with waitWrites := s.tier.waitWrites ++ [w], arrivals := max s.tier.arrivals (w.seq + 1) } }

/-- A read waits, in its place in the order of arrival. -/
def waitRead (s : State) (w : WaitRead) : State :=
  { s with tier := { s.tier with waitReads := s.tier.waitReads ++ [w], arrivals := max s.tier.arrivals (w.seq + 1) } }

/-! ## Frames -/

/-- Places in use: backed pages, migration destinations, sources still read (R292, R298). -/
def usedPlaces (s : State) : List Place :=
  (ptPages s).filterMap (fun x => ptePlace x.2) ++ s.tier.migs.map (·.dst) ++ s.tier.draining.map (·.2)

/-- The pool of a stack: first frame and count. -/
def poolOf (s : State) (n : Nat) : Nat × Nat := match s.tier.policy with
  | none => (0, 0)
  | some p => p.pools.getD n (0, 0)

def inPool (s : State) (n f : Nat) : Bool := let p := poolOf s n; decide (p.1 ≤ f) && decide (f < p.1 + p.2)

/-- Pool frames of a stack in use or retired. -/
def takenFrames (s : State) (n : Nat) : List Nat :=
  ((usedPlaces s).filterMap (fun p => match p with
    | .t1 m f => if m = n && inPool s n f then some f else none
    | .t2 _ _ => none)
   ++ s.tier.retired.filterMap (fun r => if r.1 = n && inPool s n r.2 then some r.2 else none)).eraseDups

/-- Free pool frames of a stack. -/
def stackFree (s : State) (n : Nat) : Nat := (poolOf s n).2 - (takenFrames s n).length

/-- Free T1 frames of the device. -/
def freeT1 (s : State) : Nat := ((List.range 8).map (stackFree s)).sum

/-- Frames in all pools, less retired frames. -/
def poolTotal (s : State) : Nat :=
  ((List.range 8).map (fun n => (poolOf s n).2 - (s.tier.retired.filter (fun r => r.1 = n && inPool s n r.2)).length)).sum

/-- The lowest number from `first`, below `first + n`, that is not in `taken`. -/
def lowestFree (first n : Nat) (taken : List Nat) : Option Nat :=
  ((List.range (min n (taken.length + 1))).map (first + ·)).find? (fun f => !taken.contains f)

/-- The stack and frame R282 chooses: fewest touches in the last complete heat epoch, lowest stack, lowest free frame. -/
def chooseT1 (s : State) (ok : Nat → Bool) : Option Place :=
  match minBy (fun n => (reg s (R.TIER_STK_TOUCH n)).toNat) ((List.range 8).filter (fun n => ok n && decide (0 < stackFree s n))) with
  | none => none
  | some n => (lowestFree (poolOf s n).1 (poolOf s n).2 (takenFrames s n)).map (.t1 n)

/-- Frames of a source that hold pages or are reserved for one. -/
def sourceTaken (s : State) (k : Nat) : List Nat :=
  ((usedPlaces s).filterMap (fun p => match p with
    | .t1 _ _ => none
    | .t2 m f => if m = k then some f else none)).eraseDups

/-- The policy uses source `k`: every grant, and the expanders of exp_mask (R273). -/
def sourceUsed (s : State) (k : Nat) : Bool :=
  decide (4 ≤ k) || (match s.tier.policy with
    | some p => bitOf p.expMask k
    | none => false)

/-- Free frames of a peat source in use. -/
def sourceFree (s : State) (k : Nat) : Nat :=
  match s.tier.sources[k]? with
  | some x => if x.state = 1 ∧ sourceUsed s k then x.frames - (sourceTaken s k).length else 0
  | none => 0

/-- A free frame of a peat source; the spec names no order there, the lowest is taken (DESIGN CHOICE, log 82). -/
def sourceFrame (s : State) (k : Nat) : Option Place :=
  match s.tier.sources[k]? with
  | some x => if x.state = 1 then (lowestFree 0 x.frames (sourceTaken s k)).map (.t2 k) else none
  | none => none

/-- The destination of a demotion (R284, R277): the expander with the most free frames, else the grant with the most. -/
def chooseT2 (s : State) (page : Nat) : Option Place :=
  let best (ks : List Nat) := maxBy (sourceFree s) (ks.filter (fun k => decide (0 < sourceFree s k)))
  match best [0, 1, 2, 3] with
  | some k => sourceFrame s k
  | none => if noHost s page then none else
    match best [4, 5, 6, 7, 8, 9, 10, 11, 12, 13, 14, 15] with
    | some k => sourceFrame s k
    | none => none

/-- The place of a first write or a rebuild (R286). -/
def choosePlace (s : State) (page : Nat) (covered : Bool) : Option Place :=
  if freeLow s < freeT1 s then chooseT1 s (fun _ => true)
  else if covered then chooseT2 s page
  else chooseT1 s (fun _ => true)

/-! ## Pressure (R301, R302) -/

/-- Recompute TIER_STATUS.low and its flag and event (R301), and whether demotions run (R283). -/
def tierPressure (s : State) : State :=
  match s.tier.policy with
  | none => s
  | some _ =>
    let free := freeT1 s
    let s := if free < freeLow s then
        let was := rb s R.TIER_STATUS F.TIER_STATUS_low
        let s := wf s R.TIER_STATUS F.TIER_STATUS_low 1
        let s := { s with tier := { s.tier with demoting := true } }
        if was then s else evgFireIf (wf s R.TIER_FLAGS F.TIER_FLAGS_low 1) (rb s R.TIER_CTL F.TIER_CTL_low_event_en) 128
      else wf s R.TIER_STATUS F.TIER_STATUS_low 0
    if freeHigh s ≤ free then { s with tier := { s.tier with demoting := false, boundRise := 0 } } else s

/-- An operation waits for a frame (R302). -/
def tierFull (s : State) : State :=
  if rb s R.TIER_STATUS F.TIER_STATUS_full then s
  else
    let s := wf (wf s R.TIER_STATUS F.TIER_STATUS_full 1) R.TIER_FLAGS F.TIER_FLAGS_full 1
    evgFireIf { s with tier := { s.tier with fullSince := some s.ft } } (rb s R.TIER_CTL F.TIER_CTL_full_event_en) 129

/-- No operation waits for a frame any more: the ticks of waiting are counted (R302). -/
def tierUnfull (s : State) : State :=
  match s.tier.fullSince with
  | none => s
  | some t =>
    let s := bump s R.TIER_FULL_TIME (s.ft - t)
    wf { s with tier := { s.tier with fullSince := none } } R.TIER_STATUS F.TIER_STATUS_full 0

/-! ## Touches (R279, R281) -/

/-- The heat an entry has in heat epoch `e` (R279, R280). -/
def effHeat (entry e : Nat) : Nat := pteHeat entry >>> min ((e + 256 - pteStamp entry) % 256) 8

/-- The running heat epoch (R278). -/
def heatEpoch (s : State) : Nat := (reg s R.TIER_HEAT_EPOCH).toNat

/-- Enter a page in the promotion queue (R281). -/
def queuePromotion (s : State) (p heat : Nat) : State :=
  if s.tier.queue.contains p then s
  else if s.tier.queue.length < 4096 then { s with tier := { s.tier with queue := s.tier.queue ++ [p] } }
  else
    match minBy (fun q => effHeat (pte s q) (heatEpoch s % 256)) s.tier.queue with
    | none => s
    | some q =>
      if effHeat (pte s q) (heatEpoch s % 256) < heat then
        { s with tier := { s.tier with queue := s.tier.queue.filter (· ≠ q) ++ [p] } }
      else s

/-- TOUCH: an access to a page updates its heat and stamp and may queue a promotion (R279, R281); an unbacked page has no
entry to update (R270). -/
def touch (s : State) (p : Nat) : State :=
  let e0 := pte s p
  if pteTier e0 = 0 then s
  else
    let ep := heatEpoch s % 256
    let heat := min 255 (effHeat e0 ep + 1)
    let e := withFlags s p (setBits (setBits e0 56 8 heat) 48 8 ep)
    let s := setPte s p e
    let s := { s with tier := { s.tier with touches := modAt (· + 1) s.tier.touches (pteStack e) } }
    match s.tier.policy with
    | none => s
    | some pol =>
      let s := if pteTier e = 2 && pteCovered e0 && !pteCovered e then
          { s with tier := { s.tier with demand := s.tier.demand ++ [(p, [])] } } else s
      if pteTier e = 2 && decide (pol.promoteThr ≤ heat) then queuePromotion s p heat else s

/-! ## Reads and writes of the tiered range -/

/-- Model key of a byte of a page offset, none when the page is unbacked or lost. -/
def pageKey (s : State) (p : Nat) : Option Nat := (ptePlace (pte s p)).map placeKey

/-- A read of the tiered range: an unbacked page reads as zero bytes (R270), a page being migrated as its source (R293);
the bytes of a lost page are not on the device and read here as zero (R305 serves them by degraded reads). -/
def tierRead (s : State) (a n : Nat) : List Byte :=
  (pageSegs a n).flatMap (fun g =>
    match pageKey s g.1 with
    | none => List.replicate g.2.2 0
    | some k => bytesAt s (k + g.2.1) g.2.2)

/-- Some page of [a, a + n) is lost. -/
def anyLost (s : State) (a n : Nat) : Bool := (pageSegs a n).any (fun g => pteTier (pte s g.1) = 3)

/-- The migration of a page, if one is in progress. -/
def migOf (s : State) (p : Nat) : Option Migration := s.tier.migs.find? (·.page = p)

/-- Replace a page's migration. -/
def setMig (s : State) (p : Nat) (f : Migration → Migration) : State :=
  { s with tier := { s.tier with migs := s.tier.migs.map (fun m => if m.page = p then f m else m) } }

/-- Count bytes written to a place (R627 words 31, 37). -/
def countPlaceWrite (s : State) (pl : Place) (n : Nat) : State :=
  match pl with
  | .t1 k _ => cntAdd (bump s (R.STK_WR_BYTES k) n) 31 n
  | .t2 _ _ => cntAdd s 37 n

/-- Count bytes read from a place (R627 words 30, 36). -/
def countPlaceRead (s : State) (pl : Place) (n : Nat) : State :=
  match pl with
  | .t1 k _ => cntAdd (bump s (R.STK_RD_BYTES k) n) 30 n
  | .t2 _ _ => cntAdd s 36 n

/-- The access at place `seq` of the order of arrival to a place waits: for its stack (R323), or for a host grant while the host port is
down (R303). -/
def placeWaitsAt (s : State) (seq off n : Nat) : Place → Bool
  | .t1 k f => hbmWaitsAt s seq k (f * 0x1_0000 + off) n
  | .t2 k _ => decide (4 ≤ k) && s.tier.hostDownSince.isSome

/-- A new access to a place waits. -/
def placeWaits (s : State) (off n : Nat) (pl : Place) : Bool := placeWaitsAt s s.tier.arrivals off n pl

/-- Bytes written at an offset of a place, counted; a write to a peat frame leaves the device (R275). -/
def placeWrite (s : State) (pl : Place) (off : Nat) (bs : List Byte) : State :=
  match pl with
  | .t1 k f => countPlaceWrite (hbmSet s (hbmBase k + f * 0x1_0000 + off) bs) pl bs.length
  | .t2 k f => countPlaceWrite (emit (setBytes s (peatKey k f + off) bs) (.peatWrite k f off bs)) pl bs.length

/-- A read of an offset of a place, counted; a read of a peat frame leaves the device (R275). -/
def placeRead (s : State) (pl : Place) (off n : Nat) : State :=
  match pl with
  | .t1 _ _ => countPlaceRead s pl n
  | .t2 k f => countPlaceRead (emit s (.peatRead k f off n)) pl n

/-- The read at place `seq` of the order of arrival of [a, a + n) of the tiered range waits for a place of it (R303, R323, R349). -/
def readWaitsAt (s : State) (seq a n : Nat) : Bool :=
  (pageSegs a n).any (fun g => match ptePlace (pte s g.1) with
    | some pl => placeWaitsAt s seq g.2.1 g.2.2 pl
    | none => false)

/-- A new read of [a, a + n) of the tiered range waits. -/
def readWaits (s : State) (a n : Nat) : Bool := readWaitsAt s s.tier.arrivals a n

/-- The bytes of a read of [a, a + n) are counted where they lie (R275, R627). -/
def countRead (s : State) (a n : Nat) : State :=
  forEach (fun s g => match ptePlace (pte s g.1) with
    | some pl => placeRead s pl g.2.1 g.2.2
    | none => s) s (pageSegs a n)

/-- The access of a read of [a, a + n): each page is touched once and its bytes are counted where they lie (R279, R627). -/
def readAccess (s : State) (a n : Nat) : State :=
  forEach (fun s g => match ptePlace (pte s g.1) with
    | some pl => touch (placeRead s pl g.2.1 g.2.2) g.1
    | none => touch s g.1) s (pageSegs a n)

/-- Write bytes of one backed page at its current place and set the dirty bits of the lines when it migrates (R294). -/
def pagePut (s : State) (p off : Nat) (bs : List Byte) : State :=
  match ptePlace (pte s p) with
  | none => s
  | some pl => setMig (placeWrite s pl off bs) p (fun m => { m with dirty := (linesOf off bs.length).foldl (fun d l => insertAsc l d) m.dirty })

/-- A frame filled with zeros. -/
def zeroPlace (s : State) : Place → State
  | .t1 k f => lineWritten (zeroKeys s (hbmBase k + f * 0x1_0000) 0x1_0000) k (f * 0x1_0000) 0x1_0000
  | .t2 k f => emit (zeroKeys s (peatKey k f) 0x1_0000) (.peatWrite k f 0 (List.replicate 0x1_0000 0))

/-- FIRST_WRITE_ALLOC: a frame for an unbacked page (R270, R286); none when no tier has one (R302). -/
def allocPage (s : State) (p : Nat) : Option State :=
  let e := withFlags s p 0
  (choosePlace s p (pteCovered e)).map (fun pl =>
    let s := setPte s p (setBits (pteAt e (p % 8) pl) 48 8 (heatEpoch s))
    tierPressure (zeroPlace s pl))

/-- Frames for the unbacked pages of a list; none when one finds no frame. -/
def backPages (s : State) : List Nat → Option State
  | [] => some s
  | p :: ps => if pteTier (pte s p) = 0 then (allocPage s p).bind (fun s => backPages s ps) else backPages s ps

/-- The pieces of a write's parts page by page: page, offset in it, bytes. -/
def partSegs (ps : List (Nat × List Byte)) : List (Nat × Nat × List Byte) :=
  ps.flatMap (fun q => (pageSegs q.1 q.2.length).map (fun g => (g.1, g.2.1, (q.2.drop (g.1 * 0x1_0000 + g.2.1 - q.1)).take g.2.2)))

/-- A held or waiting write covers bytes of [a, a + n). -/
def HeldWrite.covers (w : HeldWrite) (a n : Nat) : Bool := w.parts.any (fun q => meets q.1 q.2.length a n)

/-- Two writes cover a common byte. -/
def HeldWrite.clash (w v : HeldWrite) : Bool := v.parts.any (fun q => w.covers q.1 q.2.length)

/-- The place a page's bytes go to: its own, or the one a first write would give it. -/
def writePlace (s : State) (p : Nat) : Option Place :=
  if pteTier (pte s p) = 0 then choosePlace s p (pteCovered (withFlags s p 0)) else ptePlace (pte s p)

/-- The migration that holds a write (R296): one that holds an earlier write of its bytes, else one of its pages' in the final pass. -/
def holdingMig (s : State) (w : HeldWrite) (pages : List Nat) : Option Migration :=
  match s.tier.migs.find? (fun m => m.held.any w.clash) with
  | some m => some m
  | none => s.tier.migs.find? (fun m => decide (m.pass = 3) && pages.contains m.page)

/-- A write of the tiered range, its parts in one access (R73, R296): it waits as one for a lost page's rebuild, for a place that serves
no access, behind an access of its bytes that came before and waits (R323), or for a frame (R302); a final pass holds it as one; else
every part is written and each page touched once (R279). -/
def tierPutAs (s : State) (w : HeldWrite) : State :=
  let gs := partSegs w.parts
  let pages := (gs.map (·.1)).eraseDups
  if pages.any (fun p => decide (pteTier (pte s p) = 3)) || s.tier.waitWrites.any (fun v => decide (v.seq < w.seq) && w.clash v)
      || s.tier.waitReads.any (fun v => decide (v.seq < w.seq) && w.covers v.addr v.len)
      || gs.any (fun g => match writePlace s g.1 with
        | some pl => placeWaitsAt s w.seq g.2.1 g.2.2.length pl
        | none => false) then waitWrite s w
  else match holdingMig s w pages with
    | some m => setMig s m.page (fun m => { m with held := m.held ++ [w] })
    | none => match backPages s pages with
      | none => waitWrite (tierFull s) w
      | some s => forEach touch (forEach (fun s g => pagePut s g.1 g.2.1 g.2.2) s gs) pages

/-- A new write of the tiered range, its parts in one access. -/
def tierPut (s : State) (ps : List (Nat × List Byte)) : State := tierPutAs s ⟨ps, s.tier.arrivals⟩

/-- A write to the tiered range. -/
def tierWrite (s : State) (a : Nat) (bs : List Byte) : State := if bs.isEmpty then s else tierPut s [(a, bs)]

/-! ## The device-local address space -/

/-- Read of a device-local address that is not a register: tiered range, raw HBM or frond store; none outside them. -/
def devRead (s : State) (a n : Nat) : Option (List Byte) :=
  if a + n ≤ rangePages s * 0x1_0000 then some (tierRead s a n)
  else if 0x1000_0000_0000 ≤ a ∧ a + n ≤ 0x1000_0000_0000 + 8 * 0x14_0000_0000 then some (bytesAt s a n)
  else if 0x2000_0000_0000 ≤ a ∧ a + n ≤ 0x2000_0000_0000 + 32 * 0x100_0000
      ∧ (a - 0x2000_0000_0000) % 0x100_0000 + n ≤ storeSize then some (bytesAt s a n)
  else none

/-- Count the bytes [a, a + n) of raw HBM in a register of each stack that holds some of them (R627). -/
def bumpStacks (r : Nat → Nat) (s : State) (a n : Nat) : State :=
  forEach (fun s k =>
    let m := min (a + n) (hbmBase (k + 1)) - max a (hbmBase k)
    if m = 0 then s else bump s (r k) m) s (List.range 8)

/-- Bytes of raw HBM written by a unit of the device, counted (R627). -/
def rawWrite (s : State) (a : Nat) (bs : List Byte) : State :=
  cntAdd (bumpStacks R.STK_WR_BYTES (hbmSet s a bs) a bs.length) 31 bs.length

/-- The write at place `seq` of the order of arrival to a device-local address that is not a register (raw write, no parity delta), which
waits while its stack serves no access (R349) or an access of its bytes that came before waits (R323); none outside the regions. -/
def devWriteAt (s : State) (seq a : Nat) (bs : List Byte) : Option State :=
  let n := bs.length
  if a + n ≤ rangePages s * 0x1_0000 then some (if bs.isEmpty then s else tierPutAs s ⟨[(a, bs)], seq⟩)
  else match hbmStack a with
    | some k =>
      if a + n ≤ hbmBase 8 then
        if hbmWaitsAt s seq k (a - hbmBase k) n then some (waitWrite s ⟨[(a, bs)], seq⟩)
        else some (rawWrite s a bs)
      else none
    | none => if 0x2000_0000_0000 ≤ a ∧ a + n ≤ 0x2000_0000_0000 + 32 * 0x100_0000
        ∧ (a - 0x2000_0000_0000) % 0x100_0000 + n ≤ storeSize then some (cntAdd (setBytes s a bs) 25 n) else none

/-- A new write of a device-local address that is not a register. -/
def devWrite (s : State) (a : Nat) (bs : List Byte) : Option State := devWriteAt s s.tier.arrivals a bs

/-! ## Waiting writes (R302) -/

/-- A write that waited tries again: in the tiered range as one access, else at its raw address; what lies past the end of a range
that has become smaller is gone with its page (R311). -/
def retryWrite (s : State) (w : HeldWrite) : State :=
  let near := w.parts.filter (fun q => decide (q.1 + q.2.length ≤ rangePages s * 0x1_0000))
  let s := if near.isEmpty then s else tierPutAs s ⟨near, w.seq⟩
  forEach (fun s q => (devWriteAt s w.seq q.1 q.2).getD s) s (w.parts.filter (fun q => decide (hbmBase 0 ≤ q.1)))

/-- A page without a frame or a lost page needs a frame, and no tier has one it may use (R302). -/
def pageStuck (s : State) (p : Nat) : Bool :=
  match pteTier (pte s p) with
  | 0 => (writePlace s p).isNone
  | 3 => (choosePlace s p (pteCovered (pte s p))).isNone
  | _ => false

/-- A page asked for by a DEMAND promotion finds no free T1 frame, and no demotion makes one (R288, R302). -/
def demandStuck (s : State) : Bool :=
  s.tier.demand.any (fun d => decide (pteTier (pte s d.1) = 2) && (migOf s d.1).isNone) && decide (freeT1 s = 0)

/-- An operation still waits for a frame (R302). -/
def frameWaits (s : State) : Bool :=
  demandStuck s || s.tier.waitWrites.any (fun w => (partSegs w.parts).any (fun g => pageStuck s g.1))
    || (ptPages s).any (fun x => decide (pteTier x.2 = 3) && pageStuck s x.1)

/-- Let the waiting writes try again, in order; TIER_STATUS.full ends when no operation waits for a frame (R302). -/
def retryWaits (s : State) : State :=
  let ws := s.tier.waitWrites
  let s := forEach retryWrite { s with tier := { s.tier with waitWrites := [] } } (sortBy (·.seq) ws)
  if frameWaits s then s else tierUnfull s

/-- Frames may have become free. -/
def framesFreed (s : State) : State := retryWaits (tierPressure s)

end Sys2Proof.Machine
end

