-- ==== Sys2Proof/Machine/MsgBytes.lean ====
section
/-! DEFINITION. Layouts of the Shurak messages: virtual channel, class, word 1 and body (R207, R208, R234, R235, R250, R252,
R257, R393, R440, R488, R506). -/

namespace Sys2Proof.Machine

/-- Zero bytes up to a multiple of `k`. -/
def padTo (k : Nat) (bs : List Byte) : List Byte := bs ++ List.replicate ((k - bs.length % k) % k) 0

/-- Numbers as `n`-byte little-endian fields. -/
def leAll (n : Nat) (xs : List Nat) : List Byte := xs.flatMap (leBytes n)

def pairBytes (ps : List (W32 × W32)) : List Byte := ps.flatMap (fun p => leBytes 4 p.1.toNat ++ leBytes 4 p.2.toNat)

def rowEntryBytes (e : RowEntry) : List Byte := leBytes 8 (e.row % 2 ^ 40 + e.rem <<< 40)

/-- A bag with its refs, and in an UPDATE_REQ its gradient vector (R207, R235). -/
def bagBytes (withGrad : Bool) (b : Bag) : List Byte :=
  leBytes 8 (b.sample % 2 ^ 24 + b.refs.length <<< 24)
    ++ padTo 8 (b.refs.flatMap (fun r => leBytes 2 r.idx ++ leBytes 2 r.aux))
    ++ (if withGrad then padTo 8 (leAll 2 b.grad) else [])

/-- The 32-byte header of the look-up and update messages (R207, R208, R234). -/
def sorHeader (typ version table dev mb step rows bags seq flags : Nat) : List Byte :=
  leBytes 1 typ ++ leBytes 1 version ++ leBytes 2 table ++ leBytes 2 dev ++ leBytes 2 mb ++ leBytes 8 step
    ++ leBytes 4 rows ++ leBytes 4 bags ++ leBytes 2 seq ++ leBytes 1 flags ++ leBytes 5 0

def sorRecBytes (r : SorediumRec) : List Byte :=
  leBytes 8 (r.row % 2 ^ 40 + r.table <<< 40 + b2n r.rem <<< 52) ++ leBytes 8 r.delta.length ++ padTo 8 r.delta

/-- The 32-byte header of the RAU and scale messages (R393). -/
def rauHeader (typ flags source block step off count aux e : Nat) : List Byte :=
  leBytes 1 typ ++ leBytes 1 flags ++ leBytes 2 source ++ leBytes 4 block ++ leBytes 8 step ++ leBytes 4 off
    ++ leBytes 4 count ++ leBytes 1 aux ++ leBytes 1 e ++ leBytes 6 0

/-- Bits as 64-bit words, enough for `n` of them. -/
def bitmapBytes (n : Nat) (set : List Nat) : List Byte :=
  leBytes (8 * ((n + 63) / 64)) (set.foldl (fun a i => a ||| 1 <<< i) 0)

def slotWord (k : SlotKey) : Nat := k.table + b2n k.rem <<< 12 + k.row <<< 24

/-- Word 1 of a RECOVERY message (R506). -/
def recWord (kind subject origin epoch : Nat) : Nat := kind + subject <<< 4 + origin <<< 18 + epoch <<< 32

/-- Class, word 1 and body of a message (R488), a MEM_CPL without data with 8 zero bytes, since a body has one byte at least (DESIGN CHOICE,
log 146); `grp` is the contributor count behind a PART or GRAD bitmap. -/
def msgWire (grp : Nat) : Message → Nat × Nat × List Byte
  | .lookupReq m => (0, 0, sorHeader 0x21 m.version m.table m.requester m.mb m.step m.rows.length m.bags.length m.seq (b2n m.last)
      ++ m.rows.flatMap rowEntryBytes ++ m.bags.flatMap (bagBytes false))
  | .lookupRsp m => (0, 0, leBytes 1 0x22 ++ leBytes 1 m.version ++ leBytes 2 m.table ++ leBytes 2 m.owner ++ leBytes 2 m.mb
      ++ leBytes 8 m.step ++ leBytes 2 m.ownerIndex ++ leBytes 2 m.seq ++ leBytes 4 m.nBags ++ leBytes 1 m.status ++ leBytes 7 0
      ++ m.recs.flatMap (fun r => leBytes 8 (r.1 % 2 ^ 24) ++ padTo 8 (leAll 2 r.2)))
  | .updateReq m => (0, 0, sorHeader 0x23 m.version m.table m.requester m.mb m.step m.rows.length m.bags.length m.seq (b2n m.last)
      ++ m.rows.flatMap rowEntryBytes ++ m.bags.flatMap (bagBytes true))
  | .lookupEnd src step n => (0, 0, sorHeader 0x24 0 0 src 0xFFF step n 0 0 1)
  | .remGrad m => (0, 0, sorHeader 0x25 m.version m.table m.source 0xFFF m.step m.recs.length 0 m.seq (b2n m.last)
      ++ m.recs.flatMap (fun r => leBytes 8 (r.1 % 2 ^ 24) ++ pairBytes r.2))
  | .remRow m => (0, 0, sorHeader 0x26 m.version m.table m.source 0xFFF m.step m.recs.length 0 m.seq (b2n m.last)
      ++ m.recs.flatMap (fun r => leBytes 8 (r.1 % 2 ^ 24) ++ r.2.1 ++ r.2.2))
  | .soredium m => (0, 0, sorHeader 0x27 0 0 m.source 0xFFF m.step m.recs.length 0 m.seq (b2n m.last)
      ++ m.recs.flatMap sorRecBytes)
  | .sorediumAck src step seq => (0, 0, sorHeader 0x28 0 0 src 0xFFF step 0 0 seq 1)
  | .reduce m => (0, 0, rauHeader 0x31 (b2n m.last + 2 * b2n m.carried) m.source m.block m.step m.offset m.elems.length 0 0 ++ padTo 8 (leAll 2 m.elems))
  | .part m => (0, 0, rauHeader 0x32 (b2n m.last + 4 * b2n m.skip) m.source m.block m.step m.offset m.pairs.length m.part 0
      ++ pairBytes m.pairs ++ (if m.last then bitmapBytes grp m.bitmap else []))
  | .grad m => (0, 0, rauHeader 0x33 (b2n m.last + 4 * b2n m.skip) m.source m.block m.step m.offset m.elems.length 0 0
      ++ leAll 4 (m.elems.map (·.toNat)) ++ (if m.last then bitmapBytes grp m.bitmap else []))
  | .digest m => (0, 0, rauHeader 0x34 (b2n m.last) m.source m.block m.step m.first m.crcs.length 0 0 ++ leAll 8 m.crcs)
  | .param m => (0, 0, rauHeader 0x35 (b2n m.last) m.source m.block m.step m.offset m.codes.length m.fmt m.e
      ++ (if m.fmt = 8 then leBytes ((m.codes.length + 1) / 2) (m.codes.foldr (fun c a => c + 16 * a) 0) ++ leAll 1 m.scales
          else leAll 1 m.codes))
  | .barrier m => (0, 0, rauHeader 0x36 1 m.source 0 m.step 0 0 m.level 0
      ++ leBytes 8 (b2n m.record.vote) ++ leBytes 4 m.record.s.toNat ++ leBytes 4 m.record.c.toNat ++ leBytes 8 m.record.tRec
      ++ leBytes 8 m.record.count)
  | .scale m => (0, 0, rauHeader 0x37 1 m.source 0 m.step 0 m.amax.length m.level 0 ++ leAll 4 (m.amax.map (·.toNat))
      ++ bitmapBytes m.amax.length ((List.range m.present.length).filter (fun i => m.present.getD i false)))
  | .memWr a bs => (1, a, bs)
  | .memRd a n => (2, a, leBytes 8 n)
  | .memCpl a st seq bs => (3, a + st <<< 48 + seq <<< 52, if bs.isEmpty then leBytes 8 0 else bs)
  | .storeWr off f d stride rb bs => (4, off + f <<< 24 + (match d with
      | some x => x <<< 29 + 1 <<< 39
      | none => 0) + stride <<< 40, leBytes 8 rb ++ bs)
  | .notice n => (5, recWord n.kind n.subject n.origin n.epoch, leBytes 8 n.time ++
      (if n.kind = 3 then leBytes 1 n.reason ++ leBytes 7 0 else leBytes 8 0))
  | .pieceRd sub org k => (5, recWord 4 sub org 0, leBytes 8 (slotWord k) ++ leBytes 8 0)
  | .piece sub org k d => (5, recWord 5 sub org 0, leBytes 8 (slotWord k) ++ d)
  | .fwd sub org r => (5, recWord 6 sub org 0, sorRecBytes r)
  | .stop sub org k => (5, recWord 7 sub org 0, leBytes 8 (slotWord k))
  | .stopped sub org k => (5, recWord 8 sub org 0, leBytes 8 (slotWord k))
  | .done sub org ep => (5, recWord 9 sub org ep, leBytes 8 0)

/-- Virtual channel of a message (R488). -/
def msgVc : Message → Nat
  | .lookupReq _ => 0
  | .lookupRsp _ => 1
  | .sorediumAck _ _ _ => 1
  | .memWr _ _ => 2
  | .memRd _ _ => 0
  | .memCpl _ _ _ _ => 1
  | .storeWr _ _ _ _ _ _ => 2
  | .notice _ => 3
  | .pieceRd _ _ _ => 3
  | .piece _ _ _ _ => 3
  | .fwd _ _ _ => 3
  | .stop _ _ _ => 3
  | .stopped _ _ _ => 3
  | .done _ _ _ => 3
  | .updateReq _ => 2
  | .lookupEnd _ _ _ => 2
  | .remGrad _ => 2
  | .remRow _ => 2
  | .soredium _ => 2
  | .reduce _ => 2
  | .part _ => 2
  | .grad _ => 2
  | .digest _ => 2
  | .param _ => 2
  | .barrier _ => 2
  | .scale _ => 2

/-- Class RECOVERY, exempt from the tag checks (R492). -/
def msgIsRecovery (m : Message) : Bool := (msgWire 0 m).1 = 5

/-- The bytes of a message as its frames carry them: the 16-byte prefix of R488 and the body. -/
def msgBytes (grp : Nat) (m : Message) : List Byte :=
  let w := msgWire grp m
  leBytes 8 (w.2.2.length + w.1 <<< 24) ++ leBytes 8 w.2.1 ++ w.2.2

/-- The payloads of a message's frames: 240 bytes each, the last padded with zeros (R465, R488). -/
def msgFrames (grp : Nat) (m : Message) : List (List Byte) := (chunksOf 240 (msgBytes grp m)).map (padTo 240)

end Sys2Proof.Machine
end

