-- ==== Sys2Proof/Machine/Links.lean ====
section
/-! DEFINITION. Shurak links: wiring, routing, flows, ports (R466 to R493). -/

namespace Sys2Proof.Machine

/-! ## Device IDs and geometry (R6, R477 to R482) -/

/-- Coordinate of a device in dimension 0 (x), 1 (y), 2 (z). -/
def coord (d dim : Nat) : Nat := bitsOf d (10 - 4 * dim) 4

/-- A device ID with one coordinate replaced. -/
def withCoord (d dim c : Nat) : Nat := setBits d (10 - 4 * dim) 4 c

/-- A device ID with its member replaced. -/
def withMember (d m : Nat) : Nat := d / 4 * 4 + m

/-- Index of member `m` among the other members of a clique seen from member `me`, ascending (R477). -/
def peerIndex (me m : Nat) : Nat := if m < me then m else m - 1

/-- A device is in the lost set (R505). -/
def isLost (s : State) (d : Nat) : Bool := s.recov.lost.any (fun l => l.device = d)

/-- A dimension wraps: its extent equals the fabric size (R478). -/
def wraps (rt : RouteTable) (dim : Nat) : Bool := decide (rt.size.getD dim 0 = rt.fab.getD dim 0)

/-- First dimension in which two devices differ (R479 step 2). -/
def diffDim (a b : Nat) : Option Nat := [0, 1, 2].find? (fun k => decide (coord a k ≠ coord b k))

/-- The way a frame goes from coordinate c to t: + when true (R479). -/
def goesUp (rt : RouteTable) (dim c t : Nat) : Bool :=
  if wraps rt dim then
    let n := rt.fab.getD dim 1
    let f := (t + n - c) % n
    decide (f ≤ n - f)
  else decide (c < t)

/-- A hop from a device: over an A port to a member, or along a dimension. -/
inductive Hop where
  | a (member : Nat)
  | b (dim : Nat) (up : Bool)
  deriving DecidableEq, Repr

/-- The hop of a frame in plane `p` at device `me` towards `dst`; none at the destination or without a route (R479). -/
def hopAt (rt : Option RouteTable) (p me dst : Nat) : Option Hop :=
  if me = dst then none
  else if cliqueOf me = cliqueOf dst then some (.a (memberOf dst))
  else if memberOf me ≠ p then some (.a p)
  else match rt, diffDim me dst with
    | some r, some k => some (.b k (goesUp r k (coord me k) (coord dst k)))
    | _, _ => none

/-- The device a hop leads to; coordinates wrap at the fabric size (R477). -/
def hopDev (rt : Option RouteTable) (me : Nat) : Hop → Nat
  | .a m => withMember me m
  | .b k up =>
    let n := match rt with
      | some r => max 1 (r.fab.getD k 1)
      | none => 16
    withCoord me k (if up then (coord me k + 1) % n else (coord me k + n - 1) % n)

/-- A hop crosses the wraparound link of its dimension. -/
def hopWraps (rt : Option RouteTable) (me : Nat) : Hop → Bool
  | .a _ => false
  | .b k up => match rt with
    | some r => if up then decide (coord me k + 1 = r.fab.getD k 1) else decide (coord me k = 0)
    | none => false

/-- Devices a frame of plane `p` visits after `me`, the destination last (fuel: the hop limit of R483). -/
def pathFrom (rt : Option RouteTable) (p dst : Nat) : Nat → Nat → List Nat
  | 0, _ => []
  | k + 1, me => match hopAt rt p me dst with
    | none => []
    | some h => let d := hopDev rt me h; d :: pathFrom rt p dst k d

/-- Ports of a hop's group in the order R480 tries them, as port numbers 0 to 23 (A0 to A11, B0 to B11). -/
def hopPorts (me src dst : Nat) : Hop → List Nat
  | .a m => (List.range 4).map (fun i => 4 * peerIndex (memberOf me) m + (src + dst + i) % 4)
  | .b k up => (List.range 2).map (fun i => 12 + 2 * (2 * k + b2n (!up)) + (src + dst + i) % 2)

/-- State of a port (R469). -/
def portState (s : State) (p : Nat) : Nat := rf s (R.SHK_PORT_STATUS (p / 12) (p % 12)) F.SHK_PORT_STATUS_state
def setPortState (s : State) (p st : Nat) : State := wf s (R.SHK_PORT_STATUS (p / 12) (p % 12)) F.SHK_PORT_STATUS_state st

def portUp (s : State) (p : Nat) : Bool := decide (portState s p = 3)

def portOf (s : State) (p : Nat) : Port := s.shk.ports.getD p {}
def modPort (s : State) (p : Nat) (f : Port → Port) : State :=
  { s with shk := { s.shk with ports := modAt f s.shk.ports p } }

/-- The port a frame leaves a router by; none when every port of the group is not UP or the next device is lost (R480,
R483). -/
def outPort (s : State) (rt : Option RouteTable) (plane src dst : Nat) : Option (Hop × Nat) :=
  let me := selfId s
  match hopAt rt plane me dst with
  | none => none
  | some h =>
    let nxt := hopDev rt me h
    if isLost s nxt && nxt ≠ dst then none
    else ((hopPorts me src dst h).find? (portUp s)).map (fun p => (h, p))

/-- Class of a frame as it arrives over a hop (R481). -/
def hopClass (me dst : Nat) (dateline : Bool) : Hop → Nat
  | .a _ => if cliqueOf me = cliqueOf dst then b2n dateline else 2
  | .b _ _ => b2n dateline

/-! ## Sending on a port (R466 to R468) -/

/-- Count a frame sent on a port (R628 and SHK_PORT_TX_BYTES); IDLE frames are not counted. -/
def countTx (s : State) (p : Nat) : State :=
  cntAdd (cntAdd (bump s (R.SHK_PORT_TX_BYTES (p / 12) (p % 12)) 256) (40 + 2 * p) 256) 13 256

/-- Count a frame received with a passing CRC. -/
def countRx (s : State) (p : Nat) : State :=
  cntAdd (bump s (R.SHK_PORT_RX_BYTES (p / 12) (p % 12)) 256) (41 + 2 * p) 256

/-- Send an unsequenced frame at once. -/
def sendRaw (s : State) (p : Nat) (f : Frame) : State := countTx (emit s (.frame p f)) p

/-- A port holds a credit of a pool of its neighbour (R468): 512 at UP plus freed less sent. -/
def hasCredit (q : Port) (pool : Nat) : Bool := decide (q.poolSent.getD pool 0 < 512 + q.poolFreed.getD pool 0)

/-- A slot of an input pool is freed: port, pool (R467). -/
def freeSlot (s : State) (o : Option (Nat × Nat)) : State :=
  match o with
  | none => s
  | some (p, pool) => modPort s p (fun q => { q with ownFreed := modAt (· + 1) q.ownFreed pool })

/-- Send queued frames while the port is UP, the replay buffer has room and a queued frame has a credit (fuel: frames
queued). -/
def portPump (p : Nat) : Nat → State → State
  | 0, s => s
  | k + 1, s =>
    let q := portOf s p
    if !portUp s p || decide (2048 ≤ q.replay.length) then s
    else match q.queue.findIdx? (fun e => hasCredit q e.pool) with
      | none => s
      | some i =>
        let e := q.queue.getD i ⟨0, .idle, none⟩
        let s := modPort s p (fun q => { q with
          queue := q.queue.eraseIdx i, replay := q.replay ++ [e.frame], sent := q.sent + 1,
          poolSent := modAt (· + 1) q.poolSent e.pool })
        portPump p k (sendRaw (freeSlot s e.origin) p e.frame)

/-- Queue a sequenced frame on a port and send what may go. -/
def portQueue (s : State) (p : Nat) (e : QEntry) : State :=
  let s := modPort s p (fun q => { q with queue := q.queue ++ [e] })
  portPump p ((portOf s p).queue.length) s

/-- Queue a frame of this device's own on a port for a pool. -/
def portEnqueue (s : State) (p pool : Nat) (f : Frame) : State := portQueue s p ⟨pool, f, none⟩

/-! ## Flows (R482, R485) -/

/-- e2e_timeout of a die in ft (R485, R487); 0 acts as 1. -/
def e2eTimeout (s : State) (die : Nat) : Nat := max 1 (rf s (R.SHK_CTL die) F.SHK_CTL_e2e_timeout) * 1024

def flowOut (s : State) (dst vc : Nat) : FlowOut :=
  (s.shk.outFlows.find? (fun f => f.dst = dst && f.vc = vc)).getD { dst := dst, vc := vc }

def setFlowOut (s : State) (f : FlowOut) : State :=
  let rest := s.shk.outFlows
  let hit := rest.any (fun g => decide (g.dst = f.dst) && decide (g.vc = f.vc))
  let new := if hit then rest.map (fun g => if g.dst = f.dst ∧ g.vc = f.vc then f else g) else rest ++ [f]
  { s with shk := { s.shk with outFlows := new } }

/-- The route table a flow uses: the old one while it still has unacknowledged messages after a switch (R484). -/
def flowRoute (s : State) (dst vc : Nat) : Option RouteTable :=
  match s.shk.oldRoutes.find? (fun o => o.1 = dst && o.2.1 = vc) with
  | some o => some o.2.2
  | none => s.shk.route

/-- A plane is valid for a flow: no device on its path is lost and no NO_ROUTE keeps it invalid (R482, R485). -/
def planeValid (s : State) (f : FlowOut) (p : Nat) : Bool :=
  let path := pathFrom (flowRoute s f.dst f.vc) p f.dst 50 (selfId s)
  path.getLast? = some f.dst && path.all (fun d => d = f.dst || !isLost s d)
    && !f.invalid.any (fun i => i.1 = p && decide (s.ft < i.2))

/-- Planes in the order of mode FIXED (R482): own member, destination's member, the others ascending. -/
def planeOrder (me dst : Nat) : List Nat :=
  ([memberOf me, memberOf dst] ++ [0, 1, 2, 3]).eraseDups

/-- The plane R482 chooses; none when the destination is unreachable. -/
def choosePlane (s : State) (f : FlowOut) : Option Nat :=
  let ps := (planeOrder (selfId s) f.dst).filter (planeValid s f)
  let adaptive : Bool := match flowRoute s f.dst f.vc with
    | some r => decide (r.mode = 1)
    | none => false
  if adaptive then
    minBy (fun p => match outPort s (flowRoute s f.dst f.vc) p (selfId s) f.dst with
      | some x => (portOf s x.2).queue.length
      | none => 1000000000) ps
  else ps.head?

/-- Die whose router is to inject a flow's frames: that of the first output port, A when there is none. -/
def flowDie (s : State) (f : FlowOut) : Nat :=
  match outPort s (flowRoute s f.dst f.vc) f.plane (selfId s) f.dst with
  | some x => x.2 / 12
  | none => 0

/-- Group size behind a message's bitmap (R393). -/
def bitmapGroup : Message → Nat
  | .part m => m.grp
  | .grad m => m.grp
  | _ => 0

/-- Header of frame `i` of a message on a flow. -/
def frameHdr (s : State) (f : FlowOut) (om : OutMsg) (i : Nat) (dateline : Bool) : Hdr :=
  ⟨0, i, om.seq, om.digestTag, om.epochTag, dateline, f.plane, f.vc, selfId s, f.dst⟩

/-- The source's own router has no way on for a flow's messages: their frames are discarded and counted, and the plane is invalid for
the flow as after a NO_ROUTE (R483, R485). -/
def refusePlane (s : State) (f : FlowOut) (ms : List OutMsg) : State :=
  let n := (ms.map (fun om => (msgFrames (bitmapGroup om.msg) om.msg).length)).sum
  let s := bump s (R.SHK_NOROUTE_CNT 0) n
  let s := flagEvent s (R.SHK_FLAGS 0) F.SHK_FLAGS_noroute (rb s (R.SHK_CTL 0) F.SHK_CTL_route_event_en) 137
  let g := flowOut s f.dst f.vc
  setFlowOut s { g with invalid := g.invalid.filter (fun i => i.1 ≠ f.plane) ++ [(f.plane, s.ft + e2eTimeout s 0)] }

/-- The hop a port makes by its wiring (R477). -/
def portHop (s : State) (p : Nat) : Hop :=
  if p < 12 then .a (if p / 4 < memberOf (selfId s) then p / 4 else p / 4 + 1) else .b ((p - 12) / 4) (decide ((p - 12) / 2 % 2 = 0))

/-- The hop and port of a message: those of the port it names while that is UP (R503, R504), else those of the flow's path. -/
def wayOf (s : State) (om : OutMsg) (h : Hop) (p : Nat) : Hop × Nat :=
  match om.port with
  | some q => if portUp s q then (portHop s q, q) else (h, p)
  | none => (h, p)

/-- Inject the frames of a message on the flow's plane over a hop and its port. -/
def injectMsg (s : State) (f : FlowOut) (hop : Hop) (port : Nat) (om : OutMsg) : State :=
  let h := (wayOf s om hop port).1
  let p := (wayOf s om hop port).2
  let fr := msgFrames (bitmapGroup om.msg) om.msg
  let dl := hopWraps (flowRoute s f.dst f.vc) (selfId s) h
  let pool := f.vc * 3 + hopClass (selfId s) f.dst dl h
  forEach (fun s i => portEnqueue s p pool (.data (frameHdr s f om i dl) (fr.getD i []))) s (List.range fr.length)

/-- The destination of a flow is unreachable: no plane is valid (R482). -/
def unreachable (s : State) : State :=
  flagEvent s (R.SHK_FLAGS 0) F.SHK_FLAGS_noroute (rb s (R.SHK_CTL 0) F.SHK_CTL_route_event_en) 137

/-- Resend a flow's unacknowledged messages in order on the plane R482 chooses (R485); a plane that this router refuses is invalid from
then on, and the next one is tried at once (R483, R485; fuel: the planes). -/
def resendFlow (dst vc : Nat) : Nat → State → State
  | 0, s => unreachable s
  | k + 1, s =>
    let f := flowOut s dst vc
    if f.unacked.isEmpty then s
    else match choosePlane s f with
      | none => unreachable s
      | some p =>
        let f := { f with plane := p, progress := s.ft }
        let f := { f with die := flowDie s f }
        let s := setFlowOut s f
        let s := cntAdd (bump s (R.SHK_RESEND_CNT f.die) f.unacked.length) 17 f.unacked.length
        match outPort s (flowRoute s dst vc) p (selfId s) dst with
        | none => resendFlow dst vc k (refusePlane s f f.unacked)
        | some (h, q) => forEach (fun s om => injectMsg s f h q om) s f.unacked

def flowResend (s : State) (dst vc : Nat) : State := resendFlow dst vc 4 s

/-- Send what a flow may send: messages waiting move to the unacknowledged ones, at most 512, and go out on the flow's
plane, chosen afresh when the flow has none unacknowledged (R482, R485); a die asked to go idle injects nothing (R494). -/
def flowPump (s : State) (dst vc : Nat) : State :=
  let f := flowOut s dst vc
  if f.waiting.isEmpty then s
  else
    let pick := if f.unacked.isEmpty then choosePlane s f else some f.plane
    match pick with
    | none => unreachable s
    | some p =>
      if idleAsked s (0x35 + flowDie s { f with plane := p }) then s
      else
      let n := 512 - f.unacked.length
      let go := f.waiting.take n
      let f := { f with plane := p, die := flowDie s { f with plane := p }, unacked := f.unacked ++ go, waiting := f.waiting.drop n,
                        progress := if f.unacked.isEmpty then s.ft else f.progress }
      let s := setFlowOut s f
      match outPort s (flowRoute s dst vc) p (selfId s) dst with
      | none => flowResend (refusePlane s f go) dst vc
      | some (h, q) => forEach (fun s om => injectMsg s f h q om) s go

/-- Send a message of a command, of a MOVE, or of neither, to a device, by a port a rule names. A message to the device itself crosses no link; one to a lost
device is abandoned (R485), but for RECOVERY messages (R492). The epoch and digest prefix of its tags are those active as it is sent,
which the work that sends it runs under (R51; DEDUCED, log 123). -/
def sendFrom (s : State) (cmd : Option Nat) (op : Option (Nat × Nat)) (port : Option Nat) (dst : Nat) (m : Message) : State :=
  if dst = selfId s then emit s (.message dst m)
  else if isLost s dst && !msgIsRecovery m then bump s (R.SHK_ABANDON_CNT 0) 1
  else
    let s := emit s (.message dst m)
    let f := flowOut s dst (msgVc m)
    let om : OutMsg := ⟨f.next, m, rf s R.THL_EPOCH F.THL_EPOCH_epoch % 256, (reg s (R.THL_ACTIVE_DIGEST 0)).toNat % 65536, cmd, op, port⟩
    flowPump (setFlowOut s { f with next := (f.next + 1) % 1024, waiting := f.waiting ++ [om] }) dst (msgVc m)

def sendMsgFor (s : State) (cmd : Option Nat) (dst : Nat) (m : Message) : State := sendFrom s cmd none none dst m

def sendMsg (s : State) (dst : Nat) (m : Message) : State := sendFrom s none none none dst m

/-- Send a message to the neighbour on a port by that port (R503, R504). -/
def sendBy (s : State) (p dst : Nat) (m : Message) : State := sendFrom s none none (some p) dst m

/-- Messages of MOVE `i` of frond `f` not yet acknowledged by their destination (R365). -/
def opUnacked (s : State) (f i : Nat) : Bool := s.shk.outFlows.any (fun g => (g.unacked ++ g.waiting).any (fun o => o.op = some (f, i)))

/-- Messages of a command not yet acknowledged by their peers (R558 step 4). -/
def cmdUnacked (s : State) (idx : Nat) : Bool :=
  s.shk.outFlows.any (fun f => f.unacked.any (fun o => o.cmd = some idx) || f.waiting.any (fun o => o.cmd = some idx))

/-- Port number towards a clique member or along a direction that R477 wires to a device, if any. -/
def portsTo (s : State) (d : Nat) : List Nat :=
  (List.range 24).filter (fun p => rf s (R.SHK_PORT_STATUS (p / 12) (p % 12)) F.SHK_PORT_STATUS_nbr_device = d && decide (portState s p ≠ 0))

/-- The device and its port number that the wiring rules put at the far end of a port (R477): device, die bit and index. -/
def wiredTo (s : State) (p : Nat) : Nat × Nat :=
  let me := selfId s
  if p < 12 then
    let j := p / 4
    let m := if j < memberOf me then j else j + 1
    (withMember me m, 4 * peerIndex m (memberOf me) + p % 4)
  else
    let q := p - 12
    let d := q / 2
    (hopDev s.shk.route me (.b (d / 2) (decide (d % 2 = 0))), 16 + 2 * (if d % 2 = 0 then d + 1 else d - 1) + q % 2)

end Sys2Proof.Machine
end

