-- ==== Sys2Proof/Machine/Fp.lean ====
section
/-! DEFINITION. Number formats, exact values, rounding and FP32 arithmetic (R67 to R94). -/

namespace Sys2Proof.Machine

/-! ## Exact values -/

/-- A value read from any format: NaN, an infinity, or ± m × 2^e. -/
inductive FV where
  | nan
  | inf (neg : Bool)
  | fin (neg : Bool) (m : Nat) (e : Int)
  deriving DecidableEq, Repr

/-- A rounding mode: to nearest even, or stochastic with a 16-bit random value (R88). -/
inductive Rnd where
  | ne
  | sr (rnd : Nat)
  /-- Toward +∞ on the magnitude, used only for the Q8B and U8B scale (R86). -/
  | up
  deriving DecidableEq, Repr

/-- Flags of a conversion (R93). -/
structure CvtFlags where
  ovf : Bool := false
  inv : Bool := false
  nanIn : Bool := false
  deriving DecidableEq, Repr

def CvtFlags.or (a b : CvtFlags) : CvtFlags := ⟨a.ovf || b.ovf, a.inv || b.inv, a.nanIn || b.nanIn⟩

/-- A binary float layout: exponent bits, fraction bits, bias (R67). -/
structure FLayout where
  eb : Nat
  fb : Nat
  bias : Nat
  deriving DecidableEq, Repr

def lFP32 : FLayout := ⟨8, 23, 127⟩
def lPX40 : FLayout := ⟨8, 31, 127⟩
def lBF16 : FLayout := ⟨8, 7, 127⟩
def lPX24 : FLayout := ⟨8, 15, 127⟩
def lFP16 : FLayout := ⟨5, 10, 15⟩
def lE4M3 : FLayout := ⟨4, 3, 7⟩
def lE5M2 : FLayout := ⟨5, 2, 15⟩
def lE2M1 : FLayout := ⟨2, 1, 1⟩

/-- Exponent of the subnormal spacing. -/
def FLayout.qmin (l : FLayout) : Int := 1 - (l.bias : Int) - (l.fb : Int)

/-- The magnitude a code without its sign stands for, no special codes. -/
def codeMag (l : FLayout) (c : Nat) : Nat × Int :=
  let ex := c >>> l.fb
  let fr := c % 2 ^ l.fb
  if ex = 0 then (fr, l.qmin) else (fr + 2 ^ l.fb, l.qmin + ((ex : Int) - 1))

/-- An IEEE-style code (all-ones exponent: infinity or NaN) as a value. -/
def ieeeVal (l : FLayout) (c : Nat) : FV :=
  let neg := c.testBit (l.eb + l.fb)
  let mag := c % 2 ^ (l.eb + l.fb)
  if mag >>> l.fb = 2 ^ l.eb - 1 then (if mag % 2 ^ l.fb = 0 then .inf neg else .nan)
  else let p := codeMag l mag; .fin neg p.1 p.2

/-- A magnitude m × 2^e on the grid of a layout, as a code that may run past the largest finite one (R88; round to
nearest even). -/
def roundCode (l : FLayout) (r : Rnd) (m : Nat) (e : Int) : Nat :=
  if m = 0 then 0
  else
    let ex : Int := (Nat.log2 m : Int) + e
    let qe : Int := max (ex - (l.fb : Int)) l.qmin
    let base := (qe - l.qmin).toNat <<< l.fb
    if qe ≤ e then base + m <<< (e - qe).toNat
    else
      let s := (qe - e).toNat
      let q := m >>> s
      let rem := m % 2 ^ s
      let up := match r with
        | .ne => decide (2 ^ s < 2 * rem) || (decide (2 * rem = 2 ^ s) && q.testBit 0)
        | .sr rnd => decide (65536 ≤ (rem * 65536) >>> s + rnd)
        | .up => decide (0 < rem)
      base + q + b2n up

/-- Magnitude code of the infinity of an IEEE-style layout. -/
def infCode (l : FLayout) : Nat := (2 ^ l.eb - 1) <<< l.fb

/-- The canonical NaN of an IEEE-style layout: quiet bit only (R69); PX40 and PX24 follow their word or BF16 plane. -/
def nanCode (l : FLayout) : Nat := infCode l + 2 ^ (l.fb - 1)

/-- Put a sign on a magnitude code. -/
def withSign (l : FLayout) (neg : Bool) (mag : Nat) : Nat := b2n neg <<< (l.eb + l.fb) + mag

/-- Conversion into an IEEE-style layout (R88, R93): code and flags. -/
def toIeee (l : FLayout) (r : Rnd) : FV → Nat × CvtFlags
  | .nan => (nanCode l, { nanIn := true })
  | .inf n => (withSign l n (infCode l), {})
  | .fin n m e =>
    let c := roundCode l r m e
    if infCode l ≤ c then (withSign l n (infCode l), { ovf := true }) else (withSign l n c, {})

/-! ## FP32 arithmetic (IEEE 754 round to nearest even, R68, R69) -/

def f32v (x : W32) : FV := ieeeVal lFP32 x.toNat

/-- A value rounded once to FP32. -/
def toF32 (v : FV) : W32 := BitVec.ofNat 32 (toIeee lFP32 .ne v).1

def f32nan : W32 := 0x7FC00000#32
def f32inf (neg : Bool) : W32 := if neg then 0xFF800000#32 else 0x7F800000#32

def isNaN32 (x : W32) : Bool := f32v x = .nan
def isInf32 (x : W32) : Bool := match f32v x with
  | .inf _ => true
  | _ => false
def isFin32 (x : W32) : Bool := match f32v x with
  | .fin _ _ _ => true
  | _ => false

/-- The signed mantissa of a finite value at exponent `e0`, for e0 not above its own exponent. -/
def alignTo (neg : Bool) (m : Nat) (e e0 : Int) : Int :=
  let a : Int := (m <<< (e - e0).toNat : Nat)
  if neg then -a else a

/-- A finite value from a signed mantissa. -/
def ofInt (x : Int) (e : Int) (zeroNeg : Bool) : FV :=
  if x = 0 then .fin zeroNeg 0 e else .fin (decide (x < 0)) x.natAbs e

/-- Exact sum; a zero sum of opposite or nonzero terms is +0, of two −0 is −0. -/
def fvAdd : FV → FV → FV
  | .nan, _ => .nan
  | _, .nan => .nan
  | .inf a, .inf b => if a = b then .inf a else .nan
  | .inf a, .fin _ _ _ => .inf a
  | .fin _ _ _, .inf b => .inf b
  | .fin a m e, .fin b n f =>
    let e0 := min e f
    ofInt (alignTo a m e e0 + alignTo b n f e0) e0 (a && b && decide (m = 0) && decide (n = 0))

def fvNeg : FV → FV
  | .nan => .nan
  | .inf a => .inf (!a)
  | .fin a m e => .fin (!a) m e

def fvAbs : FV → FV
  | .nan => .nan
  | .inf _ => .inf false
  | .fin _ m e => .fin false m e

/-- Exact product; 0 × ∞ is NaN. -/
def fvMul : FV → FV → FV
  | .nan, _ => .nan
  | _, .nan => .nan
  | .inf a, .inf b => .inf (a != b)
  | .inf a, .fin b m _ => if m = 0 then .nan else .inf (a != b)
  | .fin a m _, .inf b => if m = 0 then .nan else .inf (a != b)
  | .fin a m e, .fin b n f => .fin (a != b) (m * n) (e + f)

/-- A value scaled by 2^k exactly. -/
def fvScale (k : Int) : FV → FV
  | .fin a m e => .fin a m (e + k)
  | v => v

/-- Quotient carried to 72 significant bits with a sticky bit, so that one later rounding is exact. -/
def fvDiv : FV → FV → FV
  | .nan, _ => .nan
  | _, .nan => .nan
  | .inf _, .inf _ => .nan
  | .inf a, .fin b _ _ => .inf (a != b)
  | .fin a _ _, .inf b => .fin (a != b) 0 0
  | .fin a m e, .fin b n f =>
    if n = 0 then (if m = 0 then .nan else .inf (a != b))
    else if m = 0 then .fin (a != b) 0 0
    else
      let k := 72 + Nat.log2 n
      let q := (m <<< k) / n
      let st := b2n (decide ((m <<< k) % n ≠ 0))
      .fin (a != b) (2 * q + st) (e - f - (k : Int) - 1)

/-- Integer square root, bit by bit (fuel: number of result bits). -/
def isqrtFrom : Nat → Nat → Nat → Nat
  | 0, _, r => r
  | k + 1, n, r => let t := r + 2 ^ k; isqrtFrom k n (if t * t ≤ n then t else r)

def isqrt (n : Nat) : Nat := isqrtFrom (Nat.log2 n / 2 + 1) n 0

/-- Square root carried with a sticky bit, so that one later rounding is exact; −0 gives −0, a negative value NaN. -/
def fvSqrt : FV → FV
  | .nan => .nan
  | .inf false => .inf false
  | .inf true => .nan
  | .fin a m e =>
    if m = 0 then .fin a 0 0
    else if a then .nan
    else
      let k : Nat := 130 + (if e % 2 = 0 then 0 else 1)
      let n := m <<< k
      let r := isqrt n
      .fin false (2 * r + b2n (decide (r * r ≠ n))) ((e - (k : Int)) / 2 - 1)

def f32add (a b : W32) : W32 := toF32 (fvAdd (f32v a) (f32v b))
def f32sub (a b : W32) : W32 := toF32 (fvAdd (f32v a) (fvNeg (f32v b)))
def f32mul (a b : W32) : W32 := toF32 (fvMul (f32v a) (f32v b))
def f32fma (a b c : W32) : W32 := toF32 (fvAdd (fvMul (f32v a) (f32v b)) (f32v c))
def f32div (a b : W32) : W32 := toF32 (fvDiv (f32v a) (f32v b))
def f32sqrt (a : W32) : W32 := toF32 (fvSqrt (f32v a))

/-- Order of two values that are no NaN: less than. -/
def fvLt : FV → FV → Bool
  | .nan, _ => false
  | _, .nan => false
  | .inf a, .inf b => a && !b
  | .inf a, .fin _ _ _ => a
  | .fin _ _ _, .inf b => !b
  | .fin a m e, .fin b n f => let e0 := min e f; decide (alignTo a m e e0 < alignTo b n f e0)

/-- Numeric equality (−0 = +0, NaN equals nothing). -/
def fvEq : FV → FV → Bool
  | .nan, _ => false
  | _, .nan => false
  | .inf a, .inf b => a = b
  | .inf _, .fin _ _ _ => false
  | .fin _ _ _, .inf _ => false
  | .fin a m e, .fin b n f => let e0 := min e f; decide (alignTo a m e e0 = alignTo b n f e0)

def fvIsNaN : FV → Bool
  | .nan => true
  | _ => false

def fvFinite : FV → Bool
  | .fin _ _ _ => true
  | _ => false

/-- An integer as an exact value. -/
def fvInt (x : Int) : FV := ofInt x 0 false

/-- A value rounded to an integer (R83, R86): saturated to [lo, hi]; `none` for NaN. -/
def fvToInt (r : Rnd) (lo hi : Int) : FV → Option Int
  | .nan => none
  | .inf n => some (if n then lo else hi)
  | .fin n m e =>
    let mag : Nat :=
      if 0 ≤ e then m <<< e.toNat
      else
        let s := (-e).toNat
        let q := m >>> s
        let rem := m % 2 ^ s
        let up := match r with
          | .ne => decide (2 ^ s < 2 * rem) || (decide (2 * rem = 2 ^ s) && q.testBit 0)
          | .sr rnd => decide (65536 ≤ (rem * 65536) >>> s + rnd)
          | .up => decide (0 < rem)
        q + b2n up
    let x : Int := if n then -(mag : Int) else mag
    some (max lo (min hi x))

/-! ## Compensated pairs -/

/-- The exact value of a pair of sum and compensation words (R91): −0 only when both words are −0. -/
def pairVal (s c : W32) : FV := fvAdd (f32v s) (f32v c)

/-! ## The formats' codes -/

/-- E4M3 as a value (OCP: 0x7F and 0xFF NaN, no infinity). -/
def e4m3Val (c : Nat) : FV :=
  if c % 128 = 127 then .nan else let p := codeMag lE4M3 (c % 128); .fin (c.testBit 7) p.1 p.2

def e5m2Val (c : Nat) : FV := ieeeVal lE5M2 (c % 256)
def bf16Val (c : Nat) : FV := ieeeVal lBF16 (c % 65536)
def fp16Val (c : Nat) : FV := ieeeVal lFP16 (c % 65536)

/-- PX40 from its word and extension byte (R70), PX24 from its BF16 value and extension byte (R71). -/
def px40Val (word ext : Nat) : FV := ieeeVal lPX40 (word * 256 + ext)
def px24Val (hi ext : Nat) : FV := ieeeVal lPX24 (hi * 256 + ext)

/-- Under round to nearest even a magnitude of at least 464 exceeds the largest finite E4M3 value, its tie included (R76). -/
def over464 (r : Rnd) (m : Nat) (e : Int) : Bool :=
  decide (r = .ne) && !fvLt (.fin false m e) (.fin false 464 0)

/-- Conversion into E4M3 (R74 to R76). -/
def toE4M3 (sat : Bool) (r : Rnd) : FV → Nat × CvtFlags
  | .nan => (0x7F, { nanIn := true })
  | .inf n => if sat then (b2n n * 128 + 0x7E, { inv := true }) else (0x7F, { inv := true })
  | .fin n m e =>
    let c := roundCode lE4M3 r m e
    if 0x7E < c ∨ over464 r m e = true then (if sat then (b2n n * 128 + 0x7E, { ovf := true }) else (0x7F, { ovf := true }))
    else (b2n n * 128 + c, {})

/-- Conversion into E5M2 (R74 to R76). -/
def toE5M2 (sat : Bool) (r : Rnd) : FV → Nat × CvtFlags
  | .nan => (0x7E, { nanIn := true })
  | .inf n => if sat then (b2n n * 128 + 0x7B, {}) else (b2n n * 128 + 0x7C, {})
  | .fin n m e =>
    let c := roundCode lE5M2 r m e
    if 0x7B < c then (if sat then (b2n n * 128 + 0x7B, { ovf := true }) else (b2n n * 128 + 0x7C, { ovf := true }))
    else (b2n n * 128 + c, {})

/-- An E2M1 code without block scale (R79). -/
def e2m1Code (c : Nat) : Bool × Nat × Int := let p := codeMag lE2M1 (c % 8); (c.testBit 3, p.1, p.2)

/-- An E2M1 element under its block's scale byte (R79). -/
def e2m1Val (c s : Nat) : FV :=
  if s = 0xFF then .nan else let p := e2m1Code c; .fin p.1 p.2.1 (p.2.2 + ((s : Int) - 127))

/-- Floor of log2 of a positive finite magnitude. -/
def floorLog2 (m : Nat) (e : Int) : Int := (Nat.log2 m : Int) + e

/-- The greatest magnitude of a list of finite values, as m × 2^e. -/
def amaxOf (vs : List FV) : Nat × Int :=
  vs.foldl (fun acc v => match v with
    | .fin _ m e => if fvLt (.fin false acc.1 acc.2) (.fin false m e) then (m, e) else acc
    | _ => acc) (0, 0)

/-- An INT8 element (R82). -/
def int8Val (q scale : Nat) : FV := fvMul (fvInt (toSigned 8 q)) (bf16Val scale)

/-- 1/127 and 1/65,025 rounded to FP32. -/
def c127 : W32 := f32div (toF32 (fvInt 1)) (toF32 (fvInt 127))
def c65025 : W32 := f32div (toF32 (fvInt 1)) (toF32 (fvInt 65025))

/-- A Q8B element decoded to FP32 (R84). -/
def q8bVal (q scale : Nat) : W32 :=
  match bf16Val scale with
  | .nan => f32nan
  | sc =>
    let k := toSigned 8 q
    toF32 (fvMul (fvMul (fvInt (if k = -128 then -127 else k)) sc) (f32v c127))

/-- A U8B element decoded to FP32 (R85). -/
def u8bVal (u scale : Nat) : W32 :=
  match bf16Val scale with
  | .nan => f32nan
  | sc => toF32 (fvMul (fvMul (fvInt ((u * u : Nat) : Int)) sc) (f32v c65025))

/-- The Q8B and U8B block scale: amax rounded toward +∞ to BF16, at most the largest finite value (R86). -/
def blockScale (am : Nat × Int) : Nat := min (roundCode lBF16 .up am.1 am.2) 0x7F7F

/-- The integer code of a scaled element and its flags (R86, R93): out of range saturates; a product of 0 and an overflowed
reciprocal is a NaN, whose code is 0 as R83 has it (DEDUCED, log 23). -/
def momentCode (lo hi : Int) (t : W32) : Int × CvtFlags :=
  match fvToInt .ne (lo - 1) (hi + 1) (f32v t) with
  | none => (0, { inv := true })
  | some k => (max lo (min hi k), { ovf := decide (k < lo ∨ hi < k) })

/-- A value times an FP32 factor, rounded once to FP32: the t of R83 and R86, whose x is the exact value of the source (R91). -/
def timesF32 (x : FV) (c : W32) : W32 := toF32 (fvMul x (f32v c))

/-- A converted block: its scale, and per element a code and the flags that element raised. -/
structure BlockCodes where
  scale : Nat
  elems : List (Nat × CvtFlags)
  deriving DecidableEq, Repr

/-- The codes of a converted block. -/
def BlockCodes.codes (b : BlockCodes) : List Nat := b.elems.map (·.1)

/-- An element of a block that ends as NaN: an infinity raises inv, a NaN nan_in (R86); a finite element of an E2M1 block raises
nothing either (DESIGN CHOICE, log 109). -/
def nanElem (v : FV) : Nat × CvtFlags := match v with
  | .inf _ => (0, { inv := true })
  | .nan => (0, { nanIn := true })
  | .fin _ _ _ => (0, {})

/-- A block converted into Q8B (R86). -/
def toQ8B (xs : List FV) : BlockCodes :=
  if xs.any (fun v => !fvFinite v) then ⟨0x7FC0, xs.map nanElem⟩
  else
    let sc := blockScale (amaxOf xs)
    if sc = 0 then ⟨0, xs.map (fun _ => (0, {}))⟩
    else
      let c := f32div (toF32 (fvInt 127)) (toF32 (bf16Val sc))
      ⟨sc, xs.map (fun x => let k := momentCode (-127) 127 (timesF32 x c); (ofSigned 8 k.1, k.2))⟩

/-- A block converted into U8B (R86). -/
def toU8B (xs : List FV) : BlockCodes :=
  if xs.any (fun v => !fvFinite v) then ⟨0x7FC0, xs.map nanElem⟩
  else
    let sc := blockScale (amaxOf xs)
    let c := f32div (toF32 (fvInt 1)) (toF32 (bf16Val sc))
    let code (x : FV) : Nat × CvtFlags := match x with
      | .fin true _ _ => (0, { inv := true })
      | x => if sc = 0 then (0, {}) else
        let k := momentCode 0 255 (f32mul (f32sqrt (timesF32 x c)) (toF32 (fvInt 255)))
        (k.1.toNat, k.2)
    ⟨sc, xs.map code⟩

/-- A block converted into E2M1 (R80), element i rounded by `r i`. In a block that an infinity or a NaN turns into NaN its finite
elements raise no flag (DESIGN CHOICE, log 109). -/
def toE2M1 (r : Nat → Rnd) (xs : List FV) : BlockCodes :=
  if xs.any (fun v => !fvFinite v) then ⟨0xFF, xs.map nanElem⟩
  else
    let am := amaxOf xs
    let s : Int := if am.1 = 0 then 0 else max 0 (min 254 (floorLog2 am.1 am.2 - 2 + 127))
    let one (v : FV × Nat) : Nat × CvtFlags := match v.1 with
      | .fin n m e =>
        let c := if am.1 = 0 then 0 else roundCode lE2M1 (r v.2) m (e + 127 - s)
        (b2n n * 8 + min c 7, { ovf := decide (7 < c) })
      | _ => (0, {})
    ⟨s.toNat, xs.zipIdx.map one⟩

/-- Conversion of one element into INT8 under a BF16 scale (R83); −127 to 127 as a byte. -/
def toInt8 (r : Rnd) (scale : Nat) (x : FV) : Nat × CvtFlags :=
  match bf16Val scale with
  | .fin n m e =>
    if m = 0 then (0, ⟨false, !fvFinite x, fvIsNaN x⟩)
    else
      let t := timesF32 x (f32div (toF32 (fvInt 1)) (toF32 (.fin n m e)))
      match fvToInt r (-1000) 1000 (f32v t) with
      | none => (0, ⟨false, true, fvIsNaN x⟩)
      | some k => (ofSigned 8 (max (-127) (min 127 k)),
          ⟨decide (k < -127 ∨ 127 < k) && fvFinite x, !fvFinite x && !fvIsNaN x, false⟩)
  | _ => (0, ⟨false, !fvFinite x, fvIsNaN x⟩)

end Sys2Proof.Machine
end

