-- ==== Sys2Proof/Machine/Circuits.lean ====
section
/-! DEFINITION. The function circuits EXP2, LOG2, RCP and RSQ (R158): the exact value when it is an FP32 value, else one of its
two FP32 neighbours, which one being the implementation's (Config.circuitUp). -/

namespace Sys2Proof.Machine

/-- The FP32 result of a circuit from the exact value (or one strictly between the same two FP32 neighbours). -/
def nearCode (up : Bool) : FV → W32 × CvtFlags
  | .nan => (f32nan, {})
  | .inf n => (f32inf n, {})
  | .fin n m e =>
    let lo := roundCode lFP32 (.sr 0) m e
    let exact := fvEq (.fin false m e) (let p := codeMag lFP32 lo; .fin false p.1 p.2)
    let c := if exact then lo else if up then lo + 1 else lo
    if infCode lFP32 ≤ lo ∨ (lo + 1 = infCode lFP32 ∧ !exact) then (f32inf n, { ovf := true })
    else (BitVec.ofNat 32 (withSign lFP32 n c), {})

/-- 2^(2^-i) in fixed point with 192 fraction bits, for i from 1 up (`c` is the one before). -/
def exp2Roots : Nat → Nat → List Nat
  | 0, _ => []
  | k + 1, c => let r := isqrt (c <<< 192); r :: exp2Roots k r

/-- 2^(p / 2^k) for p < 2^k, with 192 fraction bits. -/
def exp2Frac (p k : Nat) : Nat :=
  ((exp2Roots k (2 <<< 192)).zipIdx).foldl (fun acc r => if p.testBit (k - 1 - r.2) then (acc * r.1) >>> 192 else acc) (1 <<< 192)

/-- EXP2 (R158). -/
def exp2C (x : W32) : W32 × CvtFlags :=
  match f32v x with
  | .nan => (f32nan, { nanIn := true })
  | .inf n => (if n then 0 else f32inf false, {})
  | .fin n m e =>
    if m = 0 then (BitVec.ofNat 32 0x3F800000, {})
    else if 9 ≤ (Nat.log2 m : Int) + e then (if n then nearCode (Config.circuitUp 0 x) (.fin false 1 (-400)) else (f32inf false, { ovf := true }))
    else
      let k := (-e).toNat
      let v : Int := (if n then -(m : Int) else m) * (if 0 ≤ e then (2 ^ e.toNat : Nat) else 1)
      let i := v / ((2 ^ k : Nat) : Int)
      let p := (v % ((2 ^ k : Nat) : Int)).toNat
      if p = 0 then nearCode (Config.circuitUp 0 x) (.fin false 1 i)
      else nearCode (Config.circuitUp 0 x) (.fin false (2 * exp2Frac p k + 1) (i - 193))

/-- `n` binary digits of log2 of y / 2^256, 1 ≤ y / 2^256 < 2. -/
def log2Digits : Nat → Nat → Nat → Nat
  | 0, _, acc => acc
  | k + 1, y, acc =>
    let z := (y * y) >>> 256
    if 2 ^ 257 ≤ z then log2Digits k (z >>> 1) (2 * acc + 1) else log2Digits k z (2 * acc)

/-- LOG2 (R158). -/
def log2C (x : W32) : W32 × CvtFlags :=
  match f32v x with
  | .nan => (f32nan, { nanIn := true })
  | .inf n => if n then (f32nan, { inv := true }) else (f32inf false, {})
  | .fin n m e =>
    if m = 0 then (f32inf true, {})
    else if n then (f32nan, { inv := true })
    else
      let g := Nat.log2 m
      let i := (g : Int) + e
      if m = 2 ^ g then (toF32 (fvInt i), {})
      else
        let f := log2Digits 80 (m <<< (256 - g)) 0
        let t : Int := i * ((2 ^ 80 : Nat) : Int) + f
        nearCode (Config.circuitUp 1 x) (if 0 ≤ t then .fin false (2 * t.toNat + 1) (-81) else .fin true (2 * (-t).toNat - 1) (-81))

/-- RCP (R158); a zero gives an infinity without ovf, as the table of R158 marks none (DEDUCED, log 97). -/
def rcpC (x : W32) : W32 × CvtFlags :=
  match f32v x with
  | .nan => (f32nan, { nanIn := true })
  | .inf n => (withSign lFP32 n 0, {})
  | .fin n m e =>
    if m = 0 then (f32inf n, {}) else nearCode (Config.circuitUp 2 x) (fvDiv (fvInt 1) (.fin n m e))

/-- RSQ (R158). -/
def rsqC (x : W32) : W32 × CvtFlags :=
  match f32v x with
  | .nan => (f32nan, { nanIn := true })
  | .inf n => if n then (f32nan, { inv := true }) else (0, {})
  | .fin n m e =>
    if m = 0 then (f32inf n, {})
    else if n then (f32nan, { inv := true })
    else
      let odd := decide (e % 2 ≠ 0)
      let m' := if odd then 2 * m else m
      let e' := if odd then e - 1 else e
      let q := (2 ^ 400) / m'
      let r := isqrt q
      let exact := decide (r * r * m' = 2 ^ 400)
      nearCode (Config.circuitUp 3 x) (.fin false (2 * r + b2n (!exact)) (-201 - e' / 2))

/-- Results of the circuits alone, for the optimisers. -/
def exp2W (x : W32) : W32 := (exp2C x).1
def log2W (x : W32) : W32 := (log2C x).1
def rcpW (x : W32) : W32 := (rcpC x).1
def rsqW (x : W32) : W32 := (rsqC x).1

end Sys2Proof.Machine
end

