-- ==== Sys2Proof/Machine/Pairs.lean ====
section
/-! DEFINITION. Compensated pairs (R119, R120, R122, R400) and the optimiser arithmetic shared by rows and blocks (R245, R415). -/

namespace Sys2Proof.Machine

/-! ## Pairs -/

def one32 : W32 := 0x3F800000#32

/-- The largest finite FP32 value of a sign (R122). -/
def max32 (neg : Bool) : W32 := if neg then 0xFF7FFFFF#32 else 0x7F7FFFFF#32

/-- Sign of an FP32 word. -/
def neg32 (x : W32) : Bool := x.toNat.testBit 31

/-- The sum word and its rounding error, as R119 forms them from S and p; the cases of R120 give a pair without error. -/
inductive SumStep where
  /-- R120: the pair becomes this. -/
  | special (s : W32)
  /-- R122: the sum word overflowed with this sign. -/
  | overflow (neg : Bool)
  /-- s and e. -/
  | ok (s : W32) (e : FV)
  deriving DecidableEq, Repr

/-- s and e of R119. -/
def sumStep (s : W32) (p : FV) : SumStep :=
  match fvAdd (f32v s) p with
  | .nan => .special f32nan
  | .inf n => .special (f32inf n)
  | v =>
    let t := toF32 v
    if isInf32 t then .overflow (neg32 t) else .ok t (fvAdd v (fvNeg (f32v t)))

/-- Add a value to a pair (R119, R120, R122); the flag says the element saturated. -/
def pairAddSat (s c : W32) (p : FV) : (W32 × W32) × Bool :=
  match sumStep s p with
  | .special t => ((t, 0), false)
  | .overflow n => ((max32 n, 0), true)
  | .ok t e =>
    let d := toF32 (fvAdd (f32v c) e)
    if isInf32 d && isFin32 c then ((max32 (neg32 d), 0), true) else ((t, d), false)

def pairAdd (a : W32 × W32) (p : FV) : W32 × W32 := (pairAddSat a.1 a.2 p).1

/-- Combine a later pair into an earlier one (R400, R135, R251), saturating as R122; the flag says so. -/
def pairJoinSat (a b : W32 × W32) : (W32 × W32) × Bool :=
  match sumStep a.1 (f32v b.1) with
  | .special t => ((t, 0), false)
  | .overflow n => ((max32 n, 0), true)
  | .ok t e =>
    let c := toF32 (fvAdd (f32v a.2) (f32v b.2))
    if isInf32 c && isFin32 a.2 && isFin32 b.2 then ((max32 (neg32 c), 0), true)
    else
      let d := toF32 (fvAdd (f32v c) e)
      if isInf32 d && isFin32 c then ((max32 (neg32 d), 0), true) else ((t, d), false)

def pairJoin (a b : W32 × W32) : W32 × W32 := (pairJoinSat a b).1

/-- Pair lists combined element by element. -/
def pairsJoin (a b : List (W32 × W32)) : List (W32 × W32) := List.zipWith pairJoin a b

/-- Neighbours of a list of leaves combined: one level of the tree of R401. -/
def treeLevel : List (List (W32 × W32)) → List (List (W32 × W32))
  | a :: b :: r => pairsJoin a b :: treeLevel r
  | r => r

/-- The fixed tree of R401 over 1, 2, 4 or 8 leaves. -/
def treeJoin (ls : List (List (W32 × W32))) : List (W32 × W32) :=
  (treeLevel (treeLevel (treeLevel ls))).headD []

/-- A compensated sum in order, rounded once (R173, R245). -/
def compSum (xs : List W32) : W32 :=
  let p := xs.foldl (fun a x => pairAdd a (f32v x)) (0, 0)
  toF32 (pairVal p.1 p.2)

/-! ## Optimisers (R245, R415) -/

/-- Greater than zero, as an FP32 number. -/
def pos32 (x : W32) : Bool := fvLt (.fin false 0 0) (f32v x)

/-- An integer in FP32. -/
def int32 (n : Nat) : W32 := toF32 (fvInt n)

/-- The bias-correction factor rcp(1 − exp2(t × log2(beta))) of ADAM. -/
def biasFactor (beta : W32) (t : Nat) : W32 := rcpW (f32sub one32 (exp2W (f32mul (int32 t) (log2W beta))))

/-- The correction factors k1 and k2. -/
def biasFactors (o : OptParams) (t : Nat) : W32 × W32 :=
  if o.biasCorr then (biasFactor o.beta1 t, biasFactor o.beta2 t) else (one32, one32)

/-- One element of SGD_MOMENTUM (0) or ADAM: u and the new m and v. -/
def optElem (o : OptParams) (k : W32 × W32) (g m v : W32) : W32 × W32 × W32 :=
  if o.algo = 0 then
    let m := f32fma o.beta1 m g
    (m, m, v)
  else
    let m := f32fma o.beta1 m (f32mul (f32sub one32 o.beta1) g)
    let v := f32fma o.beta2 v (f32mul (f32mul (f32sub one32 o.beta2) g) g)
    (f32mul (f32mul m k.1) (rsqW (f32add (f32mul v k.2) o.eps)), m, v)

/-- Blocks of 32 of a list. -/
def blocks32 {A : Type} (xs : List A) : List (List A) := chunksOf 32 xs

/-- Values in whole blocks: the last block is filled with elements of value 0 (R77). -/
def padBlocks (xs : List FV) : List (List FV) :=
  blocks32 (xs ++ List.replicate ((32 - xs.length % 32) % 32) (.fin false 0 0))

/-- FP32 values in whole blocks converted by `f`: all codes, those that fill the last block included, and all block scales. -/
def encBlocks (f : List FV → BlockCodes) (xs : List W32) : List Nat × List Nat :=
  let bs := (padBlocks (xs.map f32v)).map f
  (bs.flatMap BlockCodes.codes, bs.map (·.scale))

/-- Encode FP32 values as Q8B. -/
def encQ8B (xs : List W32) : List Nat × List Nat := encBlocks toQ8B xs

/-- Encode FP32 values as U8B. -/
def encU8B (xs : List W32) : List Nat × List Nat := encBlocks toU8B xs

end Sys2Proof.Machine
end

