-- ==== Sys2Proof/Machine/Image.lean ====
section
/-! DEFINITION. Access to the thallus images in the two slots (R27 to R33, R46) and to the sections of the active image. -/

namespace Sys2Proof.Machine

/-- A section: model key of its first byte, and its length. -/
structure Sec where
  addr : Nat
  len : Nat
  deriving DecidableEq, Repr

/-- Address of image slot `k` (THL_STORE_BASE). -/
def slotBase (s : State) (k : Nat) : Nat := (reg s R.THL_STORE_BASE).toNat % 2 ^ 48 + k * 0x1000_0000

/-- Entries of the section table of the image in slot `k`: type, instance, offset, length. -/
def sectionTable (s : State) (k : Nat) : List (Nat × Nat × Nat × Nat) :=
  let b := slotBase s k
  let t := b + numAt s (b + 0x20) 4
  (List.range (numAt s (b + 0x0C) 2)).map (fun i =>
    let e := t + 16 * i
    (numAt s e 2, numAt s (e + 0xC) 2, numAt s (e + 4) 4, numAt s (e + 8) 4))

/-- The section of a type and instance in slot `k`. -/
def findSec (s : State) (k ty inst : Nat) : Option Sec :=
  ((sectionTable s k).find? (fun e => e.1 = ty && e.2.1 = inst)).map (fun e => ⟨slotBase s k + e.2.2.1, e.2.2.2⟩)

/-- The sections of a type in slot `k`. -/
def secsOf (s : State) (k ty : Nat) : List Sec :=
  (sectionTable s k).filterMap (fun e => if e.1 = ty then some ⟨slotBase s k + e.2.2.1, e.2.2.2⟩ else none)

/-- An image is active (R48). -/
def imageActive (s : State) : Bool := rb s R.THL_STATUS F.THL_STATUS_active_valid

/-- A section of the active image. -/
def actSec (s : State) (ty inst : Nat) : Option Sec :=
  if imageActive s then findSec s s.thl.activeSlot ty inst else none

/-- An `n`-byte field of a section; 0 when the section is absent. -/
def secNum (s : State) (x : Option Sec) (off n : Nat) : Nat :=
  match x with
  | none => 0
  | some c => numAt s (c.addr + off) n

/-- Bytes of a section; none when it is absent. -/
def secBytes (s : State) (x : Option Sec) (off n : Nat) : List Byte :=
  match x with
  | none => []
  | some c => bytesAt s (c.addr + off) n

/-- A field of OPTIMISER_PARAMS instance `inst` in effect now: what the records, clip and renorm, whose change takes effect for every
apply that starts after T, hold (R57, R229, R414; DEDUCED, log 117). -/
def optNow (s : State) (inst off k : Nat) : Nat := secNum s (actSec s 0xC inst) off k

/-- A field of OPTIMISER_PARAMS instance `inst` as in effect for step `n`, which the sparse header, the schedule, the stream, window_len and
policy take at a step's start (R229, R414): the section latched at the start of that step or of the last one before it, else the active
image's. -/
def optNum (s : State) (inst n off k : Nat) : Nat :=
  match s.thl.live.find? (fun x => decide (x.inst = inst) && decide (x.step ≤ n)) with
  | some x => fieldAt x.bytes off k
  | none => secNum s (actSec s 0xC inst) off k

/-- The OPTIMISER_PARAMS sections take effect for the steps from `n` on. -/
def latchOpt (s : State) (n : Nat) : State :=
  forEach (fun s inst =>
    match actSec s 0xC inst with
    | none => s
    | some c =>
      let x : LiveSec := ⟨inst, n, bytesAt s c.addr c.len⟩
      let rest := s.thl.live.filter (fun y => decide (y.step < n) && decide (n ≤ y.step + 3) || decide (y.inst ≠ inst))
      { s with thl := { s.thl with live := x :: rest } }) s [0, 1]

/-- The job seed of the active image (R95). -/
def jobSeed (s : State) : Nat := numAt s (slotBase s s.thl.activeSlot + 0x18) 8

/-- required_caps of the active image. -/
def requiredCaps (s : State) : Nat := numAt s (slotBase s s.thl.activeSlot + 0x14) 4

/-- The rank list of the SORUS_PLAN (R199). -/
def rankList (s : State) : List Nat :=
  let x := actSec s 5 0
  (List.range (secNum s x 6 2)).map (fun i => secNum s x (0x10 + 2 * i) 2)

/-- mb_samples and microbatches of the SORUS_PLAN (R199). -/
def mbSamples (s : State) : Nat := secNum s (actSec s 5 0) 2 2
def microBatches (s : State) : Nat := secNum s (actSec s 5 0) 4 2

/-- Position of the device in the rank list, none when it holds no samples (R203). -/
def rankOf (s : State) : Option Nat := (rankList s).findIdx? (fun d => d = selfId s)

/-- A SORUS_PLAN entry (R200) with its home stack. -/
structure PlanEntry where
  home : Nat
  table : Nat
  frond : Nat
  base : Nat
  alt : Nat
  stride : Nat
  inBase : Nat
  stepStride : Nat
  mbStride : Nat
  deriving DecidableEq, Repr

/-- The entries of the eight SORUS_PLAN sections. -/
def planEntries (s : State) : List PlanEntry :=
  (List.range 8).flatMap (fun h =>
    let x := actSec s 5 h
    let first := if h = 0 then 0x10 + (2 * secNum s x 6 2 + 15) / 16 * 16 else 0x10
    (List.range (secNum s x 0 2)).map (fun i =>
      let o := first + 48 * i
      ⟨h, secNum s x o 2 % 4096, secNum s x (o + 2) 1 % 32, secNum s x (o + 4) 4, secNum s x (o + 8) 4,
        secNum s x (o + 0xC) 2, secNum s x (o + 0x10) 8, secNum s x (o + 0x18) 8, secNum s x (o + 0x20) 8⟩))

/-- The entry of a table. -/
def planEntry (s : State) (table : Nat) : Option PlanEntry := (planEntries s).find? (fun e => e.table = table)

/-- Every device in the owner list of a table with a SORUS_PLAN entry is found through Machine/Table.lean (R238). -/
def plannedTables (s : State) : List Nat := (planEntries s).map (·.table)

/-! ## Soredial groups (R507, R508) -/

/-- The group entries of a PARITY_GROUPS section from section offset `o`: k and member IDs. -/
def groupsFrom (s : State) (x : Option Sec) : Nat → Nat → List (Nat × List Nat)
  | 0, _ => []
  | n + 1, o =>
    let c := secNum s x (o + 2) 2
    (secNum s x o 1, (List.range c).map (fun i => secNum s x (o + 8 + 2 * i) 2)) ::
      groupsFrom s x n (o + 8 + (2 * c + 7) / 8 * 8)

/-- The groups of the active image. -/
def groups (s : State) : List (Nat × List Nat) :=
  let x := actSec s 7 0
  groupsFrom s x (secNum s x 0 2) (secNum s x 4 4)

/-- The group a device is a member of: k, members, its member index. -/
def groupOf (s : State) (d : Nat) : Option (Nat × List Nat × Nat) :=
  match (groups s).find? (fun g => g.2.contains d) with
  | none => none
  | some g => (g.2.findIdx? (fun x => x = d)).map (fun i => (g.1, g.2, i))

def parBase (s : State) : Nat := secNum s (actSec s 7 0) 8 8
def spareBase (s : State) : Nat := secNum s (actSec s 7 0) 0x10 8
def rbBase (s : State) : Nat := secNum s (actSec s 7 0) 0x20 8

end Sys2Proof.Machine
end

