-- ==== Sys2Proof/Machine/Table.lean ====
section
/-! DEFINITION. Table descriptors, versions, resolution, owners and the places of rows (R186 to R204, R215 to R227). -/

namespace Sys2Proof.Machine

/-! ## Descriptor fields (R188) -/

def dTable (d : List Byte) : Nat := fieldAt d 0 2 % 4096
def dKind (d : List Byte) : Nat := fieldAt d 2 1
def dPool (d : List Byte) : Nat := fieldAt d 3 1
def dWidth (d : List Byte) : Nat := fieldAt d 4 2
def dSlots (d : List Byte) : Nat := fieldAt d 6 1
def dHash (d : List Byte) : Bool := bitOf (fieldAt d 7 1) 0
def dAlias (d : List Byte) : Bool := bitOf (fieldAt d 7 1) 1
def dWeighted (d : List Byte) : Bool := bitOf (fieldAt d 7 1) 2
def dAliasOf (d : List Byte) : Nat := fieldAt d 8 2 % 4096
def dOwn (d : List Byte) : Nat := fieldAt d 0x0A 2
def dOwnerList (d : List Byte) : Nat := fieldAt d 0x0C 4
def dIdRange (d : List Byte) : Nat := fieldAt d 0x10 8
def dRows (d : List Byte) : Nat := fieldAt d 0x18 8
def dHashMult (d : List Byte) : Nat := fieldAt d 0x20 8
def dShardMult (d : List Byte) : Nat := fieldAt d 0x28 8
def dBf (d : List Byte) : Nat := fieldAt d 0x30 8
def dExt (d : List Byte) : Nat := fieldAt d 0x38 8
def dState (d : List Byte) : Nat := fieldAt d 0x40 8
def dStreamFwd (d : List Byte) : Nat := fieldAt d 0x48 4 % 2 ^ 20
def dStreamBwd (d : List Byte) : Nat := fieldAt d 0x4C 4 % 2 ^ 20
def dCombine (d : List Byte) : Nat := fieldAt d 0x50 1
def dRemWidth (d : List Byte) : Nat := fieldAt d 0x52 2
def dRemRows (d : List Byte) : Nat := fieldAt d 0x58 8
def dRemBf (d : List Byte) : Nat := fieldAt d 0x60 8
def dRemExt (d : List Byte) : Nat := fieldAt d 0x68 8
def dRemState (d : List Byte) : Nat := fieldAt d 0x70 8
def dVersion (d : List Byte) : Nat := fieldAt d 0x78 1

/-- A compositional table (kinds 2 and 3). -/
def dComp (d : List Byte) : Bool := decide (2 ≤ dKind d)

/-- The table whose storage a descriptor addresses (R190). -/
def storageOf (d : List Byte) : Nat := if dAlias d then dAliasOf d else dTable d

/-- Width of the vector a row or pair of rows gives, before CONCAT (R191). -/
def dInner (d : List Byte) : Nat := if dComp d ∧ dCombine d = 2 then dWidth d + dRemWidth d else dWidth d

/-- The derived output width W (R191). -/
def dOut (d : List Byte) : Nat := if dPool d = 3 then dInner d * dSlots d else dInner d

/-! ## Versions -/

/-- The version state of a table. -/
def tableState (s : State) (t : Nat) : TableState := (s.sor.tables.find? (fun x => x.id = t)).getD { id := t }

/-- Replace a table's version state. -/
def setTable (s : State) (x : TableState) : State :=
  let l := s.sor.tables
  let l := if l.any (fun y => decide (y.id = x.id)) then l.map (fun y => if y.id = x.id then x else y) else l ++ [x]
  { s with sor := { s.sor with tables := l } }

/-- A live version of a table by number. -/
def liveVersion (s : State) (t v : Nat) : Option TableVersion :=
  (tableState s t).versions.find? (fun x => dVersion x.desc = v)

/-- The newest version of a table, installed or about to be. -/
def newestVersion (s : State) (t : Nat) : Option TableVersion := (tableState s t).versions.head?

/-- A live version whose descriptor addresses the storage of table `t` with version number `v`. -/
def storageVersion (s : State) (t v : Nat) : Option TableVersion :=
  match liveVersion s t v with
  | some x => some x
  | none => (s.sor.tables.flatMap (·.versions)).find? (fun x => storageOf x.desc = t && dVersion x.desc = v)

/-- The version a batch of step `n` binds to (R216). -/
def bindVersion (s : State) (t n : Nat) : Option TableVersion :=
  (tableState s t).versions.find? (fun x => x.fromEpoch || decide (x.effStep ≤ n))

/-! ## Resolution (R193 to R197) -/

/-- Whether an identifier is missing, and whether it is invalid. -/
def idMissing (x : Nat) : Bool := decide (x = 0xFFFF_FFFF_FFFF_FFFF)
def idInvalid (d : List Byte) (x : Nat) : Bool :=
  !idMissing x && (decide (dKind d = 0) || decide (dKind d = 2)) && decide (dIdRange d ≤ x)

/-- Storage row and remainder row of a valid identifier (R194). -/
def resolveId (d : List Byte) (x : Nat) : Nat × Nat :=
  let h := x * dHashMult d % 2 ^ 64
  match dKind d with
  | 0 => (x, 0)
  | 1 => ((h * dRows d) >>> 64, 0)
  | 2 => (x / dRemRows d, x % dRemRows d)
  | _ => let v := (h * dRows d * dRemRows d) >>> 64; (v / dRemRows d, v % dRemRows d)

/-- Owner index and local row of a storage row (R197). -/
def ownerOf (d : List Byte) (row : Nat) : Nat × Nat :=
  let n := dOwn d
  if dHash d then
    let g := row / n
    ((row % n + ((g * dShardMult d % 2 ^ 64) * n) >>> 64) % n, g)
  else
    let sz := (dRows d + n - 1) / n
    (row / sz, row % sz)

/-- Most rows of one owner. -/
def rowBound (d : List Byte) : Nat := (dRows d + dOwn d - 1) / dOwn d

/-! ## Places of rows (R189, R227) -/

/-- Bytes of a row's BF16 plane and extension plane. -/
def planeP (w : Nat) : Nat := (2 * w + 63) / 64 * 64
def planeE (w : Nat) : Nat := (w + 63) / 64 * 64

/-- Section offset of the sparse OPTIMISER_PARAMS record of a table, if it has one (R57, R224 to R226). -/
def sparseRec (s : State) (t : Nat) : Option Nat :=
  ((List.range (optNow s 1 0 2)).map (fun i => 144 + 64 * i)).find? (fun o => optNow s 1 o 2 % 4096 = t)

/-- A field of a table's sparse record. -/
def recNum (s : State) (o off n : Nat) : Nat := optNow s 1 (o + off) n

/-- State bytes of a row of width `w` under an algorithm (R227). -/
def stateZ (algo w : Nat) : Nat :=
  let b := (w + 31) / 32
  match algo with
  | 0 => (34 * b + 63) / 64 * 64
  | 1 => 4
  | _ => (68 * b + 4 + 63) / 64 * 64

/-- Z of a table's rows: 0 without a sparse record. -/
def rowZ (s : State) (d : List Byte) (w : Nat) : Nat :=
  match sparseRec s (storageOf d) with
  | none => 0
  | some o => stateZ (recNum s o 2 1) w

/-- Width of stored or remainder rows. -/
def rowW (d : List Byte) (rem : Bool) : Nat := if rem then dRemWidth d else dWidth d

/-- The three parts of a row in the tiered range: address and length of the BF16 plane, the extension plane, the state. -/
def rowParts (s : State) (d : List Byte) (rem : Bool) (l : Nat) : List (Nat × Nat) :=
  let w := rowW d rem
  let z := rowZ s d w
  if rem then [(dRemBf d + l * planeP w, planeP w), (dRemExt d + l * planeE w, planeE w), (dRemState d + l * z, z)]
  else [(dBf d + l * planeP w, planeP w), (dExt d + l * planeE w, planeE w), (dState d + l * z, z)]

/-- The row record's bytes before padding: BF16 plane, extension plane, state (R509). -/
def rowBytes (s : State) (d : List Byte) (rem : Bool) (l : Nat) : List Byte :=
  (rowParts s d rem l).flatMap (fun p => tierRead s p.1 p.2)

/-- RowBytes of a table's stored or remainder rows (R509). -/
def rowSize (s : State) (d : List Byte) (rem : Bool) : Nat :=
  let w := rowW d rem
  (planeP w + planeE w + rowZ s d w + 63) / 64 * 64

/-- Element `e` of a BF16 plane. -/
def bfElem (plane : List Byte) (e : Nat) : Nat := fieldAt plane (2 * e) 2

/-- The sorus engine that serves a row: the stack in the entry of the page of its first byte (R198, R271). -/
def servingStack (s : State) (a : Nat) : Nat :=
  let e := pte s (a / 0x1_0000)
  if pteTier e = 0 then a / 0x1_0000 % 8 else pteStack e

/-- Every device in the owner list of a table with a SORUS_PLAN entry, ascending (R238). -/
def plannedOwners (s : State) : List Nat :=
  ((plannedTables s).flatMap (fun t => match newestVersion s t with
    | none => []
    | some v => v.owners)).foldl (fun acc d => insertAsc d acc) []

end Sys2Proof.Machine
end

