-- ==== Sys2Proof/Machine/RauImage.lean ====
section
/-! DEFINITION. The shard plan, the dense OPTIMISER_PARAMS section and the lines of the step barrier as read from the active
image (R387 to R392, R395, R398, R408, R411 to R413). -/

namespace Sys2Proof.Machine

/-- A block entry (R390) with its global index and die. -/
structure BlockEntry where
  block : Nat
  die : Nat
  paramBase : Nat
  nElem : Nat
  primary : Nat
  replicas : List Nat
  group : Nat
  fmt : Nat
  opt : Nat
  tensor : Nat
  parts : Nat
  region : Nat
  deriving DecidableEq, Repr

/-- The RAU_SHARD_PLAN section of a die. -/
def shardSec (s : State) (die : Nat) : Option Sec := actSec s 6 die

def nBlocks (s : State) (die : Nat) : Nat := secNum s (shardSec s die) 0 4
def splitInv (s : State) : Bool := bitOf (secNum s (shardSec s 0) 6 1) 0
def partBase (s : State) (die : Nat) : Nat := secNum s (shardSec s die) 8 8
def partSize (s : State) (die : Nat) : Nat := secNum s (shardSec s die) 0x10 8

/-- The entry of index `i` of a die's section. -/
def entryAt (s : State) (die i : Nat) : BlockEntry :=
  let x := shardSec s die
  let o := secNum s x 0x2C 4 + 32 * i
  let r1 := secNum s x (o + 0xE) 2
  let r2 := secNum s x (o + 0x10) 2
  let t := secNum s x (o + 0x16) 2
  ⟨i + (if die = 1 then nBlocks s 0 else 0), die, secNum s x o 8, secNum s x (o + 8) 4, secNum s x (o + 0xC) 2 % 16384,
    (if bitOf r1 15 then [r1 % 16384] else []) ++ (if bitOf r2 15 then [r2 % 16384] else []),
    secNum s x (o + 0x12) 2, secNum s x (o + 0x14) 1, secNum s x (o + 0x15) 1, t % 4096, 2 ^ bitsOf t 12 2,
    secNum s x (o + 0x18) 8⟩

/-- A block by its global index. -/
def blockEntry (s : State) (b : Nat) : Option BlockEntry :=
  let n := nBlocks s 0
  if b < n then some (entryAt s 0 b) else if b < n + nBlocks s 1 then some (entryAt s 1 (b - n)) else none

/-- All blocks of the plan, in ascending index. -/
def allBlocks (s : State) : List BlockEntry :=
  (List.range (nBlocks s 0)).map (entryAt s 0) ++ (List.range (nBlocks s 1)).map (entryAt s 1)

/-- The contributor group `g` of a die's section, in canonical rank (R389). -/
def groupIds (s : State) (die g : Nat) : List Nat :=
  let x := shardSec s die
  let o := secNum s x (secNum s x 0x28 4 + 4 * g) 4
  (List.range (secNum s x o 2)).map (fun i => secNum s x (o + 8 + 2 * i) 2 % 16384)

/-- The contributor group of a block. -/
def contributors (s : State) (e : BlockEntry) : List Nat := groupIds s e.die e.group

/-- Holders of a block that are not lost, in the order primary, replica1, replica2. -/
def liveHolders (s : State) (e : BlockEntry) : List Nat := (e.primary :: e.replicas).filter (fun d => !isLost s d)

/-- The primary of a block: its first surviving holder (R419). -/
def primaryOf (s : State) (e : BlockEntry) : Option Nat := (liveHolders s e).head?

def isPrimary (s : State) (e : BlockEntry) : Bool := primaryOf s e = some (selfId s)
def isHolder (s : State) (e : BlockEntry) : Bool := (e.primary :: e.replicas).contains (selfId s)

/-- The holders other than this device. -/
def otherHolders (s : State) (e : BlockEntry) : List Nat := (liveHolders s e).filter (fun d => d ≠ selfId s)

/-- Group indices of part `j` of `p` in a group of `c`: first, and one past the last (R398). -/
def partRange (c p j : Nat) : Nat × Nat := (j * c / p, (j + 1) * c / p)

/-- The leader of a part: its member of lowest index that is not lost. -/
def partLeader (s : State) (e : BlockEntry) (j : Nat) : Option Nat :=
  let ids := contributors s e
  let r := partRange ids.length e.parts j
  ((ids.drop r.1).take (r.2 - r.1)).find? (fun d => !isLost s d)

/-- The part a group index lies in. -/
def partOfIndex (c p i : Nat) : Nat := ((List.range p).find? (fun j => decide (i < (partRange c p j).2))).getD 0

/-- The device a contribution of `src` goes to (R392). -/
def reduceDest (s : State) (e : BlockEntry) (src : Nat) : Option Nat :=
  if e.parts = 1 then primaryOf s e
  else
    let ids := contributors s e
    (ids.findIdx? (fun d => d = src)).bind (fun i => partLeader s e (partOfIndex ids.length e.parts i))

/-! ## Regions (R387) -/

/-- x rounded up to a multiple of 64. -/
def up64 (x : Nat) : Nat := (x + 63) / 64 * 64

/-- Offset of the dense group record `g`. -/
def optRecord (s : State) (g : Nat) : Nat := 0x20 + 16 * optNow s 0 2 2 + 32 * g

/-- The parameters of a dense optimiser group that an apply starting now uses (R57, R413). -/
def denseOpt (s : State) (g : Nat) : OptParams :=
  let o := optRecord s g
  let w (k : Nat) : W32 := BitVec.ofNat 32 (optNow s 0 (o + k) 4)
  let fl := optNow s 0 (o + 1) 1
  ⟨optNow s 0 o 1, bitOf fl 0, bitOf fl 1, bitOf fl 2, w 4, w 8, w 0xC, w 0x10, w 0x14, 0⟩

/-- Sizes of the five parts of a block's state. -/
def stateParts (o : OptParams) (n : Nat) : List Nat :=
  let bk := (n + 31) / 32
  let mom := if o.blockMoments then up64 n + up64 (2 * bk) else up64 (4 * n)
  [up64 (4 * n), up64 n, mom] ++ (if o.algo = 2 then [mom, 64] else [])

/-- Zs, the bytes of a block's state. -/
def stateSize (o : OptParams) (n : Nat) : Nat := (stateParts o n).sum

/-- Raw HBM address of a block's region. -/
def regionAddr (s : State) (e : BlockEntry) : Nat := partBase s e.die + e.region

/-- Address of snapshot slot `k`. -/
def snapAddr (s : State) (e : BlockEntry) (k : Nat) : Nat :=
  regionAddr s e + (k + 1) * stateSize (denseOpt s e.opt) e.nElem

/-- Address of the log slot of step `n`. -/
def logAddr (s : State) (e : BlockEntry) (n : Nat) : Nat :=
  regionAddr s e + 3 * stateSize (denseOpt s e.opt) e.nElem + n % 64 * (up64 (4 * e.nElem) + 64)

/-- Address of the step record of a log slot. -/
def logRecord (s : State) (e : BlockEntry) (n : Nat) : Nat := logAddr s e n + up64 (4 * e.nElem)

/-! ## The schedule (R411, R412) -/

def denseNum (s : State) (n off k : Nat) : Nat := optNum s 0 n off k
def hasDense (s : State) : Bool := (actSec s 0xC 0).isSome

/-- Point `k` of the schedule in effect for step `n`: step and rate. -/
def schedPoint (s : State) (n k : Nat) : Nat × W32 :=
  (denseNum s n (0x20 + 16 * k) 8 % 2 ^ 48, BitVec.ofNat 32 (denseNum s n (0x28 + 16 * k) 4))

/-- η_step of step `n` (R412); 0 without a dense section. -/
def etaStep (s : State) (n : Nat) : W32 :=
  let ps := (List.range (denseNum s n 2 2)).map (schedPoint s n)
  match ps.getLast?, ps.head? with
  | some last, some first =>
    if n ≤ first.1 then first.2
    else if last.1 ≤ n then last.2
    else
      match (ps.zip ps.tail).find? (fun q => decide (q.1.1 ≤ n) && decide (n < q.2.1)) with
      | some (a, b) => f32add a.2 (f32mul (f32sub b.2 a.2)
          (f32mul (int32 (n - a.1)) (rcpW (int32 (b.1 - a.1)))))
      | none => last.2
  | _, _ => 0

/-- Window length of step `n`; without a dense section 1,000,000 ft, its least (DESIGN CHOICE, log 89). -/
def windowLen (s : State) (n : Nat) : Nat := if hasDense s then denseNum s n 8 4 else 1000000

/-! ## Lines of the barrier (R408) -/

/-- Every device that appears in a contributor group of the image. -/
def participants (s : State) : List Nat :=
  ([0, 1].flatMap (fun die => (List.range (secNum s (shardSec s die) 4 2)).flatMap (groupIds s die))).eraseDups

/-- Coordinate that level 1 to 4 runs along: z, y, x, member. -/
def levelCoord (level d : Nat) : Nat := if level = 4 then memberOf d else coord d (3 - level)

/-- Devices of this device's line at a level, in ascending coordinate, itself included, the lost excluded (R408, R409). A device
of no group has a line of its own (DEDUCED, log 90). -/
def lineOf (s : State) (level : Nat) : List Nat :=
  let me := selfId s
  if !(participants s).contains me then [me] else
  let same (d : Nat) : Bool := [1, 2, 3, 4].all (fun l => l = level || decide (levelCoord l d = levelCoord l me))
  let ds := me :: (participants s).filter (fun d => d ≠ me && same d && !isLost s d)
  (List.range 16).flatMap (fun c => ds.filter (fun d => decide (levelCoord level d = c)))

end Sys2Proof.Machine
end

