-- ==== Sys2Proof/Machine/Parity.lean ====
section
/-! DEFINITION. Soredial groups, deltas and commits (R257 to R259, R507 to R513, R518, R522), the rollback log (R529, R530). -/

namespace Sys2Proof.Machine

/-! ## Geometry (R510, R511) -/

/-- Where the pieces of a row lie: parity holder, spare holder, parity slot, spare slot. -/
structure Located where
  h : Nat
  s : Nat
  parity : Nat
  spare : Nat
  deriving DecidableEq, Repr

/-- locate(i, l, k) of R510. -/
def locate (i l k : Nat) : Located :=
  let n := k + 2
  let q := l / (k * (k + 1))
  let j := l % (k * (k + 1))
  let a := j / k
  let b := j % k
  let h := (i + a + 1) % n
  let s := (i + 1 + ((a + 1 + b) % (k + 1))) % n
  ⟨h, s, q * (k + 1) + ((s + n - h) % n) - 1, q * (k + 1) + ((h + n - s) % n) - 1⟩

/-- The data row of member `m` in the stripe whose parity holder is `h`, spare holder `s` and stripe number `q` (R510). -/
def stripeRow (k q h s m : Nat) : Nat :=
  let n := k + 2
  let a := (h + n - m) % n - 1
  let b := ((s + n - m) % n + (k + 1) * n - (h + n - m) % n - 1) % (k + 1)
  q * (k * (k + 1)) + a * k + b

/-- Members of the stripe that hold its data rows. -/
def dataMembers (k h s : Nat) : List Nat := (List.range (k + 2)).filter (fun m => m ≠ h && m ≠ s)

/-- The tables that have storage of their own, by ID, with their newest descriptor. -/
def storageTables (s : State) : List (Nat × List Byte) :=
  let ids := (s.sor.tables.map (·.id)).foldl (fun acc t => insertAsc t acc) []
  ids.filterMap (fun t => match newestVersion s t with
    | none => none
    | some v => if dAlias v.desc then none else some (t, v.desc))

/-- Bytes of a table's stored and remainder regions in the parity or spare area of a group of geometry `k` (R511). -/
def regionSize (s : State) (k : Nat) (d : List Byte) (rem : Bool) : Nat :=
  let n := if rem then (if dComp d then dRemRows d else 0) else rowBound d
  (n + k * (k + 1) - 1) / (k * (k + 1)) * (k + 1) * rowSize s d rem

/-- Offset of a slot in the parity or spare area (R511); a table's remainder region follows its stored region and counts in
the sum of later tables (DEDUCED, log 95). -/
def slotOffset (s : State) (k t : Nat) (rem : Bool) (x : Nat) : Nat :=
  let ts := storageTables s
  let before := ((ts.filter (fun y => y.1 < t)).map (fun y => regionSize s k y.2 false + regionSize s k y.2 true)).sum
  match ts.find? (fun y => y.1 = t) with
  | none => before
  | some y => before + (if rem then regionSize s k y.2 false else 0) + x * rowSize s y.2 rem

/-- Raw HBM address of a parity slot and of a spare slot on their holder. -/
def parityAddr (s : State) (k t : Nat) (rem : Bool) (x : Nat) : Nat := parBase s + slotOffset s k t rem x
def spareAddr (s : State) (k t : Nat) (rem : Bool) (x : Nat) : Nat := spareBase s + slotOffset s k t rem x

/-- Bytes XORed; the longer one's tail stands. -/
def xorBytes : List Byte → List Byte → List Byte
  | [], bs => bs
  | as, [] => as
  | a :: as, b :: bs => (a ^^^ b) :: xorBytes as bs

/-- The first member of a lost member's group after it, wrapping, that is not lost (R518). -/
def deputyOf (s : State) (d : Nat) : Option Nat :=
  match groupOf s d with
  | none => none
  | some (_, ms, i) =>
    ((List.range ms.length).map (fun j => ms.getD ((i + 1 + j) % ms.length) d)).find? (fun x => !isLost s x)

/-- A lost device whose recovery epoch has committed (R517). -/
def lostCommitted (s : State) (d : Nat) : Bool := s.recov.lost.any (fun l => l.device = d && l.committed)

/-- The device that serves the rows of `d`: `d`, or its deputy from t_commit on (R517, R518). -/
def serverOf (s : State) (d : Nat) : Option Nat :=
  if !isLost s d then some d else if lostCommitted s d then deputyOf s d else none

/-- The members whose owner roles device `d` takes: itself and the lost members it is deputy of. -/
def rolesAt (s : State) (d : Nat) : List Nat :=
  d :: (s.recov.lost.filter (fun l => l.committed && decide (deputyOf s l.device = some d))).map (·.device)

def rolesOf (s : State) : List Nat := rolesAt s (selfId s)

/-- The device a delta of a row of `own` goes to: the parity holder, its stand-in, or none (R512, R522). -/
def parityDest (s : State) (own row : Nat) : Option Nat :=
  match groupOf s own with
  | none => none
  | some (k, ms, i) =>
    let x := locate i row k
    let h := ms.getD x.h own
    let t := ms.getD x.s own
    if !isLost s h then some h else if !isLost s t then some t else none

/-! ## Commits (R257 to R259, R513) -/

/-- Bytes from address `a` on with the overlapping bytes of a part put in place. -/
def overlayPart (a : Nat) (bs : List Byte) (p : Nat × List Byte) : List Byte :=
  bs.zipIdx.map (fun x =>
    let y := a + x.2
    if p.1 ≤ y ∧ y < p.1 + p.2.length then p.2.getD (y - p.1) x.1 else x.1)

/-- Parts that follow one another joined to one. -/
def joinParts : List (Nat × List Byte) → List (Nat × List Byte)
  | [] => []
  | p :: ps => match joinParts ps with
    | q :: qs => if p.1 + p.2.length = q.1 then (p.1, p.2 ++ q.2) :: qs else p :: q :: qs
    | [] => [p]

/-- A commit of a row of `own` written in one access (R73): its planes and state in the tiered range, a spare slot into this device's HBM,
or, where another device holds the spare slot (the model's key (device + 1) × 2^48 + address), by one FWD of its delta to that device (R523;
DEDUCED, log 18). -/
def commitPut (s : State) (own : Nat) (r : SorediumRec) (ps : List (Nat × List Byte)) : State :=
  let near (p : Nat × List Byte) : Bool := decide (p.1 + p.2.length ≤ rangePages s * 0x1_0000)
  let s' := if (ps.filter near).isEmpty then s else tierPut s (ps.filter near)
  let s' := forEach (fun s p => if p.1 < 2 ^ 48 then (devWrite s p.1 p.2).getD s else s) s' (joinParts (ps.filter (fun p => !near p)))
  match ps.find? (fun p => decide (2 ^ 48 ≤ p.1)) with
  | some p => sendMsg s' (p.1 / 2 ^ 48 - 1) (.fwd own (selfId s) r)
  | none => s'

/-- Bytes at [a, a + n) of a row as they will stand once the writes held or waiting and the commits in progress are done. -/
def pendingView (s : State) (a : Nat) (bs : List Byte) : List Byte :=
  (s.tier.waitWrites.flatMap (·.parts) ++ s.tier.migs.flatMap (fun m => m.held.flatMap (·.parts))
    ++ (s.sor.commit.filter (fun c => !c.acked)).flatMap (·.parts)).foldl (overlayPart a) bs

/-- Rows of a step left to apply whose delta goes to holder `dst`. -/
def rowsTowards (s : State) (dst step : Nat) : Nat :=
  (s.sor.stage.filter (fun x => x.step = step && parityDest s x.own x.row = some dst)).length
    + (s.sor.pend.filter (fun x => x.step = step && parityDest s x.own x.row = some dst)).length

/-- The delta about to leave is the last of its step to holder `dst`: the step is closed, no row of it but this one is left to apply that
goes there, and no remainder row can follow (R234). -/
def lastDelta (s : State) (dst step : Nat) : Bool :=
  decide (step < s.sor.closed) && !(storageTables s).any (fun t => dComp t.2) && decide (rowsTowards s dst step ≤ 1)

/-- Send a SOREDIUM message of a step to a holder and answer its seq: the source is the sending device (R234); a series is the messages
of a step to one holder, the last one flagged (DEDUCED, log 121). -/
def sendSoredium (s : State) (dst step : Nat) (rs : List SorediumRec) (last : Bool) : State × Nat :=
  let seq := alGet 0 s.sor.sorSeq (dst, step)
  let recent (x : Nat) : Bool := decide (step < x + 8)
  let s := { s with sor := { s.sor with
    sorSeq := alSet (s.sor.sorSeq.filter (fun x => recent x.1.2)) (dst, step) ((seq + 1) % 65536)
    sorEnded := (if last then [(dst, step)] else []) ++ s.sor.sorEnded.filter (fun x => recent x.2) } }
  (sendMsg s dst (.soredium ⟨selfId s, step, rs, seq, last⟩), seq)

/-- Send a soredium record, one record to a message. -/
def sendDelta (s : State) (dst : Nat) (r : SorediumRec) (step : Nat) : State × Nat :=
  sendSoredium s dst step [r] (lastDelta s dst step)

/-- Copy a delta just sent for a row of `own` to the rebuild targets that asked for it (R521 step 2); the record names the row
their PIECE_RD named (DEDUCED, log 96). -/
def forwardDelta (s : State) (own : Nat) (r : SorediumRec) : State :=
  forEach (fun s f => sendMsg s f.target (.fwd f.subject (selfId s) { r with row := f.named.row })) s
    (s.recov.forwards.filter (fun f => !f.parity && decide (f.owner = own) && f.own = ⟨r.table, r.rem, r.row⟩))

/-- The commits beyond the first `n` belong to command `i` (R18). -/
def ownCommits (i n : Nat) (s : State) : State :=
  { s with sor := { s.sor with commit := s.sor.commit.take n ++ (s.sor.commit.drop n).map (fun (c : CommitEntry) => { c with cmd := some i }) } }

/-- Commit new bytes of a row of `own`: the delta goes to the parity holder and the parts wait for its acknowledgement; with
no holder they are written at once (R257, R259, R522). -/
def startCommit (s : State) (own t v row : Nat) (rem : Bool) (step : Nat) (delta : List Byte)
    (parts : List (Nat × List Byte)) : State :=
  let stack := match parts.head? with
    | some p => servingStack s p.1
    | none => 0
  match parityDest s own row with
  | none =>
    let s := commitPut s own ⟨row, t, rem, delta⟩ parts
    { s with sor := { s.sor with commit := s.sor.commit ++ [⟨own, t, v, row, rem, stack, step, parts, none, true, delta, none⟩] } }
  | some dst =>
    let r : SorediumRec := ⟨row, t, rem, delta⟩
    let x := sendDelta s dst r step
    let s := forwardDelta (bump x.1 (R.SOR_UPD_DELTA_CNT stack) 1) own r
    { s with sor := { s.sor with commit := s.sor.commit ++ [⟨own, t, v, row, rem, stack, step, parts, some (dst, x.2), false, delta, none⟩] } }

/-- A part of a row that an address of the tiered range lies in: table, version, remainder flag, row, part index. -/
structure RowAt where
  desc : List Byte
  rem : Bool
  row : Nat
  part : Nat
  base : Nat
  len : Nat
  deriving DecidableEq, Repr

/-- Whether address `a` lies in part `k` of a row of a descriptor. -/
def rowAtPart (s : State) (d : List Byte) (rem : Bool) (k a : Nat) : Option RowAt :=
  match (rowParts s d rem 0)[k]? with
  | none => none
  | some (b, n) =>
    if n = 0 ∨ a < b then none
    else
      let l := (a - b) / n
      if l < (if rem then dRemRows d else rowBound d) then some ⟨d, rem, l, k, b + l * n, n⟩ else none

/-- The row of a table of this owner that an address lies in (R513). -/
def rowAt (s : State) (a : Nat) : Option RowAt :=
  ((s.sor.tables.flatMap (fun t => t.versions)).filter (fun v => !dAlias v.desc && v.owners.contains (selfId s))).findSome?
    (fun v => ([(false, 0), (false, 1), (false, 2)] ++ (if dComp v.desc then [(true, 0), (true, 1), (true, 2)] else [])).findSome?
      (fun (x : Bool × Nat) => rowAtPart s v.desc x.1 x.2 a))

/-- Cut [a, a + n) where rows begin and end (fuel: n + 1): pieces with the row they lie in. -/
def rowCuts (s : State) (a : Nat) : Nat → Nat → List (Option RowAt × Nat × Nat)
  | 0, _ => []
  | _ + 1, 0 => []
  | fuel + 1, n + 1 =>
    match rowAt s a with
    | some r => let m := min (n + 1) (r.base + r.len - a); (some r, a, m) :: rowCuts s (a + m) fuel (n + 1 - m)
    | none =>
      let ends := (s.sor.tables.flatMap (fun t => t.versions)).flatMap (fun v =>
        ((rowParts s v.desc false 0) ++ (rowParts s v.desc true 0)).map (·.1))
      let nxt := (ends.filter (fun b => a < b)).foldl min (a + n + 1)
      let m := min (n + 1) (nxt - a)
      (none, a, m) :: rowCuts s (a + m) fuel (n + 1 - m)

/-- A row's bytes cannot be read now, for a lost page or a place that serves no access (R303, R305, R349). -/
def rowBlocked (s : State) (ps : List (Nat × Nat)) : Bool := ps.any (fun p => anyLost s p.1 p.2 || readWaits s p.1 p.2)

/-- Commit bytes that lie in one part of one row (R513); while the row cannot be read, or an earlier write of these bytes waits, the
commit waits (R524). -/
def commitPiece (s : State) (r : RowAt) (a : Nat) (bs : List Byte) : State :=
  let ps := rowParts s r.desc r.rem r.row
  if rowBlocked s ps || s.tier.waitCommits.any (fun w => ps.any (fun p => meets w.1 w.2.length p.1 p.2)) then
    { s with tier := { s.tier with waitCommits := s.tier.waitCommits ++ [(a, bs)] } }
  else
    let old := ps.map (fun p => (p.1, pendingView s p.1 (tierRead s p.1 p.2)))
    let delta := old.flatMap (fun p => xorBytes p.2 (overlayPart p.1 p.2 (a, bs)))
    startCommit (forEach (fun s p => countRead s p.1 p.2) s ps) (selfId s) (dTable r.desc) (dVersion r.desc) r.row r.rem s.stepCtr delta
      [(a, bs)]

/-- A write to the tiered range by any path: row bytes become commits, the rest is written at once (R294, R513). -/
def tierCommit (s : State) (a : Nat) (bs : List Byte) : State :=
  if (groupOf s (selfId s)).isNone then tierWrite s a bs
  else forEach (fun s c => let part := (bs.drop (c.2.1 - a)).take c.2.2
      match c.1 with
      | none => tierWrite s c.2.1 part
      | some r => commitPiece s r c.2.1 part) s (rowCuts s a (bs.length + 1) bs.length)

/-- A held or waiting write still covers bytes of a range. -/
def writeWaits (s : State) (a n : Nat) : Bool :=
  s.tier.waitWrites.any (fun w => w.covers a n) || s.tier.migs.any (fun m => m.held.any (fun w => w.covers a n))

/-- A write of [a, a + n) is still on its way: it waits, or a row commit of its bytes is in progress (R18). -/
def writeOpen (s : State) (a n : Nat) : Bool :=
  writeWaits s a n || s.tier.waitCommits.any (fun w => meets w.1 w.2.length a n)
    || s.sor.commit.any (fun c => c.parts.any (fun p => meets p.1 p.2.length a n))

/-- A write of raw HBM from `a` in stack `k` on meets a page-table frame or, but for a CHECKPOINT_SAVE, the RAU's partition (R268,
R386). -/
def guardedHbm (s : State) (k a n : Nat) (ck : Bool) : Bool :=
  decide (a < hbmBase k + 0x1000_0000) || decide (hbmBase (k + 1) < a + n)
    || (!ck && [0, 1].any (fun die => overlaps a n (partBase s die) (partSize s die)))

/-- Why a device-local write of a command is a violation, by the causes of R570; 0 when it is none. -/
def writeCause (s : State) (ck : Bool) (a n : Nat) : Nat :=
  if a + n ≤ rangePages s * 0x1_0000 then 0
  else if a < 0x1000_0000_0000 then 6
  else match hbmStack a with
    | some k => if hbmBase 8 < a + n then 3 else if guardedHbm s k a n ck then 7 else 0
    | none =>
      if 0x2000_0000_0000 ≤ a ∧ a < 0x2000_0000_0000 + 32 * 0x100_0000 then
        if storeSize < (a - 0x2000_0000_0000) % 0x100_0000 + n then 5 else 0
      else 3

/-- Write of any device-local address outside BAR0, table rows as commits; none where it is a violation. -/
def memWriteAs (s : State) (ck : Bool) (a : Nat) (bs : List Byte) : Option State :=
  if writeCause s ck a bs.length ≠ 0 then none
  else if a + bs.length ≤ rangePages s * 0x1_0000 then some (tierCommit s a bs) else devWrite s a bs

def memWrite (s : State) (a : Nat) (bs : List Byte) : Option State := memWriteAs s false a bs

/-! ## The rollback log (R529, R530) -/

/-- Write a rollback record and report it. -/
def rollbackRecord (s : State) (kind cause table owner first stride count step lost : Nat) : State :=
  let h := rf s R.DEV_RB_HEAD F.DEV_RB_HEAD_head
  let bs := leBytes 1 kind ++ leBytes 1 cause ++ leBytes 2 table ++ leBytes 2 owner ++ leBytes 2 0 ++ leBytes 8 first
    ++ leBytes 4 stride ++ leBytes 4 count ++ leBytes 8 step ++ leBytes 8 s.ft ++ leBytes 4 lost ++ leBytes 20 0
  let s := (devWrite s (rbBase s + 64 * h) bs).getD s
  let full := decide (16384 ≤ s.recov.rbCount)
  let s := wf s R.DEV_RB_HEAD F.DEV_RB_HEAD_head ((h + 1) % 16384)
  let s := { s with recov := { s.recov with rbCount := min 16384 (s.recov.rbCount + 1) } }
  let s := if full then wf s R.DEV_REC_FLAGS F.DEV_REC_FLAGS_rb_wrap 1 else s
  let s := cntAdd s 23 1
  evgFireIf (wf s R.DEV_REC_FLAGS F.DEV_REC_FLAGS_rollback 1) (rb s R.DEV_REC_CTL F.DEV_REC_CTL_rollback_event_en) 143

end Sys2Proof.Machine
end

