-- ==== Sys2Proof/Machine/Counters.lean ====
section
/-! DEFINITION. Time, the trace unit's ring, counter records, latches and the frozen view (R619 to R644). -/

namespace Sys2Proof.Machine

/-- The device is not synchronised: its time level is 63 (R473, R620). -/
def unsync (s : State) : Bool := decide (63 ≤ rf s (R.SHK_FT_STATUS 0) F.SHK_FT_STATUS_level)

/-! ## The trace ring (R640 to R642) -/

/-- Entries of the ring. -/
def traceEntries (s : State) : Nat := s.cnt.plan.pages * 2048

/-- The 32 bytes of an entry. -/
def traceBytes (s : State) (e : TraceEntry) : List Byte :=
  leBytes 8 e.time ++ leBytes 1 e.kind ++ leBytes 1 (b2n s.cnt.dropped + 2 * b2n (unsync s)) ++ leBytes 2 e.unit ++ leBytes 4 0
    ++ leBytes 8 e.arg0 ++ leBytes 8 e.arg1

/-- Stop the trace unit; what waits in its buffer is not written (R642). -/
def traceStop (s : State) : State :=
  let s := wf (wf s R.CNT_STATUS F.CNT_STATUS_trace_on 0) R.CNT_STATUS F.CNT_STATUS_trace_stopped 1
  { s with cnt := { s.cnt with traceQ := [] } }

/-- Write one entry into the ring (R640, R642). -/
def traceWrite (s : State) (e : TraceEntry) : State :=
  let n := traceEntries s
  if n = 0 then s
  else
    let h := (reg s R.CNT_TRACE_HEAD).toNat
    let s := tierCommit s (s.cnt.plan.base + h % n * 32) (traceBytes s e)
    let s := setReg { s with cnt := { s.cnt with dropped := false } } R.CNT_TRACE_HEAD (BitVec.ofNat 64 (h + 1))
    let fill := h + 1 - (reg s R.CNT_TRACE_TAIL).toNat
    let s := if n / 2 ≤ fill ∧ !s.cnt.halfSeen then
        flagEvent { s with cnt := { s.cnt with halfSeen := true } } R.CNT_FLAGS F.CNT_FLAGS_trace_half
          (rb s R.CNT_CTL F.CNT_CTL_trace_half_event_en) 149
      else s
    if s.cnt.plan.mode = 1 ∧ n ≤ fill then
      flagEvent (traceStop s) R.CNT_FLAGS F.CNT_FLAGS_trace_stop (rb s R.CNT_CTL F.CNT_CTL_trace_stop_event_en) 149
    else s

/-- Write the entries the unit has had time for before `t`, one per 4 ft (R641; fuel: entries waiting). -/
def traceDrain (t : Nat) : Nat → State → State
  | 0, s => s
  | k + 1, s =>
    match s.cnt.traceQ with
    | [] => s
    | e :: q =>
      let w := max s.cnt.traceFrom e.time
      if w < t then traceDrain t k (traceWrite { s with cnt := { s.cnt with traceQ := q, traceFrom := w + 4 } } e) else s

/-- Whole ft by which a rate changed by 4,000 ppm moves a counter over `n` ft, of at most `left`, with `part` thousandths moved before
(R475). -/
def slewStep (left part n : Nat) : Nat := min left ((part + 4 * n) / 1000)

/-- The fabric-time counter goes on to what it shows when it would have reached `t` at its nominal rate: the changed rate adds to it or
takes from it while an offset is left to remove; it never goes back (R475, R619, R621). -/
def advance (t : Nat) (s : State) : State :=
  let n := max s.ft (min t (2 ^ 64 - 1))
  if s.shk.slew = 0 then { traceDrain n s.cnt.traceQ.length s with ft := n }
  else
    let part := s.shk.slewPart + 4 * (n - s.ft)
    let k := slewStep s.shk.slew.natAbs s.shk.slewPart (n - s.ft)
    let m := if 0 < s.shk.slew then min (n + k) (2 ^ 64 - 1) else n - k
    let s := traceDrain m s.cnt.traceQ.length s
    { s with ft := m, shk := { s.shk with slew := s.shk.slew - s.shk.slew.sign * k, slewPart := part % 1000 } }

/-- Restart the trace unit: the head and tail are 0 and nothing waits (R642, R644). -/
def traceRestart (s : State) : State :=
  let s := setReg (setReg s R.CNT_TRACE_HEAD 0) R.CNT_TRACE_TAIL 0
  let s := { s with cnt := { s.cnt with traceQ := [], halfSeen := false, dropped := false } }
  let s := wf s R.CNT_STATUS F.CNT_STATUS_trace_stopped 0
  wf s R.CNT_STATUS F.CNT_STATUS_trace_on (b2n (rb s R.CNT_CTL F.CNT_CTL_trace_en && decide (s.cnt.plan.mode ≠ 0)))

/-! ## Counter records (R623 to R632) -/

/-- A register counts as global in Krovat compatibility mode (R638): those of SHKA, SHKB, RAUA and RAUB, the DEV recovery
counters and THL_REFUSED_CNT. -/
def globalReg (o : Nat) : Bool :=
  (decide (0x800000 ≤ o) && decide (o < 0xA80000)) || (decide (0x2040 ≤ o) && decide (o ≤ 0x2070)) || o = R.THL_REFUSED_CNT

/-- Slot selector `i` of the active plan. -/
def slotSel (s : State) (i : Nat) : Nat := s.cnt.plan.sels.getD i 0

/-- A record word is of class Global (R626, R628, R629). -/
def globalWord (s : State) (i : Nat) : Bool :=
  [18, 22, 23].contains i || (decide (40 ≤ i) && decide (i < 88))
    || (decide (88 ≤ i) && decide (i - 88 < s.cnt.plan.nSel) && globalReg (slotSel s (i - 88)))

/-- Record words and count registers whose counts the spec derives from cycles, or from traffic between dies and caches the model
does not carry (R626, R627, FRD_STALL_*, FRD_CREDIT_STALL, SOR_LK_BUSY_CNT, SOR_UPD_BP_CNT, SOR_UPD_BUSY_CNT, RAU_BUSY_CNT): their
values are open (log 19). -/
def openWord (i : Nat) : Bool := [11, 12, 29, 32, 33, 34, 35].contains i
def openReg (o : Nat) : Bool :=
  (List.range 32).any (fun f => [R.FRD_STALL_SLOT f, R.FRD_STALL_OPND f, R.FRD_STALL_CHAIN f, R.FRD_CREDIT_STALL f].contains o)
    || (List.range 8).any (fun n => [R.SOR_LK_BUSY_CNT n, R.SOR_UPD_BP_CNT n, R.SOR_UPD_BUSY_CNT n].contains o)
    || [R.RAU_BUSY_CNT 0, R.RAU_BUSY_CNT 1].contains o

/-- Live value of record word `i`, from 8 up. -/
def recordWord (s : State) (i : Nat) : Nat :=
  if openWord i then (Config.openCount s.free i).toNat
  else if 88 ≤ i ∧ i - 88 < s.cnt.plan.nSel ∧ openReg (slotSel s (i - 88)) then (Config.openCount s.free (slotSel s (i - 88))).toNat
  else if i < 88 then spGet 0 s.cnt.words i
  else if i - 88 < s.cnt.plan.nSel then spGet 0 s.cnt.sums (slotSel s (i - 88)) else 0

/-- The registers with the parts of their counts that are still running (R302, R599): TIER_FULL_TIME and RST_THROTTLE_TIME. -/
def runningCounts (s : State) : State :=
  let s := match s.tier.fullSince with
    | some t => setReg s R.TIER_FULL_TIME (BitVec.ofNat 64 (satAdd64 (reg s R.TIER_FULL_TIME).toNat (s.ft - t)))
    | none => s
  if rf s R.RST_STATUS F.RST_STATUS_throttle = 0 then s
  else setReg s R.RST_THROTTLE_TIME (BitVec.ofNat 64 (satAdd64 (reg s R.RST_THROTTLE_TIME).toNat (s.ft - s.rst.countedTo)))

/-- Krovat compatibility mode is in effect. -/
def krovatMode (s : State) : Bool := rb s R.CNT_STATUS F.CNT_STATUS_priv

/-- The header of a record (R625). -/
def recordHeader (s : State) (kind index t : Nat) : List Byte :=
  leBytes 4 0x52434E43 ++ leBytes 1 kind ++ leBytes 1 (b2n (krovatMode s) + 2 * b2n (unsync s)) ++ leBytes 2 (selfId s)
    ++ leBytes 8 index ++ leBytes 8 t ++ leBytes 4 (rf s R.THL_EPOCH F.THL_EPOCH_epoch) ++ leBytes 2 s.cnt.plan.nSel ++ leBytes 2 0
    ++ leBytes 8 s.stepCtr ++ leBytes 8 (reg s (R.THL_ACTIVE_DIGEST 0)).toNat ++ leBytes 16 0

/-- The words of a record from word 8 on; global words are 0 in compatibility mode unless `all` (R638). -/
def recordWords (s : State) (all : Bool) : List Nat :=
  (List.range 248).map (fun i => if !all && krovatMode s && globalWord s (i + 8) then 0 else recordWord s (i + 8))

/-- Time of the latch of a request made now: one latch every 32 ft (R632). -/
def latchTime (s : State) : Nat := match s.cnt.lastLatch with
  | none => s.ft
  | some l => max s.ft (l + 32)

/-- Latch a record: its 2,048 bytes, and the state after (R630 to R632, R639). -/
def latch (s : State) (kind index : Nat) : List Byte × State :=
  let t := latchTime s
  let s := match s.cnt.privNext with
    | none => s
    | some b => wf { s with cnt := { s.cnt with privNext := none } } R.CNT_STATUS F.CNT_STATUS_priv (b2n b)
  let bs := recordHeader s kind index t ++ leAll 8 (recordWords s false)
  (bs, bump { s with cnt := { s.cnt with lastLatch := some t }, free := s.free + 1 } R.CNT_LATCH_CNT 1)

/-- A reset or a thaw ends the frozen view (R636). -/
def thaw (s : State) : State :=
  wf { s with cnt := { s.cnt with frozen := none } } R.CNT_STATUS F.CNT_STATUS_frozen 0

/-- Take a COUNTER_PLAN section into effect (R57, R643, R644). -/
def applyCounterPlan (s : State) : State :=
  let x := actSec s 0xA 0
  let n := secNum s x 0 2
  let p : CounterPlan := ⟨n, secNum s x 2 1, secNum s x 4 4, secNum s x 8 8, secNum s x 0x10 4,
    (List.range n).map (fun i => secNum s x (0x20 + 4 * i) 4 % 2 ^ 25)⟩
  let o := s.cnt.plan
  let changed := p.mode ≠ o.mode ∨ p.kinds ≠ o.kinds ∨ p.base ≠ o.base ∨ p.pages ≠ o.pages
  let s := wf { s with cnt := { s.cnt with plan := p } } R.CNT_STATUS F.CNT_STATUS_n_sel n
  if changed then traceRestart s else s

end Sys2Proof.Machine
end

