-- ==== Sys2Proof/Machine/Crc.lean ====
section
/-! DEFINITION. CRC-64 of ECMA-182 as R420 and the checkpoint streams use it, and CRC-32C of die-to-die flits (R317). -/

namespace Sys2Proof.Machine

/-- `k` shifts of a CRC-64 register, most significant bit first, polynomial 0x42F0_E1EB_A9EA_3693. -/
def crcShift : Nat → Nat → Nat
  | 0, c => c
  | k + 1, c =>
    let d := (2 * c) % 2 ^ 64
    crcShift k (if c.testBit 63 then d ^^^ 0x42F0E1EBA9EA3693 else d)

/-- The CRC-64 of bytes: initial value 0, no reflection, no final XOR (R420). -/
def crc64 (bs : List Byte) : Nat := bs.foldl (fun c b => crcShift 8 (c ^^^ (b.toNat <<< 56))) 0

/-- `k` shifts of a CRC-32C register, least significant bit first: 0x82F6_3B78 is polynomial 0x1EDC_6F41 reflected. -/
def crc32Shift : Nat → Nat → Nat
  | 0, c => c
  | k + 1, c => crc32Shift k (if c % 2 = 1 then c / 2 ^^^ 0x82F63B78 else c / 2)

/-- A function at a number: matching on the number makes the kernel compute it before the function is applied. -/
def atNum {α : Type} (n : Nat) (f : Nat → α) : α := match n with
  | 0 => f 0
  | k + 1 => f (k + 1)

/-- The CRC-32C register after bytes, from `c`. -/
def crc32Bytes : List Byte → Nat → Nat
  | [], c => c
  | b :: bs, c => atNum (crc32Shift 8 (c ^^^ b.toNat)) (crc32Bytes bs)

/-- The CRC-32C of bytes, with the initial value, reflection and final complement it is known by (R317, R464; PRESUMED, log 119). -/
def crc32c (bs : List Byte) : Nat := crc32Bytes bs 0xFFFFFFFF ^^^ 0xFFFFFFFF

end Sys2Proof.Machine
end

