-- ==== Sys2Proof/Machine/FrameBytes.lean ====
section
/-! DEFINITION. The 256 bytes of a Shurak frame, written and read: content, CRC, header and the fields of each type (R464, R465, R467,
R471, R472, R490, R491). -/

namespace Sys2Proof.Machine

/-- The 96-bit header of a routed frame (R465). -/
def hdrWord (typ : Nat) (h : Hdr) : Nat :=
  typ % 2 ^ 3 + 2 ^ 3 * (h.dst % 2 ^ 14) + 2 ^ 17 * (h.src % 2 ^ 14) + 2 ^ 31 * (h.vc % 2 ^ 2) + 2 ^ 33 * (h.plane % 2 ^ 2)
    + 2 ^ 35 * b2n h.dateline + 2 ^ 36 * (h.epochTag % 2 ^ 8) + 2 ^ 44 * (h.digestTag % 2 ^ 16) + 2 ^ 60 * (h.msgSeq % 2 ^ 10)
    + 2 ^ 70 * (h.index % 2 ^ 13) + 2 ^ 83 * (h.hops % 2 ^ 6)

/-- The header fields of a 96-bit word (R465). -/
def readHdr (w : Nat) : Hdr :=
  ⟨bitsOf w 83 6, bitsOf w 70 13, bitsOf w 60 10, bitsOf w 44 16, bitsOf w 36 8, bitOf w 35, bitsOf w 33 2, bitsOf w 31 2, bitsOf w 17 14,
    bitsOf w 3 14⟩

/-- Bytes 0x00 to 0xFB of a frame whose first bytes are given; the others are 0. -/
def frameBody (bs : List Byte) : List Byte := (bs ++ List.replicate 252 0).take 252

/-- Bytes 0x00 to 0xFB of a frame by type (R464, R465, R467, R471, R472, R490, R491). The bytes the tables say nothing of are 0, and an
ERROR has the virtual channel of the offending message at 0x0D and its msg_seq at 0x0E (DEDUCED, log 146). -/
def frameContent : Frame → List Byte
  | .idle => frameBody []
  | .data h payload => frameBody (leBytes 12 (hdrWord 1 h) ++ payload)
  | .heartbeat b => frameBody (leBytes 1 2 ++ leBytes 1 b.state ++ leBytes 2 (b.device % 2 ^ 14) ++ leBytes 1 (b.port % 2 ^ 5)
      ++ leBytes 1 b.lanes ++ leBytes 1 b.level ++ leBytes 1 0 ++ leBytes 4 b.epoch ++ leBytes 4 0 ++ leBytes 8 b.digest ++ leBytes 8 b.tTx
      ++ leBytes 8 b.tRxLast ++ leBytes 8 b.tTxEcho ++ leBytes 2 (b.root % 2 ^ 14))
  | .linkCtl nak laneChange lanes acked expected credits => frameBody (leBytes 1 3 ++ leBytes 1 (b2n nak + 2 * b2n laneChange)
      ++ leBytes 1 lanes ++ leBytes 1 0 ++ leBytes 4 acked ++ leBytes 4 expected ++ leAll 2 ((credits ++ List.replicate 12 0).take 12))
  | .error h code vc msgSeq copy => frameBody (leBytes 12 (hdrWord 4 h) ++ leBytes 1 code ++ leBytes 1 (vc % 2 ^ 2)
      ++ leBytes 2 (msgSeq % 2 ^ 10) ++ leBytes 12 (hdrWord 1 copy))
  | .e2eAck h vc next => frameBody (leBytes 12 (hdrWord 5 h) ++ leBytes 1 (vc % 2 ^ 2) ++ leBytes 2 (next % 2 ^ 10))
  | .deviceFailed device reason time => frameBody (leBytes 1 6 ++ leBytes 1 0 ++ leBytes 2 (device % 2 ^ 14) ++ leBytes 1 reason
      ++ leBytes 3 0 ++ leBytes 8 time)
  | .reserved => frameBody (leBytes 1 7)

/-- The 256 bytes of a frame as it is sent: its content and the CRC-32C over it (R464). -/
def frameImage (f : Frame) : List Byte := frameContent f ++ leBytes 4 (crc32c (frameContent f))

/-- The fields of a frame from its content, by the type in bits [2:0] of byte 0 (R464). -/
def readContent (bs : List Byte) : Frame :=
  let h := readHdr (fieldAt bs 0 12)
  match bitsOf (fieldAt bs 0 1) 0 3 with
  | 0 => .idle
  | 1 => .data h (bs.drop 12)
  | 2 => .heartbeat ⟨fieldAt bs 1 1, fieldAt bs 2 2, fieldAt bs 4 1, fieldAt bs 5 1, fieldAt bs 6 1, fieldAt bs 8 4, fieldAt bs 0x10 8,
      fieldAt bs 0x18 8, fieldAt bs 0x20 8, fieldAt bs 0x28 8, fieldAt bs 0x30 2⟩
  | 3 => .linkCtl (bitOf (fieldAt bs 1 1) 0) (bitOf (fieldAt bs 1 1) 1) (fieldAt bs 2 1) (fieldAt bs 4 4) (fieldAt bs 8 4)
      ((List.range 12).map (fun i => fieldAt bs (0xC + 2 * i) 2))
  | 4 => .error h (fieldAt bs 0xC 1) (fieldAt bs 0xD 1) (fieldAt bs 0xE 2) (readHdr (fieldAt bs 0x10 12))
  | 5 => .e2eAck h (fieldAt bs 0xC 1) (fieldAt bs 0xD 2)
  | 6 => .deviceFailed (fieldAt bs 2 2) (fieldAt bs 4 1) (fieldAt bs 8 8)
  | _ => .reserved

/-- Read the 256 bytes of a frame; none when the CRC fails (R464). -/
def readFrame (bs : List Byte) : Option Frame :=
  let c := bs.take 252
  if bs.length = 256 ∧ fieldAt bs 252 4 = crc32c c then some (readContent c) else none

/-- A frame that arrives passes its CRC: no codeword under it was beyond correction, and its bytes with the CRC it came with read as the
frame (R461, R464). -/
def intact (x : Rx) (f : Frame) : Bool := decide (x.uncorr = 0) && decide (readFrame (frameContent f ++ leBytes 4 x.crc) = some f)

end Sys2Proof.Machine
end

