-- ==== Sys2Proof/Machine/CmdOps.lean ====
section
/-! DEFINITION. Commands in progress, their writes, the retire point and completion records (R540 to R566). -/

namespace Sys2Proof.Machine

/-! ## The status page (R566) -/

/-- The bytes of the stream status page. -/
def pageBytes (s : State) : List Byte :=
  let c := s.cmd
  leBytes 4 c.session ++ leBytes 1 c.detachReason ++ leBytes 3 0 ++ leBytes 8 c.detachTime ++ leBytes 8 c.fetched
    ++ leBytes 8 c.cplDurable ++ leBytes 8 c.held.length ++ leBytes 8 c.inputStep ++ leBytes 4 c.torn.length ++ leBytes 12 0
    ++ List.replicate 0xC0 0 ++ c.torn.flatMap (fun t => leBytes 8 t.1 ++ leBytes 8 t.2)

def attached (s : State) : Bool := rb s R.HST_STATUS F.HST_STATUS_attached

/-- Keep the status page current while the host port is not attached. -/
def syncPage (s : State) : State :=
  if attached s then s else setBytes s ((reg s R.HST_SPAGE).toNat % 2 ^ 48) (pageBytes s)

/-! ## Commands in progress -/

/-- Opcode of a command (R548). -/
def cmdOpcode : CmdOp → Nat
  | .loadThallus _ _ => 1
  | .switchEpoch _ _ _ => 2
  | .runSteps _ _ _ _ _ _ _ => 3
  | .stopAtStep _ => 4
  | .abort _ => 5
  | .ckSave _ _ _ => 6
  | .ckLoad _ _ _ => 7
  | .tableSwap _ _ _ => 8
  | .grantPeat _ _ _ => 9
  | .revokePeat _ => 0xA
  | .fence => 0xB
  | .snapshot _ => 0xC
  | .freezeAt _ => 0xD
  | .setScales _ _ _ _ _ _ => 0xE
  | .bad n => n

/-- A command in progress by its index. -/
def findCmd (s : State) (i : Nat) : Option Cmd := s.cmd.active.find? (fun c => c.index = i)

/-- Change a command in progress. -/
def modCmd (s : State) (i : Nat) (f : Cmd → Cmd) : State :=
  { s with cmd := { s.cmd with active := s.cmd.active.map (fun c => if c.index = i then f c else c) } }

/-- A command's work has ended; it may now pass the retire point (RETIRE). -/
def finCmd (s : State) (i : Nat) (e : CmdEnd) : State :=
  modCmd s i (fun c => if c.fin.isNone then { c with fin := some e } else c)

/-- A command of index `i` is in progress, started and without an end. -/
def cmdRuns (s : State) (i : Nat) : Bool := match findCmd s i with
  | some c => c.phase = .running && c.fin.isNone
  | none => false

/-! ## Writes of a command (R546, R558, R563) -/

/-- Kind of an address form and its address (R546). -/
def addrKind (a : Nat) : Nat := bitsOf a 62 2
def addrVal (a : Nat) : Nat := if addrKind a = 1 then a % 2 ^ 48 else a % 2 ^ 62

/-- An address form is well formed: kind 0, 2, or 1 with bits [61:48] zero. -/
def addrOk (a : Nat) : Bool := decide (addrKind a ≠ 3) && (decide (addrKind a ≠ 1) || decide (bitsOf a 48 14 = 0))

/-- Issue a flushing read (R563). -/
def flushRead (s : State) : State :=
  let issued := s.cmd.active.map (fun c => (c.index, c.unconf + c.confirmed))
    ++ (s.cmd.unconf ++ s.cmd.held).map (fun c => (c.index, c.unconf + c.confirmed))
  emit { s with cmd := { s.cmd with flushes := s.cmd.flushes ++ [(s.cmd.cplWritten, issued)] } } .flushRead

/-- The pieces of a host-bound write at `a`, cut after each 1 MiB of the command's data, of which `before` bytes have gone (fuel). -/
def hostPieces : Nat → Nat → Nat → List Byte → List (Nat × List Byte)
  | 0, _, _, _ => []
  | k + 1, before, a, bs =>
    let n := 2 ^ 20 - before % 2 ^ 20
    if bs.isEmpty then [] else (a, bs.take n) :: hostPieces k (before + n) (a + n) (bs.drop n)

/-- Host-bound bytes a command has issued. -/
def hostIssued (s : State) (i : Nat) : Nat := match findCmd s i with
  | some c => c.unconf + c.confirmed
  | none => 0

/-- Issue one piece, and a flushing read when it ends 1 MiB of the command's data (R563). -/
def hostPiece (i : Nat) (s : State) (p : Nat × List Byte) : State :=
  let n := hostIssued s i + p.2.length
  let s := cntAdd (emit s (.hostWrite i p.1 p.2)) 39 p.2.length
  let s := modCmd s i (fun c => { c with unconf := c.unconf + p.2.length })
  if n % 2 ^ 20 = 0 then flushRead s else s

/-- A host-bound write of a command, with a flushing read after each 1 MiB; without a link it is discarded (R563, R564). -/
def hostWrite (s : State) (i a : Nat) (bs : List Byte) : State :=
  if rb s R.HST_STATUS F.HST_STATUS_link_up then forEach (hostPiece i) s (hostPieces (bs.length / 2 ^ 20 + 2) (hostIssued s i) a bs)
  else modCmd s i (fun c => { c with torn := true })

/-- The command is a CHECKPOINT_SAVE, which may write the RAU's partition (R386). -/
def isSave (s : State) (i : Nat) : Bool := match findCmd s i with
  | some c => match c.op with
    | .ckSave _ _ _ => true
    | _ => false
  | none => false

/-- A command's write to a device-local address; one that a rule forbids is a violation of the device itself (R568, R570). -/
def localWrite (s : State) (i a : Nat) (bs : List Byte) : State :=
  match memWriteAs s (isSave s i) a bs with
  | some t => modCmd t i (fun c => { c with wrote := c.wrote ++ [(a, bs.length)] })
  | none => violation s 3 a (selfId s) true (writeCause s (isSave s i) a bs.length)

/-- A write of a command to an address of address form. -/
def cmdWrite (s : State) (i a : Nat) (bs : List Byte) : State :=
  match addrKind a with
  | 0 => hostWrite s i (addrVal a) bs
  | 1 => localWrite s i (addrVal a) bs
  | _ =>
    let dst := addrVal a / 2 ^ 48
    let loc := addrVal a % 2 ^ 48
    if dst = selfId s then localWrite s i loc bs
    else forEach (fun s k => sendMsgFor s (some i) dst (.memWr (loc + k * 65536) ((bs.drop (k * 65536)).take 65536))) s
      (List.range ((bs.length + 65535) / 65536))

/-- Start a command: its START record is latched and, with a cnt_addr, written (R631). -/
def startCmd (s : State) (i : Nat) : State :=
  match findCmd s i with
  | none => s
  | some c =>
    let s := modCmd s i (fun c => { c with phase := .running, tStart := s.ft })
    let r := latch s 1 i
    let s := if c.head.cntAddr = 0 then r.2 else cmdWrite r.2 i c.head.cntAddr r.1
    tracePush s 1 0xFF i (cmdOpcode c.op)

/-! ## Completion records (R544, R545, R547) -/

def cplSize (s : State) : Nat := 2 ^ rf s R.CMD_CFG F.CMD_CFG_cpl_log2

/-- The rings are enabled and the host port attached. -/
def ringsOn (s : State) : Bool := rb s R.CMD_CFG F.CMD_CFG_en && attached s

/-- The completion ring has room. -/
def cplRoom (s : State) : Bool := ringsOn s && decide (s.cmd.cplWritten - s.cmd.cplConsumed < cplSize s)

/-- Bytes 0x00 to 0x37 of a record. -/
def recBytes (s : State) (r : CplRec) : List Byte :=
  leBytes 4 r.cmdId ++ leBytes 4 r.index ++ leBytes 1 r.opcode ++ leBytes 1 r.status ++ leBytes 1 r.reason
    ++ leBytes 1 r.outcome ++ leBytes 4 s.cmd.fetched ++ leBytes 8 r.tStart ++ leBytes 8 r.tEnd
    ++ (r.result ++ List.replicate 24 0).take 24

/-- Write a record, then its flag, raise the completion event and issue a flushing read (R544, R558, R563). -/
def writeRec (s : State) (r : CplRec) : State :=
  let a := (reg s R.CMD_CPL).toNat + s.cmd.cplWritten % cplSize s * 64
  let phase := 1 - s.cmd.cplWritten / cplSize s % 2
  let s := emit (emit s (.hostWrite r.index a (recBytes s r))) (.hostWrite r.index (a + 0x38) (leBytes 8 phase))
  let s := cntAdd s 39 64
  let s := { s with cmd := { s.cmd with cplWritten := s.cmd.cplWritten + 1, unconf := s.cmd.unconf ++ [r] } }
  flushRead (evgFire s 148)

/-- Messages to peers of a command are not all acknowledged; a FENCE asks for those of every command up to its own index (R558 step 4,
R560). -/
def peerOpen (s : State) (fence : Bool) (i : Nat) : Bool :=
  if fence then s.shk.outFlows.any (fun f => (f.unacked ++ f.waiting).any (fun o => match o.cmd with
    | some k => decide (k ≤ i)
    | none => false))
  else cmdUnacked s i

/-- A write of command `i` to device memory, at one of the given ranges, has not completed (R18, R558 step 3). -/
def devOpen (s : State) (i : Nat) (wrote : List (Nat × Nat)) : Bool :=
  s.sor.commit.any (fun x => x.cmd = some i) || wrote.any (fun w => writeOpen s w.1 w.2)

/-- A record may be written: the writes of its command, its counter records among them, have completed (R558, R631). -/
def recClear (s : State) (r : CplRec) : Bool :=
  !r.waits || (!(r.ordered && peerOpen s (r.opcode = 0xB) r.index) && !devOpen s r.index r.wrote)

/-- Write held records in order while there is room and the next may be written (fuel: records held). -/
def pumpHeld : Nat → State → State
  | 0, s => s
  | k + 1, s =>
    match s.cmd.held with
    | [] => s
    | r :: rs => if cplRoom s && recClear s r then pumpHeld k (writeRec { s with cmd := { s.cmd with held := rs } } r) else s

/-- A record leaves the retire point: it joins the held ones, which are written in order. -/
def deliver (s : State) (r : CplRec) : State :=
  let s := { s with cmd := { s.cmd with held := s.cmd.held ++ [r] } }
  syncPage (pumpHeld s.cmd.held.length s)

/-- A command arrives at the retire point with its end: its END record is latched and written, with a START record of the same time for
a command that never started, whose start this is (R18, R549, R561, R631). -/
def arrive (s : State) (c : Cmd) (e : CmdEnd) : State :=
  let fresh := decide (c.phase = .waiting)
  let r := latch s 2 c.index
  let s := if fresh then bump r.2 R.CNT_LATCH_CNT 1 else r.2
  let s := modCmd s c.index (fun x => { x with fin := some e, tStart := if fresh then s.ft else x.tStart })
  let s := if c.head.cntAddr = 0 then s else
    let s := if fresh then cmdWrite s c.index c.head.cntAddr (r.1.take 4 ++ [1] ++ r.1.drop 5) else s
    cmdWrite s c.index (c.head.cntAddr + 2048) r.1
  { s with cmd := { s.cmd with atPoint := s.cmd.atPoint ++ [c.index] } }

/-- A command that has arrived passes the retire point: it has completed, and its completion record is handed on (R18, R544, R561). -/
def passRetire (s : State) (c : Cmd) : State :=
  let e := c.fin.getD ⟨0, 0, 0, []⟩
  let status := if c.torn then 3 else e.status
  let s := tracePush s 2 0xFF c.index (status + e.outcome <<< 8)
  let cm := s.cmd
  let s := { s with cmd := { cm with
      active := cm.active.filter (fun x => x.index ≠ c.index)
      atPoint := cm.atPoint.filter (· ≠ c.index)
      done := (c.index :: cm.done).take 65536
      torn := if c.torn then (cm.torn ++ [(c.index, c.confirmed)]).take 256 else cm.torn } }
  let s := if c.torn then wf s R.HST_STATUS F.HST_STATUS_torn 1 else s
  deliver s ⟨c.index, c.head.cmdId, cmdOpcode c.op, status, (if status = 3 ∧ e.status ≠ 2 then 0 else e.reason), e.outcome,
    c.tStart, s.ft, e.result, c.confirmed, c.unconf, true, c.wrote, bitOf c.head.flags 0⟩

/-- Commands at the retire point pass it in order of arrival; while 4,096 records are held they wait there (R565; fuel: their number). -/
def pumpPoint : Nat → State → State
  | 0, s => s
  | k + 1, s =>
    match s.cmd.atPoint with
    | [] => s
    | i :: is =>
      if s.cmd.held.length < 4096 then
        match findCmd s i with
        | some c => pumpPoint k (passRetire s c)
        | none => pumpPoint k { s with cmd := { s.cmd with atPoint := is } }
      else s

/-- A command reaches the retire point with its end and passes it, when there is room. -/
def retireAt (s : State) (i : Nat) (e : CmdEnd) : State :=
  match findCmd s i with
  | none => s
  | some c => let s := arrive s c e; pumpPoint s.cmd.atPoint.length s

/-- Room may have appeared in the completion ring. -/
def pumpAll (s : State) : State :=
  let s := pumpHeld s.cmd.held.length s
  let s := pumpPoint s.cmd.atPoint.length s
  syncPage (pumpHeld s.cmd.held.length s)

/-- A write or a message of a command may have completed, so that held records can be written (R558). -/
def pumpRecs (s : State) : State := if s.cmd.held.isEmpty then s else pumpAll s

/-- Complete a command at once with REJECTED and a reason (R548). -/
def rejectCmd (s : State) (i reason : Nat) : State := retireAt s i { status := 2, reason := reason }

/-- End a command's work with OK. -/
def finOk (s : State) (i : Nat) (result : List Byte) : State := finCmd s i { status := 0, result := result }

/-! ## Stopping a command (R553, R554, R499) -/

/-- The load in progress ends; the command starts no other. -/
def endLoad (s : State) : State :=
  wf { s with thl := { s.thl with load := none } } R.THL_STATUS F.THL_STATUS_loading 0

/-- The pending switch is cancelled. -/
def cancelSwitch (s : State) : State :=
  wf { s with thl := { s.thl with switchCmd := none } } R.THL_STATUS F.THL_STATUS_switch_pending 0

/-- What stopping a command other than a RUN_STEPS does beside its completion (R554). -/
def cancelWork (s : State) (c : Cmd) : State :=
  match c.op with
  | .loadThallus _ _ => if s.thl.load.any (fun l => l.cmd = c.index) then endLoad s else s
  | .switchEpoch _ _ _ => if s.thl.switchCmd = some c.index then cancelSwitch s else s
  | .stopAtStep _ => { s with seq := { s.seq with stops := s.seq.stops.filter (fun x => x.1 ≠ c.index) } }
  | .tableSwap t _ _ =>
    let x := tableState s t
    if x.pending.any (fun p => p.cmd = c.index) then setTable s { x with pending := none }
    else if x.swapCmd = some c.index then setTable s { x with swapCmd := none }
    else s
  | .revokePeat slot =>
    if (s.tier.sources.getD (4 + slot) {}).revokeCmd = some c.index then
      { s with tier := { s.tier with sources := modAt (fun x => { x with state := 1, revokeCmd := none }) s.tier.sources (4 + slot) } }
    else s
  | .freezeAt _ =>
    if s.cnt.freezeCmd = some c.index then
      setReg (wf { s with cnt := { s.cnt with freezeCmd := none } } R.CNT_STATUS F.CNT_STATUS_freeze_pending 0) R.CNT_FREEZE_T 0
    else s
  | .setScales _ _ _ _ _ _ =>
    if s.scl.pend.any (fun p => p.cmd = c.index) then wf { s with scl := { s.scl with pend := none } } R.SCL_STATUS F.SCL_STATUS_pending 0
    else s
  | _ => s

/-! ## Detach (R563, R564, R566, R690) -/

/-- The device discards every unconfirmed host-bound write: running commands become torn, records in the ring that are not
confirmed are held again, as HOST_TORN when data of theirs was unconfirmed (R563, R564). -/
def discardUnconfirmed (s : State) : State :=
  let s := { s with cmd := { s.cmd with
      active := s.cmd.active.map (fun (c : Cmd) => if 0 < c.unconf then { c with torn := true, unconf := 0 } else c)
      flushes := [] } }
  let again := s.cmd.unconf ++ s.cmd.held
  let fix (r : CplRec) : CplRec :=
    if 0 < r.unconf then { r with status := 3, reason := if r.status = 2 then r.reason else 0, unconf := 0 } else r
  let torn := (again.filter (fun (r : CplRec) => decide (0 < r.unconf))).map (fun (r : CplRec) => (r.index, r.confirmed))
  let cm := s.cmd
  let s := { s with cmd := { cm with
      cplWritten := cm.cplWritten - cm.unconf.length, unconf := [], held := again.map fix, torn := (cm.torn ++ torn).take 256 } }
  if torn.isEmpty then s else wf s R.HST_STATUS F.HST_STATUS_torn 1

/-- The host port is detached with a reason of R566; the last detach stays noted when it was not attached. -/
def detach (s : State) (reason : Nat) : State :=
  let was := attached s
  let s := wf s R.HST_STATUS F.HST_STATUS_attached 0
  let s := if was then { s with cmd := { s.cmd with detachReason := reason, detachTime := s.ft } } else s
  syncPage (evgFireIf s (was && rb s R.HST_CTL F.HST_CTL_detach_event_en) 145)

end Sys2Proof.Machine
end

