-- ==== Sys2Proof/Machine/Fail.lean ====
section
/-! DEFINITION. The device-failed state (R498 to R500), leaving UP (R470), and reports of memory errors (R107, R108). -/

namespace Sys2Proof.Machine

/-- The device is in the device-failed state. -/
def failed (s : State) : Bool := rb s R.DEV_REC_STATUS F.DEV_REC_STATUS_failed

/-- A port leaves UP for another state: frames queued for it are discarded (R470). -/
def leaveUp (s : State) (p st : Nat) : State :=
  let s := forEach (fun s (e : QEntry) => freeSlot s e.origin) s (portOf s p).queue
  setPortState (modPort s p (fun q => { q with queue := [], replay := [] })) p st

/-- Send the 16 DEVICE_FAILED frames on every port that is not DOWN and stop driving the ports (R472). -/
def announceFailed (s : State) (code : Nat) : State :=
  forEach (fun s p =>
    if portState s p = 0 then s
    else leaveUp (forEach (fun s _ => sendRaw s p (.deviceFailed (selfId s) code s.ft)) s (List.range 16)) p 0) s (List.range 24)

/-- A frond stops at once: nothing it has begun goes on and nothing later issues. -/
def haltFrond (f : FrondState) : FrondState :=
  { f with halted := true, array := none, engQ := [], move := none, eng := { f.eng with run := none } }

/-- The data-plane blocks stop: the running step ends on the device and no frond goes on (R499). -/
def stopDataPlane (s : State) : State :=
  let q := s.seq
  { s with seq := { q with
      step := none, run := none, stops := [], idleStep := false
      fronds := q.fronds.map haltFrond } }

/-- Running commands complete at once with status ABORTED, also those whose work had ended; their records, and those held, wait for no
write (R499). A command already at the retire point keeps its end (R561). -/
def abortRunning (s : State) : State :=
  let s := forEach (fun s (c : Cmd) => if s.cmd.atPoint.contains c.index then s else retireAt (cancelWork s c) c.index { status := 1 }) s s.cmd.active
  pumpRecs { s with cmd := { s.cmd with held := s.cmd.held.map (fun (r : CplRec) => { r with waits := false }) } }

/-- Entry into the device-failed state with a reason of R498 (R499). -/
def enterFailed (s : State) (code : Nat) : State :=
  if failed s then s
  else
    let s := announceFailed (stopDataPlane s) code
    let s := setFailPin (wf (abortRunning s) R.DEV_REC_STATUS F.DEV_REC_STATUS_failed 1) false
    evgFireIf s (rb s R.DEV_REC_CTL F.DEV_REC_CTL_failed_event_en) 141

/-- A corrected word in a memory of frond `f` is counted and reported (R107). -/
def wordCorrected (s : State) (f : Nat) (w : Nat × Nat) : State :=
  let r := R.FRD_ECC_STAT f
  let s := wf (wf s r F.FRD_ECC_STAT_unit w.1) r F.FRD_ECC_STAT_addr w.2
  let s := wf s r F.FRD_ECC_STAT_count (min (rf s r F.FRD_ECC_STAT_count + 1) (2 ^ 32 - 1))
  evgFireIf (cntAdd s 14 1) (rb s (R.FRD_CTL f) F.FRD_CTL_corr_event_en) f

/-- Each corrected word in a memory of frond `f` is counted and reported (R107); an uncorrectable one fails the device (R108). -/
def frondErr (s : State) (f : Nat) : MemErr → State
  | .none => s
  | .uncorrectable => enterFailed s 1
  | .corrected words => forEach (fun s w => wordCorrected s f w) s words

/-- Work that reads memories of frond `f` whose check words said `err` (R107, R108): it does what `go` says unless the device fails. -/
def afterRead (s : State) (f : Nat) (err : MemErr) (go : State → State) : State :=
  let s := frondErr s f err
  if failed s then s else go s

end Sys2Proof.Machine
end

