-- ==== Sys2Proof/Machine/LinkTime.lean ====
section
/-! DEFINITION. Fabric time over the links: the time parent (R473) and the correction of the counter (R474, R475); a port going
DOWN (R470). -/

namespace Sys2Proof.Machine

/-- The time root in use; none before a ROUTE_TABLE is active (R473). -/
def timeRoot (s : State) : Option Nat :=
  s.shk.route.map (fun r => if isLost s r.timeRoot then r.backupRoot else r.timeRoot)

/-- The UP port whose latest heartbeat carries the lowest level and the root in use; A before B, then the lower index (R473). -/
def timeParent (s : State) (root : Nat) : Option Nat :=
  minBy (fun p => (portOf s p).nbrLevel)
    ((List.range 24).filter (fun p => portUp s p && (portOf s p).lastHb.isSome && decide ((portOf s p).nbrRoot = root)
      && decide ((portOf s p).nbrLevel < 62)))

/-- Level, root and parent as R473 gives them. -/
def timeLevel (s : State) : Nat × Nat × Option Nat :=
  match timeRoot s with
  | none => (63, 0, none)
  | some root =>
    if root = selfId s then (0, root, none)
    else match timeParent s root with
      | none => (63, root, none)
      | some p => ((portOf s p).nbrLevel + 1, root, some p)

/-- Take the time parent anew; level 63, from a reset or reached later, sets the unsync flags (R473). -/
def relevel (s : State) : State :=
  let x := timeLevel s
  let flagged := s.shk.unsyncSet
  let s := { s with shk := { s.shk with unsyncSet := decide (x.1 = 63) } }
  let par := match x.2.2 with
    | some p => p / 12 * 16 + p % 12
    | none => 0
  forEach (fun s die =>
    let r := R.SHK_FT_STATUS die
    let s := wf (wf (wf s r F.SHK_FT_STATUS_level x.1) r F.SHK_FT_STATUS_root x.2.1) r F.SHK_FT_STATUS_parent par
    if x.1 = 63 ∧ !flagged then
      flagEvent s (R.SHK_FLAGS die) F.SHK_FLAGS_unsync (rb s (R.SHK_CTL die) F.SHK_CTL_unsync_event_en) (139 + die)
    else s) s [0, 1]

/-- Half of an integer, towards minus infinity. -/
def halfInt (x : Int) : Int := x.ediv 2

/-- θ of R474 for a heartbeat that arrives at `r`. -/
def hbTheta (b : Heartbeat) (r : Nat) : Int :=
  halfInt (((b.tRxLast : Int) - b.tTxEcho) + ((b.tTx : Int) - r))

/-- δ of R474. -/
def hbDelta (b : Heartbeat) (r : Nat) : Int :=
  halfInt (((r : Int) - b.tTxEcho) - ((b.tTx : Int) - b.tRxLast))

/-- A heartbeat on the parent port gives θ and δ and corrects the counter (R474, R475): the first sets it, more than 64 ft step
it forward, less is removed by the counting rate as `advance` does (the rate is the full 4,000 ppm, a DESIGN CHOICE, log 40). -/
def discipline (s : State) (b : Heartbeat) : State :=
  if b.tRxLast = 0 then s
  else
    let th := hbTheta b s.ft
    let de := hbDelta b s.ft
    let s := forEach (fun s die =>
      let s := setReg s (R.SHK_FT_OFFSET die) (BitVec.ofInt 64 th)
      wf s (R.SHK_FT_STATUS die) F.SHK_FT_STATUS_delay (de.toNat % 65536)) s [0, 1]
    if !s.shk.synced then
      { s with ft := ((b.tTx : Int) + de).toNat % 2 ^ 64, shk := { s.shk with synced := true, slew := 0, slewPart := 0 } }
    else if 64 < th then advance (s.ft + th.toNat) { s with shk := { s.shk with slew := 0, slewPart := 0 } }
    else { s with shk := { s.shk with slew := th, slewPart := 0 } }

/-- A port goes DOWN: its frames are discarded, its lanes are not in use; leaving UP is flagged (R470). -/
def portDown (s : State) (p : Nat) : State :=
  let was := portUp s p
  let s := wf (leaveUp s p 0) (R.SHK_PORT_LANES (p / 12) (p % 12)) F.SHK_PORT_LANES_width 0
  let s := modPort s p (fun q => { q with goodHb := 0, mismatchSince := none })
  let die := p / 12
  let s := if was then flagEvent s (R.SHK_FLAGS die) F.SHK_FLAGS_down (rb s (R.SHK_CTL die) F.SHK_CTL_down_event_en) (135 + die) else s
  relevel s

end Sys2Proof.Machine
end

