-- ==== Sys2Proof/Machine/Scale.lean ====
section
/-! DEFINITION. The scale unit: overflow bits, loss scale, amax, exponents, their reduction and SET_SCALES (R431 to R456). -/

namespace Sys2Proof.Machine

/-- Set a flag of SCL_FLAGS with its event. -/
def sclFlag (s : State) (f en : Field) : State := flagEvent s R.SCL_FLAGS f (rb s R.SCL_CTL en) 134

/-! ## The loss scale (R431 to R434) -/

/-- L of step `n` (R433). -/
def lossExp (s : State) (n : Nat) : Nat :=
  match s.scl.lossOf.find? (fun x => x.1 = n) with
  | some x => x.2
  | none => rf s R.SCL_LOSS F.SCL_LOSS_L

/-- `k` conversions missed the latch of their step (R434, R440). -/
def sclLate (s : State) (k : Nat) : State :=
  sclFlag (bump s R.SCL_LATE_CNT k) F.SCL_FLAGS_late F.SCL_CTL_late_event_en

/-- Conversions of step `n`'s work into FP16, by their codes: an infinity or a NaN sets the step's overflow bit; after the barrier record
of the step each conversion is late (R94, R434). -/
def overflowCodes (s : State) (n : Nat) (codes : List Nat) : State :=
  if codes.isEmpty then s
  else if s.scl.formed.contains n then sclLate s codes.length
  else if s.scl.ovf.contains n || !codes.any (fun c => decide (bitsOf c 10 5 = 31)) then s
  else { s with scl := { s.scl with ovf := n :: s.scl.ovf } }

/-- The update of L, the count and the fast flag by a vote (R432). -/
def lossUpdate (s : State) (vote : Bool) : State :=
  let l := rf s R.SCL_LOSS F.SCL_LOSS_L
  let count := rf s R.SCL_LOSS F.SCL_LOSS_count
  let interval := if rb s R.SCL_LOSS F.SCL_LOSS_fast then 50 else rf s R.SCL_LOSS F.SCL_LOSS_interval
  if vote then
    let s := wf s R.SCL_LOSS F.SCL_LOSS_L (l - 1)
    let s := wf (wf s R.SCL_LOSS F.SCL_LOSS_count 0) R.SCL_LOSS F.SCL_LOSS_fast 0
    sclFlag (cntAdd (bump s R.SCL_OVF_CNT 1) 20 1) F.SCL_FLAGS_skip F.SCL_CTL_skip_event_en
  else if count + 1 < interval then wf s R.SCL_LOSS F.SCL_LOSS_count (count + 1)
  else wf (wf s R.SCL_LOSS F.SCL_LOSS_L (min (l + 1) 24)) R.SCL_LOSS F.SCL_LOSS_count 0

/-! ## Tensors -/

def tensorOf (s : State) (t : Nat) : Option Tensor := s.scl.tensors[t]?
def modTensor (s : State) (t : Nat) (f : Tensor → Tensor) : State :=
  { s with scl := { s.scl with tensors := modAt f s.scl.tensors t } }

/-- F of a format (R442): 448 or 57,344. -/
def fmtMax (fmt : Nat) : FV := if fmt = 6 then fvInt 448 else fvInt 57344

/-- The smallest exponent from −127 to 127 for which H × 2^(h − e) ≤ F (R442); 127 when there is none. -/
def exponentFor (fmt h : Nat) (hmax : W32) : Int :=
  (((List.range 255).map (fun (i : Nat) => (i : Int) - 127)).find?
    (fun e => !fvLt (fmtMax fmt) (fvScale ((h : Int) - e) (f32v hmax)))).getD 127

/-- The larger of two magnitudes as FP32 words without sign. -/
def maxW (a b : W32) : W32 := if a.toNat < b.toNat then b else a

/-- H of a tensor's history, +0 when it is empty. -/
def histMax (x : Tensor) : W32 := x.hist.foldl maxW 0

/-- e_t(n) (R437). -/
def expOf (s : State) (t n : Nat) : Int :=
  match s.scl.pubs.find? (fun p => p.1 = n) with
  | some p => p.2.getD t 0
  | none => ((tensorOf s t).map (·.e)).getD 0

/-- |a| as recorded: a NaN counts as +∞ (R438). -/
def amaxWord (a : W32) : W32 :=
  let m := BitVec.ofNat 32 (a.toNat % 2 ^ 31)
  if isNaN32 a then f32inf false else m

/-- Record `k` conversions of step `n`'s work into a tensor with largest magnitude `a` (R438, R440). -/
def recordAmax (s : State) (t n k : Nat) (a : W32) : State :=
  let s := modTensor s t (fun x => { x with amax := maxW x.amax a, present := true })
  if s.scl.formed.contains n then sclLate s k else s

/-! ## Publication (R441 to R443, R456) -/

/-- The exponents of step `n` are published. -/
def publish (s : State) (n : Nat) : State :=
  let s := { s with scl := { s.scl with
    pubs := ((n, s.scl.tensors.map (·.e)) :: s.scl.pubs.filter (fun p => p.1 ≠ n)).take 4
    fixed := s.scl.fixed.filter (fun x => decide (n < x.2)) } }
  wf s R.SCL_STEP F.SCL_STEP_step n

/-- The exponents of step `n` are published (R439). -/
def published (s : State) (n : Nat) : Bool := s.scl.pubs.any (fun p => decide (p.1 = n))

/-- The exponents of step `n`, which no barrier comes before, are published, unless they are (R437, R442; DESIGN CHOICE, log 145). -/
def publishFirst (s : State) (n : Nat) : State := if published s n || !s.scl.due.isEmpty then s else publish s n

/-- History, saturation and exponent of tensor `t` after step `n` with its reduced amax (R441 to R443); one that was set since keeps its
exponent and history (R449, R456). A tensor scaled from its own amax in a JIT step does not saturate by a finite amax (R453; DEDUCED,
log 92). -/
def tensorStep (n : Nat) (r : ScaleMsg) (s : State) (t : Nat) : State :=
  match tensorOf s t with
  | none => s
  | some x =>
    let a := r.amax.getD t 0
    let has := r.present.getD t false
    let e0 := expOf s t n
    let own := s.scl.jitStep && (x.jitOk || decide (x.kind = 1))
    let infinite := isInf32 a
    let sat := has && (infinite || (!own && fvLt (fmtMax x.fmt) (fvScale (-e0) (f32v a))))
    let entry := if infinite then
        (let v := toF32 (fvScale (e0 + 1 - (x.headroom : Int)) (fmtMax x.fmt)); if isInf32 v then max32 false else v)
      else a
    let s := if sat then
        sclFlag (bump s R.SCL_SAT_CNT 1) F.SCL_FLAGS_sat F.SCL_CTL_sat_event_en else s
    if s.scl.fixed.any (fun y => decide (y.1 = t) && decide (n < y.2)) then modTensor s t (fun x => { x with last := a, satLast := sat })
    else
      let hist := if has then (entry :: x.hist).take 16 else x.hist
      let h := hist.foldl maxW 0
      let e := if h = 0 then x.e else exponentFor x.fmt x.headroom h
      let e := if sat then min 127 (max e (e0 + 1)) else e
      modTensor s t (fun x => { x with hist := hist, e := e, last := a, satLast := sat })

/-- Publish the exponents that completed barriers are due, in order, once their amaxes are reduced (R442; fuel: steps due). -/
def publishDue : Nat → State → State
  | 0, s => s
  | k + 1, s =>
    match s.scl.due with
    | [] => s
    | n :: rest =>
      let next (s : State) : State := { s with scl := { s.scl with due := rest, reduced := s.scl.reduced.filter (fun r => decide (n < r.step)) } }
      if s.scl.tensors.isEmpty then publishDue k (publish (next s) (n + 1))
      else match s.scl.reduced.find? (fun r => r.step = n) with
        | none => s
        | some r => publishDue k (publish (forEach (tensorStep n r) (next s) (List.range s.scl.tensors.length)) (n + 1))

def tryPublish (s : State) : State := publishDue s.scl.due.length s

/-! ## The reduction of amax (R440) -/

/-- Records combined: largest amaxes, presence ORed. -/
def scaleJoin (a b : ScaleMsg) : ScaleMsg :=
  { a with amax := List.zipWith maxW a.amax b.amax, present := List.zipWith (fun x y => x || y) a.present b.present }

/-- Send the record of the level the device is at to its line. -/
def scaleSend (s : State) (r : ScaleMsg) (level : Nat) : State :=
  forEach (fun s d => sendMsg s d (.scale { r with source := selfId s, level := level })) s
    ((lineOf s level).filter (fun d => d ≠ selfId s))

/-- The reduction of step `n` goes up the levels while the records of the line are all there (fuel: levels left). -/
def scaleAdvance (n : Nat) : Nat → State → State
  | 0, s => s
  | k + 1, s =>
    match s.scl.runs.find? (fun x => x.own.step = n) with
    | none => s
    | some x =>
      let peers := (lineOf s x.level).filter (fun d => d ≠ selfId s)
      match peers.mapM (fun d => s.scl.recs.find? (fun r => r.source = d && r.step = n && r.level = x.level)) with
      | none => s
      | some rs =>
        let r := rs.foldl scaleJoin x.own
        if x.level = 4 then
          let runs := s.scl.runs.filter (fun y => y.own.step ≠ n)
          let left := s.scl.recs.filter (fun y => decide (n < y.step) || runs.any (fun z => z.own.step = y.step))
          tryPublish { s with scl := { s.scl with runs := runs, recs := left, reduced := s.scl.reduced ++ [r] } }
        else
          let s := { s with scl := { s.scl with
            runs := s.scl.runs.map (fun y => if y.own.step = n then { y with own := r, level := x.level + 1 } else y) } }
          scaleAdvance n k (scaleSend s r (x.level + 1))

/-- Each reduction in progress goes on as far as its records reach. -/
def pumpScales (s : State) : State := forEach (fun s (x : ScaleRun) => scaleAdvance x.own.step 4 s) s s.scl.runs

/-- The reductions in progress begin anew with the values latched for them (R457). -/
def restartScale (s : State) : State :=
  let s := { s with scl := { s.scl with runs := s.scl.runs.map (fun x => { x with own := x.latched, level := 1 }) } }
  forEach (fun s (x : ScaleRun) => scaleAdvance x.own.step 4 (scaleSend s x.own 1)) s s.scl.runs

/-- Latch the amaxes of step `n` and start their reduction (R440). -/
def scaleLatch (s : State) (n : Nat) : State :=
  if s.scl.tensors.isEmpty then s
  else
    let own : ScaleMsg := ⟨selfId s, n, 1, s.scl.tensors.map (·.amax), s.scl.tensors.map (·.present)⟩
    let s := { s with scl := { s.scl with
      tensors := s.scl.tensors.map (fun (x : Tensor) => { x with amax := 0, present := false })
      runs := s.scl.runs ++ [⟨own, own, 1⟩] } }
    scaleAdvance n 4 (scaleSend s own 1)

/-- A SCALE message arrives (R440). -/
def scaleAccept (s : State) (m : ScaleMsg) : State :=
  if s.scl.recs.any (fun r => r.source = m.source && r.step = m.step && r.level = m.level) then s
  else scaleAdvance m.step 4 { s with scl := { s.scl with recs := s.scl.recs ++ [m] } }

/-- The overflow bit of step `n` goes into the barrier record; later conversions of the step are late (R434). -/
def takeVote (s : State) (n : Nat) : Bool × State :=
  (s.scl.ovf.contains n,
    { s with scl := { s.scl with ovf := s.scl.ovf.filter (fun x => x ≠ n), formed := (n :: s.scl.formed).take 8 } })

/-! ## Loss of scale history (R449, R450) -/

/-- Scale history is lost (R449, R450): before the next step, whose exponents are to be published from what is left. -/
def loseScale (s : State) : State :=
  let s := wf (wf (wf s R.SCL_LOSS F.SCL_LOSS_L 12) R.SCL_LOSS F.SCL_LOSS_count 0) R.SCL_LOSS F.SCL_LOSS_fast 1
  let s := { s with scl := { s.scl with
    tensors := s.scl.tensors.map (fun (x : Tensor) => { x with hist := [], e := x.initExp })
    pubs := s.scl.pubs.filter (fun p => decide (p.1 < s.stepCtr))
    fixed := s.scl.fixed ++ (List.range s.scl.tensors.length).map (fun t => (t, s.stepCtr)) } }
  if capFused s 0xC then
    sclFlag (wf s R.SCL_STATUS F.SCL_STATUS_jit_left 8) F.SCL_FLAGS_jit F.SCL_CTL_jit_event_en
  else s

/-! ## SET_SCALES (R454 to R456) -/

/-- Apply a SET_SCALES and complete it. -/
def applySetScales (s : State) (p : PendScales) : State :=
  let s := match p.op with
    | 0 => wf (wf (wf s R.SCL_LOSS F.SCL_LOSS_L p.l) R.SCL_LOSS F.SCL_LOSS_count 0) R.SCL_LOSS F.SCL_LOSS_fast 0
    | 1 => wf s R.SCL_LOSS F.SCL_LOSS_interval p.interval
    | 2 => loseScale s
    | _ =>
      let s := modTensor s p.tensor (fun x => { x with e := p.e, hist := [] })
      { s with scl := { s.scl with fixed := (p.tensor, s.stepCtr) :: s.scl.fixed } }
  let s := wf { s with scl := { s.scl with pend := none } } R.SCL_STATUS F.SCL_STATUS_pending 0
  finOk s p.cmd []

/-- The barrier of step `n` has completed: L, a SET_SCALES due for step n + 1, then the exponents (R432, R442, R456). -/
def scaleBarrier (s : State) (n : Nat) (vote : Bool) : State :=
  let s := lossUpdate s vote
  let s := { s with scl := { s.scl with due := s.scl.due ++ [n] } }
  tryPublish (match s.scl.pend with
    | some p => if p.step ≤ n + 1 then applySetScales s p else s
    | none => s)

/-! ## The SCALE_PLAN (R444 to R446) -/

def planNum (s : State) (off n : Nat) : Nat := secNum s (actSec s 8 0) off n

/-- A binding (R446): kind, frond, tensor, op, region. -/
structure Binding where
  kind : Nat
  frond : Nat
  tensor : Nat
  op : Nat
  region : Nat
  deriving DecidableEq, Repr

/-- The bindings of the active SCALE_PLAN. -/
def bindings (s : State) : List Binding :=
  let b := planNum s 0xC 4
  (List.range (planNum s 8 4)).map (fun i =>
    let o := b + 8 * i
    ⟨planNum s o 1, planNum s (o + 1) 1 % 32, planNum s (o + 2) 2 % 4096, planNum s (o + 4) 2, planNum s (o + 6) 1⟩)

/-- An image becomes active for a new job: the scale unit starts from its SCALE_PLAN (R431, R445); `jit t` says whether tensor
t is JIT-eligible (R451). -/
def loadScalePlan (s : State) (jit : Nat → Bool) : State :=
  let ts := (List.range (planNum s 0 2)).map (fun i =>
    let o := 0x20 + 8 * i
    let e := toSigned 8 (planNum s (o + 3) 1)
    ({ fmt := planNum s o 1, headroom := planNum s (o + 1) 1, kind := planNum s (o + 2) 1, initExp := e, e := e,
       jitOk := jit i } : Tensor))
  let s := { s with scl := { tensors := ts } }
  let s := setReg s R.SCL_LOSS 0
  let s := wf (wf s R.SCL_LOSS F.SCL_LOSS_L (planNum s 2 1)) R.SCL_LOSS F.SCL_LOSS_interval (planNum s 4 2)
  let s := setReg s R.SCL_STEP (BitVec.ofNat 64 (2 ^ 48 - 1))
  let s := wf (wf s R.SCL_STATUS F.SCL_STATUS_plan_valid 1) R.SCL_STATUS F.SCL_STATUS_jit_left 0
  wf s R.SCL_STATUS F.SCL_STATUS_pending 0

end Sys2Proof.Machine
end

