-- ==== Sys2Proof/Machine/Plan.lean ====
section
/-! DEFINITION. The frond plan: ops, scoreboard, stage queues, the choice of the op to issue (R358 to R373). -/

namespace Sys2Proof.Machine

/-! ## Reading the plan -/

/-- An op of a list (R359): list index, kind, class, flags, waits, done, section offset of its body. -/
structure PlanOp where
  idx : Nat
  kind : Nat
  cls : Nat
  flags : Nat
  waits : List Nat
  done : Nat
  body : Nat
  deriving DecidableEq, Repr

/-- The FROND_PLAN section of the active image. -/
def planSec (s : State) : Option Sec := actSec s 1 0

/-- `n` ops from section offset `o`, the first of list index `i`. -/
def opsFrom (s : State) (x : Option Sec) : Nat → Nat → Nat → List PlanOp
  | 0, _, _ => []
  | n + 1, i, o =>
    ⟨i, secNum s x o 1, secNum s x (o + 1) 1, secNum s x (o + 2) 1, [secNum s x (o + 4) 2, secNum s x (o + 6) 2, secNum s x (o + 8) 2],
      secNum s x (o + 0xA) 2, o + 16⟩ :: opsFrom s x n (i + 1) (o + 16 + secNum s x (o + 0xC) 2)

/-- The op list of frond `f` in a FROND_PLAN section (R358). -/
def opsIn (s : State) (x : Option Sec) (f : Nat) : List PlanOp :=
  opsFrom s x (secNum s x (0x10 + 8 * f + 4) 2) 0 (secNum s x (0x10 + 8 * f) 4)

/-- The op list of frond `f` (R358). -/
def opList (s : State) (f : Nat) : List PlanOp := opsIn s (planSec s) f

/-- Ops in the list of frond `f`. -/
def opCount (s : State) (f : Nat) : Nat := secNum s (planSec s) (0x10 + 8 * f + 4) 2

def wLimit (s : State) : Nat := secNum s (planSec s) 8 2

def opAt (s : State) (f i : Nat) : Option PlanOp := (opList s f)[i]?

/-- Class BWD_W. -/
def PlanOp.isW (o : PlanOp) : Bool := o.cls = 2

/-- An `n`-byte field of an op's body. -/
def bodyNum (s : State) (o : PlanOp) (off n : Nat) : Nat := secNum s (planSec s) (o.body + off) n

/-- A field of a product descriptor or call record held as bytes. -/
def dInit (d : List Byte) : Nat := bitsOf (fieldAt d 0xC 2) 3 2
def dDrain (d : List Byte) : Nat := bitsOf (fieldAt d 0xC 2) 5 3
def dGrad (d : List Byte) : Bool := bitOf (fieldAt d 0xC 2) 2
def dRowsM (d : List Byte) : Nat := fieldAt d 0 2
def dColsN (d : List Byte) : Nat := fieldAt d 2 2

/-- The product descriptor of a PRODUCT op (R131). -/
def descOf (s : State) (o : PlanOp) : List Byte := secBytes s (planSec s) o.body 64

/-- The call record of an op: after the descriptor for a PRODUCT, the body for an INVOKE (R145, R359). -/
def callOf (s : State) (o : PlanOp) : List Byte := secBytes s (planSec s) (o.body + (if o.kind = 1 then 64 else 0)) 128

/-- Micro-batch of an op's work (R98, R131, R145). -/
def opMb (s : State) (o : PlanOp) : Nat := (if o.kind = 1 then bodyNum s o 0x2A 2 else bodyNum s o 0xA 2) % 4096

/-- Parameter bits of the parameter map: frond (none for dest 2, a bit on every frond that reads the block), bit (R374). -/
def paramEntries (s : State) : List (Nat × Nat × Nat × Nat × Nat) :=
  let x := planSec s
  (List.range (secNum s x 4 4)).map (fun i =>
    let o := secNum s x 0 4 + 16 * i
    (secNum s x o 4, secNum s x (o + 4) 1, secNum s x (o + 5) 1 % 32, secNum s x (o + 6) 2, secNum s x (o + 8) 8))

/-- Bytes of parameter block `b` in device memory: its head and its elements as they arrive (R376). -/
def memBlockSize (s : State) (b : Nat) : Nat :=
  match blockEntry s b with
  | none => 64
  | some e => 64 + (if e.fmt = 8 then (e.nElem + 1) / 2 + (e.nElem + 31) / 32 else e.nElem)

/-- Source of row `r` of a MOVE: store offset or device address (R360). -/
def moveSource (s : State) (o : PlanOp) (r : Nat) : Nat := bodyNum s o 8 8 % 2 ^ 48 + r * bodyNum s o 0x18 2 * 64

/-- Frond `f` reads `n` bytes of device memory from `a`: a MOVE of its list with src_mem has a source row among them (R360). -/
def frondReads (s : State) (f a n : Nat) : Bool :=
  (opList s f).any (fun o => decide (o.kind = 3) && bitOf (bodyNum s o 1 1) 1
    && (List.range (bodyNum s o 6 2)).any (fun r => overlaps (moveSource s o r) (bodyNum s o 0x14 4) a n))

/-- Fronds that a parameter map entry concerns: the named one, or for dest 2 every frond that reads the block (R374). -/
def entryFronds (s : State) (e : Nat × Nat × Nat × Nat × Nat) : List Nat :=
  if e.2.1 = 2 then (List.range 32).filter (fun f => frondReads s f e.2.2.2.2 (memBlockSize s e.1)) else [e.2.2.1]

/-- The parameter bits: frond and bit, with the block that names each (R374). -/
def paramBits (s : State) : List (Nat × Nat × Nat) :=
  (paramEntries s).flatMap (fun e =>
    if bitOf e.2.2.2.1 15 then (entryFronds s e).map (fun f => (f, e.2.2.2.1 % 1024, e.1)) else [])

/-! ## Stage queues (R370) -/

/-- A stage queue: producer and consumer member and frond, depth, first bit, base, slot bytes. -/
structure StageQueue where
  prodMember : Nat
  prodFrond : Nat
  consMember : Nat
  consFrond : Nat
  depth : Nat
  firstBit : Nat
  base : Nat
  slotBytes : Nat
  deriving DecidableEq, Repr

def queueCount (s : State) : Nat := secNum s (actSec s 2 0) 0 2

/-- Queue `q`. -/
def queueAt (s : State) (q : Nat) : StageQueue :=
  let x := actSec s 2 0
  let o := 16 + 32 * q
  ⟨secNum s x o 1 % 4, secNum s x (o + 1) 1 % 32, secNum s x (o + 2) 1 % 4, secNum s x (o + 3) 1 % 32, secNum s x (o + 4) 1,
    secNum s x (o + 6) 2, secNum s x (o + 8) 4, secNum s x (o + 0xC) 4⟩

/-- Credits this device holds for queue `q`: its producer holds `depth` of them at job start, no other member any (R371). -/
def credits (s : State) (q : Nat) : Nat :=
  if (queueAt s q).prodMember = memberOf (selfId s) then (queueAt s q).depth - alGet 0 s.seq.used q else 0

/-! ## Fronds and scoreboards -/

def frondOf (s : State) (f : Nat) : FrondState := s.seq.fronds.getD f {}

def modFrond (s : State) (f : Nat) (g : FrondState → FrondState) : State :=
  { s with seq := { s.seq with fronds := modAt g s.seq.fronds f } }

/-- Scoreboard bit `b` of frond `f` (R362). -/
def sbBit (s : State) (f b : Nat) : Bool := (frondOf s f).sb.testBit b

/-- Set or clear a scoreboard bit. -/
def setSb (s : State) (f b : Nat) (v : Bool) : State := modFrond s f (fun x => { x with sb := setBits x.sb b 1 (b2n v) })

/-- The programs that frond `f` invokes by the plan of the image in slot `k`, which its engine's bank then holds (R182). -/
def programsOf (s : State) (k f : Nat) : List Program :=
  let x := findSec s k 1 0
  let used := ((opsIn s x f).filterMap (fun o =>
    if o.kind = 1 then (let d := secBytes s x o.body 64; if dDrain d = 1 then some (fieldAt d 0xE 2) else none)
    else if o.kind = 2 then some (secNum s x o.body 2) else none)).eraseDups
  used.map (fun p =>
    let c := findSec s k 3 p
    let shape := secBytes s c 0 32
    ⟨p, shape, (List.range (fieldAt shape 1 1 + 1)).map (fun i => secNum s c (32 + 8 * i) 8)⟩)

/-- The programs of the image in slot `k` are loaded into bank `b` of every engine (R182). -/
def loadBanks (s : State) (k b : Nat) : State :=
  { s with seq := { s.seq with fronds := s.seq.fronds.zipIdx.map (fun (x : FrondState × Nat) =>
      { x.1 with banks := modAt (fun _ => programsOf s k x.2) x.1.banks b }) } }

/-- The program of slot `p` in the bank that invocations starting now use (R57, R182). -/
def programAt (s : State) (f p : Nat) : Option Program :=
  (((frondOf s f).banks.getD s.thl.bank []).find? (fun x => x.slot = p))

/-- The blocks that name a parameter bit. -/
def bitBlocks (s : State) (f b : Nat) : List Nat := ((paramBits s).filter (fun x => x.1 = f && x.2.1 = b)).map (·.2.2)

/-- Every block that names a bit has arrived since the bits were cleared (R374); a lost block keeps its last parameters in
place (R531). -/
def bitComplete (s : State) (f b : Nat) : Bool :=
  (bitBlocks s f b).all (fun k => s.recov.lostBlocks.contains k || match s.rau.arrived.find? (fun a => a.1 = k) with
    | some a => decide (s.rau.gen ≤ a.2)
    | none => false)

/-- Set the parameter bits of a block that has arrived whole, or keeps its last parameters as it is lost. -/
def setParamBits (s : State) (k : Nat) : State :=
  forEach (fun s (x : Nat × Nat × Nat) => if x.2.2 = k ∧ bitComplete s x.1 x.2.1 then setSb s x.1 x.2.1 true else s) s (paramBits s)

/-- The parameter bits of a block are clear, and it has not arrived, until new parameters of it do (R557). -/
def clearParamBits (s : State) (k : Nat) : State :=
  let s := { s with rau := { s.rau with arrived := s.rau.arrived.filter (fun a => a.1 ≠ k) } }
  forEach (fun s (x : Nat × Nat × Nat) => if x.2.2 = k then setSb s x.1 x.2.1 false else s) s (paramBits s)

/-- Slot states 0 FREE, 1 FILLING, 2 FULL, 3 DRAINING, 4 HELD (R123). -/
def slotState (s : State) (f k : Nat) : Nat := rf s (R.FRD_STATUS f) (if k = 0 then F.FRD_STATUS_slot0_state else F.FRD_STATUS_slot1_state)
def setSlotState (s : State) (f k v : Nat) : State :=
  wf s (R.FRD_STATUS f) (if k = 0 then F.FRD_STATUS_slot0_state else F.FRD_STATUS_slot1_state) v

def slotOf (s : State) (f k : Nat) : Slot := (frondOf s f).slots.getD k {}
def modSlot (s : State) (f k : Nat) (g : Slot → Slot) : State := modFrond s f (fun x => { x with slots := modAt g x.slots k })

/-- A slot is FREE and neither a product nor a chained tile has it. -/
def slotAvailable (s : State) (f k : Nat) : Bool :=
  decide (slotState s f k = 0) && (slotOf s f k).op.isNone && (slotOf s f k).seed.isNone

/-- The slot a product takes (R125, R129): the HELD one for KEEP, the one the earliest chained tile of its source waits in, else
the lowest FREE one. -/
def slotFor (s : State) (f : Nat) (d : List Byte) : Option Nat :=
  let free := [0, 1].find? (slotAvailable s f)
  match dInit d with
  | 1 => [0, 1].find? (fun k => decide (slotState s f k = 4))
  | 3 =>
    let src := fieldAt d 0x3D 1 % 32
    let waiting := [0, 1].filter (fun k => (slotOf s f k).op.isNone && (slotOf s f k).seed = some src)
    match minBy (fun k => (slotOf s f k).order) waiting with
    | some k => some k
    | none => free
  | _ => free

/-- Work issued on frond `f` that has not completed. -/
def issuedWork (s : State) (f : Nat) : Bool :=
  let x := frondOf s f
  x.array.isSome || x.eng.run.isSome || !x.engQ.isEmpty || x.move.isSome || !x.sent.isEmpty || x.slots.any (fun y => y.op.isSome)

/-! ## Scales of ops (R437 to R439, R452) -/

/-- Bindings of op `i` of frond `f`. -/
def opBindings (s : State) (f i : Nat) : List Binding := (bindings s).filter (fun b => b.frond = f && b.op = i)

/-- A tensor runs under JIT exponents in the running step (R450 to R452). -/
def jitTensor (s : State) (t : Nat) : Bool := s.scl.jitStep && (match tensorOf s t with
  | some x => x.jitOk
  | none => false)

/-- The exponent a binding of an op of step `n` and micro-batch `k` applies. -/
def bindExp (s : State) (t n k : Nat) : Int :=
  if jitTensor s t then (match s.scl.jitExp.find? (fun j => j.1 = t && j.2.1 = k) with
    | some j => j.2.2
    | none => expOf s t n) else expOf s t n

/-- What R439 and R452 ask of an op's bindings before it issues: its step's exponents are published and, of a consumer of a
JIT tensor, its exponent is set. -/
def scalesReady (s : State) (f : Nat) (o : PlanOp) : Bool :=
  let n := (frondOf s f).step
  (opBindings s f o.idx).all (fun b =>
    published s n
      && (b.kind = 0 || !jitTensor s b.tensor || s.scl.jitExp.any (fun j => j.1 = b.tensor && j.2.1 = opMb s o)))

/-! ## The choice of the op to issue (R364, R366, R368) -/

/-- An op's wait bits are all set. -/
def waitsSet (s : State) (f : Nat) (o : PlanOp) : Bool := o.waits.all (fun w => !bitOf w 15 || sbBit s f (w % 1024))

/-- Tensors that op `i` of frond `f` produces under JIT exponents in the running step (R450 to R452). -/
def jitProduced (s : State) (f i : Nat) : List Nat :=
  ((opBindings s f i).filter (fun b => b.kind = 0 && jitTensor s b.tensor)).map (·.tensor)

/-- The pre-pass of op `i` has run (R452). -/
def prepassDone (s : State) (f i : Nat) : Bool :=
  (jitProduced s f i).all (fun t => s.scl.prepass.any (fun x => decide (x.1 = t ∧ x.2.2.1 = f ∧ x.2.2.2.1 = i)))

/-- Op `o` has run its pre-pass and waits for its exponents (R452). -/
def jitWaiting (s : State) (f : Nat) (o : PlanOp) : Bool :=
  let k := opMb s o
  let ts := jitProduced s f o.idx
  prepassDone s f o.idx && ts.any (fun t => !s.scl.jitExp.any (fun j => decide (j.1 = t ∧ j.2.1 = k)))

/-- The unit of an op can accept it (R364). The element engine accepts an INVOKE while all it holds is invocations that wait
for a JIT exponent, since that exponent may need the pre-pass of this one (R452; DEDUCED, log 92). -/
def unitAccepts (s : State) (f : Nat) (o : PlanOp) : Bool :=
  let x := frondOf s f
  match o.kind with
  | 1 => x.array.isNone && (slotFor s f (descOf s o)).isSome
  | 2 => x.eng.run.isNone && x.engQ.all (fun i => match opAt s f i with
      | some p => jitWaiting s f p
      | none => false)
  | _ => x.move.isNone && (decide (bodyNum s o 0 1 ≠ 3) || decide (0 < credits s (bodyNum s o 4 2)))

/-- ready(op) of R364. -/
def opReady (s : State) (f : Nat) (o : PlanOp) : Bool := waitsSet s f o && unitAccepts s f o && scalesReady s f o

/-- The list of frond `f` is in progress and may issue (R140, R520, R553, R597). -/
def mayIssue (s : State) (f : Nat) : Bool :=
  rb s (R.FRD_PLAN_STATUS f) F.FRD_PLAN_STATUS_running && rb s (R.FRD_STATUS f) F.FRD_STATUS_init_done && !(frondOf s f).halted
    && !failed s && !s.seq.densePaused && !pausedNow s

/-- First unissued non-W op and first unissued W op of a list. -/
def headOp (s : State) (f : Nat) : Option PlanOp :=
  (opList s f).find? (fun o => !o.isW && decide ((frondOf s f).head ≤ o.idx))
def headW (s : State) (f : Nat) : Option PlanOp :=
  (opList s f).find? (fun o => o.isW && decide ((frondOf s f).headW ≤ o.idx))

/-- Deferred W ops: unissued, with every non-W op before them issued (R368). -/
def deferredCount (s : State) (f : Nat) : Nat :=
  let lim := match headOp s f with
    | some h => h.idx
    | none => opCount s f
  ((opList s f).filter (fun o => o.isW && decide ((frondOf s f).headW ≤ o.idx) && decide (o.idx < lim))).length

/-- What choose_op picks: the op, and how: 0 in its turn, 1 forced by w_limit, 2 bubble fill. -/
def chooseOp (s : State) (f : Nat) : Option (PlanOp × Nat) :=
  if !mayIssue s f then none
  else
    let h := headOp s f
    let w := match headW s f, h with
      | some w, some h => if w.idx < h.idx then some w else none
      | w, none => w
      | none, _ => none
    let ready (o : Option PlanOp) : Option PlanOp := match o with
      | some o => if opReady s f o then some o else none
      | none => none
    match ready w, ready h with
    | some w, some h => if wLimit s ≤ deferredCount s f then some (w, 1) else some (h, 0)
    | some w, none => if wLimit s ≤ deferredCount s f then some (w, 1) else some (w, 2)
    | none, some h => some (h, 0)
    | none, none => none

/-- An op issues (R364): consumed wait bits clear, the list moves on. -/
def issueOp (s : State) (f : Nat) (o : PlanOp) (how : Nat) : State :=
  let s := forEach (fun s (w : Nat × Nat) => if bitOf w.1 15 && bitOf o.flags w.2 then setSb s f (w.1 % 1024) false else s) s o.waits.zipIdx
  let s := modFrond s f (fun x => if o.isW then { x with headW := o.idx + 1, since := s.ft } else { x with head := o.idx + 1, since := s.ft })
  let s := wf s (R.FRD_PLAN_STATUS f) F.FRD_PLAN_STATUS_stalled 0
  if o.isW then wf s (R.FRD_PLAN_STATUS f) F.FRD_PLAN_STATUS_forced (b2n (how = 1)) else s

/-- Array cycles of a product (R138, run starts left out). -/
def productCycles (s : State) (kp : Nat) (o : PlanOp) : Nat :=
  (bodyNum s o 4 4 + kp - 1) / kp * max (bodyNum s o 0 2) 128

end Sys2Proof.Machine
end

