-- ==== Sys2Proof/Machine/Kcg.lean ====
section
/-! DEFINITION. The keyed counter generator (R95 to R100). -/

namespace Sys2Proof.Machine

/-- The four counter words and the two key words of a round. -/
structure KcgState where
  c0 : Nat
  c1 : Nat
  c2 : Nat
  c3 : Nat
  k0 : Nat
  k1 : Nat
  deriving DecidableEq, Repr

/-- A 32-bit word rotated left by 7. -/
def rotl7 (x : Nat) : Nat := (x <<< 7) % 2 ^ 32 ||| x >>> 25

/-- One round (R95). -/
def kcgRound (s : KcgState) : KcgState :=
  let p0 := 0xC8A1_3E57 * s.c0
  let p1 := 0x9D6B_2F41 * s.c2
  { c0 := (p1 >>> 32) ^^^ s.c1 ^^^ s.k0
    c1 := p1 % 2 ^ 32
    c2 := rotl7 ((p0 >>> 32) ^^^ s.c3 ^^^ s.k1)
    c3 := p0 % 2 ^ 32
    k0 := (s.k0 + 0x71C4_8A2D) % 2 ^ 32
    k1 := (s.k1 + 0x3E9F_05B7) % 2 ^ 32 }

/-- `n` rounds. -/
def kcgRounds : Nat → KcgState → KcgState
  | 0, s => s
  | n + 1, s => kcgRounds n (kcgRound s)

/-- The 128-bit output of a call (R95, R96) on a 128-bit counter and a 64-bit key. -/
def kcg (counter key : Nat) : Nat :=
  let s := kcgRounds 10 ⟨bitsOf counter 0 32, bitsOf counter 32 32, bitsOf counter 64 32, bitsOf counter 96 32,
    bitsOf key 0 32, bitsOf key 32 32⟩
  s.c0 + s.c1 <<< 32 + s.c2 <<< 64 + s.c3 <<< 96

/-- The 128-bit counter of R98. -/
def kcgCounter (stream step mb group : Nat) : Nat :=
  (stream % 2 ^ 20) <<< 108 + (step % 2 ^ 48) <<< 60 + (mb % 2 ^ 12) <<< 48 + group % 2 ^ 48

/-- The 16-bit random value of an element (R99). -/
def randOf (seed stream step mb elem : Nat) : Nat :=
  bitsOf (kcg (kcgCounter stream step mb (elem / 8)) seed) (16 * (elem % 8)) 16

/-- The micro-batch field of work of the whole step (R98). -/
def wholeStep : Nat := 0xFFF

end Sys2Proof.Machine
end

