-- ==== Sys2Proof/Machine/Rau.lean ====
section
/-! DEFINITION. Reduce-and-apply: contributions, canonical sums, parts, gradients, the optimiser, digests, replay and the
all-gather (R385 to R427). -/

namespace Sys2Proof.Machine

/-- Set a flag of RAU_FLAGS with its event. -/
def rauFlag (s : State) (die : Nat) (f en : Field) : State :=
  flagEvent s (R.RAU_FLAGS die) f (rb s (R.RAU_CTL die) en) (132 + die)

/-- Bytes of a RAU message: header and body. -/
def rauBytes (m : Message) : Nat := (msgWire (bitmapGroup m) m).2.2.length

/-- Send a RAU message and count its bytes. -/
def rauSendFor (s : State) (op : Option (Nat × Nat)) (die dst : Nat) (m : Message) : State :=
  sendFrom (bump s (R.RAU_BYTES_OUT die) (rauBytes m)) none op none dst m

def rauSend (s : State) (die dst : Nat) (m : Message) : State := rauSendFor s none die dst m

/-- Cut a list into the pieces of messages, offsets with them; an empty list gives one empty piece. -/
def pieces {A : Type} (n : Nat) (xs : List A) : List (Nat × List A) :=
  if xs.isEmpty then [(0, [])] else (chunksOf n xs).zipIdx.map (fun c => (c.2 * n, c.1))

/-- Elements of 2, 4 and 8 bytes in one message (at most 1 MiB with header and bitmap; the division is the model's). -/
def perMsg2 : Nat := 2 ^ 19 - 2 ^ 11
def perMsg4 : Nat := 2 ^ 18 - 2 ^ 10
def perMsg8 : Nat := 2 ^ 17 - 2 ^ 9

/-- Whether this device acts as the primary of a block: the holders before it are lost and their epochs committed (R419). -/
def actsPrimary (s : State) (e : BlockEntry) : Bool :=
  ((e.primary :: e.replicas).find? (fun d => !lostCommitted s d)) = some (selfId s)

/-! ## State of blocks -/

/-- The state a holder keeps of a block; a block not listed stands where the run began. -/
def blk (s : State) (b : Nat) : BlockState :=
  (s.rau.blocks.find? (fun x => x.block = b)).getD { block := b, applied := s.rau.base, digested := s.rau.base, agreed := s.rau.base, gathered := s.rau.base, ready := s.rau.base }

def setBlk (s : State) (x : BlockState) : State :=
  let l := s.rau.blocks
  let new := if l.any (fun y => decide (y.block = x.block)) then l.map (fun y => if y.block = x.block then x else y) else l ++ [x]
  { s with rau := { s.rau with blocks := new } }

/-- The step the reductions of a role not listed begin with: the running step. -/
def redStart (s : State) : Nat := max s.rau.base (s.stepCtr - 1)

/-- This device reduces a block as its primary or as the leader of a part of it. -/
def reducesBlock (s : State) (e : BlockEntry) : Bool :=
  actsPrimary s e || (e.parts ≠ 1 && (List.range e.parts).any (fun j => partLeader s e j = some (selfId s)))

/-- The blocks that a pair buffer has no room for, taken in descending block index until the others fit; `free` elements are to go (R385). -/
def excessOf : Nat → List BlockEntry → List Nat
  | _, [] => []
  | excess, e :: es => if excess = 0 then [] else e.block :: excessOf (excess - e.nElem) es

/-- The blocks of a die whose pairs are in the partition: those beyond 4,194,304 elements (R385). -/
def partitionBlocks (s : State) (die : Nat) : List Nat :=
  let es := (allBlocks s).filter (fun e => e.die = die && reducesBlock s e)
  excessOf ((es.map (·.nElem)).sum - 4194304) es.reverse

/-- A fresh reduction (R397). -/
def newRed (s : State) (e : BlockEntry) (part : Option Nat) (step : Nat) : Reduction :=
  let n := if splitInv s then (match part with
    | none => 8
    | some _ => 8 / e.parts) else 1
  let first := match part with
    | none => 0
    | some j => (partRange (contributors s e).length e.parts j).1
  ⟨e.block, step, part, first, List.replicate n (List.replicate e.nElem (0, 0)), [], 0, false,
    if (partitionBlocks s e.die).contains e.block then .partition else .buffer⟩

/-- The reduction of a role: primary of an unsplit block, or leader of part `j`. -/
def redOf (s : State) (e : BlockEntry) (part : Option Nat) : Reduction :=
  (s.rau.reds.find? (fun r => r.block = e.block && r.part = part)).getD
    (newRed s e part (if part.isNone then (blk s e.block).ready else redStart s))

def setRed (s : State) (r : Reduction) : State :=
  let rest := s.rau.reds.filter (fun x => x.block ≠ r.block || x.part ≠ r.part)
  { s with rau := { s.rau with reds := rest ++ [r] } }

/-! ## Contributions (R392 to R397, R403 to R405) -/

def seenState (s : State) (b n d : Nat) : Option Nat :=
  (s.rau.seen.find? (fun x => x.1 = b && x.2.1 = n && x.2.2.1 = d)).map (·.2.2.2)

def setSeen (s : State) (b n d v : Nat) : State :=
  let rest := s.rau.seen.filter (fun x => x.1 ≠ b || x.2.1 ≠ n || x.2.2.1 ≠ d)
  { s with rau := { s.rau with seen := rest ++ [(b, n, d, v)] } }

/-- Count a contribution that a reduction goes without (R404). -/
def countDrop (s : State) (e : BlockEntry) (n d v : Nat) : State := cntAdd (bump (setSeen s e.block n d v) (R.RAU_DROP_CNT e.die) 1) 18 1

/-- A contribution of `d` to step `n` will not be added: counted once, also when it has arrived too late before (R404). -/
def dropContribution (s : State) (e : BlockEntry) (n d : Nat) : State :=
  match seenState s e.block n d with
  | none => countDrop s e n d 0
  | some 2 => countDrop s e n d 3
  | some _ => s

/-- A contribution of a reduction that a BLOCK reset has cleared: it is absent, whether added before or not (R404, R429). -/
def dropCleared (s : State) (e : BlockEntry) (n d : Nat) : State :=
  if seenState s e.block n d = some 1 then countDrop s e n d 3 else dropContribution s e n d

def findContribution (s : State) (b n d : Nat) : Option Contribution :=
  (s.rau.cbuf.find? (fun x => x.1 = b && x.2.step = n && x.2.source = d)).map (·.2)

def setContribution (s : State) (b : Nat) (c : Contribution) : State :=
  let rest := s.rau.cbuf.filter (fun x => x.1 ≠ b || x.2.step ≠ c.step || x.2.source ≠ c.source)
  { s with rau := { s.rau with cbuf := rest ++ [(b, c)] } }

def dropBuffered (s : State) (b n d : Nat) : State :=
  { s with rau := { s.rau with cbuf := s.rau.cbuf.filter (fun x => x.1 ≠ b || x.2.step ≠ n || x.2.source ≠ d) } }

/-- Whether a place of the reduction can be taken, has nothing to come, or must wait (R397). -/
inductive Avail where
  | add (c : Contribution)
  | absent
  | wait
  deriving DecidableEq, Repr

/-- The current contribution of `d` to step `n`. -/
def curAvail (s : State) (e : BlockEntry) (n d : Nat) : Avail :=
  match findContribution s e.block n d with
  | some c => if c.complete && !c.late then .add c
    else if n < s.rau.closed || isLost s d then .absent else .wait
  | none => if n < s.rau.closed || isLost s d then .absent else .wait

/-- The late policy of the window of step `n` is CARRY (R404, R414). -/
def carryOf (s : State) (n : Nat) : Bool := alGet false s.rau.policies n

/-- The contribution of `d` carried from step `n − 1`, by the policy of that step's window (R404). -/
def carryAvail (s : State) (e : BlockEntry) (n d : Nat) : Avail :=
  if decide (n ≤ s.rau.base) || !carryOf s (n - 1) then .absent
  else match findContribution s e.block (n - 1) d with
    | some c => if c.complete && c.late then .add c
      else if isLost s d || n < s.rau.closed then .absent else .wait
    | none => if (seenState s e.block (n - 1) d).isSome || isLost s d || n < s.rau.closed then .absent else .wait

/-- Element `i` of what has been received. -/
def gotElem {A : Type} (d : A) (got : List (Nat × List A)) (i : Nat) : A :=
  match got.find? (fun c => decide (c.1 ≤ i) && decide (i < c.1 + c.2.length)) with
  | some c => c.2.getD (i - c.1) d
  | none => d

/-- The leaf of a reduction that a group index is summed in (R401). -/
def leafOf (s : State) (e : BlockEntry) (part : Option Nat) (i : Nat) : Nat :=
  if splitInv s then
    let c := (contributors s e).length
    partOfIndex c 8 i - (match part with
      | none => 0
      | some j => j * (8 / e.parts))
  else 0

/-- Add a contribution at group index `i` (R397, R119). -/
def addContribution (s : State) (e : BlockEntry) (r : Reduction) (i : Nat) (c : Contribution) : State × Reduction :=
  let leaf := leafOf s e r.part i
  let add (ps : List (W32 × W32)) : List (W32 × W32) := ps.zipIdx.map (fun p => pairAdd p.1 (fp16Val (gotElem 0 c.got p.2)))
  let s := setSeen (dropBuffered s e.block c.step c.source) e.block c.step c.source 1
  let s := bump s (R.RAU_CONTRIB_CNT e.die) 1
  let s := if c.late then bump s (R.RAU_CARRY_CNT e.die) 1 else s
  (s, { r with leaves := modAt add r.leaves leaf, bitmap := insertAsc i r.bitmap, added := r.added + 1 })

/-- Take the places of a reduction in order while they can be taken (fuel: places left); the flag says it reached the end. -/
def redLoop (e : BlockEntry) (ids : List Nat) (hi : Nat) : Nat → State → Reduction → State × Reduction × Bool
  | 0, s, r => (s, r, decide (hi ≤ r.next))
  | k + 1, s, r =>
    if hi ≤ r.next then (s, r, true)
    else
      let i := r.next
      let d := ids.getD i 0
      match carryAvail s e r.step d, curAvail s e r.step d with
      | .wait, _ => (s, r, false)
      | .add c, .wait => let x := addContribution s e r i c; (x.1, x.2, false)
      | .absent, .wait => (s, r, false)
      | c1, c2 =>
        let x := match c1 with
          | .add c => addContribution s e r i c
          | _ => (if isLost s d && decide (s.rau.base < r.step) && carryOf s (r.step - 1) then dropContribution s e (r.step - 1) d else s, r)
        let x := match c2 with
          | .add c => addContribution x.1 e x.2 i c
          | _ => (if isLost x.1 d || !carryOf x.1 r.step then dropContribution x.1 e r.step d else x.1, x.2)
        redLoop e ids hi k x.1 { x.2 with next := i + 1 }

/-! ## The gradient (R406, R418) -/

/-- Write gradient elements from an offset into the log slot of step `n`. -/
def putGrad (s : State) (e : BlockEntry) (n off : Nat) (gs : List W32) : State :=
  setBytes s (logAddr s e n + 4 * off) (leAll 4 (gs.map (·.toNat)))

/-- The gradient in the log slot of step `n`. -/
def logGrad (s : State) (e : BlockEntry) (n : Nat) : List W32 :=
  (List.range e.nElem).map (fun i => BitVec.ofNat 32 (numAt s (logAddr s e n + 4 * i) 4))

/-- Write the step record of a log slot: step, eta, c, flags (bit 0 skip, bit 1 nonfin), CRC-64 of the gradient (R417, R418; the
layout is the model's). -/
def putRecord (s : State) (e : BlockEntry) (n : Nat) (eta c : W32) (skip nonfin : Bool) : State :=
  let crc := crc64 (bytesAt s (logAddr s e n) (4 * e.nElem))
  setBytes s (logRecord s e n) (leBytes 8 n ++ leBytes 4 eta.toNat ++ leBytes 4 c.toNat ++ leBytes 4 (b2n skip + 2 * b2n nonfin)
    ++ leBytes 4 0 ++ leBytes 8 crc ++ leBytes 32 0)

/-- Step record fields: step, eta, c, skip, nonfin, CRC. -/
def recordOf (s : State) (e : BlockEntry) (n : Nat) : Nat × W32 × W32 × Bool × Bool × Nat :=
  let a := logRecord s e n
  (numAt s a 8, BitVec.ofNat 32 (numAt s (a + 8) 4), BitVec.ofNat 32 (numAt s (a + 12) 4), bitOf (numAt s (a + 16) 4) 0,
    bitOf (numAt s (a + 16) 4) 1, numAt s (a + 24) 8)

/-- Element `i` of a final gradient (R406). -/
def gradElem (s : State) (e : BlockEntry) (n : Nat) (f : W32) (i : Nat) (p : W32 × W32) : W32 :=
  let v := fvScale (-(lossExp s n : Int)) (fvMul (pairVal p.1 p.2) (f32v f))
  let rnd := randOf (jobSeed s) (denseNum s n 0x10 4 % 2 ^ 20) n wholeStep (e.paramBase + i)
  BitVec.ofNat 32 (toIeee lFP32 (.sr rnd) v).1

/-- Send GRAD messages of step `n` to a holder. -/
def sendGrads (s : State) (e : BlockEntry) (n : Nat) (gs : List W32) (bitmap : List Nat) (dst : Nat) : State :=
  let ps := pieces perMsg4 gs
  forEach (fun s (p : (Nat × List W32) × Nat) =>
    rauSend s e.die dst (.grad ⟨selfId s, e.block, n, p.1.1, p.1.2, decide (p.2 + 1 = ps.length), false, bitmap,
      (contributors s e).length⟩)) s ps.zipIdx

/-- Skip step `n` for a block alone at its primary: GRAD with the skip flag to the replicas (R419, R429). -/
def skipBlock (s : State) (e : BlockEntry) (n : Nat) : State :=
  let x := blk s e.block
  let s := setBlk s { x with ready := n + 1, skips := insertAsc n x.skips }
  forEach (fun s d => rauSend s e.die d (.grad ⟨selfId s, e.block, n, 0, [], true, true, [], (contributors s e).length⟩)) s
    (otherHolders s e)

/-- The reduction of step `n` is final at the primary: the gradient is logged and sent to the replicas (R406, R418). -/
def blockFinal (s : State) (e : BlockEntry) (n : Nat) (pairs : List (W32 × W32)) (bitmap : List Nat) (k : Nat) : State :=
  let c := (contributors s e).length
  let f := if bitOf (optNow s 0 5 1) 0 && decide (0 < k) then f32div (int32 c) (int32 k) else one32
  let gs := pairs.zipIdx.map (fun p => gradElem s e n f p.2 p.1)
  let x := blk s e.block
  let s := setBlk (putGrad s e n 0 gs) { x with ready := n + 1 }
  forEach (fun s d => sendGrads s e n gs bitmap d) s (otherHolders s e)

/-! ## Parts (R398 to R401) -/

def findPart (s : State) (b n j : Nat) : Option PartIn := s.rau.parts.find? (fun p => p.block = b && p.step = n && p.part = j)

def setPart (s : State) (p : PartIn) : State :=
  let rest := s.rau.parts.filter (fun x => x.block ≠ p.block || x.step ≠ p.step || x.part ≠ p.part)
  { s with rau := { s.rau with parts := rest ++ [p] } }

/-- Send the pairs of a part to its primary. -/
def sendPart (s : State) (e : BlockEntry) (n j : Nat) (pairs : List (W32 × W32)) (bitmap : List Nat) (skip : Bool) : State :=
  match primaryOf s e with
  | none => s
  | some dst =>
    let ps := pieces perMsg8 pairs
    forEach (fun s (p : (Nat × List (W32 × W32)) × Nat) =>
      rauSend s e.die dst (.part ⟨selfId s, e.block, n, j, p.1.1, p.1.2, decide (p.2 + 1 = ps.length), skip, bitmap,
        (contributors s e).length⟩)) s ps.zipIdx

/-- The primary of a split block combines its parts once all are there (R400, R401); a part with the skip flag skips the block,
and every contribution counts as dropped but for those a part at hand has left out, which its leader counted (R399, R404, R429). -/
def combineParts (s : State) (e : BlockEntry) : State :=
  let n := (blk s e.block).ready
  let got := (List.range e.parts).map (findPart s e.block n)
  if got.any (fun p => match p with
      | some p => p.complete && p.skip
      | none => false) then
    let c := (contributors s e).length
    let s := forEach (fun s i =>
      match findPart s e.block n (partOfIndex c e.parts i) with
      | some p => if p.skip || !p.complete || p.bitmap.contains i then dropCleared s e n ((contributors s e).getD i 0) else s
      | none => dropCleared s e n ((contributors s e).getD i 0)) s (List.range c)
    skipBlock { s with rau := { s.rau with parts := s.rau.parts.filter (fun p => p.block ≠ e.block || p.step ≠ n) } } e n
  else match got.mapM (fun p => match p with
      | some p => if p.complete then some p else none
      | none => none) with
    | none => s
    | some ps =>
      let lists := ps.map (fun p => (List.range e.nElem).map (gotElem (0, 0) p.got))
      let total := if splitInv s then treeJoin lists else match lists with
        | a :: r => r.foldl pairsJoin a
        | [] => []
      let bits := ps.flatMap (·.bitmap)
      let s := { s with rau := { s.rau with parts := s.rau.parts.filter (fun p => p.block ≠ e.block || p.step ≠ n) } }
      blockFinal s e n total bits bits.length

/-- Advance one reduction of this device (R397); one that a BLOCK reset has cleared stands until the reset ends (R429). -/
def advanceRed (s : State) (e : BlockEntry) (part : Option Nat) : State :=
  let r := redOf s e part
  if s.stepCtr ≤ r.step || r.cleared then s
  else
    let ids := contributors s e
    let hi := match part with
      | none => ids.length
      | some j => (partRange ids.length e.parts j).2
    let x := redLoop e ids hi (ids.length + 1) s r
    let s := x.1
    let r := x.2.1
    if x.2.2 then
      let total := if splitInv s then treeJoin r.leaves else r.leaves.headD []
      let s := match part with
        | none => blockFinal s e r.step total r.bitmap r.added
        | some j => sendPart s e r.step j total r.bitmap false
      setRed s (newRed s e part (r.step + 1))
    else setRed s r

/-- Advance what this device does for a block: its reduction as primary, its parts as leader, their combination; nothing while its RAU is
asked to go idle or held in its reset (R428, R429). -/
def advanceBlock (s : State) (e : BlockEntry) : State :=
  if idleAsked s (0x33 + e.die) then s
  else if e.parts = 1 then (if actsPrimary s e then advanceRed s e none else s)
  else
    let s := forEach (fun s j => if partLeader s e j = some (selfId s) then advanceRed s e (some j) else s) s (List.range e.parts)
    if actsPrimary s e && decide ((blk s e.block).ready < s.stepCtr) then combineParts s e else s

/-- Advance every block. -/
def advanceBlocks (s : State) : State := forEach advanceBlock s (allBlocks s)

/-- close(n) has passed for step `n` at time `t` (R402, R403). -/
def windowPassed (s : State) (n t : Nat) : Bool :=
  decide (n < s.rau.closed) || (decide (n + 1 = s.rau.window) && decide (s.rau.closeAt ≤ t))

/-- This device may come to reduce contributions of `src` to a block: as holder, or as a member of its part (R391). -/
def mayReduce (s : State) (e : BlockEntry) (src : Nat) : Bool :=
  if e.parts = 1 then isHolder s e
  else
    let ids := contributors s e
    match ids.findIdx? (fun d => d = src) with
    | none => false
    | some i =>
      let r := partRange ids.length e.parts (partOfIndex ids.length e.parts i)
      ((ids.drop r.1).take (r.2 - r.1)).contains (selfId s)

/-- A late contribution is counted (R403). -/
def rauLate (s : State) (die : Nat) : State :=
  rauFlag (bump s (R.RAU_LATE_CNT die) 1) die F.RAU_FLAGS_late F.RAU_CTL_late_event_en

/-- Elements received a second time (R394). -/
def rauDup (s : State) (die n : Nat) : State :=
  if n = 0 then s else rauFlag (bump s (R.RAU_DUP_CNT die) n) die F.RAU_FLAGS_dup F.RAU_CTL_dup_event_en

/-- The reduction that a contribution of `src` to step `n` belongs to is final on this device (R405). -/
def redFinal (s : State) (e : BlockEntry) (n src : Nat) : Bool :=
  let ids := contributors s e
  let part := if e.parts = 1 then none else (ids.findIdx? (fun d => d = src)).map (partOfIndex ids.length e.parts)
  decide (n < (redOf s e part).step)

/-- A contribution that comes too late to be added at all: discarded (R404, R405). -/
def discardLate (s : State) (e : BlockEntry) (c : Contribution) : State :=
  setSeen (dropBuffered s e.block c.step c.source) e.block c.step c.source (if (seenState s e.block c.step c.source).isSome then 3 else 2)

/-- The last byte of a contribution has been accepted at time `t` (R394, R403 to R405). -/
def contributionArrived (s : State) (e : BlockEntry) (c : Contribution) (t : Nat) : State :=
  if windowPassed s c.step t then
    let s := rauLate s e.die
    let carried := carryOf s c.step && decide (s.rau.base ≤ c.step) && !windowPassed s (c.step + 1) t
      && (seenState s e.block c.step c.source).isNone
    if carried then advanceBlock (setContribution s e.block { c with complete := true, late := true }) e
    else discardLate s e c
  else if redFinal s e c.step c.source then discardLate (bump s (R.RAU_LATE_CNT e.die) 1) e c
  else advanceBlock (setContribution s e.block { c with complete := true }) e

/-- A REDUCE message is accepted at time `t` (R392 to R405). -/
def acceptReduce (s : State) (m : ReduceMsg) (t : Nat) : State :=
  match blockEntry s m.block with
  | none => bump s (R.RAU_UNMAPPED_CNT 0) 1
  | some e =>
    let s := bump s (R.RAU_BYTES_IN e.die) (rauBytes (.reduce m))
    if !(contributors s e).contains m.source || !mayReduce s e m.source then bump s (R.RAU_UNMAPPED_CNT e.die) 1
    else if s.recov.lostBlocks.contains e.block then s
    else match seenState s e.block m.step m.source with
      | some 1 => rauDup s e.die m.elems.length
      | some 2 => rauDup s e.die m.elems.length
      | some 3 => rauDup s e.die m.elems.length
      | _ =>
        let c := (findContribution s e.block m.step m.source).getD ⟨m.source, m.step, [], false, false⟩
        if c.complete then rauDup s e.die m.elems.length
        else if isLost s m.source then bump s (R.RAU_LATE_CNT e.die) 1
        else
          let has (i : Nat) : Bool := c.got.any (fun g => decide (g.1 ≤ i) && decide (i < g.1 + g.2.length))
          let idx := (List.range m.elems.length).filter (fun i => decide (m.offset + i < e.nElem))
          let fresh := idx.filter (fun i => !has (m.offset + i))
          let s := rauDup s e.die (idx.length - fresh.length)
          let new := if fresh.length = m.elems.length then [(m.offset, m.elems)]
            else fresh.map (fun i => (m.offset + i, [m.elems.getD i 0]))
          let c := { c with got := c.got ++ new }
          if e.nElem ≤ (c.got.map (fun g => g.2.length)).sum then contributionArrived s e c t
          else setContribution s e.block c

/-- A PART message is accepted at time `t` (R398 to R400). -/
def acceptPart (s : State) (m : PartMsg) (t : Nat) : State :=
  match blockEntry s m.block with
  | none => bump s (R.RAU_UNMAPPED_CNT 0) 1
  | some e =>
    let s := bump s (R.RAU_BYTES_IN e.die) (rauBytes (.part m))
    let late := decide (m.step + 1 = s.rau.window) && decide (s.rau.closeAt + 65536 < t)
    if m.step < (blk s e.block).ready || late then s
    else
      let p := (findPart s e.block m.step m.part).getD ⟨e.block, m.step, m.part, [], [], false, false⟩
      if p.complete then s
      else
        let got := p.got ++ [(m.offset, m.pairs)]
        let p := { p with got := got, bitmap := if m.last then m.bitmap else p.bitmap, skip := p.skip || m.skip,
                          complete := m.last && (m.skip || decide (e.nElem ≤ (got.map (fun g => g.2.length)).sum)) }
        advanceBlock (setPart s p) e

/-- Parts that have not come 65,536 ft after the close of step `n` count as empty, each of their contributions as dropped, those that this
device had added as their leader too (R399). -/
def emptyParts (s : State) (n : Nat) : State :=
  forEach (fun s e =>
    if e.parts ≠ 1 && actsPrimary s e && decide ((blk s e.block).ready = n) && !idleAsked s (0x33 + e.die) then
      let ids := contributors s e
      let s := forEach (fun s j =>
        if (match findPart s e.block n j with
            | some p => p.complete
            | none => false) then s
        else
          let r := partRange ids.length e.parts j
          let s := forEach (fun s i => dropCleared s e n (ids.getD i 0)) s ((List.range ids.length).filter (fun i => r.1 ≤ i && decide (i < r.2)))
          setPart s ⟨e.block, n, j, [(0, List.replicate e.nElem (0, 0))], [], false, true⟩) s (List.range e.parts)
      advanceBlock s e
    else s) s (allBlocks s)

/-- The contribution window of step `n` closes (R402, R404). -/
def closeWindow (s : State) (n : Nat) : State :=
  let s := { s with rau := { s.rau with closed := n + 1 } }
  let s := if decide (s.rau.base < n) && carryOf s (n - 1) then
      forEach (fun s e => forEach (fun s d =>
          if mayReduce s e d && (decide (reduceDest s e d = some (selfId s))) then
            (match findContribution s e.block (n - 1) d with
              | some c => if c.complete then s else dropContribution s e (n - 1) d
              | none => dropContribution s e (n - 1) d)
          else s) s (contributors s e)) s (allBlocks s)
    else s
  advanceBlocks s

/-! ## The barrier record (R407) -/

/-- Every primary block of the device is final for step `n`. -/
def primariesFinal (s : State) (n : Nat) : Bool := (allBlocks s).all (fun e => !actsPrimary s e || decide (n < (blk s e.block).ready))

/-- The sum of squares of a primary block (R407); a skipped block adds nothing. -/
def blockSquares (s : State) (n : Nat) (e : BlockEntry) : W32 × W32 :=
  if (blk s e.block).skips.contains n then (0, 0)
  else (logGrad s e n).foldl (fun a g => pairAdd a (f32v (f32mul g g))) (0, 0)

/-- sumsq of the device. -/
def sumSquares (s : State) (n : Nat) : W32 × W32 :=
  ((allBlocks s).filter (actsPrimary s)).foldl (fun a e => pairJoin a (blockSquares s n e)) (0, 0)

/-- Combine two barrier records (R408). -/
def recordJoin (a b : BarrierRec) : BarrierRec :=
  let p := pairJoin (a.s, a.c) (b.s, b.c)
  ⟨a.vote || b.vote, p.1, p.2, max a.tRec b.tRec, a.count + b.count⟩

/-- Whether the values of a pair are finite. -/
def pairFinite (p : W32 × W32) : Bool := isFin32 p.1 && isFin32 p.2

/-- The clip factor for a global norm, by the clip in effect now (R57, R410); clip × clip is the exact product, since R410 names no rounding
of it (DEDUCED, log 27). -/
def clipFactor (s : State) (n2 : W32) : W32 :=
  let clip : W32 := BitVec.ofNat 32 (optNow s 0 0xC 4)
  if !pos32 clip || !fvLt (fvMul (f32v clip) (f32v clip)) (f32v n2) then one32 else f32mul clip (rsqW n2)

/-! ## Apply (R415 to R417) -/

/-- Moments at an address: `n` FP32 words, or codes and block scales. -/
def readMoment (s : State) (o : OptParams) (dec : Nat → Nat → W32) (a n : Nat) : List W32 :=
  if o.blockMoments then
    (List.range n).map (fun i => dec (numAt s (a + i) 1) (numAt s (a + up64 n + 2 * (i / 32)) 2))
  else (List.range n).map (fun i => BitVec.ofNat 32 (numAt s (a + 4 * i) 4))

/-- Store moments. -/
def writeMoment (s : State) (o : OptParams) (enc : List W32 → List Nat × List Nat) (a : Nat) (xs : List W32) : State :=
  if o.blockMoments then
    let c := enc xs
    setBytes (setBytes s a (leAll 1 c.1)) (a + up64 xs.length) (leAll 2 c.2)
  else setBytes s a (leAll 4 (xs.map (·.toNat)))

/-- Addresses of the parts of a block's state: words, extensions, m, v, t. -/
def stateAddrs (s : State) (e : BlockEntry) : List Nat :=
  let ps := stateParts (denseOpt s e.opt) e.nElem
  (List.range 5).map (fun i => regionAddr s e + (ps.take i).sum)

/-- Element `i` of a block's parameters. -/
def paramVal (s : State) (e : BlockEntry) (i : Nat) : FV :=
  px40Val (numAt s (regionAddr s e + 4 * i) 4) (numAt s (regionAddr s e + up64 (4 * e.nElem) + i) 1)

/-- The new x, m and v of an element (R415). -/
def applyElem (o : OptParams) (k : W32 × W32) (eta : W32) (x : FV) (g m v : W32) : Nat × W32 × W32 :=
  let x32 := toF32 x
  let g := if pos32 o.decay && !o.decoupled then f32fma o.decay x32 g else g
  let u := optElem o k g m v
  let w := if pos32 o.decay && o.decoupled then f32fma o.decay x32 u.1 else u.1
  ((toIeee lPX40 .ne (fvAdd x (fvNeg (fvMul (f32v eta) (f32v w))))).1, u.2.1, u.2.2)

/-- Apply a gradient to a block; answers false, with nothing written, when R416 skips it. -/
def applyBlock (s : State) (e : BlockEntry) (o : OptParams) (etaStep c : W32) (gs : List W32) : State × Bool :=
  let a := stateAddrs s e
  let am := a.getD 2 0
  let av := a.getD 3 0
  let t := min (numAt s (a.getD 4 0) 4 + 1) (2 ^ 32 - 1)
  let k := biasFactors o t
  let eta := f32mul etaStep o.lrScale
  let ms := readMoment s o q8bVal am e.nElem
  let vs := if o.algo = 2 then readMoment s o u8bVal av e.nElem else ms
  let out := (List.range e.nElem).map (fun i =>
    applyElem o k eta (paramVal s e i) (f32mul (gs.getD i 0) c) (ms.getD i 0) (vs.getD i 0))
  let fin := out.all (fun y => fvFinite (ieeeVal lPX40 y.1) && isFin32 y.2.1 && (o.algo ≠ 2 || isFin32 y.2.2))
  if !fin then (s, false)
  else
    let s := setBytes s (a.getD 0 0) (leAll 4 (out.map (fun y => y.1 / 256)))
    let s := setBytes s (a.getD 1 0) (leAll 1 (out.map (fun y => y.1 % 256)))
    let s := writeMoment s o encQ8B am (out.map (fun y => y.2.1))
    let s := if o.algo = 2 then setBytes (writeMoment s o encU8B av (out.map (fun y => y.2.2))) (a.getD 4 0) (leBytes 4 t) else s
    (s, true)

/-- The result of step `n`'s barrier. -/
def resultOf (s : State) (n : Nat) : Option StepResult := s.rau.results.find? (fun r => r.step = n)

/-- The factor c that an apply starting now takes from a step's barrier record (R57, R410, R418). -/
def stepClip (s : State) (r : StepResult) : W32 :=
  if r.record.vote then one32 else clipFactor s (toF32 (pairVal r.record.s r.record.c))

/-- Apply or skip the next step of a block at this holder (R415 to R418, R425); nothing when it is not due. -/
def blockApply (s : State) (e : BlockEntry) : State :=
  let x := blk s e.block
  let n := x.applied
  match resultOf s n with
  | none => s
  | some r =>
    let c := stepClip s r
    if !isHolder s e || x.agreed < n || s.recov.lostBlocks.contains e.block then s
    else if r.record.vote then
      setBlk (putRecord s e n r.eta c true false) { x with applied := n + 1, ready := max x.ready (n + 1), grads := [] }
    else if x.ready ≤ n then s
    else if x.skips.contains n then setBlk (putRecord s e n r.eta c true false) { x with applied := n + 1 }
    else
      let y := applyBlock s e (denseOpt s e.opt) r.eta c (logGrad s e n)
      let s := putRecord y.1 e n r.eta c false (!y.2)
      let s := if y.2 then s
        else rauFlag (bump s (R.RAU_NONFIN_CNT e.die) 1) e.die F.RAU_FLAGS_nonfin F.RAU_CTL_nonfin_event_en
      setBlk s { x with applied := n + 1 }

/-- A GRAD message reaches a replica (R418, R419). -/
def acceptGrad (s : State) (m : GradMsg) : State :=
  match blockEntry s m.block with
  | none => bump s (R.RAU_UNMAPPED_CNT 0) 1
  | some e =>
    let s := bump s (R.RAU_BYTES_IN e.die) (rauBytes (.grad m))
    let x := blk s e.block
    if !isHolder s e || m.step < x.ready then s
    else if m.skip then setBlk s { x with ready := m.step + 1, skips := insertAsc m.step x.skips, grads := [] }
    else
      let s := putGrad s e m.step m.offset m.elems
      let got := x.grads ++ [(m.offset, m.elems)]
      let full := m.last && decide (e.nElem ≤ (got.map (fun g => g.2.length)).sum)
      setBlk s (if full then { x with ready := m.step + 1, grads := [], maps := (m.step, m.bitmap) :: x.maps.filter (fun y => x.applied ≤ y.1) }
        else { x with grads := got })

/-! ## Digests, snapshots, replay (R420 to R425) -/

/-- The state bytes of a block. -/
def stateBytes (s : State) (e : BlockEntry) : List Byte :=
  bytesAt s (regionAddr s e) (stateSize (denseOpt s e.opt) e.nElem)

/-- CRC-64 of each 4 MiB digest block of bytes (R420). -/
def digestsOf (bs : List Byte) : List Nat := (chunksOf (4 * 2 ^ 20) bs).map crc64

/-- Compute this holder's digests for step `n` and send them to the other holders (R420). -/
def sendDigests (s : State) (e : BlockEntry) (n : Nat) : State :=
  let ds := digestsOf (stateBytes s e)
  let x := blk s e.block
  let me := selfId s
  let s := setBlk s { x with digested := n + 1, digests := x.digests ++ [(n, me, ds)] }
  forEach (fun s d => rauSend s e.die d (.digest ⟨me, e.block, n, 0, ds, true⟩)) s (otherHolders s e)

/-- Digest blocks of a block's state (R420). -/
def digestCount (s : State) (e : BlockEntry) : Nat := (stateSize (denseOpt s e.opt) e.nElem + 4 * 2 ^ 20 - 1) / (4 * 2 ^ 20)

/-- The oldest reports of the live holders for step `n` that no comparison has settled, once all are there: holder, CRCs. -/
def allDigests (s : State) (e : BlockEntry) (n : Nat) : Option (List (Nat × List Nat)) :=
  (liveHolders s e).mapM (fun d =>
    match (blk s e.block).digests.find? (fun x => x.1 = n && x.2.1 = d) with
    | some r => if r.2.2.length = digestCount s e then some r.2 else none
    | none => none)

/-- The oldest reports for step `n` of some holders are settled: later ones of theirs count in their place (R422, R423). -/
def settleReports (s : State) (e : BlockEntry) (n : Nat) (ds : List Nat) : State :=
  let x := blk s e.block
  let drop (l : List (Nat × Nat × List Nat)) (d : Nat) : List (Nat × Nat × List Nat) :=
    match l.find? (fun y => y.1 = n && y.2.1 = d) with
    | some y => l.erase y
    | none => l
  setBlk s { x with digests := ds.foldl drop x.digests }

/-- RAU_STEP of a die: the last step whose blocks on it are all agreed. -/
def updateRauStep (s : State) (die : Nat) : State :=
  match ((allBlocks s).filter (fun e => decide (e.die = die) && isHolder s e)).map (fun e => (blk s e.block).agreed) with
  | [] => s
  | a :: r => let m := r.foldl min a
    if s.rau.base < m then wf s (R.RAU_STEP die) F.RAU_STEP_step (m - 1) else s

/-- A block is agreed for step `n`; every 32 steps its state is copied into a snapshot with its digests (R421). -/
def agree (s : State) (e : BlockEntry) (n : Nat) (ds : List Nat) : State :=
  let x := blk s e.block
  let s := setBlk s { x with agreed := n + 1, digests := x.digests.filter (fun d => decide (n < d.1)), replayed := false,
                             replaying := false, skips := x.skips.filter (fun k => decide (n < k)) }
  let s := updateRauStep s e.die
  if n % 32 = 31 then
    let k := n / 32 % 2
    let s := setBytes s (snapAddr s e k) (stateBytes s e)
    { s with rau := { s.rau with snaps := s.rau.snaps.filter (fun y => y.1 ≠ e.block || y.2.1 ≠ k) ++ [(e.block, k, n, ds)] } }
  else s

/-- Record a divergence in RAU_LAST_DIV. -/
def lastDiv (s : State) (e : BlockEntry) (n outcome k : Nat) : State :=
  setReg s (R.RAU_LAST_DIV e.die) (BitVec.ofNat 64 (outcome <<< 60 + (k % 256) <<< 52 + e.block <<< 28 + n % 2 ^ 28))

/-- On digest block `k` of three reports: the index of the one that differs from the other two, 3 when all are equal, 4 when all
differ. -/
def oddOne (a b c : Nat) : Nat :=
  if a = b then (if b = c then 3 else 2) else if a = c then 1 else if b = c then 0 else 4

/-- Restore of a block that no holder can give (R424): counted, and the block waits for a checkpoint, its last parameters in place (R531);
its primary reports the rollback (R529). -/
def blockLost (s : State) (e : BlockEntry) (n : Nat) : State :=
  let s := rauFlag (bump s (R.RAU_ROLLBACK_CNT e.die) 1) e.die F.RAU_FLAGS_rollback F.RAU_CTL_rollback_event_en
  let s := lastDiv s e n 4 0
  let x := blk s e.block
  let s := setBlk s { x with replaying := false }
  let s := setParamBits { s with recov := { s.recov with lostBlocks := insertAsc e.block s.recov.lostBlocks } } e.block
  if actsPrimary s e then rollbackRecord s 2 3 0 0 e.block 0 1 n 0 else s

/-- This holder copies the digest blocks `bad` on which the two others agree (R422). -/
def copyBlocks (s : State) (e : BlockEntry) (bad : List Nat) (copy : List (Nat × List Byte)) : State :=
  forEach (fun s k =>
    let s := match copy.find? (fun c => c.1 = k) with
      | some c => setBytes s (regionAddr s e + k * 4 * 2 ^ 20) c.2
      | none => s
    rauFlag (bump s (R.RAU_MAJORITY_CNT e.die) 1) e.die F.RAU_FLAGS_majority F.RAU_CTL_majority_event_en) s bad

/-- What the reports of all holders for step `n` make of a block that has them: agreed, copied by a majority, rolled back for a replay,
or lost (R421 to R424). A holder that must copy waits for the bytes. Reports that lead to a copy or a replay are settled by it. -/
def judgeDigests (s : State) (e : BlockEntry) (n : Nat) (ds : List (Nat × List Nat)) (copy : List (Nat × List Byte)) : State :=
  let x := blk s e.block
  let lists := ds.map (·.2)
  let mine := (lists.head?).getD []
  let ks := List.range mine.length
  let at_ (i k : Nat) : Nat := (lists.getD i []).getD k 0
  let odd (k : Nat) : Nat := oddOne (at_ 0 k) (at_ 1 k) (at_ 2 k)
  let first := (ks.find? (fun k => lists.any (fun l => l.getD k 0 ≠ mine.getD k 0))).getD 0
  if lists.all (fun l => l = mine) then agree s e n mine
  else if x.replayed then blockLost s e n
  else if ds.length = 3 ∧ ks.all (fun k => odd k ≠ 4) then
    let me := (ds.findIdx? (fun d => d.1 = selfId s)).getD 0
    let bad := ks.filter (fun k => odd k = me)
    let odds := (ds.zipIdx.filter (fun d => ks.any (fun k => odd k = d.2))).map (·.1.1)
    if bad.isEmpty then settleReports s e n odds
    else if !bad.all (fun k => copy.any (fun c => c.1 = k)) then s
    else sendDigests (lastDiv (copyBlocks (settleReports s e n odds) e bad copy) e n 1 first) e n
  else
    let s := rauFlag (bump s (R.RAU_REPLAY_CNT e.die) 1) e.die F.RAU_FLAGS_replay F.RAU_CTL_replay_event_en
    let s := settleReports (lastDiv s e n 2 first) e n (ds.map (·.1))
    setBlk s { blk s e.block with replaying := true }

/-- Compare the reports of the step to agree while there are new ones of every holder (R421 to R424; fuel: a copy or a replay may be
followed by reports that came before); `copy` holds digest blocks another holder sends this one: index, bytes. -/
def compareLoop (e : BlockEntry) (copy : List (Nat × List Byte)) : Nat → State → State
  | 0, s => s
  | k + 1, s =>
    let x := blk s e.block
    if x.digested ≤ x.agreed ∨ s.recov.lostBlocks.contains e.block then s
    else match allDigests s e x.agreed with
      | none => s
      | some ds =>
        let t := judgeDigests s e x.agreed ds copy
        if (blk t e.block).agreed = x.agreed ∧ allDigests t e x.agreed ≠ some ds then compareLoop e copy k t else t

def compareDigests (s : State) (e : BlockEntry) (copy : List (Nat × List Byte)) : State := compareLoop e copy 4 s

/-- The newest snapshot whose content matches its recorded digests and is not newer than step `n`: slot, step. -/
def goodSnapshot (s : State) (e : BlockEntry) (n : Nat) : Option (Nat × Nat) :=
  let size := stateSize (denseOpt s e.opt) e.nElem
  let ok := s.rau.snaps.filter (fun y => decide (y.1 = e.block) && decide (y.2.2.1 ≤ n)
    && decide (digestsOf (bytesAt s (snapAddr s e y.2.1) size) = y.2.2.2))
  (maxBy (fun y => y.2.2.1) ok).map (fun y => (y.2.1, y.2.2.1))

/-- The log slot of step `k` passes its check. -/
def slotOk (s : State) (e : BlockEntry) (k : Nat) : Bool :=
  let r := recordOf s e k
  decide (r.1 = k) && decide (r.2.2.2.2.2 = crc64 (bytesAt s (logAddr s e k) (4 * e.nElem)))

/-- Replay of one logged step with its recorded eta, c and outcome (R423 step 3). -/
def replayStep (e : BlockEntry) (s : State) (k : Nat) : State :=
  let r := recordOf s e k
  if r.2.2.2.1 || r.2.2.2.2.1 then s else (applyBlock s e (denseOpt s e.opt) r.2.1 r.2.2.1 (logGrad s e k)).1

/-- The rollback and replay of a block (R423, R424): from a snapshot and the log, or from the state `copy` of a holder whose
replay passed; none restores it from the checkpoint. -/
def blockReplay (s : State) (e : BlockEntry) (copy : Option (List Byte)) : State :=
  let x := blk s e.block
  let n := x.agreed
  if !x.replaying then s
  else
    let own := match goodSnapshot s e n with
      | some (k, m) =>
        let steps := (List.range (n - m)).map (fun i => m + 1 + i)
        if n - m ≤ 63 ∧ steps.all (slotOk s e) then
          some (forEach (replayStep e) (setBytes s (regionAddr s e) (bytesAt s (snapAddr s e k)
            (stateSize (denseOpt s e.opt) e.nElem))) steps)
        else none
      | none => none
    let finish (s : State) : State := sendDigests (setBlk s { blk s e.block with replaying := false, replayed := true }) e n
    match own, copy with
    | some s, _ => finish s
    | none, some bs => finish (lastDiv (setBytes s (regionAddr s e) bs) e n 3 0)
    | none, none => blockLost s e n

/-! ## All-gather (R426, R453) -/

/-- The largest magnitude of a block's elements, as an FP32 word. -/
def blockAmax (s : State) (e : BlockEntry) : W32 :=
  ((List.range e.nElem).map (fun i => amaxWord (toF32 (paramVal s e i)))).foldl maxW 0

/-- Codes, scale bytes and exponent of a block as its PARAM messages carry them for step `n + 1`; in a JIT window the exponent comes
from the block's own magnitude (R453). -/
def paramCodes (s : State) (e : BlockEntry) (n : Nat) : List Nat × List Nat × Int :=
  let xs := (List.range e.nElem).map (paramVal s e)
  if e.fmt = 8 then
    let bs := (padBlocks xs).map (toE2M1 (fun _ => .ne))
    ((bs.flatMap BlockCodes.codes).take e.nElem, bs.map (·.scale), 0)
  else
    let k := (n + 1) % 2 ^ 48
    let jit := if s.stepCtr ≤ k then decide (0 < rf s R.SCL_STATUS F.SCL_STATUS_jit_left) else s.scl.jitStep
    let x := expOf s e.tensor k
    let ex := if jit ∧ blockAmax s e ≠ 0 then (match tensorOf s e.tensor with
      | some t => exponentFor t.fmt t.headroom (blockAmax s e)
      | none => x) else x
    let conv (v : FV) : Nat := if e.fmt = 6 then (toE4M3 true .ne (fvScale (-ex) v)).1 else (toE5M2 true .ne (fvScale (-ex) v)).1
    (xs.map conv, [], ex)

/-- Send a block's parameters to its gather group (R426). -/
def sendParams (s : State) (e : BlockEntry) (n : Nat) : State :=
  let p := paramCodes s e n
  let s := if e.fmt = 8 then s else recordAmax s e.tensor ((n + 1) % 2 ^ 48) e.nElem (blockAmax s e)
  let per := 2 ^ 19
  let ps := pieces per p.1
  forEach (fun s d => forEach (fun s (q : (Nat × List Nat) × Nat) =>
      let sc := if e.fmt = 8 then (p.2.1.drop (q.1.1 / 32)).take ((q.1.2.length + 31) / 32) else []
      rauSend s e.die d (.param ⟨selfId s, e.block, n, q.1.1, q.1.2, sc, e.fmt, ofSigned 8 p.2.2, decide (q.2 + 1 = ps.length)⟩))
    s ps.zipIdx) s ((contributors s e).filter (fun d => !isLost s d))

/-- The all-gather of a block when it is due (R425, R426, R439): the next step's, or that after a checkpoint load. -/
def allGather (s : State) (e : BlockEntry) : State :=
  let x := blk s e.block
  let n := x.gathered
  if !actsPrimary s e then s
  else if s.rau.regather.contains e.block then
    if e.fmt ≠ 8 && !published s s.stepCtr then s
    else sendParams { s with rau := { s.rau with regather := s.rau.regather.filter (· ≠ e.block) } } e ((s.stepCtr + 2 ^ 48 - 1) % 2 ^ 48)
  else match resultOf s n with
    | none => s
    | some r =>
      if x.agreed ≤ n then s
      else if r.record.vote then setBlk s { x with gathered := n + 1 }
      else if e.fmt ≠ 8 && !published s (n + 1) then s
      else
        let s := sendParams s e n
        setBlk s { blk s e.block with gathered := n + 1 }

/-! ## Loss of devices and resets (R405, R419, R429) -/

/-- This holder becomes primary of a block whose primary before it is lost, the epoch having committed (R419). What it gathers first is
the newest step agreed, which the lost primary may not have sent to every device (DEDUCED, log 144). -/
def promoteBlock (s : State) (e : BlockEntry) (lostAt : Nat) : State :=
  let s := setBlk s { blk s e.block with gathered := max (blk s e.block).gathered ((blk s e.block).agreed - 1) }
  let x := blk s e.block
  let again := (List.range (x.ready - x.applied)).map (x.applied + ·)
  let s := forEach (fun s n =>
    if x.skips.contains n then
      forEach (fun s d => rauSend s e.die d (.grad ⟨selfId s, e.block, n, 0, [], true, true, [], (contributors s e).length⟩)) s
        (otherHolders s e)
    else forEach (fun s d => sendGrads s e n (logGrad s e n) (((x.maps.find? (fun y => y.1 = n)).map (·.2)).getD []) d) s
      (otherHolders s e)) s again
  forEach (fun s n => skipBlock s e n) s ((List.range (lostAt - x.ready)).map (x.ready + ·))

/-- The recovery epoch of a lost device commits: the blocks whose primary it was get a new one. -/
def promoteBlocks (s : State) (d lostAt : Nat) : State :=
  forEach (fun s e =>
    let before := (e.primary :: e.replicas).takeWhile (fun x => x ≠ selfId s)
    if isHolder s e && before.contains d && actsPrimary s e then promoteBlock s e lostAt else s) s (allBlocks s)

/-- The reductions of this device in progress on a die: those of its roles whose step is under way. -/
def openReds (s : State) (die : Nat) : List (BlockEntry × Option Nat) :=
  ((allBlocks s).filter (fun e => decide (e.die = die))).flatMap (fun e =>
    ((if e.parts = 1 then (if actsPrimary s e then [none] else [])
      else ((List.range e.parts).filter (fun j => partLeader s e j = some (selfId s))).map some).filter
        (fun p => decide ((redOf s e p).step < s.stepCtr))).map (fun p => (e, p)))

/-- Split blocks of a die whose parts this device, as their primary, has not all received for the step under way. -/
def openSplits (s : State) (die : Nat) : List BlockEntry :=
  (allBlocks s).filter (fun e => decide (e.die = die) && decide (e.parts ≠ 1) && actsPrimary s e && decide ((blk s e.block).ready < s.stepCtr))

/-- The BLOCK reset of a RAU clears its pairs, the parts it has received with them (R429). -/
def clearPairs (s : State) (die : Nat) : State :=
  let zero (r : Reduction) : Reduction := { r with leaves := r.leaves.map (fun l => List.replicate l.length (0, 0)), cleared := true }
  let s := forEach (fun s x => setRed s (zero (redOf s x.1 x.2))) s (openReds s die)
  let bs := (openSplits s die).map (fun e => (e.block, (blk s e.block).ready))
  { s with rau := { s.rau with
    parts := s.rau.parts.filter (fun p => !bs.contains (p.block, p.step))
    cutSplits := s.rau.cutSplits ++ bs } }

/-- After the BLOCK reset: what was being reduced when it cleared the pairs is treated as if every contribution were absent, each counted
as dropped at the block's primary; a part leader sends the primary a PART with the skip flag, a primary its replicas a GRAD with it
(R429). Then the reductions go on. -/
def restartPairs (s : State) (die : Nat) : State :=
  let s := forEach (fun s x =>
    let r := redOf s x.1 x.2
    let n := r.step
    if !r.cleared then s
    else match x.2 with
      | none =>
        let s := forEach (fun s d => dropCleared s x.1 n d) s (contributors s x.1)
        setRed (skipBlock s x.1 n) (newRed s x.1 none (n + 1))
      | some j => setRed (sendPart s x.1 n j [] [] true) (newRed s x.1 (some j) (n + 1))) s (openReds s die)
  let cut := s.rau.cutSplits
  let s := forEach (fun s (x : Nat × Nat) => match blockEntry s x.1 with
    | some e =>
      if (blk s e.block).ready ≠ x.2 then s
      else
        let s := forEach (fun s d => dropCleared s e x.2 d) s (contributors s e)
        skipBlock { s with rau := { s.rau with parts := s.rau.parts.filter (fun p => p.block ≠ e.block || p.step ≠ x.2) } } e x.2
    | none => s) { s with rau := { s.rau with cutSplits := [] } } cut
  advanceBlocks s

/-- A run of steps begins with step `n`: every block stands there (R402). -/
def rewindBlocks (s : State) (n : Nat) : State :=
  { s with rau := { s.rau with
      base := n, blocks := [], reds := [], parts := [], results := [], seen := [], policies := [], cutSplits := [], own := none, level := 0,
      cbuf := s.rau.cbuf.filter (fun c => decide (n ≤ c.2.step)), recs := s.rau.recs.filter (fun r => decide (n ≤ r.1)),
      closed := n, window := n, gen := n, paramGot := [] } }

end Sys2Proof.Machine
end

