-- ==== Sys2Proof/Machine/Params.lean ====
section
/-! DEFINITION. Parameter blocks arriving: where they go, when they may be placed, and the parameter bits (R21, R374 to R376, R427). -/

namespace Sys2Proof.Machine

/-! ## Parameter blocks (R374 to R376) -/

/-- A code widened to BF16 (R375, R79, R81). -/
def widenCode (fmt : Nat) (e : Int) (scale c : Nat) : Nat :=
  let v := match fmt with
    | 6 => fvScale e (e4m3Val c)
    | 7 => fvScale e (e5m2Val c)
    | _ => e2m1Val (c % 16) scale
  (toIeee lBF16 .ne v).1

/-- Codes as they lie in memory from an even element index on: bytes, or two E2M1 codes to a byte (R78). -/
def packCodes (fmt : Nat) (cs : List Nat) : List Byte :=
  if fmt = 8 then (chunksOf 2 cs).flatMap (fun p => leBytes 1 (p.getD 0 0 % 16 + 16 * (p.getD 1 0 % 16))) else leAll 1 cs

/-- Bytes of the codes before element `i`. -/
def codeOffset (fmt i : Nat) : Nat := if fmt = 8 then (i + 1) / 2 else i

/-- One PARAM message written as a map entry directs: destination kind, frond, address (R375, R376); the RAU partition and the page table take no such write (R268, R386). -/
def putParam (s : State) (m : ParamMsg) (n dest frond addr : Nat) : State :=
  let e := toSigned 8 m.e
  let arrival (s : State) (put : State → Nat → List Byte → State) (a : Nat) : State :=
    let s := put s (a + codeOffset m.fmt m.offset) (packCodes m.fmt m.codes)
    if m.fmt = 8 then put s (a + codeOffset 8 n + m.offset / 32) (leAll 1 m.scales) else s
  let store (s : State) (a : Nat) (bs : List Byte) : State := cntAdd (setBytes s (storeBase frond + a) bs) 25 bs.length
  let mem (s : State) (a : Nat) (bs : List Byte) : State :=
    let c := writeCause s false a bs.length
    if c ≠ 0 then violation s 3 a (selfId s) true c else (devWrite s a bs).getD s
  match dest with
  | 0 => store s (addr + 2 * m.offset)
      (leAll 2 (m.codes.zipIdx.map (fun c => widenCode m.fmt e (m.scales.getD (c.2 / 32) 0) c.1)))
  | 1 => arrival s store addr
  | _ => arrival (mem s addr (leBytes 1 m.fmt ++ leBytes 1 m.e ++ leBytes 2 0 ++ leBytes 4 n ++ leBytes 56 0)) mem (addr + 64)

/-- Frond `f` runs its list or work of it. -/
def frondBusy (s : State) (f : Nat) : Bool := rb s (R.FRD_PLAN_STATUS f) F.FRD_PLAN_STATUS_running || issuedWork s f

/-- Frond `f` still does work of step `n` or an earlier one. -/
def usesStep (s : State) (f n : Nat) : Bool := decide ((frondOf s f).step ≤ n) && frondBusy s f

/-- A PARAM message of step n may be placed: the step's barrier has completed here, which cleared the parameter bits, no frond goes on with
products of step n or an earlier one, and none that runs has the entry's bit set, by which its products may read what the message would
replace (R21, R374; DEDUCED, log 114). -/
def mayPlace (s : State) (m : ParamMsg) : Bool :=
  decide ((m.step + 1) % 2 ^ 48 ≤ s.seq.barrier)
    && ((paramEntries s).filter (fun x => x.1 = m.block)).all (fun x =>
      (entryFronds s x).all (fun f => (!usesStep s f m.step || decide (m.step + 1 = 2 ^ 48))
        && !(bitOf x.2.2.2.1 15 && sbBit s f (x.2.2.2.1 % 1024) && frondBusy s f)))

/-- Place a PARAM message of a block of `n` elements, and set the parameter bits once the block is whole (R374, R427). -/
def placeParam (s : State) (m : ParamMsg) (n : Nat) : State :=
  let es := (paramEntries s).filter (fun x => x.1 = m.block)
  let s := forEach (fun s (x : Nat × Nat × Nat × Nat × Nat) => putParam s m n x.2.1 x.2.2.1 x.2.2.2.2) s es
  let old := ((s.rau.paramGot.find? (fun g => g.1 = m.block && g.2.1 = m.step)).map (·.2.2)).getD 0
  let rest := s.rau.paramGot.filter (fun g => g.1 ≠ m.block || g.2.1 ≠ m.step)
  let got := old + m.codes.length
  if n ≤ got then
    setParamBits { s with rau := { s.rau with paramGot := rest, arrived := alSet s.rau.arrived m.block ((m.step + 1) % 2 ^ 48) } } m.block
  else { s with rau := { s.rau with paramGot := (m.block, m.step, got) :: rest } }

/-- A PARAM message is received (R374, R427): counted, then placed, or held until it may be. -/
def acceptParam (s : State) (m : ParamMsg) : State :=
  match blockEntry s m.block with
  | none => bump s (R.RAU_UNMAPPED_CNT 0) 1
  | some e =>
    let s := bump s (R.RAU_BYTES_IN e.die) (rauBytes (.param m))
    if !(paramEntries s).any (fun x => x.1 = m.block) then (if m.last then bump s (R.RAU_UNMAPPED_CNT e.die) 1 else s)
    else if mayPlace s m then placeParam s m e.nElem
    else { s with rau := { s.rau with paramHeld := s.rau.paramHeld ++ [m] } }

/-- Place the held PARAM messages that may now be placed, in order of arrival. -/
def pumpParams (s : State) : State :=
  let go := s.rau.paramHeld.filter (mayPlace s)
  if go.isEmpty then s
  else
    let s := { s with rau := { s.rau with paramHeld := s.rau.paramHeld.filter (fun m => !mayPlace s m) } }
    forEach (fun s m => match blockEntry s m.block with
      | some e => placeParam s m e.nElem
      | none => s) s go

end Sys2Proof.Machine
end

