-- ==== Sys2Proof/Machine/BurstCode.lean ====
section
/-! DEFINITION. The burst code of a stack, RS(72,64) over GF(2^8), and the words a row cache protects (R329, R332, R333, R336). -/

namespace Sys2Proof.Machine

/-! ## GF(2^8) with field polynomial 0x11D (R332) -/

/-- The product of `a` and the low `k` bits of `b`. -/
def gfMulBits : Nat → Nat → Nat → Nat
  | 0, _, _ => 0
  | k + 1, a, b => (if b % 2 = 1 then a else 0) ^^^ gfMulBits k (if 128 ≤ a then 2 * a ^^^ 0x11D else 2 * a) (b / 2)

def gfMul (a b : Nat) : Nat := gfMulBits 8 a b

/-- Power `k` of the element 2. -/
def gfPow : Nat → Nat
  | 0 => 1
  | k + 1 => gfMul (gfPow k) 2

/-! ## The code (R332) -/

/-- Symbols 0 to 63 of a line: symbol j holds the 8 beats of pin j, and beat b carries bytes 8b to 8b + 7, byte by byte from pin 0 up
(DESIGN CHOICE, log 120). -/
def lineSymbols (bs : List Byte) : List Nat :=
  (List.range 64).map (fun j => ((List.range 8).map (fun b => if (bs.getD (8 * b + j / 8) 0).toNat.testBit (j % 8) then 2 ^ b else 0)).sum)

/-- Coefficients of the product of (x − 2^i) for i below `k`, highest power first (DESIGN CHOICE, log 120). -/
def codeGen : Nat → List Nat
  | 0 => [1]
  | k + 1 => List.zipWith (fun a b => a ^^^ b) (codeGen k ++ [0]) (0 :: (codeGen k).map (gfMul (gfPow k)))

/-- The 8 check symbols of 64 data symbols: the remainder of data(x) · x^8 by the generator. -/
def checkSymbols (data : List Nat) : List Nat :=
  data.foldl (fun r d =>
    let f := d ^^^ r.headD 0
    List.zipWith (fun x g => x ^^^ gfMul f g) (r.drop 1 ++ [0]) ((codeGen 8).drop 1)) (List.replicate 8 0)

/-- The 72 symbols of a line as its burst carries them: pins 64 to 71 carry the check symbols. -/
def burstSymbols (bs : List Byte) : List Nat := lineSymbols bs ++ checkSymbols (lineSymbols bs)

/-- The 8 syndromes of 72 symbols: the values at the generator's zeros. -/
def syndromes (w : List Nat) : List Nat := (List.range 8).map (fun i => w.foldl (fun a c => gfMul a (gfPow i) ^^^ c) 0)

/-- The 72 symbols that errors add to a burst. -/
def errorWord (errs : List (Nat × Nat)) : List Nat :=
  (List.range 72).map (fun j => (errs.filter (fun e => e.1 = j)).foldl (fun a e => a ^^^ e.2) 0)

/-- What the decoder makes of a burst (R333). -/
inductive ReadFate where
  | good
  /-- The pins whose symbols it corrects. -/
  | corrected (symbols : List Nat)
  | uncorrectable
  deriving DecidableEq, Repr

/-- The decoder: any 4 erroneous symbols, or the marked pin's as an erasure with any 3 others (R333, R336). The code is linear, so it
sees the errors alone, by their syndromes; it corrects no pattern beyond that bound (DESIGN CHOICE, log 120). -/
def decodeBurst (marked : Option Nat) (errs : List (Nat × Nat)) : ReadFate :=
  let w := errorWord errs
  let bad := (List.range 72).filter (fun j => decide (w.getD j 0 ≠ 0))
  let others := bad.filter (fun j => decide (marked ≠ some j))
  if (syndromes w).all (fun x => decide (x = 0)) then .good
  else if others.length ≤ (if marked.isSome then 3 else 4) then .corrected bad
  else .uncorrectable

/-- A line as a burst read as good delivers it: errors that are a codeword of their own go unseen. -/
def burstBytes (bs : List Byte) (errs : List (Nat × Nat)) : List Byte :=
  if errs.isEmpty then bs
  else
    let w := errorWord errs
    bs.zipIdx.map (fun x => x.1 ^^^ BitVec.ofNat 8 (((List.range 8).map (fun k =>
      if (w.getD (8 * (x.2 % 8) + k) 0).testBit (x.2 / 8) then 2 ^ k else 0)).sum))

/-! ## Words of the row cache (R329) -/

/-- A word whose codeword has more than one flipped bit cannot be corrected. -/
def wordLost (flips : List (Nat × Nat)) (w : Nat) : Bool := decide (2 ≤ (flips.filter (fun b => b.1 = w)).length)

/-- A cached line has a word with an uncorrectable error. -/
def lineLost (flips : List (Nat × Nat)) : Bool := (List.range 8).any (wordLost flips)

end Sys2Proof.Machine
end

