-- ==== Sys2Proof/Machine/Rebuild.lean ====
section
/-! DEFINITION. Rebuilding rows and parity slots, degraded reads, lost rows (R520 to R531). -/

namespace Sys2Proof.Machine

/-! ## Where pieces are -/

/-- Every surviving member of a lost device's group has sent DONE for it; of a device in no group none is outstanding (R525). -/
def allDone (s : State) (d : Nat) : Bool :=
  match groupOf s d with
  | none => true
  | some (_, ms, _) => ms.all (fun m => isLost s m || s.recov.dones.contains (d, m))

/-- The slot whose piece of `d` is named by a key has been rebuilt into this device's spare slot (R523). The key of a parity
slot holds its stripe number as the row. -/
def sparedHere (s : State) (d : Nat) (key : SlotKey) (parity : Bool) : Bool := s.recov.spared.contains (d, key, parity)

/-- Rows of a table's stored or remainder part on one owner. -/
def partRows (d : List Byte) (rem : Bool) : Nat := if rem then (if dComp d then dRemRows d else 0) else rowBound d

/-- Member `dev` holds the row of a key: it owns the table, and the row lies below the table's row bound. Other places of a stripe hold no
row and count as zeros (R511, R512). -/
def rowThere (s : State) (dev : Nat) (key : SlotKey) : Bool :=
  match newestVersion s key.table with
  | some v => v.owners.contains dev && decide (key.row < partRows v.desc key.rem)
  | none => false

/-- A row of a member can be had from this device (R523, R527): a live member has its own, a lost one's is read from its server, or from
this device's spare slot when this device is the stripe's spare holder `t`. -/
def rowAtDev (s : State) (d t : Nat) (key : SlotKey) : Option Nat :=
  if !isLost s d then some d
  else if isLost s t then none
  else if t = selfId s then (if sparedHere s d key false then some t else none)
  else serverOf s d

/-- The parity of a stripe can be had from this device: the holder, or the stand-in `t` of a lost one (R522, R527). -/
def parityAtDev (s : State) (h t : Nat) (key : SlotKey) : Option Nat :=
  if !isLost s h then some h
  else if isLost s t || (t = selfId s && !sparedHere s h key true) then none
  else some t

/-- A piece of member `d` is unavailable as far as this device knows: `d` is lost, and so is the stripe's spare holder `t`, or it is this
device and has not rebuilt the piece. Another spare holder reports the pieces it cannot rebuild (R527; DESIGN CHOICE, log 147). -/
def pieceGone (s : State) (d t : Nat) (key : SlotKey) (parity : Bool) : Bool :=
  isLost s d && (isLost s t || (decide (t = selfId s) && !sparedHere s d key parity))

/-- The stripe of a spared piece: stripe number, parity holder, spare holder (R510). -/
def sparedStripe (s : State) (p : Nat × SlotKey × Bool) : Option (Nat × Nat × Nat) :=
  match groupOf s p.1 with
  | none => none
  | some (k, ms, i) =>
    if p.2.2 then (ms.findIdx? (fun d => d = selfId s)).map (fun t => (p.2.1.row, i, t))
    else let x := locate i p.2.1.row k
      some (p.2.1.row / (k * (k + 1)), x.h, x.s)

/-- This device's spare slot for a stripe of a table part already holds a rebuilt piece (R528). -/
def spareTaken (s : State) (table : Nat) (rem : Bool) (stripe : Nat × Nat × Nat) : Bool :=
  s.recov.spared.any (fun p => p.2.1.table = table && p.2.1.rem = rem && sparedStripe s p = some stripe)

/-- A row is lost under R527 and not restored (R531). -/
def rowLost (s : State) (own : Nat) (key : SlotKey) : Bool :=
  s.recov.lostRows.any (fun l => l.owner = own && l.table = key.table && l.rem = key.rem && decide (l.first ≤ key.row)
    && decide ((key.row - l.first) % l.stride = 0) && decide ((key.row - l.first) / l.stride < l.count)
    && !l.restored.contains key.row)

/-- A row of a role of this device left the lost state by a restore (R531). -/
def rowRestored (s : State) (own : Nat) (key : SlotKey) : Bool :=
  s.recov.lostRows.any (fun l => l.owner = own && l.table = key.table && l.rem = key.rem && l.restored.contains key.row)

/-! ## Asking for pieces (R521, R522) -/

def findRebuild (s : State) (subject : Nat) (key : SlotKey) (parity : Bool) : Option Rebuild :=
  s.recov.rebuilds.find? (fun r => r.subject = subject && r.key = key && r.parity = parity)

def modRebuild (s : State) (subject : Nat) (key : SlotKey) (parity : Bool) (f : Rebuild → Rebuild) : State :=
  { s with recov := { s.recov with rebuilds := s.recov.rebuilds.map (fun r =>
      if r.subject = subject ∧ r.key = key ∧ r.parity = parity then f r else r) } }

/-- The lost members that hold a content piece of the stripe of a row: the parity holder, then owners of its data rows, the row's own first
(R527, R530). -/
def stripeLost (s : State) (own : Nat) (key : SlotKey) : List Nat :=
  match groupOf s own with
  | none => []
  | some (k, ms, i) =>
    let x := locate i key.row k
    let q := key.row / (k * (k + 1))
    let rows := (dataMembers k x.h x.s).filter (fun m => m ≠ i && rowThere s (ms.getD m 0) { key with row := stripeRow k q x.h x.s m })
    (own :: ms.getD x.h 0 :: rows.map (fun m => ms.getD m 0)).filter (isLost s)

/-- The pieces of a missing data row and who is asked for them: parity first, then the other data rows there are; none when one of them is
unavailable too (R521, R527). A PIECE_RD names the missing row, but for the row of another lost member, which its server is asked for by its
own name (DEDUCED, log 15). -/
def dataPieces (s : State) (subject : Nat) (key : SlotKey) : Option (PieceAsk × List PieceAsk) :=
  match groupOf s subject with
  | none => none
  | some (k, ms, i) =>
    let x := locate i key.row k
    let q := key.row / (k * (k + 1))
    let t := ms.getD x.s 0
    let at_ (m : Nat) : SlotKey := { key with row := stripeRow k q x.h x.s m }
    let others := (dataMembers k x.h x.s).filter (fun m => m ≠ i && rowThere s (ms.getD m 0) (at_ m))
    let ask (m : Nat) : Option PieceAsk := (rowAtDev s (ms.getD m 0) t (at_ m)).map (fun d =>
      if isLost s (ms.getD m 0) then (d, ms.getD m 0, at_ m) else (d, subject, key))
    match parityAtDev s (ms.getD x.h 0) t { key with row := q }, others.mapM ask with
    | some p, some ds => some ((p, subject, key), ds)
    | _, _ => none

/-- The members whose rows a parity slot protects, with their rows: those of the stripe that there are (R512). -/
def slotRows (s : State) (k : Nat) (ms : List Nat) (h sp q table : Nat) (rem : Bool) : List (Nat × Nat) :=
  ((dataMembers k h sp).map (fun m => (ms.getD m 0, stripeRow k q h sp m))).filter (fun x => rowThere s x.1 ⟨table, rem, x.2⟩)

/-- Ask for a piece. -/
def askPiece (s : State) (a : PieceAsk) : State := sendMsg s a.1 (.pieceRd a.2.1 (selfId s) a.2.2)

/-- Register the FWD copies a served PIECE_RD starts, once. -/
def addForward (s : State) (f : Forward) : State :=
  if s.recov.forwards.contains f then s else { s with recov := { s.recov with forwards := s.recov.forwards ++ [f] } }

/-- Lost rows of a member that this device serves: recorded and reported (R529, R530). -/
def loseRows (s : State) (own : Nat) (key : SlotKey) (stride count : Nat) : State :=
  if rowLost s own key then s
  else
    let ds := stripeLost s own key
    let s := { s with recov := { s.recov with lostRows := s.recov.lostRows ++ [⟨own, key.table, key.rem, key.row, stride, count, []⟩] } }
    rollbackRecord s 1 1 (key.table + b2n key.rem <<< 12) own key.row stride count (s.stepCtr - 1) (ds.getD 0 0 + ds.getD 1 0 <<< 16)

/-- A row of `own` can no longer be rebuilt: it is lost (R527). The device that serves it records it; another tells that one by a STOPPED
without a STOP (DESIGN CHOICE, log 147). -/
def loseRow (s : State) (own : Nat) (key : SlotKey) : State :=
  match groupOf s own with
  | none => s
  | some (k, _, _) =>
    if (rolesOf s).contains own then loseRows s own key (k * (k + 1)) 1
    else match serverOf s own with
      | some d => sendMsg s d (.stopped own (selfId s) key)
      | none => s

/-- Start the rebuild of a data row at this target (R521): the parity holder is asked first. A row that cannot be rebuilt is lost (R527). -/
def startRebuild (s : State) (subject : Nat) (key : SlotKey) (demand : Bool) : State :=
  match findRebuild s subject key false with
  | some _ => if demand then modRebuild s subject key false (fun r => { r with demand := true }) else s
  | none =>
    if rowLost s subject key then s
    else match dataPieces s subject key with
      | some (p, _) =>
        let r : Rebuild := ⟨subject, key, false, 0, [p], [], [], [], demand, false⟩
        askPiece { s with recov := { s.recov with rebuilds := s.recov.rebuilds ++ [r] } } p
      | none => loseRow s subject key

/-- Start the rebuild of a parity slot of a lost holder at its stand-in (R522): the data rows there are are asked. The key of the
rebuild holds the slot's stripe number as its row; each PIECE_RD names the asked owner as its subject and a row of that owner
(DEDUCED, log 15). -/
def startParityRebuild (s : State) (holder : Nat) (table : Nat) (rem : Bool) (q : Nat) : State :=
  match groupOf s holder with
  | none => s
  | some (k, ms, h) =>
    match ms.findIdx? (fun d => d = selfId s) with
    | none => s
    | some sp =>
      let rows := slotRows s k ms h sp q table rem
      let key : SlotKey := ⟨table, rem, q⟩
      if (findRebuild s holder key true).isSome || rows.isEmpty || rows.any (fun x => isLost s x.1) then s
      else
        let slot := q * (k + 1) + ((sp + (k + 2) - h) % (k + 2)) - 1
        let asks : List PieceAsk := rows.map (fun x => (x.1, x.1, ⟨table, rem, x.2⟩))
        let s := { s with recov := { s.recov with
          rebuilds := s.recov.rebuilds ++ [⟨holder, key, true, slot, asks, [], [], [], false, false⟩] } }
        forEach askPiece s asks

/-! ## Shares of a target (R525) -/

/-- First row from `c` on, of those of member `i`, whose spare holder is member `t`. -/
def nextSpareRow (k i t c bound : Nat) : Option Nat :=
  ((List.range (k * (k + 1))).map (c + ·)).find? (fun l => decide (l < bound) && decide ((locate i l k).s = t))

/-- The next piece of a share at or after its place: the rows of each table in ascending order, then its parity slots. -/
def nextPiece (s : State) (k i t : Nat) (x : Share) : List (Nat × List Byte) → Option Share
  | [] => none
  | (id, d) :: ts =>
    let try1 (rem par : Bool) (c : Nat) : Option Share :=
      if par then
        if c * (k * (k + 1)) < partRows d rem then some ⟨x.subject, id, rem, true, c⟩ else none
      else (nextSpareRow k i t c (partRows d rem)).map (fun l => ⟨x.subject, id, rem, false, l⟩)
    let order := [(false, false), (false, true), (true, false), (true, true)]
    let pos (rem par : Bool) : Nat := 2 * b2n rem + b2n par
    if id < x.table then nextPiece s k i t x ts
    else match order.findSome? (fun (o : Bool × Bool) =>
        if id = x.table ∧ pos o.1 o.2 < pos x.rem x.parity then none
        else try1 o.1 o.2 (if id = x.table ∧ pos o.1 o.2 = pos x.rem x.parity then x.next else 0)) with
      | some y => some y
      | none => nextPiece s k i t x ts

/-- Start the rebuild of the piece a share stands at, unless its spare slot already holds another piece (R525, R528). -/
def startPiece (s : State) (y : Share) : State :=
  match groupOf s y.subject with
  | none => s
  | some (k, ms, i) =>
    let stripe : Nat × Nat × Nat :=
      if y.parity then (y.next, i, (ms.findIdx? (fun d => d = selfId s)).getD 0)
      else (y.next / (k * (k + 1)), (locate i y.next k).h, (locate i y.next k).s)
    if spareTaken s y.table y.rem stripe || (!y.parity && !rowThere s y.subject ⟨y.table, y.rem, y.next⟩) then s
    else if y.parity then startParityRebuild s y.subject y.table y.rem y.next
    else startRebuild s y.subject ⟨y.table, y.rem, y.next⟩ false

/-- Go on with this target's share of a lost device until a rebuild of it is in flight; `none` when the share is complete (R525;
fuel: pieces). -/
def shareLoop (k i t : Nat) : Nat → State → Share → State × Option Share
  | 0, s, _ => (s, none)
  | fuel + 1, s, x =>
    match nextPiece s k i t x (storageTables s) with
    | none => (s, none)
    | some y =>
      let s := startPiece s y
      let y' := { y with next := y.next + 1 }
      if (findRebuild s y.subject ⟨y.table, y.rem, y.next⟩ y.parity).isSome then (s, some y') else shareLoop k i t fuel s y'

/-- Continue this target's share of a lost device, or flood DONE when it is complete (R525). -/
def runShare (flood : State → Notice → State) (s : State) (x : Share) : State :=
  let drop (s : State) : State := { s with recov := { s.recov with shares := s.recov.shares.filter (fun y => y.subject ≠ x.subject) } }
  match groupOf s x.subject with
  | none => drop s
  | some (k, ms, i) =>
    match ms.findIdx? (fun d => d = selfId s) with
    | none => drop s
    | some t =>
      let fuel := ((storageTables s).map (fun y => 2 * (partRows y.2 false + partRows y.2 true) + 4)).sum
      let r := shareLoop k i t fuel s x
      let s := drop r.1
      match r.2 with
      | some y => { s with recov := { s.recov with shares := s.recov.shares ++ [y] } }
      | none =>
        let s := { s with recov := { s.recov with dones := s.recov.dones ++ [(x.subject, selfId s)] } }
        flood s ⟨9, x.subject, selfId s, rf s R.DEV_REC_EPOCH F.DEV_REC_EPOCH_epoch, s.ft, 0⟩

/-! ## Reading rows (R524, R531) -/

/-- Some page of a row's parts is lost. -/
def rowPagesLost (s : State) (d : List Byte) (rem : Bool) (l : Nat) : Bool :=
  (rowParts s d rem l).any (fun p => anyLost s p.1 p.2)

/-- The member as whose copy a row is read: this device when it holds the row, else the member it stands for. -/
def readOwner (s : State) (owners : List Nat) (own : Nat) (rem : Bool) : Nat :=
  if rem && owners.contains (selfId s) then selfId s else own

/-- The spare slot on this device that a row of a lost member is read from (R523). -/
def spareAt (s : State) (own : Nat) (d : List Byte) (rem : Bool) (l : Nat) : Option Nat :=
  let key : SlotKey := ⟨storageOf d, rem, l⟩
  if own = selfId s || rowLost s own key || (findRebuild s own key false).isSome || !sparedHere s own key false then none
  else (groupOf s own).map (fun (x : Nat × List Nat × Nat) => spareAddr s x.1 key.table rem (locate x.2.2 l x.1).spare)

/-- The bytes of a row as its server reads it: lost rows as zeros, rows on lost pages and rows of a lost member from their
rebuilt copy; none when the row must first be rebuilt (R524). -/
def readRow (s : State) (own : Nat) (d : List Byte) (rem : Bool) (l : Nat) : Option (List Byte) :=
  let key : SlotKey := ⟨storageOf d, rem, l⟩
  let n := ((rowParts s d rem l).map (·.2)).sum
  if rowLost s own key then some (List.replicate n 0)
  else if own = selfId s && !rowPagesLost s d rem l then some (rowBytes s d rem l)
  else match findRebuild s own key false with
    | some r => if r.done then some ((r.acc ++ List.replicate n 0).take n) else none
    | none => (spareAt s own d rem l).map (fun a => bytesAt s a n)

/-- Ask for a row that readRow could not give (R524): this device rebuilds it when it is the target, else the target is asked.
The read is counted while the row is not known to have been rebuilt, but not again while the row it asked for is on its way (log 22). -/
def degradedRead (s : State) (own : Nat) (d : List Byte) (rem : Bool) (l : Nat) : State :=
  let key : SlotKey := ⟨storageOf d, rem, l⟩
  let asked := (findRebuild s own key false).any (·.demand)
  match groupOf s own with
  | none => s
  | some (k, ms, i) =>
    let t := ms.getD (locate i l k).s own
    let rebuilt := s.recov.given.contains (own, key) || s.recov.dones.contains (own, t)
    let s := if asked || rebuilt then s else bump s R.DEV_REC_DEGRADED_CNT 1
    if own = selfId s ∨ t = selfId s ∨ isLost s t then startRebuild s own key true
    else match findRebuild s own key false with
      | some _ => s
      | none =>
        let s := { s with recov := { s.recov with
          rebuilds := s.recov.rebuilds ++ [⟨own, key, false, 0, [(t, own, key)], [], [], [], true, false⟩] } }
        askPiece s (t, own, key)

/-! ## Rewriting a slot's parity (R531) -/

/-- The pieces from which the server of a restored row rewrites its slot's parity: the parity, when its holder is there, and the other data
rows; its own row it has itself (R522, R531). -/
def rewriteAsks (s : State) (own : Nat) (key : SlotKey) : Option (List PieceAsk) :=
  match groupOf s own with
  | none => none
  | some (k, ms, i) =>
    let x := locate i key.row k
    let q := key.row / (k * (k + 1))
    let rows := (dataMembers k x.h x.s).map (fun m => (m, ms.getD m 0, { key with row := stripeRow k q x.h x.s m }))
    let ask (r : Nat × Nat × SlotKey) : Option PieceAsk :=
      if r.2.1 = selfId s then some (r.2.1, r.2.1, r.2.2)
      else if !isLost s r.2.1 then some (r.2.1, own, key) else (serverOf s r.2.1).map (fun d => (d, r.2.1, r.2.2))
    if isLost s (ms.getD x.h 0) then none
    else ((rows.filter (fun r => r.1 ≠ i && rowThere s r.2.1 r.2.2)).mapM ask).map (fun as => (ms.getD x.h 0, own, key) :: as)

/-- A row has been restored: the parity of its slot is rewritten, so that it is the XOR of the data rows again (R531); the pieces are asked
and kept exact as a rebuild's are (R521). -/
def startRewrite (s : State) (own : Nat) (key : SlotKey) (bs : List Byte) : State :=
  match rewriteAsks s own key with
  | none => s
  | some asks =>
    let mine (r : Rewrite) : Bool := r.own = own && r.key = key
    let s := { s with recov := { s.recov with rewrites := s.recov.rewrites.filter (fun r => !mine r) ++ [⟨own, key, asks, [], [], bs⟩] } }
    forEach askPiece (addForward s ⟨own, own, selfId s, key, key, false⟩) asks

/-- Where a commit of a row writes its record: the row's own places, or the spare slot on this device or on its target
(R523). -/
def commitPlaces (s : State) (own : Nat) (d : List Byte) (rem : Bool) (l : Nat) : List (Nat × Nat) :=
  let ps := rowParts s d rem l
  if own = selfId s then ps
  else match groupOf s own with
    | none => ps
    | some (k, ms, i) =>
      let x := locate i l k
      let t := ms.getD x.s own
      let a := spareAddr s k (storageOf d) rem x.spare + (if t = selfId s then 0 else (t + 1) * 2 ^ 48)
      (ps.foldl (fun (acc : Nat × List (Nat × Nat)) p => (acc.1 + p.2, acc.2 ++ [(a + acc.1, p.2)])) (0, [])).2

end Sys2Proof.Machine
end

