-- ==== Sys2Proof/Machine/TierOps.lean ====
section
/-! DEFINITION. The migration protocol of the tier manager (R287 to R299, R304, R305). -/

namespace Sys2Proof.Machine

/-- Precedence of a migration kind, 1 highest (R287). -/
def MigKind.prec : MigKind → Nat
  | .evacuate => 1
  | .demand => 2
  | .rebuild => 3
  | .revoke => 4
  | .demote => 5
  | .promote => 6
  | .rebalance => 7

/-- Migrations allowed at once (TIER_CTL.max_active; values outside 1 to 32 act as 32). -/
def maxActive (s : State) : Nat :=
  let m := rf s R.TIER_CTL F.TIER_CTL_max_active
  if 1 ≤ m ∧ m ≤ 32 then m else 32

/-- Pages with a tier of 3. -/
def lostPages (s : State) : List Nat := (ptPages s).filterMap (fun x => if pteTier x.2 = 3 then some x.1 else none)

/-- T2 pages held in a source. -/
def pagesIn (s : State) (k : Nat) : List Nat :=
  (ptPages s).filterMap (fun x => if pteTier x.2 = 2 ∧ pteSource x.2 = k then some x.1 else none)

/-- Grant slots being revoked, as sources. -/
def revoking (s : State) : List Nat :=
  (List.range 16).filter (fun k => match s.tier.sources[k]? with
    | some x => x.state = 2
    | none => false)

/-- The bound of R283. -/
def demoteBound (s : State) : Nat := match s.tier.policy with
  | none => 0
  | some p => p.demoteThr + s.tier.boundRise

/-- A page the scanner may select for demotion (R283). -/
def demotable (s : State) (p : Nat) : Bool :=
  let e := pte s p
  pteTier e = 1 && pteCovered e && !ptePin e && decide (effHeat e (heatEpoch s % 256) ≤ demoteBound s) && (migOf s p).isNone

/-- A frame for a page that must leave its own: T1 by R282, else T2 when the page may be there. -/
def anyPlace (s : State) (p : Nat) : Option Place :=
  match chooseT1 s (fun _ => true) with
  | some x => some x
  | none => if pteCovered (pte s p) && !ptePin (pte s p) then chooseT2 s p else none

/-- A frame for a page of a grant being revoked (R276). -/
def revokePlace (s : State) (p : Nat) : Option Place :=
  match choosePlace s p (pteCovered (pte s p)) with
  | some x => some x
  | none => anyPlace s p

/-- The page a DEMAND promotion demotes to get a T1 frame, with its destination (R288): none while one is being demoted. -/
def demandVictim (s : State) : Option (Nat × Place) :=
  if !rb s R.TIER_CTL F.TIER_CTL_mig_en || s.tier.migs.any (fun m => decide (m.kind = .demote)) then none
  else ((ptPages s).map (·.1)).findSome? (fun p =>
    if demotable s p && !s.tier.abandoned.contains p then (chooseT2 s p).map (fun x => (p, x)) else none)

/-- A page has no migration and was not abandoned in this heat epoch (R289). -/
def unmoved (s : State) (p : Nat) : Bool := (migOf s p).isNone && !s.tier.abandoned.contains p

/-- The rows of tables that lie in a page, with the part in the page: row, address, offset in the row record, length. -/
def pageRows (s : State) (p : Nat) : List (RowAt × Nat × Nat × Nat) :=
  (rowCuts s (p * 0x1_0000) 0x1_0001 0x1_0000).filterMap (fun c => c.1.map (fun r =>
    let before := ((rowParts s r.desc r.rem r.row).take r.part).map (·.2) |>.sum
    (r, c.2.1, before + (c.2.1 - r.base), c.2.2)))

/-- Their keys. -/
def pageKeys (s : State) (p : Nat) : List SlotKey :=
  ((pageRows s p).map (fun x => (⟨storageOf x.1.desc, x.1.rem, x.1.row⟩ : SlotKey))).eraseDups

/-- Every row of a lost page is rebuilt, or lost for good (R305, R531). -/
def pageReady (s : State) (p : Nat) : Bool :=
  (pageKeys s p).all (fun k => rowLost s (selfId s) k || match findRebuild s (selfId s) k false with
    | some r => r.done
    | none => false)

/-- Some row of a lost page has not been asked for. -/
def pageUnasked (s : State) (p : Nat) : Bool :=
  (groupOf s (selfId s)).isSome
    && (pageKeys s p).any (fun k => !rowLost s (selfId s) k && (findRebuild s (selfId s) k false).isNone)

/-- A migration of a kind waits that could start now: its page is free to move, its budget is not used up and a frame is there for
it (R287). A REBUILD whose rows are on their way has started (DEDUCED, log 83); REBALANCE has the lowest precedence. -/
def kindWaiting (s : State) (k : MigKind) : Bool :=
  match s.tier.policy with
  | none => false
  | some pol => match k with
    | .evacuate => s.tier.evacuate.any (fun p => (migOf s p).isNone && (anyPlace s p).isSome)
    | .demand => s.tier.demand.any (fun d => decide (pteTier (pte s d.1) = 2) && (migOf s d.1).isNone)
        && ((chooseT1 s (fun _ => true)).isSome || (demandVictim s).isSome)
    | .rebuild => (lostPages s).any (fun p => (migOf s p).isNone && (pageReady s p || pageUnasked s p)
        && (choosePlace s p (pteCovered (pte s p))).isSome)
    | .revoke => (revoking s).any (fun k => (pagesIn s k).any (fun p => unmoved s p && (revokePlace s p).isSome))
    | .demote => s.tier.demoting && decide (s.tier.demoted < pol.demoteBudget)
        && s.tier.demoteSel.any (fun p => demotable s p && unmoved s p && (chooseT2 s p).isSome)
    | .promote => decide (freeLow s < freeT1 s) && decide (s.tier.promoted < pol.promoteBudget)
        && s.tier.queue.any (fun p => decide (pteTier (pte s p) = 2) && unmoved s p) && (chooseT1 s (fun _ => true)).isSome
    | .rebalance => false

/-- A migration of a kind may start on a page: room for one more, no migration of the page, nothing of higher precedence
waiting, not abandoned this epoch (kinds 4 to 7), enabled (kinds 5 to 7), no quiesce, the device not failed (R19, R287 to R289,
R312). -/
def mayStart (s : State) (k : MigKind) (p : Nat) : Bool :=
  decide (s.tier.migs.length < maxActive s) && (migOf s p).isNone
    && (decide (k.prec ≤ 3) || !s.tier.abandoned.contains p)
    && (decide (k.prec ≤ 4) || rb s R.TIER_CTL F.TIER_CTL_mig_en)
    && !idleAsked s 0x30 && !failed s
    && !([MigKind.evacuate, .demand, .rebuild, .revoke, .demote, .promote].any (fun j => decide (j.prec < k.prec) && kindWaiting s j))

/-- Start a migration to a place (R292); pass 0 copies every line, a DEMAND's first row first (R291, R295). -/
def startMig (s : State) (k : MigKind) (p : Nat) (dst : Place) (first : List Nat) : State :=
  let e := pte s p
  let rest := (List.range 1024).filter (fun l => !first.contains l)
  let m : Migration := ⟨p, k, ptePlace e, dst, 0, first ++ rest, [], 0, [], first⟩
  let s := setPte s p (setBits e 41 1 1)
  tierPressure { s with tier := { s.tier with migs := s.tier.migs ++ [m] } }

/-- Ascending lines as runs: first line, number. -/
def lineRuns : List Nat → List (Nat × Nat)
  | [] => []
  | l :: ls => match lineRuns ls with
    | (f, n) :: rs => if l + 1 = f then (l, n + 1) :: rs else (l, 1) :: (f, n) :: rs
    | [] => [(l, 1)]

/-- Copy lines of a page between places, counting the bytes; peat is read and written over the bus (R275). -/
def copyLines (s : State) (src dst : Place) (ls : List Nat) : State :=
  forEach (fun s (r : Nat × Nat) =>
    let bs := bytesAt s (placeKey src + 64 * r.1) (64 * r.2)
    placeWrite (placeRead s src (64 * r.1) (64 * r.2)) dst (64 * r.1) bs) s (lineRuns ls)

/-- The lines of a page cannot be copied now, for a place that serves no access (R303, R349). -/
def copyWaits (s : State) (src dst : Place) : Bool := placeWaits s 0 0x1_0000 src || placeWaits s 0 0x1_0000 dst

/-- The count register of a migration kind. -/
def kindCount : MigKind → Option Nat
  | .promote => some R.TIER_PROMOTE_CNT
  | .demand => some R.TIER_DEMAND_CNT
  | .demote => some R.TIER_DEMOTE_CNT
  | .rebalance => some R.TIER_REBAL_CNT
  | .evacuate => some R.TIER_EVAC_CNT
  | .rebuild => none
  | .revoke => none

/-- Forget a page in the lists that asked for its migration, but for a DEMAND, which stands until the page is in T1 (R253, R291). -/
def dropRequests (s : State) (p : Nat) : State :=
  { s with tier := { s.tier with
      evacuate := s.tier.evacuate.filter (· ≠ p), queue := s.tier.queue.filter (· ≠ p)
      demoteSel := s.tier.demoteSel.filter (· ≠ p), poolMoves := s.tier.poolMoves.filter (· ≠ p) } }

/-- A DEMAND promotion of a page falls due (R253, R311). -/
def addDemand (s : State) (p : Nat) (first : List Nat) : State :=
  if s.tier.demand.any (fun d => d.1 = p) then s else { s with tier := { s.tier with demand := s.tier.demand ++ [(p, first)] } }

/-- A page's DEMAND is met, or the page is gone. -/
def dropDemand (s : State) (p : Nat) : State := { s with tier := { s.tier with demand := s.tier.demand.filter (·.1 ≠ p) } }

/-- Remove a migration and clear the page's mig bit. -/
def endMig (s : State) (p : Nat) : State :=
  let s := { s with tier := { s.tier with migs := s.tier.migs.filter (·.page ≠ p) } }
  setPte s p (setBits (pte s p) 41 1 0)

/-- Release the writes a final pass held, in the order they were held (R296, R297). -/
def releaseHeld (s : State) (ws : List HeldWrite) : State := forEach retryWrite s ws

/-- A revoked slot that holds no page any more: the command ends with OK and the slot is freed (R276). -/
def revokeDone (s : State) (k : Nat) : Bool :=
  (pagesIn s k).isEmpty && s.tier.migs.all (fun m => match m.dst with
    | .t2 j _ => j ≠ k
    | .t1 _ _ => true)

/-- A REVOKE_PEAT whose slot holds no page any more ends with OK, and the slot is free (R276). -/
def finishRevokes (s : State) : State :=
  forEach (fun s k =>
    let x := s.tier.sources.getD k {}
    if x.state = 2 ∧ revokeDone s k then
      let s := { s with tier := { s.tier with sources := modAt (fun _ => {}) s.tier.sources k } }
      match x.revokeCmd with
      | some i => finOk s i []
      | none => s
    else s) s (List.range 16)

/-- Pages have left their frames: revoked slots that are empty end, and waiting operations find the frames (R276, R302). -/
def pagesMoved (s : State) : State := framesFreed (finishRevokes s)

/-- Abandon a migration: held writes go to the source, the destination frame is free again, mig is cleared (R297, R299). -/
def abandonMig (s : State) (m : Migration) : State :=
  let s := endMig s m.page
  let s := { s with tier := { s.tier with abandoned := s.tier.abandoned ++ [m.page] } }
  let s := bump s R.TIER_ABANDON_CNT 1
  let s := flagEvent s R.TIER_FLAGS F.TIER_FLAGS_abandon (rb s R.TIER_CTL F.TIER_CTL_abandon_event_en) 128
  pagesMoved (releaseHeld s m.held)

/-- A page becomes lost (R305): it needs no move of its own any more (R306), a migration of it that has not flipped is abandoned
(R299), and the writes its final pass held wait for the rebuild (R300). -/
def losePage (s : State) (p : Nat) : State :=
  let lose (s : State) := dropRequests
    (setPte s p (setBits (setBits (setBits (setBits (pte s p) 43 2 3) 41 1 0) 36 4 0) 0 28 0)) p
  match migOf s p with
  | some m => releaseHeld (lose (abandonMig s { m with held := [] })) m.held
  | none => lose s

/-- PEAT_LOST: pages marked lost and counted, the flag set and the event raised (R305); the frames they leave are free (R301). -/
def losePages (s : State) (ps : List Nat) : State :=
  if ps.isEmpty then s
  else
    let s := forEach losePage s ps
    let s := bump s R.TIER_LOST_CNT ps.length
    let s := wf s R.TIER_FLAGS F.TIER_FLAGS_lost 1
    let s := wf s R.TIER_STATUS F.TIER_STATUS_rebuilding 1
    pagesMoved (evgFireIf s (rb s R.TIER_CTL F.TIER_CTL_lost_event_en) 130)

/-- The migration of a page is abandoned as it stands (R299). -/
def abandonPage (s : State) (p : Nat) : State := match migOf s p with
  | some m => abandonMig s m
  | none => s

/-- A source is lost: its pages become lost, migrations into it are abandoned, and its slot is free (R299, R303 to R305); a
REVOKE_PEAT of it ends, since the slot holds no page (R276). -/
def loseSource (s : State) (k : Nat) : State :=
  let into := s.tier.migs.filter (fun m => match m.dst with
    | .t2 j _ => j = k
    | .t1 _ _ => false)
  let s := forEach abandonPage s (into.map (·.page))
  let ps := pagesIn s k
  let cmd := (s.tier.sources.getD k {}).revokeCmd
  let s := { s with tier := { s.tier with
      sources := modAt (fun _ => {}) s.tier.sources k,
      draining := s.tier.draining.filter (fun d => match d.2 with
        | .t2 j _ => j ≠ k
        | .t1 _ _ => true) } }
  losePages (match cmd with
    | some i => finOk s i []
    | none => s) ps

/-- Every host grant is lost (R303). -/
def loseGrants (s : State) : State :=
  let s := forEach (fun s i => if (s.tier.sources.getD (4 + i) {}).state ≠ 0 then loseSource s (4 + i) else s) s (List.range 12)
  retryWaits (wf { s with tier := { s.tier with hostDownSince := none } } R.TIER_STATUS F.TIER_STATUS_host_down 0)

end Sys2Proof.Machine
end

