-- ==== Sys2Proof/Machine/Stacks.lean ====
section
/-! DEFINITION. Base dies: their reads and writes of lines (R331 to R337), the die-to-die link (R317 to R321), transactions and their
scheduler (R318, R322 to R325), patrol scrub (R338), row repair and frame retirement (R339 to R345). -/

namespace Sys2Proof.Machine

/-- Set a flag of STK_FLAGS with its event (source 120 + n). -/
def stkFlag (s : State) (n : Nat) (f en : Field) : State := flagEvent s (R.STK_FLAGS n) f (rb s (R.STK_CTL n) en) (120 + n)

/-! ## The scheduler's counts (R322, R331) -/

/-- A burst on a channel: a turn when the direction changes, a conflict when the bank holds another row (R331). -/
def burst (n : Nat) (write : Bool) (s : State) (off : Nat) : State :=
  let x := stackOf s n
  let c := channelOf off
  let b := bankOf off
  let s := if x.dirs.getD c false = write then s else bump s (R.STK_TURN_CNT n) 1
  let other := x.openRows.any (fun r => r.1 = c && r.2.1 = b && r.2.2 ≠ rowOf off)
  let s := if other then bump s (R.STK_CONFLICT_CNT n) 1 else s
  modStack s n (fun x => { x with
    dirs := modAt (fun _ => write) x.dirs c
    openRows := (c, b, rowOf off) :: x.openRows.filter (fun r => !(r.1 = c && r.2.1 = b)) })

/-- A burst with the bytes it moves counted (STK_RD_BYTES, STK_WR_BYTES, R627). -/
def dramBurst (n : Nat) (write : Bool) (s : State) (off : Nat) : State :=
  let s := if write then cntAdd (bump s (R.STK_WR_BYTES n) 64) 31 64 else cntAdd (bump s (R.STK_RD_BYTES n) 64) 30 64
  burst n write s off

/-! ## Row repair and retirement (R339 to R345) -/

/-- Spares a row address has used, and spares used in a bank. -/
def rowUse (x : Stack) (c f : Nat) : Nat := ((x.rowSpares.find? (fun r => r.1 = c && r.2.1 = f)).map (·.2.2)).getD 0
def bankUse (x : Stack) (c b : Nat) : Nat := ((x.bankSpares.find? (fun r => r.1 = c && r.2.1 = b)).map (·.2.2)).getD 0

/-- The covered page that lies on a T1 frame. -/
def pageOnFrame (s : State) (n f : Nat) : Option Nat :=
  ((ptPages s).find? (fun x => decide (x.1 < rangePages s) && decide (ptePlace x.2 = some (.t1 n f)))).map (·.1)

/-- An entry of the repair log (R345). -/
def logRepair (s : State) (n kind a b : Nat) : State := { s with mgt := { s.mgt with repairLog := s.mgt.repairLog ++ [(n, kind, a, b)] } }

/-- A row that can no longer be repaired: its T1 frame is retired, or the device fails (R342, R343). -/
def retireFrame (s : State) (n f : Nat) : State :=
  if s.tier.retired.contains (n, f) then s
  else if !inPool s n f ∨ 65536 ≤ (s.tier.retired.filter (fun r => r.1 = n)).length then enterFailed s 4
  else
    let s := { s with tier := { s.tier with
      retired := s.tier.retired ++ [(n, f)]
      evacuate := s.tier.evacuate ++ (match pageOnFrame s n f with
        | some p => [p]
        | none => []) } }
    let s := bump (logRepair s n 3 0xFF f) (R.STK_RETIRE_CNT n) 1
    tierPressure (stkFlag s n F.STK_FLAGS_retire F.STK_CTL_retire_event_en)

/-- Rows of a bank under repair, each of which takes a spare of it. -/
def bankFailing (x : Stack) (c b : Nat) : Nat := (x.failing.filter (fun r => r.1 = c && r.2 % 64 = b)).length

/-- A failing row goes into repair, or its frame is retired (R340 to R343). -/
def failRow (s : State) (n c f : Nat) : State :=
  let x := stackOf s n
  if x.failing.contains (c, f) ∨ s.tier.retired.contains (n, f) then s
  else if 2 ≤ rowUse x c f ∨ 16 ≤ bankUse x c (f % 64) + bankFailing x c (f % 64) then retireFrame s n f
  else modStack s n (fun x => { x with failing := x.failing ++ [(c, f)] })

/-- Fewest free spares of any bank. -/
def minFree (x : Stack) : Nat := 16 - ((x.bankSpares.map (·.2.2)).foldl max 0)

/-- A row address is redirected to a spare of its bank (R340, R341, R344). -/
def useSpare (s : State) (n c f : Nat) : State :=
  let b := f % 64
  let s := modStack s n (fun x => { x with
    rowSpares := (c, f, rowUse x c f + 1) :: x.rowSpares.filter (fun r => !(r.1 = c && r.2.1 = f))
    bankSpares := (c, b, bankUse x c b + 1) :: x.bankSpares.filter (fun r => !(r.1 = c && r.2.1 = b)) })
  let r := R.STK_SPARE n
  let free := minFree (stackOf s n)
  let s := wf (wf s r F.STK_SPARE_used (rf s r F.STK_SPARE_used + 1)) r F.STK_SPARE_min_free free
  if free ≤ 2 then stkFlag s n F.STK_FLAGS_spares_low F.STK_CTL_spares_event_en else s

/-- The copy into a spare row is done (R340, R341, R344). -/
def repairDone (s : State) (n c f : Nat) : State :=
  if !(stackOf s n).failing.contains (c, f) then s
  else
    let s := modStack s n (fun x => { x with failing := x.failing.erase (c, f) })
    if 16 ≤ bankUse (stackOf s n) c (f % 64) then retireFrame s n f
    else
      let s := bump (logRepair (useSpare s n c f) n 1 c f) (R.STK_REPAIR_CNT n) 1
      stkFlag s n F.STK_FLAGS_repair F.STK_CTL_repair_event_en

/-! ## The burst code (R333 to R337) -/

/-- Record the line of the last error (STK_ERR_ADDR). -/
def errAddr (s : State) (n off : Nat) (uncorr : Bool) (sym : Option Nat) : State :=
  let r := R.STK_ERR_ADDR n
  let s := wf (wf s r F.STK_ERR_ADDR_offset off) r F.STK_ERR_ADDR_uncorr (b2n uncorr)
  match sym with
  | some x => wf s r F.STK_ERR_ADDR_symbol x
  | none => s

/-- The mark of a channel's pin (R335). -/
def setMark (s : State) (n c pin : Nat) : State :=
  let r := R.STK_PIN_MARK n c
  let st := R.STK_STATUS n
  let s := wf (wf s r F.STK_PIN_MARK_valid 1) r F.STK_PIN_MARK_pin pin
  wf s st F.STK_STATUS_marked (rf s st F.STK_STATUS_marked + 1)

/-- A pin reaches the threshold: it is marked, or its channel is degraded (R335, R336). -/
def markPin (s : State) (n c pin : Nat) : State :=
  let r := R.STK_PIN_MARK n c
  let st := R.STK_STATUS n
  if !rb s r F.STK_PIN_MARK_valid then
    stkFlag (logRepair (setMark s n c pin) n 2 c pin) n F.STK_FLAGS_mark F.STK_CTL_mark_event_en
  else if rf s r F.STK_PIN_MARK_pin = pin ∨ rb s r F.STK_PIN_MARK_degraded then s
  else
    let s := wf s r F.STK_PIN_MARK_degraded 1
    stkFlag (wf s st F.STK_STATUS_degraded (rf s st F.STK_STATUS_degraded + 1)) n F.STK_FLAGS_degraded F.STK_CTL_degraded_event_en

/-- Count a corrected symbol of a pin in a DRAM row (R335). -/
def countPin (n c f : Nat) (s : State) (pin : Nat) : State :=
  let x := stackOf s n
  if x.pinRows.contains (c, pin, f) then s
  else
    let s := modStack s n (fun x => { x with pinRows := x.pinRows ++ [(c, pin, f)] })
    let k := ((stackOf s n).pinRows.filter (fun r => r.1 = c && r.2.1 = pin)).length
    if max 1 (rf s (R.STK_CTL n) F.STK_CTL_pin_thr) ≤ k then markPin s n c pin else s

/-- A read has found an uncorrectable line (R337). -/
def lineUncorrectable (s : State) (n off : Nat) : State :=
  let f := frameOf off
  let s := cntAdd (bump s (R.STK_UNCORR_CNT n) 1) 15 1
  let s := stkFlag (errAddr s n off true none) n F.STK_FLAGS_uncorr F.STK_CTL_uncorr_event_en
  let s := modStack s n (fun x => { x with poison := insertAsc (off / 64) x.poison })
  let s := match inPool s n f, pageOnFrame s n f with
    | true, none => s
    | true, some p => if pteCovered (pte s p) then losePages s [p] else enterFailed s 3
    | false, _ => enterFailed s 3
  failRow s n (channelOf off) f

/-- The marked pin of a channel (R335). -/
def markedPin (s : State) (n c : Nat) : Option Nat :=
  let r := R.STK_PIN_MARK n c
  if rb s r F.STK_PIN_MARK_valid then some (rf s r F.STK_PIN_MARK_pin) else none

/-- What the decoder makes of a read of a line with errors `errs`; a line that holds poison is uncorrectable whatever it meets. -/
def lineFate (s : State) (n off : Nat) (errs : List (Nat × Nat)) : ReadFate :=
  if (stackOf s n).poison.contains (off / 64) then .uncorrectable else decodeBurst (markedPin s n (channelOf off)) errs

/-- A write that has reached the base die and not executed touches the line of an offset. -/
def writeComes (s : State) (n off : Nat) : Bool :=
  (stackOf s n).waiting.any (fun q => q.sent && meets off 64 (txLines q.tx).1 (64 * (txLines q.tx).2) && (match q.tx with
    | .wr64 _ _ _ _ _ => true
    | .wr256 _ _ _ => true
    | _ => false))

/-- A line is corrected: recorded, counted, written back and read once more, unless a write to it comes between (R334, R335); the row
is failing when the re-read errs in a symbol of the same pin, other than the marked one's, or is uncorrectable (R339). -/
def lineCorrected (s : State) (n off : Nat) (symbols : List Nat) (again : List (Nat × Nat)) : State :=
  let c := channelOf off
  let s := cntAdd (bump s (R.STK_CORR_CNT n) 1) 14 1
  let s := stkFlag (errAddr s n off false symbols.getLast?) n F.STK_FLAGS_corr F.STK_CTL_corr_event_en
  let s := forEach (countPin n c (frameOf off)) s symbols
  if writeComes s n off then s
  else
    let s := dramBurst n false (dramBurst n true s off) off
    match lineFate s n off again with
    | .good => s
    | .corrected ps => if ps.any (fun p => symbols.contains p && decide (markedPin s n c ≠ some p)) then failRow s n c (frameOf off) else s
    | .uncorrectable => lineUncorrectable s n off

/-- What a read of a line meets: what it brings itself, else what errs in its cells (R332). -/
def metErr (s : State) (n off : Nat) (e : LineErr) : LineErr :=
  if e = .good then (((stackOf s n).errs.find? (fun x => x.1 = off / 64)).map (·.2)).getD .good else e

/-- A read of a line, its burst served: the state it leaves, and the bytes it delivers, none for POISON. The line it finds is written
back right, or holds poison, so that its cells err no more. -/
def lineRead (s : State) (n off : Nat) (e : LineErr) : State × Option (List Byte) :=
  let bs := bytesAt s (hbmBase n + off) 64
  let e := metErr s n off e
  let s := if (stackOf s n).errs.isEmpty then s else
    modStack s n (fun x => { x with errs := x.errs.filter (fun y => decide (y.1 ≠ off / 64)) })
  match lineFate s n off e.read with
  | .good => (s, some (burstBytes bs e.read))
  | .corrected ps => (lineCorrected s n off ps e.again, some bs)
  | .uncorrectable => (lineUncorrectable s n off, none)

/-- The lines of [off, off + n) of stack `k` that err or hold poison. -/
def badLines (s : State) (k off n : Nat) : List Nat :=
  let x := stackOf s k
  ((x.errs.map (·.1) ++ x.poison).eraseDups).filter (fun l => meets (64 * l) 64 off n)

/-- A read of lines of stack `k` other than a transaction meets what errs there: each is corrected, or found uncorrectable, which the flag
says (R334, R337). -/
def meetLines (s : State) (k : Nat) (ls : List Nat) : State × Bool :=
  ls.foldl (fun r l => let x := lineRead r.1 k (64 * l) .good
    (x.1, r.2 || x.2.isNone)) (s, false)

/-- The same for [off, off + n). -/
def meetErrors (s : State) (k off n : Nat) : State × Bool := meetLines s k (badLines s k off n)

/-- The same for [a, a + n) of the device space, where it lies in stacks. -/
def meetAt (s : State) (a n : Nat) : State := forEach (fun s g => (meetErrors s g.1 g.2.1 g.2.2).1) s (rawSegs s a n)

/-- An access of a unit of the device to [a, a + n) of raw HBM waits (R323, R340, R348, R349). -/
def rawWaits (s : State) (a n : Nat) : Bool := (rawSegs s a n).any (fun g => hbmWaits s g.1 g.2.1 g.2.2)

/-- Bytes of raw HBM read by a unit of the device, counted (R627). -/
def countRaw (s : State) (a n : Nat) : State := cntAdd (bumpStacks R.STK_RD_BYTES s a n) 30 n

/-- A unit of the device reads raw HBM: what errs there is met, the bytes are counted. -/
def rawRead (s : State) (a n : Nat) : State := countRaw (meetAt s a n) a n

/-! ## The link (R317, R319 to R321) -/

/-- The 72 bytes of a flit: header, payload and CRC-32C, low bytes first (R317; byte order DESIGN CHOICE, log 119). -/
def flitBytes (f : Flit) : List Byte :=
  let bs := leBytes 4 (f.kind <<< 28 + f.seq <<< 18 + f.tag <<< 8 + f.info) ++ (f.payload ++ List.replicate 64 0).take 64
  bs ++ leBytes 4 (crc32c bs)

/-- The flit of 72 bytes; none when its check fails or its kind is invalid (R317; an invalid kind is refused, DESIGN CHOICE, log
119). -/
def readFlit (bs : List Byte) : Option Flit :=
  let h := fieldAt bs 0 4
  if bs.length = 72 ∧ fieldAt bs 68 4 = crc32c (bs.take 68) ∧ bitsOf h 28 4 ≤ 5 then
    some ⟨bitsOf h 28 4, bitsOf h 18 10, bitsOf h 8 10, bitsOf h 0 8, (bs.drop 4).take 64⟩
  else none

/-- A link-control flit: ACK or NAK of a sequence number, which its payload carries in its first two bytes (log 119). -/
def controlFlit (nak : Bool) (seq : Nat) : Flit := ⟨4, 0, 0, if nak then 1 else 2, leBytes 2 seq⟩

def linkOf (x : Stack) (up : Bool) : D2DLink := if up then x.up else x.down
def modLink (s : State) (n : Nat) (up : Bool) (f : D2DLink → D2DLink) : State :=
  modStack s n (fun x => if up then { x with up := f x.up } else { x with down := f x.down })

/-- A flit leaves on the link of a stack. -/
def emitFlit (s : State) (n : Nat) (up : Bool) (f : Flit) : State := emit s (.flit n (.flit up (flitBytes f)))

/-- Send waiting flits while the link is trained and the retry buffer has room (fuel: flits waiting). -/
def flitPump (n : Nat) (up : Bool) : Nat → State → State
  | 0, s => s
  | k + 1, s =>
    let l := linkOf (stackOf s n) up
    match l.queued with
    | [] => s
    | f :: fs =>
      if 512 ≤ l.retry.length ∨ rb s (R.STK_STATUS n) F.STK_STATUS_retraining then s
      else
        let f := { f with seq := l.next }
        flitPump n up k (emitFlit (modLink s n up (fun l => { l with next := (l.next + 1) % 1024, retry := l.retry ++ [f], queued := fs })) n up f)

/-- Send flits in a direction. -/
def sendFlits (s : State) (n : Nat) (up : Bool) (fs : List Flit) : State :=
  let s := modLink s n up (fun l => { l with queued := l.queued ++ fs })
  flitPump n up (linkOf (stackOf s n) up).queued.length s

/-- A retrain begins (R320). -/
def startRetrain (s : State) (n : Nat) : State :=
  let s := wf (wf s (R.STK_STATUS n) F.STK_STATUS_retraining 1) (R.STK_STATUS n) F.STK_STATUS_link_up 0
  let s := emit (bump s (R.STK_RETRAIN_CNT n) 1) (.flit n .train)
  stkFlag s n F.STK_FLAGS_retrain F.STK_CTL_retrain_event_en

/-- A flit is refused: the expected sequence number is named in a NAK; the eighth refusal in a row retrains the link (R319, R320). -/
def refuseFlit (s : State) (n : Nat) (up : Bool) : State :=
  let l := linkOf (stackOf s n) up
  let s := emitFlit (modLink s n up (fun l => { l with discarding := true, refusals := l.refusals + 1 })) n (!up) (controlFlit true l.expected)
  if 8 ≤ l.refusals + 1 then startRetrain (modLink s n up (fun l => { l with refusals := 0 })) n else s

/-- The flit expected next is accepted; every 64 are acknowledged (R319). -/
def acceptFlit (s : State) (n : Nat) (up : Bool) : State :=
  let l := linkOf (stackOf s n) up
  let s := if l.discarding then
      stkFlag (bump s (R.STK_D2D_RETRY_CNT n) 1) n F.STK_FLAGS_retry F.STK_CTL_retry_event_en else s
  let ack := decide (64 ≤ l.sinceAck + 1)
  let s := modLink s n up (fun l => { l with
    expected := (l.expected + 1) % 1024, sinceAck := if ack then 0 else l.sinceAck + 1, discarding := false, refusals := 0 })
  if ack then emitFlit s n (!up) (controlFlit false l.expected) else s

/-! ## Transactions and their flits (R318) -/

/-- 64-byte payloads of bytes. -/
def payloads (kind tag : Nat) (bs : List Byte) : List Flit := (chunksOf 64 bs).zipIdx.map (fun c => ⟨kind, 0, tag, c.2, c.1⟩)

/-- A request head: the offset in payload bytes 0 to 7, the byte mask in bytes 8 to 15 (log 119). -/
def headFlit (tag type off mask : Nat) : Flit := ⟨1, 0, tag, type, leBytes 8 off ++ leBytes 8 mask⟩

/-- The flits of a transaction; a message of more than 16 data flits takes several MSG transactions (log 119). -/
def txFlits : StackTx → List Flit
  | .rd64 tag off _ => [headFlit tag 1 off 0]
  | .rd256 tag off _ => [headFlit tag 2 off 0]
  | .wr64 tag off mask bytes _ => headFlit tag 3 off mask :: payloads 2 tag ((bytes ++ List.replicate 64 0).take 64)
  | .wr256 tag off bytes => headFlit tag 4 off 0 :: payloads 2 tag ((bytes ++ List.replicate 256 0).take 256)
  | .msg m => (chunksOf 1024 (msgBytes 0 m)).flatMap (fun bs => headFlit 0 5 0 0 :: payloads 5 0 bs)

/-- The tag of a transaction; a MSG has no completion and holds none. -/
def txTag : StackTx → Option Nat
  | .rd64 tag _ _ => some tag
  | .rd256 tag _ _ => some tag
  | .wr64 tag _ _ _ _ => some tag
  | .wr256 tag _ _ => some tag
  | .msg _ => none

/-- The completion of a transaction: its reply, and its flits towards the compute die: the head with the status in its first payload
byte, then the data flits. -/
def reply (s : State) (n lines : Nat) (r : D2DReply) : State :=
  let head (tag status : Nat) : Flit := ⟨3, 0, tag, 0, leBytes 1 status⟩
  sendFlits (emit s (.d2d n r)) n true (match r with
    | .data tag status bytes => head tag status :: payloads 2 tag ((bytes ++ List.replicate (64 * lines) 0).take (64 * lines))
    | .written tag status => [head tag status]
    | .msg _ => [])

/-- An offset and alignment a transaction may have. -/
def offsetOk (off size : Nat) : Bool := decide (off % size = 0) && decide (off + size ≤ stackSize)

def txOk : StackTx → Bool
  | .rd64 _ off _ => offsetOk off 64
  | .rd256 _ off _ => offsetOk off 256
  | .wr64 _ off _ _ _ => offsetOk off 64
  | .wr256 _ off _ => offsetOk off 256
  | .msg _ => true

/-- A line with the bytes a mask selects replaced (R325). -/
def maskBytes (mask : Nat) (old new : List Byte) : List Byte := old.zipIdx.map (fun x => if mask.testBit x.2 then new.getD x.2 x.1 else x.1)

/-- The burst of line `i` of a transaction on its channel; a WR64 with a partial mask reads its line first (R325). -/
def txBurst (n : Nat) (t : StackTx) (s : State) (i : Nat) : State :=
  let narrow (s : State) : State := bump s (R.STK_NARROW_CNT n) 1
  match t with
  | .rd64 _ off _ => narrow (dramBurst n false s off)
  | .rd256 _ off _ => dramBurst n false s (off + 64 * i)
  | .wr64 _ off mask _ _ => narrow (dramBurst n true (if 2 ^ 64 - 1 ≤ mask then s else narrow (dramBurst n false s off)) off)
  | .wr256 _ off _ => dramBurst n true s (off + 64 * i)
  | .msg _ => s

/-- The lines of a RD256, read in turn. -/
def readLines (n off : Nat) (errs : List LineErr) (s : State) : State × Option (List Byte) :=
  (List.range 4).foldl (fun (x : State × Option (List Byte)) i =>
    let y := lineRead x.1 n (off + 64 * i) (errs.getD i .good)
    (y.1, match x.2, y.2 with
      | some a, some b => some (a ++ b)
      | _, _ => none)) (s, some [])

/-- What a transaction does once its bursts are served (R318, R324, R325). -/
def finishTx (s : State) (n : Nat) (t : StackTx) : State :=
  match t with
  | .rd64 tag off err =>
    if !txOk t then reply s n 1 (.data tag 2 [])
    else match lineRead s n off err with
      | (s, some bs) => reply s n 1 (.data tag 0 bs)
      | (s, none) => reply s n 1 (.data tag 1 [])
  | .rd256 tag off errs =>
    if !txOk t then reply s n 4 (.data tag 2 [])
    else match readLines n off errs s with
      | (s, some bs) => reply s n 4 (.data tag 0 bs)
      | (s, none) => reply s n 4 (.data tag 1 [])
  | .wr64 tag off mask bytes err =>
    let full := (bytes ++ List.replicate 64 0).take 64
    if !txOk t then reply s n 0 (.written tag 2)
    else if 2 ^ 64 - 1 ≤ mask then reply (hbmSet s (hbmBase n + off) full) n 0 (.written tag 0)
    else match lineRead s n off err with
      | (s, some old) => reply (hbmSet s (hbmBase n + off) (maskBytes mask old bytes)) n 0 (.written tag 0)
      | (s, none) => reply s n 0 (.written tag 1)
  | .wr256 tag off bytes =>
    if !txOk t then reply s n 0 (.written tag 2)
    else reply (hbmSet s (hbmBase n + off) ((bytes ++ List.replicate 256 0).take 256)) n 0 (.written tag 0)
  | .msg m => emit s (.d2d n (.msg m))

/-- The lines whose bursts a transaction needs. -/
def txNeeds (t : StackTx) : List Nat := if txOk t then List.range (txLines t).2 else []

/-- A transaction executes while the channels it needs are idle. -/
def runTx (s : State) (n : Nat) (t : StackTx) : State := finishTx (forEach (txBurst n t) s (txNeeds t)) n t

/-! ## The queues of the base die (R320, R322 to R324, R340, R348, R351) -/

/-- A line of a transaction lies in a row under repair or on a channel under margining (R340, R348). -/
def txBlocked (s : State) (n : Nat) (t : StackTx) : Bool :=
  (txNeeds t).any (fun i => let off := (txLines t).1 + 64 * i
    (stackOf s n).failing.contains (channelOf off, frameOf off) || channelBusy s n (channelOf off))

/-- The compute die may send a transaction: the base die accepts it, no older one waits for that, its tag is free, at most 1,024 are
outstanding, and the retry buffer has room for its flits (R317, R319, R349, R351). -/
def maySend (s : State) (n : Nat) (t : StackTx) : Bool :=
  let x := stackOf s n
  stackOpen s n && x.waiting.all (fun q => q.sent && (txTag q.tx).all (fun g => decide (txTag t ≠ some g)))
    && decide (x.waiting.length < 1024) && x.down.queued.isEmpty
    && (match t with
      | .msg _ => true
      | _ => decide (x.down.retry.length + (txFlits t).length ≤ 512))

/-- A transaction at place `seq` of the order of arrival waits behind an access of one of its lines that came before (R323). -/
def txBehind (s : State) (n seq : Nat) (t : StackTx) : Bool :=
  !(txNeeds t).isEmpty && waitsBefore s seq n (txLines t).1 (64 * (txLines t).2)

/-- A transaction must wait: to be accepted, for a row under repair, for a channel under margining, or behind an access that waits. -/
def txWaits (s : State) (n : Nat) (t : StackTx) : Bool := !maySend s n t || txBlocked s n t || txBehind s n s.tier.arrivals t

/-- Two transactions touch a common line. -/
def sameLine (a b : StackTx) : Bool :=
  let x := txLines a
  let y := txLines b
  meets x.1 (64 * x.2) y.1 (64 * y.2)

/-- A transaction waits; an accepted one takes its place in the order of arrival (R323). -/
def queueTx (s : State) (n : Nat) (q : QueuedTx) : State :=
  let s' := modStack s n (fun x => { x with waiting := x.waiting ++ [{ q with seq := s.tier.arrivals }] })
  if q.sent then { s' with tier := { s'.tier with arrivals := s'.tier.arrivals + 1 } } else s'

/-- A transaction is issued: it executes, or waits, in order behind a waiting one, or another waiting access, of the same line (R323,
R349). -/
def takeTx (s : State) (n : Nat) (t : StackTx) : State :=
  let now := maySend s n t
  let go := now && !txBlocked s n t && !txBehind s n s.tier.arrivals t && !(stackOf s n).waiting.any (fun q => sameLine t q.tx)
  let s := if now then sendFlits s n false (txFlits t) else s
  if go then runTx s n t else queueTx s n { tx := t, since := s.ft, sent := now }

/-- The transactions the compute die could not send yet go out, in order. -/
def issueWaiting (n : Nat) (s : State) : State :=
  let ws := (stackOf s n).waiting
  forEach (fun s (q : QueuedTx) =>
    let now := maySend s n q.tx
    let s := if now then sendFlits s n false (txFlits q.tx) else s
    queueTx s n { q with sent := now })
    (modStack s n (fun x => { x with waiting := ws.filter (·.sent) })) (ws.filter (fun q => !q.sent))

/-- A burst the scheduler of a channel may serve: place of its transaction among the waiting ones, line of it, when it was issued,
whether it is narrow, its direction, its offset. -/
structure Candidate where
  place : Nat
  line : Nat
  since : Nat
  narrow : Bool
  write : Bool
  off : Nat
  deriving DecidableEq, Repr

/-- The bursts of channel `c` that may be served: of accepted transactions with no older one on a common line, oldest first (R323). -/
def candidates (s : State) (n c : Nat) : List Candidate :=
  let ws := (stackOf s n).waiting
  ws.zipIdx.flatMap (fun q =>
    if !q.1.sent || txBlocked s n q.1.tx || txBehind s n q.1.seq q.1.tx || (ws.take q.2).any (fun r => sameLine q.1.tx r.tx) then []
    else ((txNeeds q.1.tx).filter (fun i => !q.1.served.contains i && decide (channelOf ((txLines q.1.tx).1 + 64 * i) = c))).map (fun i =>
      let (narrow, write) := match q.1.tx with
        | .rd64 _ _ _ => (true, false)
        | .rd256 _ _ _ => (false, false)
        | .wr64 _ _ _ _ _ => (true, true)
        | .wr256 _ _ _ => (false, true)
        | .msg _ => (true, false)
      ⟨q.2, i, q.1.since, narrow, write, (txLines q.1.tx).1 + 64 * i⟩))

/-- A field of STK_SCHED, 0 acting as 1. -/
def schedField (v lo : Nat) : Nat := max 1 (bitsOf v lo 8)

/-- The burst a channel serves next, with its scheduler afterwards (R322): one that has waited age_limit; else one of the queue whose
share runs, of its batch's direction while the batch lasts, of an open row if there is one. -/
def pickBurst (s : State) (n c : Nat) : Option (Candidate × ChanSched) :=
  let x := stackOf s n
  let q := x.sched.getD c {}
  let cur := (reg s (R.STK_SCHED n)).toNat
  let v := q.sched.getD cur
  let cs := candidates s n c
  let queue (wide : Bool) : List Candidate := cs.filter (fun k => decide (k.narrow ≠ wide))
  let weight := if q.wide then schedField v 8 else schedField v 0
  let wide := if (queue true).isEmpty then false else if (queue false).isEmpty then true
    else if q.share < weight then q.wide else !q.wide
  let dir := if wide then q.wideDir else q.narrowDir
  let count := if wide then q.wideCount else q.narrowCount
  let same := (queue wide).filter (fun k => decide (k.write = dir))
  let other := (queue wide).filter (fun k => decide (k.write ≠ dir))
  let pool := if same.isEmpty then other else if schedField v 16 ≤ count ∧ !other.isEmpty then other else same
  let open' (k : Candidate) : Bool := x.openRows.contains (c, bankOf k.off, rowOf k.off)
  let pick := match cs.find? (fun k => decide (k.since + 1000 * schedField v 24 ≤ s.ft)) with
    | some k => some k
    | none => match pool.find? open' with
      | some k => some k
      | none => pool.head?
  pick.map (fun k =>
    let w := !k.narrow
    let share := if w = q.wide then q.share + 1 else 1
    let old := if w then (q.wideDir, q.wideCount) else (q.narrowDir, q.narrowCount)
    let fresh := decide (k.write ≠ old.1) || decide (schedField v 16 ≤ old.2)
    let cnt := if fresh then 1 else old.2 + 1
    let q := { q with wide := w, share := share, sched := some (if fresh then cur else v) }
    (k, if w then { q with wideDir := k.write, wideCount := cnt } else { q with narrowDir := k.write, narrowCount := cnt }))

/-- The transaction at a place among the waiting ones completes. -/
def completeTx (s : State) (n place : Nat) : State :=
  match (stackOf s n).waiting[place]? with
  | none => s
  | some q => finishTx (modStack s n (fun x => { x with waiting := x.waiting.eraseIdx place })) n q.tx

/-- A channel serves one burst, if it may; the transaction completes with its last. -/
def serveChannel (n : Nat) (s : State) (c : Nat) : State :=
  match pickBurst s n c with
  | none => s
  | some (k, q) =>
    match (stackOf s n).waiting[k.place]? with
    | none => s
    | some w =>
      let served := w.served ++ [k.line]
      let s := txBurst n w.tx (modStack s n (fun x => { x with
        sched := modAt (fun _ => q) x.sched c
        waiting := modAt (fun w => { w with served := served }) x.waiting k.place })) k.line
      if (txNeeds w.tx).all (fun i => served.contains i) then completeTx s n k.place else s

/-- The oldest accepted transaction that needs no burst completes: a MSG, or a VIOLATION. -/
def serveBare (n : Nat) (s : State) : State :=
  match (stackOf s n).waiting.findIdx? (fun q => q.sent && (txNeeds q.tx).isEmpty) with
  | some i => if stackServes s n then completeTx s n i else s
  | none => s

/-- Rounds of the 32 channels, each serving one burst in a round, while the base die serves (R322). -/
def serveRounds (n : Nat) : Nat → State → State
  | 0, s => s
  | k + 1, s => if stackServes s n then serveRounds n k (forEach (serveChannel n) (serveBare n s) (List.range 32)) else s

/-- The rounds that serve every burst of the waiting transactions, if nothing holds them up. -/
def serveAll (s : State) (n : Nat) : State :=
  serveRounds n (((stackOf s n).waiting.map (fun q => 1 + (txNeeds q.tx).length)).sum) s

/-- The base die completes every transaction it has accepted (R350, R351). -/
def completeAccepted (s : State) (n : Nat) : State :=
  let s := serveAll s n
  forEach (fun s (q : QueuedTx) => runTx s n q.tx) (modStack s n (fun x => { x with waiting := x.waiting.filter (fun q => !q.sent) }))
    ((stackOf s n).waiting.filter (·.sent))

/-- The waiting transactions go on: those not sent are sent, and what may be served is, as the scheduler orders it. -/
def pumpTx (s : State) (n : Nat) : State := if (stackOf s n).waiting.isEmpty then s else serveAll (issueWaiting n s) n

/-! ## What arrives on the link (R319) -/

/-- An ACK or NAK arrives at the sender of a direction: an ACK frees the flits up to its seq; a NAK replays from its seq. -/
def takeControlFlit (s : State) (n : Nat) (up nak : Bool) (seq : Nat) : State :=
  let l := linkOf (stackOf s n) up
  match l.retry.findIdx? (fun q => q.seq = seq) with
  | none => s
  | some i =>
    if nak then forEach (fun s q => emitFlit s n up q) (modLink s n up (fun l => { l with retry := l.retry.drop i })) (l.retry.drop i)
    else
      let s := modLink s n up (fun l => { l with retry := l.retry.drop (i + 1) })
      pumpTx (flitPump n up l.queued.length s) n

/-- 72 bytes arrive on the link (R319, R320): a failed check refuses the flit expected, unless flits are being discarded and these
bytes do not name it (log 119); while flits are discarded only the replay is accepted. -/
def takeFlit (s : State) (n : Nat) (up : Bool) (bytes : List Byte) : State :=
  let l := linkOf (stackOf s n) up
  if rb s (R.STK_STATUS n) F.STK_STATUS_retraining then s
  else match readFlit bytes with
    | none => if l.discarding && decide (bitsOf (fieldAt bytes 0 4) 18 10 ≠ l.expected) then s else refuseFlit s n up
    | some f =>
      if f.kind = 0 then s
      else if f.kind = 4 then
        (if bitOf f.info 0 || bitOf f.info 1 then takeControlFlit s n (!up) (bitOf f.info 0) (fieldAt f.payload 0 2) else s)
      else if f.seq ≠ l.expected then s
      else acceptFlit s n up

/-! ## Retrains, scrub, initialisation (R320, R321, R338, R349, R350) -/

/-- The flits in a direction's retry buffer leave again (R320), and those that waited for the link. -/
def resendFlits (n : Nat) (s : State) (up : Bool) : State :=
  let l := linkOf (stackOf s n) up
  flitPump n up l.queued.length (forEach (fun s q => emitFlit s n up q) s l.retry)

/-- Failing signals mapped out onto spares (R320). -/
def mapOut (s : State) (n : Nat) (up : Bool) (fs : List Nat) : State :=
  modLink s n up (fun l => { l with mapped := (l.mapped ++ fs).eraseDups })

/-- The signals that fail fit the 16 spares of their direction. -/
def sparesFit (s : State) (n : Nat) (up : Bool) (fs : List Nat) : Bool :=
  decide (((linkOf (stackOf s n) up).mapped ++ fs).eraseDups.length ≤ 16)

/-- The link of a stack is in training: in a retrain, or for the first time since its release (R320, R349). -/
def training (s : State) (n : Nat) : Bool :=
  let st := R.STK_STATUS n
  rb s st F.STK_STATUS_retraining
    || (s.rst.released.testBit (22 + n) && !rb s st F.STK_STATUS_link_up && !rb s st F.STK_STATUS_init_done && !(stackOf s n).lost)

/-- A training ends (R320, R321, R349): with its failing signals mapped out the flits that waited in the retry buffers leave again;
after a WARM or BLOCK reset the base die then leaves self-refresh (R350, R351). The third failure in a row loses the stack. -/
def retrainEnd (s : State) (n : Nat) (good : Bool) (down up : List Nat) : State :=
  if !training s n then s
  else if good && sparesFit s n false down && sparesFit s n true up then
    let s := mapOut (mapOut s n false down) n true up
    let s := wf (wf s (R.STK_STATUS n) F.STK_STATUS_retraining 0) (R.STK_STATUS n) F.STK_STATUS_link_up 1
    let s := if rb s (R.STK_STATUS n) F.STK_STATUS_self_refresh then
        wf (wf s (R.STK_STATUS n) F.STK_STATUS_self_refresh 0) (R.STK_STATUS n) F.STK_STATUS_init_done 1 else s
    resendFlits n (resendFlits n (modStack s n (fun x => { x with trainFails := 0 })) false) true
  else
    let s := modStack s n (fun x => { x with trainFails := x.trainFails + 1 })
    if 3 ≤ (stackOf s n).trainFails then
      enterFailed (modStack (wf s (R.STK_STATUS n) F.STK_STATUS_retraining 0) n (fun x => { x with lost := true })) 2
    else startRetrain s n

/-- An entry of the repair log is applied: a repair, a marked pin or a retired frame (R345). -/
def applyRepair (n : Nat) (s : State) (e : Nat × Nat × Nat × Nat) : State :=
  if e.1 ≠ n then s
  else match e.2.1 with
    | 1 => useSpare s n e.2.2.1 e.2.2.2
    | 2 => setMark s n e.2.2.1 e.2.2.2
    | _ => if s.tier.retired.contains (n, e.2.2.2) then s else { s with tier := { s.tier with retired := s.tier.retired ++ [(n, e.2.2.2)] } }

/-- The initialisation after a COLD or FULL reset is done: the repair log applied, every line zero, accesses accepted (R345, R349). -/
def initDone (s : State) (n : Nat) : State :=
  let st := R.STK_STATUS n
  let s := forEach (applyRepair n) s s.mgt.repairLog
  wf (wf s st F.STK_STATUS_link_up 1) st F.STK_STATUS_init_done 1

/-- The scrub may take its burst: no accepted transaction waits on the channel, or the burst has waited age_limit (R338). -/
def scrubTurn (s : State) (n off : Nat) : Bool :=
  let x := stackOf s n
  let busy := x.waiting.any (fun q => q.sent && (txNeeds q.tx).any (fun i => decide (channelOf ((txLines q.tx).1 + 64 * i) = channelOf off)))
  !busy || (match x.scrubSince with
    | some t => decide (t + 1000 * schedField (reg s (R.STK_SCHED n)).toNat 24 ≤ s.ft)
    | none => false)

/-- The patrol scrub reads its next line; after the last it counts the pass, and a new scrub period begins (R335, R338). It waits for
its channel, for a margining run and for the row's repair (R340, R348). -/
def scrubLine (s : State) (n : Nat) (e : LineErr) : State :=
  let i := (stackOf s n).scrubPos
  let off := 64 * i
  if rf s (R.STK_CTL n) F.STK_CTL_scrub_hours = 0 ∨ !stackOpen s n ∨ channelBusy s n (channelOf off)
      ∨ (stackOf s n).failing.contains (channelOf off, frameOf off) then s
  else if !scrubTurn s n off then modStack s n (fun x => { x with scrubSince := some (x.scrubSince.getD s.ft) })
  else
    let s := (lineRead (dramBurst n false s off) n off e).1
    if 64 * (i + 1) < stackSize then modStack s n (fun x => { x with scrubPos := i + 1, scrubSince := none })
    else bump (modStack s n (fun x => { x with scrubPos := 0, scrubSince := none, pinRows := [] })) (R.STK_SCRUB_PASS_CNT n) 1

end Sys2Proof.Machine
end

