-- ==== Sys2Proof/Machine/Reads.lean ====
section
/-! DEFINITION. Writes of the tiered range by the host's window and by peers, and reads of memory by them: answered, or held until their
places serve them and their rows are rebuilt (R300, R303, R305, R324, R337, R340, R348, R349, R489, R513, R524). -/

namespace Sys2Proof.Machine

/-- A write of the tiered range: where it changes rows, the read of their old bytes meets what errs there (R258, R334, R337). -/
def commitWrite (s : State) (a : Nat) (bs : List Byte) : State :=
  let meet (s : State) (c : Option RowAt × Nat × Nat) : State := match c.1 with
    | some r => let ps := rowParts s r.desc r.rem r.row
      if rowBlocked s ps then s else forEach (fun s p => meetAt s p.1 p.2) s ps
    | none => s
  tierCommit (if (groupOf s (selfId s)).isNone then s else forEach meet s (rowCuts s a (bs.length + 1) bs.length)) a bs

/-- The commits that waited for their row try again, in order. -/
def pumpCommits (s : State) : State :=
  let ws := s.tier.waitCommits
  forEach (fun s w => commitWrite s w.1 w.2) { s with tier := { s.tier with waitCommits := [] } } ws

/-- The bytes of one piece of a read of the tiered range; none when a row of a lost page must first be rebuilt (R305, R524). -/
def pieceBytes (s : State) (c : Option RowAt × Nat × Nat) : Option (List Byte) :=
  match c.1 with
  | none => some (tierRead s c.2.1 c.2.2)
  | some r =>
    if !anyLost s c.2.1 c.2.2 then some (tierRead s c.2.1 c.2.2)
    else
      let before := (((rowParts s r.desc r.rem r.row).take r.part).map (·.2)).sum
      (readRow s (selfId s) r.desc r.rem r.row).map (fun bs => (bs.drop (before + (c.2.1 - r.base))).take c.2.2)

/-- Ask for the row of a piece that cannot be read yet. -/
def askPieceRow (s : State) (c : Option RowAt × Nat × Nat) : State :=
  match c.1, pieceBytes s c with
  | some r, none => degradedRead s (selfId s) r.desc r.rem r.row
  | _, _ => s

/-- A read is answered: a peer's by MEM_CPL (R489), the host's by its data. -/
def answerRead (s : State) (w : WaitRead) (bs : List Byte) : State :=
  match w.hdr with
  | some h => sendMsg s h.src (.memCpl w.addr 0 h.msgSeq bs)
  | none => emit s (.readData (.value (leVal bs)))

/-- A read of bytes that are gone: status POISON to a peer (R488), Completer Abort to the host (DESIGN CHOICE, log 22). -/
def poisonRead (s : State) (w : WaitRead) : State :=
  match w.hdr with
  | some h => sendMsg s h.src (.memCpl w.addr 2 h.msgSeq [])
  | none => emit s (.readData .ca)

/-- The pieces of [a, a + n) of the tiered range as they are read: row by row where a page of it is lost. -/
def readCuts (s : State) (a n : Nat) : List (Option RowAt × Nat × Nat) :=
  if anyLost s a n then rowCuts s a (n + 1) n else [(none, a, n)]

/-- The bytes of [a, a + n) of the tiered range; none when a row of a lost page must first be rebuilt (R305, R524). -/
def tieredBytes (s : State) (a n : Nat) : Option (List Byte) := ((readCuts s a n).mapM (pieceBytes s)).map List.flatten

/-- Ask for the rows of [a, a + n) that cannot be read yet (R524). -/
def askTiered (s : State) (a n : Nat) : State := forEach askPieceRow s (readCuts s a n)

/-! ## Reads of the device's own units (R201, R305, R337, R340, R348, R360, R557) -/

/-- Bytes at a device-local address as a unit of the device reads them; what lies outside the regions reads as 0. -/
def localBytes (s : State) (a n : Nat) : List Byte :=
  (if a + n ≤ rangePages s * 0x1_0000 then (tieredBytes s a n).orElse (fun _ => devRead s a n) else devRead s a n).getD (List.replicate n 0)

/-- A unit cannot read [a, a + n) yet: a place of it serves no access, or a row of a lost page must first be rebuilt. -/
def localWaits (s : State) (a n : Nat) : Bool :=
  if a + n ≤ rangePages s * 0x1_0000 then readWaits s a n || ((groupOf s (selfId s)).isSome && (tieredBytes s a n).isNone)
  else rawWaits s a n

/-- What is missing of it is asked for (R524). -/
def askLocal (s : State) (a n : Nat) : State :=
  if a + n ≤ rangePages s * 0x1_0000 ∧ !readWaits s a n then askTiered s a n else s

/-- The access of such a read, counted. -/
def useLocal (s : State) (a n : Nat) : State :=
  if a + n ≤ rangePages s * 0x1_0000 then readAccess s a n else if (hbmStack a).isSome then countRaw s a n else s

/-- A unit reads ranges and goes on; while one of them cannot be read it is asked for, and the flag says that the unit waits. -/
def localReads (s : State) (rs : List (Nat × Nat)) : State × Bool :=
  let ask (s : State) : State × Bool := (forEach (fun s r => askLocal s r.1 r.2) s rs, true)
  if rs.any (fun r => localWaits s r.1 r.2) then ask s
  else
    let s := forEach (fun s r => meetAt s r.1 r.2) s rs
    if rs.any (fun r => localWaits s r.1 r.2) then ask s else (forEach (fun s r => useLocal s r.1 r.2) s rs, false)

/-! ## The host's and peers' reads -/

/-- A read of the tiered range; the flag says that it waits (R303, R305, R337, R524). -/
def serveTiered (s : State) (w : WaitRead) : State × Bool :=
  if readWaitsAt s w.seq w.addr w.len then (s, true)
  else
    let s := meetAt s w.addr w.len
    match tieredBytes s w.addr w.len with
    | some bs => (answerRead (readAccess s w.addr w.len) w bs, false)
    | none =>
      if (groupOf s (selfId s)).isNone then (poisonRead s w, false)
      else
        let s := askTiered s w.addr w.len
        match tieredBytes s w.addr w.len with
        | some bs => (answerRead (readAccess s w.addr w.len) w bs, false)
        | none => (s, true)

/-- A read of raw HBM of stack `k`; a line that holds poison is found uncorrectable again (R337). -/
def serveRaw (s : State) (k : Nat) (w : WaitRead) : State × Bool :=
  let off := w.addr - hbmBase k
  if hbmWaitsAt s w.seq k off w.len then (s, true)
  else
    let r := meetErrors (countRaw s w.addr w.len) k off w.len
    (if r.2 then poisonRead r.1 w else answerRead r.1 w (bytesAt s w.addr w.len), false)

/-- A read is served, or the flag says that it waits. -/
def serveRead (s : State) (w : WaitRead) : State × Bool :=
  if w.addr + w.len ≤ rangePages s * 0x1_0000 then serveTiered s w
  else match hbmStack w.addr with
    | some k => serveRaw s k w
    | none => (poisonRead s w, false)

/-- A read is taken in: served, or kept until it can be. -/
def takeRead (s : State) (w : WaitRead) : State :=
  let r := serveRead s w
  if r.2 then waitRead r.1 w else r.1

/-- A new read, of the host's window or of a peer. -/
def newRead (s : State) (hdr : Option Hdr) (a n : Nat) : State := takeRead s ⟨hdr, a, n, s.tier.arrivals⟩

/-- The waiting reads try again, in order. -/
def pumpReads (s : State) : State :=
  let ws := s.tier.waitReads
  forEach takeRead { s with tier := { s.tier with waitReads := [] } } (sortBy (·.seq) ws)

end Sys2Proof.Machine
end

