-- ==== Sys2Proof/Machine/Rows.lean ====
section
/-! DEFINITION. How a row is read by the device that serves it: where its bytes lie, what its read waits for, what it meets and what it
counts (R271, R275, R279, R290, R303, R323, R334, R337, R523, R524). -/

namespace Sys2Proof.Machine

/-- The first `k` parts of a row of this device can be read where they lie: the row is not lost, and no page of them is. -/
def partsHere (s : State) (own : Nat) (d : List Byte) (rem : Bool) (l k : Nat) : Bool :=
  own = selfId s && !rowLost s own ⟨storageOf d, rem, l⟩ && ((rowParts s d rem l).take k).all (fun p => !anyLost s p.1 p.2)

/-- Those parts page by page: address, page, offset in it, length. -/
def rowSegs (s : State) (own : Nat) (d : List Byte) (rem : Bool) (l k : Nat) : List (Nat × Nat × Nat × Nat) :=
  if partsHere s own d rem l k then
    ((rowParts s d rem l).take k).flatMap (fun p => (pageSegs p.1 p.2).map (fun g => (g.1 * 0x1_0000 + g.2.1, g)))
  else []

/-- Bytes of T2 a fetch has brought (R290). -/
def fetchCovers (a n : Nat) (f : Nat × Nat) : Bool := decide (f.1 ≤ a) && decide (a + n ≤ f.1 + f.2)

/-- A piece that must be fetched from T2 before its row is read (R290). -/
def needsFetch (s : State) (g : Nat × Nat × Nat × Nat) : Bool :=
  decide (pteTier (pte s g.2.1) = 2) && !s.sor.fetched.any (fetchCovers g.1 g.2.2.2)

/-- Bytes of the first `k` parts of a row. -/
def partsLen (s : State) (d : List Byte) (rem : Bool) (l k : Nat) : Nat := (((rowParts s d rem l).take k).map (·.2)).sum

/-- The first `k` parts of a row cannot be read yet: a place of them serves no access (R303, R323, R340, R348, R349), or lines in T2 are to
be fetched (R290). -/
def rowHeld (s : State) (own : Nat) (d : List Byte) (rem : Bool) (l k : Nat) : Bool :=
  (rowSegs s own d rem l k).any (fun g => readWaits s g.1 g.2.2.2 || needsFetch s g)
    || (spareAt s own d rem l).any (fun a => rawWaits s a (partsLen s d rem l k))

/-- The lines of a row in T2 are asked for (R290). -/
def wantRow (s : State) (own : Nat) (d : List Byte) (rem : Bool) (l k : Nat) : State :=
  let new := ((rowSegs s own d rem l k).filter (needsFetch s)).map (fun g => (g.1, g.2.2.2))
  { s with sor := { s.sor with wanted := s.sor.wanted ++ new.filter (fun x => !s.sor.wanted.contains x) } }

/-- A read of the first `k` parts of a row meets what errs there (R334, R337). -/
def meetRow (s : State) (own : Nat) (d : List Byte) (rem : Bool) (l k : Nat) : State :=
  match spareAt s own d rem l with
  | some a => meetAt s a (partsLen s d rem l k)
  | none => forEach (fun s g => meetAt s g.1 g.2.2.2) s (rowSegs s own d rem l k)

/-- The read of the first `k` parts of a row: its bytes are counted where they lie and each page in T1 is touched once (R271, R279); what a
critical-row fetch brought from T2 was counted and touched by the fetch, and is used up (R290). -/
def useRow (s : State) (own : Nat) (d : List Byte) (rem : Bool) (l k : Nat) : State :=
  let gs := rowSegs s own d rem l k
  let t1 (g : Nat × Nat × Nat × Nat) : Bool := decide (pteTier (pte s g.2.1) = 1)
  let count (s : State) (g : Nat × Nat × Nat × Nat) : State := match ptePlace (pte s g.2.1) with
    | some pl => placeRead s pl g.2.2.1 g.2.2.2
    | none => s
  let s' := { s with sor := { s.sor with fetched := s.sor.fetched.filter (fun f => !gs.any (fun g => fetchCovers g.1 g.2.2.2 f)) } }
  let s' := forEach touch (forEach count s' (gs.filter t1)) ((gs.filter t1).map (·.2.1)).eraseDups
  match spareAt s own d rem l with
  | some a => countRaw s' a (partsLen s d rem l k)
  | none => s'

/-- A row is read whole by its server: none while its places serve no access, its lines in T2 are to be fetched, or it must first be rebuilt
(R290, R303, R524). -/
def lookRow (s : State) (own : Nat) (d : List Byte) (rem : Bool) (l : Nat) : State × Option (List Byte) :=
  if rowHeld s own d rem l 3 then (wantRow s own d rem l 3, none)
  else
    let s := meetRow s own d rem l 3
    match readRow s own d rem l with
    | some bs => (useRow s own d rem l 3, some bs)
    | none => (s, none)

/-- The same, asking for the row when it must first be rebuilt (R524). -/
def takeRow (s : State) (own : Nat) (d : List Byte) (rem : Bool) (l : Nat) : State × Option (List Byte) :=
  let x := lookRow s own d rem l
  match x.2 with
  | some bs => (x.1, some bs)
  | none => (if rowHeld s own d rem l 3 then x.1 else degradedRead x.1 own d rem l, none)

end Sys2Proof.Machine
end

