-- ==== Sys2Proof/Machine/Lookup.lean ====
section
/-! DEFINITION. The look-up path: batches at the requester, partial pools at the owner, pooled vectors, staging entries
(R193 to R218, R236 to R238, R260, R363). -/

namespace Sys2Proof.Machine

/-- Set a flag of SOR_LK_FLAGS with the event of its enable. -/
def lkFlag (s : State) (k : Nat) (f en : Field) (src : Nat) : State :=
  flagEvent s (R.SOR_LK_FLAGS k) f (rb s (R.SOR_CTL k) en) (src + k)

/-- det_order of step `n` (R229). -/
def detOf (s : State) (n : Nat) : Bool := alGet s.sor.detOrder s.sor.detSteps n

/-- A message waits in the engine's input queue. -/
def queueMsg (s : State) (m : Message) : State := { s with sor := { s.sor with inq := s.sor.inq ++ [m] } }

/-! ## The batch at the requester (R193 to R207) -/

/-- A valid identifier of a bag: position, row entry, owner index, weight or position for the ref. -/
structure Ident where
  pos : Nat
  entry : RowEntry
  owner : Nat
  aux : Nat
  deriving DecidableEq, Repr

/-- A bag as read from the input: identifiers counted missing and invalid, whether it was clamped, and its valid ones. -/
structure InBag where
  missing : Nat
  invalid : Nat
  clamped : Bool
  idents : List Ident
  deriving DecidableEq, Repr

/-- Resolve one bag: identifiers with their positions and weights (R193, R194, R197, R202). A missing identifier at a CONCAT position
past the slots counts as missing, and a WEIGHTED table without weighted input has weight 0 (DESIGN CHOICE, log 141). -/
def readBag (d : List Byte) (ids ws : List Nat) : InBag :=
  let used := ids.take 4095
  let bad (p x : Nat) : Bool := idInvalid d x || (decide (dPool d = 3) && decide (dSlots d ≤ p))
  let ps := used.zipIdx
  let missing := (ps.filter (fun q => idMissing q.1)).length
  let invalid := (ps.filter (fun q => !idMissing q.1 && bad q.2 q.1)).length
  ⟨missing, invalid + (ids.length - used.length), decide (4095 < ids.length),
    (ps.filter (fun q => !idMissing q.1 && !bad q.2 q.1)).map (fun q =>
      let r := resolveId d q.1
      ⟨q.2, ⟨r.1, r.2⟩, (ownerOf d r.1).1,
        if dPool d = 2 then ws.getD q.2 0 else if dPool d = 3 then q.2 else 0⟩)⟩

/-- Cut identifiers (or weights) into the bags of given lengths. -/
def cutBags : List Nat → List Nat → List (List Nat)
  | [], _ => []
  | n :: ns, xs => xs.take n :: cutBags ns (xs.drop n)

/-- Numbers of `w` bytes from an address on. -/
def localWords (s : State) (a w m : Nat) : List Nat := let bs := localBytes s a (w * m); (List.range m).map (fun i => fieldAt bs (w * i) w)

/-- The parts of the input of micro-batch `k` of step `n` of a table, on 64-byte boundaries (R201): bag lengths, identifiers, weights. -/
def inputParts (s : State) (p : PlanEntry) (d : List Byte) (n k : Nat) : List (Nat × Nat) :=
  let up (a : Nat) : Nat := (a + 63) / 64 * 64
  let base := p.inBase + n % 2 * p.stepStride + k * p.mbStride
  let count := mbSamples s
  let a := up (base + 2 * count)
  let total := (localWords s base 2 count).sum
  (base, 2 * count) :: (a, 8 * total) :: (if dWeighted d then [(up (a + 8 * total), 2 * total)] else [])

/-- The bags of micro-batch `k` of step `n` of a table (R201). -/
def readInput (s : State) (p : PlanEntry) (d : List Byte) (n k : Nat) : List InBag :=
  let words (i w : Nat) : List Nat := let x := (inputParts s p d n k).getD i (0, 0); localWords s x.1 w (x.2 / w)
  let lens := words 0 2
  let ids := cutBags lens (words 1 8)
  let ws := if dWeighted d then cutBags lens (words 2 2) else lens.map (fun _ => [])
  (ids.zip ws).map (fun q => readBag d q.1 q.2)

/-- Messages being built for one owner: finished ones, newest first, and the rows and bags of the one in the making. -/
structure Building where
  done : List (List RowEntry × List Bag) := []
  rows : List RowEntry := []
  bags : List Bag := []
  deriving DecidableEq, Repr

/-- Bytes of a LOOKUP_REQ. -/
def reqBytes (rows : List RowEntry) (bags : List Bag) : Nat :=
  32 + 8 * rows.length + (bags.map (fun b => 8 + (b.refs.length + 1) / 2 * 8)).sum

/-- Add one ref (R206, R207): a row not in a full message opens a new one; a message holds at most 1 MiB, and is full when a new row,
bag and ref could pass that (DESIGN CHOICE, log 93). -/
def addRef (dedup : Bool) (sample : Nat) (e : RowEntry) (aux : Nat) (m : Building) : Building :=
  let hit (m : Building) : Option Nat := if dedup then m.rows.findIdx? (fun x => x = e) else none
  let full := ((hit m).isNone && decide (65536 ≤ m.rows.length)) || decide (2 ^ 20 < reqBytes m.rows m.bags + 24)
  let m := if full then { done := (m.rows, m.bags) :: m.done } else m
  let i := (hit m).getD m.rows.length
  let rows := if (hit m).isSome then m.rows else m.rows ++ [e]
  let r : Ref := ⟨i, aux⟩
  let bags := match m.bags.getLast? with
    | some b => if b.sample = sample then m.bags.dropLast ++ [{ b with refs := b.refs ++ [r] }] else m.bags ++ [⟨sample, [r], []⟩]
    | none => [⟨sample, [r], []⟩]
  { m with rows := rows, bags := bags }

/-- The messages of a batch to owner index `k`: rows and bags of each, in order of seq. -/
def messagesTo (dedup : Bool) (k : Nat) (bags : List (Nat × InBag)) : List (List RowEntry × List Bag) :=
  let m := bags.foldl (fun m b => (b.2.idents.filter (fun x => x.owner = k)).foldl
    (fun m x => addRef dedup b.1 x.entry x.aux m) m) ({} : Building)
  (if m.rows.isEmpty then m.done else (m.rows, m.bags) :: m.done).reverse

/-- Count a LOOKUP_REQ of step `n` sent to a device (R238). -/
def countSent (s : State) (n dst : Nat) : State :=
  { s with sor := { s.sor with sentReqs := alSet s.sor.sentReqs (n, dst) (alGet 0 s.sor.sentReqs (n, dst) + 1) } }

/-- Send a batch's message to the device that serves its owner; while none does it waits (R221). -/
def sendReq (s : State) (owner : Nat) (m : BagMsg) : State :=
  match serverOf s owner with
  | none => s
  | some dst => sendMsg (countSent s m.step dst) dst (.lookupReq m)

/-- Every planned owner is served: by itself, by a deputy, or lost with nobody left to serve its rows. -/
def ownersServed (s : State) : Bool := (plannedOwners s).all (fun d => !isLost s d || lostCommitted s d)

/-- A request of step `n` still waits for a device to serve its owner's rows (R221). -/
def reqWaits (s : State) (n : Nat) : Bool :=
  s.sor.batches.any (fun b => decide (b.step = n) && b.reqs.any (fun r => r.sent.isNone && !r.answered))

/-- The LOOKUP_END messages of step `n` go out once no request of it waits to be sent (R238): one to every device that serves a planned
owner, a deputy for the owner it stands for (R518), and not twice to the same. -/
def sendEnds (s : State) (n : Nat) : State :=
  if (rankOf s).isNone || !ownersServed s || reqWaits s n then s
  else forEach (fun s d => if s.sor.endsSent.contains (n, d) then s else
      sendMsg { s with sor := { s.sor with endsSent := (n, d) :: s.sor.endsSent } } d
        (.lookupEnd (selfId s) n (alGet 0 s.sor.sentReqs (n, d)))) s ((plannedOwners s).filterMap (serverOf s)).eraseDups

/-- The LOOKUP_END messages that are due go out. -/
def pumpEnds (s : State) : State := forEach sendEnds s s.sor.ending

/-- The requests of step `n` have all been cut: its LOOKUP_END messages are due (R238). What is kept of steps long past goes. -/
def endStep (s : State) (n : Nat) : State :=
  let recent (x : Nat) : Bool := decide (n < x + 4)
  pumpEnds { s with sor := { s.sor with
    ending := n :: s.sor.ending.filter (fun x => recent x && decide (x ≠ n))
    sentReqs := s.sor.sentReqs.filter (fun x => recent x.1.1)
    endsSent := s.sor.endsSent.filter (fun x => recent x.1) } }

/-- The step whose look-ups are being admitted (R22): the oldest with batches left. -/
def admitStep (s : State) : Option Nat := s.seq.admitQ.head?

/-- Every batch of step `n` has been admitted. -/
def allAdmitted (s : State) (n : Nat) : Bool :=
  (List.range (microBatches s)).all (fun k => (plannedTables s).all (fun t => s.seq.admitted.contains (n, t, k)))

/-- The vectors of step `n` are not all with the fronds yet. -/
def poolOpen (s : State) (n : Nat) : Bool :=
  !(allAdmitted s n && (List.range (microBatches s)).all (fun k => s.seq.ready.contains (n, k)))

/-- A batch of the look-ups at work: of a micro-batch admitted and not given up (R553). -/
def batchLive (s : State) (b : Batch) : Bool := s.seq.admitted.contains (b.step, b.table, b.mb)

/-- A live batch of a table with a record, whose update batch is still to come (R230). -/
def updateDue (s : State) (b : Batch) : Bool :=
  batchLive s b && (match liveVersion s b.table b.version with
    | some v => (sparseRec s (storageOf v.desc)).isSome
    | none => false)

/-- What is left of a requester's look-ups when a step starts: batches that are not complete or whose update is to come, and what
is noted of the steps they and the fronds are still at (R22, R214). -/
def keepLookups (s : State) : State :=
  let bs := s.sor.batches.filter (fun b => if b.complete then updateDue s b else batchLive s b || b.reqs.any (fun r => !r.answered))
  let on (n : Nat) : Bool := s.seq.admitQ.contains n || (s.seq.admitted.any (fun x => decide (x.1 = n)) && poolOpen s n)
    || bs.any (fun b => decide (b.step = n) && b.complete)
  { s with
    sor := { s.sor with
      batches := bs
      updSent := s.sor.updSent.filter (fun x => on x.2.2)
      dedup := s.sor.dedup.filter (fun x => on x.2.2.1) }
    seq := { s.seq with
      admitted := s.seq.admitted.filter (fun x => on x.1)
      pooled := s.seq.pooled.filter (fun x => on x.1)
      writing := s.seq.writing.filter (fun x => on x.1)
      ready := s.seq.ready.filter (fun x => on x.1) } }

/-- The look-ups at work are given up (R553): no batch of them is written or updated, requests never sent go, and the LOOKUP_END
messages of the steps cut short go out (R238). -/
def dropLookups (s : State) : State :=
  let cut := s.seq.admitQ
  let sent (b : Batch) : Batch := { b with reqs := b.reqs.filter (fun r => r.answered || r.sent.isSome) }
  forEach endStep { s with
    sor := { s.sor with
      batches := (s.sor.batches.map sent).filter (fun b => !b.complete && b.reqs.any (fun r => !r.answered))
      updSent := [], dedup := [] }
    seq := { s.seq with admitQ := [], admitted := [], pooled := [], writing := [], ready := [] } } cut

/-! ## Pooled vectors (R204, R212 to R214, R363) -/

/-- The requests of a batch that were refused (R218): answered without a partial. -/
def refused (b : Batch) (r : BatchReq) : Bool :=
  r.answered && !b.parts.any (fun p => decide (p.1 = r.k) && decide (p.2.1 = r.msg.seq))

/-- Element `e` of a bag's vector (R212, R213). -/
def bagElem (b : Batch) (pool : Nat) (g : BatchBag) (e : Nat) : Nat :=
  let vs := b.parts.flatMap (fun p => (p.2.2.filter (fun r => r.1 = g.sample)).map (fun r => fp16Val (r.2.getD e 0)))
  let sum := vs.foldl fvAdd (.fin false 0 0)
  let lost := ((b.reqs.filter (refused b)).flatMap (fun r => (r.msg.bags.filter (fun x => x.sample = g.sample)).map (fun x => x.refs.length))).sum
  let n := g.valid - lost
  if n = 0 then 0
  else if pool = 1 then (toIeee lBF16 .ne (fvDiv sum (fvInt (n : Int)))).1
  else (toIeee lBF16 .ne sum).1

/-- Write the vectors of a batch whose answers are all there. -/
def writeBatch (s : State) (b : Batch) : State :=
  match liveVersion s b.table b.version, planEntry s b.table with
  | some v, some p =>
    let w := dOut v.desc
    let s := forEach (fun s g =>
        let es := (List.range w).map (bagElem b (dPool v.desc) g)
        let s := cntAdd (setBytes s (storeBase p.frond + g.dest) (leAll 2 es)) 25 (2 * w)
        let bad := es.any (fun c => !fvFinite (bf16Val c))
        if bad then wf s (R.SOR_LK_FLAGS b.home) F.SOR_LK_FLAGS_ovf 1 else s) s b.bags
    let s := bump s (R.SOR_LK_BAG_CNT b.home) b.bags.length
    let up (x : Batch) : Batch := if x.table = b.table ∧ x.mb = b.mb ∧ x.step = b.step then { x with complete := true } else x
    { s with sor := { s.sor with batches := s.sor.batches.map up }, seq := { s.seq with pooled := (b.step, b.table, b.mb) :: s.seq.pooled } }
  | _, _ => s

/-- Fronds that receive pooled vectors. -/
def destFronds (s : State) : List Nat := ((planEntries s).map (·.frond)).eraseDups

/-- The first micro-batch of a parity whose pooled bit is not set, steps in order: step, micro-batch. -/
def poolNext (s : State) (p : Nat) : Option (Nat × Nat) :=
  minBy (fun (x : Nat × Nat) => x.1 * 4096 + x.2)
    ((s.seq.admitted.map (fun x => (x.1, x.2.2))).filter (fun x => decide (x.2 % 2 = p) && !s.seq.ready.contains x))

/-- Go on with the vectors of one parity: the first micro-batch not ready starts once POOL_FREE is set on every destination
frond, its answered batches are written, and POOL_RDY is set when all of its batches are (R22, R214, R362, R363). -/
def poolParity (s : State) (p : Nat) : State :=
  match poolNext s p with
  | none => s
  | some x =>
    let s := if s.seq.writing.contains x then s
      else if (destFronds s).all (fun f => sbBit s f (1018 + p)) then
        let s := forEach (fun s f => setSb s f (1018 + p) false) s (destFronds s)
        { s with seq := { s.seq with writing := x :: s.seq.writing } }
      else s
    if !s.seq.writing.contains x then s
    else
      let s := forEach writeBatch s (s.sor.batches.filter (fun b =>
        decide (b.step = x.1) && decide (b.mb = x.2) && !b.complete && b.reqs.all (·.answered)))
      if (plannedTables s).all (fun t => s.seq.pooled.contains (x.1, t, x.2)) then
        let s := forEach (fun s f => setSb s f (1016 + p) true) s (destFronds s)
        { s with seq := { s.seq with ready := x :: s.seq.ready } }
      else s

def poolProgress (s : State) : State := poolParity (poolParity s 0) 1

/-! ## Admission (R205, R216) -/

/-- A batch of a table and micro-batch may be admitted now (R22, R520, R552, R553). -/
def mayAdmit (s : State) (t k : Nat) : Bool :=
  match admitStep s with
  | none => false
  | some n => !s.seq.densePaused && !failed s && (rankOf s).isSome && (planEntry s t).isSome
    && !idleAsked s (0x20 + ((planEntry s t).map (·.home)).getD 0) && decide (k < microBatches s) && !s.seq.admitted.contains (n, t, k)
    && (List.range k).all (fun j => (plannedTables s).all (fun u => s.seq.admitted.contains (n, u, j)))

/-- Admit a batch bound to a version (R205). -/
def admitBatch (s : State) (n : Nat) (p : PlanEntry) (v : TableVersion) (k : Nat) : State :=
  let d := v.desc
  let t := p.table
  let h := p.home
  let dedup := rb s (R.SOR_CTL h) F.SOR_CTL_dedup_en
  let first := ((rankOf s).getD 0 * microBatches s + k) * mbSamples s
  let bags := (readInput s p d n k).zipIdx.map (fun b => (first + b.2, b.1))
  let missing := (bags.map (fun b => b.2.missing)).sum
  let invalid := (bags.map (fun b => b.2.invalid)).sum
  let nId := (bags.map (fun b => b.2.idents.length)).sum
  let s := bump s (R.SOR_LK_ID_CNT h) nId
  let r := R.SOR_TBL_DROP h t
  let s := wf s r F.SOR_TBL_DROP_invalid (min (2 ^ 32 - 1) (rf s r F.SOR_TBL_DROP_invalid + invalid))
  let s := wf s r F.SOR_TBL_DROP_missing (min (2 ^ 32 - 1) (rf s r F.SOR_TBL_DROP_missing + missing))
  let s := if missing + invalid = 0 then s else lkFlag s h F.SOR_LK_FLAGS_drop F.SOR_CTL_drop_event_en 96
  let s := if bags.any (fun b => b.2.clamped) then lkFlag s h F.SOR_LK_FLAGS_clamp F.SOR_CTL_drop_event_en 96 else s
  let reqs := (List.range (dOwn d)).flatMap (fun o =>
    let ms := messagesTo dedup o bags
    ms.zipIdx.map (fun m =>
      let owner := v.owners.getD o 0
      ({ k := o, dst := owner, sent := serverOf s owner, msg := ⟨dVersion d, t, selfId s, k, n, m.1.1, m.1.2, m.2, decide (m.2 + 1 = ms.length)⟩ } : BatchReq)))
  let s := bump s (R.SOR_LK_UNIQ_CNT h) ((reqs.map (fun r => r.msg.rows.length)).sum)
  let base := if k % 2 = 0 then p.base else p.alt
  let b : Batch := {
    table := t, step := n, mb := k, version := dVersion d, home := h, reqs := reqs
    bags := bags.zipIdx.map (fun b => ⟨b.1.1, base + b.2 * p.stride * 64, b.1.2.idents.length⟩) }
  let x := tableState s t
  let bind (y : TableVersion) : TableVersion := if dVersion y.desc = dVersion d then { y with bound := true } else y
  let s := setTable s { x with admitted := max x.admitted (n + 1), versions := x.versions.map bind }
  let s := { s with
    sor := { s.sor with batches := s.sor.batches ++ [b], dedup := (t, k, n, dedup) :: s.sor.dedup }
    seq := { s.seq with admitted := (n, t, k) :: s.seq.admitted } }
  let s := forEach (fun s r => sendReq s r.dst r.msg) s reqs
  let s := if allAdmitted s n then endStep { s with seq := { s.seq with admitQ := s.seq.admitQ.erase n } } n else s
  poolProgress s

/-! ## Staging (R236, R237) -/

/-- Bytes of a staging entry. -/
def stageBytes (x : StageEntry) : Nat := 16 + 8 * x.pairs.length

/-- Bytes of a logged UPDATE_REQ. -/
def logBytes (m : BagMsg) : Nat := (msgBytes 0 (.updateReq m)).length

/-- Home stack of a table: that of its SORUS_PLAN entry. -/
def homeOf (s : State) (t : Nat) : Nat := ((planEntry s t).map (·.home)).getD 0

/-- Room for one more entry of `w` elements in a stack's staging area, which holds the log of R242 as well. -/
def stageRoom (s : State) (stack w : Nat) : Bool :=
  decide (((s.sor.stage.filter (fun x => x.stack = stack)).map stageBytes).sum
    + ((s.sor.log.filter (fun x => homeOf s x.2.table = stack)).map (fun x => logBytes x.2)).sum + 16 + 8 * w ≤ s.sor.stageSize * 65536)

/-- Set a flag of SOR_UPD_FLAGS with its event. -/
def updFlag (s : State) (k : Nat) (f en : Field) : State :=
  flagEvent s (R.SOR_UPD_FLAGS k) f (rb s (R.SOR_UPD_CTL k) en) (112 + k)

def stageKey (x : StageEntry) (own t v row : Nat) (rem : Bool) (n : Nat) : Bool :=
  x.own = own && x.table = t && x.version = v && x.row = row && x.rem = rem && x.step = n

/-- Find or create the entry of a row and add 1 to its count; a row once refused stays without one for the step (R236, R237). Each
entry of a compositional row that finds no room counts (DESIGN CHOICE, log 141). -/
def stageRow (s : State) (d : List Byte) (own row : Nat) (rem : Bool) (n : Nat) : State :=
  let t := storageOf d
  let v := dVersion d
  let key : RowKey := ⟨own, t, v, row, rem, n⟩
  let stack := servingStack s (((rowParts s d rem row).headD (0, 0)).1)
  let w := rowW d rem
  if s.sor.stage.any (fun x => stageKey x own t v row rem n) then
    let up (x : StageEntry) : StageEntry := if stageKey x own t v row rem n then { x with count := x.count + 1 } else x
    { s with sor := { s.sor with stage := s.sor.stage.map up } }
  else if !s.sor.unstaged.contains key && stageRoom s stack w then
    { s with sor := { s.sor with stage := s.sor.stage ++ [⟨own, t, v, row, rem, stack, n, 1, List.replicate w (0, 0)⟩] } }
  else
    let s := { s with sor := { s.sor with unstaged := key :: s.sor.unstaged.filter (· ≠ key) } }
    updFlag (bump s (R.SOR_UPD_NOSTAGE_CNT stack) 1) stack F.SOR_UPD_FLAGS_nostage F.SOR_UPD_CTL_nostage_event_en

/-! ## The answer of an owner (R209 to R211, R218, R260) -/

/-- Owner device and local row of a row entry of a version. -/
def entryOwner (v : TableVersion) (e : RowEntry) : Nat × Nat :=
  let o := ownerOf v.desc e.row
  (v.owners.getD o.1 0, o.2)

/-- The BF16 plane values of a row's bytes. -/
def rowVals (w : Nat) (bs : List Byte) : List FV := (List.range w).map (fun e => bf16Val (bfElem bs e))

/-- The BF16 values of a stored or remainder row as its server reads them. -/
def readVals (s : State) (own : Nat) (d : List Byte) (rem : Bool) (l : Nat) : Option (List FV) :=
  let p := (rowParts s d rem l).headD (0, 0)
  if partsHere s own d rem l 1 then some (rowVals (rowW d rem) (tierRead s p.1 p.2))
  else (readRow s own d rem l).map (rowVals (rowW d rem))

/-- The combined vector of a compositional row (R196). -/
def combineVals (d : List Byte) (a b : List FV) : List FV :=
  match dCombine d with
  | 0 => List.zipWith fvMul a b
  | 1 => List.zipWith (fun x y => f32v (toF32 (fvAdd x y))) a b
  | _ => a ++ b

/-- The rows of an entry: the member as whose copy each is read, remainder flag, row. -/
def entryRows (s : State) (v : TableVersion) (e : RowEntry) : List (Nat × Bool × Nat) :=
  let o := entryOwner v e
  (o.1, false, o.2) :: (if dComp v.desc then [(readOwner s v.owners o.1 true, true, e.rem)] else [])

/-- The values of an entry's rows. -/
def entryRead (s : State) (v : TableVersion) (e : RowEntry) : Option (List (List FV)) :=
  (entryRows s v e).mapM (fun r => readVals s r.1 v.desc r.2.1 r.2.2)

/-- The vector a row entry gives the pool. -/
def entryVals (d : List Byte) (rows : List (List FV)) : List FV :=
  if dComp d then combineVals d (rows.getD 0 []) (rows.getD 1 []) else rows.getD 0 []

/-- Ask for the rows of an entry that cannot be read (R524). -/
def askEntry (s : State) (v : TableVersion) (e : RowEntry) : State :=
  forEach (fun s (r : Nat × Bool × Nat) =>
    if (readVals s r.1 v.desc r.2.1 r.2.2).isNone then degradedRead s r.1 v.desc r.2.1 r.2.2 else s) s (entryRows s v e)

/-- The pieces of an entry's BF16 planes on this device, page by page: address, page, offset in it, length. -/
def entrySegs (s : State) (v : TableVersion) (e : RowEntry) : List (Nat × Nat × Nat × Nat) :=
  (entryRows s v e).flatMap (fun r => rowSegs s r.1 v.desc r.2.1 r.2.2 1)

/-- The rows of an entry cannot be read yet: a place of them serves no access (R303, R349), or their lines in T2 are to be fetched
(R290). -/
def entryWaits (s : State) (v : TableVersion) (e : RowEntry) : Bool :=
  (entryRows s v e).any (fun r => rowHeld s r.1 v.desc r.2.1 r.2.2 1)

/-- The term of a ref at element `e` of the bag's vector (R210). -/
def refTerm (d : List Byte) (vals : List FV) (aux e : Nat) : FV :=
  match dPool d with
  | 2 => fvMul (vals.getD e .nan) (bf16Val aux)
  | 3 => let w := dInner d
    if aux * w ≤ e ∧ e < (aux + 1) * w then vals.getD (e - aux * w) .nan else .fin false 0 0
  | _ => vals.getD e .nan

/-- The partial pool of a bag as FP16 codes (R210, R211). The sum starts from +0, so an exact zero is +0 (DESIGN CHOICE, log 141). -/
def partialPool (s : State) (d : List Byte) (m : BagMsg) (vals : List (List FV)) (b : Bag) : List Nat :=
  (List.range (dOut d)).map (fun e =>
    let v := (b.refs.map (fun r => refTerm d (vals.getD r.idx []) r.aux e)).foldl fvAdd (.fin false 0 0)
    (toIeee lFP16 (.sr (randOf (jobSeed s) (dStreamFwd d) m.step m.mb ((b.sample * 4096 + m.table) * 1024 + e))) v).1)

/-- Every look-up of step `n` has been answered (R20, R238, R260). -/
def answeredAll (s : State) (n : Nat) : Bool :=
  ((rankList s).filter (fun d => !isLost s d)).all (fun d =>
    match s.sor.ends.find? (fun x => x.1 = d && x.2.1 = n) with
    | some x => decide (x.2.2 ≤ ((s.sor.answered.find? (fun y => y.1 = d && y.2.1 = n)).map (·.2.2)).getD 0)
    | none => false)

/-- No entry of a storage table of a step before `n` is left on the owner. -/
def tableQuiet (s : State) (t n : Nat) : Bool :=
  !s.sor.stage.any (fun x => x.table = t && decide (x.step < n)) && !s.sor.pend.any (fun x => x.table = t && decide (x.step < n))
    && !s.sor.commit.any (fun x => x.table = t && decide (x.step < n))

/-- A series of REM_GRAD or REM_ROW messages is all there: its last and every one before it; `ms` gives place and last flag of each. -/
def seriesIn (ms : List (Nat × Bool)) : Bool :=
  ms.any (fun m => m.2 && (List.range m.1).all (fun j => ms.any (fun x => decide (x.1 = j))))

/-- What the owner role of `d` sends for step `n` is all there (R250 to R252, R518): from `d`, or, once it is lost, from its deputy;
of a step that started before the loss was declared a deputy owes nothing (R519; DEDUCED, log 142). `sent` says that a device's
series has come. -/
def roleIn (s : State) (sent : Nat → Bool) (n d : Nat) : Bool :=
  sent d || (lostCommitted s d && (match deputyOf s d with
    | none => true
    | some x => sent x || s.recov.lost.any (fun l => l.device = d && decide (n < l.step))))

/-- A device's REM_ROW series of a storage table and step has come; this device needs none from itself. -/
def remRowsFrom (s : State) (t n d : Nat) : Bool :=
  d = selfId s || seriesIn ((s.sor.remRows.filter (fun x => x.table = t && decide (x.step = n) && decide (x.source = d))).map
    (fun x => (x.seq, x.last)))

/-- Every REM_ROW of step `n` of a compositional table has come (R252). -/
def remRowsIn (s : State) (v : TableVersion) (n : Nat) : Bool := v.owners.all (roleIn s (remRowsFrom s (storageOf v.desc) n) n)

/-- The owner roles of a table this device has: its own and those of the lost members it is deputy of (R518). -/
def homeRoles (s : State) (v : TableVersion) : List Nat := (rolesOf s).filter (fun d => v.owners.contains d)

/-- The remainder rows this device is home of have been merged for step `n` (R251); of a step from before the loss its deputy has none
to merge. -/
def remMerged (s : State) (v : TableVersion) (n : Nat) : Bool :=
  s.sor.remDone.contains (storageOf v.desc, n)
    || (homeRoles s v).all (fun d => s.recov.lost.any (fun l => l.device = d && decide (n < l.step)))

/-- An owner may answer a LOOKUP_REQ of step `n` of a version (R260): the steps before have left nothing of the table to apply, to
merge, to receive or to commit. -/
def mayAnswer (s : State) (v : TableVersion) (n : Nat) : Bool :=
  decide (n ≤ s.rau.base) || (answeredAll s (n - 1) && tableQuiet s (storageOf v.desc) n
    && (!dComp v.desc || (sparseRec s (storageOf v.desc)).isNone || (remMerged s v (n - 1) && remRowsIn s v (n - 1))))

/-- Sets of the row cache, 48 MiB of 64-byte lines in 16 ways (R327); a line's set is its number modulo them (DESIGN CHOICE,
log 42). -/
def cacheSets : Nat := 49152

/-- A line becomes the most recently used of its set; a seventeenth pushes out the least recently used (R327). -/
def cacheUse (x : Stack) (c : CacheLine) : Stack :=
  let rest := x.cache.filter (fun y => y.line ≠ c.line)
  let gone := (rest.filter (fun y => y.line % cacheSets = c.line % cacheSets)).drop 15
  { x with cache := c :: rest.filter (fun y => !gone.contains y) }

/-- Bits of cached words flip (R329). -/
def upsetCache (s : State) (us : List CacheUpset) : State :=
  forEach (fun s (u : CacheUpset) => modStack s u.stack (fun x => { x with
    cache := x.cache.map (fun (c : CacheLine) => if c.line = u.line then
      { c with flips := if c.flips.contains (u.word, u.bit) then c.flips.erase (u.word, u.bit) else c.flips ++ [(u.word, u.bit)] } else c) })) s us

/-- A line is served from the row cache: it is there, and its words are good (R327, R329). -/
def cacheServes (s : State) (n l : Nat) : Bool :=
  rb s (R.STK_CTL n) F.STK_CTL_rc_en && (stackOf s n).cache.any (fun c => c.line = l && !lineLost c.flips)

/-- A look-up's read of the planes of an entry meets what errs in the lines it does not take from the row cache (R334, R337). -/
def meetEntry (v : TableVersion) (s : State) (e : RowEntry) : State :=
  let meet (s : State) (a n : Nat) : State := forEach (fun s g =>
    (meetLines s g.1 ((badLines s g.1 g.2.1 g.2.2).filter (fun l => !cacheServes s g.1 l))).1) s (rawSegs s a n)
  forEach (fun s r => match spareAt s r.1 v.desc r.2.1 r.2.2 with
    | some a => meet s a (partsLen s v.desc r.2.1 r.2.2 1)
    | none => forEach (fun s g => meet s g.1 g.2.2.2) s (rowSegs s r.1 v.desc r.2.1 r.2.2 1)) s (entryRows s v e)

/-- A line of stack `n` is read for a look-up of engine `k`: from the row cache when it is there and its words are good, else from
DRAM, on the narrow path for a row of at most 256 bytes; a narrow read fills the cache or renews the line's recency (R209, R327 to
R329). -/
def gatherLine (k n : Nat) (narrow : Bool) (s : State) (off : Nat) : State :=
  let en := rb s (R.STK_CTL n) F.STK_CTL_rc_en
  let l := off / 64
  let held := (stackOf s n).cache.find? (fun c => c.line = l)
  match if en then held.filter (fun c => !lineLost c.flips) else none with
  | some c =>
    let s := cntAdd (bump s (R.SOR_RC_HIT_CNT k) 1) 28 64
    if narrow then modStack s n (fun x => cacheUse x c) else s
  | none =>
    let s := if en && held.isSome then modStack s n (fun x => { x with cache := x.cache.filter (fun c => c.line ≠ l) }) else s
    let s := dramBurst n false (bump s (R.SOR_RC_MISS_CNT k) 1) off
    let s := if narrow then bump s (R.STK_NARROW_CNT n) 1 else s
    if narrow && en then modStack s n (fun x => cacheUse x { line := l }) else s

/-- The BF16 plane of a row is read for a look-up: each page's lines through the page's stack, with one touch of the page (R209, R271,
R279); lines in T2 were counted and touched by their fetch (R290). A row another member owns is read from this device's spare slot, if
that holds it (R523), and touches no page. -/
def gatherRow (s : State) (own : Nat) (d : List Byte) (rem : Bool) (l : Nat) : State :=
  let p := (rowParts s d rem l).headD (0, 0)
  let k := servingStack s p.1
  let line := gatherLine k
  let narrow := decide (p.2 ≤ 256)
  let s := bump s (R.SOR_LK_ROW_CNT k) 1
  if partsHere s own d rem l 1 then
    forEach (fun s g => match ptePlace (pte s g.1) with
      | some (.t1 n f) => touch (forEach (line n narrow) s ((linesOf g.2.1 g.2.2).map (fun i => f * 0x1_0000 + 64 * i))) g.1
      | _ => s) s (pageSegs p.1 p.2)
  else match spareAt s own d rem l with
    | some a => match hbmStack a with
      | some n => forEach (line n narrow) s ((linesOf (a - hbmBase n) p.2).map (64 * ·))
      | none => s
    | none => s

def countAnswered (s : State) (d n : Nat) : State :=
  let old := s.sor.answered
  let c := ((old.find? (fun y => y.1 = d && y.2.1 = n)).map (·.2.2)).getD 0
  { s with sor := { s.sor with answered := (d, n, c + 1) :: old.filter (fun y => !(y.1 = d && y.2.1 = n)) } }

/-- Answer with VERSION_UNKNOWN (R218). -/
def refuseReq (s : State) (m : BagMsg) : State :=
  let h := homeOf s m.table
  let s := wf (bump s (R.SOR_VER_REFUSED_CNT h) 1) (R.SOR_LK_FLAGS h) F.SOR_LK_FLAGS_ver_refused 1
  let s := evgFireIf s (rb s (R.SOR_CTL h) F.SOR_CTL_ver_event_en) (104 + h)
  sendMsg (countAnswered s m.requester m.step) m.requester
    (.lookupRsp ⟨m.version, m.table, selfId s, m.mb, m.step, 0, m.seq, m.bags.length, 1, []⟩)

/-- Answer a LOOKUP_REQ whose rows can be read (R209 to R211, R236): `rows` holds the values of each entry's rows. A request of a
look-up that is rerun (R222) is answered again and expected once (R241; DEDUCED, log 52). -/
def answerReq (s : State) (m : BagMsg) (v : TableVersion) (rows : List (List (List FV))) : State :=
  let d := v.desc
  let h := homeOf s m.table
  let recs := m.bags.map (fun b => (b.sample, partialPool s d m (rows.map (entryVals d)) b))
  let s := overflowCodes s m.step (recs.flatMap (·.2))
  let s := if (recs.flatMap (·.2)).any (fun c => !fvFinite (fp16Val c)) then wf s (R.SOR_LK_FLAGS h) F.SOR_LK_FLAGS_ovf 1 else s
  let s := if rows.flatten.flatten.any fvIsNaN then lkFlag s h F.SOR_LK_FLAGS_nan_in F.SOR_CTL_nan_event_en 96 else s
  let segs := m.rows.flatMap (entrySegs s v)
  let s := { s with sor := { s.sor with fetched := s.sor.fetched.filter (fun f => !segs.any (fun g => fetchCovers g.1 g.2.2.2 f)) } }
  let s := forEach (fun s e => forEach (fun s (r : Nat × Bool × Nat) => gatherRow s r.1 d r.2.1 r.2.2) s (entryRows s v e)) s m.rows
  let s := bump s (R.SOR_LK_REF_CNT h) ((m.bags.map (fun b => b.refs.length)).sum)
  let k := ((m.rows.head?).map (fun e => (ownerOf d e.row).1)).getD 0
  let s := sendMsg (countAnswered s m.requester m.step) m.requester
    (.lookupRsp ⟨m.version, m.table, selfId s, m.mb, m.step, k, m.seq, m.bags.length, 0, recs⟩)
  let again := s.sor.expected.any (fun x => decide (x = ⟨m.requester, storageOf d, dVersion d, m.mb, m.seq, m.step, x.status, m.table, m.rows⟩))
  if (sparseRec s (storageOf d)).isNone ∨ again then s
  else
    let s := forEach (fun s e => forEach (fun s (r : Nat × Bool × Nat) => stageRow s d r.1 r.2.2 r.2.1 m.step) s (entryRows s v e)) s m.rows
    { s with sor := { s.sor with
        expected := s.sor.expected ++ [⟨m.requester, storageOf d, dVersion d, m.mb, m.seq, m.step, 0, m.table, m.rows⟩] } }

/-- Serve a LOOKUP_REQ, or answer that it must wait (R209, R218, R223, R260); the flag says it waits. A request for the version of a
pending TABLE_SWAP waits for the swap's step (R216; DEDUCED, log 80). Asking for a row may find it lost, and so readable (R531). -/
def serveReq (s : State) (m : BagMsg) : State × Bool :=
  if idleAsked s (0x20 + homeOf s m.table) then (s, true)
  else match liveVersion s m.table m.version with
  | none =>
    let coming : Bool := match (tableState s m.table).pending with
      | some p => decide (dVersion p.desc = m.version)
      | none => false
    if coming then (s, true) else (refuseReq s m, false)
  | some v =>
    if !mayAnswer s v m.step || m.rows.any (entryWaits s v) then (s, true)
    else
      let s := forEach (meetEntry v) s m.rows
      match m.rows.mapM (entryRead s v) with
      | some rows => (answerReq s m v rows, false)
      | none =>
        let s := forEach (fun s e => askEntry s v e) s m.rows
        match m.rows.mapM (entryRead s v) with
        | some rows => (answerReq s m v rows, false)
        | none => (s, true)

/-- Let the held requests try again, in order. -/
def pumpReqs (s : State) : State :=
  let hs := s.sor.heldReqs
  forEach (fun s (h : Nat × BagMsg) =>
      let r := serveReq s h.2
      if r.2 then { r.1 with sor := { r.1.sor with heldReqs := r.1.sor.heldReqs ++ [h] } } else r.1)
    { s with sor := { s.sor with heldReqs := [] } } hs

/-- A held LOOKUP_REQ, or another read of a row, waits for bytes of T2 (R290). -/
def fetchWanted (s : State) (a n : Nat) : Bool :=
  s.sor.wanted.any (fun w => fetchCovers w.1 w.2 (a, n)) || s.sor.heldReqs.any (fun h => match liveVersion s h.2.table h.2.version with
    | some v => (h.2.rows.flatMap (entrySegs s v)).any (fun g => fetchCovers g.1 g.2.2.2 (a, n))
    | none => false)

/-- Whatever waited for a place, a frame or a row tries once more: transactions, writes, commits, look-ups and reads. -/
def resumeOnce (s : State) : State := pumpReads (pumpReqs (pumpCommits (retryWaits (forEach pumpTx s (List.range 8)))))

/-- Accesses that wait. -/
def waitCount (s : State) : Nat :=
  s.tier.waitWrites.length + s.tier.waitReads.length + s.tier.waitCommits.length + (s.stackList.map (fun x => x.waiting.length)).sum

/-- They try again as long as fewer are left each time, since one may wait behind another (R323). -/
def resumeLoop : Nat → State → State
  | 0, s => s
  | k + 1, s => let t := resumeOnce s
    if waitCount t < waitCount s then resumeLoop k t else t

/-- Whatever waited for a place, a frame or a row goes on (R302, R303, R305, R323, R349), and records behind it (R558). -/
def resume (s : State) : State := pumpRecs (resumeLoop (1 + waitCount s) s)

/-- A LOOKUP_REQ arrives. -/
def acceptReq (s : State) (m : BagMsg) : State :=
  let r := serveReq s m
  if r.2 then { r.1 with sor := { r.1.sor with heldReqs := r.1.sor.heldReqs ++ [(m.requester, m)] } } else r.1

/-- A LOOKUP_RSP arrives at the requester (R212, R218). A batch given up (R553) is over once every answer has come. -/
def acceptRsp (s : State) (m : LookupRsp) : State :=
  let mine (b : Batch) : Bool := b.table = m.table && b.step = m.step && b.mb = m.mb && b.version = m.version
  let hit (r : BatchReq) : Bool := !r.answered && r.msg.seq = m.seq && (r.k = m.ownerIndex || m.status = 1)
    && (m.status = 0 || serverOf s r.dst = some m.owner)
  match s.sor.batches.find? (fun b => mine b && b.reqs.any hit) with
  | none => s
  | some b =>
    let k := ((b.reqs.find? hit).map (·.k)).getD 0
    let upd (b : Batch) : Batch := { b with
      reqs := b.reqs.map (fun (r : BatchReq) => if r.k = k ∧ r.msg.seq = m.seq then { r with answered := true } else r)
      parts := if m.status = 0 then b.parts ++ [(k, m.seq, m.recs)] else b.parts }
    let finished (b : Batch) : Batch := if !batchLive s b && b.reqs.all (·.answered) then { b with complete := true } else b
    let s := { s with sor := { s.sor with batches := s.sor.batches.map (fun b => if mine b then finished (upd b) else b) } }
    let s := if m.status = 0 then s else
      let s := wf (bump s (R.SOR_VER_REFUSED_CNT b.home) 1) (R.SOR_LK_FLAGS b.home) F.SOR_LK_FLAGS_ver_refused 1
      evgFireIf s (rb s (R.SOR_CTL b.home) F.SOR_CTL_ver_event_en) (104 + b.home)
    poolProgress s

/-- The sorus engine a look-up answer is for: the home of its batch. -/
def rspEngine (s : State) (table step mb : Nat) : Nat :=
  ((s.sor.batches.find? (fun b => b.table = table && b.step = step && b.mb = mb)).map (·.home)).getD 0

/-- A look-up answer is taken in, or waits while its engine is asked to go idle (R262). -/
def offerRsp (s : State) (m : LookupRsp) : State :=
  if idleAsked s (0x20 + rspEngine s m.table m.step m.mb) then queueMsg s (.lookupRsp m) else acceptRsp s m

end Sys2Proof.Machine
end

