-- ==== Sys2Proof/Machine/LookupCmds.lean ====
section
/-! DEFINITION. Commands of the look-up path (R205 to R218, R238). -/

namespace Sys2Proof.Machine

/-- A data-plane block does its work unless the device has failed (R499). -/
def onData (g : State → State) (s : State) : State := if failed s then s else g s

/-- LOOKUP_BATCH_ADMIT: the step sequencer admits the look-up batch of a table and micro-batch (R22, R205). -/
def execLookupBatchAdmit (table mb : Nat) (s : State) : Host.Outcome State Fault Refusal :=
  .next (if mayAdmit s table mb then
      match admitStep s, planEntry s table with
      | some n, some p => match bindVersion s table n with
        | some v =>
          let r := localReads s (inputParts s p v.desc n mb)
          if r.2 then r.1 else admitBatch r.1 n p v mb
        | none => s
      | _, _ => s
    else s)

/-- LOOKUP_REQ: a request reaches this owner (R209, R218, R260, R329). -/
def execLookupReq (r : ReqArrival) (s : State) : Host.Outcome State Fault Refusal :=
  .next (onData (fun s => acceptReq (upsetCache s r.upsets) r.msg) s)

/-- LOOKUP_RSP: an answer reaches this requester (R212). -/
def execLookupRsp (m : LookupRsp) (s : State) : Host.Outcome State Fault Refusal := .next (onData (fun s => offerRsp s m) s)

/-- A LOOKUP_END is taken in; ends and counts of steps long past are forgotten (R238). -/
def acceptEnd (s : State) (source step count : Nat) : State :=
  if s.sor.ends.any (fun x => decide (x.1 = source) && decide (x.2.1 = step)) then s
  else
    let recent (x : Nat × Nat × Nat) : Bool := decide (step < x.2.1 + 4)
    pumpReqs { s with sor := { s.sor with
      ends := (source, step, count) :: s.sor.ends.filter recent
      answered := s.sor.answered.filter recent } }

/-- LOOKUP_END: a requester has sent every request of a step (R238). It waits in the input queue of the engine of stack 0 while that is
asked to go idle (R262; which engine takes it in is a DESIGN CHOICE, log 142). -/
def execLookupEnd (source step count : Nat) (s : State) : Host.Outcome State Fault Refusal :=
  .next (onData (fun s => if idleAsked s 0x20 then queueMsg s (.lookupEnd source step count) else acceptEnd s source step count) s)

/-- The sparse updates of every step before `n` to a table have all come in on this device, if it owns rows (R217). -/
def updatesIn (s : State) (v : TableVersion) (n : Nat) : Bool :=
  (homeRoles s v).isEmpty || (decide (n ≤ s.sor.closed) && (!detOf s (n - 1) || decide (n ≤ s.sor.merged))
    && (!dComp v.desc || (sparseRec s (storageOf v.desc)).isNone || n = 0 || (remMerged s v (n - 1) && remRowsIn s v (n - 1))))

/-- The oldest version of a table may retire (R217). -/
def mayRetire (s : State) (x : TableState) : Bool :=
  match x.versions.getLast? with
  | some old =>
    let v := dVersion old.desc
    let t := storageOf old.desc
    x.versions.dropLast.any (fun y => y.bound && tableQuiet s t y.effStep && updatesIn s old y.effStep)
      && !s.sor.batches.any (fun b => decide (b.table = x.id) && decide (b.version = v) && !b.complete)
      && !s.sor.heldReqs.any (fun h => decide (h.2.table = x.id) && decide (h.2.version = v))
      && !s.sor.expected.any (fun e => decide (e.table = t) && decide (e.version = v) && decide (e.status = 0))
      && !s.sor.log.any (fun y => decide (y.2.table = t) && decide (y.2.version = v))
      && !s.sor.remGrads.any (fun m => decide (m.table = t) && decide (m.version = v))
  | none => false

/-- Retire the oldest version; the TABLE_SWAP that replaced it completes (R217). -/
def retireVersion (s : State) (x : TableState) : State :=
  let left := x.versions.dropLast
  let s := setTable s { x with versions := left, swapCmd := none }
  match x.swapCmd with
  | some c => finOk s c []
  | none => s

/-- TABLE_VERSION_RETIRE: an older version of a table retires once R217 holds. -/
def execTableVersionRetire (table : Nat) (s : State) : Host.Outcome State Fault Refusal :=
  let x := tableState s table
  .next (if mayRetire s x then retireVersion s x else s)

end Sys2Proof.Machine
end

