-- ==== Sys2Proof/Machine/Update.lean ====
section
/-! DEFINITION. The sparse update path: gradients at the requester, merging, closing, applying, remainder rows (R230 to R256,
R531). -/

namespace Sys2Proof.Machine

/-! ## Requester (R230 to R233) -/

/-- Element `e` of a bag's pooled gradient, an FP32 word of the frond store (R230). -/
def gradWord (s : State) (o mb i e : Nat) : W32 :=
  let f := optNow s 1 (o + 4) 1 % 32
  let base := optNow s 1 (o + (if mb % 2 = 0 then 8 else 0xC)) 4
  BitVec.ofNat 32 (numAt s (storeBase f + base + i * optNow s 1 (o + 6) 2 * 64 + 4 * e) 4)

/-- The FP16 gradient vector of a bag (R233): bag `i` of the micro-batch. -/
def bagGrad (s : State) (b : Batch) (d : List Byte) (o i : Nat) (g : BatchBag) : List Nat :=
  (List.range (dOut d)).map (fun e =>
    let x := f32v (gradWord s o b.mb i e)
    let v := if dPool d = 1 then fvDiv x (fvInt (g.valid : Int)) else x
    (toIeee lFP16 (.sr (randOf (jobSeed s) (dStreamBwd d) b.step b.mb ((g.sample * 4096 + b.table) * 1024 + e))) v).1)

/-- Expected update messages that will not come are counted (R243, R519). -/
def countLateUpd (s : State) (h n : Nat) : State :=
  if n = 0 then s else updFlag (bump s (R.SOR_UPD_LATE_CNT h) n) h F.SOR_UPD_FLAGS_late F.SOR_UPD_CTL_late_event_en

/-- Send the UPDATE_REQ messages of a batch (R231, R234, R235), each to the device that answered its look-up; one for a device lost
since is abandoned and counts as a dropped contribution (R519). -/
def sendUpdates (s : State) (b : Batch) (v : TableVersion) (o : Nat) : State :=
  let d := v.desc
  let grads := b.bags.zipIdx.map (fun g => (g.1.sample, bagGrad s b d o g.2 g.1))
  let used := (grads.zip b.bags).filter (fun x => decide (0 < x.2.valid))
  let s := overflowCodes s b.step (used.flatMap (fun x => x.1.2))
  let s := forEach (fun s r =>
      let bags := r.msg.bags.map (fun x => ({ x with grad := alGet [] grads x.sample } : Bag))
      let dst := r.sent.getD r.dst
      if isLost s dst then countLateUpd s b.home 1
      else sendMsg s dst (.updateReq { r.msg with table := storageOf d, bags := bags })) s b.reqs
  { s with sor := { s.sor with
    updSent := (b.table, b.mb, b.step) :: s.sor.updSent
    batches := s.sor.batches.filter (fun x => !(x.table = b.table && x.mb = b.mb && x.step = b.step)) } }

/-- Updated tables of the plan whose pooled gradients a frond holds, with their records' offsets. -/
def gradTables (s : State) (frond : Nat) : List (Nat × Nat) :=
  (plannedTables s).filterMap (fun t => match sparseRec s t with
    | some o => if optNow s 1 (o + 4) 1 % 32 = frond then some (t, o) else none
    | none => none)

/-- The step of the next update batches of micro-batch `k` of a frond: the oldest with a batch of its tables left. -/
def updateStep (s : State) (f k : Nat) : Option Nat :=
  (minBy (fun (b : Batch) => b.step) (s.sor.batches.filter (fun b => batchLive s b && decide (b.mb = k)
    && (gradTables s f).any (fun t => t.1 = b.table)))).map (·.step)

/-- The update batches of micro-batch `k` of a frond may start: its GRAD_RDY bit is set, its look-ups are complete, and those of
micro-batch k − 2 have started (R230, R362); an engine asked to go idle starts none (R262). -/
def mayUpdate (s : State) (n f k : Nat) : Bool :=
  let ts := gradTables s f
  !failed s && !ts.isEmpty && ts.all (fun t => !idleAsked s (0x20 + homeOf s t.1)) && sbBit s f (1020 + k % 2)
    && ts.all (fun t => s.sor.batches.any (fun b => decide (b.table = t.1) && decide (b.step = n) && decide (b.mb = k) && b.complete)
        && (decide (k < 2) || s.sor.updSent.contains (t.1, k - 2, n)))

/-- Start the update batches: GRAD_RDY clears, every message is sent, GRAD_FREE is set (R362). -/
def startUpdate (s : State) (n f k : Nat) : State :=
  let s := setSb s f (1020 + k % 2) false
  let s := forEach (fun s (t : Nat × Nat) =>
      match s.sor.batches.find? (fun b => b.table = t.1 && b.step = n && b.mb = k) with
      | some b => match liveVersion s t.1 b.version with
        | some v => sendUpdates s b v t.2
        | none => s
      | none => s) s (gradTables s f)
  setSb s f (1022 + k % 2) true

/-! ## Merging (R239 to R242) -/

/-- The term of a ref at element `e` of the combined vector, before the compositional factor (R239). -/
def poolTerm (d : List Byte) (h : List Nat) (aux e : Nat) : FV :=
  match dPool d with
  | 2 => fvMul (fp16Val (h.getD e 0)) (bf16Val aux)
  | 3 => fp16Val (h.getD (aux * dInner d + e) 0)
  | _ => fp16Val (h.getD e 0)

/-- Terms of a ref for the stored or quotient row, and for the remainder row (R239): `a` and `b` are the row values. -/
def refTerms (d : List Byte) (h : List Nat) (aux : Nat) (a b : List FV) : List W32 × List W32 :=
  let t (e : Nat) : FV := poolTerm d h aux e
  let w := dWidth d
  if !dComp d then ((List.range w).map (fun e => toF32 (t e)), [])
  else match dCombine d with
    | 0 => ((List.range w).map (fun e => toF32 (fvMul (t e) (b.getD e .nan))), (List.range w).map (fun e => toF32 (fvMul (t e) (a.getD e .nan))))
    | 1 => ((List.range w).map (fun e => toF32 (t e)), (List.range w).map (fun e => toF32 (t e)))
    | _ => ((List.range w).map (fun e => toF32 (t e)), (List.range (dRemWidth d)).map (fun e => toF32 (t (w + e))))

/-- Change the staging entry of a row. -/
def modStage (s : State) (own t v row : Nat) (rem : Bool) (n : Nat) (f : StageEntry → StageEntry) : State :=
  { s with sor := { s.sor with stage := s.sor.stage.map (fun x => if stageKey x own t v row rem n then f x else x) } }

/-- Add a row's terms into its entry by R119. -/
def addTerms (s : State) (own t v row : Nat) (rem : Bool) (n : Nat) (ts : List W32) : State :=
  modStage s own t v row rem n (fun x => { x with pairs := List.zipWith (fun p y => pairAdd p (f32v y)) x.pairs ts })

/-- Merge an UPDATE_REQ (R239, R240): `vals` holds the values of quotient and remainder rows of each row entry. -/
def mergeReq (s : State) (m : BagMsg) (v : TableVersion) (vals : List (List FV × List FV)) : State :=
  let d := v.desc
  let t := storageOf d
  let ver := dVersion d
  let at' (i : Nat) : RowEntry := m.rows.getD i ⟨0, 0⟩
  let ro (o : Nat) : Nat := readOwner s v.owners o true
  let s := forEach (fun s b => forEach (fun s r =>
      let e := at' r.idx
      let o := entryOwner v e
      let ab := vals.getD r.idx ([], [])
      let ts := refTerms d b.grad r.aux ab.1 ab.2
      let s := addTerms s o.1 t ver o.2 false m.step ts.1
      if dComp d then addTerms s (ro o.1) t ver e.rem true m.step ts.2 else s) s b.refs) s m.bags
  let h := homeOf s t
  let s := bump s (R.SOR_UPD_TERM_CNT h) ((m.bags.map (fun b => b.refs.length)).sum * (if dComp d then 2 else 1))
  let dec (x : StageEntry) : StageEntry := { x with count := x.count - 1 }
  forEach (fun s e =>
      let o := entryOwner v e
      let s := modStage s o.1 t ver o.2 false m.step dec
      if dComp d then modStage s (ro o.1) t ver e.rem true m.step dec else s) s m.rows

/-- The rows whose values a merge needs: quotient and remainder rows for combine 0, none otherwise. -/
def mergeRows (s : State) (m : BagMsg) (v : TableVersion) : List (Nat × Bool × Nat) :=
  if dComp v.desc && decide (dCombine v.desc = 0) then m.rows.flatMap (entryRows s v) else []

/-- A row of a merge cannot be read yet (R290, R303, R349). -/
def mergeHeld (s : State) (m : BagMsg) (v : TableVersion) : Bool :=
  (mergeRows s m v).any (fun r => rowHeld s r.1 v.desc r.2.1 r.2.2 1)

/-- The values of those rows; no answer while one is held or must first be rebuilt (R524). -/
def mergeVals (s : State) (m : BagMsg) (v : TableVersion) : Option (List (List FV × List FV)) :=
  if mergeHeld s m v then none
  else if dComp v.desc && decide (dCombine v.desc = 0) then
    m.rows.mapM (fun e => (entryRead s v e).map (fun r => (r.getD 0 [], r.getD 1 [])))
  else some (m.rows.map (fun _ => ([], [])))

/-- The reads of a merge meet what errs; a row that cannot be read is asked for (R290, R334, R337, R524). -/
def askMerge (s : State) (m : BagMsg) (v : TableVersion) : State :=
  if mergeHeld s m v then forEach (fun s r => wantRow s r.1 v.desc r.2.1 r.2.2 1) s (mergeRows s m v)
  else
    let s := forEach (fun s r => meetRow s r.1 v.desc r.2.1 r.2.2 1) s (mergeRows s m v)
    if (mergeVals s m v).isNone then forEach (fun s e => askEntry s v e) s m.rows else s

/-- The reads of a merge, counted. -/
def useMerge (s : State) (m : BagMsg) (v : TableVersion) : State :=
  forEach (fun s r => useRow s r.1 v.desc r.2.1 r.2.2 1) s (mergeRows s m v)

/-- An expected message answers to this one (R241). -/
def expects (m : BagMsg) (x : Expected) : Bool :=
  x.status = 0 && x.src = m.requester && x.table = m.table && x.version = m.version && x.mb = m.mb && x.seq = m.seq && x.step = m.step
    && x.rows = m.rows

/-- The first expected message that `p` selects changes its status. -/
def setFirst (p : Expected → Bool) (st : Nat) : List Expected → List Expected
  | [] => []
  | x :: xs => if p x then { x with status := st } :: xs else x :: setFirst p st xs

/-- An engine is under back-pressure (R256), or asked to go idle and accepts no message (R262). -/
def backPressure (s : State) (k : Nat) : Bool := rb s (R.SOR_UPD_STATUS k) F.SOR_UPD_STATUS_bp || idleAsked s (0x20 + k)

/-- An UPDATE_REQ is accepted: merged, logged, or discarded (R240 to R242). -/
def acceptUpdate (s : State) (m : BagMsg) : State :=
  let h := homeOf s m.table
  match s.sor.expected.find? (expects m) with
  | none => updFlag (bump s (R.SOR_UPD_DUP_CNT h) 1) h F.SOR_UPD_FLAGS_dup F.SOR_UPD_CTL_dup_event_en
  | some x =>
    match liveVersion s x.asked x.version with
    | none => s
    | some v =>
      let s := if detOf s m.step then s else askMerge s m v
      let s' := bump { s with sor := { s.sor with expected := setFirst (expects m) 1 s.sor.expected } } (R.SOR_UPD_MSG_CNT h) 1
      if detOf s m.step then { s' with sor := { s'.sor with log := s'.sor.log ++ [(x.asked, m)] } }
      else match mergeVals s m v with
        | some vals => mergeReq (useMerge s' m v) m v vals
        | none => queueMsg s (.updateReq m)

/-! ## Closing a step (R238, R243, R250) -/

/-- Owner index of this device's role `own` in a version. -/
def ownerIdx (v : TableVersion) (own : Nat) : Option Nat := v.owners.findIdx? (fun d => d = own)

/-- Newest versions of the compositional storage tables with a record for step `n`. -/
def remTables (s : State) : List TableVersion :=
  (storageTables s).filterMap (fun t => if dComp t.2 && (sparseRec s t.1).isSome then newestVersion s t.1 else none)

/-- Cut records of `size` bytes into messages of at most 1 MiB with their 32-byte header (R234). -/
def recordCuts {A : Type} (size : Nat) (rs : List A) : List (List A) := chunksOf (max 1 ((2 ^ 20 - 32) / size)) rs

/-- Records of one version after another, each version's in messages of its own; at least one message, of version `v`. -/
def versionCuts {A : Type} (v : Nat) (parts : List (Nat × List (List A))) : List (Nat × List A) :=
  let ms := parts.flatMap (fun p => p.2.map (fun rs => (p.1, rs)))
  if ms.isEmpty then [(v, [])] else ms

/-- The versions of entries, ascending. -/
def versionsOf (vs : List Nat) : List Nat := vs.foldl (fun acc v => insertAsc v acc) []

/-- The devices that serve the owners of a version, each once, in the order of its owner list (R518). -/
def serversOf (s : State) (v : TableVersion) : List Nat := (v.owners.filterMap (serverOf s)).eraseDups

/-- The home of a remainder row: the device that serves owner index r mod n_own (R250, R518). -/
def homeDevice (s : State) (v : TableVersion) (r : Nat) : Option Nat := serverOf s (v.owners.getD (r % dOwn v.desc) 0)

/-- Send the remainder entries of step `n` to their homes, in one series to each device that serves an owner of the table; they leave
the staging area (R250). -/
def sendRemGrads (s : State) (n : Nat) : State :=
  forEach (fun s v =>
    let t := storageOf v.desc
    let mine := s.sor.stage.filter (fun x => x.table = t && x.rem && decide (x.step = n))
    let s := { s with sor := { s.sor with stage := s.sor.stage.filter (fun x => !(x.table = t && x.rem && decide (x.step = n))) } }
    if (homeRoles s v).isEmpty then s
    else
      forEach (fun s dst =>
        let theirs := mine.filter (fun x => homeDevice s v x.row = some dst)
        let parts := (versionsOf (theirs.map (·.version))).map (fun w =>
          (w, recordCuts (8 + 8 * dRemWidth v.desc) ((theirs.filter (fun x => x.version = w)).map (fun x => (x.row, x.pairs)))))
        let ms := versionCuts (dVersion v.desc) parts
        forEach (fun s (p : (Nat × List (Nat × List (W32 × W32))) × Nat) =>
          sendMsg s dst (.remGrad ⟨p.1.1, t, selfId s, n, p.1.2, p.2, decide (p.2 + 1 = ms.length)⟩)) s ms.zipIdx) s
        (serversOf s v)) s (remTables s)

/-- Cancel the expected messages that `p` selects (R243). -/
def cancelExpected (s : State) (p : Expected → Bool) : State :=
  let hit (x : Expected) : Bool := x.status = 0 && p x
  let hits := s.sor.expected.filter hit
  let up (x : Expected) : Expected := if hit x then { x with status := 2 } else x
  let s := { s with sor := { s.sor with expected := s.sor.expected.map up } }
  forEach (fun s x => countLateUpd s (homeOf s x.table) 1) s hits

/-- No sorus engine is asked to go idle and no planned owner is lost without a deputy yet: remainder rows may be sent (R262, R518). -/
def enginesFree (s : State) : Bool := (List.range 8).all (fun k => !idleAsked s (0x20 + k)) && ownersServed s

/-- The owner may close step `n` (R243). -/
def mayClose (s : State) (n : Nat) : Bool :=
  decide (s.sor.closed ≤ n) && answeredAll s n && !s.sor.expected.any (fun x => decide (x.step = n) && decide (x.status = 0))
    && enginesFree s

/-- SOR_UPD_STEP of each stack: the last closed step, once its entries there are gone. -/
def updateUpdStep (s : State) : State :=
  if s.sor.closed = 0 then s
  else forEach (fun s k =>
    let n := s.sor.closed - 1
    let busy := s.sor.stage.any (fun x => x.stack = k && decide (x.step ≤ n)) || s.sor.pend.any (fun x => x.stack = k && decide (x.step ≤ n))
      || s.sor.commit.any (fun x => x.stack = k && decide (x.step ≤ n)) || (detOf s n && decide (s.sor.merged ≤ n))
    if busy then s else wf s (R.SOR_UPD_STEP k) F.SOR_UPD_STEP_step n) s (List.range 8)

/-- The series of SOREDIUM messages of closed steps that no delta can follow end: where the last delta sent could not be known as the
last, because the rows after it were skipped or are remainder rows, an empty message carries the flag (R234; DESIGN CHOICE, log 121). -/
def endSeries (s : State) : State :=
  forEach (fun s (x : (Nat × Nat) × Nat) =>
    let dst := x.1.1
    let n := x.1.2
    let closedOut := decide (n < s.sor.closed) && (!detOf s n || decide (n < s.sor.merged)) && decide (rowsTowards s dst n = 0)
      && (remTables s).all (fun v => (homeRoles s v).isEmpty || (s.sor.remSent.contains (storageOf v.desc, n) && remRowsIn s v n))
    if !closedOut || isLost s dst || s.sor.sorEnded.contains (dst, n) then s else (sendSoredium s dst n [] true).1) s s.sor.sorSeq

/-- Close step `n` on the owner. -/
def closeStep (s : State) (n : Nat) : State :=
  let s := { s with sor := { s.sor with
    closed := n + 1
    expected := s.sor.expected.filter (fun x => decide (n < x.step + 2))
    unstaged := s.sor.unstaged.filter (fun x => decide (n < x.step)) } }
  let s := if detOf s n then s else sendRemGrads s n
  pumpReqs (updateUpdStep (endSeries s))

/-- Logged messages in the order of R242 (insertion, stable): those that agree in source, micro-batch and seq keep the order in which they
were accepted (DESIGN CHOICE, log 141). -/
def logInsert (x : Nat × BagMsg) : List (Nat × BagMsg) → List (Nat × BagMsg)
  | [] => [x]
  | y :: ys =>
    let key (z : Nat × BagMsg) : Nat := (z.2.requester * 65536 + z.2.mb) * 65536 + z.2.seq
    if key x < key y then x :: y :: ys else y :: logInsert x ys

/-- Merge the log of step `n` (R242); while a row it needs cannot be read, ask for that row. -/
def detMerge (s : State) (n : Nat) : State :=
  let ms := (s.sor.log.filter (fun x => decide (x.2.step = n))).foldl (fun acc x => logInsert x acc) []
  let todo := ms.filterMap (fun x => (liveVersion s x.1 x.2.version).map (fun v => (x.2, v)))
  let s := forEach (fun s x => askMerge s x.1 x.2) s todo
  match todo.mapM (fun x => (mergeVals s x.1 x.2).map (fun vals => (x, vals))) with
  | none => s
  | some xs =>
    let s := forEach (fun s x => mergeReq (useMerge s x.1.1 x.1.2) x.1.1 x.1.2 x.2) s xs
    let s := { s with sor := { s.sor with log := s.sor.log.filter (fun x => decide (x.2.step ≠ n)), merged := n + 1 } }
    sendRemGrads s n

/-! ## Applying a row (R244 to R248, R253 to R256, R531) -/

/-- An entry may apply (R244, R251). -/
def mayApply (s : State) (x : StageEntry) : Bool :=
  if idleAsked s (0x20 + x.stack) then false
  else if x.rem then s.sor.remDone.contains (x.table, x.step)
  else if detOf s x.step then decide (x.step < s.sor.merged)
  else (decide (x.count = 0) && answeredAll s x.step) || decide (x.step < s.sor.closed)

/-- The optimiser parameters of a record that an apply starting now uses (R57). -/
def sparseParams (s : State) (o : Nat) : OptParams :=
  let w (off : Nat) : W32 := BitVec.ofNat 32 (optNow s 1 (o + off) 4)
  let fl := optNow s 1 (o + 3) 1
  ⟨optNow s 1 (o + 2) 1, bitOf fl 0, bitOf fl 1, false, w 0x10, w 0x14, w 0x18, w 0x1C, w 0x20, w 0x24⟩

/-- A commit buffer of a stack has room (R259): 4 MiB. -/
def commitRoom (s : State) (stack n : Nat) : Bool :=
  decide (((s.sor.commit.filter (fun c => c.stack = stack)).map (fun c => (c.parts.map (fun p => p.2.length)).sum)).sum + n ≤ 0x40_0000)

/-- Bytes of a list with those from offset `o` replaced. -/
def patch (bs : List Byte) (o : Nat) (new : List Byte) : List Byte := bs.take o ++ new ++ bs.drop (o + new.length)

/-- What applying a gradient to a row's bytes gives (R245 after the check of R246, R247, R248): the new bytes, or none when the
row is skipped. The moments' codes fill whole blocks (R77). -/
def newRow (o : OptParams) (w : Nat) (etaStep : W32) (g : List W32) (old : List Byte) : Option (List Byte) :=
  let b := (w + 31) / 32
  let bf := old.take (planeP w)
  let ext := (old.drop (planeP w)).take (planeE w)
  let st := old.drop (planeP w + planeE w)
  let x := (List.range w).map (fun e => px24Val (fieldAt bf (2 * e) 2) (fieldAt ext e 1))
  let sq (g : List W32) : W32 := compSum (g.map (fun y => f32mul y y))
  let g := if pos32 o.clip then
      let n2 := sq g
      if fvLt (f32v (f32mul o.clip o.clip)) (f32v n2) then g.map (fun y => f32mul y (f32mul o.clip (rsqW n2))) else g
    else g
  let eta := f32mul etaStep o.lrScale
  let g := if pos32 o.decay && !o.decoupled then List.zipWith (fun y v => f32fma o.decay (toF32 v) y) g x else g
  let scaleAt (off i : Nat) : Nat := fieldAt st (off + 2 * (i / 32)) 2
  let mOff := if o.algo = 0 then 32 * b else 64 * b
  let m := if o.algo = 1 then g.map (fun _ => 0) else (List.range w).map (fun e => q8bVal (fieldAt st e 1) (scaleAt mOff e))
  let v := if o.algo = 2 then (List.range w).map (fun e => u8bVal (fieldAt st (32 * b + e) 1) (scaleAt (66 * b) e)) else g.map (fun _ => 0)
  let t := min (fieldAt st (68 * b) 4 + 1) (2 ^ 32 - 1)
  let k := biasFactors o t
  let a := f32add (BitVec.ofNat 32 (fieldAt st 0 4)) (f32mul (sq g) (f32div one32 (int32 w)))
  let umv : List (W32 × W32 × W32) := if o.algo = 1 then g.map (fun y => (f32mul y (rsqW (f32add a o.eps)), 0, 0))
    else (g.zip (m.zip v)).map (fun y => optElem o k y.1 y.2.1 y.2.2)
  let u := if pos32 o.decay && o.decoupled then List.zipWith (fun y z => f32fma o.decay (toF32 z) y) (umv.map (·.1)) x else umv.map (·.1)
  let xn := List.zipWith (fun y z => f32fma (eta ^^^ 0x80000000#32) y (toF32 z)) u x
  let nm := umv.map (fun y => y.2.1)
  let nv := umv.map (fun y => y.2.2)
  if !(xn.all isFin32 && nm.all isFin32 && nv.all isFin32 && (o.algo ≠ 1 || isFin32 a)) then none
  else
    let codes := xn.map (fun y => (toIeee lPX24 .ne (f32v y)).1)
    let bf := patch bf 0 (leAll 2 (codes.map (· / 256)))
    let ext := patch ext 0 (leAll 1 codes)
    let qm := encQ8B nm
    let qv := encU8B nv
    let st := if o.algo = 1 then patch st 0 (leBytes 4 a.toNat)
      else if o.algo = 0 then patch (patch st 0 (leAll 1 qm.1)) (32 * b) (leAll 2 qm.2)
      else patch (patch (patch (patch (patch st 0 (leAll 1 qm.1)) (32 * b) (leAll 1 qv.1)) (64 * b) (leAll 2 qm.2)) (66 * b) (leAll 2 qv.2))
        (68 * b) (leBytes 4 t)
    some (bf ++ ext ++ st)

/-- What a commit of a row does to a rebuilt copy kept for reads: that of a restored row takes the new bytes, another goes, since the
spare slot is read again (R523, R531). -/
def renewCopy (s : State) (own : Nat) (key : SlotKey) (new : List Byte) : State :=
  let mine (r : Rebuild) : Bool := r.done && r.subject = own && r.key = key && !r.parity
  if own = selfId s then s
  else if rowRestored s own key then
    { s with recov := { s.recov with
      rebuilds := s.recov.rebuilds.map (fun (r : Rebuild) => if mine r then { r with acc := new ++ r.acc.drop new.length } else r) } }
  else { s with recov := { s.recov with rebuilds := s.recov.rebuilds.filter (fun r => !mine r) } }

/-- Commit new bytes of a row in its places (R257, R259). -/
def commitRow (s : State) (own t v row : Nat) (rem : Bool) (n : Nat) (d : List Byte) (old new : List Byte) : State :=
  let ps := commitPlaces s own d rem row
  let parts := (ps.foldl (fun (acc : Nat × List (Nat × List Byte)) p =>
    (acc.1 + p.2, acc.2 ++ [(p.1, (new.drop acc.1).take p.2)])) (0, [])).2
  startCommit (renewCopy s own ⟨t, rem, row⟩ new) own t v row rem n (xorBytes old new) (parts.filter (fun p => !p.2.isEmpty))

/-- The version a row of a storage table and version number belongs to. -/
def rowVersion (s : State) (t v : Nat) : Option TableVersion := storageVersion s t v

/-- The rest of R245 on a row with gradient `g` (R245, R247, R248). -/
def finishRow (s : State) (x : PendEntry) (v : TableVersion) (old : List Byte) : State :=
  let w := rowW v.desc x.rem
  match newRow x.par w (etaStep s x.step) x.g old with
  | none => updFlag (cntAdd (bump s (R.SOR_UPD_RSKIP_CNT x.stack) 1) 19 1) x.stack F.SOR_UPD_FLAGS_rskip F.SOR_UPD_CTL_rskip_event_en
  | some new => commitRow s x.own x.table x.version x.row x.rem x.step v.desc old new

/-- Pages of a row's parts in T2, each once with the lines of the row in it, ascending (R291); a lost page counts as T2 (R253, R305). -/
def rowT2 (s : State) (d : List Byte) (rem : Bool) (l : Nat) : List (Nat × List Nat) :=
  let gs := ((rowParts s d rem l).flatMap (fun p => pageSegs p.1 p.2)).filter (fun g => pteTier (pte s g.1) = 2 ∨ pteTier (pte s g.1) = 3)
  (gs.map (·.1)).eraseDups.map (fun p =>
    (p, ((gs.filter (fun g => g.1 = p)).flatMap (fun g => linesOf g.2.1 g.2.2)).foldl (fun ls l => insertAsc l ls) []))

def pendBytes (x : PendEntry) : Nat := 16 + 4 * x.g.length

/-- Bytes pending on a stack in the buffer or (spilled) in the ring. -/
def pendUse (s : State) (stack : Nat) (spilled : Bool) : Nat :=
  ((s.sor.pend.filter (fun x => x.stack = stack && x.spilled = spilled)).map pendBytes).sum

/-- The spill ring of a stack is full or not: SOR_UPD_STATUS.bp with its flag (R256). -/
def setBp (s : State) (k : Nat) (on : Bool) : State :=
  let s := if on then (if rb s (R.SOR_UPD_STATUS k) F.SOR_UPD_STATUS_bp then s else
      updFlag s k F.SOR_UPD_FLAGS_bp F.SOR_UPD_CTL_bp_event_en) else s
  wf s (R.SOR_UPD_STATUS k) F.SOR_UPD_STATUS_bp (b2n on)

/-- Place a pending entry in the buffer, or in order in the spill ring; none when both are full (R253, R255). -/
def placePending (s : State) (x : PendEntry) : Option State :=
  let k := x.stack
  let ring := s.sor.pend.any (fun y => y.stack = k && y.spilled)
  if !ring && decide (pendUse s k false + pendBytes x ≤ 0x20_0000) then
    some (bump { s with sor := { s.sor with pend := s.sor.pend ++ [x] } } (R.SOR_UPD_PEND_CNT k) 1)
  else if pendUse s k true + pendBytes x ≤ s.sor.spillSize * 65536 then
    some (bump (bump { s with sor := { s.sor with pend := s.sor.pend ++ [{ x with spilled := true }] } } (R.SOR_UPD_PEND_CNT k) 1)
      (R.SOR_UPD_SPILL_CNT k) 1)
  else none

/-- Ask the tier manager for the pages of a row, the row's lines first (R253, R291). -/
def demandPages (s : State) (ps : List (Nat × List Nat)) : State :=
  forEach (fun s (p : Nat × List Nat) => addDemand s p.1 p.2) s ps

/-- Some remainder row of a table and step is still to be applied, to come from T2 or to be committed. -/
def remLeft (s : State) (t n : Nat) : Bool :=
  s.sor.stage.any (fun y => y.table = t && y.rem && decide (y.step = n))
    || s.sor.pend.any (fun y => y.table = t && y.rem && decide (y.step = n))
    || s.sor.commit.any (fun y => y.table = t && y.rem && decide (y.step = n))

/-- Send the committed remainder rows of the steps merged once none is left to commit, in one series to each other device that serves
an owner; one that serves several sends them to itself too, for the other copies it keeps (R252, R518). They wait while an owner is lost
and not served yet. -/
def sendRemRows (s : State) : State :=
  forEach (fun s (x : Nat × Nat) =>
    match newestVersion s x.1 with
    | none => s
    | some v =>
      if remLeft s x.1 x.2 ∨ s.sor.remSent.contains x ∨ v.owners.any (fun d => isLost s d && !lostCommitted s d) then s
      else
        let mine := s.sor.remOut.filter (fun r => r.table = x.1 && decide (r.step = x.2))
        let w := dRemWidth v.desc
        let parts := (versionsOf (mine.map (·.version))).map (fun u =>
          (u, recordCuts (8 + planeP w + planeE w) ((mine.filter (fun r => r.version = u)).map (fun r => (r.row, r.bf, r.ext)))))
        let ms := versionCuts (dVersion v.desc) parts
        let s := forEach (fun s d => if d = selfId s ∧ (homeRoles s v).length ≤ 1 then s else
            forEach (fun s (p : (Nat × List (Nat × List Byte × List Byte)) × Nat) =>
              sendMsg s d (.remRow ⟨p.1.1, x.1, selfId s, x.2, p.1.2, p.2, decide (p.2 + 1 = ms.length)⟩)) s ms.zipIdx) s (serversOf s v)
        { s with sor := { s.sor with
          remSent := x :: (s.sor.remSent.filter (fun y => decide (x.2 < y.2 + 4)))
          remOut := s.sor.remOut.filter (fun r => !(r.table = x.1 && decide (r.step = x.2))) } }) s s.sor.remDone

/-- An entry's row has been applied, skipped or put among the pending ones: what waited for that goes on. -/
def rowLeft (s : State) : State := pumpReqs (updateUpdStep (endSeries (sendRemRows s)))

/-- Take a staging entry away. -/
def dropStage (s : State) (x : StageEntry) : State :=
  rowLeft { s with sor := { s.sor with stage := s.sor.stage.erase x } }

/-- Apply an entry (R245, R246, R253, R531). -/
def applyEntry (s : State) (x : StageEntry) : State :=
  match rowVersion s x.table x.version, sparseRec s x.table with
  | some v, some o =>
    if rowLost s x.own ⟨x.table, x.rem, x.row⟩ then bump (dropStage s x) R.DEV_REC_LOSTROW_CNT 1
    else
      let scale : FV := .fin false 1 (-(lossExp s x.step : Int))
      let g := x.pairs.map (fun p => toF32 (fvMul (pairVal p.1 p.2) scale))
      let e : PendEntry := ⟨x.own, x.table, x.version, x.row, x.rem, x.stack, x.step, g, sparseParams s o, false⟩
      if !g.all isFin32 then
        updFlag (cntAdd (bump (dropStage s x) (R.SOR_UPD_SKIP_CNT x.stack) 1) 19 1) x.stack F.SOR_UPD_FLAGS_skip F.SOR_UPD_CTL_skip_event_en
      else
        let far := if x.own = selfId s then rowT2 s v.desc x.rem x.row else []
        if far.isEmpty then
          if !commitRoom s x.stack (partsLen s v.desc x.rem x.row 3) then s
          else match takeRow s x.own v.desc x.rem x.row with
            | (s, some old) => dropStage (finishRow s e v old) x
            | (s, none) => s
        else match placePending s e with
          | some s => demandPages (dropStage s x) far
          | none => setBp s x.stack true
  | _, _ => dropStage s x

/-- A pending entry is taken away. -/
def dropPending (s : State) (x : PendEntry) : State := rowLeft { s with sor := { s.sor with pend := s.sor.pend.erase x } }

/-- Complete a pending entry whose pages are all in T1 (R253, R254), unless its engine is asked to go idle (R262); that of a row lost
since is skipped and counted (R531). -/
def completePending (s : State) (x : PendEntry) : State :=
  match rowVersion s x.table x.version with
  | some v =>
    if idleAsked s (0x20 + x.stack) then s
    else if rowLost s x.own ⟨x.table, x.rem, x.row⟩ then bump (dropPending s x) R.DEV_REC_LOSTROW_CNT 1
    else if !(rowT2 s v.desc x.rem x.row).isEmpty || !commitRoom s x.stack (partsLen s v.desc x.rem x.row 3) then s
    else match takeRow s x.own v.desc x.rem x.row with
      | (s, some old) => dropPending (finishRow s x v old) x
      | (s, none) => s
  | none => dropPending s x

/-! ## Remainder rows (R250 to R252) -/

/-- A device's REM_GRAD series of a storage table and step has come. -/
def remGradsFrom (s : State) (t n d : Nat) : Bool :=
  seriesIn ((s.sor.remGrads.filter (fun m => m.table = t && decide (m.step = n) && decide (m.source = d))).map (fun m => (m.seq, m.last)))

/-- The REM_GRADs of every owner role of step `n` have come (R251, R518). -/
def remGradsIn (s : State) (v : TableVersion) (n : Nat) : Bool := v.owners.all (roleIn s (remGradsFrom s (storageOf v.desc) n) n)

/-- The devices whose REM_GRADs of step `n` count, in the order of the owner indices they serve (R251, R518). -/
def remSources (s : State) (v : TableVersion) (n : Nat) : List Nat :=
  (v.owners.map (fun d => if remGradsFrom s (storageOf v.desc) n d then d else (serverOf s d).getD d)).eraseDups

/-- The staging entry of a remainder row of version `u` at its home: its pairs from the owners, joined in their order (R251). -/
def remEntry (s : State) (v : TableVersion) (u n r : Nat) (ps : List (List (W32 × W32))) : StageEntry :=
  let own := readOwner s v.owners (v.owners.getD (r % dOwn v.desc) 0) true
  let stack := servingStack s (((rowParts s v.desc true r).headD (0, 0)).1)
  ⟨own, storageOf v.desc, u, r, true, stack, n, 0, ps.tail.foldl pairsJoin (ps.headD [])⟩

/-- Merge the remainder gradients of step `n` in ascending owner index (R251): the rows become staging entries of the home. -/
def mergeRem (s : State) (v : TableVersion) (n : Nat) : State :=
  let t := storageOf v.desc
  let ms := (remSources s v n).flatMap (fun d => s.sor.remGrads.filter (fun m => m.table = t && decide (m.step = n) && decide (m.source = d)))
  let entries := (versionsOf (ms.map (·.version))).flatMap (fun u =>
    let recs := (ms.filter (fun m => m.version = u)).flatMap (·.recs)
    let rows := recs.foldl (fun acc r => insertAsc r.1 acc) []
    rows.map (fun r => remEntry s v u n r ((recs.filter (fun x => x.1 = r)).map (·.2))))
  let keep (m : RemGrad) : Bool := !(m.table = t && decide (m.step = n))
  { s with sor := { s.sor with
    stage := s.sor.stage ++ entries
    remGrads := s.sor.remGrads.filter keep
    remDone := (t, n) :: (s.sor.remDone.filter (fun x => decide (n < x.2 + 4))) } }

/-- A REM_GRAD reaches the home (R250, R251). -/
def acceptRemGrad (s : State) (m : RemGrad) : State :=
  match rowVersion s m.table m.version with
  | none => s
  | some v =>
    if s.sor.remGrads.any (fun x => x.table = m.table && x.step = m.step && x.source = m.source && x.seq = m.seq)
      || s.sor.remDone.contains (m.table, m.step) then s
    else
      let s := { s with sor := { s.sor with remGrads := s.sor.remGrads ++ [m] } }
      if remGradsIn s v m.step then sendRemRows (mergeRem s v m.step) else s

/-- The copy that takes the committed planes of remainder row `r` when its home is this device (R251, R252). -/
def homeCopy (s : State) (v : TableVersion) (r : Nat) : Nat := readOwner s v.owners (v.owners.getD (r % dOwn v.desc) 0) true

/-- The copies of remainder row `r` that a REM_ROW renews on this device: those of its owner roles, but for the one its home has
committed already (R252, R518). -/
def remCopies (s : State) (v : TableVersion) (source r : Nat) : List Nat :=
  (homeRoles s v).filter (fun d => !(decide (source = selfId s) && decide (d = homeCopy s v r)))

/-- A REM_ROW reaches an owner: its copies take the new planes, and the delta has no state (R252, R257). While a copy cannot be read the
message waits (R290, R303, R524). -/
def acceptRemRow (s : State) (m : RemRow) : State :=
  match rowVersion s m.table m.version with
  | none => s
  | some v =>
    let copies : List (Nat × Nat × List Byte × List Byte) := m.recs.flatMap (fun r => (remCopies s v m.source r.1).map (fun d => (d, r)))
    let gone (s : State) (r : Nat × Nat × List Byte × List Byte) : Bool := (readRow s r.1 v.desc true r.2.1).isNone
    let each (g : State → Nat → List Byte → Bool → Nat → Nat → State) (s : State) (rs : List (Nat × Nat × List Byte × List Byte)) : State :=
      forEach (fun s r => g s r.1 v.desc true r.2.1 2) s rs
    let held := copies.any (fun r => rowHeld s r.1 v.desc true r.2.1 2)
    let s := if held then each wantRow s copies else each meetRow s copies
    let s := if held then s else each (fun s own d rem l _ => degradedRead s own d rem l) s (copies.filter (gone s))
    if held || copies.any (gone s) then queueMsg s (.remRow m)
    else
      let s := forEach (fun s (r : Nat × Nat × List Byte × List Byte) =>
        match readRow s r.1 v.desc true r.2.1 with
        | some old => commitRow (useRow s r.1 v.desc true r.2.1 2) r.1 m.table m.version r.2.1 true m.step v.desc
            (old.take (r.2.2.1.length + r.2.2.2.length)) (r.2.2.1 ++ r.2.2.2)
        | none => s) s copies
      let seen : RemSeen := ⟨m.table, m.step, m.source, m.seq, m.last⟩
      pumpReqs (endSeries { s with sor := { s.sor with
        remRows := seen :: s.sor.remRows.filter (fun x => decide (m.step < x.step + 4)) } })

/-- Spilled entries return to the buffer in ring order while there is room (R255; fuel: entries pending). -/
def returnSpilled (k : Nat) : Nat → State → State
  | 0, s => s
  | j + 1, s =>
    match s.sor.pend.find? (fun x => x.stack = k && x.spilled) with
    | none => s
    | some x =>
      if pendUse s k false + pendBytes x ≤ 0x20_0000 then
        let up (y : PendEntry) : PendEntry := if y = x then { y with spilled := false } else y
        returnSpilled k j { s with sor := { s.sor with pend := s.sor.pend.map up } }
      else s

end Sys2Proof.Machine
end

