-- ==== Sys2Proof/Machine/Seq.lean ====
section
/-! DEFINITION. The step sequencer: lists, completion of ops, settling, the start of a step (R20 to R25, R358, R365, R367, R548,
R551, R552). -/

namespace Sys2Proof.Machine

/-! ## Lists and ops -/

/-- The list of step `n` starts on frond `f` from its first op (R358); a frond asked to go idle stays halted (R140, R184). -/
def startList (s : State) (f n : Nat) : State :=
  let s := modFrond s f (fun x => { x with
    head := 0, headW := 0, done := 0, step := n, next := none, halted := idleAsked s f, since := s.ft })
  let mine (q : Nat) : Bool := (queueAt s q).prodMember = memberOf (selfId s) && (queueAt s q).prodFrond = f
  let s := { s with seq := { s.seq with moved := s.seq.moved.filter (fun x => !mine x.1) } }
  let r := R.FRD_PLAN_STATUS f
  let s := wf (wf s r F.FRD_PLAN_STATUS_stalled 0) r F.FRD_PLAN_STATUS_forced 0
  if opCount s f = 0 then wf (wf s r F.FRD_PLAN_STATUS_running 0) r F.FRD_PLAN_STATUS_complete 1
  else wf (wf s r F.FRD_PLAN_STATUS_running 1) r F.FRD_PLAN_STATUS_complete 0

/-- Return a queue's credit when a release op completes (R371): wait0 names the data bit. -/
def returnCredit (s : State) (f : Nat) (o : PlanOp) : State :=
  let w := o.waits.headD 0
  if bitOf o.flags 3 && bitOf w 15 then
    match (List.range (queueCount s)).find? (fun q => let x := queueAt s q
        x.consMember = memberOf (selfId s) && x.consFrond = f && decide (x.firstBit ≤ w % 1024) && decide (w % 1024 < x.firstBit + x.depth)) with
    | none => s
    | some q =>
      if (queueAt s q).prodMember = memberOf (selfId s) then { s with seq := { s.seq with returning := s.seq.returning ++ [q] } }
      else emit s (.tile (withMember (selfId s) (queueAt s q).prodMember) q [])
  else s

/-- A frond between lists places the parameters that waited for its last one (R21) and starts the list that waits for it: the list
of the step before ends first, an unfinished one too (DESIGN CHOICE, log 115). -/
def listGoesOn (s : State) (f : Nat) : State :=
  if rb s (R.FRD_PLAN_STATUS f) F.FRD_PLAN_STATUS_running || issuedWork s f then s
  else
    let s := pumpParams s
    match (frondOf s f).next with
    | some n => startList s f n
    | none => s

/-- An op completes (R365): its done bit is set on frond `g`, a credit goes back, the list may be complete. -/
def opDone (s : State) (f g : Nat) (o : PlanOp) : State :=
  let b := o.done % 1024
  let s := if bitOf o.done 15 then setSb s g b true else s
  let s := returnCredit s f o
  let s := modFrond s f (fun x => { x with done := x.done + 1 })
  let r := R.FRD_PLAN_STATUS f
  let s := if rb s r F.FRD_PLAN_STATUS_running && decide ((frondOf s f).done = opCount s f) then
      wf (wf s r F.FRD_PLAN_STATUS_running 0) r F.FRD_PLAN_STATUS_complete 1
    else s
  let s := listGoesOn s f
  if bitOf o.done 15 && (b = 1018 || b = 1019) then poolProgress s else s

/-- A MOVE to another device completes: the done bit of one to a store is the message's (R365), of one to a queue the queue's (R370). -/
def moveDone (s : State) (f i : Nat) : State :=
  let s := modFrond s f (fun x => { x with sent := x.sent.erase i })
  match opAt s f i with
  | some o => opDone s f f (if bodyNum s o 0 1 = 4 then o else { o with done := 0 })
  | none => s

/-- The MOVEs whose messages have all been acknowledged, or were given up, complete (R365; log 124). -/
def movesArrive (s : State) : State :=
  forEach (fun s f => forEach (fun s i => if opUnacked s f i then s else moveDone s f i) s (frondOf s f).sent) s (List.range 32)

/-- Messages of a MOVE or of a command may all have been acknowledged (R365, R558). -/
def acksIn (s : State) : State := pumpRecs (movesArrive s)

/-- The messages of a MOVE are on their way; it completes when its destinations have them (R365). -/
def moveLeaves (s : State) (f : Nat) (o : PlanOp) : State :=
  movesArrive (modFrond s f (fun x => { x with sent := x.sent ++ [o.idx] }))

/-! ## Settling (R548) -/

/-- The remainder rows of step `n` have been applied, sent and received on this device. -/
def remSettled (s : State) (n : Nat) : Bool :=
  (remTables s).all (fun v => !v.owners.contains (selfId s)
    || (s.sor.remSent.contains (storageOf v.desc, n) && remRowsIn s v n))

/-- Step `n` has settled on the device (R548). -/
def stepSettled (s : State) (n : Nat) : Bool :=
  decide (n < s.seq.barrier) && (s.sor.tables.all (·.versions.isEmpty) || decide (n < s.sor.closed)) && (!detOf s n || decide (n < s.sor.merged))
    && !s.sor.stage.any (fun x => decide (x.step ≤ n)) && !s.sor.pend.any (fun x => decide (x.step ≤ n))
    && !s.sor.commit.any (fun x => decide (x.step ≤ n)) && remSettled s n
    && (allBlocks s).all (fun e => !isHolder s e || s.recov.lostBlocks.contains e.block
        || (decide (n < (blk s e.block).agreed) && (!actsPrimary s e || decide (n < (blk s e.block).gathered))))

/-- A step that has settled completes the STOP_AT_STEP commands that name it or an earlier one, and with them the
RUN_STEPS (R548). -/
def completeStops (s : State) (n : Nat) : State :=
  let hit (x : Nat × Nat) : Bool := decide (x.2 ≤ n)
  let due := s.seq.stops.filter hit
  if due.isEmpty then s
  else
    let s := forEach (fun s (x : Nat × Nat) => finOk s x.1 []) s due
    let s := match s.seq.run with
      | some r => finOk s r.cmd (leBytes 8 n)
      | none => s
    { s with seq := { s.seq with run := none, stops := s.seq.stops.filter (fun x => !hit x) } }

/-- Settle steps in order while they can (fuel). -/
def settleSteps : Nat → State → State
  | 0, s => s
  | k + 1, s =>
    let n := s.seq.settled
    if n < s.seq.barrier ∧ s.seq.aborted.contains n then settleSteps k { s with seq := { s.seq with settled := n + 1 } }
    else if stepSettled s n then
      settleSteps k (completeStops (cntAdd { s with seq := { s.seq with settled := n + 1 } } 8 1) n)
    else s

def settle (s : State) : State := settleSteps 4 s

/-- Ops issued on frond `f` of which nothing has run yet: the product without a pass that has the array, and the ROW invocations
that have not started. -/
def notBegun (s : State) (f : Nat) : List Nat :=
  let x := frondOf s f
  (match x.array with
    | some k => if (slotOf s f k).passes = 0 then (slotOf s f k).op.toList else []
    | none => [])
  ++ x.engQ.filter (fun i => decide (x.eng.run.map (·.op) ≠ some i) && (match opAt s f i with
    | some o => o.kind = 2
    | none => true))

/-- Report ops of frond `f` as not done (R19, R553). -/
def reportOps (s : State) (f : Nat) (ops : List Nat) : State :=
  { s with seq := { s.seq with notDone := (ops.map (fun i => Work.op f (frondOf s f).step i)).reverse ++ s.seq.notDone } }

/-- The ops of frond `f` that have not begun are reported as not done and leave their units; a slot keeps its state (R124, R553). -/
def cancelOps (s : State) (f : Nat) : State :=
  let ops := notBegun s f
  modFrond (reportOps s f ops) f (fun x => { x with
    array := if x.array.any (fun k => ((slotOf s f k).op.any (fun i => ops.contains i))) then none else x.array
    engQ := x.engQ.filter (fun i => !ops.contains i)
    slots := x.slots.map (fun (y : Slot) => if y.op.any (fun i => ops.contains i) then { y with op := none } else y) })

/-- The step in progress does no more dense work on the device (R520, R553): no op issues, work that has begun completes, work that
has not is reported as not done, a chained tile no product has taken is dropped (DESIGN CHOICE, log 116), and the LOOKUP_END
messages of the step go out. -/
def haltStep (s : State) : State :=
  let s := forEach (fun s f =>
    let r := R.FRD_PLAN_STATUS f
    let s := wf (wf s r F.FRD_PLAN_STATUS_running 0) r F.FRD_PLAN_STATUS_complete 0
    modFrond (cancelOps s f) f (fun x => { x with
      next := none
      slots := x.slots.map (fun (y : Slot) => if y.op.isNone then { y with seed := none, seedRows := 0, arrived := false, sent := false } else y) }))
    s (List.range 32)
  dropLookups s

/-! ## The start of a step (R23, R551, R552) -/

/-- Step `n` may start: a RUN_STEPS is in progress, no step is, no STOP_AT_STEP forbids it, the copy of an input that is there
has ended (R23), unless the host link is down and the step runs dry (R565), and blocks a load has written have been all-gathered (R557). -/
def mayStartStep (s : State) : Bool :=
  let n := s.stepCtr
  s.seq.run.isSome && s.seq.step.isNone && !failed s && imageActive s && s.seq.stops.all (fun x => decide (n ≤ x.2))
    && (decide (s.seq.supplied ≤ n) || s.seq.copied.contains n || !rb s R.HST_STATUS F.HST_STATUS_link_up)
    && s.rau.regather.all (fun b => (allBlocks s).all (fun e => e.block ≠ b || !actsPrimary s e))

/-- Pending TABLE_SWAPs whose step has come install their version (R215, R216). -/
def installSwaps (s : State) (n : Nat) : State :=
  forEach (fun s x => match x.pending with
    | some p => if p.step ≤ n then
        setTable s { x with versions := ⟨p.desc, p.owners, p.step, false, false⟩ :: x.versions, pending := none, swapCmd := some p.cmd }
      else s
    | none => s) s s.sor.tables

/-- The first step of a run: queues and buffers stand at job start (R362, R371, R402), and so do blocks and owner work unless
the run goes on from the barrier of the step before (R553). -/
def beginRun (s : State) (r : RunSteps) (n : Nat) : State :=
  let goesOn := decide (s.seq.barrier = n) && s.rau.results.any (fun x => decide (x.step + 1 = n))
  let s := if goesOn then s else
    let s := dropLookups (rewindBlocks s n)
    { s with
      sor := { s.sor with closed := n, merged := n }
      seq := { s.seq with barrier := n, settled := n, aborted := [] } }
  let free := 1 <<< 1018 + 1 <<< 1019 + 1 <<< 1022 + 1 <<< 1023
  { s with
    rau := { s.rau with tMax := r.t0 }
    seq := { s.seq with
      used := [], returning := []
      fronds := s.seq.fronds.zipIdx.map (fun (f : FrondState × Nat) => { f.1 with sb := f.1.sb ||| free, halted := idleAsked s f.2 }) } }

/-- The window of step `n` opens (R402, R414). -/
def openWindow (s : State) (n : Nat) : State :=
  let close := s.rau.tMax + windowLen s n
  let shown := BitVec.ofNat 64 close
  let s := setReg (setReg s (R.RAU_WINDOW 0) shown) (R.RAU_WINDOW 1) shown
  { s with rau := { s.rau with
    window := n + 1, closeAt := close, policies := ((n, decide (denseNum s n 4 1 = 1)) :: s.rau.policies).take 8 } }

/-- The scale unit at the start of step `n`: L of the step, its exponents, the JIT window (R433, R437, R450). -/
def scaleStart (s : State) (n : Nat) : State :=
  let l := rf s R.SCL_LOSS F.SCL_LOSS_L
  let left := rf s R.SCL_STATUS F.SCL_STATUS_jit_left
  let s := { s with scl := { s.scl with
    lossOf := ((n, l) :: s.scl.lossOf).take 2, jitStep := decide (0 < left) && capFused s 0xC, prepass := [], jitExp := [] } }
  publishFirst (wf s R.SCL_STATUS F.SCL_STATUS_jit_left (left - 1)) n

/-- A step that runs without samples (R552). -/
def countDry (s : State) : State :=
  let s := bump s R.HST_DRY_STEPS 1
  evgFireIf s (rb s R.HST_CTL F.HST_CTL_dry_event_en) 146

/-- Start step `n` (R23). A frond that has not finished its list, or the work it had issued, goes on with it and starts the list of
step `n` afterwards (DESIGN CHOICE, log 115). -/
def startStep (s : State) (n : Nat) : State :=
  let s := pumpParams (match s.seq.run with
    | some r => if s.seq.first = n then beginRun s r n else s
    | none => s)
  let dry := !s.seq.copied.contains n
  let s := latchOpt { s with stepCtr := n + 1 } n
  let s := { s with
    seq := { s.seq with step := some n, dry := dry, idleStep := false }
    sor := { s.sor with
      detOrder := bitOf (optNum s 1 n 2 2) 0
      detSteps := ((n, bitOf (optNum s 1 n 2 2) 0) :: s.sor.detSteps).take 16
      stageSize := optNum s 1 n 4 4, spillSize := optNum s 1 n 8 4 } }
  let s := installSwaps (scaleStart (openWindow s n) n) n
  let s := wf s R.HST_STATUS F.HST_STATUS_input_dry (b2n dry)
  let s := if dry then countDry s else s
  let s := if s.seq.densePaused && !dry && (rankOf s).isSome then bump s R.DEV_REC_DROP_SAMPLES (mbSamples s * microBatches s) else s
  let s := tracePush s 3 0xFF n 0
  let quiet := dry || s.seq.densePaused
  let s := keepLookups { s with seq := { s.seq with admitQ := if quiet then s.seq.admitQ else s.seq.admitQ ++ [n] } }
  let s := if quiet then endStep s n
    else forEach (fun s f => if rb s (R.FRD_PLAN_STATUS f) F.FRD_PLAN_STATUS_running || issuedWork s f then
        modFrond s f (fun x => { x with next := some n })
      else startList s f n) s (List.range 32)
  pumpReqs s

end Sys2Proof.Machine
end

