-- ==== Sys2Proof/Machine/Checkpoint.lean ====
section
/-! DEFINITION. Checkpoint streams: what a save writes and what a load places (R448, R555 to R557). -/

namespace Sys2Proof.Machine

/-! ## Saving (R555) -/

/-- A segment: its 32-byte head and its body. -/
def ckSegment (kind algo table entries key t : Nat) (body : List Byte) : List Byte :=
  leBytes 1 kind ++ leBytes 1 algo ++ leBytes 2 table ++ leBytes 4 entries ++ leBytes 8 key ++ leBytes 4 body.length ++ leBytes 4 t
    ++ leBytes 8 (crc64 body) ++ body

/-- The body of the GLOBAL segment. -/
def ckGlobal (s : State) : List Byte :=
  let l := R.SCL_LOSS
  leBytes 1 (rf s l F.SCL_LOSS_L) ++ leBytes 1 (rf s l F.SCL_LOSS_fast + 2) ++ leBytes 2 (rf s l F.SCL_LOSS_count)
    ++ leBytes 2 (rf s l F.SCL_LOSS_interval) ++ leBytes 1 (rf s R.SCL_STATUS F.SCL_STATUS_jit_left) ++ leBytes 1 0
    ++ leBytes 2 s.scl.tensors.length ++ leBytes 6 0 ++ leBytes 8 s.stepCtr
    ++ s.scl.tensors.flatMap (fun (x : Tensor) => leBytes 1 (ofSigned 8 x.e) ++ leBytes 1 x.fmt ++ leBytes 1 x.hist.length ++ leBytes 1 0
      ++ leAll 4 ((x.hist.map (fun (h : W32) => h.toNat) ++ List.replicate 16 0).take 16) ++ leBytes 4 0)

/-- The first and second moments of a block, decoded; the second is 0 when absent. -/
def blockMoments (s : State) (e : BlockEntry) : List W32 × List W32 :=
  let o := denseOpt s e.opt
  let a := stateAddrs s e
  (readMoment s o q8bVal (a.getD 2 0) e.nElem,
    if o.algo = 2 then readMoment s o u8bVal (a.getD 3 0) e.nElem else List.replicate e.nElem 0)

/-- The DENSE segment of a block. -/
def ckDense (s : State) (e : BlockEntry) : List Byte :=
  let o := denseOpt s e.opt
  let a := stateAddrs s e
  let mv := blockMoments s e
  let body := (List.range e.nElem).flatMap (fun i => bytesAt s (a.getD 0 0 + 4 * i) 4 ++ leBytes 4 (mv.1.getD i 0).toNat
    ++ leBytes 4 (mv.2.getD i 0).toNat ++ bytesAt s (a.getD 1 0 + i) 1 ++ leBytes 3 0)
  ckSegment 2 o.algo 0 e.nElem e.paramBase (if o.algo = 2 then numAt s (a.getD 4 0) 4 else 0) body

/-- Entries of the rows of a table, as readers find them: key and record, all-zero records left out. -/
def ckRowEntries (s : State) (d : List Byte) (rem : Bool) (keys : List (Nat × Nat)) : List (List Byte) :=
  keys.filterMap (fun k =>
    let r := (readRow s (selfId s) d rem k.2).getD (rowBytes s d rem k.2)
    let r := (r ++ List.replicate (rowSize s d rem) 0).take (rowSize s d rem)
    if r.all (fun b => b = 0) then none else some (leBytes 8 k.1 ++ r))

/-- The storage rows of a table that fall to this device, with their local rows. -/
def ownedRows (s : State) (v : TableVersion) : List (Nat × Nat) :=
  (List.range (dRows v.desc)).filterMap (fun r =>
    let o := ownerOf v.desc r
    if v.owners.getD o.1 (selfId s + 1) = selfId s then some (r, o.2) else none)

/-- The ROWS segment of a table this device owns: storage rows that fall to it, in ascending order. -/
def ckRows (s : State) (t : Nat) (v : TableVersion) : List Byte :=
  let es := ckRowEntries s v.desc false (ownedRows s v)
  ckSegment 3 0 t es.length 0 0 es.flatten

/-- The remainder rows whose home this device is. -/
def homedRows (s : State) (v : TableVersion) : List Nat :=
  (List.range (dRemRows v.desc)).filter (fun r => v.owners.getD (r % dOwn v.desc) (selfId s + 1) = selfId s)

/-- The REM_ROWS segment of a compositional table. -/
def ckRemRows (s : State) (t : Nat) (v : TableVersion) : List Byte :=
  let es := ckRowEntries s v.desc true ((homedRows s v).map (fun r => (r, r)))
  ckSegment 4 0 t es.length 0 0 es.flatten

/-- The tables this device owns, by ascending ID, with their newest versions. -/
def ownedTables (s : State) : List (Nat × TableVersion) :=
  (storageTables s).filterMap (fun t => match newestVersion s t.1 with
    | some v => if v.owners.contains (selfId s) then some (t.1, v) else none
    | none => none)

/-- Rows that must be rebuilt before they can be read: member, descriptor, remainder flag, local row (R524). -/
abbrev RowRef := Nat × List Byte × Bool × Nat

/-- A row of a protected table cannot be read yet. -/
def rowMissing (s : State) (r : RowRef) : Bool := (groupOf s (selfId s)).isSome && (readRow s r.1 r.2.1 r.2.2.1 r.2.2.2).isNone

/-- Ask for rows that cannot be read yet. -/
def askRows (s : State) (rs : List RowRef) : State := forEach (fun s r => degradedRead s r.1 r.2.1 r.2.2.1 r.2.2.2) s rs

/-- The rows of the stream that cannot be read yet. -/
def saveMissing (s : State) : List RowRef :=
  ((ownedTables s).flatMap (fun t =>
    (ownedRows s t.2).map (fun k => ((selfId s, t.2.desc, false, k.2) : RowRef))
      ++ (if dComp t.2.desc then (homedRows s t.2).map (fun r => (selfId s, t.2.desc, true, r)) else []))).filter (rowMissing s)

/-- The whole stream of this device (R555, R556). -/
def ckStream (s : State) : List Byte :=
  let ts := ownedTables s
  let segs := [ckSegment 1 0 0 1 0 0 (ckGlobal s)] ++ ((allBlocks s).filter (actsPrimary s)).map (ckDense s)
    ++ ts.map (fun t => ckRows s t.1 t.2)
    ++ (ts.filter (fun t => dComp t.2.desc && !(homedRows s t.2).isEmpty)).map (fun t => ckRemRows s t.1 t.2)
  let body := segs.flatten
  let head := leBytes 4 0x54504B43 ++ leBytes 2 1 ++ leBytes 2 (selfId s) ++ leBytes 8 s.stepCtr ++ leBytes 8 (jobSeed s)
    ++ s.thl.activeStruct.take 8 ++ List.replicate (8 - (s.thl.activeStruct.take 8).length) 0
    ++ leBytes 4 segs.length ++ leBytes 4 0 ++ leBytes 8 (64 + body.length)
  head ++ leBytes 8 (crc64 head) ++ leBytes 8 0 ++ body

/-! ## Reading a stream (R557) -/

/-- A segment as read. -/
structure CkSeg where
  kind : Nat
  algo : Nat
  table : Nat
  entries : Nat
  key : Nat
  t : Nat
  good : Bool
  body : List Byte
  deriving DecidableEq, Repr

/-- Headers and segments of a stream's piece (fuel: its bytes); none when a header fails its check or a segment is cut off. -/
def ckParse : Nat → List Byte → Option (List CkSeg)
  | 0, bs => if bs.isEmpty then some [] else none
  | k + 1, bs =>
    if bs.isEmpty then some []
    else if fieldAt bs 0 4 = 0x54504B43 then
      if bs.length < 64 ∨ fieldAt bs 0x30 8 ≠ crc64 (bs.take 0x30) then none else ckParse k (bs.drop 64)
    else
      let n := fieldAt bs 0x10 4
      if bs.length < 32 + n then none
      else
        let body := (bs.drop 32).take n
        (ckParse k (bs.drop (32 + n))).map (fun r =>
          ⟨fieldAt bs 0 1, fieldAt bs 1 1, fieldAt bs 2 2, fieldAt bs 4 4, fieldAt bs 8 8, fieldAt bs 0x14 4,
            decide (fieldAt bs 0x18 8 = crc64 body), body⟩ :: r)

/-! ## Placing (R557) -/

/-- The scale record of a GLOBAL body: valid for the active plan (R448, R555). -/
def scaleRecordOk (s : State) (b : List Byte) : Bool :=
  bitOf (fieldAt b 1 1) 1 && decide (fieldAt b 8 2 = s.scl.tensors.length)
    && s.scl.tensors.zipIdx.all (fun x => decide (fieldAt b (24 + 72 * x.2 + 1) 1 = x.1.fmt))

/-- The first GLOBAL of a load sets the scale state and the step counter; the run that follows starts afresh there. -/
def placeGlobal (s : State) (b : List Byte) : State :=
  let s := if scaleRecordOk s b then
      let l := R.SCL_LOSS
      let s := wf (wf s l F.SCL_LOSS_L (fieldAt b 0 1)) l F.SCL_LOSS_fast (fieldAt b 1 1 % 2)
      let s := wf (wf s l F.SCL_LOSS_count (fieldAt b 2 2)) l F.SCL_LOSS_interval (fieldAt b 4 2)
      let s := wf s R.SCL_STATUS F.SCL_STATUS_jit_left (if capFused s 0xC then fieldAt b 6 1 else 0)
      let one (x : Tensor × Nat) : Tensor :=
        let o := 24 + 72 * x.2
        { x.1 with e := toSigned 8 (fieldAt b o 1), hist := (List.range (min 16 (fieldAt b (o + 2) 1))).map (fun i => BitVec.ofNat 32 (fieldAt b (o + 4 + 4 * i) 4)) }
      { s with scl := { s.scl with tensors := s.scl.tensors.zipIdx.map one } }
    else loseScale s
  let n := fieldAt b 0x10 8 % 2 ^ 48
  { s with
    stepCtr := n
    scl := { s.scl with pubs := [], lossOf := [], due := [], formed := [], ovf := [], runs := [], recs := [], reduced := [], fixed := [] }
    seq := { s.seq with barrier := 0 }
    rau := { s.rau with results := [], arrived := [], own := none, level := 0, recs := [], cbuf := [] } }

/-- Place the elements of a DENSE segment that lie in a block this device holds (R557): x, m and v; moments are encoded again,
snapshots and log slots emptied. -/
def placeDense (s : State) (g : CkSeg) (e : BlockEntry) : State :=
  let o := denseOpt s e.opt
  let a := stateAddrs s e
  let hit (i : Nat) : Option Nat :=
    let p := e.paramBase + i
    if g.key ≤ p ∧ p < g.key + g.entries then some (16 * (p - g.key)) else none
  let mv := blockMoments s e
  let pick (off : Nat) (old : List W32) : List W32 := old.zipIdx.map (fun x => match hit x.2 with
    | some q => BitVec.ofNat 32 (fieldAt g.body (q + off) 4)
    | none => x.1)
  let s := forEach (fun s i => match hit i with
    | some q => setBytes (setBytes s (a.getD 0 0 + 4 * i) ((g.body.drop q).take 4)) (a.getD 1 0 + i) ((g.body.drop (q + 12)).take 1)
    | none => s) s (List.range e.nElem)
  let s := writeMoment s o encQ8B (a.getD 2 0) (pick 4 mv.1)
  let s := if o.algo = 2 then
      let t := if g.algo = 2 then g.t else 0
      setBytes (writeMoment s o encU8B (a.getD 3 0) (pick 8 mv.2)) (a.getD 4 0) (leBytes 4 t)
    else s
  let z := stateSize o e.nElem
  let s := zeroKeys s (regionAddr s e + z) (2 * z + 64 * (up64 (4 * e.nElem) + 64))
  { s with rau := { s.rau with
    snaps := s.rau.snaps.filter (fun y => y.1 ≠ e.block)
    regather := if s.rau.regather.contains e.block then s.rau.regather else s.rau.regather ++ [e.block] } }

/-- Blocks of this device that a DENSE segment reaches. -/
def denseTargets (s : State) (g : CkSeg) : List BlockEntry :=
  (allBlocks s).filter (fun e => isHolder s e && decide (g.key < e.paramBase + e.nElem) && decide (e.paramBase < g.key + g.entries))

/-- Elements of a DENSE segment that lie in one of the blocks. -/
def denseKept (g : CkSeg) (es : List BlockEntry) : Nat :=
  ((List.range g.entries).filter (fun i => es.any (fun e => decide (e.paramBase ≤ g.key + i) && decide (g.key + i < e.paramBase + e.nElem)))).length

/-- The new bytes of a row that a record is placed into (R557): a remainder copy that is not the home keeps its state. -/
def placedRow (s : State) (v : TableVersion) (rem : Bool) (l : Nat) (home : Bool) (old bs : List Byte) : List Byte :=
  let n := ((rowParts s v.desc rem l).map (·.2)).sum
  let p := planeP (rowW v.desc rem) + planeE (rowW v.desc rem)
  if home then bs.take n else bs.take p ++ old.drop p

/-- Place one row record as a commit of the role `own` (R557, R513). -/
def placeRow (s : State) (own : Nat) (v : TableVersion) (rem : Bool) (l : Nat) (home : Bool) (bs : List Byte) : State :=
  let old := (readRow s own v.desc rem l).getD (rowBytes s v.desc rem l)
  commitRow s own (storageOf v.desc) (dVersion v.desc) l rem (s.stepCtr - 1) v.desc old (placedRow s v rem l home old bs)

/-- A row of a ROWS or REM_ROWS segment: the roles of this device it goes to, with its local row and whether it is the home. -/
def rowTargets (v : TableVersion) (rem : Bool) (key : Nat) (roles : List Nat) : List (Nat × Nat × Bool) :=
  if rem then
    if key < dRemRows v.desc then
      (roles.filter (fun d => v.owners.contains d)).map (fun d => (d, key, decide (v.owners.getD (key % dOwn v.desc) (d + 1) = d)))
    else []
  else if key < dRows v.desc then
    let o := ownerOf v.desc key
    (roles.filter (fun d => v.owners.getD o.1 (d + 1) = d)).map (fun d => (d, o.2, true))
  else []

/-- Entries of a ROWS or REM_ROWS segment placed where `want` says so: state, kept, skipped. -/
def placeRows (want : State → Nat → SlotKey → Bool) (s : State) (g : CkSeg) (roles : List Nat) : State × Nat × Nat :=
  let rem := decide (g.kind = 4)
  match newestVersion s g.table with
  | none => (s, 0, g.entries)
  | some v =>
    let size := rowSize s v.desc rem
    if g.body.length ≠ g.entries * (8 + size) ∨ dAlias v.desc then (s, 0, g.entries)
    else forEach (fun (x : State × Nat × Nat) i =>
      let key := fieldAt g.body (i * (8 + size)) 8
      let bs := (g.body.drop (i * (8 + size) + 8)).take size
      match (rowTargets v rem key roles).filter (fun t => want x.1 t.1 ⟨storageOf v.desc, rem, t.2.1⟩) with
      | [] => (x.1, x.2.1, x.2.2 + 1)
      | ts => (forEach (fun s t => placeRow s t.1 v rem t.2.1 t.2.2 bs) x.1 ts, x.2.1 + 1, x.2.2)) (s, 0, 0) (List.range g.entries)

/-- The rows that the entries of a load replace and that cannot be read yet, their old bytes being part of the delta (R513, R524). -/
def loadMissing (s : State) (gs : List CkSeg) : List RowRef :=
  (gs.flatMap (fun g =>
    match decide (g.kind = 3 ∨ g.kind = 4), newestVersion s g.table with
    | true, some v =>
      let rem := decide (g.kind = 4)
      (List.range g.entries).flatMap (fun i =>
        (rowTargets v rem (fieldAt g.body (i * (8 + rowSize s v.desc rem)) 8) [selfId s]).map (fun t =>
          ((t.1, v.desc, rem, t.2.1) : RowRef)))
    | _, _ => [])).filter (rowMissing s)

/-- Place one segment of a LOAD: state, kept, skipped, and whether a GLOBAL has been loaded. -/
def loadSegment (x : State × Nat × Nat × Bool) (g : CkSeg) : State × Nat × Nat × Bool :=
  let s := x.1
  match g.kind with
  | 1 => if x.2.2.2 then (s, x.2.1, x.2.2.1 + 1, true) else (placeGlobal s g.body, x.2.1 + 1, x.2.2.1, true)
  | 2 =>
    let es := denseTargets s g
    let k := denseKept g es
    (forEach (fun s e => placeDense s g e) s es, x.2.1 + k, x.2.2.1 + (g.entries - k), x.2.2.2)
  | 3 => let y := placeRows (fun _ _ _ => true) s g [selfId s]; (y.1, x.2.1 + y.2.1, x.2.2.1 + y.2.2, x.2.2.2)
  | 4 => let y := placeRows (fun _ _ _ => true) s g [selfId s]; (y.1, x.2.1 + y.2.1, x.2.2.1 + y.2.2, x.2.2.2)
  | _ => (s, x.2.1, x.2.2.1 + g.entries, x.2.2.2)

/-- CHECKPOINT_LOAD in mode LOAD: state, kept, skipped. -/
def ckLoadAll (s : State) (gs : List CkSeg) : State × Nat × Nat :=
  let y := gs.foldl loadSegment (s, 0, 0, false)
  (y.1, y.2.1, y.2.2.1)

/-- Mode CLEAR (R557). -/
def ckClear (s : State) : State :=
  let s := { s with tier := { s.tier with
    migs := [], draining := [], queue := [], demand := [], evacuate := [], poolMoves := [], rebal := [], waitCommits := []
    waitWrites := s.tier.waitWrites.filter (fun w => w.parts.all (fun p => decide (hbmBase 0 ≤ p.1))) } }
  let s := forEach (fun s x => setPte s x.1 0) s (ptPages s)
  let n := match groupOf s (selfId s) with
    | some g => slotOffset s g.1 4096 false 0
    | none => 0
  let s := zeroKeys (zeroKeys s (parBase s) n) (spareBase s) n
  let s := zeroKeys s (rbBase s) 0x10_0000
  let s := forEach (fun s die => zeroKeys s (partBase s die) (partSize s die)) s [0, 1]
  let s := { s with rau := { s.rau with snaps := [], blocks := [], regather := [] }, recov := { s.recov with rbCount := 0 } }
  pagesMoved (loseScale s)

/-! ## RESTORE (R531, R557) -/

/-- A lost row of a role of this device that a commit has restored leaves the lost state (R531). Where it does not stand in this
device's own pages, the device keeps the new bytes for its reads (log 25, DEDUCED). The parity of its slot is rewritten. -/
def markRestored (s : State) (own : Nat) (v : TableVersion) (rem : Bool) (l : Nat) (bs : List Byte) : State :=
  let key : SlotKey := ⟨storageOf v.desc, rem, l⟩
  if !rowLost s own key then s
  else
    let up (x : LostSet) : LostSet :=
      if x.owner = own ∧ x.table = key.table ∧ x.rem = rem ∧ x.first ≤ l ∧ (l - x.first) % x.stride = 0 ∧ (l - x.first) / x.stride < x.count
          ∧ !x.restored.contains l then { x with restored := x.restored ++ [l] }
      else x
    let far := decide (own ≠ selfId s) || rowPagesLost s v.desc rem l
    let kept : List Rebuild := if far then [⟨own, key, false, 0, [], [], [], bs, true, true⟩] else []
    let s := { s with recov := { s.recov with
      lostRows := s.recov.lostRows.map up
      rebuilds := s.recov.rebuilds.filter (fun r => !(r.subject = own && r.key = key && !r.parity)) ++ kept } }
    startRewrite s own key bs

/-- Rows of a RESTORE segment: each one placed leaves the lost state. -/
def restoreRows (s : State) (g : CkSeg) : State × Nat × Nat :=
  let rem := decide (g.kind = 4)
  match newestVersion s g.table with
  | none => (s, 0, g.entries)
  | some v =>
    let roles := rolesOf s
    let y := placeRows rowLost s g roles
    let size := rowSize s v.desc rem
    let recs := (List.range g.entries).map (fun i => (fieldAt g.body (i * (8 + size)) 8, (g.body.drop (i * (8 + size) + 8)).take size))
    let s := if y.2.1 = 0 then y.1 else
      forEach (fun s r => forEach (fun s t => markRestored s t.1 v rem t.2.1 (placedRow s v rem t.2.1 t.2.2 [] r.2)) s (rowTargets v rem r.1 roles)) y.1 recs
    (s, y.2.1, y.2.2)

/-- A lost block restored: its state comes from the segment, it goes on with the next step, and its parameter bits are clear until its
all-gather (R21, R557). -/
def restoreBlock (g : CkSeg) (s : State) (e : BlockEntry) : State :=
  let s := placeDense s g e
  let n := s.seq.barrier
  let x := blk s e.block
  let s := setBlk s { x with applied := n, digested := n, agreed := n, gathered := n, ready := max x.ready n, grads := [], digests := [],
                             replayed := false, replaying := false }
  clearParamBits { s with recov := { s.recov with lostBlocks := s.recov.lostBlocks.filter (· ≠ e.block) } } e.block

/-- Place one segment of a RESTORE: state, kept, skipped. -/
def restoreSegment (x : State × Nat × Nat) (g : CkSeg) : State × Nat × Nat :=
  let s := x.1
  match g.kind with
  | 2 =>
    let es := (denseTargets s g).filter (fun e => s.recov.lostBlocks.contains e.block)
    let k := denseKept g es
    (forEach (restoreBlock g) s es, x.2.1 + k, x.2.2 + (g.entries - k))
  | 3 => let y := restoreRows s g; (y.1, x.2.1 + y.2.1, x.2.2 + y.2.2)
  | 4 => let y := restoreRows s g; (y.1, x.2.1 + y.2.1, x.2.2 + y.2.2)
  | _ => (s, x.2.1, x.2.2 + g.entries)

/-- The checks of a load's bytes: none when it is rejected with BAD_CHECKPOINT. -/
def ckSegments (data : List Byte) : Option (List CkSeg) :=
  match ckParse (data.length / 32 + 1) data with
  | none => none
  | some gs => if gs.all (·.good) then some gs else none

/-- The RESTORE commands that run place their entries, between two steps (R557). -/
def runRestores (s : State) : State :=
  forEach (fun s (c : Cmd) =>
    match c.op, c.phase, c.fin, c.data with
    | .ckLoad _ _ 2, .running, none, some data =>
      let y := ((ckSegments data).getD []).foldl restoreSegment (s, 0, 0)
      finOk (ownCommits c.index s.sor.commit.length y.1) c.index (leBytes 8 y.2.1 ++ leBytes 8 y.2.2)
    | _, _, _, _ => s) s s.cmd.active

end Sys2Proof.Machine
end

