-- ==== Sys2Proof/Machine/Barrier.lean ====
section
/-! DEFINITION. The step barrier (R367, R374, R407 to R410). -/

namespace Sys2Proof.Machine

/-! ## Completion (R367, R374, R409, R410) -/

/-- Scoreboard bits when the barrier of step `n` completes: general bits clear but for parameter bits, which clear too unless the
vote skips the update; b1016, b1017, b1020 and b1021 clear (R367, R374). Blocks that are lost keep their bits, since their last
parameters stay in place (R531). -/
def clearBits (s : State) (n : Nat) (vote : Bool) : State :=
  let s := if vote then s else { s with rau := { s.rau with gen := n + 1 } }
  let bits := paramBits s
  let kept (f : Nat) (sb : Nat) : Nat :=
    let mine := ((bits.filter (fun x => x.1 = f)).map (fun x => x.2.1)).eraseDups
    let keep := mine.filter (fun b => sb.testBit b && (vote || (bitBlocks s f b).all (s.recov.lostBlocks.contains ·)))
    keep.foldl (fun a b => setBits a b 1 1) (setBits (setBits (setBits sb 0 1016 0) 1016 2 0) 1020 2 0)
  { s with seq := { s.seq with fronds := s.seq.fronds.zipIdx.map (fun (x : FrondState × Nat) => { x.1 with sb := kept x.2 x.1.sb }) } }

/-- The barrier of step `n` completes with its level-4 record (R409, R410). -/
def barrierComplete (s : State) (n : Nat) (r : BarrierRec) : State :=
  let n2 := toF32 (pairVal r.s r.c)
  let c := if r.vote then one32 else clipFactor s n2
  let eta := etaStep s n
  let s := { s with
    rau := { s.rau with
      own := none, level := 0, tMax := r.tRec, results := (⟨n, r, eta⟩ :: s.rau.results).take 64
      recs := s.rau.recs.filter (fun x => decide (n < x.1)) }
    seq := { s.seq with step := none, barrier := n + 1 } }
  let s := forEach (fun s die =>
      let s := setReg s (R.RAU_ETA die) (BitVec.ofNat 64 eta.toNat)
      if r.vote then s else setReg s (R.RAU_NORM die) (BitVec.ofNat 64 (c.toNat <<< 32 + n2.toNat))) s [0, 1]
  let s := clearBits (scaleBarrier s n r.vote) n r.vote
  let s := tracePush s 4 0xFF n (b2n r.vote)
  settle (pumpReqs (runRestores (pumpParams s)))

/-! ## The record and its levels (R407 to R409) -/

/-- Send the device's record of a level to its line. -/
def barrierSend (s : State) (n : Nat) (r : BarrierRec) (level : Nat) : State :=
  forEach (fun s d => rauSend s 0 d (.barrier ⟨selfId s, n, level, r⟩)) s ((lineOf s level).filter (fun d => d ≠ selfId s))

/-- Records combined in ascending coordinate of the line. -/
def joinLine : List BarrierRec → Option BarrierRec
  | [] => none
  | r :: rs => some (rs.foldl recordJoin r)

/-- Go up the levels while the records of the line are all there (fuel: levels left). -/
def barrierAdvance : Nat → State → State
  | 0, s => s
  | k + 1, s =>
    match s.rau.own with
    | none => s
    | some (n, own) =>
      let l := s.rau.level
      let rec? (d : Nat) : Option BarrierRec :=
        if d = selfId s then some own
        else (s.rau.recs.find? (fun r => r.1 = n && r.2.1 = l && r.2.2.1 = d)).map (·.2.2.2)
      match ((lineOf s l).mapM rec?).bind joinLine with
      | none => s
      | some r =>
        if l = 4 then barrierComplete s n r
        else barrierAdvance k (barrierSend { s with rau := { s.rau with own := some (n, r), level := l + 1 } } n r (l + 1))

/-- The record of the step in progress may be formed: its window has closed and the primaries are final (R407). -/
def mayRecord (s : State) (t : Nat) : Bool :=
  match s.seq.step with
  | none => false
  | some n => s.rau.own.isNone && decide (s.rau.window = n + 1) && decide (s.rau.closed = n + 1)
      && decide (s.rau.closeAt ≤ t) && primariesFinal s n

/-- Form the barrier record of the step in progress, latch the amaxes and start both reductions (R407, R440). -/
def formRecord (s : State) : State :=
  match s.seq.step with
  | none => s
  | some n =>
    let q := sumSquares s n
    let v := takeVote s n
    let r : BarrierRec := ⟨v.1 || !pairFinite q, q.1, q.2, s.ft, 1⟩
    let s := { v.2 with rau := { s.rau with own := some (n, r), level := 1 } }
    let s := scaleLatch s n
    barrierAdvance 4 (barrierSend s n r 1)

/-- A BARRIER message is received (R408). -/
def acceptBarrier (s : State) (m : BarrierMsg) : State :=
  let s := bump s (R.RAU_BYTES_IN 0) (rauBytes (.barrier m))
  if s.rau.recs.any (fun r => r.1 = m.step && r.2.1 = m.level && r.2.2.1 = m.source) || decide (m.step < s.seq.barrier) then s
  else barrierAdvance 4 { s with rau := { s.rau with recs := s.rau.recs ++ [(m.step, m.level, m.source, m.record)] } }

end Sys2Proof.Machine
end

