-- ==== Sys2Proof/Machine/CounterCmds.lean ====
section
/-! DEFINITION. Commands of the counter block and the trace unit (R633 to R642). -/

namespace Sys2Proof.Machine

/-- A write of CNT_CTL: event enables, trace_en (R642), thaw (R636). -/
def cntCtlWrite (s : State) (v : Nat) : State :=
  let was := rb s R.CNT_CTL F.CNT_CTL_trace_en
  let s := setReg s R.CNT_CTL (BitVec.ofNat 64 (v % 0x80 - bitsOf v 4 2 <<< 4))
  let s := if bitOf v 7 then thaw s else s
  let on := decide (s.cnt.plan.mode ≠ 0)
  if bitOf v 6 then
    if was then s
    else if rb s R.CNT_STATUS F.CNT_STATUS_trace_stopped then traceRestart s
    else wf s R.CNT_STATUS F.CNT_STATUS_trace_on (b2n on)
  else wf s R.CNT_STATUS F.CNT_STATUS_trace_on 0

/-- THAW: a write of CNT_CTL with thaw 1 (R636). -/
def execThaw (v : Nat) (s : State) : Host.Outcome State Fault Refusal := .next (cntCtlWrite s (v ||| 0x80))

/-- TRACE_EN: a write of CNT_CTL with a new trace_en (R642). -/
def execTraceEn (v : Nat) (s : State) : Host.Outcome State Fault Refusal := .next (cntCtlWrite s v)

/-- CNT_TRACE_MARK: a write adds a MARK entry (R640). -/
def execCntTraceMark (v : Nat) (s : State) : Host.Outcome State Fault Refusal :=
  .next (tracePush s 8 0xFF (v % 2 ^ 64) 0)

/-- The freeze of R635 and R636: the FREEZE record goes to CNT_FROZEN, the view freezes, the trace stops. -/
def freezeNow (s : State) (tFreeze : Nat) : State :=
  let all := recordWords s true
  let key := s.free
  let r := latch s 4 0
  let s := r.2
  let words := (List.range 8).map (fun i => fieldAt r.1 (8 * i) 8) ++ all
  let s := forEach (fun s x => setReg s (R.CNT_FROZEN x.2) (BitVec.ofNat 64 x.1)) s words.zipIdx
  let was := rb s R.CNT_STATUS F.CNT_STATUS_frozen
  let s := if rb s R.CNT_STATUS F.CNT_STATUS_trace_on then
      let s := traceDrain (2 ^ 64) s.cnt.traceQ.length s
      let s := if traceWants s 9 then traceWrite s ⟨s.ft, 9, 0xFF, tFreeze, 0⟩ else s
      traceStop s
    else s
  let s := { s with cnt := { s.cnt with frozen := some (runningCounts s).regs, frozenKey := key } }
  let s := wf s R.CNT_STATUS F.CNT_STATUS_frozen 1
  let en := rb s R.CNT_CTL F.CNT_CTL_freeze_event_en
  let s := flagEvent s R.CNT_FLAGS F.CNT_FLAGS_freeze en 149
  if was then flagEvent s R.CNT_FLAGS F.CNT_FLAGS_refreeze en 149 else s

/-- FREEZE: the counter reaches the pending T (R634, R635). -/
def execFreeze (t : Nat) (s : State) : Host.Outcome State Fault Refusal :=
  let s := advance t s
  let tf := (reg s R.CNT_FREEZE_T).toNat
  .next (if rb s R.CNT_STATUS F.CNT_STATUS_freeze_pending && decide (tf ≤ s.ft) then
    let tl := latchTime s
    let s := freezeNow s tf
    let s := setReg (wf s R.CNT_STATUS F.CNT_STATUS_freeze_pending 0) R.CNT_FREEZE_T 0
    match s.cnt.freezeCmd with
    | some i => finOk { s with cnt := { s.cnt with freezeCmd := none } } i (leBytes 8 tl)
    | none => s
  else s)

end Sys2Proof.Machine
end

