-- ==== Sys2Proof/Machine/Ecdsa.lean ====
section
/-! DEFINITION. ECDSA over brainpoolP384r1 (R35): the curve of RFC 5639 and the verification of FIPS 186, which the rule names and the
spec does not print (PRESUMED, log 137). -/

namespace Sys2Proof.Machine

/-! ## The curve -/

/-- The prime of the field. -/
def ecP : Nat := 0x8CB91E82A3386D280F5D6F7E50E641DF152F7109ED5456B412B1DA197FB71123ACD3A729901D1A71874700133107EC53
/-- The coefficients of y² = x³ + ax + b. -/
def ecA : Nat := 0x7BC382C63D8C150C3C72080ACE05AFA0C2BEA28E4FB22787139165EFBA91F90F8AA5814A503AD4EB04A8C7DD22CE2826
def ecB : Nat := 0x04A8C7DD22CE28268B39B55416F0447C2FB77DE107DCD2A62E880EA53EEB62D57CB4390295DBC9943AB78696FA504C11
/-- The prime order of the base point. -/
def ecN : Nat := 0x8CB91E82A3386D280F5D6F7E50E641DF152F7109ED5456B31F166E6CAC0425A7CF3AB6AF6B7FC3103B883202E9046565

/-- A point in Jacobian coordinates: (x / z², y / z³), the point at infinity when z is 0. -/
structure EcPoint where
  x : Nat
  y : Nat
  z : Nat
  deriving DecidableEq, Repr

/-- The base point. -/
def ecG : EcPoint :=
  ⟨0x1D1C64F068CF45FFA2A63A81B7C13F6B8847A3E77EF14FE3DB7FCAFE0CBD10E8E826E03436D646AAEF87B2E247D4AF1E,
    0x8ABE1D7520F9C2A45CB1EB8E95CFD55262B70B29FEEC5864E19C054FF99129280E4646217791811142820341263C5315, 1⟩

def ecZero : EcPoint := ⟨1, 1, 0⟩

/-- Difference in the field. -/
def ecSub (a b : Nat) : Nat := (a + (ecP - b % ecP)) % ecP

/-- The point lies on the curve: affine coordinates. -/
def ecOnCurve (x y : Nat) : Bool :=
  decide (x < ecP) && decide (y < ecP) && decide (y * y % ecP = (x * x * x + ecA * x + ecB) % ecP)

/-- Twice a point. -/
def ecDouble (p : EcPoint) : EcPoint :=
  if p.z = 0 ∨ p.y = 0 then ecZero
  else
    let yy := p.y * p.y % ecP
    let zz := p.z * p.z % ecP
    let s := 4 * p.x * yy % ecP
    let m := (3 * p.x * p.x + ecA * (zz * zz % ecP)) % ecP
    let x := ecSub (m * m) (2 * s)
    ⟨x, ecSub (m * ecSub s x) (8 * yy * yy), 2 * p.y * p.z % ecP⟩

/-- The sum of two points. -/
def ecAdd (p q : EcPoint) : EcPoint :=
  if p.z = 0 then q
  else if q.z = 0 then p
  else
    let zz1 := p.z * p.z % ecP
    let zz2 := q.z * q.z % ecP
    let u1 := p.x * zz2 % ecP
    let u2 := q.x * zz1 % ecP
    let s1 := p.y * (zz2 * q.z % ecP) % ecP
    let s2 := q.y * (zz1 * p.z % ecP) % ecP
    if u1 = u2 then (if s1 = s2 then ecDouble p else ecZero)
    else
      let h := ecSub u2 u1
      let r := ecSub s2 s1
      let hh := h * h % ecP
      let hhh := hh * h % ecP
      let v := u1 * hh % ecP
      let x := ecSub (r * r) (hhh + 2 * v)
      ⟨x, ecSub (r * ecSub v x) (s1 * hhh), p.z * q.z % ecP * h % ecP⟩

/-- The multiple by the low `bits` bits of `k`. -/
def ecMul (k : Nat) (p : EcPoint) : Nat → EcPoint
  | 0 => ecZero
  | bits + 1 =>
    let q := ecMul (k / 2) (ecDouble p) bits
    if k % 2 = 1 then ecAdd p q else q

/-- `a` to the power of the low `bits` bits of `e`, modulo `m`. -/
def powMod (m a e : Nat) : Nat → Nat
  | 0 => 1 % m
  | bits + 1 =>
    let q := powMod m (a * a % m) (e / 2) bits
    if e % 2 = 1 then a * q % m else q

/-- The inverse modulo a prime of 384 bits. -/
def invMod (m a : Nat) : Nat := powMod m (a % m) (m - 2) 384

/-! ## Verification -/

/-- The signature (r, s) of a SHA-384 digest verifies under the public key (qx, qy), all big-endian (R35, R36). -/
def ecdsaVerify (qx qy digest r s : List Byte) : Bool :=
  let x := beVal qx
  let y := beVal qy
  let r := beVal r
  let s := beVal s
  if r = 0 ∨ ecN ≤ r ∨ s = 0 ∨ ecN ≤ s ∨ !ecOnCurve x y then false
  else
    let w := invMod ecN s
    let p := ecAdd (ecMul (beVal digest * w % ecN) ecG 384) (ecMul (r * w % ecN) ⟨x, y, 1⟩ 384)
    decide (p.z ≠ 0) && decide (p.x * invMod ecP (p.z * p.z) % ecP % ecN = r)

end Sys2Proof.Machine
end

