-- ==== Sys2Proof/Machine/Flags.lean ====
section
/-! DEFINITION. Flags of the element-engine instructions (R157). Sticky register flags with their events are set by flagEvent of
Machine/Events.lean. -/

namespace Sys2Proof.Machine

/-- Flags of an arithmetic result (R157). -/
def arithFlags (ops : List W32) (res : W32) : CvtFlags :=
  let nanIn := ops.any isNaN32
  ⟨isInf32 res && ops.all isFin32, isNaN32 res && !nanIn, nanIn⟩

/-- Flags of a comparison or selection of FP32 values: a NaN operand (R157). -/
def cmpFlags (ops : List W32) : CvtFlags := ⟨false, false, ops.any isNaN32⟩

end Sys2Proof.Machine
end

