-- ==== Sys2Proof/Machine/Array.lean ====
section
/-! DEFINITION. The frond's array: operands, passes, accumulation, slots, drains, and the MOVE engine (R105 to R142, R360, R361,
R370 to R376, R392). -/

namespace Sys2Proof.Machine

/-! ## Store and accumulator memory -/

/-- Model key of the pair of element (r, c) of slot `k` of frond `f` (R123). -/
def accKey (f k r c : Nat) : Nat := 2 ^ 49 + f * 2 ^ 20 + k * 524288 + r * 1024 + c * 8

def accPair (s : State) (f k r c : Nat) : W32 × W32 :=
  (BitVec.ofNat 32 (numAt s (accKey f k r c) 4), BitVec.ofNat 32 (numAt s (accKey f k r c + 4) 4))

def setAccPair (s : State) (f k r c : Nat) (p : W32 × W32) : State := setBytes s (accKey f k r c) (pairBytes [p])

def storeNum (s : State) (f off n : Nat) : Nat := numAt s (storeBase f + off) n
def storeBytes (s : State) (f off n : Nat) : List Byte := bytesAt s (storeBase f + off) n

/-- Bytes written to a frond store, counted (R627). -/
def storePut (s : State) (f off : Nat) (bs : List Byte) : State := cntAdd (setBytes s (storeBase f + off) bs) 25 bs.length

/-! ## Operands (R109, R110, R131, R692) -/

/-- Pass depth of an input pair (R109). -/
def passDepth (a b : Nat) : Nat :=
  if a = 8 ∧ b = 8 then 512 else if (a = 6 ∨ a = 7) ∧ (b = 6 ∨ b = 7) then 256 else 128

/-- Bits of an operand element. -/
def operandBits (fmt : Nat) : Nat := if fmt = 8 then 4 else if fmt = 6 ∨ fmt = 7 then 8 else 16

/-- Code `i` of a stored row at store offset `o`, with the block scale at store offset `sc` for E2M1 (0 otherwise). -/
def operandCode (s : State) (f fmt o i sc : Nat) : Nat × Nat :=
  if fmt = 8 then (bitsOf (storeNum s f (o + i / 2) 1) (4 * (i % 2)) 4, storeNum s f sc 1)
  else if fmt = 6 ∨ fmt = 7 then (storeNum s f (o + i) 1, 0)
  else (storeNum s f (o + 2 * i) 2, 0)

/-- Value of an operand's code with its scale. -/
def operandVal (fmt : Nat) (c : Nat × Nat) : FV :=
  match fmt with
  | 3 => bf16Val c.1
  | 5 => fp16Val c.1
  | 6 => e4m3Val c.1
  | 7 => e5m2Val c.1
  | _ => e2m1Val c.1 c.2

/-- The code of A(r, k) with its scale (R131, R692). -/
def codeA (s : State) (f : Nat) (d : List Byte) (r k : Nat) : Nat × Nat :=
  let p := if bitOf (fieldAt d 0xC 2) 0 then (k, r) else (r, k)
  let row := (fieldAt d 4 4 + 31) / 32
  operandCode s f (fieldAt d 8 1) (fieldAt d 0x10 4 + p.1 * fieldAt d 0x24 2 * 64) p.2
    (fieldAt d 0x1C 4 + r * ((row + 63) / 64 * 64) + k / 32)

/-- The code of B(k, c) with its scale (R131, R692). -/
def codeB (s : State) (f : Nat) (d : List Byte) (k c : Nat) : Nat × Nat :=
  let p := if bitOf (fieldAt d 0xC 2) 1 then (c, k) else (k, c)
  operandCode s f (fieldAt d 9 1) (fieldAt d 0x14 4 + p.1 * fieldAt d 0x26 2 * 64) p.2
    (fieldAt d 0x20 4 + k / 32 * ((dColsN d + 63) / 64 * 64) + c)

/-- A(r, k). -/
def operandA (s : State) (f : Nat) (d : List Byte) (r k : Nat) : FV := operandVal (fieldAt d 8 1) (codeA s f d r k)

/-- B(k, c). -/
def operandB (s : State) (f : Nat) (d : List Byte) (k c : Nat) : FV := operandVal (fieldAt d 9 1) (codeB s f d k c)

/-! ## Weight registers and crozier (R111, R113, R114) -/

/-- K positions of pass `i`: the first and the one after the last (R121). -/
def passSpan (d : List Byte) (i : Nat) : Nat × Nat :=
  let kp := passDepth (fieldAt d 8 1) (fieldAt d 9 1)
  (i * kp, min (fieldAt d 4 4) ((i + 1) * kp))

/-- The tile of B that the weight registers hold in pass `i`, a row for each K position; empty past the last pass. -/
def weightTile (s : State) (f : Nat) (d : List Byte) (i : Nat) : List (List (Nat × Nat)) :=
  let k := passSpan d i
  (List.range (k.2 - k.1)).map (fun j => (List.range (dColsN d)).map (codeB s f d (k.1 + j)))

/-- Tiles of 128 rows that a pass streams (R114). -/
def passTiles (d : List Byte) : Nat := (dRowsM d + 127) / 128

/-- Columns of a turn unit as it is delivered, 128 rows high: 128 of a 16-bit operand, 256 of an 8-bit one (R113). -/
def unitCols (fmt : Nat) : Nat := if operandBits fmt = 8 then 256 else 128

/-- First K position of the streamed operand's turn unit of pass `i`: an 8-bit unit of a pair with pass depth 128 serves two passes. -/
def streamStart (d : List Byte) (i : Nat) : Nat :=
  let c := unitCols (fieldAt d 8 1)
  (passSpan d i).1 / c * c

/-- The turn unit of the streamed operand for tile `t` of pass `i`: rows 128t to 128t + 127 of A, a row of the unit for each; what lies
outside the operand is 0 (R113). -/
def streamUnit (s : State) (f : Nat) (d : List Byte) (i t : Nat) : TurnUnit :=
  let k0 := streamStart d i
  ⟨(i * passTiles d + t) % 2, false, (List.range 128).map (fun r => (List.range (unitCols (fieldAt d 8 1))).map (fun j =>
    if 128 * t + r < dRowsM d ∧ k0 + j < fieldAt d 4 4 then (codeA s f d (128 * t + r) (k0 + j)).1 else 0))⟩

/-- The turn units of the stationary operand for pass `i`: 128 K positions each, one unit, or two where an 8-bit pair has pass depth 256
(R113). -/
def stationaryUnits (s : State) (f : Nat) (d : List Byte) (i : Nat) : List TurnUnit :=
  let k := passSpan d i
  (List.range ((k.2 - k.1 + 127) / 128)).map (fun u => ⟨i * passTiles d % 2, true, (List.range 128).map (fun j =>
    (List.range (unitCols (fieldAt d 9 1))).map (fun c =>
      if k.1 + 128 * u + j < fieldAt d 4 4 ∧ c < dColsN d then (codeB s f d (k.1 + 128 * u + j) c).1 else 0))⟩)

/-- The turn units that the half pass `i` reads first holds as it starts: of the streamed operand tile 0, of the stationary one its
units, two in all (R114). -/
def turnUnits (s : State) (f : Nat) (d : List Byte) (i : Nat) : List TurnUnit :=
  let k := passSpan d i
  if k.2 ≤ k.1 then []
  else
    ((if bitOf (fieldAt d 0xC 2) 0 then [streamUnit s f d i 0] else [])
      ++ (if bitOf (fieldAt d 0xC 2) 1 then stationaryUnits s f d i else [])).take 2

/-- The pass starts: shadow and active weights swap (R111). -/
def swapWeights (s : State) (f : Nat) : State := modFrond s f (fun x => { x with active := x.shadow, shadow := x.active })

/-- While a pass runs, the weights of pass `i`, the next, load into the shadow registers and its first turn units fill the crozier (R111,
R114; DEDUCED, log 113). -/
def loadPass (s : State) (f : Nat) (d : List Byte) (i : Nat) : State :=
  modFrond s f (fun x => { x with shadow := weightTile s f d i, crozier := turnUnits s f d i })

/-- A(r, k) as pass `i` streams it: a turned operand's tile 0 from the crozier, which filled before the pass, the rest as the store holds
it (R114). -/
def streamedA (s : State) (f : Nat) (d : List Byte) (i r k : Nat) : FV :=
  match (frondOf s f).crozier.find? (fun u => !u.stationary) with
  | some u => if r < 128 then operandVal (fieldAt d 8 1) ((u.rows.getD r []).getD (k - streamStart d i) 0, 0) else operandA s f d r k
  | none => operandA s f d r k

/-- Sum of the scale exponents, the bound ones included (R110, R438). -/
def productScale (s : State) (f i : Nat) (d : List Byte) : Int :=
  let x := frondOf s f
  let own (k off : Nat) : Int := match (opBindings s f i).find? (fun b => b.kind = k) with
    | some b => bindExp s b.tensor x.step (fieldAt d 0x2A 2 % 4096)
    | none => toSigned 8 (fieldAt d off 1)
  own 1 0xA + own 2 0xB

/-- Exact sum of values in order; of an empty list +0. -/
def fvSum : List FV → FV
  | [] => .fin false 0 0
  | v :: vs => vs.foldl fvAdd v

/-- The exact sum of output element (r, c) in pass `i`, with the weights that are active (R116 to R118). -/
def passSum (s : State) (f : Nat) (d : List Byte) (scale : Int) (i r c : Nat) : FV :=
  let k := passSpan d i
  fvSum (((frondOf s f).active.take (k.2 - k.1)).zipIdx.map (fun w =>
    fvScale scale (fvMul (streamedA s f d i r (k.1 + w.2)) (operandVal (fieldAt d 9 1) (w.1.getD c (0, 0))))))

/-- An element after a pass with exact sum `v`: the pair, and whether it saturated and met an infinity or a NaN (R117 to R122). -/
def passElem (p : W32 × W32) (v : FV) : (W32 × W32) × Bool × Bool :=
  let w := toF32 v
  let inf := fvFinite v && isInf32 w
  let q := pairAddSat p.1 p.2 (if inf then f32v (max32 (neg32 w)) else f32v w)
  let res := if inf then (q.1.1, 0) else q.1
  (res, inf || q.2, !fvFinite v || !isFin32 p.1 || !isFin32 q.1.1)

/-! ## Slots (R123 to R130) -/

/-- Set the flags of slot `k` that a pass raised, with their events (R130). -/
def setSlotFlags (s : State) (f k : Nat) (sat inf : Bool) : State :=
  let r := R.FRD_SLOT_FLAGS f
  let s := if sat then flagEvent s r (if k = 0 then F.FRD_SLOT_FLAGS_s0_sat else F.FRD_SLOT_FLAGS_s1_sat)
      (rb s (R.FRD_CTL f) F.FRD_CTL_sat_event_en) f else s
  if inf then flagEvent s r (if k = 0 then F.FRD_SLOT_FLAGS_s0_infnan else F.FRD_SLOT_FLAGS_s1_infnan)
      (rb s (R.FRD_CTL f) F.FRD_CTL_infnan_event_en) f else s

/-- The slot content before the first pass, by the init field (R126). -/
def initSlot (s : State) (f k : Nat) (d : List Byte) : State :=
  match dInit d with
  | 0 => zeroKeys s (accKey f k 0 0) 524288
  | 2 =>
    let s := forEach (fun s r =>
      setBytes s (accKey f k r 0) (storeBytes s f (fieldAt d 0x18 4 + r * fieldAt d 0x28 2 * 64) (8 * dColsN d)))
      s (List.range (dRowsM d))
    cntAdd s 24 (8 * dRowsM d * dColsN d)
  | _ => s

/-- The content a product's init field needs is there: a chained seed has arrived (R126, R129). -/
def seedReady (s : State) (f k : Nat) (d : List Byte) : Bool := decide (dInit d ≠ 3) || (slotOf s f k).arrived

/-- Pass `i` of a product added into its slot (R116 to R122), element by element. -/
def addPass (s : State) (f k : Nat) (d : List Byte) (scale : Int) (i : Nat) : State :=
  let ks := passSpan d i
  let cells := (List.range (dRowsM d)).flatMap (fun r => (List.range (dColsN d)).map (fun c =>
    ((r, c), passElem (accPair s f k r c) (passSum s f d scale i r c))))
  let sats := (cells.filter (fun x => x.2.2.1)).length
  let inf := cells.any (fun x => x.2.2.2)
  let s := forEach (fun s (x : (Nat × Nat) × (W32 × W32) × Bool × Bool) => setAccPair s f k x.1.1 x.1.2 x.2.1) s cells
  let s := if 0 < sats then bump s (R.FRD_SAT_CNT f) sats else s
  let s := setSlotFlags s f k (decide (0 < sats)) inf
  let s := modSlot s f k (fun x => { x with sat := x.sat || decide (0 < sats), inf := x.inf || inf })
  let m := dRowsM d
  let s := cntAdd (bump (bump s (R.FRD_PASS_CNT f) 1) (R.FRD_BUSY_CNT f) m) 9 m
  let bits := (ks.2 - ks.1) * (m * operandBits (fieldAt d 8 1) + dColsN d * operandBits (fieldAt d 9 1))
  cntAdd (cntAdd (cntAdd s 24 (bits / 8)) 26 (8 * m * dColsN d)) 27 (8 * m * dColsN d)

/-- The list op `i` of frond `f` as a product: its op, its descriptor. -/
def productAt (s : State) (f i : Nat) : Option (PlanOp × List Byte) := (opAt s f i).map (fun o => (o, descOf s o))

/-- Report what the array waits for (FRD_STATUS.stall). -/
def setStall (s : State) (f v : Nat) : State := wf s (R.FRD_STATUS f) F.FRD_STATUS_stall v

/-- The next pass of the product that has the array (R112, R121, R124, R127, R365, R597). -/
def runPass (s : State) (f : Nat) : State :=
  match (frondOf s f).array with
  | none => s
  | some k =>
    let x := slotOf s f k
    match x.op with
    | none => s
    | some i =>
      match productAt s f i with
      | none => s
      | some (o, d) =>
        if (frondOf s f).halted || failed s || pausedNow s then s
        else if x.passes = 0 && !seedReady s f k d then setStall s f 3
        else
          let s := setStall s f 0
          let s := if x.passes = 0 then setSlotState (initSlot s f k d) f k 1 else s
          let s := loadPass (addPass (swapWeights s f) f k d (productScale s f i d) x.passes) f d (x.passes + 1)
          let s := modSlot s f k (fun y => { y with passes := y.passes + 1 })
          if (x.passes + 1) * passDepth (fieldAt d 8 1) (fieldAt d 9 1) < fieldAt d 4 4 then s
          else
            let s := modFrond s f (fun y => { y with array := none })
            if dDrain d = 0 then
              opDone (modSlot (setSlotState s f k 4) f k (fun y => { turn := y.turn, sat := y.sat, inf := y.inf })) f f o
            else setSlotState s f k 2

/-! ## Issue of a product (R125, R364, R368) -/

/-- A product takes the array and its slot; the tile's flags start clear unless it continues a held one (R130), and its first
weights and turn units load. -/
def issueProduct (s : State) (f : Nat) (o : PlanOp) (how : Nat) : State :=
  let d := descOf s o
  match slotFor s f d with
  | none => s
  | some k =>
    let turn := (slotOf s f (1 - k)).turn + 1
    let s := issueOp s f o how
    let seed (x : Slot) : Option Nat := if dInit d = 3 then some (fieldAt d 0x3D 1 % 32) else x.seed
    let keep := decide (dInit d = 1)
    let s := modSlot s f k (fun x => { x with
      op := some o.idx, seed := seed x, passes := 0, drained := 0, turn := turn, sat := keep && x.sat, inf := keep && x.inf })
    let s := loadPass (modFrond s f (fun x => { x with
      array := some k, engQ := if dDrain d = 1 then x.engQ ++ [o.idx] else x.engQ })) f d 0
    let s := wf (setStall s f 0) (R.FRD_STATUS f) F.FRD_STATUS_cur_product o.idx
    if how = 2 then bump s (R.FRD_BUBBLE_CNT f) (productCycles s (passDepth (fieldAt d 8 1) (fieldAt d 9 1)) o) else s

/-! ## Drains other than SPORE (R127 to R129) -/

/-- The slot's product has drained: the slot is FREE and the op completes (R124, R365). -/
def drainDone (s : State) (f k : Nat) (o : PlanOp) : State :=
  let s := modSlot (setSlotState s f k 0) f k (fun x => { turn := x.turn })
  opDone s f f o

/-- FP16 codes of row `r` of a slot, rounded stochastically (R92, R132). -/
def drainFp16 (s : State) (f k : Nat) (d : List Byte) (r : Nat) : List Nat :=
  let seed := jobSeed s
  let step := (frondOf s f).step
  (List.range (dColsN d)).map (fun c =>
    let p := accPair s f k r c
    let rnd := randOf seed (fieldAt d 0x2C 4 % 2 ^ 20) step (fieldAt d 0x2A 2 % 4096)
      (fieldAt d 0x30 8 % 2 ^ 48 + r * fieldAt d 0x38 4 + c)
    (toIeee lFP16 (.sr rnd) (pairVal p.1 p.2)).1)

/-- BF16 codes of row `r` of a slot. -/
def drainBf16 (s : State) (f k : Nat) (d : List Byte) (r : Nat) : List Nat :=
  (List.range (dColsN d)).map (fun c => let p := accPair s f k r c; (toIeee lBF16 .ne (pairVal p.1 p.2)).1)

/-- The slot of frond `g` that the next tile of frond `f` goes to: one whose product waits for it, else a FREE one (R129), the lowest,
which no other product may take although it still reads FREE (DESIGN CHOICE, log 127). -/
def chainSlot (s : State) (f g : Nat) : Option Nat :=
  match [0, 1].find? (fun k => let x := slotOf s g k
      x.seed = some f && !x.sent && (x.op.isSome || decide (0 < x.seedRows))) with
  | some k => some k
  | none => [0, 1].find? (slotAvailable s g)

/-- Tiles of frond `f` to one receiver leave in the order of issue (R129). -/
def chainTurn (s : State) (f k : Nat) (d : List Byte) : Bool :=
  let y := slotOf s f (1 - k)
  !(decide (slotState s f (1 - k) = 2 ∨ slotState s f (1 - k) = 3) && decide (y.turn < (slotOf s f k).turn)
    && (match y.op.bind (productAt s f) with
      | some p => decide (dDrain p.2 = 5) && decide (fieldAt p.2 0x3C 1 = fieldAt d 0x3C 1)
      | none => false))

/-- One row of a slot goes to its drain consumer; none when the consumer cannot accept it (R128). A CHAIN drain whose list has been
ended sends nothing (DESIGN CHOICE, log 116). -/
def drainRowTo (s : State) (f k : Nat) (d : List Byte) (r : Nat) : Option State :=
  let out := fieldAt d 0x18 4 + r * fieldAt d 0x28 2 * 64
  match dDrain d with
  | 2 =>
    let cs := drainFp16 s f k d r
    some (overflowCodes (storePut s f out (leAll 2 cs)) (frondOf s f).step cs)
  | 3 => some (storePut s f out (leAll 2 (drainBf16 s f k d r)))
  | 4 => some (storePut s f out (bytesAt s (accKey f k r 0) (8 * dColsN d)))
  | 5 =>
    let g := fieldAt d 0x3C 1 % 32
    if !rb s (R.FRD_PLAN_STATUS f) F.FRD_PLAN_STATUS_running then some s
    else if r = 0 && !chainTurn s f k d then none
    else match chainSlot s f g with
      | none => none
      | some q =>
        let s := cntAdd (setBytes s (accKey g q r 0) (bytesAt s (accKey f k r 0) 1024)) 27 1024
        let order := (slotOf s g (1 - q)).order + 1
        let from_ := slotOf s f k
        some (modSlot s g q (fun x => { x with
          seed := some f, seedRows := r + 1, order := if r = 0 then order else x.order, sent := decide (r + 1 = dRowsM d)
          seedSat := from_.sat, seedInf := from_.inf }))
  | _ => none

/-- One row of slot `k` drains (R124, R128). -/
def drainRow (s : State) (f k : Nat) : State :=
  let x := slotOf s f k
  match x.op.bind (productAt s f) with
  | none => s
  | some (o, d) =>
    let st := slotState s f k
    if (st ≠ 2 ∧ st ≠ 3) ∨ dDrain d < 2 ∨ failed s = true ∨ ((frondOf s f).halted = true ∧ st = 2) then s
    else match drainRowTo s f k d x.drained with
      | none => setStall s f 5
      | some s =>
        let s := cntAdd (setSlotState s f k 3) 26 (8 * dColsN d)
        let s := modSlot s f k (fun y => { y with drained := y.drained + 1 })
        if x.drained + 1 < dRowsM d then s else drainDone s f k o

/-- A whole chained tile has reached frond `g` from frond `f` (R129). -/
def chainArrived (s : State) (f g : Nat) : State :=
  match minBy (fun k => (slotOf s g k).order) ([0, 1].filter (fun k => let x := slotOf s g k; x.seed = some f && x.sent && !x.arrived)) with
  | none => s
  | some k => modSlot s g k (fun x => { x with arrived := true })

/-! ## Moves (R360, R361, R370, R392) -/

/-- The parameter-map block of dest 2 that a device address lies in: its head's address (R376). -/
def memBlockAt (s : State) (a : Nat) : Option Nat :=
  (maxBy (fun e => e.2.2.2.2) ((paramEntries s).filter (fun e => decide (e.2.1 = 2) && decide (e.2.2.2.2 ≤ a)))).map (·.2.2.2.2)

/-- Bytes of a block held in device memory, widened to BF16 (R361, R375). -/
def widenBytes (s : State) (a n : Nat) : List Byte :=
  match memBlockAt s a with
  | none => []
  | some h =>
    let hd := localBytes s h 64
    let fmt := fieldAt hd 0 1
    let e := toSigned 8 (fieldAt hd 1 1)
    let cnt := fieldAt hd 4 4
    (localBytes s a n).zipIdx.flatMap (fun b =>
      let o := a + b.2 - (h + 64)
      if fmt = 8 then
        let sc := fieldAt (localBytes s (h + 64 + (cnt + 1) / 2 + 2 * o / 32) 1) 0 1
        leBytes 2 (widenCode 8 e sc (b.1.toNat % 16)) ++ leBytes 2 (widenCode 8 e sc (b.1.toNat / 16))
      else leBytes 2 (widenCode fmt e 0 b.1.toNat))

/-- The violation of reading row `r` of a MOVE of frond `f`, its address and cause; none when the row may be read (R106, R568). -/
def moveBad (s : State) (f : Nat) (o : PlanOp) (r : Nat) : Option (Nat × Nat) :=
  let a := moveSource s o r
  let n := bodyNum s o 0x14 4
  if bitOf (bodyNum s o 1 1) 1 then (if (devRead s a n).isNone then some (a, if a < 0x1000_0000_0000 then 6 else 3) else none)
  else if storeSize < a + n then some (storeBase f + a, 5) else none

/-- Row `r` that a MOVE reads, widened where it says so; a row it may not read gives zero bytes (DESIGN CHOICE, log 33). -/
def moveRow (s : State) (f : Nat) (o : PlanOp) (r : Nat) : List Byte :=
  let flags := bodyNum s o 1 1
  let a := moveSource s o r
  let n := bodyNum s o 0x14 4
  if (moveBad s f o r).isSome then List.replicate (if bitOf flags 0 then 2 * n else n) 0
  else if bitOf flags 0 then widenBytes s (if bitOf flags 1 then a else storeBase f + a) n
  else if bitOf flags 1 then localBytes s a n else storeBytes s f a n

/-- The ranges of device memory that a MOVE reads (R360, R361): its rows, and the head and the scales of a block it widens. -/
def moveRanges (s : State) (o : PlanOp) : List (Nat × Nat) :=
  let flags := bodyNum s o 1 1
  let n := bodyNum s o 0x14 4
  let rows := (List.range (bodyNum s o 6 2)).map (moveSource s o)
  let block (a : Nat) : List (Nat × Nat) := match memBlockAt s a with
    | none => []
    | some h =>
      let scale (b : Nat) : Nat := h + 64 + (fieldAt (localBytes s h 64) 4 4 + 1) / 2 + 2 * (b - (h + 64)) / 32
      (h, 64) :: (if fieldAt (localBytes s h 1) 0 1 = 8 then [(scale a, scale (a + n - 1) + 1 - scale a)] else [])
  if bitOf flags 1 then rows.flatMap (fun a => (a, n) :: (if bitOf flags 0 then block a else [])) else []

/-- Rows with their destination offsets. -/
def moveRows (s : State) (f : Nat) (o : PlanOp) (base : Nat) : List (Nat × List Byte) :=
  (List.range (bodyNum s o 6 2)).map (fun r => (base + r * bodyNum s o 0x1A 2 * 64, moveRow s f o r))

/-- The violations of the rows a MOVE may not read (R106, R570). -/
def moveViolations (s : State) (f : Nat) (o : PlanOp) : State :=
  forEach (fun s (b : Nat × Nat) => violation s 3 b.1 (selfId s) false b.2) s ((List.range (bodyNum s o 6 2)).filterMap (moveBad s f o))

/-- Write rows into the store of frond `g`; a row that does not lie in it is a violation and nothing of it is written (R106, R568). -/
def putRows (s : State) (g : Nat) (rows : List (Nat × List Byte)) : State :=
  forEach (fun s (x : Nat × List Byte) =>
    if storeSize < x.1 + x.2.length then violation s 3 (storeBase g + x.1) (selfId s) true 5 else storePut s g x.1 x.2) s rows

/-- Greatest bytes of rows in one STORE_WR message. -/
def storeWrMax : Nat := 2 ^ 20 - 64

/-- Send rows to the store of frond `g` of device `dst` as STORE_WR messages, the last with the done bit: whole rows share a
message while they fit, longer rows are cut (DESIGN CHOICE, log 78). -/
def sendRows (s : State) (op : Option (Nat × Nat)) (dst g stride : Nat) (done : Option Nat) (rows : List (Nat × List Byte)) : State :=
  let len := (rows.head?.map (·.2.length)).getD 0
  let msgs : List (Nat × Nat × Nat × List Byte) :=
    if len ≤ storeWrMax then
      (chunksOf (storeWrMax / max len 1) rows).map (fun c => ((c.head?.map (·.1)).getD 0, stride, len, c.flatMap (·.2)))
    else rows.flatMap (fun x => (pieces storeWrMax x.2).map (fun p => (x.1 + p.1, 0, p.2.length, p.2)))
  forEach (fun s (m : (Nat × Nat × Nat × List Byte) × Nat) =>
    sendFrom s none op none dst (.storeWr m.1.1 g (if m.2 + 1 = msgs.length then done else none) m.1.2.1 m.1.2.2.1 m.1.2.2.2)) s msgs.zipIdx

/-- The device's contribution to a block as REDUCE messages (R392). They carry the flag `carried` when under policy CARRY the step's
window has closed here as they leave; the receiving RAU decides by its own time (R403, R404; DEDUCED, log 125). -/
def sendReduce (s : State) (f : Nat) (o : PlanOp) : State :=
  let b := bodyNum s o 0x1C 4
  match blockEntry s b with
  | none => s
  | some e =>
    if !(contributors s e).contains (selfId s) then bump s (R.RAU_UNMAPPED_CNT e.die) 1
    else match reduceDest s e (selfId s) with
      | none => s
      | some dst =>
        let bs := (moveRows s f o 0).flatMap (·.2)
        let elems := (List.range e.nElem).map (fun i => fieldAt bs (2 * i) 2)
        let ps := pieces perMsg2 elems
        let late := carryOf s (frondOf s f).step && windowPassed s (frondOf s f).step s.ft
        forEach (fun s (p : (Nat × List Nat) × Nat) =>
          rauSendFor s (some (f, o.idx)) e.die dst
            (.reduce ⟨selfId s, b, (frondOf s f).step, p.1.1, p.1.2, decide (p.2 + 1 = ps.length), late⟩)) s ps.zipIdx

/-- An op without its done bit: what a queue or a remote frond decides. -/
def PlanOp.silent (o : PlanOp) : PlanOp := { o with done := 0 }

/-- A MOVE to a stage queue takes a credit and its slot (R370, R371). -/
def moveToQueue (s : State) (f : Nat) (o : PlanOp) : State :=
  let q := bodyNum s o 4 2
  let x := queueAt s q
  let k := alGet 0 s.seq.moved q
  let s := { s with seq := { s.seq with used := alSet s.seq.used q (alGet 0 s.seq.used q + 1), moved := alSet s.seq.moved q (k + 1) } }
  let rows := moveRows s f o (x.base + k % x.depth * x.slotBytes)
  if x.consMember = memberOf (selfId s) then
    modFrond s f (fun y => { y with move := some ⟨q, k, rows.flatMap (·.2), o.idx⟩ })
  else
    moveLeaves (sendRows s (some (f, o.idx)) (withMember (selfId s) x.consMember) x.consFrond (bodyNum s o 0x1A 2)
      (some (x.firstBit + k % x.depth)) rows) f o

/-- The effect of a MOVE once it has issued; one to another device completes once that device has acknowledged its messages (R360,
R365). -/
def runMove (s : State) (f : Nat) (o : PlanOp) : State :=
  let n := bodyNum s o 6 2 * bodyNum s o 0x14 4
  let s := moveViolations s f o
  let s := if bitOf (bodyNum s o 1 1) 1 then s else cntAdd s 24 n
  match bodyNum s o 0 1 with
  | 0 => opDone (putRows s f (moveRows s f o (bodyNum s o 0x10 4))) f f o
  | 1 =>
    let g := bodyNum s o 2 1 % 32
    opDone (putRows s g (moveRows s f o (bodyNum s o 0x10 4))) f g o
  | 2 =>
    let done := if bitOf o.done 15 then some (o.done % 1024) else none
    moveLeaves (sendRows s (some (f, o.idx)) (withMember (selfId s) (bodyNum s o 3 1 % 4)) (bodyNum s o 2 1 % 32) (bodyNum s o 0x1A 2) done
      (moveRows s f o (bodyNum s o 0x10 4))) f o
  | 3 => moveToQueue s f o
  | _ => moveLeaves (sendReduce s f o) f o

/-- The move in flight to queue `q` arrives: its rows stand in the slot and the data bit is set (R370). -/
def queueArrive (s : State) (q : Nat) : State :=
  match (List.range 32).find? (fun f => (frondOf s f).move.any (fun m => m.queue = q)) with
  | none => s
  | some f =>
    match (frondOf s f).move with
    | none => s
    | some m =>
      match opAt s f m.op with
      | none => s
      | some o =>
        let x := queueAt s q
        let base := x.base + m.k % x.depth * x.slotBytes
        let len := m.bytes.length / max 1 (bodyNum s o 6 2)
        let rows := (chunksOf (max 1 len) m.bytes).zipIdx.map (fun c => (base + c.2 * bodyNum s o 0x1A 2 * 64, c.1))
        let s := setSb (putRows s x.consFrond rows) x.consFrond (x.firstBit + m.k % x.depth) true
        opDone (modFrond s f (fun y => { y with move := none })) f f o.silent

/-- A credit of queue `q` reaches its producer (R371): one on its way from a consumer of this device, or one from a peer. -/
def creditArrive (s : State) (q : Nat) : State :=
  let x := queueAt s q
  let used := alGet 0 s.seq.used q
  if q < queueCount s ∧ x.prodMember = memberOf (selfId s) ∧ 0 < used ∧ (x.consMember ≠ memberOf (selfId s) ∨ s.seq.returning.contains q = true) then
    { s with seq := { s.seq with used := alSet s.seq.used q (used - 1), returning := s.seq.returning.erase q } }
  else s

/-- PLAN_STALL at `t` (R382). -/
def planStall (s : State) (f : Nat) : State :=
  let x := frondOf s f
  let lim := max 1 (rf s (R.FRD_PLAN_CTL f) F.FRD_PLAN_CTL_stall_limit) * 1024
  let covered := s.recov.lost.any (fun l => decide (cliqueOf l.device = cliqueOf (selfId s)) && !l.committed)
  if rb s (R.FRD_PLAN_STATUS f) F.FRD_PLAN_STATUS_running && decide (x.since + lim ≤ s.ft) && !covered then
    flagEvent s (R.FRD_PLAN_STATUS f) F.FRD_PLAN_STATUS_stalled (rb s (R.FRD_PLAN_CTL f) F.FRD_PLAN_CTL_stall_event_en) (64 + f)
  else s

end Sys2Proof.Machine
end

