-- ==== Sys2Proof/Machine/Operands.lean ====
section
/-! DEFINITION. Operand forms of the element engines: instruction words (R153, R154), the invocation's regions and lanes (R145 to
R149), operand selectors (R155, R159). The address forms of commands (R546) stand in Machine/CmdOps.lean. -/

namespace Sys2Proof.Machine

/-! ## Encoding (R153, R154) -/

/-- Opcode and fields of a format R instruction word. -/
def eDecode (w : Nat) : Nat × EInstr :=
  (bitsOf w 56 8, { d := bitsOf w 51 5, a := bitsOf w 46 5, b := bitsOf w 41 5, c := bitsOf w 36 5, maskEn := bitOf w 35,
                    mreg := bitsOf w 31 4, zero := bitOf w 30, rnd := bitsOf w 28 2, fmt := bitsOf w 24 4, aux := bitsOf w 0 24 })

/-- The word of a format R instruction. -/
def eWord (op : Nat) (i : EInstr) : Nat :=
  op <<< 56 + i.d <<< 51 + i.a <<< 46 + i.b <<< 41 + i.c <<< 36 + b2n i.maskEn <<< 35 + i.mreg <<< 31 + b2n i.zero <<< 30
    + i.rnd <<< 28 + i.fmt <<< 24 + i.aux

/-- An LDI names no s register or holds a value of more than 32 bits (R154). -/
def ldiInvalid (d imm : Nat) : Bool := decide (d < 16) || decide (24 ≤ d) || decide (2 ^ 32 ≤ imm)

/-- The word of LDI. -/
def ldiWord (d imm : Nat) : Nat := 0x49 <<< 56 + d <<< 51 + imm

/-- Region codes of CVT and WID that R153 allows. -/
def cvtFmtOk (fmt : Nat) : Bool := [1, 3, 5, 6, 7, 8, 9, 10, 11, 12].contains fmt

/-- d names no register of the kind the opcode writes (R153, R183): an s register for RMAX and RSUM, else a v register; ST, SOFTMAX
and LNORM write none. -/
def eBadDest (op d : Nat) : Bool :=
  if op = 0x60 ∨ op = 0x61 then decide (d < 16) || decide (24 ≤ d)
  else if op = 0x52 ∨ op = 0x62 ∨ op = 0x63 then decide (24 ≤ d)
  else decide (16 ≤ d)

/-- A format R instruction holds a value that R153, R155 or R183 calls invalid: its destination, rnd, an operand selector, PAIR outside
operand a of CVT, the format of CVT or WID. -/
def eInvalid (op : Nat) (i : EInstr) : Bool :=
  eBadDest op i.d || decide (2 ≤ i.rnd) || decide (29 ≤ i.a) || decide (28 ≤ i.b) || decide (28 ≤ i.c) || (decide (i.a = 28) && decide (op ≠ 0x38))
    || ((decide (op = 0x38) || decide (op = 0x39)) && !cvtFmtOk i.fmt)

/-! ## The invocation's context (R145 to R149) -/

/-- Region format code (R147). -/
def Invocation.fmt (x : Invocation) (r : Nat) : Nat := fieldAt x.shape (2 + r) 1
def Invocation.grad (x : Invocation) (r : Nat) : Bool := bitOf (fieldAt x.shape 7 1) r
def Invocation.slotBind (x : Invocation) : Nat := fieldAt x.shape 0xC 1

/-- Base, stride in bytes, scale base, scale stride in bytes of a region (R146). -/
def Invocation.region (x : Invocation) (r : Nat) : Nat × Nat × Nat × Nat :=
  let o := 0x20 + 16 * r
  if !x.row ∧ r = 0 then (fieldAt x.desc 0x18 4, fieldAt x.desc 0x28 2 * 64, 0, 0)
  else (fieldAt x.call o 4, fieldAt x.call (o + 4) 2 * 64, fieldAt x.call (o + 8) 4, fieldAt x.call (o + 6) 2 * 64)

def Invocation.rows (x : Invocation) : Nat := if x.row then fieldAt x.call 2 2 else dRowsM x.desc
def Invocation.maxLen (x : Invocation) : Nat := if x.row then fieldAt x.call 4 2 else dColsN x.desc
def Invocation.mb (x : Invocation) : Nat := (if x.row then fieldAt x.call 0xA 2 else fieldAt x.desc 0x2A 2) % 4096
def Invocation.stream (x : Invocation) : Nat := (if x.row then fieldAt x.call 0xC 4 else fieldAt x.desc 0x2C 4) % 2 ^ 20
def Invocation.elemBase (x : Invocation) : Nat := (if x.row then fieldAt x.call 0x10 8 else fieldAt x.desc 0x30 8) % 2 ^ 48
def Invocation.elemPitch (x : Invocation) : Nat := if x.row then fieldAt x.call 0x18 4 else fieldAt x.desc 0x38 4
def Invocation.nonsat (x : Invocation) : Bool := if x.row then bitOf (fieldAt x.call 7 1) 1 else bitOf (fieldAt x.desc 0xC 2) 8
def Invocation.chunks (x : Invocation) : Nat := (x.maxLen + 255) / 256
def Invocation.groups (x : Invocation) : Nat := (x.rows + 1) / 2

/-- Row of a lane (R148, R149). -/
def Invocation.laneRow (x : Invocation) (l : Nat) : Nat := if x.row then x.group else 2 * x.group + l / 128

/-- Column or position of a lane. -/
def Invocation.lanePos (x : Invocation) (l : Nat) : Nat := if x.row then 256 * x.chunk + l else l % 128

/-- A lane lies inside the tile or row (R148, R149). -/
def Invocation.inside (x : Invocation) (l : Nat) : Bool := decide (x.laneRow l < x.rows) && decide (x.lanePos l < x.maxLen)

def lanes : List Nat := List.range 256

/-! ## Registers and operands (R151, R155, R159) -/

def engOf (s : State) (f : Nat) : Engine := (frondOf s f).eng
def modEng (s : State) (f : Nat) (g : Engine → Engine) : State := modFrond s f (fun x => { x with eng := g x.eng })
def modRun (s : State) (f : Nat) (g : Invocation → Invocation) : State := modEng s f (fun e => { e with run := e.run.map g })

def vLane (e : Engine) (r l : Nat) : W32 := (e.v.getD r []).getD l 0
def sReg (e : Engine) (i : Nat) : W32 := e.sr.getD i 0

/-- Write s register `i`. -/
def setSreg (s : State) (f i : Nat) (v : W32) : State :=
  modEng s f (fun e => { e with sr := (List.range 8).map (fun k => if k = i then v else sReg e k) })

/-- Write v register `r`. -/
def setVreg (s : State) (f r : Nat) (vs : List W32) : State :=
  modEng s f (fun e => { e with v := (List.range 16).map (fun k => if k = r then vs else e.v.getD k []) })

/-- An operand of a lane; PAIR is read by CVT alone (R155). -/
def operand (e : Engine) (x : Invocation) (sel l : Nat) : W32 :=
  if sel < 16 then vLane e sel l
  else if sel < 24 then sReg e (sel - 16)
  else match sel with
    | 24 => BitVec.ofNat 32 (x.laneRow l)
    | 25 => BitVec.ofNat 32 (x.lanePos l)
    | 27 => one32
    | _ => 0

/-- A lane is active for an instruction (R159). -/
def laneActive (e : Engine) (x : Invocation) (i : EInstr) (l : Nat) : Bool :=
  x.inside l && (!i.maskEn || decide (vLane e i.mreg l ≠ 0))

/-- The 16-bit random value of row `r`, position `p`, of stream `st` or the invocation's (R165). -/
def laneRandom (s : State) (x : Invocation) (st r p : Nat) : Nat :=
  randOf (jobSeed s) (if st % 2 ^ 20 = 0 then x.stream else st % 2 ^ 20) x.step x.mb (x.elemBase + r * x.elemPitch + p)

end Sys2Proof.Machine
end

