-- ==== Sys2Proof/Machine/Engine.lean ====
section
/-! DEFINITION. The element engine: invocations, lanes, regions, conversions, row reductions, completion (R143 to R185, R438,
R452). -/

namespace Sys2Proof.Machine

/-! ## Conversions (R161 to R164) -/

def isBlockFmt (fmt : Nat) : Bool := decide (8 ≤ fmt ∧ fmt ≤ 11)

/-- A code of a floating-point or block format as a value; `sc` is its block's scale. -/
def codeVal (fmt c sc : Nat) : FV :=
  match fmt with
  | 1 => f32v (BitVec.ofNat 32 c)
  | 3 => bf16Val c
  | 5 => fp16Val c
  | 6 => e4m3Val c
  | 7 => e5m2Val c
  | 8 => e2m1Val (c % 16) (sc % 256)
  | 9 => int8Val (c % 256) sc
  | 10 => f32v (q8bVal (c % 256) sc)
  | _ => f32v (u8bVal (c % 256) sc)

/-- A value as a code of a floating-point format. -/
def fmtCode (fmt : Nat) (sat : Bool) (r : Rnd) (v : FV) : Nat × CvtFlags :=
  match fmt with
  | 1 => toIeee lFP32 r v
  | 3 => toIeee lBF16 r v
  | 5 => toIeee lFP16 r v
  | 6 => toE4M3 sat r v
  | _ => toE5M2 sat r v

/-- A code widened to FP32 times 2^k, with its flags: a NaN of an integer code under an infinite scale comes from no NaN (R93). -/
def widenFlags (fmt c sc : Nat) (k : Int) : W32 × CvtFlags :=
  let v := codeVal fmt c sc
  let w := toIeee lFP32 .ne (fvScale k v)
  (BitVec.ofNat 32 w.1,
    if decide (9 ≤ fmt ∧ fmt ≤ 11) && fvIsNaN v && !fvIsNaN (bf16Val sc) then { inv := true } else w.2)

/-- 32 values as a block (R80, R83, R86); `sc` is the INT8 scale as BF16. -/
def blockCodes (fmt sc : Nat) (r : Nat → Rnd) (vs : List FV) : BlockCodes :=
  match fmt with
  | 8 => toE2M1 r vs
  | 9 => ⟨sc, vs.zipIdx.map (fun v => toInt8 (r v.2) sc v.1)⟩
  | 10 => toQ8B vs
  | _ => toU8B vs

/-- The flags of the elements that `act` holds of: inactive and outside lanes raise none (R150, R160). -/
def activeFlags (act : List Bool) (es : List (Nat × CvtFlags)) : CvtFlags :=
  (act.zip es).foldl (fun a x => if x.1 then a.or x.2.2 else a) {}

/-- An FP32 word rounded to BF16, as an INT8 scale (R83). -/
def scaleBf16 (w : W32) : Nat := (toIeee lBF16 .ne (f32v w)).1

/-- Bits of an element of a region (R147). -/
def fmtBits (fmt : Nat) : Nat :=
  match fmt with
  | 0 => 1
  | 1 => 32
  | 12 => 32
  | 8 => 4
  | 3 => 16
  | 5 => 16
  | _ => 8

/-! ## Regions (R146, R161, R162) -/

/-- Address of the scale of a block's element. -/
def regionScale (x : Invocation) (r row p : Nat) : Nat :=
  let g := x.region r
  g.2.2.1 + row * g.2.2.2 + p / 32 * (if x.fmt r = 8 then 1 else 2)

/-- Code of the element at (row, p) of a region. -/
def regionCode (s : State) (f : Nat) (x : Invocation) (r row p : Nat) : Nat :=
  let g := x.region r
  let b := fmtBits (x.fmt r)
  let o := g.1 + row * g.2.1
  if b < 8 then bitsOf (storeNum s f (o + p * b / 8) 1) (p * b % 8) b else storeNum s f (o + p * (b / 8)) (b / 8)

/-- The exponent of a CONS_LD or PRODUCE binding of a region (R438). -/
def regionTensor (s : State) (f : Nat) (x : Invocation) (kind r : Nat) : Option Nat :=
  ((opBindings s f x.op).find? (fun b => b.kind = kind && b.region = r)).map (·.tensor)

/-- An element of a region widened to FP32, with its flags (R161, R438). -/
def regionRead (s : State) (f : Nat) (x : Invocation) (r row p : Nat) : W32 × CvtFlags :=
  let c := regionCode s f x r row p
  match x.fmt r with
  | 0 => (if c = 0 then 0 else one32, {})
  | 12 => (BitVec.ofNat 32 c, {})
  | fmt =>
    let sc := if isBlockFmt fmt then storeNum s f (regionScale x r row p) (if fmt = 8 then 1 else 2) else 0
    let k : Int := match regionTensor s f x 3 r with
      | some t => bindExp s t x.step x.mb
      | none => 0
    widenFlags fmt c sc k

/-- Write a code at (row, p) of a region. -/
def regionPut (s : State) (f : Nat) (x : Invocation) (r row p c : Nat) : State :=
  let g := x.region r
  let b := fmtBits (x.fmt r)
  let o := g.1 + row * g.2.1
  if b < 8 then
    let a := o + p * b / 8
    setBytes s (storeBase f + a) (leBytes 1 (setBits (storeNum s f a 1) (p * b % 8) b c))
  else setBytes s (storeBase f + o + p * (b / 8)) (leBytes (b / 8) c)

/-- Sticky flags of the engine, with their event (R177). -/
def eeFlags (s : State) (f : Nat) (c : CvtFlags) : State :=
  let r := R.FRD_EE_FLAGS f
  let e := R.FRD_EE_CTL f
  let s := if c.ovf then flagEvent s r F.FRD_EE_FLAGS_ovf (rb s e F.FRD_EE_CTL_ovf_event_en) (32 + f) else s
  let s := if c.inv then flagEvent s r F.FRD_EE_FLAGS_inv (rb s e F.FRD_EE_CTL_inv_event_en) (32 + f) else s
  if c.nanIn then flagEvent s r F.FRD_EE_FLAGS_nan_in (rb s e F.FRD_EE_CTL_nan_in_event_en) (32 + f) else s

/-- An element a store writes: row, position, and its operand, none in an inactive lane that takes the code of +0 (R160). -/
structure StoreElem where
  row : Nat
  p : Nat
  val : Option W32
  /-- The k of an exact 1/k that is converted in place of `val` (R175), else 0. -/
  recip : Nat := 0
  /-- Whether the element is written. -/
  wr : Bool
  deriving DecidableEq, Repr

/-- The value converted for an operand: the operand's, or an exact 1/k (R175). -/
def StoreElem.exact (e : StoreElem) (v : W32) : FV := if e.recip = 0 then f32v v else fvDiv (.fin false 1 0) (fvInt (e.recip : Int))

/-- Conversions for a PRODUCE binding of this tensor run in the pre-pass of a JIT tensor: all they do is record their magnitudes (R452). -/
def prePass (s : State) (x : Invocation) (tensor : Option Nat) : Bool :=
  x.pre && (match tensor with
    | some t => jitTensor s t
    | none => false)

/-- The power of two that a PRODUCE binding multiplies a converted value by (R438). -/
def produceShift (s : State) (x : Invocation) (tensor : Option Nat) : Int :=
  match tensor with
  | some t => - bindExp s t x.step x.mb
  | none => 0

/-- Record the largest magnitude of the values `vs` that active lanes convert for a PRODUCE binding (R438). -/
def recordProduce (s : State) (f : Nat) (x : Invocation) (tensor : Option Nat) (vs : List W32) : State :=
  match tensor with
  | none => s
  | some t =>
    if vs.isEmpty then s
    else
      let a := vs.foldl (fun a v => maxW a (amaxWord v)) 0
      if prePass s x tensor then modRun s f (fun y => { y with amax := alSet y.amax t (maxW (alGet 0 y.amax t) a) })
      else if x.pre then s else recordAmax s t x.step vs.length a

/-- One block of a store into a block-format region: its codes and its scale (R162, R163); `rnd` answers the random value of a row and
position. With no active lane the INT8 scale is not stated: a free value. -/
def storeBlock (f : Nat) (x : Invocation) (r : Nat) (rnd : Nat → Nat → Rnd) (k : Int) (scale : List W32) (s : State)
    (b : List StoreElem) : State :=
  if !b.any (·.wr) then s
  else
    let fmt := x.fmt r
    let r0 := (b.head?.map (·.row)).getD 0
    let p0 := (b.head?.map (·.p)).getD 0
    let sf : Nat × State := match (b.zip scale).find? (fun y => y.1.val.isSome) with
      | some y => (scaleBf16 y.2, s)
      | none => if fmt = 9 then takeFree 16 s else (0, s)
    let c := blockCodes fmt sf.1 (fun i => rnd r0 (p0 + i)) (b.map (fun e => match e.val with
      | some v => fvScale k (e.exact v)
      | none => .fin false 0 0))
    let s := forEach (fun s (e : StoreElem × Nat) => if e.1.wr then regionPut s f x r e.1.row e.1.p e.2 else s) sf.2 (b.zip c.codes)
    let s := setBytes s (storeBase f + regionScale x r r0 p0) (leBytes (if fmt = 8 then 1 else 2) c.scale)
    eeFlags s f (activeFlags (b.map (·.val.isSome)) c.elems)

/-- A store of elements into region `r` (R160, R162, R163, R438): `es` in blocks of 32; `scale` holds operand b of each. -/
def regionStore (s : State) (f : Nat) (x : Invocation) (r : Nat) (rnd : Nat) (scale : List W32) (es : List StoreElem) : State :=
  let fmt := x.fmt r
  let rnd (row p : Nat) : Rnd := if rnd = 1 ∨ x.grad r = true then .sr (laneRandom s x 0 row p) else .ne
  let tensor := regionTensor s f x 0 r
  let pre := prePass s x tensor
  let k := produceShift s x tensor
  let s := recordProduce s f x tensor (es.filterMap (·.val))
  if pre then s
  else
    let s := cntAdd s 25 ((es.filter (·.wr)).length * fmtBits fmt / 8)
    if isBlockFmt fmt then
      (((chunksOf 32 es).zip (chunksOf 32 scale))).foldl (fun s b => storeBlock f x r rnd k b.2 s b.1) s
    else
      es.foldl (fun s e =>
        if !e.wr then s
        else match e.val with
          | none => regionPut s f x r e.row e.p 0
          | some v =>
            if fmt = 0 then regionPut s f x r e.row e.p (b2n (decide (v ≠ 0)))
            else if fmt = 12 then regionPut s f x r e.row e.p v.toNat
            else
              let c := fmtCode fmt (!x.nonsat) (rnd e.row e.p) (fvScale k (e.exact v))
              let s := eeFlags (regionPut s f x r e.row e.p c.1) f c.2
              if fmt = 5 then overflowCodes s x.step [c.1] else s) s

/-! ## Instructions over lanes (R157, R160) -/

/-- A truth value in a lane. -/
def laneBool (b : Bool) : W32 := if b then 0xFFFFFFFF#32 else 0

/-- MIN and MAX (R156): −0 < +0, a NaN operand gives NaN. -/
def minW (a b : W32) : W32 :=
  if isNaN32 a || isNaN32 b then f32nan
  else if fvLt (f32v a) (f32v b) then a
  else if fvLt (f32v b) (f32v a) then b
  else if neg32 a then a else b
def maxFW (a b : W32) : W32 :=
  if isNaN32 a || isNaN32 b then f32nan
  else if fvLt (f32v a) (f32v b) then b
  else if fvLt (f32v b) (f32v a) then a
  else if neg32 a then b else a

/-- F2I (R156): rounded by `r`, saturated; NaN gives 0. -/
def f2iLane (r : Rnd) (a : W32) : W32 × CvtFlags :=
  let lo : Int := -(2 ^ 31)
  let hi : Int := 2 ^ 31 - 1
  match f32v a with
  | .nan => (0, ⟨false, true, true⟩)
  | .inf n => (BitVec.ofInt 32 (if n then lo else hi), ⟨false, true, false⟩)
  | v => match fvToInt r (2 * lo) (2 * hi) v with
    | some k => (BitVec.ofInt 32 (max lo (min hi k)), ⟨decide (k < lo) || decide (hi < k), false, false⟩)
    | none => (0, {})

/-- I2F (R156). -/
def i2fLane (a : W32) : W32 := toF32 (fvInt (toSigned 32 a.toNat))

/-- WID (R156, R163). -/
def widLane (fmt : Nat) (a b : W32) : W32 × CvtFlags :=
  if fmt = 12 then (a, cmpFlags [a])
  else widenFlags fmt (a.toNat % 2 ^ fmtBits fmt) (b.toNat / 65536) 0

/-- Write the results of active lanes into d, +0 or the old value into inactive ones, and OR the flags (R160, R177); the lanes
that `skip` names are written nothing at all. -/
def writeLanesBut (s : State) (f : Nat) (x : Invocation) (i : EInstr) (skip : Nat → Bool) (res : Nat → W32 × CvtFlags) : State :=
  let e := engOf s f
  let rs := lanes.map (fun l =>
    if laneActive e x i l then let q := res l; (q.1, q.2)
    else if x.inside l && i.maskEn && i.zero && !skip l then ((0 : W32), ({} : CvtFlags))
    else (vLane e i.d l, {}))
  eeFlags (setVreg s f i.d (rs.map (·.1))) f (rs.foldl (fun a q => a.or q.2) {})

/-- writeLanes as every instruction but a block conversion has it (R160). -/
def writeLanes (s : State) (f : Nat) (x : Invocation) (i : EInstr) (res : Nat → W32 × CvtFlags) : State :=
  writeLanesBut s f x i (fun _ => false) res

/-- A lane's operands, result and flags for an instruction of one, two or three FP32 operands. -/
def unary (g : W32 → W32 × CvtFlags) (i : EInstr) (f : Nat) (x : Invocation) (s : State) : State :=
  let e := engOf s f
  writeLanes s f x i (fun l => g (operand e x i.a l))
def binary (g : W32 → W32 → W32 × CvtFlags) (i : EInstr) (f : Nat) (x : Invocation) (s : State) : State :=
  let e := engOf s f
  writeLanes s f x i (fun l => g (operand e x i.a l) (operand e x i.b l))
def ternary (g : W32 → W32 → W32 → W32 × CvtFlags) (i : EInstr) (f : Nat) (x : Invocation) (s : State) : State :=
  let e := engOf s f
  writeLanes s f x i (fun l => g (operand e x i.a l) (operand e x i.b l) (operand e x i.c l))

/-- A result with the flags of R157. -/
def withArith (g : W32 → W32 → W32) (a b : W32) : W32 × CvtFlags := let r := g a b; (r, arithFlags [a, b] r)
def withCmp (g : W32 → W32 → Bool) (a b : W32) : W32 × CvtFlags := (laneBool (g a b), cmpFlags [a, b])
def bitwise (g : W32 → W32 → W32) (a b : W32) : W32 × CvtFlags := (g a b, {})

/-- The region a CVT, which writes a register, converts for (R89, R162, R357, R438; DESIGN CHOICE, log 139): the one that the first later
ST of its d names before d is written again, when that region has the CVT's own format; a value that reaches a region another way, through
RAW32 or another instruction, is converted for none. -/
def cvtRegion (x : Invocation) (i : EInstr) : Option Nat :=
  let later := (x.prog.drop (x.pc + 1)).map eDecode
  match later.find? (fun q => (decide (q.1 = 0x52) && decide (q.2.a = i.d)) || (decide (q.1 ≠ 0x52) && decide (q.2.d = i.d))) with
  | some q => if q.1 = 0x52 ∧ x.fmt (q.2.aux % 4) = i.fmt then some (q.2.aux % 4) else none
  | none => none

/-- Rounding of a CVT: its rnd field, but stochastic into a gradient-class region (R162, R89, R357). -/
def cvtStochastic (x : Invocation) (i : EInstr) : Bool :=
  decide (i.rnd = 1) || (match cvtRegion x i with
    | some r => x.grad r
    | none => false)

/-- The tensor of the PRODUCE binding of the region a CVT converts for (R438). -/
def cvtTensor (s : State) (f : Nat) (x : Invocation) (i : EInstr) : Option Nat := (cvtRegion x i).bind (regionTensor s f x 0)

/-- The exact value CVT converts in a lane (R164). -/
def cvtSource (s : State) (f : Nat) (x : Invocation) (i : EInstr) (l : Nat) : FV :=
  if i.a = 28 then let p := accPair s f x.slot (x.laneRow l) (x.lanePos l); pairVal p.1 p.2
  else f32v (operand (engOf s f) x i.a l)

/-- CVT into a floating-point format (R156, R162, R164, R165), scaled and recorded as its region's PRODUCE binding says (R438). Into RAW32
a pair is rounded to FP32 and any other source is moved (DESIGN CHOICE, log 110). -/
def cvtPlain (s : State) (f : Nat) (x : Invocation) (i : EInstr) : State :=
  let stoch := cvtStochastic x i
  let tensor := cvtTensor s f x i
  let k := produceShift s x tensor
  let one (l : Nat) : W32 × CvtFlags :=
    let v := cvtSource s f x i l
    let r := if stoch then Rnd.sr (laneRandom s x (i.aux % 2 ^ 20) (x.laneRow l) (x.lanePos l)) else .ne
    if i.fmt = 12 then
      let w := if i.a = 28 then toF32 v else operand (engOf s f) x i.a l
      (w, { ovf := fvFinite v && isInf32 w, nanIn := fvIsNaN v })
    else let c := fmtCode i.fmt (!x.nonsat) r (fvScale k v); (BitVec.ofNat 32 c.1, c.2)
  let act := lanes.filter (laneActive (engOf s f) x i)
  let codes := act.map (fun l => (one l).1.toNat)
  let s := recordProduce (writeLanes s f x i one) f x tensor (act.map (fun l => toF32 (cvtSource s f x i l)))
  if i.fmt = 5 then overflowCodes s x.step codes else s

/-- CVT into a block format (R163): a block with no active lane writes nothing; an inactive lane of another block is written as
R160 says (DEDUCED, log 111). -/
def cvtBlock (s : State) (f : Nat) (x : Invocation) (i : EInstr) : State :=
  let e := engOf s f
  let stoch := cvtStochastic x i
  let act := laneActive e x i
  let blocks := (List.range 8).map (fun k =>
    let ls := (List.range 32).map (fun j => 32 * k + j)
    match ls.find? act with
    | none => (⟨0, []⟩ : BlockCodes)
    | some l0 =>
      let rnd (j : Nat) : Rnd := if stoch then .sr (laneRandom s x (i.aux % 2 ^ 20) (x.laneRow (32 * k + j)) (x.lanePos (32 * k + j))) else .ne
      blockCodes i.fmt (scaleBf16 (operand e x i.b l0)) rnd (ls.map (fun l => if act l then cvtSource s f x i l else .fin false 0 0)))
  writeLanesBut s f x i (fun l => (blocks.getD (l / 32) ⟨0, []⟩).elems.isEmpty) (fun l =>
    let b := blocks.getD (l / 32) ⟨0, []⟩
    let c := b.elems.getD (l % 32) (0, {})
    (BitVec.ofNat 32 (c.1 + b.scale * 65536), c.2))

/-- LD (R161). -/
def loadLanes (s : State) (f : Nat) (x : Invocation) (i : EInstr) : State :=
  let r := i.aux % 4
  let mode := bitsOf i.aux 2 2
  let s := cntAdd s 24 (256 * fmtBits (x.fmt r) / 8)
  writeLanes s f x i (fun l =>
    regionRead s f x r (if mode = 1 then 0 else x.laneRow l) (if mode = 2 then 0 else x.lanePos l))

/-- ST (R160, R162). -/
def storeLanes (s : State) (f : Nat) (x : Invocation) (i : EInstr) : State :=
  let e := engOf s f
  let es := lanes.map (fun l =>
    let act := laneActive e x i l
    ({ row := x.laneRow l, p := x.lanePos l, val := if act then some (operand e x i.a l) else none,
       wr := act || (x.inside l && i.maskEn && i.zero) } : StoreElem))
  regionStore s f x (i.aux % 4) i.rnd (lanes.map (operand e x i.b)) es

/-! ## Rows (R169 to R176, R178) -/

/-- The word of the length region at row `r`, none without one (R169). -/
def lengthWord (s : State) (f : Nat) (x : Invocation) : Option Nat :=
  let c := fieldAt x.call 6 1
  if x.row ∧ bitOf c 7 then let g := x.region (c % 4); some (storeNum s f (g.1 + x.group * g.2.1) 4) else none

/-- Row length (R169). -/
def rowLen (s : State) (f : Nat) (x : Invocation) : Nat := min x.maxLen ((lengthWord s f x).getD x.maxLen)

/-- Position `p` of the row is active in a row instruction without mask region (R171). -/
def posActive (s : State) (f : Nat) (x : Invocation) (p : Nat) : Bool :=
  decide (p < rowLen s f x)
    && (!bitOf (fieldAt x.call 7 1) 0 || decide ((p : Int) ≤ (x.group : Int) + toSigned 16 (fieldAt x.call 8 2)))

/-- Active operands of a reduction in the chunk, ascending (R171 to R173). -/
def reduceVals (s : State) (f : Nat) (x : Invocation) (i : EInstr) : List W32 :=
  let e := engOf s f
  (lanes.filter (fun l => laneActive e x i l && posActive s f x (x.lanePos l))).map (operand e x i.a)

/-- Fold a chunk into RMAX (R172). -/
def foldMax (vs : List W32) (x : Invocation) : Invocation :=
  vs.foldl (fun x v => { x with
    nan := x.nan || isNaN32 v, any := true
    best := some (match x.best with
      | some b => maxFW b v
      | none => v) }) x

/-- Fold a chunk into RSUM (R173). -/
def foldSum (vs : List W32) (x : Invocation) : Invocation :=
  vs.foldl (fun x v => { x with nan := x.nan || isNaN32 v, any := true, sum := pairAdd x.sum (f32v v) }) x

/-- The result RMAX writes. -/
def maxResult (x : Invocation) : W32 := if x.nan then f32nan else x.best.getD (f32inf true)

/-- The result RSUM writes. -/
def sumResult (x : Invocation) : W32 := if x.any then toF32 (pairVal x.sum.1 x.sum.2) else 0

/-- A row flag: bits 0 empty, 1 nan, 2 posinf, 3 len_clamp of the row's byte (R178). -/
def rowFlag (s : State) (f b : Nat) : State := modRun s f (fun x => { x with rowFlags := setBits x.rowFlags b 1 1 })

/-- A row flag that FRD_EE_FLAGS keeps, with its event (R177). -/
def rowSticky (s : State) (f : Nat) (fl : Field) : State :=
  flagEvent s (R.FRD_EE_FLAGS f) fl (rb s (R.FRD_EE_CTL f) F.FRD_EE_CTL_row_event_en) (32 + f)

/-- Count the row in register `r` unless an earlier instruction of it set its flag `b` already (R178). -/
def countRow (s : State) (f b r : Nat) : State :=
  rowFlag (if (engOf s f).run.any (fun x => bitOf x.rowFlags b) then s else bump s r 1) f b

def emptyRow (s : State) (f : Nat) : State := rowSticky (countRow s f 0 (R.FRD_EE_EMPTY_CNT f)) f F.FRD_EE_FLAGS_row_empty
def nanRow (s : State) (f : Nat) : State := rowSticky (countRow s f 1 (R.FRD_EE_NANROW_CNT f)) f F.FRD_EE_FLAGS_row_nan

/-- Write a whole row of FP32 values into region `r`, each with the k of an exact 1/k or 0 (R175, R176). -/
def writeRow (s : State) (f : Nat) (x : Invocation) (r rnd : Nat) (scale : W32) (vs : List (W32 × Nat)) : State :=
  let n := vs.length
  let es := (List.range ((n + 31) / 32 * 32)).map (fun p =>
    (⟨x.group, p, vs[p]?.map (·.1), (vs.getD p (0, 0)).2, decide (p < n)⟩ : StoreElem))
  regionStore s f x r rnd (es.map (fun _ => scale)) es

/-- The invocation as the row's instructions stand in it now. -/
def runOf (s : State) (f : Nat) (x : Invocation) : Invocation := (engOf s f).run.getD x

/-- SOFTMAX of a row's scaled values y, none at inactive positions: results, each with the k of the exact 1/k that posinf writes
(R175) or 0, and 0 plain, 1 nan, 2 empty, 3 posinf; flags of the arithmetic (R174). -/
def softmaxVals (ys : List (Option W32)) : List (W32 × Nat) × Nat × CvtFlags :=
  let act := ys.filterMap id
  if act.any isNaN32 then (ys.map (fun _ => (f32nan, 0)), 1, {})
  else if act.all (fun y => y = f32inf true) then (ys.map (fun _ => (0, 0)), 2, {})
  else
    let k := (act.filter (fun y => y = f32inf false)).length
    if 0 < k then (ys.map (fun y => if y = some (f32inf false) then (f32div one32 (int32 k), k) else (0, 0)), 3, {})
    else
      let m := act.foldl (fun a y => if fvLt (f32v a) (f32v y) then y else a) (f32inf true)
      let expo (y : W32) : W32 × CvtFlags :=
        let d := f32sub y m
        let t := f32mul d 0x3FB8AA3B#32
        let r := exp2C t
        (r.1, ((arithFlags [y, m] d).or (arithFlags [d, 0x3FB8AA3B#32] t)).or r.2)
      let es := ys.map (fun y => y.map expo)
      let q := rcpC (compSum ((es.filterMap id).map (·.1)))
      (ys.zip es |>.map (fun e => match e with
        | (some y, some r) => (if y = f32inf true then 0 else f32mul r.1 q.1, 0)
        | _ => (0, 0)), 0, (es.filterMap id).foldl (fun a r => a.or r.2) q.2)

/-- The scaled values y of a row with their flags, none at inactive positions (R171, R174). -/
def softmaxReads (s : State) (f : Nat) (x : Invocation) (i : EInstr) : List (Option (W32 × CvtFlags)) :=
  let scale := operand (engOf s f) x i.b 0
  (List.range x.maxLen).map (fun p =>
    if posActive s f x p && (!bitOf i.aux 6 || decide (regionCode s f x (bitsOf i.aux 4 2) x.group p = 1)) then
      let v := regionRead s f x (i.aux % 4) x.group p
      let y := f32mul v.1 scale
      some (y, v.2.or (arithFlags [v.1, scale] y))
    else none)

/-- SOFTMAX on the row (R174, R175). Operand b, which may differ by lane (POS, R155), is taken once per row, from lane 0 (DESIGN CHOICE, log
140). An INT8 output takes its block scale from operand b (DESIGN CHOICE, log 112). -/
def softmaxRow (s : State) (f : Nat) (x : Invocation) (i : EInstr) : State :=
  let scale := operand (engOf s f) x i.b 0
  let reads := softmaxReads s f x i
  let r := softmaxVals (reads.map (fun y => y.map (·.1)))
  let s := eeFlags s f ((reads.filterMap id).foldl (fun a y => a.or y.2) r.2.2)
  let s := if x.pre then s else match r.2.1 with
    | 1 => nanRow s f
    | 2 => emptyRow s f
    | 3 => rowFlag s f 2
    | _ => s
  writeRow s f x (bitsOf i.aux 2 2) i.rnd scale r.1

/-- LNORM of a row: values at active positions, γ and β per position when affine; results, and 0 plain, 1 nan, 2 empty; flags
(R176). -/
def lnormVals (xs : List (Option W32)) (eps : W32) (affine : Option (List (W32 × W32))) : List W32 × Nat × CvtFlags :=
  let act := xs.filterMap id
  if act.isEmpty then (xs.map (fun _ => 0), 2, {})
  else if act.any (fun v => !isFin32 v) then
    (xs.map (fun _ => f32nan), 1, ⟨false, !act.any isNaN32, act.any isNaN32⟩)
  else
    let invN := f32div one32 (int32 act.length)
    let sum := compSum act
    let mu := f32mul sum invN
    let ds := act.map (fun v => f32sub v mu)
    let sq := ds.map (fun d => f32mul d d)
    let ssq := compSum sq
    let var := f32mul ssq invN
    let ve := f32add var eps
    let t := rsqC ve
    let fl := [arithFlags act sum, arithFlags [sum, invN] mu, arithFlags sq ssq, arithFlags [ssq, invN] var, arithFlags [var, eps] ve, t.2]
      ++ List.zipWith (fun v d => arithFlags [v, mu] d) act ds ++ List.zipWith (fun d q => arithFlags [d, d] q) ds sq
    let outs := xs.zipIdx.map (fun v => match v.1 with
      | none => ((0 : W32), ({} : CvtFlags))
      | some w =>
        let d := f32sub w mu
        let z := f32mul d t.1
        match affine with
        | none => (z, arithFlags [d, t.1] z)
        | some gs =>
          let g := gs.getD v.2 (0, 0)
          let o := f32fma z g.1 g.2
          (o, (arithFlags [d, t.1] z).or (arithFlags [z, g.1, g.2] o)))
    (outs.map (·.1), 0, (fl ++ outs.map (·.2)).foldl CvtFlags.or {})

/-- The values of a row with their flags, none at inactive positions (R171, R176). -/
def lnormReads (s : State) (f : Nat) (x : Invocation) (i : EInstr) : List (Option (W32 × CvtFlags)) :=
  (List.range x.maxLen).map (fun p => if posActive s f x p then some (regionRead s f x (i.aux % 4) x.group p) else none)

/-- γ and β of every position, with their flags (R176). -/
def lnormAffine (s : State) (f : Nat) (x : Invocation) (i : EInstr) : List ((W32 × CvtFlags) × (W32 × CvtFlags)) :=
  (List.range x.maxLen).map (fun p => (regionRead s f x (bitsOf i.aux 4 2) 0 p, regionRead s f x (bitsOf i.aux 6 2) 0 p))

/-- LNORM on the row (R176). Operand b is taken once per row, from lane 0 (DESIGN CHOICE, log 140). An INT8 output has the block scale 0
and so every code 0 (DESIGN CHOICE, log 112). -/
def lnormRow (s : State) (f : Nat) (x : Invocation) (i : EInstr) : State :=
  let eps := operand (engOf s f) x i.b 0
  let reads := lnormReads s f x i
  let gb := lnormAffine s f x i
  let affine := bitOf i.aux 8
  let r := lnormVals (reads.map (fun y => y.map (·.1))) eps (if affine then some (gb.map (fun g => (g.1.1, g.2.1))) else none)
  let fl := (reads.filterMap id).foldl (fun a y => a.or y.2) r.2.2
  let used := affine && decide (r.2.1 = 0)
  let fl := if used then (reads.zip gb).foldl (fun a g => if g.1.isSome then (a.or g.2.1.2).or g.2.2.2 else a) fl else fl
  let s := eeFlags s f fl
  let s := if x.pre then s else match r.2.1 with
    | 1 => nanRow s f
    | 2 => emptyRow s f
    | _ => s
  writeRow s f x (bitsOf i.aux 2 2) i.rnd 0 (r.1.map (fun w => (w, 0)))

/-! ## Running an invocation (R151, R152, R167, R180, R181) -/

/-- v0 to v15 at the start of a group or chunk (R151). -/
def clearLanes (s : State) (f : Nat) : State :=
  match (engOf s f).run with
  | none => s
  | some x =>
    let v0 : List (List W32) :=
      if x.row then [] else [lanes.map (fun l =>
        if x.inside l then let p := accPair s f x.slot (x.laneRow l) (x.lanePos l); toF32 (pairVal p.1 p.2) else 0)]
    let s := if x.row then s else cntAdd s 26 (16 * x.maxLen)
    modEng s f (fun e => { e with v := v0 })

/-- A row begins: its length is checked (R169), its flags are clear. -/
def beginRow (s : State) (f : Nat) : State :=
  let s := modRun s f (fun x => { x with rowFlags := 0, chunk := 0, sweep := 0, pc := 0 })
  let s := match (engOf s f).run with
    | none => s
    | some x => if x.maxLen < (lengthWord s f x).getD 0 then
        let s := rowFlag s f 3
        if x.pre then s else rowSticky (bump s (R.FRD_EE_CLAMP_CNT f) 1) f F.FRD_EE_FLAGS_len_clamp
      else s
  clearLanes s f

/-- The invocation of op `o` on the engine (R144, R147, R151, R355). -/
def invocationOf (s : State) (f : Nat) (o : PlanOp) (slot : Nat) (pre : Bool) : Invocation × List W32 :=
  let row := decide (o.kind = 2)
  let call := callOf s o
  let prog := if row then fieldAt call 0 2 else bodyNum s o 0xE 2
  let code := programAt s f prog
  let shape := (code.map (·.shape)).getD []
  let step := (frondOf s f).step
  let x : Invocation := {
    op := o.idx, row := row, slot := slot, desc := if row then [] else descOf s o, call := call
    prog := (code.map (·.words)).getD [], shape := shape, step := step, pre := pre
    sat := !row && (slotOf s f slot).sat, inf := !row && (slotOf s f slot).inf }
  let live (k : Nat) : W32 :=
    let l := lossExp s step
    if k = 7 ∧ bitOf o.flags 4 then toF32 (.fin false 1 (l : Int))
    else if k = 6 ∧ bitOf o.flags 5 then toF32 (.fin false 1 (-(l : Int)))
    else if bitOf (fieldAt shape 0xD 1) k then BitVec.ofNat 32 (fieldAt call (0x60 + 4 * k) 4) else 0
  (x, (List.range 8).map live)

/-- The invocation that may start next, and whether it runs its pre-pass: the oldest, unless it waits for its exponents; then a
later one may run its pre-pass (R181, R452; DEDUCED, log 92). -/
def nextInvocation (s : State) (f : Nat) : Option (PlanOp × Bool) :=
  match ((frondOf s f).engQ.filterMap (opAt s f)) with
  | [] => none
  | h :: r =>
    if !prepassDone s f h.idx then some (h, true)
    else if !jitWaiting s f h then some (h, false)
    else (r.find? (fun o => !prepassDone s f o.idx)).map (fun o => (o, true))

/-- Start an invocation of a kind (R181): a DRAIN when its slot is FULL. -/
def startInvocation (s : State) (f : Nat) (row : Bool) : State :=
  if (frondOf s f).halted || failed s || pausedNow s || (engOf s f).run.isSome || !rb s (R.FRD_STATUS f) F.FRD_STATUS_init_done then s
  else match nextInvocation s f with
    | none => s
    | some (o, pre) =>
      if decide (o.kind = 2) ≠ row then s
      else
        let slot := ([0, 1].find? (fun k => (slotOf s f k).op = some o.idx && decide (slotState s f k = 2)))
        if !row ∧ slot = none then s
        else
          let k := slot.getD 0
          let xs := invocationOf s f o k pre
          let s := modEng s f (fun _ => { v := [], sr := xs.2, run := some xs.1 })
          let s := if row ∨ pre then s else setSlotState s f k 3
          let r := R.FRD_EE_STATUS f
          let s := wf (wf s r F.FRD_EE_STATUS_cur_invoke o.idx) r F.FRD_EE_STATUS_pc 0
          let s := wf s r F.FRD_EE_STATUS_program (if row then fieldAt xs.1.call 0 2 else bodyNum s o 0xE 2)
          let s := wf (wf (wf s r F.FRD_EE_STATUS_busy 1) r F.FRD_EE_STATUS_row_mode (b2n row)) r F.FRD_EE_STATUS_bank s.thl.bank
          if row then beginRow s f else clearLanes s f

/-- PRODUCE ops of tensor `t` and micro-batch `k` on the device: frond and op (R452). -/
def produceOps (s : State) (t k : Nat) : List (Nat × Nat) :=
  ((bindings s).filter (fun b => b.kind = 0 && b.tensor = t && (match opAt s b.frond b.op with
    | some o => opMb s o = k
    | none => false))).map (fun b => (b.frond, b.op))

/-- Set e_(t,k) once every PRODUCE op has run its pre-pass (R452, R442). -/
def setJitExp (s : State) (t k : Nat) : State :=
  let have_ := s.scl.prepass.filter (fun x => x.1 = t && x.2.1 = k)
  if (produceOps s t k).all (fun p => have_.any (fun x => decide (x.2.2.1 = p.1 ∧ x.2.2.2.1 = p.2))) then
    match tensorOf s t with
    | none => s
    | some x =>
      let h := have_.foldl (fun a y => maxW a y.2.2.2.2) 0
      let e := if h = 0 then x.e else exponentFor x.fmt x.headroom h
      { s with scl := { s.scl with jitExp := (t, k, e) :: s.scl.jitExp } }
  else s

/-- The invocation has run its last instruction (R365, R452). -/
def finishInvocation (s : State) (f : Nat) (x : Invocation) : State :=
  let r := R.FRD_EE_STATUS f
  let s := wf (wf s r F.FRD_EE_STATUS_busy 0) r F.FRD_EE_STATUS_row_mode 0
  let s := modEng s f (fun e => { e with run := none })
  if x.pre then
    let ts := jitProduced s f x.op
    let s := bump s R.SCL_PREPASS_CNT 1
    let s := { s with scl := { s.scl with prepass := ts.map (fun t => (t, x.mb, f, x.op, alGet 0 x.amax t)) ++ s.scl.prepass } }
    forEach (fun s t => setJitExp s t x.mb) s ts
  else
    let s := bump s (R.FRD_EE_INVOKE_CNT f) 1
    let s := modFrond s f (fun y => { y with engQ := y.engQ.erase x.op })
    match opAt s f x.op with
    | none => s
    | some o => if x.row then opDone s f f o else drainDone s f x.slot o

/-- The engine stops at the end of a group or row because its frond goes idle; the invocation is reported as not done (R184). -/
def stopInvocation (s : State) (f : Nat) : State :=
  let r := R.FRD_EE_STATUS f
  let s := reportOps s f (((engOf s f).run.map (·.op)).toList)
  modEng (wf (wf s r F.FRD_EE_STATUS_busy 0) r F.FRD_EE_STATUS_row_mode 0) f (fun e => { e with run := none })

/-- The next group of a DRAIN. -/
def nextGroup (s : State) (f : Nat) (x : Invocation) : State :=
  if x.groups ≤ x.group + 1 then finishInvocation s f (runOf s f x)
  else if (frondOf s f).halted then stopInvocation s f
  else clearLanes (modRun s f (fun y => { y with group := y.group + 1, pc := 0 })) f

/-- A row has ended: its flag byte, then the next row or the end (R178). -/
def nextRow (s : State) (f : Nat) (x : Invocation) : State :=
  let a := fieldAt x.call 0x1C 4
  let s := if a = 0xFFFF_FFFF then s else storePut s f (a + x.group) (leBytes 1 (runOf s f x).rowFlags)
  if x.rows ≤ x.group + 1 then finishInvocation s f (runOf s f x)
  else if (frondOf s f).halted then stopInvocation s f
  else beginRow (modRun s f (fun y => { y with group := y.group + 1 })) f

/-- After the instruction at pc: the next one, the next chunk, sweep, row or group, or the end (R152, R167). `whole` says that
the instruction was SOFTMAX or LNORM. -/
def advanceEngine (s : State) (f : Nat) (x : Invocation) (whole ends : Bool) : State :=
  let n := x.prog.length
  let s :=
    if !x.row then
      if x.pc + 1 < n then modRun s f (fun y => { y with pc := x.pc + 1 })
      else nextGroup s f x
    else
      let nextWhole := match x.prog[x.pc + 1]? with
        | some w => decide (bitsOf w 56 8 = 0x62 ∨ bitsOf w 56 8 = 0x63)
        | none => false
      if !whole && !ends && decide (x.pc + 1 < n) && !nextWhole then modRun s f (fun y => { y with pc := x.pc + 1 })
      else if !whole && decide (x.chunk + 1 < x.chunks) then
        clearLanes (modRun s f (fun y => { y with chunk := y.chunk + 1, pc := y.sweep })) f
      else if x.pc + 1 < n then
        clearLanes (modRun s f (fun y => { y with chunk := 0, sweep := x.pc + 1, pc := x.pc + 1 })) f
      else nextRow s f x
  wf s (R.FRD_EE_STATUS f) F.FRD_EE_STATUS_pc (((engOf s f).run.map (·.pc)).getD 0)

/-- A reduction folds the chunk and, in the row's last chunk, writes its result into s register d (R167, R172, R173). -/
def reduceChunk (s : State) (f : Nat) (x : Invocation) (i : EInstr) (vs : List W32) (fold : List W32 → Invocation → Invocation)
    (result : Invocation → W32) (fl : CvtFlags) : State :=
  let y := fold vs x
  let s := eeFlags s f fl
  if x.chunk + 1 < x.chunks then modRun s f (fun z => { z with best := y.best, nan := y.nan, sum := y.sum, any := y.any })
  else
    let s := modRun s f (fun z => { z with best := none, nan := false, sum := (0, 0), any := false })
    setSreg s f (i.d - 16) (result y)

/-! ## One instruction as a command -/

/-- Cost of an instruction in a group or chunk (R156, R179). -/
def eCost (x : Invocation) (op : Nat) (aux : Nat) : Nat :=
  if op = 0x50 ∨ op = 0x52 then (256 * fmtBits (x.fmt (aux % 4)) + 4095) / 4096
  else if 0x30 ≤ op ∧ op ≤ 0x33 then 4
  else if op = 0x62 then 12 * x.chunks
  else if op = 0x63 then 14 * x.chunks
  else 1

/-- A pause stops an engine where a group or row begins (R597). -/
def atBoundary (x : Invocation) : Bool := decide (x.pc = 0) && decide (x.chunk = 0) && decide (x.sweep = 0)

/-- The invocation that frond `f` runs, when the instruction it issues next is the word `w`. -/
def issuing (s : State) (f w : Nat) : Option Invocation :=
  match (engOf s f).run with
  | none => none
  | some x => if x.prog[x.pc]? = some w ∧ failed s = false ∧ (pausedNow s && atBoundary x) = false then some x else none

/-- Count an instruction's cycles (FRD_EE_BUSY_CNT, R626). -/
def countCycles (s : State) (f : Nat) (x : Invocation) (op aux : Nat) : State :=
  cntAdd (bump s (R.FRD_EE_BUSY_CNT f) (eCost x op aux)) 10 (eCost x op aux)

/-- An element-engine instruction of frond `f`: what the spec calls invalid stops; the word the engine issues next has its
effect; any other has none, since the engine runs its program's words alone. A memory error met on the way is corrected and
counted, or fails the device (R107, R108, R185). -/
def elemCmd (op : Nat) (whole ends : Bool) (f : Nat) (i : EInstr) (eff : Nat → Invocation → State → State) (s : State) :
    Host.Outcome State Fault Refusal :=
  if eInvalid op i then .fault .invalidEncoding
  else .next (match issuing s f (eWord op i) with
    | some x => afterRead s f i.err (fun s => advanceEngine (eff f x (countCycles s f x op i.aux)) f x whole ends)
    | none => s)

end Sys2Proof.Machine
end

