-- ==== Sys2Proof/Machine/SecBase.lean ====
section
/-! DEFINITION. A thallus image as the loader checks it: its sections as bytes, common tests, the raw HBM regions it places
(R27 to R33, R49, R688). -/

namespace Sys2Proof.Machine

/-- An entry of the section table with its content. -/
structure SecEnt where
  ty : Nat
  ver : Nat
  inst : Nat
  off : Nat
  len : Nat
  /-- Bytes 0x3, 0xE and 0xF, which are 0. -/
  pad : Nat
  bytes : List Byte
  deriving DecidableEq, Repr

/-- An image and what of the device the checks look at. -/
structure ImgCtx where
  caps : Nat
  secs : List SecEnt
  /-- Device ID, image slots, status page. -/
  self : Nat
  store : Nat
  spage : Nat
  deriving DecidableEq, Repr

/-- Content of the section of a type and instance; empty when absent. -/
def ImgCtx.sec (x : ImgCtx) (ty inst : Nat) : List Byte :=
  ((x.secs.find? (fun e => e.ty = ty && e.inst = inst)).map (·.bytes)).getD []

def ImgCtx.secsOf (x : ImgCtx) (ty : Nat) : List SecEnt := x.secs.filter (fun e => e.ty = ty)

/-! ## Checks

A check answers the offset of the byte that fails it, none where it passes (R42; which byte that is where a check relates several fields:
DESIGN CHOICE, log 7). -/

/-- The field at offset `o` passes `ok`. -/
def ck (o : Nat) (ok : Bool) : Option Nat := if ok then none else some o

/-- The first of several checks that fails. -/
def firstFail (cs : List (Option Nat)) : Option Nat := cs.findSome? id

/-- A check whose offsets count from offset `o`. -/
def shift (o : Nat) (c : Option Nat) : Option Nat := c.map (o + ·)

/-- `n` zero bytes from offset `o`: the first that is not 0. -/
def zeros (b : List Byte) (o n : Nat) : Option Nat := (((b.drop o).take n).findIdx? (fun y => y ≠ 0)).map (o + ·)

/-- lo ≤ x ≤ hi. -/
def within (x lo hi : Nat) : Bool := decide (lo ≤ x) && decide (x ≤ hi)

def aligned (x n : Nat) : Bool := decide (x % n = 0)

def upTo (x n : Nat) : Nat := (x + n - 1) / n * n

/-- No two of a list are related. -/
def pairwise {A : Type} (p : A → A → Bool) : List A → Bool
  | [] => true
  | a :: r => r.all (p a) && pairwise p r

/-- Ranges (first, length) share nothing. -/
def apart (a b : Nat × Nat) : Bool := !overlaps a.1 a.2 b.1 b.2

/-- No two of a list are related: the offset of the later of the first two that are. -/
def pairCk {A : Type} (off : A → Nat) (p : A → A → Bool) : List A → Option Nat
  | [] => none
  | a :: r => firstFail [r.findSome? (fun c => ck (off c) (p a c)), pairCk off p r]

def distinct (xs : List Nat) : Bool := pairwise (fun a b => decide (a ≠ b)) xs
def rising (xs : List Nat) : Bool := (xs.zip (xs.drop 1)).all (fun p => decide (p.1 < p.2))

/-- Parts of a section in the order of their offsets. -/
def sortParts : List (Nat × Nat) → List (Nat × Nat)
  | [] => []
  | p :: r => (r.foldl (fun (acc : List (Nat × Nat)) q =>
      acc.takeWhile (fun z => decide (z.1 ≤ q.1)) ++ q :: acc.dropWhile (fun z => decide (z.1 ≤ q.1))) [p])

/-- Parts follow one another, each at the next multiple of its own alignment `al`, with zero padding before it, and the last ends the
section (R688): the byte where the next part should stand. -/
def coversFrom (b : List Byte) (al : Nat × Nat → Nat) : Nat → List (Nat × Nat) → Option Nat
  | at_, [] => ck at_ (decide (b.length = at_))
  | at_, p :: r => firstFail [ck at_ (decide (p.1 = upTo at_ (al p))), zeros b at_ (p.1 - at_), coversFrom b al (p.1 + p.2) r]

/-- A section is its header and these parts, as R688 asks. -/
def coversCk (b : List Byte) (al : Nat × Nat → Nat) (header : Nat) (parts : List (Nat × Nat)) : Option Nat :=
  coversFrom b al header (sortParts (parts.filter (fun p => decide (0 < p.2))))

/-- FP32 fields: finite and at least 0; in addition greater than 0; at least 0 and below 1. -/
def fpNonneg (b : List Byte) (o : Nat) : Bool :=
  let w := BitVec.ofNat 32 (fieldAt b o 4)
  isFin32 w && (!neg32 w || decide (w = 0x80000000#32))
def fpPos (b : List Byte) (o : Nat) : Bool := let w := BitVec.ofNat 32 (fieldAt b o 4); isFin32 w && pos32 w
def fpBelow1 (b : List Byte) (o : Nat) : Bool := fpNonneg b o && fvLt (f32v (BitVec.ofNat 32 (fieldAt b o 4))) (f32v one32)

/-! ## Raw HBM regions (R49) -/

/-- Inside the raw HBM of stack `n`. -/
def inStack (n : Nat) (r : Nat × Nat) : Bool := decide (hbmBase n ≤ r.1) && decide (r.1 + r.2 ≤ hbmBase n + 0x14_0000_0000)

def inHbm (r : Nat × Nat) : Bool := decide (hbmBase 0 ≤ r.1) && decide (r.1 + r.2 ≤ hbmBase 8)

/-- The device's own regions: page-table frames, image slots, status page. -/
def ImgCtx.reserved (x : ImgCtx) : List (Nat × Nat) :=
  (List.range 8).map (fun n => (hbmBase n, 0x1000_0000)) ++ [(x.store, 0x2000_0000), (x.spage, 0x1_0000)]

/-! ## Tables of the image -/

/-- Descriptors of the image with the section that holds each. -/
def ImgCtx.tables (x : ImgCtx) : List (List Byte × List Byte) :=
  (x.secsOf 4).flatMap (fun e => (List.range (fieldAt e.bytes 0 2)).map (fun i => ((e.bytes.drop (16 + 128 * i)).take 128, e.bytes)))

def ImgCtx.desc (x : ImgCtx) (t : Nat) : Option (List Byte) := ((x.tables.map (·.1)).find? (fun d => dTable d = t))

/-- Owner list of a descriptor in its section. -/
def ownersIn (sec d : List Byte) : List Nat := (List.range (dOwn d)).map (fun i => fieldAt sec (dOwnerList d + 2 * i) 2)

/-- Offset of the sparse record of storage table `t` in the image, if any (R225). -/
def ImgCtx.sparse (x : ImgCtx) (t : Nat) : Option Nat :=
  let b := x.sec 0xC 1
  ((List.range (fieldAt b 0 2)).map (fun i => 144 + 64 * i)).find? (fun o => decide (fieldAt b o 2 = t))

/-- State bytes of a row of width `w` of table `t` in the image. -/
def ImgCtx.rowZ (x : ImgCtx) (t w : Nat) : Nat :=
  match x.sparse t with
  | none => 0
  | some o => stateZ (fieldAt (x.sec 0xC 1) (o + 2) 1) w

/-- RowBytes of R509. -/
def ImgCtx.rowSize (x : ImgCtx) (d : List Byte) (rem : Bool) : Nat :=
  let w := rowW d rem
  upTo (planeP w + planeE w + x.rowZ (storageOf d) w) 64

/-- Rows each owner may hold, stored or remainder. -/
def tableRows (d : List Byte) (rem : Bool) : Nat := if rem then (if dComp d then dRemRows d else 0) else rowBound d

/-- Plane ranges of a table in the tiered range, and with them its state ranges. -/
def planeRanges (d : List Byte) : List (Nat × Nat) :=
  let n := rowBound d
  let r := tableRows d true
  [(dBf d, n * planeP (dWidth d)), (dExt d, n * planeE (dWidth d))]
    ++ (if dComp d then [(dRemBf d, r * planeP (dRemWidth d)), (dRemExt d, r * planeE (dRemWidth d))] else [])
def ImgCtx.stateRanges (x : ImgCtx) (d : List Byte) : List (Nat × Nat) :=
  [(dState d, rowBound d * x.rowZ (storageOf d) (dWidth d))]
    ++ (if dComp d then [(dRemState d, dRemRows d * x.rowZ (storageOf d) (dRemWidth d))] else [])

/-- Every byte of [a, e) lies in one of the ranges (fuel: their number, plus 1). -/
def rangeCovered (rs : List (Nat × Nat)) : Nat → Nat → Nat → Bool
  | 0, a, e => decide (e ≤ a)
  | k + 1, a, e =>
    if e ≤ a then true
    else
      let hi := (rs.filter (fun r => decide (r.1 ≤ a ∧ a < r.1 + r.2))).foldl (fun m r => max m (r.1 + r.2)) 0
      if a < hi then rangeCovered rs k hi e else false

/-! ## Parameter blocks of the image -/

def ImgCtx.blockCount (x : ImgCtx) (die : Nat) : Nat := fieldAt (x.sec 6 die) 0 4

/-- Section and offset of global block `b`'s entry. -/
def ImgCtx.blockAt (x : ImgCtx) (b : Nat) : Option (List Byte × Nat) :=
  let n0 := x.blockCount 0
  if b < n0 then some (x.sec 6 0, fieldAt (x.sec 6 0) 0x2C 4 + 32 * b)
  else if b < n0 + x.blockCount 1 then some (x.sec 6 1, fieldAt (x.sec 6 1) 0x2C 4 + 32 * (b - n0))
  else none

/-- Elements of global block `b`. -/
def ImgCtx.blockElems (x : ImgCtx) (b : Nat) : Option Nat := (x.blockAt b).map (fun p => fieldAt p.1 (p.2 + 8) 4)

/-- Bytes of a parameter block's elements at its destination: BF16 for dest 0, as they arrive otherwise (R375, R376). -/
def paramBytes (x : ImgCtx) (blk dest : Nat) : Nat :=
  match x.blockAt blk with
  | none => 0
  | some p =>
    let n := fieldAt p.1 (p.2 + 8) 4
    let f := fieldAt p.1 (p.2 + 0x14) 1
    if dest = 0 then 2 * n else if f = 8 then (n + 1) / 2 + (n + 31) / 32 else n

/-! ## Regions the image places (R49) -/

/-- Raw HBM regions a section places, each with the offset of the field that places it; a FROND_PLAN places the parameter blocks of
device memory (R374, R376). -/
def sectionRegions (x : ImgCtx) (ty inst : Nat) (b : List Byte) : List (Nat × Nat × Nat) :=
  match ty with
  | 1 => (List.range (fieldAt b 4 4)).filterMap (fun i =>
      let o := fieldAt b 0 4 + 16 * i
      if fieldAt b (o + 4) 1 = 2 then some (o + 8, fieldAt b (o + 8) 8, 64 + paramBytes x (fieldAt b o 4) 2) else none)
  | 6 => [(8, fieldAt b 8 8, fieldAt b 0x10 8)]
  | 7 => [(8, fieldAt b 8 8, fieldAt b 0x18 8), (0x10, fieldAt b 0x10 8, fieldAt b 0x18 8), (0x20, fieldAt b 0x20 8, 0x10_0000)]
  | 0xC => if inst = 1 then
      (List.range 8).map (fun n => (0x10 + 8 * n, fieldAt b (0x10 + 8 * n) 8, fieldAt b 4 4 * 0x1_0000))
        ++ (List.range 8).map (fun n => (0x50 + 8 * n, fieldAt b (0x50 + 8 * n) 8, fieldAt b 8 4 * 0x1_0000))
    else []
  | 0xD => (List.range 8).map (fun n =>
      let v := fieldAt b (0x18 + 8 * n) 8
      (0x18 + 8 * n, hbmBase n + bitsOf v 0 21 * 0x1_0000, bitsOf v 21 21 * 0x1_0000))
  | _ => []

/-- Types of the other sections that a section's regions stay clear of: a partition, of staging areas, spill rings, T1 pools and the other
die's (R391); parity areas and T1 pools, of every other region (R310, R514). -/
def clearOf (ty : Nat) : List Nat :=
  match ty with
  | 6 => [6, 0xC, 0xD]
  | 7 => [1, 6, 7, 0xC, 0xD]
  | 0xD => [1, 6, 7, 0xC, 0xD]
  | _ => []

/-- The regions of one section are clear of the device's own and of each other (but parameter blocks), and of the other sections' (R49,
R228, R310, R391, R514). -/
def regionsCk (x : ImgCtx) (e : SecEnt) : Option Nat :=
  let own := sectionRegions x e.ty e.inst e.bytes
  let others := (x.secs.filter (fun o => (o.ty ≠ e.ty || o.inst ≠ e.inst) && (clearOf e.ty).contains o.ty)).flatMap
    (fun o => (sectionRegions x o.ty o.inst o.bytes).map (·.2))
  firstFail (own.map (fun r => ck r.1 ((x.reserved ++ others).all (apart r.2)))
    ++ [if e.ty = 1 then none else pairCk (·.1) (fun a c => apart a.2 c.2) own])

end Sys2Proof.Machine
end

