-- ==== Sys2Proof/Machine/SecFrond.lean ====
section
/-! DEFINITION. What the loader checks of FROND_PLAN, STAGE_QUEUES and SPORE_PROGRAM sections (R133, R147, R182, R183, R358 to
R376, R381). -/

namespace Sys2Proof.Machine

/-! ## Spore programs (R147, R153 to R156, R162, R168, R171, R183) -/

/-- Region codes (R147). -/
def regionFmtOk (c : Nat) : Bool := [0, 1, 3, 5, 6, 7, 8, 9, 10, 11, 12].contains c

/-- Opcodes of R156 with the operand selectors each uses: a, b, c. -/
def opcodeUses : List (Nat × Bool × Bool × Bool) := [
  (0x01, true, true, false), (0x02, true, true, false), (0x03, true, true, false), (0x04, true, true, true),
  (0x05, true, true, false), (0x06, true, true, false), (0x07, true, true, true), (0x08, true, false, false),
  (0x09, true, false, false), (0x10, true, true, false), (0x11, true, true, false), (0x12, true, true, false),
  (0x13, true, true, false), (0x14, true, true, false), (0x18, true, true, true), (0x20, true, true, false),
  (0x21, true, true, false), (0x22, true, true, false), (0x23, true, true, false), (0x24, true, false, false),
  (0x25, true, false, false), (0x26, true, true, false), (0x30, true, false, false), (0x31, true, false, false),
  (0x32, true, false, false), (0x33, true, false, false), (0x38, true, true, false), (0x39, true, true, false),
  (0x3A, true, false, false), (0x3B, true, false, false), (0x40, false, false, false), (0x48, true, false, false),
  (0x50, false, false, false), (0x52, true, true, false), (0x60, true, false, false), (0x61, true, false, false),
  (0x62, false, true, false), (0x63, false, true, false)]

def shapeFmt (b : List Byte) (r : Nat) : Nat := fieldAt b (2 + r) 1
def shapeOut (b : List Byte) (r : Nat) : Bool := bitOf (fieldAt b 6 1) r

/-- Whether an instruction uses operand b: CVT and ST only for INT8, WID only for block formats (R155, R163). -/
def usesB (b : List Byte) (op : Nat) (i : EInstr) (table : Bool) : Bool :=
  match op with
  | 0x38 => decide (i.fmt = 9)
  | 0x39 => isBlockFmt i.fmt
  | 0x52 => decide (shapeFmt b (i.aux % 4) = 9)
  | _ => table

/-- Regions a row instruction reads: its input, and the mask of SOFTMAX or γ and β of LNORM where they are used (R173 to R176). -/
def rowReads (op : Nat) (i : EInstr) : List Nat :=
  i.aux % 4 :: (if op = 0x62 then (if bitOf i.aux 6 then [bitsOf i.aux 4 2] else [])
    else if bitOf i.aux 8 then [bitsOf i.aux 4 2, bitsOf i.aux 6 2] else [])

/-- One instruction of a program with shape header `b`: the byte of the instruction that holds the failing field. SOFTMAX and LNORM are a
sweep of their own (R167), so they may read a region that another sweep writes, but not the one they write (R168, R183). -/
def instrCk (b : List Byte) (w : Nat) : Option Nat :=
  let op := bitsOf w 56 8
  if op = 0x49 then firstFail [ck 6 (within (bitsOf w 51 5) 16 23), ck 4 (decide (bitsOf w 32 19 = 0))]
  else
    let i := (eDecode w).2
    match opcodeUses.find? (fun o => o.1 = op) with
    | none => some 7
    | some (_, ua, ub, uc) =>
      let sel (use : Bool) (v : Nat) : Bool := if use then decide (v ≤ 28) else decide (v = 0)
      let region (r : Nat) (out : Bool) : Bool := decide (shapeOut b r = out)
      firstFail [
        ck 7 (!decide (0x60 ≤ op) || decide (fieldAt b 0 1 = 1)),
        ck 6 (if op = 0x60 ∨ op = 0x61 then within i.d 16 23 else decide (i.d ≤ 15)),
        ck 5 (sel ua i.a && (decide (i.a ≠ 28) || (decide (op = 0x38) && decide (fieldAt b 0xC 1 = 2)))),
        ck 5 (sel (usesB b op i ub) i.b && decide (i.b ≠ 28)),
        ck 4 (sel uc i.c && decide (i.c ≠ 28)),
        ck 4 (!i.maskEn || (decide (op ≠ 0x62) && decide (op ≠ 0x63))),
        ck 3 (decide (i.rnd < 2)),
        ck 3 (decide (op ≠ 0x38 ∧ op ≠ 0x39) || cvtFmtOk i.fmt),
        ck 0 (match op with
          | 0x50 => region (i.aux % 4) false && decide (bitsOf i.aux 2 2 ≤ 2)
          | 0x52 => region (i.aux % 4) true && decide (i.aux / 4 = 0)
          | 0x62 => region (bitsOf i.aux 2 2) true && !(rowReads op i).contains (bitsOf i.aux 2 2)
              && (!bitOf i.aux 6 || decide (shapeFmt b (bitsOf i.aux 4 2) = 0))
          | 0x63 => region (bitsOf i.aux 2 2) true && !(rowReads op i).contains (bitsOf i.aux 2 2)
          | _ => true)]

/-- A SPORE_PROGRAM section. -/
def sporeCk (e : SecEnt) : Option Nat :=
  let b := e.bytes
  let n := fieldAt b 1 1 + 1
  let drain := decide (fieldAt b 0 1 = 0)
  firstFail ([
    ck 0 (decide (fieldAt b 0 1 ≤ 1)), ck 1 (decide (b.length = 32 + 8 * n))]
    ++ (List.range 4).map (fun r => ck (2 + r) (regionFmtOk (shapeFmt b r)))
    ++ [ck 6 (decide (fieldAt b 6 1 ≤ 15)), ck 7 (decide (fieldAt b 7 1 ≤ 15)),
      ck 8 (if drain then within (fieldAt b 8 2) 1 512 else decide (fieldAt b 8 2 = 0)),
      ck 0xA (within (fieldAt b 0xA 2) 1 (if drain then 128 else 32768)),
      ck 0xC (if drain then within (fieldAt b 0xC 1) 1 2 else decide (fieldAt b 0xC 1 = 0)), zeros b 0xE 18]
    ++ (List.range n).map (fun i => shift (32 + 8 * i) (instrCk b (fieldAt b (32 + 8 * i) 8))))

/-! ## Ops (R131, R133, R145, R146, R359, R360, R381) -/

/-- An op as it stands in the section: frond, index, offset, header and body. -/
structure ImgOp where
  frond : Nat
  idx : Nat
  off : Nat
  head : List Byte
  body : List Byte
  deriving DecidableEq, Repr

def ImgOp.kind (o : ImgOp) : Nat := fieldAt o.head 0 1
def ImgOp.drain (o : ImgOp) : Nat := dDrain o.body
def ImgOp.isSpore (o : ImgOp) : Bool := decide (o.kind = 1) && decide (o.drain = 1)
/-- Call record of an INVOKE or of a product with drain SPORE. -/
def ImgOp.call (o : ImgOp) : List Byte := if o.kind = 1 then o.body.drop 64 else o.body

/-- Ops of a list: `n` from offset `o`. -/
def imgOps (b : List Byte) (f : Nat) : Nat → Nat → Nat → List ImgOp
  | 0, _, _ => []
  | n + 1, i, o =>
    let len := fieldAt b (o + 0xC) 2
    ⟨f, i, o, (b.drop o).take 16, (b.drop (o + 16)).take len⟩ :: imgOps b f n (i + 1) (o + 16 + len)

def frondHead (b : List Byte) (f : Nat) : Nat × Nat := (fieldAt b (0x10 + 8 * f) 4, fieldAt b (0x14 + 8 * f) 2)
def frondOps (b : List Byte) (f : Nat) : List ImgOp := let h := frondHead b f; imgOps b f h.2 0 h.1
def ImgCtx.ops (x : ImgCtx) : List ImgOp := (List.range 32).flatMap (frondOps (x.sec 1 0))

/-- Length of an op's bytes. -/
def ImgOp.size (o : ImgOp) : Nat := 16 + fieldAt o.head 0xC 2

/-- A range of store bytes lies in the store. -/
def inStore (first len : Nat) : Bool := decide (first + len ≤ storeSize)

/-- Bytes an operand of `rows` stored rows of `n` elements reaches past its address. -/
def planeReach (rows n bits stride : Nat) : Nat := (rows - 1) * stride * 64 + (n * bits + 7) / 8

/-- A product descriptor alone (R131, R133). The scale planes of an E2M1 operand may start at any byte of the store (DESIGN CHOICE, log
128). -/
def descCk (d : List Byte) : Option Nat :=
  let fl := fieldAt d 0xC 2
  let fa := fieldAt d 8 1
  let fb := fieldAt d 9 1
  let m := dRowsM d
  let n := dColsN d
  let k := fieldAt d 4 4
  let narrow (f : Nat) : Bool := decide (f = 3 ∨ f = 5 ∨ f = 6 ∨ f = 7)
  let e2 := decide (fa = 8)
  let scale (o : Nat) : Option Nat := ck o (decide (fieldAt d o 1 ≠ 0x80) && (!e2 || decide (fieldAt d o 1 = 0)))
  let chain (o : Nat) (use : Bool) : Option Nat :=
    ck o (if use then bitOf (fieldAt d o 1) 7 && decide (bitsOf (fieldAt d o 1) 5 2 = 0) else decide (fieldAt d o 1 = 0))
  let a := if bitOf fl 0 then (k, m) else (m, k)
  let b := if bitOf fl 1 then (n, k) else (k, n)
  let dr := dDrain d
  let scalePlane (o rows len : Nat) : Option Nat :=
    ck o (if e2 then inStore (fieldAt d o 4) ((rows - 1) * upTo len 64 + len) else decide (fieldAt d o 4 = 0))
  let plane (o so bits : Nat) (r : Nat × Nat) : List (Option Nat) :=
    [ck o (aligned (fieldAt d o 4) 64), ck o (inStore (fieldAt d o 4) (planeReach r.1 r.2 bits (fieldAt d so 2)))]
  firstFail ([
    ck 0 (within m 1 512), ck 2 (within n 1 128), ck 4 (within k 1 1048576),
    ck 8 (narrow fa || e2), ck 9 (if e2 then decide (fb = 8) else narrow fb), scale 0xA, scale 0xB,
    ck 0xC (!e2 || decide (fl % 4 = 0)), ck 0xC (decide (fl / 512 = 0) && decide (dr ≤ 5)),
    ck 0xC ((decide (dr ≠ 2) || dGrad d) && (decide (dr ≠ 3) || !dGrad d)), ck 0xE (decide (fieldAt d 0xE 2 ≤ 511))]
    ++ plane 0x10 0x24 (operandBits fa) a ++ plane 0x14 0x26 (operandBits fb) b
    ++ (if decide (2 ≤ dr ∧ dr ≤ 4) || decide (dInit d = 2) then
        plane 0x18 0x28 (if dr = 2 ∨ dr = 3 then (if dInit d = 2 then 64 else 16) else 64) (m, n) else [])
    ++ [scalePlane 0x1C m ((k + 31) / 32), scalePlane 0x20 ((k + 31) / 32) n,
      ck 0x2A (decide (fieldAt d 0x2A 2 ≤ 0xFFF)), ck 0x2C (decide (fieldAt d 0x2C 4 < 2 ^ 20)), ck 0x30 (decide (fieldAt d 0x30 8 < 2 ^ 48)),
      chain 0x3C (decide (dr = 5)), chain 0x3D (decide (dInit d = 3)), zeros d 0x3E 2])

/-- Region entry `r` of an invocation: base, stride, scale stride, scale base. -/
def imgRegion (o : ImgOp) (r : Nat) : Nat × Nat × Nat × Nat :=
  let c := o.call
  let p := 0x20 + 16 * r
  if o.kind = 1 ∧ r = 0 then (fieldAt o.body 0x18 4, fieldAt o.body 0x28 2, 0, 0)
  else (fieldAt c p 4, fieldAt c (p + 4) 2, fieldAt c (p + 6) 2, fieldAt c (p + 8) 4)

/-- A call record under its program's shape header `sh` (R145, R146, R169, R170, R183), with offsets in the call record. What R145 leaves
open is held so (DESIGN CHOICE, log 138): bits [6:2] of a len_region are 0, bit 1 of a DRAIN record's flags may be set, and its
row_flag_addr leaves room for the tile's rows. -/
def callCk (o : ImgOp) (sh : List Byte) : Option Nat :=
  let c := o.call
  let row := decide (o.kind = 2)
  let rows := if row then fieldAt c 2 2 else dRowsM o.body
  let len := if row then fieldAt c 4 2 else dColsN o.body
  let flag := fieldAt c 0x1C 4
  let own : List (Option Nat) :=
    if row then [
      ck 2 (within rows 1 4096), ck 4 (within len 1 (min 32768 (fieldAt sh 0xA 2))), ck 6 (decide (bitsOf (fieldAt c 6 1) 2 5 = 0)),
      ck 7 (decide (fieldAt c 7 1 ≤ 3)), ck 0xA (decide (fieldAt c 0xA 2 ≤ 0xFFF)), ck 0xC (decide (fieldAt c 0xC 4 < 2 ^ 20)),
      ck 0x10 (decide (fieldAt c 0x10 8 < 2 ^ 48))]
    else [
      ck 0 (decide (fieldAt c 0 2 = fieldAt o.body 0xE 2)), zeros c 2 5, ck 7 (decide (fieldAt c 7 1 = 0 ∨ fieldAt c 7 1 = 2)), zeros c 8 0x14,
      zeros c 0x20 16, ck 0 (decide (rows ≤ fieldAt sh 8 2) && decide (len ≤ fieldAt sh 0xA 2))]
  firstFail (ck 0 (decide (fieldAt c 0 2 ≤ 511) && decide (fieldAt sh 0 1 = b2n row)) :: own
    ++ [ck 0x1C (decide (flag = 0xFFFF_FFFF) || inStore flag rows)]
    ++ (List.range 4).flatMap (fun r =>
      let p := 0x20 + 16 * r
      let g := imgRegion o r
      let f := shapeFmt sh r
      let blk := isBlockFmt f
      [ck p (inStore g.1 (planeReach rows len (fmtBits f) g.2.1)), ck (p + 6) (blk || decide (g.2.2.1 = 0)),
        ck (p + 8) (if blk then inStore g.2.2.2 ((rows - 1) * g.2.2.1 * 64 + (len + 31) / 32 * (if f = 8 then 1 else 2))
          else decide (g.2.2.2 = 0)), zeros c (p + 0xC) 4]))

/-- A MOVE body alone (R360, R361). -/
def moveCk (m : List Byte) : Option Nat :=
  let dest := fieldAt m 0 1
  let used (u : Bool) (o n hi : Nat) : Option Nat := if u then ck o (decide (fieldAt m o n ≤ hi)) else zeros m o n
  firstFail [
    ck 0 (decide (dest ≤ 4)), ck 1 (decide (fieldAt m 1 1 ≤ 3)), used (decide (dest = 1 ∨ dest = 2)) 2 1 31, used (decide (dest = 2)) 3 1 3,
    used (decide (dest = 3)) 4 2 255, ck 6 (within (fieldAt m 6 2) 1 4096),
    ck 8 (decide (fieldAt m 8 8 < 2 ^ 48) && (bitOf (fieldAt m 1 1) 1 || decide (fieldAt m 8 8 < storeSize))),
    used (decide (dest ≤ 2)) 0x10 4 (storeSize - 1), ck 0x14 (aligned (fieldAt m 0x14 4) 64 && decide (fieldAt m 0x14 4 ≤ 2 ^ 20)),
    if dest = 4 then none else zeros m 0x1C 4]

/-! ## Stage queues (R370) -/

def ImgCtx.queues (x : ImgCtx) : List (Nat × List Byte) :=
  let b := x.sec 2 0
  (List.range (fieldAt b 0 2)).map (fun i => (i, (b.drop (16 + 32 * i)).take 32))

/-- Consumer of a queue: member, frond. -/
def queueCons (q : List Byte) : Nat × Nat := (fieldAt q 2 1, fieldAt q 3 1)

/-- Slots of a queue in its consumer's store; its data bits. -/
def queueSlots (q : List Byte) : Nat × Nat := (fieldAt q 8 4, fieldAt q 4 1 * fieldAt q 0xC 4)
def queueBits (q : List Byte) : Nat × Nat := (fieldAt q 6 2, fieldAt q 4 1)

/-- Parameter map entries. -/
def ImgCtx.params (x : ImgCtx) : List (List Byte) :=
  let b := x.sec 1 0
  (List.range (fieldAt b 4 4)).map (fun i => (b.drop (fieldAt b 0 4 + 16 * i)).take 16)

/-- What a MOVE with widen set multiplies the bytes of a row by (R361), by the format of the block it reads. -/
def widenFactor (x : ImgCtx) (src : Nat) : Nat :=
  match x.params.find? (fun p => fieldAt p 4 1 = 2 && decide (fieldAt p 8 8 ≤ src)
      && decide (src < fieldAt p 8 8 + 64 + paramBytes x (fieldAt p 0 4) 2)) with
  | none => 1
  | some p => match x.blockAt (fieldAt p 0 4) with
    | some b => if fieldAt b.1 (b.2 + 0x14) 1 = 8 then 4 else 2
    | none => 1

/-- A store region the plan writes beside queue slots: the clique member (none: every member, each its own store), the frond, the range. -/
structure PlanWrite where
  member : Option Nat
  frond : Nat
  range : Nat × Nat
  deriving DecidableEq, Repr

/-- What one op writes to a store. -/
def opWrites (x : ImgCtx) (o : ImgOp) : List PlanWrite :=
  match o.kind with
  | 3 =>
    let m := o.body
    let w := if bitOf (fieldAt m 1 1) 0 then widenFactor x (fieldAt m 8 8) else 1
    let r := (fieldAt m 0x10 4, (fieldAt m 6 2 - 1) * fieldAt m 0x1A 2 * 64 + w * fieldAt m 0x14 4)
    match fieldAt m 0 1 with
    | 0 => [⟨none, o.frond, r⟩]
    | 1 => [⟨none, fieldAt m 2 1, r⟩]
    | 2 => [⟨some (fieldAt m 3 1), fieldAt m 2 1, r⟩]
    | _ => []
  | k =>
    let d := o.body
    let flag := fieldAt o.call 0x1C 4
    (if k = 2 ∧ flag ≠ 0xFFFF_FFFF then [⟨none, o.frond, flag, fieldAt o.call 2 2⟩] else []) ++
    if o.isSpore ∨ k = 2 then
      let sh := x.sec 3 (fieldAt o.call 0 2)
      let rows := if k = 2 then fieldAt o.call 2 2 else dRowsM d
      let len := if k = 2 then fieldAt o.call 4 2 else dColsN d
      (List.range 4).flatMap (fun r =>
        let g := imgRegion o r
        let f := shapeFmt sh r
        if !shapeOut sh r then []
        else ⟨none, o.frond, g.1, planeReach rows len (fmtBits f) g.2.1⟩
          :: (if isBlockFmt f then [⟨none, o.frond, g.2.2.2, (rows - 1) * g.2.2.1 * 64 + (len + 31) / 32 * (if f = 8 then 1 else 2)⟩] else []))
    else if k = 1 ∧ 2 ≤ o.drain ∧ o.drain ≤ 4 then
      [⟨none, o.frond, fieldAt d 0x18 4, planeReach (dRowsM d) (dColsN d) (if o.drain = 4 then 64 else 16) (fieldAt d 0x28 2)⟩]
    else []

/-- Store regions the plan writes beside queue slots. -/
def planWrites (x : ImgCtx) : List PlanWrite :=
  x.params.filterMap (fun p =>
    if fieldAt p 4 1 < 2 then some ⟨none, fieldAt p 5 1, fieldAt p 8 8, paramBytes x (fieldAt p 0 4) (fieldAt p 4 1)⟩ else none)
  ++ x.ops.flatMap (opWrites x)

/-- A STAGE_QUEUES section (R370, R381). -/
def queuesCk (x : ImgCtx) (e : SecEnt) : Option Nat :=
  let b := e.bytes
  let n := fieldAt b 0 2
  let qs := x.queues
  let at_ (q : Nat × List Byte) : Nat := 16 + 32 * q.1
  firstFail ([ck 0 (decide (n ≤ 256)), zeros b 2 14, ck 0 (decide (b.length = 16 + 32 * n))]
    ++ qs.map (fun z => let q := z.2; shift (at_ z) (firstFail [
        ck 0 (decide (fieldAt q 0 1 ≤ 3)), ck 1 (decide (fieldAt q 1 1 ≤ 31)), ck 2 (decide (fieldAt q 2 1 ≤ 3)), ck 3 (decide (fieldAt q 3 1 ≤ 31)),
        ck 4 (within (fieldAt q 4 1) 1 16), zeros q 5 1, ck 6 (decide (fieldAt q 6 2 + fieldAt q 4 1 ≤ 1016)), ck 8 (aligned (fieldAt q 8 4) 64),
        ck 0xC (aligned (fieldAt q 0xC 4) 64), ck 8 (inStore (fieldAt q 8 4) (fieldAt q 4 1 * fieldAt q 0xC 4)), zeros q 0x10 16]))
    ++ [pairCk (fun z => at_ z + 6) (fun p q => decide (queueCons p.2 ≠ queueCons q.2) || apart (queueBits p.2) (queueBits q.2)) qs,
      pairCk (fun z => at_ z + 8) (fun p q => decide (queueCons p.2 ≠ queueCons q.2) || apart (queueSlots p.2) (queueSlots q.2)) qs]
    ++ qs.map (fun z => let q := z.2; ck (at_ z + 8) ((planWrites x).all (fun w => decide (w.frond ≠ (queueCons q).2)
        || w.member.any (fun m => decide (m ≠ (queueCons q).1)) || apart w.range (queueSlots q)))))

/-! ## The plan (R358, R359, R374, R381) -/

/-- Frond `f` reads a parameter block of device memory: a MOVE of its list with src_mem has a source in the block (R360, R376). -/
def readsBlock (x : ImgCtx) (f : Nat) (p : List Byte) : Bool :=
  (frondOps (x.sec 1 0) f).any (fun o => o.kind = 3 && bitOf (fieldAt o.body 1 1) 1
    && (List.range (fieldAt o.body 6 2)).any (fun r =>
      !apart (fieldAt o.body 8 8 + r * fieldAt o.body 0x18 2 * 64, fieldAt o.body 0x14 4) (fieldAt p 8 8, 64 + paramBytes x (fieldAt p 0 4) 2)))

/-- Parameter bits of frond `f` in the image: for dest 2 on every frond that reads the block (R374). -/
def imgParamBits (x : ImgCtx) (f : Nat) : List Nat :=
  x.params.filterMap (fun p =>
    if bitOf (fieldAt p 6 2) 15 ∧ (if fieldAt p 4 1 = 2 then readsBlock x f p else decide (fieldAt p 5 1 = f)) then some (fieldAt p 6 2 % 1024) else none)

/-- Wait and done words: bits [14:10] are 0. -/
def bitWordOk (w : Nat) : Bool := decide (bitsOf w 10 5 = 0)

/-- A release op of a queue: on its consumer frond, with wait0 naming one of its data bits. The lists are those of every clique member,
so the same op releases the queues of different consumer members that share the bit. -/
def releasesQueue (o : ImgOp) (q : List Byte) : Bool :=
  let w := fieldAt o.head 4 2
  bitOf (fieldAt o.head 2 1) 3 && decide ((queueCons q).2 = o.frond) && bitOf w 15
    && within (w % 1024) (queueBits q).1 ((queueBits q).1 + (queueBits q).2 - 1)

/-- One op under the image (R359 to R361, R381). -/
def opCk (x : ImgCtx) (o : ImgOp) : Option Nat :=
  let h := o.head
  let done := fieldAt h 0xA 2
  let len := match o.kind with
    | 1 => if o.drain = 1 then 192 else 64
    | 2 => 128
    | _ => 32
  let doneFrond := if o.kind = 3 ∧ (fieldAt o.body 0 1 = 1 ∨ fieldAt o.body 0 1 = 2) then fieldAt o.body 2 1 else o.frond
  let prog := x.sec 3 (fieldAt o.call 0 2)
  let wait (p : Nat) : Option Nat :=
    ck p (bitWordOk (fieldAt h p 2) && (!bitOf (fieldAt h p 2) 15 || !within (fieldAt h p 2 % 1024) 1018 1021))
  let call (p : Nat) : Option Nat := firstFail [ck (16 + p) (!prog.isEmpty), shift (16 + p) (callCk o prog)]
  shift o.off (firstFail ([
    ck 0 (within o.kind 1 3), ck 1 (decide (fieldAt h 1 1 ≤ 3) && (decide (fieldAt h 1 1 ≠ 2) || (decide (o.kind ≠ 2) && !o.isSpore))),
    ck 2 (decide (fieldAt h 2 1 < 64)), zeros h 3 1, wait 4, wait 6, wait 8,
    ck 0xA (bitWordOk done && (!bitOf done 15 || (decide (done % 1024 ≠ 1016 ∧ done % 1024 ≠ 1017 ∧ done % 1024 ≠ 1022 ∧ done % 1024 ≠ 1023)
          && !(imgParamBits x doneFrond).contains (done % 1024)))),
    ck 0xC (decide (fieldAt h 0xC 2 = len) && decide (o.body.length = len)), zeros h 0xE 2,
    ck 2 (!bitOf (fieldAt h 2 1) 3 || x.queues.any (fun q => releasesQueue o q.2))]
    ++ (match o.kind with
      | 1 => [shift 16 (descCk o.body), if o.isSpore then call 64 else none]
      | 2 => [call 0]
      | _ => [shift 16 (moveCk o.body),
          match fieldAt o.body 0 1 with
            | 3 => ck 0x14 (x.queues.any (fun q => q.1 = fieldAt o.body 4 2 && fieldAt q.2 1 1 = o.frond))
            | 4 => (match x.blockElems (fieldAt o.body 0x1C 4) with
              | some n => ck 0x24 (decide (fieldAt o.body 6 2 * fieldAt o.body 0x14 4 = upTo (2 * n) 64))
              | none => some 0x2C)
            | _ => none])))

/-- KEEP and HOLD alternate on a frond in list order (R133): the flags of the product that breaks the order. -/
def holdsCk : Bool → List ImgOp → Option Nat
  | _, [] => none
  | held, o :: r => firstFail [ck (o.off + 0x1C) (decide (held = decide (dInit o.body = 1))), holdsCk (decide (dDrain o.body = 0)) r]

/-- CHAIN drains from x to y and SEED_CHAIN inits of y from x agree in plan order (R133): chain_out or chain_in of the first that has no
partner of its shape. -/
def chainsCk (ops : List ImgOp) : Option Nat :=
  let prods := ops.filter (fun o => o.kind = 1)
  let shape (o : ImgOp) : Nat × Nat := (dRowsM o.body, dColsN o.body)
  (List.range 32).findSome? (fun a => (List.range 32).findSome? (fun b =>
    let outs := prods.filter (fun o => o.frond = a && o.drain = 5 && fieldAt o.body 0x3C 1 % 32 = b)
    let ins := prods.filter (fun o => o.frond = b && dInit o.body = 3 && fieldAt o.body 0x3D 1 % 32 = a)
    firstFail [
      (outs.zip ins).findSome? (fun p => ck (p.2.off + 0x4D) (decide (shape p.1 = shape p.2))),
      (outs.drop ins.length).head?.map (fun o => o.off + 0x4C), (ins.drop outs.length).head?.map (fun o => o.off + 0x4D)]))

/-- Instructions of the distinct programs a frond's list invokes (R182). -/
def programTotal (x : ImgCtx) (ops : List ImgOp) : Nat :=
  (((ops.filter (fun o => o.isSpore || o.kind = 2)).map (fun o => fieldAt o.call 0 2)).eraseDups.map (fun p => fieldAt (x.sec 3 p) 1 1 + 1)).sum

/-- A parameter map entry (R374), its region clear of the device's own by regionsCk. -/
def paramCk (x : ImgCtx) (p : List Byte) : Option Nat :=
  let dest := fieldAt p 4 1
  let n := paramBytes x (fieldAt p 0 4) dest
  firstFail [
    ck 0 (x.blockAt (fieldAt p 0 4)).isSome, ck 4 (decide (dest ≤ 2)), if dest = 2 then zeros p 5 1 else ck 5 (decide (fieldAt p 5 1 ≤ 31)),
    ck 6 (bitWordOk (fieldAt p 6 2)), ck 8 (if dest = 2 then inHbm (fieldAt p 8 8, 64 + n) else inStore (fieldAt p 8 8) n)]

/-- A FROND_PLAN section (R358, R381). -/
def frondPlanCk (x : ImgCtx) (e : SecEnt) : Option Nat :=
  let b := e.bytes
  let ops := x.ops
  let lists := (List.range 32).filterMap (fun f =>
    let h := frondHead b f
    if h.2 = 0 then none else some (h.1, ((frondOps b f).map ImgOp.size).sum))
  let map := (fieldAt b 0 4, 16 * fieldAt b 4 4)
  firstFail ([ck 0 (decide (0x110 ≤ b.length)), ck 4 (decide (fieldAt b 4 4 ≤ 65536)), ck 8 (within (fieldAt b 8 2) 1 4096), zeros b 0xA 6]
    ++ (List.range 32).map (fun f => zeros b (0x16 + 8 * f) 2)
    ++ [coversCk b (fun _ => 64) 0x110 (map :: lists)]
    ++ ops.map (opCk x) ++ (List.range (fieldAt b 4 4)).map (fun i => shift (fieldAt b 0 4 + 16 * i) (paramCk x ((b.drop (fieldAt b 0 4 + 16 * i)).take 16)))
    ++ (List.range 32).map (fun f =>
      let mine := ops.filter (fun o => o.frond = f)
      firstFail [holdsCk false (mine.filter (fun o => o.kind = 1)), ck (0x14 + 8 * f) (decide (programTotal x mine ≤ 8192))])
    ++ [chainsCk ops]
    ++ x.queues.map (fun q =>
      let moves := ops.filter (fun o => o.kind = 3 && fieldAt o.body 0 1 = 3 && fieldAt o.body 4 2 = q.1)
      let rels := ops.filter (fun o => releasesQueue o q.2)
      firstFail [(moves.drop rels.length).head?.map (fun o => o.off + 0x14), (rels.drop moves.length).head?.map (fun o => o.off + 2)]))

end Sys2Proof.Machine
end

