-- ==== Sys2Proof/Machine/SecData.lean ====
section
/-! DEFINITION. What the loader checks of the other sections (R31 to R33, R186 to R192, R199 to R203, R219, R224 to R228, R308 to
R310, R388 to R391, R411 to R414, R444 to R447, R451, R478, R507 to R514, R617, R643, R644, R688). -/

namespace Sys2Proof.Machine

/-! ## TABLE_DESC (R186 to R192) -/

/-- Offsets in a descriptor of the bases of its planes and of its state. -/
def planeFields : List Nat := [0x30, 0x38, 0x60, 0x68]
def stateFields : List Nat := [0x40, 0x70]

/-- A descriptor alone (R186 to R188, R191, R192). -/
def tableDescCk (d : List Byte) : Option Nat :=
  let kind := dKind d
  let comp := decide (2 ≤ kind)
  let hashed := decide (kind = 1 ∨ kind = 3)
  let n := dRows d
  let used (u : Bool) (o k : Nat) (ok : Bool) : Option Nat := if u then ck o ok else zeros d o k
  firstFail [
    ck 0 (decide (fieldAt d 0 2 < 4096)), ck 4 (within (dWidth d) 16 1024 && aligned (dWidth d) 16),
    ck 2 (decide (kind ≤ 3)), ck 3 (decide (dPool d ≤ 3)), ck 6 (if dPool d = 3 then within (dSlots d) 1 64 else decide (dSlots d = 0)),
    ck 7 (decide (fieldAt d 7 1 ≤ 7)), used (dAlias d) 8 2 (decide (fieldAt d 8 2 < 4096)),
    ck 0xA (within (dOwn d) 1 16384),
    used (!hashed) 0x10 8 ((decide (kind ≠ 0) || decide (dIdRange d ≤ n)) && (decide (kind ≠ 2) || decide (dIdRange d ≤ n * dRemRows d))),
    ck 0x18 (within n 1 (2 ^ 40)), used hashed 0x20 8 (decide (dHashMult d % 2 = 1)),
    used (dHash d) 0x28 8 (decide (dShardMult d % 2 = 1)), ck 0x48 (decide (fieldAt d 0x48 4 < 2 ^ 20)), ck 0x4C (decide (fieldAt d 0x4C 4 < 2 ^ 20)),
    used comp 0x50 1 (decide (dCombine d ≤ 2)), zeros d 0x51 1,
    used comp 0x52 2 (if dCombine d = 2 then within (dRemWidth d) 16 1024 && aligned (dRemWidth d) 16 else decide (dRemWidth d = dWidth d)),
    zeros d 0x54 4, used comp 0x58 8 (within (dRemRows d) 1 16777216),
    used comp 0x60 8 true, used comp 0x68 8 true, used comp 0x70 8 true, zeros d 0x79 7, ck 4 (decide (dOut d ≤ 1024))]

/-- Fields an alias shares with its target (R190), with the lists they point to: the first of the alias's that differs. -/
def aliasCk (x y : List Byte × List Byte) : Option Nat :=
  firstFail ([(2, 1), (4, 2), (0xA, 2), (0x10, 0x38), (0x50, 0x28)].map (fun r => ck r.1 (decide (fieldAt x.1 r.1 r.2 = fieldAt y.1 r.1 r.2)))
    ++ [ck 7 (decide (dHash x.1 = dHash y.1)), ck 0xC (decide (ownersIn x.2 x.1 = ownersIn y.2 y.1))])

/-- A descriptor with its section and the other descriptors of the image: owner list, alias target, planes (R187, R190, R192). -/
def tableImageCk (all : List (List Byte × List Byte)) (t : List Byte × List Byte) : Option Nat :=
  let os := ownersIn t.2 t.1
  firstFail [
    ck 0xC (distinct os && os.all (fun o => decide (o < 16384))),
    if dAlias t.1 then (match all.find? (fun y => dTable y.1 = dAliasOf t.1) with
      | some y => firstFail [ck 8 (!dAlias y.1), aliasCk t y]
      | none => some 8) else none,
    (planeRanges t.1).zip planeFields |>.findSome? (fun r => ck r.2
      (all.all (fun y => decide (storageOf y.1 = storageOf t.1) || (planeRanges y.1).all (apart r.1))))]

/-- Ranges of addresses lie in a tiered range of `pages` pages (R188, R189, R192, R265). -/
def inTiered (pages : Nat) (rs : List (Nat × Nat)) : Bool := rs.all (fun r => decide (r.2 = 0) || decide (r.1 + r.2 ≤ pages * 0x1_0000))

/-- The live and pending versions of a table as the loader compares them with a staged descriptor (R219): a descriptor that
differs from the newest one has a version of its own. -/
def versionFree (s : State) (d : List Byte) : Bool :=
  let x := tableState s (dTable d)
  match x.versions with
  | [] => true
  | v :: _ => v.desc = d
      || (x.versions.all (fun y => decide (dVersion y.desc ≠ dVersion d)) && x.pending.all (fun p => decide (dVersion p.desc ≠ dVersion d)))

/-- A TABLE_DESC section. -/
def tableSecCk (s : State) (x : ImgCtx) (e : SecEnt) : Option Nat :=
  let b := e.bytes
  let n := fieldAt b 0 2
  let lists := fieldAt b 4 4
  let ds := (List.range n).map (fun i => (b.drop (16 + 128 * i)).take 128)
  let all := x.tables
  let each (f : List Byte → Option Nat) : Option Nat := ds.zipIdx.findSome? (fun z => shift (16 + 128 * z.2) (f z.1))
  firstFail [
    ck 0 (within n 1 4096), ck 2 (decide (fieldAt b 2 2 = e.inst)), ck 4 (decide (lists = upTo (16 + 128 * n) 8)), zeros b 8 8,
    zeros b (16 + 128 * n) (lists - (16 + 128 * n)), each tableDescCk,
    ck 16 (decide (((ds.head?.map dTable).getD 4096) = e.inst)),
    (ds.zip (ds.drop 1)).zipIdx.findSome? (fun z => ck (16 + 128 * (z.2 + 1)) (decide (dTable z.1.1 < dTable z.1.2))),
    each (fun d => firstFail [ck 0xC (decide (lists ≤ dOwnerList d)),
      ((planeRanges d).zip planeFields ++ (x.stateRanges d).zip stateFields).findSome? (fun r =>
        ck r.2 (inTiered (fieldAt (x.sec 0xD 0) 0 4) [r.1])),
      tableImageCk all (d, b), ck 0x50 (versionFree s d),
      ck 0 (decide ((all.filter (fun y => dTable y.1 = dTable d)).length = 1))]),
    let used := (ds.map (fun d => dOwnerList d + 2 * dOwn d)).foldl max lists
    ck (min b.length used) (decide (b.length = used))]

/-! ## SORUS_PLAN (R199 to R203) -/

/-- Entries of one SORUS_PLAN section. -/
def sorusEntries (e : SecEnt) : List (List Byte) :=
  let b := e.bytes
  let o := if e.inst = 0 then 16 + upTo (2 * fieldAt b 6 2) 16 else 16
  (List.range (fieldAt b 0 2)).map (fun i => (b.drop (o + 48 * i)).take 48)

def sorusSecCk (x : ImgCtx) (e : SecEnt) : Option Nat :=
  let b := e.bytes
  let n := fieldAt b 0 2
  let ranks := fieldAt b 6 2
  let lists := if e.inst = 0 then upTo (2 * ranks) 16 else 0
  let all := (x.secsOf 5).flatMap sorusEntries
  let z := x.sec 5 0
  firstFail ([
    ck 0 (decide (n ≤ 4096)), ck 2 (within (fieldAt b 2 2) 1 4096 && decide (fieldAt b 2 2 = fieldAt z 2 2)),
    ck 4 (within (fieldAt b 4 2) 1 4095 && decide (fieldAt b 4 2 = fieldAt z 4 2)),
    ck 6 (if e.inst = 0 then within ranks 1 16384 else decide (ranks = 0)),
    ck 6 (decide (fieldAt z 6 2 * fieldAt z 4 2 * fieldAt z 2 2 ≤ 16777216)), zeros b 8 8,
    ck 0 (decide (b.length = 16 + lists + 48 * n))]
    ++ (List.range ranks).map (fun i => ck (16 + 2 * i) (decide (fieldAt b (16 + 2 * i) 2 < 16384)))
    ++ [zeros b (16 + 2 * ranks) (lists - 2 * ranks)]
    ++ (sorusEntries e).zipIdx.map (fun y =>
      let p := y.1
      let d := x.desc (fieldAt p 0 2)
      let room (o : Nat) : Option Nat :=
        ck o (inStore (fieldAt p o 4) ((fieldAt b 2 2 - 1) * fieldAt p 0xC 2 * 64 + 2 * (d.map dOut).getD 0))
      shift (16 + lists + 48 * y.2) (firstFail [
        ck 0 (d.isSome && decide ((all.filter (fun q => fieldAt q 0 2 = fieldAt p 0 2)).length = 1)),
        ck 2 (decide (fieldAt p 2 1 ≤ 31)), zeros p 3 1, room 4, room 8, zeros p 0xE 2, zeros p 0x28 8])))

/-! ## OPTIMISER_PARAMS (R224 to R228, R411 to R414) -/

/-- A sparse record (R225). -/
def sparseRecCk (b : List Byte) (o : Nat) : Option Nat :=
  let algo := fieldAt b (o + 2) 1
  let fl := fieldAt b (o + 3) 1
  firstFail [
    ck o (decide (fieldAt b o 2 < 4096)), ck (o + 2) (decide (algo ≤ 2)), ck (o + 3) (decide (fl ≤ 3) && (decide (algo = 2) || decide (fl ≤ 1))),
    ck (o + 4) (decide (fieldAt b (o + 4) 1 ≤ 31)), zeros b (o + 5) 1, ck (o + 0x10) (fpNonneg b (o + 0x10)),
    if algo = 1 then zeros b (o + 0x14) 4 else ck (o + 0x14) (fpBelow1 b (o + 0x14)),
    if algo = 2 then ck (o + 0x18) (fpBelow1 b (o + 0x18)) else zeros b (o + 0x18) 4,
    if algo = 0 then zeros b (o + 0x1C) 4 else ck (o + 0x1C) (fpPos b (o + 0x1C)),
    ck (o + 0x20) (fpNonneg b (o + 0x20)), ck (o + 0x24) (fpNonneg b (o + 0x24)), zeros b (o + 0x28) 24]

/-- Fields of two records that R226 asks to be equal: the first of the record at `o` that differs. -/
def sameRecord (b : List Byte) (o p : Nat) : Option Nat :=
  firstFail ([(2, 1), (3, 1)].map (fun r => ck (o + r.1) (decide (fieldAt b (o + r.1) r.2 = fieldAt b (p + r.1) r.2)))
    ++ [((b.drop (o + 0x10)).take 48).zip ((b.drop (p + 0x10)).take 48) |>.findIdx? (fun y => y.1 ≠ y.2) |>.map (o + 0x10 + ·)])

def sparseSecCk (x : ImgCtx) (b : List Byte) : Option Nat :=
  let n := fieldAt b 0 2
  let os := (List.range n).map (fun i => 144 + 64 * i)
  let recOf (t : Nat) : Option Nat := os.find? (fun o => decide (fieldAt b o 2 = t))
  firstFail ([
    ck 0 (decide (n ≤ 4096)), ck 2 (decide (fieldAt b 2 2 ≤ 1) && (!bitOf (fieldAt b 2 2) 0 || bitOf x.caps 0xB)),
    ck 4 (within (fieldAt b 4 4) 1 262144), ck 8 (within (fieldAt b 8 4) 1 65536), zeros b 0xC 4]
    ++ (List.range 8).flatMap (fun k =>
      let area (o len : Nat) : Option Nat :=
        ck o (aligned (fieldAt b o 8) 0x1_0000 && inStack k (fieldAt b o 8, fieldAt b len 4 * 0x1_0000))
      [area (0x10 + 8 * k) 4, area (0x50 + 8 * k) 8])
    ++ [ck 0 (decide (b.length = 144 + 64 * n))]
    ++ os.map (sparseRecCk b) ++ os.map (fun o => ck o (x.desc (fieldAt b o 2)).isSome)
    ++ (os.zip (os.drop 1)).map (fun p => ck p.2 (decide (fieldAt b p.1 2 < fieldAt b p.2 2)))
    ++ x.tables.map (fun t => if !dAlias t.1 then none else match recOf (dTable t.1), recOf (dAliasOf t.1) with
      | none, none => none
      | some o, some p => sameRecord b o p
      | some o, none => some o
      | none, some p => some p))

/-- A dense group record (R413). -/
def denseRecCk (b : List Byte) (o : Nat) : Option Nat :=
  let algo := fieldAt b o 1
  let fl := fieldAt b (o + 1) 1
  firstFail [
    ck o (decide (algo = 0 ∨ algo = 2)), ck (o + 1) (decide (fl ≤ 7) && (decide (algo = 2) || !bitOf fl 1)), zeros b (o + 2) 2,
    ck (o + 4) (fpNonneg b (o + 4)), ck (o + 8) (fpBelow1 b (o + 8)),
    if algo = 2 then firstFail [ck (o + 0xC) (fpBelow1 b (o + 0xC)), ck (o + 0x10) (fpPos b (o + 0x10))] else zeros b (o + 0xC) 8,
    ck (o + 0x14) (fpNonneg b (o + 0x14)), zeros b (o + 0x18) 8]

def denseSecCk (b : List Byte) : Option Nat :=
  let g := fieldAt b 0 2
  let p := fieldAt b 2 2
  let ps := (List.range p).map (fun i => 0x20 + 16 * i)
  firstFail ([
    ck 0 (within g 1 256), ck 2 (within p 1 64), ck 4 (decide (fieldAt b 4 1 ≤ 1)), ck 5 (decide (fieldAt b 5 1 ≤ 1)), zeros b 6 2,
    ck 8 (within (fieldAt b 8 4) 1000000 4000000000), ck 0xC (fpNonneg b 0xC), ck 0x10 (decide (fieldAt b 0x10 4 < 2 ^ 20)), zeros b 0x14 12,
    ck 0 (decide (b.length = 0x20 + 16 * p + 32 * g))]
    ++ ps.map (fun o => firstFail [ck o (decide (fieldAt b o 8 < 2 ^ 48)), ck (o + 8) (fpNonneg b (o + 8)), zeros b (o + 0xC) 4])
    ++ (ps.zip (ps.drop 1)).map (fun o => ck o.2 (decide (fieldAt b o.1 8 < fieldAt b o.2 8)))
    ++ (List.range g).map (fun i => denseRecCk b (0x20 + 16 * p + 32 * i)))

def optSecCk (x : ImgCtx) (e : SecEnt) : Option Nat := if e.inst = 0 then denseSecCk e.bytes else sparseSecCk x e.bytes

/-! ## RAU_SHARD_PLAN (R388 to R391) -/

/-- Canonical rank (R395). -/
def canonicalRank (d : Nat) : Nat := memberOf d * 4096 + coord d 0 * 256 + coord d 1 * 16 + coord d 2

/-- IDs of group `g` of a shard section. -/
def shardGroup (b : List Byte) (g : Nat) : Nat × List Nat :=
  let o := fieldAt b (fieldAt b 0x28 4 + 4 * g) 4
  (o, (List.range (fieldAt b o 2)).map (fun i => fieldAt b (o + 8 + 2 * i) 2))

/-- The optimiser of dense group `g` in an image, as far as the layout of R387 depends on it. -/
def imgDenseOpt (x : ImgCtx) (g : Nat) : OptParams :=
  let b := x.sec 0xC 0
  let o := 0x20 + 16 * fieldAt b 2 2 + 32 * g
  { algo := fieldAt b o 1, decoupled := false, biasCorr := false, blockMoments := bitOf (fieldAt b (o + 1) 1) 2,
    lrScale := 0, beta1 := 0, beta2 := 0, eps := 0, decay := 0, clip := 0 }

/-- Region of the block entry at offset `o` (R387). -/
def shardRegion (x : ImgCtx) (b : List Byte) (o : Nat) : Nat × Nat :=
  let n := fieldAt b (o + 8) 4
  (fieldAt b (o + 0x18) 8, 3 * stateSize (imgDenseOpt x (fieldAt b (o + 0x15) 1)) n + 64 * (up64 (4 * n) + 64))

/-- Holders named by the entry at `o`. -/
def shardHolders (b : List Byte) (o : Nat) : List Nat :=
  let r (p : Nat) : List Nat := let w := fieldAt b p 2; if bitOf w 15 then [w % 2 ^ 14] else []
  fieldAt b (o + 0xC) 2 :: (r (o + 0xE) ++ r (o + 0x10))

/-- Bytes the contribution buffer needs for one entry on device `me` (R391). -/
def shardNeed (b : List Byte) (me o : Nat) : Nat :=
  let n := fieldAt b (o + 8) 4
  let ids := (shardGroup b (fieldAt b (o + 0x12) 2)).2
  let p := 2 ^ bitsOf (fieldAt b (o + 0x16) 2) 12 2
  let own := if (shardHolders b o).contains me then 4 * n * ids.length else 0
  let parts := if p = 1 then 0 else
    ((List.range p).map (fun j =>
      let r := partRange ids.length p j
      if ((ids.drop r.1).take (r.2 - r.1)).contains me then 4 * n * (r.2 - r.1) else 0)).sum
  own + parts

def shardEntryCk (x : ImgCtx) (b : List Byte) (o : Nat) : Option Nat :=
  let rep (p : Nat) : Bool := !bitOf (fieldAt b p 2) 14
  let g := fieldAt b (o + 0x12) 2
  let fmt := fieldAt b (o + 0x14) 1
  let t := fieldAt b (o + 0x16) 2
  let reg := shardRegion x b o
  firstFail [
    ck o (decide (fieldAt b o 8 < 2 ^ 40)), ck (o + 8) (within (fieldAt b (o + 8) 4) 1 1048576), ck (o + 0xC) (decide (fieldAt b (o + 0xC) 2 < 2 ^ 14)),
    ck (o + 0xE) (rep (o + 0xE)),
    ck (o + 0x10) (rep (o + 0x10) && (!bitOf (fieldAt b (o + 0x10) 2) 15 || (bitOf (fieldAt b (o + 0xE) 2) 15 && bitOf x.caps 5))),
    ck (o + 0xC) (distinct (shardHolders b o)), ck (o + 0x12) (decide (g < fieldAt b 4 2)), ck (o + 0x14) (within fmt 6 8),
    ck (o + 0x15) (decide (fieldAt b (o + 0x15) 1 < fieldAt (x.sec 0xC 0) 0 2)),
    ck (o + 0x16) (decide (t < 2 ^ 14) && decide (2 ^ bitsOf t 12 2 ≤ (shardGroup b g).2.length)),
    ck (o + 0x18) (aligned reg.1 0x1_0000 && decide (reg.1 + reg.2 ≤ fieldAt b 0x10 8))]

def shardSecCk (x : ImgCtx) (e : SecEnt) : Option Nat :=
  let b := e.bytes
  let n := fieldAt b 0 4
  let g := fieldAt b 4 2
  let groups := (List.range g).map (shardGroup b)
  let os := (List.range n).map (fun i => fieldAt b 0x2C 4 + 32 * i)
  let units (o : Nat) : Option Nat := ck o (aligned (fieldAt b o 8) 0x1_0000)
  firstFail ([
    ck 0 (decide (n ≤ 1048576)), ck 4 (decide (g ≤ 4096)),
    ck 6 (decide (fieldAt b 6 1 ≤ 1) && decide (fieldAt b 6 1 = fieldAt (x.sec 6 0) 6 1) && (decide (fieldAt b 6 1 = 0) || bitOf x.caps 4)),
    zeros b 7 1, units 8, units 0x10, units 0x18, units 0x20, ck 8 (inHbm (fieldAt b 8 8, fieldAt b 0x10 8)), ck 0x2C (aligned (fieldAt b 0x2C 4) 8),
    zeros b 0x30 16,
    coversCk b (fun p => if p.1 = fieldAt b 0x2C 4 then 8 else 1) 0x40
      ((fieldAt b 0x28 4, 4 * g) :: (fieldAt b 0x2C 4, 32 * n) :: groups.map (fun y => (y.1, upTo (8 + 2 * y.2.length) 8)))]
    ++ groups.map (fun y =>
      let ids := y.2.zipIdx
      firstFail ([ck y.1 (within y.2.length 1 16384), zeros b (y.1 + 2) 6]
        ++ ids.map (fun d => ck (y.1 + 8 + 2 * d.2) (decide (d.1 < 2 ^ 14)))
        ++ (ids.zip (ids.drop 1)).map (fun d => ck (y.1 + 8 + 2 * d.2.2) (decide (canonicalRank d.1.1 < canonicalRank d.2.1)))
        ++ [zeros b (y.1 + 8 + 2 * y.2.length) (upTo (2 * y.2.length) 8 - 2 * y.2.length)]))
    ++ os.map (shardEntryCk x b)
    ++ [pairCk (· + 0x18) (fun o p => !(shardHolders b o).any (fun h => (shardHolders b p).contains h) || apart (shardRegion x b o) (shardRegion x b p)) os,
      ck 0x20 (decide ((os.map (shardNeed b x.self)).sum ≤ fieldAt b 0x20 8))])

/-! ## PARITY_GROUPS (R507, R508, R514) -/

/-- Group entries: k and members, with the entry's range. -/
def imgGroups (b : List Byte) : Nat → Nat → List (Nat × List Nat × Nat × Nat)
  | 0, _ => []
  | n + 1, o =>
    let m := fieldAt b (o + 2) 2
    (fieldAt b o 1, (List.range m).map (fun i => fieldAt b (o + 8 + 2 * i) 2), o, upTo (8 + 2 * m) 8)
      :: imgGroups b n (o + upTo (8 + 2 * m) 8)

/-- Parity bytes a group of geometry `k` needs (R511). -/
def parityNeed (x : ImgCtx) (k : Nat) : Nat :=
  ((x.tables.filter (fun t => !dAlias t.1)).map (fun t =>
    let part (rem : Bool) : Nat := (tableRows t.1 rem + k * (k + 1) - 1) / (k * (k + 1)) * (k + 1) * x.rowSize t.1 rem
    part false + part true)).sum

def paritySecCk (x : ImgCtx) (e : SecEnt) : Option Nat :=
  let b := e.bytes
  let n := fieldAt b 0 2
  let gs := imgGroups b n (fieldAt b 4 4)
  let members := gs.flatMap (fun g => g.2.1)
  let owners := (x.tables.flatMap (fun t => ownersIn t.2 t.1)).eraseDups
  let tier := x.sec 0xD 0
  let covered := (List.range (fieldAt tier 0x16 2)).filterMap (fun i =>
    let p := 0x60 + 16 * i
    if bitOf (fieldAt tier (p + 8) 1) 1 then some (fieldAt tier p 4 * 0x1_0000, fieldAt tier (p + 4) 4 * 0x1_0000) else none)
  let planes := (x.tables.filter (fun t => !dAlias t.1)).flatMap (fun t => planeRanges t.1 ++ x.stateRanges t.1)
  let units (o : Nat) : Option Nat := ck o (aligned (fieldAt b o 8) 0x1_0000)
  firstFail ([ck 0 (within n 1 4096), zeros b 2 2, units 8, units 0x10, units 0x18, units 0x20]
    ++ (sectionRegions x 7 0 b).map (fun r => ck r.1 (inHbm r.2))
    ++ [zeros b 0x28 8, coversCk b (fun _ => 8) 0x30 (gs.map (fun g => g.2.2))]
    ++ gs.map (fun g =>
      let o := g.2.2.1
      let m := g.2.1.length
      firstFail ([ck o (within g.1 4 16), zeros b (o + 1) 1, ck (o + 2) (decide (m = g.1 + 2)), zeros b (o + 4) 4]
        ++ g.2.1.zipIdx.map (fun d => ck (o + 8 + 2 * d.2) (decide (d.1 < 2 ^ 14)))
        ++ [pairCk (fun d => o + 8 + 2 * d.2) (fun a c => decide (cliqueOf a.1 ≠ cliqueOf c.1)) g.2.1.zipIdx,
          zeros b (o + 8 + 2 * m) (g.2.2.2 - 8 - 2 * m), ck 0x18 (decide (parityNeed x g.1 ≤ fieldAt b 0x18 8))]))
    ++ [ck 0 (owners.all (fun d => decide ((members.filter (fun y => y = d)).length = 1))),
      ck 0 (covered.all (fun r => rangeCovered planes (planes.length + 1) r.1 (r.1 + r.2)))])

/-! ## SCALE_PLAN (R444 to R447) and JIT eligibility (R451) -/

/-- Bindings of an image. -/
def ImgCtx.bindings (x : ImgCtx) : List (List Byte) :=
  let b := x.sec 8 0
  (List.range (fieldAt b 8 4)).map (fun i => (b.drop (fieldAt b 0xC 4 + 8 * i)).take 8)

def bindKey (p : List Byte) : Nat × Nat × Nat × Nat := (fieldAt p 1 1, fieldAt p 4 2, fieldAt p 0 1, fieldAt p 6 1)

def bindingCk (x : ImgCtx) (b p : List Byte) : Option Nat :=
  let kind := fieldAt p 0 1
  let t := fieldAt p 2 2
  let r := fieldAt p 6 1
  let fmt := fieldAt b (0x20 + 8 * t) 1
  firstFail [
    ck 0 (decide (kind ≤ 3)), ck 1 (decide (fieldAt p 1 1 ≤ 31)), ck 2 (decide (t < fieldAt b 0 2) && decide (fieldAt b (0x22 + 8 * t) 1 = 0)),
    ck 6 (if kind = 0 ∨ kind = 3 then decide (r ≤ 3) else decide (r = 0)), zeros p 7 1,
    match (frondOps (x.sec 1 0) (fieldAt p 1 1))[fieldAt p 4 2]? with
      | none => some 4
      | some o =>
        if kind = 1 ∨ kind = 2 then
          ck 4 (decide (o.kind = 1) && decide (fieldAt o.body (7 + kind) 1 = fmt) && decide (fieldAt o.body (9 + kind) 1 = 0))
        else
          let sh := x.sec 3 (fieldAt o.call 0 2)
          firstFail [ck 4 (o.isSpore || decide (o.kind = 2)), ck 6 (decide (shapeFmt sh r = fmt) && decide (shapeOut sh r = decide (kind = 0)))]]

def scaleSecCk (x : ImgCtx) (e : SecEnt) : Option Nat :=
  let b := e.bytes
  let n := fieldAt b 0 2
  let bo := fieldAt b 0xC 4
  let blocks := (List.range (x.blockCount 0 + x.blockCount 1)).filterMap x.blockAt
  firstFail ([
    ck 0 (decide (n ≤ 4096)), ck 2 (decide (fieldAt b 2 1 ≤ 24)), zeros b 3 1, ck 4 (decide (100 ≤ fieldAt b 4 2)), zeros b 6 2,
    ck 8 (decide (fieldAt b 8 4 ≤ 65536)), ck 0xC (aligned bo 8), zeros b 0x10 16,
    coversCk b (fun _ => 8) 0x20 [(0x20, 8 * n), (bo, 8 * fieldAt b 8 4)]]
    ++ (List.range n).map (fun i =>
      let o := 0x20 + 8 * i
      firstFail [ck o (within (fieldAt b o 1) 6 7), ck (o + 1) (decide (fieldAt b (o + 1) 1 ≤ 7)), ck (o + 2) (decide (fieldAt b (o + 2) 1 ≤ 1)),
        ck (o + 3) (decide (fieldAt b (o + 3) 1 ≠ 0x80)), zeros b (o + 4) 4])
    ++ x.bindings.zipIdx.map (fun p => shift (bo + 8 * p.2) (bindingCk x b p.1))
    ++ [pairCk (fun p => bo + 8 * p.2) (fun p q => decide (bindKey p.1 ≠ bindKey q.1)) x.bindings.zipIdx,
      ck 0 (blocks.all (fun p =>
        let fmt := fieldAt p.1 (p.2 + 0x14) 1
        let t := fieldAt p.1 (p.2 + 0x16) 2 % 4096
        decide (fmt = 8) || (decide (t < n) && decide (fieldAt b (0x20 + 8 * t) 1 = fmt) && decide (fieldAt b (0x22 + 8 * t) 1 = 1))))])

/-- The store range a PRODUCE binding writes. -/
def produceRange (x : ImgCtx) (p : List Byte) : Option (Nat × Nat × Nat) :=
  match (frondOps (x.sec 1 0) (fieldAt p 1 1))[fieldAt p 4 2]? with
  | none => none
  | some o =>
    let g := imgRegion o (fieldAt p 6 1)
    let rows := if o.kind = 2 then fieldAt o.call 2 2 else dRowsM o.body
    let len := if o.kind = 2 then fieldAt o.call 4 2 else dColsN o.body
    some (o.frond, g.1, planeReach rows len 8 g.2.1)

/-- Tensor `t` is JIT-eligible (R451). -/
def jitEligible (x : ImgCtx) (t : Nat) : Bool :=
  let b := x.sec 8 0
  let ps := x.bindings.filter (fun p => fieldAt p 0 1 = 0 && fieldAt p 2 2 = t)
  let ranges := ps.filterMap (produceRange x)
  let moves := x.ops.filter (fun o => o.kind = 3 && decide (2 ≤ fieldAt o.body 0 1) && !bitOf (fieldAt o.body 1 1) 1)
  let drains := ps.filterMap (fun p => match (frondOps (x.sec 1 0) (fieldAt p 1 1))[fieldAt p 4 2]? with
    | some o => if o.kind = 1 then some (o.frond, fieldAt o.body 0x2A 2) else none
    | none => none)
  decide (fieldAt b (0x22 + 8 * t) 1 = 0)
    && moves.all (fun o => ranges.all (fun r => decide (r.1 ≠ o.frond)
        || apart r.2 (fieldAt o.body 8 8, (fieldAt o.body 6 2 - 1) * fieldAt o.body 0x18 2 * 64 + fieldAt o.body 0x14 4)))
    && pairwise (fun p q => decide (p ≠ q)) drains

/-! ## ROUTE_TABLE, COUNTER_PLAN, EVENT_MAP, TIER_POLICY (R478, R643, R644, R617, R308 to R310) -/

/-- A coordinate lies in the extent of a dimension (R478). -/
def inExtent (fab org size c : Nat) : Bool := if size = fab then decide (c < fab) else decide (org ≤ c ∧ c < org + size)

def routeSecCk (x : ImgCtx) (e : SecEnt) : Option Nat :=
  let b := e.bytes
  if e.inst = 0 then firstFail [ck 0 (decide (b.length = 16)), ck 0 (decide (fieldAt b 0 2 < 4096)), zeros b 2 14]
  else
    let dev (d : Nat) : Bool := [0, 1, 2].all (fun k => inExtent (fieldAt b (2 + k) 1) (fieldAt b (5 + k) 1) (fieldAt b (8 + k) 1) (coord d k))
    firstFail ([ck 0 (decide (b.length = 32)), ck 0 (decide (fieldAt b 0 2 < 4096))]
      ++ [0, 1, 2].map (fun k =>
        let f := fieldAt b (2 + k) 1
        let o := fieldAt b (5 + k) 1
        let z := fieldAt b (8 + k) 1
        firstFail [ck (2 + k) (within f 1 16), ck (5 + k) (decide (o ≤ 15) && (decide (z = f) || decide (o + z ≤ f))),
          ck (8 + k) (within z 1 16 && decide (z ≤ f))])
      ++ [ck 0xB (decide (fieldAt b 0xB 1 ≤ 1)), ck 0xC (decide (fieldAt b 0xC 2 < 2 ^ 14) && dev (fieldAt b 0xC 2)),
        ck 0xE (decide (fieldAt b 0xE 2 < 2 ^ 14) && dev (fieldAt b 0xE 2)), zeros b 0x10 16, ck 2 (dev x.self)])

/-- A BAR0 offset names a 64-bit count register (R644). -/
def countReg (o : Nat) : Bool :=
  match regHit o with
  | some h => h.row.isCount && decide (h.start = o) && decide (h.row.w = 64)
  | none => false

def counterSecCk (x : ImgCtx) (b : List Byte) : Option Nat :=
  let n := fieldAt b 0 2
  let mode := fieldAt b 2 1
  let pages := fieldAt b 0x10 4
  firstFail ([
    ck 0 (decide (n ≤ 168)), ck 2 (decide (mode ≤ 2)), zeros b 3 1, ck 4 (decide (fieldAt b 4 4 < 1024) && !bitOf (fieldAt b 4 4) 0),
    ck 8 (aligned (fieldAt b 8 8) 0x1_0000 && decide (fieldAt b 8 8 / 0x1_0000 + pages ≤ fieldAt (x.sec 0xD 0) 0 4)),
    ck 0x10 (if mode = 0 then decide (pages = 0) else within pages 1 4096), zeros b 0x14 12, ck 0 (decide (b.length = 0x20 + 4 * n))]
    ++ (List.range n).map (fun i => ck (0x20 + 4 * i) (countReg (fieldAt b (0x20 + 4 * i) 4))))

def eventSecCk (b : List Byte) : Option Nat :=
  firstFail (ck (min b.length 2560) (decide (b.length = 2560)) :: (chunksOf 8 b).zipIdx.map (fun z =>
    shift (8 * z.2) (firstFail [ck 0 (decide (fieldAt z.1 0 5 < 2 ^ 33)), ck 5 (decide (fieldAt z.1 5 1 ≤ 15)), zeros z.1 6 2])))

def tierSecCk (b : List Byte) : Option Nat :=
  let n := fieldAt b 0x16 2
  let rs := (List.range n).map (fun i => 0x60 + 16 * i)
  firstFail ([
    ck 0 (within (fieldAt b 0 4) 1 268435456), ck 4 (within (fieldAt b 4 1) 1 255), ck 5 (decide (fieldAt b 5 1 < fieldAt b 4 1)),
    ck 7 (decide (fieldAt b 7 1 ≤ 15)), ck 8 (decide (64 ≤ fieldAt b 8 4)), ck 0xC (decide (fieldAt b 8 4 < fieldAt b 0xC 4)), ck 0x16 (decide (n ≤ 1024))]
    ++ (List.range 8).map (fun k =>
      let v := fieldAt b (0x18 + 8 * k) 8
      ck (0x18 + 8 * k) (decide (v < 2 ^ 42) && decide (4096 ≤ bitsOf v 0 21) && decide (bitsOf v 0 21 + bitsOf v 21 21 ≤ 1310720)))
    ++ [zeros b 0x58 8, ck 0x16 (decide (b.length = 0x60 + 16 * n))]
    ++ rs.map (fun o => firstFail [ck (o + 4) (decide (1 ≤ fieldAt b (o + 4) 4) && decide (fieldAt b o 4 + fieldAt b (o + 4) 4 ≤ fieldAt b 0 4)),
        ck (o + 8) (decide (fieldAt b (o + 8) 1 ≤ 7)), zeros b (o + 9) 7])
    ++ (rs.zip (rs.drop 1)).map (fun p => ck p.2 (decide (fieldAt b p.1 4 + fieldAt b (p.1 + 4) 4 ≤ fieldAt b p.2 4))))

/-! ## The image (R31 to R33, R43) -/

/-- Content check of one section (R40, R43, R49, R688): the offset in the section of the failure (R42). -/
def contentCk (s : State) (x : ImgCtx) (e : SecEnt) : Option Nat :=
  firstFail [
    match e.ty with
      | 1 => frondPlanCk x e
      | 2 => queuesCk x e
      | 3 => sporeCk e
      | 4 => tableSecCk s x e
      | 5 => sorusSecCk x e
      | 6 => shardSecCk x e
      | 7 => paritySecCk x e
      | 8 => scaleSecCk x e
      | 9 => routeSecCk x e
      | 0xA => counterSecCk x e.bytes
      | 0xB => eventSecCk e.bytes
      | 0xC => optSecCk x e
      | _ => tierSecCk e.bytes,
    regionsCk x e]

/-- Instances of a section type (R31). -/
def instanceOk (ty inst : Nat) : Bool :=
  match ty with
  | 3 => decide (inst ≤ 511)
  | 4 => decide (inst ≤ 4095)
  | 5 => decide (inst ≤ 7)
  | 6 => decide (inst ≤ 1)
  | 9 => decide (inst ≤ 1)
  | 0xC => decide (inst ≤ 1)
  | _ => decide (inst = 0)

/-- Sections every image holds (R32). -/
def requiredSections : List (Nat × Nat) :=
  [(1, 0), (2, 0), (7, 0), (8, 0), (0xA, 0), (0xB, 0), (0xD, 0)] ++ (List.range 8).map (fun n => (5, n)) ++ [(6, 0), (6, 1), (9, 0), (9, 1)]

/-- Field of section-table entry `e` that R29 to R33 reject: its offset in the entry. `before` are the entries ahead of it in the
table (log 7). -/
def entryFault (e : SecEnt) (before : List SecEnt) (tableEnd bodyEnd : Nat) : Option Nat :=
  if !within e.ty 1 0xD then some 0
  else if e.ver ≠ 1 then some 2
  else if e.pad % 256 ≠ 0 then some 3
  else if e.pad ≠ 0 then some 0xE
  else if !aligned e.off 64 then some 4
  else if e.len = 0 then some 8
  else if e.off < tableEnd ∨ bodyEnd < e.off + e.len then some 4
  else if !instanceOk e.ty e.inst || before.any (fun o => o.ty = e.ty && o.inst = e.inst) then some 0xC
  else if !before.all (fun o => apart (o.off, o.len) (e.off, e.len)) then some 4
  else none

/-- The first section-table entry that R29 to R33 reject and the offset in it; a missing section names no entry. -/
def tableFault (es : List SecEnt) (tableEnd bodyEnd : Nat) : Option (Option (Nat × Nat)) :=
  match (es.zipIdx.filterMap (fun p => (entryFault p.1 (es.take p.2) tableEnd bodyEnd).map (fun o => (p.2, o)))).head? with
  | some r => some (some r)
  | none => if requiredSections.all (fun r => es.any (fun e => e.ty = r.1 && e.inst = r.2)) then none else some none

end Sys2Proof.Machine
end

