-- ==== Sys2Proof/Machine/TierCmds.lean ====
section
/-! DEFINITION. Commands of the tier manager (R273 to R311). -/

namespace Sys2Proof.Machine

/-! ## Heat epochs and the policy (R278, R285, R308, R311) -/

/-- The TIER_POLICY section of the active image (R308, R309). -/
def sectionPolicy (s : State) : Option TierPolicy :=
  match actSec s 0xD 0 with
  | none => none
  | some c =>
    let x := some c
    some ⟨secNum s x 0 4, secNum s x 4 1, secNum s x 5 1, secNum s x 6 1, secNum s x 7 1, secNum s x 8 4, secNum s x 0xC 4,
      secNum s x 0x10 2, secNum s x 0x12 2, secNum s x 0x14 2,
      (List.range 8).map (fun n => let v := secNum s x (0x18 + 8 * n) 8; (bitsOf v 0 21, bitsOf v 21 21)),
      (List.range (secNum s x 0x16 2)).map (fun i =>
        let o := 0x60 + 16 * i
        (secNum s x o 4, secNum s x (o + 4) 4, secNum s x (o + 8) 1))⟩

/-- An expander becomes a source when its bit in exp_mask is set (R273); one whose bit is clear and that holds no page is none. -/
def useExpanders (s : State) : State :=
  match s.tier.policy with
  | none => s
  | some p => forEach (fun s e =>
      let cur := s.tier.sources.getD e.1 {}
      if bitOf p.expMask e.1 then
        if cur.state = 0 then { s with tier := { s.tier with sources := modAt (fun _ => ⟨1, 0, e.2, none⟩) s.tier.sources e.1 } } else s
      else if (pagesIn s e.1).isEmpty then { s with tier := { s.tier with sources := modAt (fun _ => {}) s.tier.sources e.1 } }
      else s) s s.tier.expanders

/-- Discard a page: its migration and what waits to write it end, and it becomes unbacked (R311). -/
def discardPage (s : State) (p : Nat) : State :=
  let cut (w : HeldWrite) : HeldWrite := { w with parts := w.parts.filter (fun q => !meets q.1 q.2.length (p * 0x1_0000) 0x1_0000) }
  let s := dropDemand (dropRequests { s with tier := { s.tier with
    migs := (s.tier.migs.filter (·.page ≠ p)).map (fun (m : Migration) => { m with held := m.held.map cut })
    waitWrites := s.tier.waitWrites.map cut } } p) p
  setPte s p 0

/-- A changed policy takes effect (R311). -/
def applyPolicy (s : State) (p : TierPolicy) : State :=
  let s := { s with tier := { s.tier with policy := some p, policyDue := false } }
  let s := setReg s R.TIER_RANGE (BitVec.ofNat 64 p.rangePages)
  let s := wf s R.TIER_STATUS F.TIER_STATUS_policy_valid 1
  let s := forEach (fun s x => if p.rangePages ≤ x.1 then discardPage s x.1 else s) s (ptPages s)
  let out := (ptPages s).filterMap (fun x => match ptePlace x.2 with
    | some (.t1 n f) => if inPool s n f then none else some x.1
    | _ => none)
  let s := { s with tier := { s.tier with poolMoves := out } }
  pagesMoved (useExpanders s)

/-- The hottest unpinned T1 pages of a stack in the running epoch, at most 64, with their heat (R285). -/
def hottest (s : State) (n : Nat) : List (Nat × Nat) :=
  let ep := heatEpoch s % 256
  let ps := (ptPages s).filterMap (fun x =>
    if pteTier x.2 = 1 ∧ pteStack x.2 = n ∧ !ptePin x.2 then some (effHeat x.2 ep, x.1) else none)
  ((ps.mergeSort (fun a b => decide (b.1 ≤ a.1))).take 64).map (fun x => (x.2, x.1))

/-- The overloaded stacks of the heat epoch that ends, each with the heat to move and its hottest pages (R285). -/
def overloaded (s : State) : List Overload :=
  match s.tier.policy with
  | none => []
  | some p =>
    let total := s.tier.touches.sum
    if p.rebalThr = 0 then []
    else (List.range 8).filterMap (fun n =>
      let t := s.tier.touches.getD n 0
      if total * (16 + p.rebalThr) < t * 128 then some ⟨n, t - total / 8, hottest s n⟩ else none)

/-- HEAT_EPOCH: a heat epoch begins at time `t` (R278, R285, R289, R311). -/
def execHeatEpoch (t : Nat) (s : State) : Host.Outcome State Fault Refusal :=
  let s := advance t s
  let e := s.ft / 1000000
  .next (if e ≤ heatEpoch s then s
  else
    let heavy := overloaded s
    let s := forEach (fun s n => setReg s (R.TIER_STK_TOUCH n) (BitVec.ofNat 64 (s.tier.touches.getD n 0))) s (List.range 8)
    let s := setReg s R.TIER_HEAT_EPOCH (BitVec.ofNat 64 e)
    let s := { s with tier := { s.tier with touches := List.replicate 8 0, abandoned := [], promoted := 0, demoted := 0,
                                            rebalanced := 0, rebal := heavy } }
    if s.tier.policyDue then
      match sectionPolicy s with
      | some p => applyPolicy s p
      | none => s
    else s)

/-! ## The scanner (R280, R283) -/

/-- Visit one page: decay its heat, take its range flags, perhaps select it (R280, R283, R311). -/
def scanPage (s : State) (p : Nat) : State :=
  let e0 := pte s p
  let ep := heatEpoch s % 256
  let e := withFlags s p (setBits (setBits e0 56 8 (effHeat e0 ep)) 48 8 ep)
  let s := setPte s p e
  let s := { s with tier := { s.tier with scanPos := p + 1 } }
  let s := if pteTier e = 2 && pteCovered e0 && !pteCovered e then
      addDemand s p [] else s
  if s.tier.demoting && demotable s p && !s.tier.demoteSel.contains p then
    { s with tier := { s.tier with demoteSel := s.tier.demoteSel ++ [p] } }
  else s

/-- SCAN_VISIT: the scanner visits the next backed page in ascending order, wrapping (R280); a complete scan that did not reach
free_high raises the bound of R283 by 1. -/
def execScanVisit (s : State) : Host.Outcome State Fault Refusal :=
  let ps := ((ptPages s).filter (fun x => pteTier x.2 ≠ 0)).map (·.1)
  .next (match ps.find? (fun p => s.tier.scanPos ≤ p), ps.head? with
  | some p, _ => scanPage s p
  | none, some p =>
    let s := if s.tier.demoting then { s with tier := { s.tier with boundRise := s.tier.boundRise + 1 } } else s
    scanPage s p
  | none, none => s)

/-! ## Starting migrations (R281 to R291) -/

/-- The first page of a list whose migration of a kind may start. -/
def firstStart (s : State) (k : MigKind) (ps : List Nat) : Option Nat := ps.find? (mayStart s k)

/-- PROMOTE: the first queued page that may start is promoted while the free frames exceed free_low (R281, R282, R287). -/
def execPromote (s : State) : Host.Outcome State Fault Refusal :=
  .next (match s.tier.policy with
  | none => s
  | some pol =>
    if freeT1 s ≤ pol.freeLow ∨ pol.promoteBudget ≤ s.tier.promoted then s
    else match firstStart s .promote (s.tier.queue.filter (fun p => pteTier (pte s p) = 2)) with
      | none => s
      | some p => match chooseT1 s (fun _ => true) with
        | none => s
        | some dst =>
          startMig { s with tier := { s.tier with promoted := s.tier.promoted + 1, queue := s.tier.queue.filter (· ≠ p) } }
            .promote p dst [])

/-- DEMOTE: the first selected page that may start is demoted (R283, R284, R287). -/
def execDemote (s : State) : Host.Outcome State Fault Refusal :=
  .next (match s.tier.policy with
  | none => s
  | some pol =>
    if !s.tier.demoting ∨ pol.demoteBudget ≤ s.tier.demoted then s
    else match firstStart s .demote (s.tier.demoteSel.filter (demotable s)) with
      | none => s
      | some p => match chooseT2 s p with
        | none => s
        | some dst => startMig { s with tier := { s.tier with demoted := s.tier.demoted + 1 } } .demote p dst [])

/-- A page still lies unpinned in T1 on a stack. -/
def stillOn (s : State) (n p : Nat) : Bool := decide (pteTier (pte s p) = 1) && decide (pteStack (pte s p) = n) && !ptePin (pte s p)

/-- The move of an overload, with its heat: its hottest page that may go, to another stack (R282, R285). -/
def overloadMove (s : State) (x : Overload) : Option (Nat × Nat × Place) :=
  match x.pages.find? (fun q => stillOn s x.stack q.1 && mayStart s .rebalance q.1), chooseT1 s (fun m => m ≠ x.stack) with
  | some q, some dst => some (q.1, q.2, dst)
  | _, _ => none

/-- What is left of an overload once a page of heat `h` moves: nothing when the moved heat covers the excess. -/
def relieved (x : Overload) (p h : Nat) : List Overload :=
  if h < x.excess then [{ x with excess := x.excess - h, pages := x.pages.filter (fun q => q.1 ≠ p) }] else []

/-- REBALANCE: a page leaves a frame the pools exclude (R311), or the hottest page of an overloaded stack moves (R285). -/
def execRebalance (s : State) : Host.Outcome State Fault Refusal :=
  .next (match s.tier.policy with
  | none => s
  | some pol =>
    if pol.rebalBudget ≤ s.tier.rebalanced then s
    else
      let s1 := { s with tier := { s.tier with rebalanced := s.tier.rebalanced + 1 } }
      match firstStart s .rebalance s.tier.poolMoves with
      | some p => match chooseT1 s (fun m => m ≠ pteStack (pte s p)) with
        | some dst => startMig s1 .rebalance p dst []
        | none => s
      | none => match s.tier.rebal.findSome? (fun x => (overloadMove s x).map (fun m => (x, m))) with
        | none => s
        | some (x, p, h, dst) =>
          startMig { s1 with tier := { s1.tier with rebal := s1.tier.rebal.flatMap (fun y => if y = x then relieved x p h else [y]) } }
            .rebalance p dst [])

/-- DEMAND: the first page asked for is promoted, its critical row first; without a free T1 frame one page is demoted outside
the budget, and without room for that the operation waits (R288, R291, R302). The page stays asked for until it is in T1. -/
def execDemand (s : State) : Host.Outcome State Fault Refusal :=
  .next (match (s.tier.demand.filter (fun d => pteTier (pte s d.1) = 2)).find? (fun d => mayStart s .demand d.1) with
  | none => s
  | some d => match chooseT1 s (fun _ => true) with
    | some dst => startMig s .demand d.1 dst d.2
    | none => match demandVictim s with
      | some v => startMig s .demote v.1 v.2 []
      | none => if s.tier.migs.any (fun m => decide (m.kind = .demote)) then s else tierFull s)

/-- EVACUATE: the first page on a retired frame moves off it (R287, R342). -/
def execEvacuate (s : State) : Host.Outcome State Fault Refusal :=
  .next (match firstStart s .evacuate (s.tier.evacuate.filter (fun p => (anyPlace s p).isSome)) with
  | none => s
  | some p => match anyPlace s p with
    | some dst => startMig s .evacuate p dst []
    | none => s)

/-- REVOKE: the first page of a grant being revoked moves to another frame (R276, R287). -/
def execRevoke (s : State) : Host.Outcome State Fault Refusal :=
  .next (match firstStart s .revoke (((revoking s).flatMap (pagesIn s)).filter (fun p => (revokePlace s p).isSome)) with
  | none => s
  | some p => match revokePlace s p with
    | some dst => startMig s .revoke p dst []
    | none => s)

/-- A lost page whose rows are all in hand takes a frame with their bytes and is ready to flip (R286, R306). -/
def takeRebuilt (s : State) (p : Nat) (dst : Place) : State :=
  let s := zeroPlace s dst
  let s := forEach (fun s x =>
    match findRebuild s (selfId s) ⟨storageOf x.1.desc, x.1.rem, x.1.row⟩ false with
    | none => s
    | some r => setBytes s (placeKey dst + (x.2.1 - p * 0x1_0000)) ((r.acc.drop x.2.2.1).take x.2.2.2)) s (pageRows s p)
  let s := match dst with
    | .t1 _ _ => s
    | .t2 k f => emit s (.peatWrite k f 0 (bytesAt s (placeKey dst) 0x1_0000))
  let m : Migration := ⟨p, .rebuild, none, dst, 3, [], [], s.ft, [], []⟩
  let s := setPte s p (setBits (pte s p) 41 1 1)
  tierPressure (countPlaceWrite { s with tier := { s.tier with migs := s.tier.migs ++ [m] } } dst 0x1_0000)

/-- REBUILD: the first lost page whose rows are all in hand and which finds a frame takes it and is ready to flip; when there is none, the
first whose rows have not all been asked for asks for them; a page that is ready and finds no frame waits (R286, R302, R305, R306,
R521). -/
def execRebuild (s : State) : Host.Outcome State Fault Refusal :=
  let ps := (lostPages s).filter (mayStart s .rebuild)
  .next (match (ps.filter (pageReady s)).findSome? (fun p => (choosePlace s p (pteCovered (pte s p))).map (fun dst => (p, dst))) with
  | some x => takeRebuilt s x.1 x.2
  | none =>
    let s := if ps.any (pageReady s) then tierFull s else s
    match ps.find? (pageUnasked s) with
    | some p => forEach (fun s k => startRebuild s (selfId s) k false) s (pageKeys s p)
    | none => s)

end Sys2Proof.Machine
end

