-- ==== Sys2Proof/Machine/Thallus.lean ====
section
/-! DEFINITION. The thallus loader: verification of an image, staging, epoch switches (R27 to R62, R215, R219). -/

namespace Sys2Proof.Machine

/-! ## Reading an image -/

/-- Entries of the section table of an image, with their content. -/
def imageSecs (img : List Byte) : List SecEnt :=
  let t := fieldAt img 0x20 4
  (List.range (fieldAt img 0xC 2)).map (fun i =>
    let e := (img.drop (t + 16 * i)).take 16
    ⟨fieldAt e 0 2, fieldAt e 2 1, fieldAt e 0xC 2, fieldAt e 4 4, fieldAt e 8 4, fieldAt e 3 1 + 256 * fieldAt e 0xE 2,
      (img.drop (fieldAt e 4 4)).take (fieldAt e 8 4)⟩)

/-- An image beside what of the device its checks look at. -/
def imageCtx (s : State) (img : List Byte) : ImgCtx :=
  ⟨fieldAt img 0x14 4, imageSecs img, selfId s, (reg s R.THL_STORE_BASE).toNat % 2 ^ 48, (reg s R.HST_SPAGE).toNat % 2 ^ 48⟩

/-- Sections by ascending key. -/
def sortSecs (key : SecEnt → Nat) (es : List SecEnt) : List SecEnt :=
  es.foldl (fun acc e => acc.takeWhile (fun z => decide (key z ≤ key e)) ++ e :: acc.dropWhile (fun z => decide (key z ≤ key e))) []

/-- Structural sections (R31). -/
def structuralType (ty : Nat) : Bool := [1, 2, 5, 6, 7, 8].contains ty

/-- The structural digest (R34). -/
def structDigest (img : List Byte) : List Byte :=
  let es := sortSecs (fun e => e.ty <<< 16 + e.inst) (imageSecs img)
  sha384 ((img.drop 0x18).take 8 ++ (es.filter (fun e => structuralType e.ty)).flatMap (·.bytes)
    ++ (es.filter (fun e => e.ty = 3)).flatMap (fun e => e.bytes.take 32))

/-! ## Verification (R40) -/

/-- A failed check: reason, index of the section, byte offset of the item that failed (R42; DESIGN CHOICE, log 7). -/
structure LoadErr where
  reason : Nat
  section_ : Nat := 0x7FF
  offset : Nat
  deriving DecidableEq, Repr

/-- Offset of the header field that a check of R40 up to BAD_HEADER rejects. -/
def headerErr (img : List Byte) : Option Nat :=
  if fieldAt img 0 4 ≠ 0x534C4854 then some 0
  else if fieldAt img 6 2 ≠ 64 then some 6
  else if 1 < fieldAt img 0xE 2 then some 0xE
  else if bitOf (fieldAt img 0x14 4) 0 then some 0x14
  else if fieldAt img 0x28 24 ≠ 0 then some 0x28
  else none

/-- Sections and gaps in the order of their bytes, from byte `at_`: the first that fails, at the byte of it that fails (R42). -/
def walkSections (s : State) (x : ImgCtx) (img : List Byte) (bodyEnd : Nat) : Nat → List SecEnt → Option LoadErr
  | at_, [] => (zeros img at_ (bodyEnd - at_)).map (fun o => { reason := 5, offset := o })
  | at_, e :: es => match zeros img at_ (e.off - at_) with
    | some o => some { reason := 5, offset := o }
    | none => match contentCk s x e with
      | some o =>
        some { reason := 6, section_ := (x.secs.findIdx? (fun y => y.ty = e.ty && y.inst = e.inst)).getD 0x7FF, offset := e.off + o }
      | none => walkSections s x img bodyEnd (e.off + e.len) es

/-- The signature trailer (R36, R37): `t` its 208 bytes, `digest` the closing digest. The reason and the trailer's byte that fails:
BAD_SIGNATURE for its fixed bytes and the signature, BAD_KEY for key_slot and the key (DESIGN CHOICE, log 7). -/
def trailerErr (s : State) (t digest : List Byte) : Option (Nat × Nat) :=
  let slot := fieldAt t 6 1
  let key := (t.drop 8).take 97
  let hash := (List.range 12).flatMap (fun i => leBytes 4 (fuseWord s (8 + 12 * slot + i)))
  if fieldAt t 0 4 ≠ 0x4E474953 then some (9, 0)
  else if fieldAt t 4 2 ≠ 208 then some (9, 4)
  else if fieldAt t 7 1 ≠ 0 then some (9, 7)
  else if fieldAt t 8 1 ≠ 4 then some (9, 8)
  else match zeros t 0x69 7 with
  | some o => some (9, o)
  | none =>
    if 3 < slot ∨ bitOf (fuseWord s 0) (1 + slot) ∨ leVal hash = 0 then some (0xA, 6)
    else if sha384 key ≠ hash then some (0xA, 8)
    else if ecdsaVerify ((key.drop 1).take 48) (key.drop 49) digest ((t.drop 0x70).take 48) ((t.drop 0xA0).take 48) then none
    else some (9, 0x70)

/-- Every required capability is listed and not fused off (R44). -/
def capsHeld (s : State) (req : Nat) : Bool :=
  (setBitsOf 32 req).all (fun n => decide (1 ≤ n) && decide (n ≤ 0xC) && capFused s n)

/-- The checks of an image of length `len` in the order of R40; none when it passes them all. -/
def verifyImage (s : State) (img : List Byte) (len : Nat) : Option LoadErr :=
  let body := fieldAt img 8 4
  let signed := bitOf (fieldAt img 0xE 2) 0
  let need := bitOf (fuseWord s 0) 0
  let tbl := fieldAt img 0x20 4
  let count := fieldAt img 0xC 2
  let bodyEnd := body - 48
  let x := imageCtx s img
  if len < 64 then some { reason := 3, offset := 0 }
  else match headerErr img with
  | some o => some { reason := 1, offset := o }
  | none =>
  if fieldAt img 4 2 = 1 then some { reason := 0xE, offset := 4 }
  else if fieldAt img 4 2 ≠ 2 then some { reason := 2, offset := 4 }
  else if body + (if signed then 208 else 0) ≠ len ∨ 2 ^ 28 < len then some { reason := 3, offset := 8 }
  else if fieldAt img 0x10 2 ≠ 0x9408 then some { reason := 4, offset := 0x10 }
  else if !bitOf (fieldAt img 0x12 2) 0 then some { reason := 4, offset := 0x12 }
  else if count = 0 ∨ 1024 < count then some { reason := 5, offset := 0xC }
  else if tbl % 64 ≠ 0 ∨ tbl < 64 ∨ bodyEnd < tbl + 16 * count then some { reason := 5, offset := 0x20 }
  else match zeros img 64 (tbl - 64) with
  | some o => some { reason := 5, offset := o }
  | none => match tableFault x.secs (tbl + 16 * count) bodyEnd with
    | some (some (i, o)) => some { reason := 5, section_ := i, offset := tbl + 16 * i + o }
    | some none => some { reason := 5, offset := tbl }
    | none =>
      match walkSections s x img bodyEnd (tbl + 16 * count) (sortSecs (·.off) x.secs) with
        | some e => some e
        | none =>
          let digest := (img.drop bodyEnd).take 48
          if sha384 (img.take bodyEnd) ≠ digest then some { reason := 7, offset := bodyEnd }
          else if need && !signed then some { reason := 8, offset := body }
          else match (if signed then trailerErr s ((img.drop body).take 208) digest else none) with
            | some r => some { reason := r.1, offset := body + r.2 }
            | none => if capsHeld s (fieldAt img 0x14 4) then none else some { reason := 0xB, offset := 0x14 }

/-! ## Loading (R38 to R47) -/

/-- Record a rejection (THL_LAST_ERR). -/
def thlErr (s : State) (e : LoadErr) : State :=
  let r := R.THL_LAST_ERR
  wf (wf (wf s r F.THL_LAST_ERR_reason e.reason) r F.THL_LAST_ERR_section e.section_) r F.THL_LAST_ERR_offset e.offset

/-- Record a rejection and complete the command with it. -/
def thlReject (s : State) (i : Nat) (e : LoadErr) : State := rejectCmd (thlErr s e) i e.reason

def switchPending (s : State) : Bool := rb s R.THL_STATUS F.THL_STATUS_switch_pending

/-- Whether the staged structure differs from the active one. -/
def setStructChange (s : State) : State :=
  wf s R.THL_STATUS F.THL_STATUS_struct_change
    (b2n (rb s R.THL_STATUS F.THL_STATUS_staged_valid && decide (s.thl.stagedStruct ≠ s.thl.activeStruct)))

/-- Bytes a load fetches: an image over 256 MiB fails on its header. -/
def loadNeed (len : Nat) : Nat := if len ≤ 2 ^ 28 then len else 64

/-- A LOAD_THALLUS starts (R39, R40, R46): a peer's slot is read by MEM_RD messages of at most 1 MiB. -/
def beginLoad (s : State) (i src len : Nat) : State :=
  if switchPending s then thlReject s i { reason := 0xD, offset := 0 }
  else
    let s := startCmd s i
    let s := wf (wf s R.THL_STATUS F.THL_STATUS_staged_valid 0) R.THL_STATUS F.THL_STATUS_loading 1
    let s := setStructChange { s with thl := { s.thl with load := some ⟨i, src, len, []⟩ } }
    let dst := addrVal src / 2 ^ 48
    let n := loadNeed len
    if addrKind src = 0 then emit (modCmd s i (fun c => { c with fetching := true })) (.hostRead (addrVal src) n)
    else if dst = selfId s then s
    else forEach (fun s k => sendMsgFor s (some i) dst (.memRd (addrVal src % 2 ^ 48 + k * 2 ^ 20) (min (2 ^ 20) (n - k * 2 ^ 20)))) s
      (List.range ((n + 2 ^ 20 - 1) / 2 ^ 20))

/-- Bytes of a peer fetch in the order of their offsets, once all are there. -/
def loadGathered (s : State) (l : LoadRun) : Option (List Byte) :=
  let n := loadNeed l.len
  let base := addrVal l.src % 2 ^ 48
  if addrVal l.src / 2 ^ 48 = selfId s then some (bytesAt s base n)
  else
    let ps := (List.range ((n + 2 ^ 20 - 1) / 2 ^ 20)).map (fun k => (l.got.find? (fun g => g.1 = k * 2 ^ 20)).map (·.2))
    if ps.all (·.isSome) then some (ps.flatMap (·.getD [])) else none

/-- A load fails (R42, R45). -/
def failLoad (s : State) (l : LoadRun) (e : LoadErr) : State :=
  let s := thlErr (endLoad s) e
  finCmd s l.cmd { status := 2, reason := e.reason }

/-- A fetch in progress fails (R45). -/
def failFetch (s : State) : State :=
  match s.thl.load with
  | none => s
  | some l => failLoad s l { reason := 0xC, offset := 0 }

def stagedSlot (s : State) : Nat := 1 - s.thl.activeSlot

/-- Six digest registers from 48 bytes. -/
def setDigest (s : State) (r : Nat → Nat) (d : List Byte) : State :=
  forEach (fun s k => setReg s (r k) (BitVec.ofNat 64 (fieldAt d (8 * k) 8))) s (List.range 6)

/-- Place a verified image in the staged slot (R39, R46). -/
def stageImage (s : State) (l : LoadRun) (img : List Byte) : State :=
  let body := fieldAt img 8 4
  let base := slotBase s (stagedSlot s)
  let s := setBytes (zeroKeys s base 0x1000_0000) base img
  let gen := s.thl.stagedGen + 1
  let s := { endLoad s with thl := { (endLoad s).thl with
      stagedLen := l.len, stagedStruct := structDigest img, stagedGen := gen
      stagedSigned := bitOf (fieldAt img 0xE 2) 0
      stagedKeySlot := if bitOf (fieldAt img 0xE 2) 0 then fieldAt img (body + 6) 1 else 0 } }
  let s := setDigest s R.THL_STAGED_DIGEST ((img.drop (body - 48)).take 48)
  let s := setReg s R.THL_STAGED_STRUCT (BitVec.ofNat 64 (leVal (s.thl.stagedStruct.take 8)))
  let s := wf (wf s R.THL_STATUS F.THL_STATUS_staged_gen gen) R.THL_STATUS F.THL_STATUS_staged_valid 1
  finOk (setStructChange s) l.cmd []

/-- The fetch and the checks of a load end (R41, R46). `image` holds the bytes read from host memory, none after a failed fetch;
`genChanged` says that the generation of the peer's slot is no longer the one at the fetch's start (log 105). -/
def verifyDone (s : State) (image : Option (List Byte)) (genChanged : Bool) : State :=
  match s.thl.load with
  | none => s
  | some l =>
    let s' := modCmd s l.cmd (fun c => { c with fetching := false })
    let finish (img : List Byte) : State := match verifyImage s' img l.len with
      | some e => failLoad s' l e
      | none => stageImage s' l img
    match image with
    | none => if addrKind l.src = 2 && !(genChanged && decide (addrVal l.src / 2 ^ 48 ≠ selfId s)) then (match loadGathered s l with
        | some img => finish img
        | none => failFetch s')
      else failFetch s'
    | some img => if addrKind l.src = 2 ∨ img.length ≠ loadNeed l.len then s else finish img

/-- A MEM_CPL brings bytes of a peer fetch, or its failure (R45, R46). -/
def loadData (s : State) (src addr status : Nat) (bytes : List Byte) : State :=
  match s.thl.load with
  | none => s
  | some l =>
    let base := addrVal l.src % 2 ^ 48
    if addrKind l.src ≠ 2 ∨ addrVal l.src / 2 ^ 48 ≠ src ∨ addr < base ∨ base + loadNeed l.len ≤ addr then s
    else if status ≠ 0 then failFetch s
    else { s with thl := { s.thl with load := some { l with got := (addr - base, bytes) :: l.got } } }

/-- The peer that serves a fetch has been declared lost (R45). -/
def loadPeerLost (s : State) (d : Nat) : State :=
  match s.thl.load with
  | none => s
  | some l => if addrKind l.src = 2 ∧ addrVal l.src / 2 ^ 48 = d then failFetch s else s

/-! ## The switch (R52 to R58) -/

/-- Reason of the first condition of R52 that fails, in the order of its table. -/
def switchErr (s : State) (epoch t pfx : Nat) : Option Nat :=
  if !rb s R.THL_STATUS F.THL_STATUS_staged_valid then some 0xF
  else if (reg s (R.THL_STAGED_DIGEST 0)).toNat ≠ pfx then some 0x10
  else if switchPending s then some 0x11
  else if epoch ≤ rf s R.THL_EPOCH F.THL_EPOCH_epoch ∨ 0xFFFFFFFE < epoch then some 0x12
  else if imageActive s ∧ t < s.ft + rf s R.THL_CTL F.THL_CTL_min_lead * 1024 then some 0x13
  else if s.thl.stagedStruct ≠ s.thl.activeStruct ∧ (s.seq.run.isSome ∨ s.seq.step.isSome) then some 0x14
  else none

/-- The ROUTE_TABLE sections of the active image (R478). -/
def readRoute (s : State) : Option RouteTable :=
  match actSec s 9 0, actSec s 9 1 with
  | some a, some b =>
    let n (o k : Nat) : Nat := secNum s (some b) o k
    some ⟨secNum s (some a) 0 2, n 0 2, [n 2 1, n 3 1, n 4 1], [n 5 1, n 6 1, n 7 1], [n 8 1, n 9 1, n 0xA 1], n 0xB 1,
      n 0xC 2 % 2 ^ 14, n 0xE 2 % 2 ^ 14⟩
  | _, _ => none

/-- The active table enables port `p`; before the first table every port is enabled (R691; DEDUCED, log 8). -/
def portEnabled (s : State) (p : Nat) : Bool :=
  match s.shk.route with
  | none => true
  | some r => bitOf (if p < 12 then r.portEnA else r.portEnB) (p % 12)

/-- A new ROUTE_TABLE takes effect: a flow whose path changes keeps its old one until it is drained (R57, R484), and a port it
does not enable goes DOWN. -/
def applyRoute (s : State) : State :=
  let old := s.shk.route
  let new := readRoute s
  let me := selfId s
  let kept := match old with
    | none => []
    | some o => s.shk.outFlows.filterMap (fun f =>
        let path (rt : Option RouteTable) := pathFrom rt f.plane f.dst 50 me
        if f.unacked.isEmpty || s.shk.oldRoutes.any (fun x => x.1 = f.dst && x.2.1 = f.vc) || path old = path new then none
        else some (f.dst, f.vc, o))
  let before := if old = new then s.shk.oldTable else match s.thl.previous, old with
    | some (e, d, _), some o => some ((e % 256, d % 65536), o)
    | _, _ => none
  let s := { s with shk := { s.shk with route := new, oldRoutes := s.shk.oldRoutes ++ kept, oldTable := before } }
  let s := forEach (fun s die => wf (wf s (R.SHK_STATUS die) F.SHK_STATUS_table_valid 1) (R.SHK_STATUS die) F.SHK_STATUS_mode
      (match new with
        | some r => r.mode
        | none => 0)) s [0, 1]
  relevel (forEach (fun s p => if portEnabled s p || decide (portState s p = 0) then s else portDown s p) s (List.range 24))

/-- The EVENT_MAP is written into EVG_SRC_CFG (R617). -/
def applyEventMap (s : State) : State :=
  let x := actSec s 0xB 0
  evgSettle (forEach (fun s i =>
    let r := R.EVG_SRC_CFG i
    wf (wf s r F.EVG_SRC_CFG_targets (secNum s x (8 * i) 5)) r F.EVG_SRC_CFG_priority (secNum s x (8 * i + 5) 1)) s (List.range 320))

/-- Descriptors of the active image with their owner lists. -/
def imageTables (s : State) : List (List Byte × List Nat) :=
  (secsOf s s.thl.activeSlot 4).flatMap (fun c =>
    let b := bytesAt s c.addr c.len
    (List.range (fieldAt b 0 2)).map (fun i => let d := (b.drop (16 + 128 * i)).take 128; (d, ownersIn b d)))

/-- A descriptor of the new image takes effect (R219). A TABLE_SWAP that has installed its version is not pending any more and goes on to
its completion (DESIGN CHOICE, log 141). -/
def applyDesc (s : State) (x : List Byte × List Nat) : State :=
  let t := tableState s (dTable x.1)
  if (t.versions.head?.map (·.desc)) = some x.1 then s
  else
    let s := match t.pending with
      | some p => rejectCmd (setTable s { t with swapErr := 8 }) p.cmd 8
      | none => s
    let err := if t.pending.isSome then 8 else t.swapErr
    setTable s { t with versions := (⟨x.1, x.2, (s.seq.step.map (· + 1)).getD s.stepCtr, true, false⟩ :: t.versions).take 3, pending := none, swapErr := err }

/-- The active image names a device: in a soredial group, as a holder of a block, or as an owner of a table (R532). -/
def imageNames (s : State) (d : Nat) : Bool :=
  (groups s).any (fun g => g.2.contains d) || (allBlocks s).any (fun e => (e.primary :: e.replicas).contains d)
    || (imageTables s).any (fun t => t.2.contains d)

/-- A re-mapping: the devices that the new image names leave the lost set, and the deputies, the stand-ins and the degraded slots are cleared;
a device it does not name stays lost (R505, R532). -/
def remap (s : State) : State :=
  let left := s.recov.lost.filter (fun l => !imageNames s l.device)
  let stays (d : Nat) : Bool := left.any (fun l => l.device = d)
  let s := forEach (fun s k => setReg s (R.DEV_REC_LOSTMAP k) 0) s (List.range 256)
  let s := forEach (fun s (l : LostDev) =>
    let r := R.DEV_REC_LOSTMAP (l.device / 64)
    setReg s r (reg s r ||| BitVec.ofNat 64 (1 <<< (l.device % 64)))) s left
  { s with
    seq := { s.seq with densePaused := false }
    recov := { s.recov with
      notices := s.recov.notices.filter (fun n => stays n.subject), lost := left, open_ := none, rebuilds := [], rewrites := [], given := []
      spared := [], forwards := [], waitRd := [], shares := [], dones := [], lostRows := [], lostBlocks := [], scrub := none } }

/-- The switch is that of a re-mapping: the image has another structure, or no steps run, as R383 has it (DEDUCED, log 148). -/
def isRemap (s : State) (fresh : Bool) : Bool := fresh || (s.seq.run.isNone && s.seq.step.isNone)

/-- A new structure replaces the job: the step counter counts from 0 again (R101; DEDUCED, log 24), the scale unit starts from its
plan (R431), and nothing of the old blocks and queues is left. -/
def newStructure (s : State) (img : List Byte) : State :=
  let x := imageCtx s img
  let ids := (imageTables s).map (fun t => dTable t.1)
  let s := loadScalePlan s (jitEligible x)
  let s := setReg s R.DEV_REC_STATUS (fset F.DEV_REC_STATUS_failed 0 (rf s R.DEV_REC_STATUS F.DEV_REC_STATUS_failed))
  { s with
    stepCtr := 0
    thl := { s.thl with live := [] }
    rau := {}
    sor := { s.sor with tables := s.sor.tables.filter (fun t => ids.contains t.id) }
    seq := { s.seq with barrier := 0, settled := 0, aborted := [], idleStep := false } }

/-- The staged image becomes active (R56, R57). -/
def applySwitch (s : State) (epoch t : Nat) : State :=
  let fresh := decide (s.thl.stagedStruct ≠ s.thl.activeStruct) || !imageActive s
  let h := s.thl
  let st := R.THL_STATUS
  let prev := if imageActive s then some (rf s R.THL_EPOCH F.THL_EPOCH_epoch, (reg s (R.THL_ACTIVE_DIGEST 0)).toNat, t) else none
  let oldA := (List.range 6).map (fun k => reg s (R.THL_ACTIVE_DIGEST k))
  let s := { s with thl := { h with
      activeSlot := 1 - h.activeSlot, bank := 1 - h.bank, activeLen := h.stagedLen, stagedLen := h.activeLen, activeStruct := h.stagedStruct
      stagedStruct := h.activeStruct, activeGen := h.stagedGen, stagedGen := h.activeGen, switchCmd := none, previous := prev } }
  let s := forEach (fun s k => setReg (setReg s (R.THL_ACTIVE_DIGEST k) (reg s (R.THL_STAGED_DIGEST k)))
      (R.THL_STAGED_DIGEST k) (oldA.getD k 0)) s (List.range 6)
  let os := reg s R.THL_ACTIVE_STRUCT
  let s := setReg (setReg s R.THL_ACTIVE_STRUCT (reg s R.THL_STAGED_STRUCT)) R.THL_STAGED_STRUCT os
  let s := wf (wf (wf s st F.THL_STATUS_staged_valid 0) st F.THL_STATUS_active_valid 1) st F.THL_STATUS_switch_pending 0
  let s := wf (wf s st F.THL_STATUS_active_gen h.stagedGen) st F.THL_STATUS_staged_gen h.activeGen
  let s := wf s st F.THL_STATUS_image_tag (numAt s (slotBase s s.thl.activeSlot + 0x24) 4)
  let s := wf (setStructChange s) R.THL_EPOCH F.THL_EPOCH_epoch epoch
  let sg := R.THL_SIGN_STAT
  let s := wf (wf s sg F.THL_SIGN_STAT_active_signed (b2n h.stagedSigned)) sg F.THL_SIGN_STAT_active_slot h.stagedKeySlot
  let s := tracePush s 5 0xFF epoch 0
  let img := bytesAt s (slotBase s s.thl.activeSlot) s.thl.activeLen
  let again := isRemap s fresh
  let s := if fresh then newStructure s img else s
  let s := if again then remap s else s
  let s := applyEventMap (applyCounterPlan (applyRoute s))
  let s := forEach applyDesc s (imageTables s)
  let s := { s with tier := { s.tier with policyDue := true } }
  match h.switchCmd with
  | some i => finOk s i []
  | none => s

/-- The counter reaches T of the pending switch. -/
def switchNow (s : State) : State :=
  let t := (reg s R.THL_PENDING_TIME).toNat
  if switchPending s && decide (t ≤ s.ft) then applySwitch s (rf s R.THL_PENDING F.THL_PENDING_epoch) t else s

/-- A SWITCH_EPOCH starts (R52, R53, R55). -/
def beginSwitch (s : State) (i epoch t pfx : Nat) : State :=
  match switchErr s epoch t pfx with
  | some r => thlReject s i { reason := r, offset := 0 }
  | none =>
    let s := startCmd s i
    let s := wf (setReg s R.THL_PENDING_TIME (BitVec.ofNat 64 t)) R.THL_PENDING F.THL_PENDING_epoch epoch
    let s := wf s R.THL_STATUS F.THL_STATUS_switch_pending 1
    let s := { s with thl := { s.thl with switchCmd := some i } }
    if imageActive s then s else switchNow s

/-- A BLOCK reset of the loader (R47). -/
def resetLoader (s : State) : State :=
  let s := failFetch s
  let base := slotBase s (stagedSlot s)
  let staged := rb s R.THL_STATUS F.THL_STATUS_staged_valid
  let s := zeroKeys s base 0x1000_0000
  let gen := s.thl.stagedGen + 1
  let s := { s with thl := { s.thl with stagedLen := 0, stagedStruct := [], stagedGen := gen } }
  let s := setReg (setDigest s R.THL_STAGED_DIGEST []) R.THL_STAGED_STRUCT 0
  let s := wf (wf s R.THL_STATUS F.THL_STATUS_staged_valid 0) R.THL_STATUS F.THL_STATUS_staged_gen gen
  let s := setStructChange s
  if switchPending s && staged then
    match s.thl.switchCmd with
    | some i => thlReject (cancelSwitch s) i { reason := 0x15, offset := 0 }
    | none => cancelSwitch s
  else s

end Sys2Proof.Machine
end

