-- ==== Sys2Proof/Machine/Commands.lean ====
section
/-! DEFINITION. The commands of the ring: fetch, acceptance, start, abort (R540 to R567). -/

namespace Sys2Proof.Machine

/-! ## Descriptors (R546, R548) -/

/-- The operand bytes an opcode uses: offset, size. -/
def opFields (opcode : Nat) : List (Nat × Nat) :=
  match opcode with
  | 1 => [(0x10, 8), (0x18, 4)]
  | 2 => [(0x10, 4), (0x18, 8), (0x20, 8)]
  | 3 => [(0x10, 8), (0x18, 8), (0x20, 8), (0x28, 4), (0x2C, 4), (0x30, 8), (0x38, 8)]
  | 4 => [(0x10, 8)]
  | 5 => [(0x10, 8)]
  | 6 => [(0x10, 8), (0x18, 8), (0x20, 8)]
  | 7 => [(0x10, 8), (0x18, 8), (0x20, 1)]
  | 8 => [(0x10, 2), (0x18, 8), (0x20, 8)]
  | 9 => [(0x10, 1), (0x18, 8), (0x20, 8)]
  | 0xA => [(0x10, 1)]
  | 0xC => [(0x10, 8)]
  | 0xD => [(0x10, 8)]
  | 0xE => [(0x10, 1), (0x11, 1), (0x12, 2), (0x14, 1), (0x18, 4), (0x20, 8)]
  | _ => []

/-- The command of a 64-byte descriptor. -/
def readOp (d : List Byte) : CmdOp :=
  let n (o k : Nat) : Nat := fieldAt d o k
  match n 0 1 with
  | 1 => .loadThallus (n 0x10 8) (n 0x18 4)
  | 2 => .switchEpoch (n 0x10 4) (n 0x18 8) (n 0x20 8)
  | 3 => .runSteps (n 0x10 8) (n 0x18 8) (n 0x20 8) (n 0x28 4) (n 0x2C 4) (n 0x30 8) (n 0x38 8)
  | 4 => .stopAtStep (n 0x10 8)
  | 5 => .abort (n 0x10 8)
  | 6 => .ckSave (n 0x10 8) (n 0x18 8) (n 0x20 8)
  | 7 => .ckLoad (n 0x10 8) (n 0x18 8) (n 0x20 1)
  | 8 => .tableSwap (n 0x10 2) (n 0x18 8) (n 0x20 8)
  | 9 => .grantPeat (n 0x10 1) (n 0x18 8) (n 0x20 8)
  | 0xA => .revokePeat (n 0x10 1)
  | 0xB => .fence
  | 0xC => .snapshot (n 0x10 8)
  | 0xD => .freezeAt (n 0x10 8)
  | 0xE => .setScales (n 0x10 1) (n 0x11 1) (n 0x12 2) (n 0x14 1) (n 0x18 4) (n 0x20 8)
  | k => .bad k

/-- Head of a 64-byte descriptor; `pad` is the operand bytes its opcode does not use. -/
def readHead (d : List Byte) : CmdHead :=
  let used := opFields (fieldAt d 0 1)
  let free := (List.range 48).map (fun i => if used.any (fun u => decide (u.1 ≤ 16 + i ∧ 16 + i < u.1 + u.2)) then 0 else d.getD (16 + i) 0)
  ⟨fieldAt d 1 1, fieldAt d 2 2, fieldAt d 4 4, fieldAt d 8 8, leVal free⟩

/-- The head of a descriptor is valid (R546). -/
def headOk (h : CmdHead) : Bool := decide (h.flags ≤ 1) && addrOk h.cntAddr && decide (h.pad = 0)

/-- The operands of a command are valid, whatever the state of the device (R546 to R548, R551, R557). -/
def operandsOk : CmdOp → Bool
  | .loadThallus src _ => decide (addrKind src = 0) || decide (addrKind src = 2)
  | .runSteps _ _ ring slotBytes slots line inDev =>
    decide (addrKind ring = 0) && decide (addrKind line = 0) && decide (addrKind inDev = 1) && addrOk inDev
      && decide (slotBytes ≠ 0) && decide (slotBytes % 4096 = 0) && decide (slots ≠ 0)
  | .ckSave dest _ _ => addrOk dest
  | .ckLoad src len mode => addrOk src && decide (mode ≤ 2) && (decide (mode ≠ 1) || decide (len = 0))
  | .tableSwap t desc _ => decide (t < 4096) && decide (addrKind desc = 1) && addrOk desc
  | .grantPeat slot addr _ => decide (slot ≤ 11) && decide (addrKind addr = 0)
  | .revokePeat slot => decide (slot ≤ 11)
  | .snapshot dest => addrOk dest
  | _ => true

/-! ## Kinds that run one at a time (R549) -/

/-- The class of a command that waits for others of its class. -/
def serialClass : CmdOp → Option Nat
  | .loadThallus _ _ => some 0
  | .ckSave _ _ _ => some 1
  | .ckLoad _ _ m => if m < 2 then some 1 else none
  | _ => none

/-- A command waits while an earlier one of its class is in progress. -/
def mustWait (s : State) (c : Cmd) : Bool :=
  (serialClass c.op).isSome && s.cmd.active.any (fun x => decide (x.index < c.index) && serialClass x.op = serialClass c.op)

/-! ## Starts (R548) -/

/-- A RUN_STEPS is in progress: it has started and not passed the retire point (R548, R549). -/
def stepsRunning (s : State) : Bool := s.cmd.active.any (fun c => c.phase = .running && (match c.op with
  | .runSteps _ _ _ _ _ _ _ => true
  | _ => false))

/-- A RUN_STEPS starts (R54, R548, R551). The order of its checks, and reason 0x14 for one that meets a pending structural switch, are
the model's (DESIGN CHOICE, log 9). -/
def beginRunSteps (s : State) (i first t0 ring slotBytes slots line inDev : Nat) : State :=
  if !imageActive s then rejectCmd s i 0xF4
  else if stepsRunning s then rejectCmd s i 0xF2
  else if switchPending s && rb s R.THL_STATUS F.THL_STATUS_struct_change then rejectCmd s i 0x14
  else if first ≠ s.stepCtr then rejectCmd s i (if first < s.stepCtr then 0xF5 else 0xF1)
  else
    let s := startCmd s i
    let s := emit s (.hostRead (addrVal line) 64)
    { s with seq := { s.seq with
        run := some ⟨i, t0, addrVal ring, slotBytes, slots, addrVal line, addrVal inDev⟩, first := first, supplied := 0, copied := [] } }

/-- A STOP_AT_STEP starts. -/
def beginStop (s : State) (i step : Nat) : State :=
  if !stepsRunning s then rejectCmd s i 0xF1
  else if step < s.seq.settled then rejectCmd s i 0xF5
  else
    let s := startCmd s i
    { s with seq := { s.seq with stops := s.seq.stops ++ [(i, step)] } }

/-- Go on with a CHECKPOINT_SAVE or a LOAD: once every row it reads can be read it writes its bytes or places its entries; until then
the rows that must be rebuilt first are asked for (R305, R524). Bytes past the end of the stream do not exist (R555, R556; DEDUCED,
log 10). -/
def runCheckpoint (s : State) (c : Cmd) : State :=
  match c.op, c.phase, c.fin, c.data with
  | .ckSave dest offset len, .running, none, _ =>
    let s := askRows s (saveMissing s)
    if (saveMissing s).isEmpty then
      let stream := ckStream s
      finOk (cmdWrite s c.index dest ((stream.drop offset).take len)) c.index (leBytes 8 stream.length)
    else s
  | .ckLoad _ _ 0, .running, none, some data =>
    let gs := (ckSegments data).getD []
    let s := askRows s (loadMissing s gs)
    if (loadMissing s gs).isEmpty then
      let y := ckLoadAll s gs
      let t := if y.1.rau.regather.isEmpty then y.1 else publishFirst y.1 y.1.stepCtr
      finOk (ownCommits c.index s.sor.commit.length t) c.index (leBytes 8 y.2.1 ++ leBytes 8 y.2.2)
    else s
  | _, _, _, _ => s

/-- A source in the memory of this device. -/
def srcHere (s : State) (src : Nat) : Bool :=
  decide (addrKind src = 1) || (decide (addrKind src = 2) && decide (addrVal src / 2 ^ 48 = selfId s))

/-- The bytes a CHECKPOINT_LOAD reads: from device memory, or as they came from the host, while its port is up (R564), or a peer; the
reason when there are none. -/
def loadSource (s : State) (src len : Nat) (data : Option (List Byte)) : Except Nat (List Byte) :=
  let a := addrVal src % 2 ^ 48
  if srcHere s src then (if (devRead s a len).isSome then .ok (localBytes s a len) else .error 0xF1)
  else if addrKind src = 0 ∧ !rb s R.HST_STATUS F.HST_STATUS_link_up then .error 0xF6
  else match data with
    | some bs => if bs.length = len then .ok bs else .error 0xF6
    | none => .error 0xF6

/-- The bytes of a LOAD or RESTORE are in (R557); they are kept with the command. -/
def ckData (s : State) (i mode : Nat) : Except Nat (List Byte) → State
  | .error r => finCmd s i { status := 2, reason := r }
  | .ok bs =>
    if (ckSegments bs).isSome then modCmd s i (fun c => { c with data := some bs })
    else
      let lost := decide (mode = 0) && ((ckParse (bs.length / 32 + 1) bs).getD []).any (fun g => g.kind = 1 && !g.good)
      finCmd (if lost then loseScale s else s) i { status := 2, reason := 0xF7 }

/-- A LOAD or RESTORE reads its bytes; those in device memory may keep it waiting (R303, R305, R349). -/
def ckRead (s : State) (i src len mode : Nat) (data : Option (List Byte)) : State :=
  let r := if srcHere s src then localReads s [(addrVal src % 2 ^ 48, len)] else (s, false)
  if r.2 then modCmd r.1 i (fun c => { c with data := none })
  else
    let s := ckData r.1 i mode (loadSource r.1 src len data)
    if mode = 2 ∧ s.seq.step.isNone then runRestores s else s

/-- The loads that wait for their bytes read them, then the checkpoint commands that wait for rows try again. -/
def pumpCheckpoints (s : State) : State :=
  let s := forEach (fun s (c : Cmd) => match c.op, c.phase, c.fin, c.data with
    | .ckLoad src len mode, .running, none, none => ckRead s c.index src len mode none
    | _, _, _, _ => s) s s.cmd.active
  forEach runCheckpoint s s.cmd.active

/-- A CHECKPOINT_SAVE starts (R555). -/
def beginSave (s : State) (i : Nat) : State :=
  if stepsRunning s then rejectCmd s i 0xF3
  else pumpCheckpoints (startCmd s i)

/-- A CHECKPOINT_LOAD starts (R557). -/
def beginCkLoad (s : State) (i src len mode : Nat) (data : Option (List Byte)) : State :=
  if !imageActive s then rejectCmd s i 0xF4
  else if mode ≠ 2 ∧ stepsRunning s then rejectCmd s i 0xF3
  else
    let s := startCmd s i
    if mode = 1 then finOk (resume (ckClear s)) i (List.replicate 16 0)
    else
      let s := ckRead s i src len mode data
      if mode = 0 then pumpCheckpoints s else s

/-- The owner list of a descriptor given by TABLE_SWAP lies in the TABLE_DESC section of the active image that holds its table
(R188; DEDUCED, log 11). -/
def swapSection (s : State) (t : Nat) : List Byte :=
  (((secsOf s s.thl.activeSlot 4).map (fun c => bytesAt s c.addr c.len)).find? (fun b =>
    (List.range (fieldAt b 0 2)).any (fun k => dTable ((b.drop (16 + 128 * k)).take 128) = t))).getD []

/-- The newest descriptors of the device with their sections, but for table `t`. -/
def otherTables (s : State) (t : Nat) : List (List Byte × List Byte) :=
  s.sor.tables.filterMap (fun x => if x.id = t then none else (x.versions.head?).map (fun v => (v.desc, swapSection s x.id)))

/-- The optimiser state of a descriptor's stored or remainder rows on an owner. -/
def stateRange (s : State) (d : List Byte) (rem : Bool) : List (Nat × Nat) :=
  let z := rowZ s d (rowW d rem)
  if rem then (if dComp d then [(dRemState d, dRemRows d * z)] else []) else [(dState d, rowBound d * z)]

/-- Reason of the first condition of R215 that fails. -/
def swapErr (s : State) (t : Nat) (d : Option (List Byte)) (step : Nat) : Option Nat :=
  let x := tableState s t
  let b := swapSection s t
  let fits (d : List Byte) : Bool := decide (dOwnerList d + 2 * dOwn d ≤ b.length)
  if !imageActive s then some 1
  else if x.versions.isEmpty then some 2
  else if x.versions.length ≠ 1 ∨ x.pending.isSome ∨ x.swapCmd.isSome then some 3
  else if step < x.admitted then some 4
  else match d with
    | none => some 5
    | some d =>
      if !((tableDescCk d).isNone && decide (dTable d = t) && fits d && (tableImageCk ((d, b) :: otherTables s t) (d, b)).isNone
          && inTiered (rangePages s) (planeRanges d ++ [false, true].flatMap (stateRange s d))) then some 5
      else if x.versions.any (fun v => dVersion v.desc = dVersion d) then some 6
      else
        let staged := imageSecs (bytesAt s (slotBase s (stagedSlot s)) s.thl.stagedLen)
        let new := (ImgCtx.mk 0 staged 0 0 0).desc t
        if switchPending s && decide (new ≠ (x.versions.head?).map (·.desc)) then some 7 else none

/-- A TABLE_SWAP starts (R215). -/
def beginSwap (s : State) (i t desc step : Nat) : State :=
  let d := devRead s (addrVal desc) 128
  let x := tableState s t
  match swapErr s t d step, d with
  | some r, _ => rejectCmd (setTable s { x with swapErr := r }) i r
  | none, none => s
  | none, some d =>
    let s := startCmd s i
    let s := setTable s { x with pending := some ⟨i, d, ownersIn (swapSection s t) d, step⟩ }
    match s.seq.step with
    | some n => installSwaps s n
    | none => s

/-- A rejected GRANT_PEAT or REVOKE_PEAT (R274, R276). -/
def tierReject (s : State) (i slot r : Nat) : State :=
  rejectCmd (wf (wf s R.TIER_ERR F.TIER_ERR_reason r) R.TIER_ERR F.TIER_ERR_slot slot) i r

/-- A GRANT_PEAT: accepted or rejected at once (R274). -/
def beginGrant (s : State) (i slot addr len : Nat) : State :=
  let src := s.tier.sources.getD (4 + slot) {}
  let others := ((s.tier.sources.drop 4).filter (fun x => x.state ≠ 0)).map (fun x => (x.base, x.frames * 0x1_0000))
  if src.state ≠ 0 then tierReject s i slot 1
  else if addr % 0x1_0000 ≠ 0 ∨ len % 0x1_0000 ≠ 0 ∨ len = 0 ∨ 2 ^ 42 < len then tierReject s i slot 2
  else if others.any (fun r => !apart r (addr, len)) then tierReject s i slot 6
  else if !(rb s R.HST_STATUS F.HST_STATUS_link_up && attached s) then tierReject s i slot 5
  else
    let s := { s with tier := { s.tier with sources := modAt (fun _ => ⟨1, addr, len / 0x1_0000, none⟩) s.tier.sources (4 + slot) } }
    retryWaits (retireAt (startCmd s i) i { status := 0 })

/-- A REVOKE_PEAT starts (R276). A second one of a slot being revoked finds it busy (DESIGN CHOICE, log 9). -/
def beginRevoke (s : State) (i slot : Nat) : State :=
  let k := 4 + slot
  let src := s.tier.sources.getD k {}
  let room := freeT1 s + ((List.range 16).map (fun j => if j = k then 0 else sourceFree s j)).sum
  if src.state = 0 then tierReject s i slot 3
  else if src.state = 2 then rejectCmd s i 0xF2
  else if room < (pagesIn s k).length then tierReject s i slot 4
  else
    let s := startCmd s i
    finishRevokes { s with tier := { s.tier with sources := modAt (fun x => { x with state := 2, revokeCmd := some i }) s.tier.sources k } }

/-- A COUNTER_SNAPSHOT starts and writes its record (R633). -/
def beginSnapshot (s : State) (i dest : Nat) : State :=
  let r := latch (startCmd s i) 3 i
  finOk (cmdWrite r.2 i dest r.1) i []

/-- A FREEZE_AT starts (R634). -/
def beginFreeze (s : State) (i t : Nat) : State :=
  if rb s R.CNT_STATUS F.CNT_STATUS_freeze_pending then rejectCmd s i 0xF2
  else if t ≤ s.ft then rejectCmd s i 0xF1
  else
    let s := wf (setReg (startCmd s i) R.CNT_FREEZE_T (BitVec.ofNat 64 t)) R.CNT_STATUS F.CNT_STATUS_freeze_pending 1
    { s with cnt := { s.cnt with freezeCmd := some i } }

/-- Reason of the first condition of R455 that fails. -/
def scalesErr (s : State) (op l tensor e interval step : Nat) : Option Nat :=
  let arg : Bool := match op with
    | 0 => decide (l ≤ 24)
    | 1 => decide (100 ≤ interval) && decide (interval ≤ 65535)
    | 2 => true
    | 3 => decide (tensor < s.scl.tensors.length) && decide (e ≠ 128)
    | _ => false
  if !imageActive s then some 1
  else if step < s.stepCtr then some 2
  else if !arg then some 3
  else if s.scl.pend.isSome then some 4
  else none

/-- A SET_SCALES starts; it takes effect at once when no barrier is left before step S, or the job has run no step, its step counter
standing at 0 (R101, R455, R456). Where a reduction still runs, the exponents it is to give are published once it has ended. -/
def beginScales (s : State) (i op l tensor e interval step : Nat) : State :=
  match scalesErr s op l tensor e interval step with
  | some r => rejectCmd (wf s R.SCL_ERR F.SCL_ERR_reason r) i r
  | none =>
    let s := startCmd s i
    let p : PendScales := ⟨i, op, l, tensor, toSigned 8 e, interval, step⟩
    if s.stepCtr = 0 ∨ (s.seq.step.isNone ∧ step = s.stepCtr) then
      let s := applySetScales s p
      if s.scl.due.isEmpty then publish s s.stepCtr else s
    else wf { s with scl := { s.scl with pend := some p } } R.SCL_STATUS F.SCL_STATUS_pending 1

/-! ## Abort (R553, R554, R561) -/

/-- The ABORT of a RUN_STEPS (R553). -/
def abortRun (s : State) : State :=
  let s := haltStep s
  let s := match s.seq.step with
    | none => s
    | some n => { s with seq := { s.seq with aborted := n :: s.seq.aborted, idleStep := true } }
  { s with seq := { s.seq with run := none } }

/-- What stopping a running command does beside its completion. -/
def abortEffect (s : State) (c : Cmd) : State :=
  match c.op with
  | .runSteps _ _ _ _ _ _ _ => if s.seq.run.any (fun r => r.cmd = c.index) then abortRun s else s
  | _ => cancelWork s c

/-- A switch that has been applied and a SET_SCALES that has taken effect stand (R55, R456). -/
def stands (c : Cmd) : Bool := c.fin.isSome && (match c.op with
  | .switchEpoch _ _ _ => true
  | .setScales _ _ _ _ _ _ => true
  | _ => false)

/-- The device does no data-plane work of its steps: no list runs and nothing issued is unfinished (R18). -/
def stepsQuiet (s : State) : Bool :=
  (List.range 32).all (fun f => !rb s (R.FRD_PLAN_STATUS f) F.FRD_PLAN_STATUS_running && !issuedWork s f)

/-- A command may arrive at the retire point (R18, R558, R560): its work has ended, that of a RUN_STEPS on every frond, its peer writes are
acknowledged when peer_order asks it, the row commits of its writes are done, and a FENCE finds no command of lower index in progress. -/
def mayRetireCmd (s : State) (c : Cmd) : Bool :=
  c.fin.isSome && !s.cmd.atPoint.contains c.index && !(bitOf c.head.flags 0 && peerOpen s (cmdOpcode c.op = 0xB) c.index)
    && !devOpen s c.index c.wrote
    && (match c.op with
      | .fence => s.cmd.active.all (fun x => decide (c.index ≤ x.index))
      | .runSteps _ _ _ _ _ _ _ => stepsQuiet s
      | _ => true)

/-- A command that has not arrived at the retire point is stopped with a status: it arrives there at once when it had not started (R549),
else once its writes and the work it had issued are done (R18, R553, R558). -/
def stopCmd (s : State) (c : Cmd) (status : Nat) : State :=
  let s := modCmd (abortEffect s c) c.index (fun x => { x with fin := some { status := status }, stopped := true })
  match findCmd s c.index with
  | none => s
  | some x => if x.phase = .waiting || mayRetireCmd s x then retireAt s c.index { status := status } else s

/-- An ABORT meets its target at the retire point (R561). -/
def beginAbort (s : State) (i target : Nat) : State :=
  let s := startCmd s i
  let done (s : State) (o : Nat) : State := retireAt s i { status := 0, outcome := o }
  if target = i ∨ s.cmd.fetched ≤ target then done s 0
  else match findCmd s target with
    | none => done s (if s.cmd.done.contains target then 2 else 0)
    | some c =>
      if c.stopped then done s 1
      else if s.cmd.atPoint.contains target || stands c then done s 2
      else done (stopCmd s c 1) 1

/-! ## Fetch and start (R543, R549) -/

/-- Start a command, or reject it. -/
def beginCmd (s : State) (i : Nat) : State :=
  match findCmd s i with
  | none => s
  | some c =>
    match c.op with
    | .bad _ => rejectCmd s i 0xF0
    | op =>
      if !headOk c.head || !operandsOk op then rejectCmd s i 0xF1
      else match op with
        | .loadThallus src len => beginLoad s i src len
        | .switchEpoch e t p =>
          let s := if (switchErr s e t p).isNone then loadBanks s (stagedSlot s) (1 - s.thl.bank) else s
          beginSwitch s i e t p
        | .runSteps a b c d e f g => beginRunSteps s i a b c d e f g
        | .stopAtStep n => beginStop s i n
        | .abort t => beginAbort s i t
        | .ckSave _ _ _ => beginSave s i
        | .ckLoad src len m => beginCkLoad s i src len m c.data
        | .tableSwap t d n => beginSwap s i t d n
        | .grantPeat k a l => beginGrant s i k a l
        | .revokePeat k => beginRevoke s i k
        | .fence => finOk (startCmd s i) i []
        | .snapshot d => beginSnapshot s i d
        | .freezeAt t => beginFreeze s i t
        | .setScales a b c d e f => beginScales s i a b c d e f
        | .bad _ => s

/-- Commands that waited start when their turn has come, in index order. -/
def startWaiting (s : State) : State :=
  forEach (fun s i => match findCmd s i with
    | some c => if c.phase = .waiting && c.fin.isNone && !mustWait s c then beginCmd s i else s
    | none => s) s (s.cmd.active.map (·.index))

/-- The device may fetch another descriptor (R543, R545). -/
def mayFetch (s : State) : Bool := ringsOn s && decide (s.cmd.active.length + s.cmd.held.length < 256)

/-- The next descriptor is fetched (R540, R543, R549, R550). -/
def fetchCmd (s : State) (h : CmdHead) (op : CmdOp) (data : Option (List Byte)) : State :=
  if !mayFetch s then s
  else
    let i := s.cmd.fetched
    let c : Cmd := { index := i, op := op, head := h, tFetch := s.ft, tStart := s.ft, phase := .waiting, data := data }
    let s := cntAdd { s with cmd := { s.cmd with fetched := (i + 1) % 2 ^ 64, active := s.cmd.active ++ [c] } } 38 64
    let now := (match op with
      | .bad _ => true
      | _ => false) || !headOk h || !operandsOk op || !mustWait s c
    startWaiting (if now then beginCmd s i else s)

/-- Descriptors as read from the ring, oldest first. -/
def fetchAll (s : State) (ds : List Fetched) : State :=
  forEach (fun s d => fetchCmd s (readHead d.desc) (readOp d.desc) d.data) s ds

/-- The control line has been read: cpl_consumed lets records out, and every descriptor up to cmd_produced is fetched
(R541, R542, R545). -/
def readLine (s : State) (produced consumed : Nat) (ds : List Fetched) : State :=
  let s := pumpAll (cntAdd { s with cmd := { s.cmd with cplConsumed := consumed } } 38 64)
  startWaiting (fetchAll s (ds.take (produced - s.cmd.fetched)))

/-- The nonzero timeout of a command has passed at the present time (R550). -/
def timedOut (s : State) (c : Cmd) : Bool :=
  decide (0 < c.head.timeout) && decide (c.tFetch + c.head.timeout * 1000000 ≤ s.ft) && !s.cmd.atPoint.contains c.index && !stands c
    && !c.stopped

/-! ## The step input (R551) -/

/-- The line named by RUN_STEPS is read. -/
def inputSeen (s : State) (supplied : Nat) : State :=
  match s.seq.run with
  | none => s
  | some _ => if rb s R.HST_STATUS F.HST_STATUS_link_up then { s with seq := { s.seq with supplied := supplied } } else s

/-- Step `n`'s slot may be copied: it is supplied, the step has not started, and its half of the buffer is free. -/
def mayCopy (s : State) (n : Nat) : Bool :=
  s.seq.run.isSome && rb s R.HST_STATUS F.HST_STATUS_link_up && decide (n < s.seq.supplied) && decide (s.stepCtr ≤ n)
    && decide (n < s.stepCtr + (if s.seq.step.isSome then 1 else 2)) && !s.seq.copied.contains n
    && !s.seq.admitQ.any (fun m => decide (m % 2 = n % 2))

/-- A slot has been copied into in_dev. -/
def inputCopied (s : State) (n : Nat) (bytes : List Byte) : State :=
  match s.seq.run with
  | none => s
  | some r =>
    if mayCopy s n && decide (bytes.length = r.slotBytes) then
      let s := emit s (.hostRead (r.ring + n % r.slots * r.slotBytes) r.slotBytes)
      let a := r.inDev + n % 2 * r.slotBytes
      let s := match memWrite s a bytes with
        | some s => s
        | none => violation s 3 a (selfId s) true (writeCause s false a bytes.length)
      let s := cntAdd s 38 bytes.length
      syncPage { s with
        seq := { s.seq with copied := (n :: s.seq.copied).take 4 }
        cmd := { s.cmd with inputStep := n } }
    else s

/-! ## Confirmation and the host link (R562 to R567, R690) -/

/-- A flushing read completes: what was written before it is confirmed (R563). -/
def confirmWrites (s : State) : State :=
  match s.cmd.flushes with
  | [] => s
  | f :: rest =>
    let cm := s.cmd
    let sure (k conf unc : Nat) : Nat := max conf (min (conf + unc) (alGet 0 f.2 k))
    let fixC (c : Cmd) : Cmd := let n := sure c.index c.confirmed c.unconf; { c with confirmed := n, unconf := c.confirmed + c.unconf - n }
    let fixR (r : CplRec) : CplRec := let n := sure r.index r.confirmed r.unconf; { r with confirmed := n, unconf := r.confirmed + r.unconf - n }
    let n := f.1 - (cm.cplWritten - cm.unconf.length)
    syncPage { s with cmd := { cm with
      flushes := rest, active := cm.active.map fixC, held := cm.held.map fixR, unconf := (cm.unconf.map fixR).drop n
      cplDurable := cm.cplDurable + min n cm.unconf.length } }

/-- The host link is gone: unconfirmed writes are discarded, a load from host memory fails (R45, R564), grants wait (R303). -/
def loseHostLink (s : State) (reason : Nat) : State :=
  let s := discardUnconfirmed s
  let s := match s.thl.load with
    | some l => if addrKind l.src = 0 then failFetch s else s
    | none => s
  let h := R.HST_STATUS
  let s := wf (wf (wf s h F.HST_STATUS_link_up 0) h F.HST_STATUS_width 0) h F.HST_STATUS_speed 0
  detach (wf s h F.HST_STATUS_cache_up 0) reason

/-- The host link trains to a width of 16, 8, 4, 2 or 1 lanes at a speed of 1 to 6 (R533). -/
def linkForm (width speed : Nat) : Bool := [16, 8, 4, 2, 1].contains width && decide (1 ≤ speed) && decide (speed ≤ 6)

/-- The host link reaches L0 (R562). -/
def hostLinkUp (s : State) (width speed : Nat) (cache : Bool) : State :=
  if s.hst.inReset || !s.hst.perstHigh || !linkForm width speed then s
  else
    let h := R.HST_STATUS
    let s := wf (wf (wf s h F.HST_STATUS_link_up 1) h F.HST_STATUS_width width) h F.HST_STATUS_speed speed
    let s := wf s h F.HST_STATUS_cache_up (b2n cache)
    let s := wf { s with hst := { s.hst with cacheNegotiated := cache }, tier := { s.tier with hostDownSince := none } }
      R.TIER_STATUS F.TIER_STATUS_host_down 0
    resume s

/-- A retrain (R563, R566). -/
def hostRetrain (s : State) : State :=
  if rb s R.HST_STATUS F.HST_STATUS_link_up then
    let s := loseHostLink s 5
    let granted := (s.tier.sources.drop 4).any (fun x => x.state ≠ 0)
    if granted then wf { s with tier := { s.tier with hostDownSince := some s.ft } } R.TIER_STATUS F.TIER_STATUS_host_down 1 else s
  else s

/-- A write of HST_ATTACH.nonce (R690). -/
def attach (s : State) (nonce : Nat) : State :=
  if nonce % 2 ^ 32 = 0 then wf s R.HST_ATTACH F.HST_ATTACH_nonce 0
  else
    let s := wf s R.HST_ATTACH F.HST_ATTACH_nonce nonce
    let s := if attached s then detach s 6 else s
    let ses := (rf s R.HST_ATTACH F.HST_ATTACH_session + 1) % 2 ^ 32
    let s := syncPage { s with cmd := { s.cmd with session := ses } }
    wf (wf s R.HST_ATTACH F.HST_ATTACH_session ses) R.HST_STATUS F.HST_STATUS_attached 1

/-- Note whether the base written into CMD_RING, CMD_CPL or CMD_LINE (`k` 0 to 2) is aligned (R540). -/
def noteBase (s : State) (k v : Nat) : State :=
  let off := if k = 2 then v % 64 else v % 4096
  { s with hst := { s.hst with unaligned := setBits s.hst.unaligned k 1 (b2n (decide (off ≠ 0))) } }

/-- A write of CMD_CFG (R540, R567): enabling the rings sets up the completion ring anew and lets held records into it. -/
def cmdCfgWrite (s : State) (v : Nat) : State :=
  let c := R.CMD_CFG
  let ok (n : Nat) : Bool := decide (6 ≤ n) && decide (n ≤ 16)
  let s := wf (wf s c F.CMD_CFG_ring_log2 (bitsOf v 0 8)) c F.CMD_CFG_cpl_log2 (bitsOf v 8 8)
  if !bitOf v 31 then wf s c F.CMD_CFG_en 0
  else if !(ok (bitsOf v 0 8) && ok (bitsOf v 8 8)) || decide (s.hst.unaligned ≠ 0) then wf (wf s c F.CMD_CFG_en 0) R.CMD_STATUS F.CMD_STATUS_cfg_err 1
  else
    let s := wf (wf s c F.CMD_CFG_en 1) R.CMD_STATUS F.CMD_STATUS_cfg_err 0
    let cm := s.cmd
    pumpAll { s with cmd := { cm with
      cplWritten := 0, cplConsumed := 0, cplDurable := 0, unconf := [], flushes := cm.flushes.map (fun f => (0, f.2)) } }

end Sys2Proof.Machine
end

