-- ==== Sys2Proof/Machine/Pieces.lean ====
section
/-! DEFINITION. Rebuild pieces, deltas at their holder and the parity scrub (R258, R259, R504, R512, R520 to R526). -/

namespace Sys2Proof.Machine

/-! ## Flooding (R504) -/

/-- Send a RECOVERY message once on every UP port, to the neighbour there (R504). -/
def floodMsg (s : State) (m : Message) : State :=
  forEach (fun s p => if portUp s p then sendBy s p (wiredTo s p).1 m else s) s (List.range 24)

/-- Flood a notice; kind 9 is DONE (R506). -/
def flood (s : State) (n : Notice) : State := floodMsg s (if n.kind = 9 then .done n.subject n.origin n.epoch else .notice n)

/-! ## Serving pieces (R521) -/

/-- What a PIECE_RD asks of this device: a parity slot by its stripe (its own, or that of the lost holder it stands in for), a row of a member
it serves, or a row it is the target of. -/
inductive PieceRole where
  | parity (slot : Nat)
  | standIn (holder stripe slot : Nat)
  | data (own row : Nat)
  | target
  deriving DecidableEq, Repr

/-- This device answers a PIECE_RD as the server of a lost member's row (R518): a rebuild's target asks it for what it holds of the stripe
itself, unless the row stands nowhere else since it was lost or restored. -/
def servesRow (s : State) (req subject : Nat) (k : SlotKey) (target holds : Bool) : Bool :=
  decide (subject ≠ selfId s) && (rolesOf s).contains subject && !(holds && decide (req = selfId s))
    && (!target || rowLost s subject k || rowRestored s subject k)

/-- The role of this device for a PIECE_RD that names a row of a subject (R521, R522, R524, R526): its own row when it is the
subject itself or serves it; else what it holds of the stripe of the subject's row. -/
def pieceRole (s : State) (req subject : Nat) (k : SlotKey) : Option PieceRole :=
  match groupOf s subject with
  | none => none
  | some (g, ms, i) =>
    match ms.findIdx? (fun d => d = selfId s) with
    | none => none
    | some me =>
      let x := locate i k.row g
      let q := k.row / (g * (g + 1))
      if me = i then some (.data subject k.row)
      else if servesRow s req subject k (decide (ms.getD x.s 0 = req)) (decide (x.h = me)) then some (.data subject k.row)
      else if x.h = me then some (.parity x.parity)
      else if x.s = me then (if isLost s subject then some .target else some (.standIn (ms.getD x.h 0) q x.spare))
      else some (.data (selfId s) (stripeRow g q x.h x.s me))

/-- A PIECE_RD of this device's own row by the row's parity holder is a scrub's, which needs no FWD copies (R526). -/
def scrubRead (s : State) (req subject : Nat) (k : SlotKey) : Bool :=
  subject = selfId s && (match groupOf s subject with
    | some (g, ms, i) => decide (ms.getD (locate i k.row g).h subject = req)
    | none => false)

/-- The row record of a row of a member this device serves is read, as its parity counts it; none while a commit of the row is not written
(R521 step 3) or the row cannot be read. -/
def pieceData (s : State) (own : Nat) (k : SlotKey) : State × Option (List Byte) :=
  match newestVersion s k.table with
  | none => (s, none)
  | some v =>
    if s.sor.commit.any (fun c => c.own = own && c.table = k.table && c.rem = k.rem && c.row = k.row) then (s, none)
    else takeRow s own v.desc k.rem k.row

/-- Bytes of a row record of a table part. -/
def recordSize (s : State) (k : SlotKey) : Nat :=
  match newestVersion s k.table with
  | none => 0
  | some v => rowSize s v.desc k.rem

/-- A row of this device lies on a lost page and is not rebuilt: as a piece of another missing one it is unavailable too (R305, R527). -/
def rowGoneHere (s : State) (own : Nat) (k : SlotKey) : Bool :=
  own = selfId s && !(findRebuild s own k false).any (·.done)
    && (newestVersion s k.table).any (fun v => rowPagesLost s v.desc k.rem k.row)

/-- Serve a PIECE_RD, or keep it waiting (R521, R524, R526). A STOPPED says that there is no piece: the slot is lost (R527; DESIGN CHOICE,
log 147). -/
def servePiece (s : State) (req subject : Nat) (k : SlotKey) : State :=
  let wait (s : State) : State := { s with recov := { s.recov with waitRd := s.recov.waitRd ++ [(req, subject, k)] } }
  let answer (s : State) (bs : List Byte) : State := sendMsg s req (.piece subject (selfId s) k bs)
  let nothing (s : State) : State := sendMsg s req (.stopped subject (selfId s) k)
  let n := recordSize s k
  match pieceRole s req subject k, groupOf s subject with
  | some (.parity x), some (g, _, _) =>
    let a := parityAddr s g k.table k.rem x
    if rawWaits s a n then wait s
    else addForward (answer (rawRead s a n) (bytesAt s a n)) ⟨selfId s, subject, req, k, { k with row := x }, true⟩
  | some (.standIn h q x), some (g, _, _) =>
    let a := spareAddr s g k.table k.rem x
    if !sparedHere s h { k with row := q } true || rawWaits s a n then wait s
    else addForward (answer (rawRead s a n) (bytesAt s a n)) ⟨h, subject, req, k, { k with row := q }, true⟩
  | some (.data own l), _ =>
    let key : SlotKey := { k with row := l }
    if !rowThere s own key then answer s (List.replicate n 0)
    else if own ≠ selfId s ∧ rowLost s own key then nothing s
    else if rowGoneHere s own key && !scrubRead s req subject k && !rowLost s own key then nothing (loseRow s own key)
    else
      let x := pieceData s own key
      (match x.2 with
      | some bs =>
        let s := answer x.1 bs
        if scrubRead s req subject k then s else addForward s ⟨own, subject, req, k, key, false⟩
      | none => wait x.1)
  | some .target, some (g, _, i) =>
    if sparedHere s subject k false then
      let a := spareAddr s g k.table k.rem (locate i k.row g).spare
      if rawWaits s a n then wait s
      else
        let s := answer (rawRead s a n) (bytesAt s a n)
        if serverOf s subject = some req then s else addForward s ⟨subject, subject, req, k, k, false⟩
    else match findRebuild s subject k false with
      | some r => if r.done then answer s r.acc else wait s
      | none =>
        let s := startRebuild s subject k true
        if (findRebuild s subject k false).isSome then wait s else nothing s
  | _, _ => s

/-- Let the waiting PIECE_RD try again, in order. -/
def serveWaits (s : State) : State :=
  let ws := s.recov.waitRd
  forEach (fun s (w : Nat × Nat × SlotKey) => servePiece s w.1 w.2.1 w.2.2) { s with recov := { s.recov with waitRd := [] } } ws

/-- A STOP ends the FWD copies and is answered STOPPED (R521 step 4). -/
def acceptStop (s : State) (subject req : Nat) (k : SlotKey) : State :=
  let mine (f : Forward) : Bool := f.subject = subject && f.target = req && f.named = k
  let s := { s with recov := { s.recov with forwards := s.recov.forwards.filter (fun f => !mine f) } }
  sendMsg s req (.stopped subject (selfId s) k)

/-! ## Deltas at their holder, and the input queues (R256, R258, R262, R522) -/

/-- The XOR of a record's delta into a parity or spare slot (R258). -/
def xorSlot (s : State) (a : Nat) (bs : List Byte) : State :=
  let s := rawRead s a bs.length
  rawWrite s a (xorBytes (bytesAt s a bs.length) bs)

/-- The slot a record of `own` belongs to on this device as its parity holder; none when this device is not the holder. -/
def heldSlot (s : State) (own : Nat) (r : SorediumRec) : Option (Nat × Nat) :=
  match groupOf s own with
  | none => none
  | some (k, ms, i) =>
    let x := locate i r.row k
    if ms.getD x.h own = selfId s then some (k, x.parity) else none

/-- This device is the spare holder of a row whose parity holder is lost (R522). -/
def standsIn (s : State) (own : Nat) (r : SorediumRec) : Bool :=
  match groupOf s own with
  | none => false
  | some (k, ms, i) =>
    let x := locate i r.row k
    decide (ms.getD x.s own = selfId s) && isLost s (ms.getD x.h own)

/-- The member whose row a record of device `src` is of: of those it serves, the one whose slot for that row this device holds, else
stands in for (R512, R518; DEDUCED, log 121). -/
def recOwner (s : State) (src : Nat) (r : SorediumRec) : Nat :=
  let roles := rolesAt s src
  match roles.find? (fun o => (heldSlot s o r).isSome), roles.find? (fun o => standsIn s o r) with
  | some o, _ => o
  | none, some o => o
  | none, none => src

/-- Copies of a delta applied to a slot of holder `h` go to those that read the slot (R521 step 1). -/
def forwardParity (s : State) (h : Nat) (slot : SlotKey) (r : SorediumRec) : State :=
  forEach (fun s f => sendMsg s f.target (.fwd f.subject (selfId s) { r with row := f.named.row })) s
    (s.recov.forwards.filter (fun f => f.parity && decide (f.owner = h) && f.own = slot))

/-- Apply one record of device `src` at the parity holder, with its FWD copies, or at the stand-in of a lost holder (R258, R521,
R522). -/
def applyDelta (src : Nat) (s : State) (r : SorediumRec) : State :=
  let own := recOwner s src r
  match heldSlot s own r with
  | some (k, x) => forwardParity (xorSlot s (parityAddr s k r.table r.rem x) r.delta) (selfId s) ⟨r.table, r.rem, x⟩ r
  | none =>
    match groupOf s own with
    | none => s
    | some (k, ms, i) =>
      let x := locate i r.row k
      let h := ms.getD x.h own
      let key : SlotKey := ⟨r.table, r.rem, r.row / (k * (k + 1))⟩
      if !standsIn s own r then s
      else if sparedHere s h key true then forwardParity (xorSlot s (spareAddr s k r.table r.rem x.spare) r.delta) h key r
      else match findRebuild s h key true with
        | some p => if p.received.any (fun a => a.1 = own) then modRebuild s h key true (fun p => { p with acc := xorBytes p.acc r.delta }) else s
        | none => s

/-- The slot on this device that a record's delta goes into: the parity slot of its holder, or the spare slot of a stand-in that has
rebuilt it (R258, R522). -/
def deltaSlot (s : State) (own : Nat) (r : SorediumRec) : Option Nat :=
  match groupOf s own, heldSlot s own r with
  | some _, some (k, x) => some (parityAddr s k r.table r.rem x)
  | some (k, ms, i), none =>
    let x := locate i r.row k
    if standsIn s own r && sparedHere s (ms.getD x.h own) ⟨r.table, r.rem, r.row / (k * (k + 1))⟩ true then
      some (spareAddr s k r.table r.rem x.spare) else none
  | none, _ => none

/-- Geometry of a parity slot this device holds: k, members, holder's index, spare holder's index, stripe (R510). -/
def slotGeometry (s : State) : HeldSlot → Option (Nat × List Nat × Nat × Nat × Nat)
  | .own slot => (groupOf s (selfId s)).map (fun (g : Nat × List Nat × Nat) =>
      (g.1, g.2.1, g.2.2, (g.2.2 + slot % (g.1 + 1) + 1) % (g.1 + 2), slot / (g.1 + 1)))
  | .standIn holder stripe => match groupOf s holder with
    | none => none
    | some (k, ms, h) => (ms.findIdx? (fun d => d = selfId s)).map (fun me => (k, ms, h, me, stripe))

/-- Raw HBM address of a parity slot this device holds; a rebuilt one lies in the spare slot (R511, R523). -/
def heldAddr (s : State) (table : Nat) (rem : Bool) (slot : HeldSlot) : Option Nat :=
  match slot, slotGeometry s slot with
  | .own x, some (k, _, _, _, _) => some (parityAddr s k table rem x)
  | .standIn _ q, some (k, _, h, sp, _) => some (spareAddr s k table rem (q * (k + 1) + ((h + (k + 2) - sp) % (k + 2)) - 1))
  | _, none => none

/-- A SOREDIUM message touches the slot under scrub. -/
def scrubHolds (s : State) (m : Soredium) : Bool :=
  match s.recov.scrub with
  | none => false
  | some c => m.recs.any (fun r => (deltaSlot s (recOwner s m.source r) r).isSome
    && deltaSlot s (recOwner s m.source r) r = heldAddr s c.table c.rem c.slot)

/-- A holder applies every record of a message, then acknowledges it to the device that serves its sender's role (R258). -/
def applySoredium (s : State) (m : Soredium) : State :=
  let s := m.recs.foldl (applyDelta m.source) s
  match serverOf s m.source with
  | some d => sendMsg s d (.sorediumAck (selfId s) m.step m.seq)
  | none => s

/-- A SOREDIUM message arrives: held while its slot is under scrub (R526). -/
def acceptSoredium (s : State) (m : Soredium) : State :=
  if scrubHolds s m then
    let up (c : Scrub) : Scrub := { c with held := c.held ++ [(m.source, m)] }
    { s with recov := { s.recov with scrub := s.recov.scrub.map up } }
  else applySoredium s m

/-- The engine that takes a SOREDIUM message in: that of the stack its first record's slot lies in. -/
def sorEngine (s : State) (m : Soredium) : Nat :=
  match m.recs.head? with
  | none => 0
  | some r => match heldSlot s (recOwner s m.source r) r with
    | some (k, x) => (hbmStack (parityAddr s k r.table r.rem x)).getD 0
    | none => 0

/-- A slot of a SOREDIUM message serves no access (R323, R340, R348, R349). -/
def sorWaits (s : State) (m : Soredium) : Bool :=
  m.recs.any (fun r => (deltaSlot s (recOwner s m.source r) r).any (fun a => rawWaits s a r.delta.length))

/-- A SOREDIUM message is taken in, or waits: while its engine is asked to go idle (R262), or a slot of it serves no access. -/
def takeSoredium (s : State) (m : Soredium) : State :=
  if idleAsked s (0x20 + sorEngine s m) || sorWaits s m then queueMsg s (.soredium m) else acceptSoredium s m

/-! ## The parity scrub (R526) -/

/-- The data rows of a parity slot this device holds: owner, row. -/
def slotOwners (s : State) (table : Nat) (rem : Bool) (slot : HeldSlot) : List (Nat × Nat) :=
  match slotGeometry s slot with
  | none => []
  | some (k, ms, h, sp, q) => slotRows s k ms h sp q table rem

/-- The pieces a check asks: each owner's row, a lost owner's of its server; none while one of them is not there (R526, R527). -/
def scrubAsks (s : State) (table : Nat) (rem : Bool) (slot : HeldSlot) : Option (List PieceAsk) :=
  match slotGeometry s slot with
  | none => none
  | some (_, ms, _, sp, _) =>
    let t := ms.getD sp 0
    (slotOwners s table rem slot).mapM (fun o =>
      let key : SlotKey := ⟨table, rem, o.2⟩
      if !isLost s o.1 then some (o.1, o.1, key)
      else if isLost s t || !(s.recov.dones.contains (o.1, t) || (decide (t = selfId s) && sparedHere s o.1 key false)) then none
      else (serverOf s o.1).map (fun d => (d, o.1, key)))

/-- The check ends: FWD copies that began with it end, and the held messages are applied. -/
def endScrub (s : State) : State :=
  match s.recov.scrub with
  | none => s
  | some c =>
    let own := match c.slot with
      | .own _ => true
      | .standIn _ _ => false
    let s := forEach (fun s (a : PieceAsk) => if own && decide (a.1 = a.2.1) then s else sendMsg s a.1 (.stop a.2.1 (selfId s) a.2.2)) s c.asked
    forEach (fun s m => takeSoredium s m.2) { s with recov := { s.recov with scrub := none } } c.held

/-- The data rows are all in: compare, rewrite on a mismatch, release the held deltas (R526); not while the slot serves no access. -/
def finishScrub (s : State) (c : Scrub) : State :=
  match heldAddr s c.table c.rem c.slot with
  | none => endScrub s
  | some a =>
    let n := recordSize s ⟨c.table, c.rem, 0⟩
    let want := (c.acc ++ List.replicate n 0).take n
    if rawWaits s a n then s
    else
      let s := rawRead s a n
      endScrub (if bytesAt s a n = want then s else
        wf (bump (rawWrite s a want) R.DEV_REC_SCRUB_FIX_CNT 1) R.DEV_REC_FLAGS F.DEV_REC_FLAGS_scrub_fix 1)

/-- A check whose data rows are all in ends, once its slot serves. -/
def pumpScrub (s : State) : State :=
  match s.recov.scrub with
  | some c => if c.asked.all (c.received.contains ·) then finishScrub s c else s
  | none => s

/-- This device holds a parity slot: as holder, or as the stand-in that has rebuilt it (R523). -/
def holdsSlot (s : State) (table : Nat) (rem : Bool) : HeldSlot → Bool
  | .own _ => true
  | .standIn h q => isLost s h && sparedHere s h ⟨table, rem, q⟩ true

/-- Begin the check of a slot this device holds; not while a check runs, the scrub is off, or a data row is not there. -/
def beginScrub (s : State) (table : Nat) (slot : HeldSlot) (rem : Bool) : State :=
  let alias_ := (newestVersion s table).any (fun v => dAlias v.desc)
  match scrubAsks s table rem slot with
  | none => s
  | some asks =>
    if rf s R.DEV_REC_CTL F.DEV_REC_CTL_scrub_days = 0 ∨ s.recov.scrub.isSome ∨ alias_ ∨ asks.isEmpty ∨ !holdsSlot s table rem slot then s
    else forEach askPiece { s with recov := { s.recov with scrub := some ⟨table, rem, slot, asks, [], [], []⟩ } } asks

/-- A piece of the slot under scrub arrives. -/
def scrubPiece (s : State) (c : Scrub) (a : PieceAsk) (bs : List Byte) : State :=
  if c.received.contains a then s
  else
    let c := { c with received := c.received ++ [a], acc := xorBytes c.acc bs }
    let s := { s with recov := { s.recov with scrub := some c } }
    if c.asked.all (c.received.contains ·) then finishScrub s c else s

/-- A row of a lost member stands in this device's spare slot and takes the writes of its deputy there (R523; DEDUCED, log 18), once the slot
serves accesses; what reads the row for a rebuild hears of them (R521). -/
def spareWrite (s : State) (subject org : Nat) (d : SorediumRec) : State :=
  match groupOf s subject with
  | some (k, _, i) =>
    let a := spareAddr s k d.table d.rem (locate i d.row k).spare
    if !sparedHere s subject ⟨d.table, d.rem, d.row⟩ false || serverOf s subject ≠ some org then s
    else if rawWaits s a d.delta.length then queueMsg s (.fwd subject org d)
    else forwardDelta (xorSlot s a d.delta) subject d
  | none => s

/-- A FWD arrives (R521): its delta enters the XOR once the sender's piece has. A stand-in takes the deltas of its slot from the
SOREDIUM messages alone (R522). Else it is the write of a deputy to a rebuilt row (R523). -/
def acceptFwd (s : State) (subject org : Nat) (d : SorediumRec) : State :=
  let a : PieceAsk := (org, subject, ⟨d.table, d.rem, d.row⟩)
  let mineR (r : Rebuild) : Bool := !r.parity && r.received.contains a && !r.done && !r.stopped.contains a
  let mineW (r : Rewrite) : Bool := (r.received.contains a && !r.stopped.contains a)
    || (org = selfId s && r.own = subject && decide (r.key = a.2.2) && !r.asked.contains a)
  if s.recov.rebuilds.any mineR || s.recov.rewrites.any mineW then
    { s with recov := { s.recov with
      rebuilds := s.recov.rebuilds.map (fun r => if mineR r then { r with acc := xorBytes r.acc d.delta } else r)
      rewrites := s.recov.rewrites.map (fun r => if mineW r then { r with acc := xorBytes r.acc d.delta } else r) } }
  else spareWrite s subject org d

/-! ## The input queues (R256, R262) -/

/-- The acknowledgement of a SOREDIUM message: the rows it carried are written (R259). -/
def acceptAck (s : State) (step holder seq : Nat) : State :=
  let hit (c : CommitEntry) : Bool := !c.acked && c.step = step && c.holder = some (holder, seq)
  let due := s.sor.commit.filter hit
  let up (c : CommitEntry) : CommitEntry := if hit c then { c with acked := true } else c
  forEach (fun s (c : CommitEntry) => commitPut s c.own ⟨c.row, c.table, c.rem, c.delta⟩ c.parts) { s with sor := { s.sor with commit := s.sor.commit.map up } } due

/-- The acknowledgement is for a commit of a sorus engine that a BLOCK reset holds: none of its work retires then (R584). -/
def ackHeld (s : State) (step holder seq : Nat) : Bool :=
  s.sor.commit.any (fun c => !c.acked && c.step = step && c.holder = some (holder, seq) && engineHeld s c.stack)

/-- An acknowledgement is taken in, or waits for the engine. -/
def offerAck (s : State) (step holder seq : Nat) : State :=
  if ackHeld s step holder seq then queueMsg s (.sorediumAck holder step seq) else acceptAck s step holder seq

/-- A message of the update path is taken in, or waits in its engine's input queue under back-pressure (R256, R262). -/
def takeInput (s : State) (m : Message) : State :=
  let onTable (t : Nat) (g : State → State) : State := if backPressure s (homeOf s t) then queueMsg s m else g s
  match m with
  | .updateReq x => onTable x.table (fun s => acceptUpdate s x)
  | .remGrad x => onTable x.table (fun s => acceptRemGrad s x)
  | .remRow x => onTable x.table (fun s => acceptRemRow s x)
  | .soredium x => takeSoredium s x
  | .lookupRsp x => offerRsp s x
  | .sorediumAck holder step seq => offerAck s step holder seq
  | .fwd subject org r => acceptFwd s subject org r
  | .lookupEnd source step n => if idleAsked s 0x20 then queueMsg s m else acceptEnd s source step n
  | _ => s

/-- Let the messages in the input queues try again, in order (R256, R290, R524). -/
def pumpInput (s : State) : State :=
  let q := s.sor.inq
  forEach takeInput { s with sor := { s.sor with inq := [] } } q

/-- Whatever waited goes on: writes, commits, look-ups, reads, checkpoints, PIECE_RDs, the scrub and the input queues. -/
def resumeAll (s : State) : State := pumpInput (pumpScrub (serveWaits (pumpCheckpoints (resume s))))

/-! ## The target (R521 to R525) -/

/-- Continue the shares whose piece is no longer in flight. -/
def runShares (s : State) : State :=
  forEach (fun s x =>
    if x.next = 0 then runShare flood s x
    else match findRebuild s x.subject ⟨x.table, x.rem, x.next - 1⟩ x.parity with
      | some r => if r.done then runShare flood s x else s
      | none => runShare flood s x) s s.recov.shares

/-- A rebuild is complete (R523): its slot takes the spare slot, when this device is the spare holder and the slot is free; else the
bytes serve the reads that asked, and a lost page takes them from there (R306, R527). -/
def finishRebuild (s : State) (r : Rebuild) : State :=
  let keep (s : State) : State := modRebuild s r.subject r.key r.parity (fun r => { r with done := true })
  let drop (s : State) : State := { s with recov := { s.recov with rebuilds := s.recov.rebuilds.filter (fun x =>
    !(x.subject = r.subject && x.key = r.key && x.parity = r.parity)) } }
  let s :=
    if r.subject = selfId s then keep s
    else match groupOf s r.subject with
      | none => drop s
      | some (g, ms, i) =>
        let me := (ms.findIdx? (fun d => d = selfId s)).getD 0
        let x := locate i r.key.row g
        let q := if r.parity then r.key.row else r.key.row / (g * (g + 1))
        let stripe : Nat × Nat × Nat := if r.parity then (q, i, me) else (q, x.h, x.s)
        if (!r.parity && x.s ≠ me) || spareTaken s r.key.table r.key.rem stripe then keep s
        else
          let slot := if r.parity then q * (g + 1) + ((i + (g + 2) - me) % (g + 2)) - 1 else x.spare
          let a := spareAddr s g r.key.table r.key.rem slot
          let s := (devWrite s a ((r.acc ++ List.replicate (recordSize s r.key) 0).take (recordSize s r.key))).getD s
          let s := { s with recov := { s.recov with spared := s.recov.spared ++ [(r.subject, r.key, r.parity)] } }
          bump (drop s) R.DEV_REC_REBUILT_CNT 1
  resumeAll (runShares s)

/-- Send STOP for every piece (R521 step 4). -/
def sendStops (s : State) (as : List PieceAsk) : State := forEach (fun s a => sendMsg s a.1 (.stop a.2.1 (selfId s) a.2.2)) s as

/-- Ask the owners of the other data rows once the parity is in, or send STOP when every piece is in (R521 steps 2 and 4). -/
def rebuildNext (s : State) (r : Rebuild) : State :=
  if !r.asked.all (r.received.contains ·) then s
  else
    let more := if r.parity then [] else match dataPieces s r.subject r.key with
      | some (_, ds) => ds.filter (fun d => !r.asked.contains d)
      | none => []
    if more.isEmpty then sendStops s r.asked
    else forEach askPiece (modRebuild s r.subject r.key r.parity (fun r => { r with asked := r.asked ++ more })) more

/-- The spare holder of a subject's row. -/
def spareOf (s : State) (subject row : Nat) : Option Nat :=
  (groupOf s subject).map (fun g => g.2.1.getD (locate g.2.2 row g.1).s 0)

/-- A rebuild at this device asks only the row's target, for a degraded read (R524). -/
def readsTarget (s : State) (r : Rebuild) : Bool :=
  !r.parity && isLost s r.subject && (match spareOf s r.subject r.key.row with
    | some t => decide (t ≠ selfId s) && r.asked = [(t, r.subject, r.key)]
    | none => false)

def setRewrite (s : State) (r r' : Rewrite) : State :=
  { s with recov := { s.recov with rewrites := s.recov.rewrites.map (fun x => if x = r then r' else x) } }

/-- A rewrite is over: the copies of its own row's deltas end (R531). -/
def dropRewrite (s : State) (r : Rewrite) : State :=
  { s with recov := { s.recov with
    rewrites := s.recov.rewrites.erase r
    forwards := s.recov.forwards.erase ⟨r.own, r.own, selfId s, r.key, r.key, false⟩ } }

/-- Every STOPPED of a rewrite has come: the XOR is what the parity is off by, and goes to its holder as a delta (R512, R531). -/
def finishRewrite (s : State) (r : Rewrite) : State :=
  let s := dropRewrite s r
  match r.asked.head? with
  | some h => if r.acc.all (· = 0) then s else (sendDelta s h.1 ⟨r.key.row, r.key.table, r.key.rem, r.acc⟩ s.stepCtr).1
  | none => s

/-- A piece of a rewrite is in, with its bytes, or as zeros for a row that is lost still; then STOP when it was the last (R531). -/
def rewritePiece (s : State) (r : Rewrite) (a : PieceAsk) (bs : List Byte) : State :=
  let r' := { r with received := r.received ++ [a], acc := xorBytes r.acc bs }
  let s := setRewrite s r r'
  if r'.asked.all (r'.received.contains ·) then sendStops s r'.asked else s

/-! ## What arrives at the target -/

/-- A PIECE arrives: XORed into the rebuild or rewrite that asked for it (R521, R522, R531), the answer to a degraded read (R524), or a row of
the slot under scrub (R526). -/
def acceptPiece (s : State) (subject org : Nat) (k : SlotKey) (bs : List Byte) : State :=
  let a : PieceAsk := (org, subject, k)
  let s' := bump s R.DEV_REC_PIECE_BYTES bs.length
  match s.recov.rebuilds.find? (fun r => r.asked.contains a && !r.received.contains a && !r.done),
      s.recov.rewrites.find? (fun r => r.asked.contains a && !r.received.contains a), s.recov.scrub with
  | some r, _, _ =>
    let r' := { r with received := r.received ++ [a], acc := xorBytes r.acc bs }
    let s := modRebuild s' r.subject r.key r.parity (fun _ => r')
    if readsTarget s r then
      let s := { s with recov := { s.recov with given := (r.subject, r.key) :: s.recov.given.filter (· ≠ (r.subject, r.key)) } }
      resumeAll (modRebuild s r.subject r.key r.parity (fun r => { r with done := true }))
    else rebuildNext s r'
  | none, some r, _ => rewritePiece s' r a bs
  | none, none, some c => if c.asked.contains a then scrubPiece s' c a bs else s
  | none, none, none => s

/-- A piece of a rebuild is unavailable: the slot is lost (R527), and who asked this target for the row hears of it. -/
def failRebuild (s : State) (r : Rebuild) : State :=
  let mine (w : Nat × Nat × SlotKey) : Bool := !r.parity && w.2.1 = r.subject && decide (w.2.2 = r.key)
  let waits := s.recov.waitRd.filter mine
  let s := { s with recov := { s.recov with
    rebuilds := s.recov.rebuilds.filter (fun x => !(x.subject = r.subject && x.key = r.key && x.parity = r.parity))
    waitRd := s.recov.waitRd.filter (fun w => !mine w) } }
  let s := sendStops s (r.asked.filter (fun a => r.received.contains a && !r.stopped.contains a))
  let s := forEach (fun s (w : Nat × Nat × SlotKey) => sendMsg s w.1 (.stopped w.2.1 (selfId s) w.2.2)) s waits
  resumeAll (runShares (if r.parity then s else loseRow s r.subject r.key))

/-- A STOPPED arrives: the last one completes a rebuild or a rewrite (R521, R523, R531). One that no STOP asked for says that there is no
piece: the slot is lost (R527; DESIGN CHOICE, log 147). -/
def acceptStopped (s : State) (subject org : Nat) (k : SlotKey) : State :=
  let a : PieceAsk := (org, subject, k)
  match s.recov.rebuilds.find? (fun r => r.asked.contains a && !r.done && !r.stopped.contains a),
      s.recov.rewrites.find? (fun r => r.asked.contains a && !r.stopped.contains a) with
  | some r, _ =>
    if !r.received.contains a then failRebuild s r
    else if !r.asked.all (r.received.contains ·) then s
    else
      let r' := { r with stopped := r.stopped ++ [a] }
      let s := modRebuild s r.subject r.key r.parity (fun _ => r')
      if r'.asked.all (r'.stopped.contains ·) then finishRebuild s r' else s
  | none, some r =>
    if !r.received.contains a then
      (if isLost s subject && decide (subject ≠ r.own) then rewritePiece s r a [] else dropRewrite s r)
    else
      let r' := { r with stopped := r.stopped ++ [a] }
      let s := setRewrite s r r'
      if r'.asked.all (r'.stopped.contains ·) then finishRewrite s r' else s
  | none, none =>
    if (rolesOf s).contains subject && decide (subject ≠ selfId s) && decide (spareOf s subject k.row = some org) && decide (org ≠ selfId s) then
      resumeAll (loseRow s subject k)
    else s

/-- A DONE notice is held and flooded on (R504, R525). -/
def acceptDone (s : State) (subject org epoch : Nat) : State :=
  if s.recov.dones.contains (subject, org) then s
  else
    let s := { s with recov := { s.recov with dones := s.recov.dones ++ [(subject, org)] } }
    pumpReqs (floodMsg s (.done subject org epoch))

/-! ## Commits at the owner (R259) -/

/-- A commit whose write has completed: the row is committed (R259). -/
def commitDone (s : State) (c : CommitEntry) : State :=
  let s := { s with sor := { s.sor with commit := s.sor.commit.erase c } }
  let s := bump s (R.SOR_UPD_COMMIT_CNT c.stack) 1
  let home := match storageVersion s c.table c.version with
    | some v => c.rem && decide ((homeRoles s v).contains (v.owners.getD (c.row % dOwn v.desc) 0)) && c.own = homeCopy s v c.row
    | none => false
  let s := match home, storageVersion s c.table c.version with
    | true, some v =>
      if s.sor.remDone.contains (c.table, c.step) then
        let w := dRemWidth v.desc
        let bs := c.parts.flatMap (·.2)
        { s with sor := { s.sor with remOut := s.sor.remOut
          ++ [⟨c.table, c.version, c.step, c.row, bs.take (planeP w), (bs.drop (planeP w)).take (planeE w)⟩] } }
      else s
    | _, _ => s
  settle (serveWaits (pumpReqs (updateUpdStep (endSeries (sendRemRows s)))))

end Sys2Proof.Machine
end

