-- ==== Sys2Proof/Machine/Recover.lean ====
section
/-! DEFINITION. Notices, declared losses, recovery epochs (R493, R501 to R505, R516 to R519, R527 to R529). -/

namespace Sys2Proof.Machine

/-! ## Notices (R501, R502) -/

/-- A device lies in the job's extent (R478). -/
def inJob (r : RouteTable) (d : Nat) : Bool :=
  [0, 1, 2].all (fun k => inExtent (r.fab.getD k 0) (r.org.getD k 0) (r.size.getD k 0) (coord d k))

/-- The neighbours of a device: the clique peers and torus neighbours R477 wires to it, within the job's extent. -/
def neighboursOf (s : State) (d : Nat) : List Nat :=
  match s.shk.route with
  | none => []
  | some r =>
    let peers := (List.range 4).map (withMember d)
    let torus := [0, 1, 2].flatMap (fun k => [hopDev (some r) d (.b k true), hopDev (some r) d (.b k false)])
    ((peers ++ torus).filter (fun x => x ≠ d && inJob r x)).eraseDups

/-- A SILENT notice is standing: no HEARD of its origin and subject is later (R501). -/
def standing (s : State) (n : Notice) : Bool :=
  n.kind = 1 && !s.recov.notices.any (fun h => h.kind = 2 && h.origin = n.origin && h.subject = n.subject && decide (n.time < h.time))

/-- Time of the earliest standing SILENT notice of a neighbour for a subject. -/
def silentFrom (s : State) (subject origin : Nat) : Option Nat :=
  (minBy (fun n => n.time) (s.recov.notices.filter (fun n => n.subject = subject && n.origin = origin && standing s n))).map (·.time)

/-- The latest time of a complete set of standing SILENT notices (R502). -/
def silentSet (s : State) (d : Nat) : Option Nat :=
  match (neighboursOf s d).filter (fun x => !isLost s x) with
  | [] => none
  | x :: xs => ((x :: xs).mapM (silentFrom s d)).map (fun ts => ts.foldl max 0)

/-- The earliest LOST notice held for a device. -/
def lostNotice (s : State) (d : Nat) : Option Notice :=
  minBy (fun n => n.time) (s.recov.notices.filter (fun n => n.kind = 3 && n.subject = d))

/-- t_d as the notices held give it (R502). -/
def declTime (s : State) (d : Nat) : Option Nat :=
  match silentSet s d, (lostNotice s d).map (·.time) with
  | some a, some b => some (min a b)
  | some a, none => some a
  | none, b => b

/-- The reason a LOST notice about a device of the lost set carries (R503). -/
def lostReason (s : State) (d : Nat) : Nat := ((lostNotice s d).map (·.reason)).getD 0x10

/-! ## What a declaration does (R517) -/

/-- Flows from and to a lost device are forgotten; their messages are abandoned and counted (R485), and UPDATE_REQs among them as dropped
contributions (R519). -/
def forgetFlows (s : State) (d : Nat) : State :=
  let s := forEach (fun s (f : FlowOut) => bump s (R.SHK_ABANDON_CNT f.die) (f.unacked.length + f.waiting.length)) s
    (s.shk.outFlows.filter (fun f => f.dst = d))
  let s := forEach (fun s (m : OutMsg) => match m.msg with
    | .updateReq u => countLateUpd s (homeOf s u.table) 1
    | _ => s) s ((s.shk.outFlows.filter (fun f => f.dst = d)).flatMap (fun f => f.unacked ++ f.waiting))
  acksIn { s with shk := { s.shk with
      outFlows := s.shk.outFlows.filter (fun f => f.dst ≠ d)
      inFlows := s.shk.inFlows.filter (fun f => f.src ≠ d)
      oldRoutes := s.shk.oldRoutes.filter (fun o => o.1 ≠ d) } }

/-- Flows whose path crosses a lost device send their unacknowledged messages again (R485). -/
def resendAround (s : State) (d : Nat) : State :=
  forEach (fun s (f : FlowOut) =>
    if (pathFrom (flowRoute s f.dst f.vc) f.plane f.dst 50 (selfId s)).contains d then flowResend s f.dst f.vc else s) s s.shk.outFlows

/-- Deltas to a lost parity holder go to its stand-in, or their rows are written without one (R517, R522). -/
def redirectDeltas (s : State) (d : Nat) : State :=
  let hit (c : CommitEntry) : Bool := !c.acked && (match c.holder with
    | some h => decide (h.1 = d)
    | none => false)
  forEach (fun s (c : CommitEntry) =>
    let set (s : State) (n : CommitEntry) : State :=
      { s with sor := { s.sor with commit := s.sor.commit.map (fun x => if x = c then n else x) } }
    match parityDest s c.own c.row with
    | none => commitPut (set s { c with acked := true, holder := none }) c.own ⟨c.row, c.table, c.rem, c.delta⟩ c.parts
    | some dst =>
      let x := sendDelta s dst ⟨c.row, c.table, c.rem, c.delta⟩ c.step
      set x.1 { c with holder := some (dst, x.2) }) s (s.sor.commit.filter hit)

/-- Rebuilds that still needed a lost device start again from the pieces that are left (R521, R527), and rewrites of parity likewise. -/
def restartRebuilds (s : State) (d : Nat) : State :=
  let needs (asked stopped : List PieceAsk) : Bool := asked.any (fun a => decide (a.1 = d) && !stopped.contains a)
  let hit (r : Rebuild) : Bool := !r.done && needs r.asked r.stopped
  let hitW (r : Rewrite) : Bool := needs r.asked r.stopped
  let rs := s.recov.rebuilds.filter hit
  let ws := s.recov.rewrites.filter hitW
  let s := ws.foldl dropRewrite { s with recov := { s.recov with rebuilds := s.recov.rebuilds.filter (fun r => !hit r) } }
  let s := forEach (fun s (r : Rebuild) =>
    if r.parity then startParityRebuild s r.subject r.key.table r.key.rem r.key.row else startRebuild s r.subject r.key r.demand) s rs
  let s := forEach (fun s (r : Rewrite) => match newestVersion s r.key.table with
    | some v => startRewrite s r.own r.key ((readRow s r.own v.desc r.key.rem r.key.row).getD [])
    | none => s) s ws
  runShares s

/-- What this device owed a lost device as a piece source or holder ends. -/
def dropRequester (s : State) (d : Nat) : State :=
  { s with recov := { s.recov with
      forwards := s.recov.forwards.filter (fun f => f.target ≠ d)
      waitRd := s.recov.waitRd.filter (fun w => w.1 ≠ d) } }

/-- The dense work of a clique with a lost member stops on the others (R520). -/
def pauseDense (s : State) (d : Nat) : State :=
  if cliqueOf d ≠ cliqueOf (selfId s) ∨ s.seq.densePaused then s
  else
    let s := if s.seq.step.isSome then haltStep s else s
    { s with seq := { s.seq with densePaused := true } }

/-- Remainder merges that waited only for a lost owner (R251). -/
def pumpRem (s : State) : State :=
  forEach (fun s (x : Nat × Nat × Nat) =>
    match rowVersion s x.1 x.2.1 with
    | some v => if remGradsIn s v x.2.2 && !s.sor.remDone.contains (x.1, x.2.2) then sendRemRows (mergeRem s v x.2.2) else s
    | none => s) s ((s.sor.remGrads.map (fun m => (m.table, m.version, m.step))).eraseDups)

/-- The actions at the declaration of `d` (R517, R520 to R522). -/
def lossActions (s : State) (d : Nat) : State :=
  let s := resendAround (forgetFlows s d) d
  let s := cancelExpected s (fun x => x.src = d)
  let s := redirectDeltas (dropRequester (pauseDense s d) d) d
  let s := match s.recov.scrub with
    | some c => if c.asked.any (fun a => decide (a.1 = d) || decide (a.2.1 = d)) then endScrub s else s
    | none => s
  let s := loadPeerLost (restartRebuilds s d) d
  let s := forEach (fun s e => compareDigests s e []) (advanceBlocks s) (allBlocks s)
  let s := pumpScales (barrierAdvance 4 s)
  settle (pumpReqs (pumpRem (relevel s)))

/-! ## The commit of a recovery epoch (R517 to R519, R527, R529) -/

/-- A row of a lost member and another piece of its stripe are unavailable as far as this device knows (R527). -/
def slotGone (s : State) (k : Nat) (ms : List Nat) (i : Nat) (key : SlotKey) : Bool :=
  let x := locate i key.row k
  let q := key.row / (k * (k + 1))
  let t := ms.getD x.s 0
  let at_ (m : Nat) : SlotKey := { key with row := stripeRow k q x.h x.s m }
  pieceGone s (ms.getD i 0) t key false && (pieceGone s (ms.getD x.h 0) t { key with row := q } true
    || (dataMembers k x.h x.s).any (fun m => m ≠ i && rowThere s (ms.getD m 0) (at_ m) && pieceGone s (ms.getD m 0) t (at_ m) false))

/-- Ascending rows of one residue class as runs: first row, number. -/
def rowRuns (stride : Nat) : List Nat → List (Nat × Nat)
  | [] => []
  | l :: ls => match rowRuns stride ls with
    | (f, n) :: rs => if l + stride = f then (l, n + 1) :: rs else (l, 1) :: (f, n) :: rs
    | [] => [(l, 1)]

/-- The rows of one residue class of a member's table part that are lost. -/
def findLostClass (d k : Nat) (ms : List Nat) (i n : Nat) (s : State) (key : SlotKey) : State :=
  let stride := k * (k + 1)
  let ls := (List.range ((n - key.row + stride - 1) / stride)).map (fun j => key.row + j * stride)
  forEach (fun s (r : Nat × Nat) => loseRows s d { key with row := r.1 } stride r.2) s
    (rowRuns stride (ls.filter (fun l => slotGone s k ms i { key with row := l })))

/-- The deputy of a lost member finds its lost rows (R527, R529). -/
def findLostRows (s : State) (d : Nat) : State :=
  match groupOf s d with
  | none => s
  | some (k, ms, i) =>
    forEach (fun s (t : Nat × List Byte) =>
      if !((newestVersion s t.1).map (fun v => v.owners.contains d)).getD false then s
      else forEach (fun s rem => forEach (findLostClass d k ms i (partRows t.2 rem)) s
        ((List.range (k * (k + 1))).map (fun r => (⟨t.1, rem, r⟩ : SlotKey)))) s [false, true]) s (storageTables s)

/-- Blocks whose holders are all lost keep their last parameters; the surviving member of the lost primary's clique with the
lowest index reports each (R419, R529, R531; DEDUCED, log 14). -/
def loseBlocks (s : State) (d : Nat) : State :=
  let mates := ((List.range 4).map (withMember d)).filter (fun x => !isLost s x)
  forEach (fun s (e : BlockEntry) =>
    if !(e.primary :: e.replicas).contains d || !(liveHolders s e).isEmpty || s.recov.lostBlocks.contains e.block then s
    else
      let s := { s with recov := { s.recov with lostBlocks := insertAsc e.block s.recov.lostBlocks } }
      let s := if mates.head? = some (selfId s) then rollbackRecord s 2 2 0 0 e.block 0 1 (s.stepCtr - 1) 0 else s
      setParamBits s e.block) s (allBlocks s)

/-- Look-up requests that wait for the answer of a lost device, owner or deputy, or for a device to serve their owner's rows, go to the
one that serves them now (R221, R518, R528). -/
def resendLookups (s : State) (d : Nat) : State :=
  let due (r : BatchReq) : Bool := !r.answered && (r.sent.isNone || r.sent = some d)
  let again (r : BatchReq) : BatchReq := if due r then { r with sent := serverOf s r.dst } else r
  let rs := (s.sor.batches.flatMap (·.reqs)).filter due
  forEach (fun s (r : BatchReq) => sendReq s r.dst r.msg)
    { s with sor := { s.sor with batches := s.sor.batches.map (fun b => { b with reqs := b.reqs.map again }) } } rs

/-- Actions for one lost device at the commit. -/
def commitDevice (s : State) (l : LostDev) : State :=
  let s := pumpEnds (resendLookups (loseBlocks (promoteBlocks s l.device l.step) l.device) l.device)
  match groupOf s l.device with
  | some (_, ms, _) =>
    if ms.contains (selfId s) then
      let x : Share := ⟨l.device, 0, false, false, 0⟩
      runShare flood { s with recov := { s.recov with shares := s.recov.shares ++ [x] } } x
    else s
  | none => s

/-- Commit lost devices: deputies and new primaries take over, lost rows are found, the rebuild starts (R517). -/
def commitDevices (s : State) (ds : List LostDev) : State :=
  let due (l : LostDev) : Bool := ds.any (fun x => x.device = l.device)
  let s := { s with recov := { s.recov with
      lost := s.recov.lost.map (fun (l : LostDev) => if due l then { l with committed := true } else l) } }
  let mine := (rolesOf s).filter (fun d => d ≠ selfId s)
  let s := forEach findLostRows s mine
  let s := forEach commitDevice s ds
  settle (pumpReqs (pumpRem (advanceBlocks s)))

/-- The open epoch commits (R516). -/
def commitEpoch (s : State) : State :=
  match s.recov.open_ with
  | none => s
  | some (_, t) =>
    let ds := s.recov.lost.filter (fun l => !l.committed)
    commitDevices { s with recov := { s.recov with open_ := none, lastCommit := t } } ds

/-- The open epoch commits when its time has come (R516). -/
def commitDue (s : State) : State :=
  match s.recov.open_ with
  | some (_, t) => if t ≤ s.ft then commitEpoch s else s
  | none => s

/-! ## Declaring (R502, R516) -/

/-- The epoch number and t_commit as DEV_REC_EPOCH reports them. -/
def setEpoch (s : State) (n t : Nat) : State :=
  let s := { s with recov := { s.recov with open_ := some (n, t) } }
  wf (wf s R.DEV_REC_EPOCH F.DEV_REC_EPOCH_epoch n) R.DEV_REC_EPOCH F.DEV_REC_EPOCH_commit (t % 2 ^ 32)

/-- t_commit follows the earliest declaration time of the open epoch (R516). -/
def refreshEpoch (s : State) : State :=
  match s.recov.open_, minBy (fun (l : LostDev) => l.td) (s.recov.lost.filter (fun l => !l.committed)) with
  | some (n, _), some l => setEpoch s n (l.td + 200000)
  | _, _ => s

/-- A notice applied after its epoch's commit time (R516). -/
def countLate (s : State) : State := wf (bump s R.DEV_REC_LATE_CNT 1) R.DEV_REC_FLAGS F.DEV_REC_FLAGS_late 1

/-- A declaration at or after the commit time of the open epoch finds it committed (R516). -/
def commitBefore (s : State) (td : Nat) : State :=
  match s.recov.open_ with
  | some (_, t) => if t ≤ td then commitEpoch s else s
  | none => s

/-- Declare a device lost with t_d (R502, R505, R516, R517). -/
def declare (s : State) (d td : Nat) : State :=
  let s := commitBefore s td
  let l : LostDev := ⟨d, td, lostReason s d, s.stepCtr, false⟩
  let s := { s with recov := { s.recov with lost := s.recov.lost ++ [l] } }
  let s := setReg s (R.DEV_REC_LOSTMAP (d / 64)) (reg s (R.DEV_REC_LOSTMAP (d / 64)) ||| BitVec.ofNat 64 (1 <<< (d % 64)))
  let s := flagEvent s R.DEV_REC_FLAGS F.DEV_REC_FLAGS_lost (rb s R.DEV_REC_CTL F.DEV_REC_CTL_lost_event_en) 142
  let n := rf s R.DEV_REC_EPOCH F.DEV_REC_EPOCH_epoch
  let late := decide (td < s.recov.lastCommit)
  let s := if late then s else match s.recov.open_ with
    | none => setEpoch s ((n + 1) % 2 ^ 32) (td + 200000)
    | some _ => refreshEpoch s
  let s := tracePush (cntAdd s 22 1) 6 0xFF (rf s R.DEV_REC_EPOCH F.DEV_REC_EPOCH_epoch) d
  let s := lossActions s d
  if late then commitDevices (countLate s) [l] else s

/-- Declare every device the notices held declare (fuel: devices named). -/
def declareDue : Nat → State → State
  | 0, s => s
  | k + 1, s =>
    let due := ((s.recov.notices.map (·.subject)).filter (fun d => d ≠ selfId s && !isLost s d)).findSome?
      (fun d => (declTime s d).map (fun t => (d, t)))
    match due with
    | none => s
    | some (d, t) => declareDue k (declare s d t)

/-- An earlier time lowers t_d until the commit (R502). -/
def lowerTd (s : State) (d : Nat) : State :=
  let up (l : LostDev) : LostDev :=
    if l.device = d ∧ !l.committed then { l with td := min l.td ((declTime s d).getD l.td), reason := lostReason s d } else l
  refreshEpoch { s with recov := { s.recov with lost := s.recov.lost.map up } }

/-- A new notice: stored, flooded on, and acted on (R498, R501 to R504, R516). -/
def acceptNotice (s : State) (n : Notice) : State :=
  if n.kind = 0 ∨ 3 < n.kind then s
  else if s.recov.notices.any (fun x => x.kind = n.kind && x.origin = n.origin && x.subject = n.subject && x.time = n.time) then s
  else
    let s := flood { s with recov := { s.recov with notices := s.recov.notices ++ [n] } } n
    if n.subject = selfId s then (if n.kind = 3 then enterFailed s 5 else s)
    else
      let s := commitDue s
      let s := if lostCommitted s n.subject then countLate s else if isLost s n.subject then lowerTd s n.subject else s
      commitDue (declareDue ((s.recov.notices.map (·.subject)).eraseDups.length) s)

/-- This device creates a notice (R501, R503). -/
def raiseNotice (s : State) (kind subject time reason : Nat) : State :=
  acceptNotice s ⟨kind, subject, selfId s, rf s R.DEV_REC_EPOCH F.DEV_REC_EPOCH_epoch, time, reason⟩

end Sys2Proof.Machine
end

