-- ==== Sys2Proof/Machine/Landing.lean ====
section
/-! DEFINITION. Routed frames: forwarding (R479 to R483), tag checks (R58, R59, R492), the landing buffers (R486 to R488), ERROR and
E2E_ACK frames (R490 to R493). -/

namespace Sys2Proof.Machine

/-! ## Sending ERROR and E2E_ACK frames (R465, R490, R491) -/

/-- The link die of a port. -/
def dieOf (p : Nat) : Nat := p / 12

/-- A frame is discarded for want of a way on: counted and flagged on a die (R483). -/
def countNoRoute (s : State) (die : Nat) : State :=
  flagEvent (bump s (R.SHK_NOROUTE_CNT die) 1) (R.SHK_FLAGS die) F.SHK_FLAGS_noroute (rb s (R.SHK_CTL die) F.SHK_CTL_route_event_en) (137 + die)

/-- The active tags: low bits of the epoch and of the digest prefix, 0 without an active image (R51, R492). -/
def activeTags (s : State) : Nat × Nat :=
  (rf s R.THL_EPOCH F.THL_EPOCH_epoch % 256, (reg s (R.THL_ACTIVE_DIGEST 0)).toNat % 65536)

/-- Send a control frame on virtual channel 3; it belongs to no flow and takes the plane R482 gives (DEDUCED, log 16). -/
def sendControl (s : State) (dst : Nat) (mk : Hdr → Frame) : State :=
  if dst = selfId s then s
  else match choosePlane s { dst := dst, vc := 3 } with
    | none => countNoRoute s 0
    | some p => match outPort s s.shk.route p (selfId s) dst with
      | none => countNoRoute s 0
      | some (h, q) =>
        let dl := hopWraps s.shk.route (selfId s) h
        let tags := activeTags s
        portEnqueue s q (9 + hopClass (selfId s) dst dl h) (mk ⟨0, 0, 0, tags.2, tags.1, dl, p, 3, selfId s, dst⟩)

/-- Send an ERROR about a frame to its source (R491). -/
def sendError (s : State) (code : Nat) (h : Hdr) : State := sendControl s h.src (fun c => .error c code h.vc h.msgSeq h)

/-- The incoming flow of a source and virtual channel. -/
def flowIn (s : State) (src vc : Nat) : FlowIn :=
  (s.shk.inFlows.find? (fun f => f.src = src && f.vc = vc)).getD { src := src, vc := vc }

def setFlowIn (s : State) (f : FlowIn) : State :=
  let rest := s.shk.inFlows
  let hit := rest.any (fun g => decide (g.src = f.src) && decide (g.vc = f.vc))
  let new := if hit then rest.map (fun g => if g.src = f.src ∧ g.vc = f.vc then f else g) else rest ++ [f]
  { s with shk := { s.shk with inFlows := new } }

/-- Acknowledge a flow (R490). -/
def sendAck (s : State) (src vc : Nat) : State :=
  let f := flowIn s src vc
  sendControl (setFlowIn s { f with sinceAck := 0, ackFrom := none }) src (fun c => .e2eAck c vc f.expected)

/-! ## Forwarding (R481, R483) -/

/-- Class a frame has as it arrives on a port of this device (R481). -/
def arrivalClass (s : State) (p : Nat) (h : Hdr) : Nat :=
  if p < 12 ∧ cliqueOf h.dst ≠ cliqueOf (selfId s) then 2 else b2n h.dateline

/-- The pool slot a frame holds at the input of a port (R468). -/
def inSlot (s : State) (p : Nat) (h : Hdr) : Nat × Nat := (p, h.vc * 3 + arrivalClass s p h)

/-- Dimension of a B port. -/
def portDim (p : Nat) : Nat := (p - 12) / 4

/-- The table a frame in transit goes by: that of the work its tags name, so that a flow in flight across a switch keeps its path (R484;
DEDUCED, log 146). -/
def transitTable (s : State) (h : Hdr) : Option RouteTable :=
  match s.shk.oldTable with
  | some o => if (h.epochTag, h.digestTag) = o.1 ∧ o.1 ≠ activeTags s then some o.2 else s.shk.route
  | none => s.shk.route

/-- The hop and port by which a frame in transit leaves; none when every port of the group is not UP or the next device is lost (R483). -/
def transitPort (s : State) (h : Hdr) : Option (Hop × Nat) :=
  (outPort s (transitTable s h) h.plane h.src h.dst).filter (fun x => !isLost s (hopDev (transitTable s h) (selfId s) x.1))

/-- The dateline bit a frame leaves with: set across a wraparound link, cleared at a turn into the next dimension (R481). -/
def leaveDateline (s : State) (p : Nat) (h : Hdr) : Hop → Bool
  | .a _ => h.dateline
  | .b k up =>
    let kept := decide (12 ≤ p) && decide (portDim p = k) && h.dateline
    kept || hopWraps (transitTable s h) (selfId s) (.b k up)

/-- Forward a frame that came in on port `p`, or discard it (R483); `data` marks a DATA frame, of whose message one NO_ROUTE
goes to the source. -/
def forward (s : State) (p : Nat) (h : Hdr) (data : Bool) (mk : Hdr → Frame) : State :=
  let slot := inSlot s p h
  if 48 < h.hops + 1 then freeSlot (bump s (R.SHK_BADFRAME_CNT (dieOf p)) 1) (some slot)
  else match transitPort s h with
    | none =>
      let s := freeSlot (countNoRoute s (dieOf p)) (some slot)
      let key := (h.src, h.dst, h.vc, h.msgSeq)
      if !data || (decide (h.index ≠ 0) && s.shk.noRoute.contains key) then s
      else sendError { s with shk := { s.shk with noRoute := (key :: s.shk.noRoute.filter (· ≠ key)).take 4096 } } 3 h
    | some (hop, q) =>
      let dl := leaveDateline s p h hop
      portQueue s q ⟨h.vc * 3 + hopClass (selfId s) h.dst dl hop, mk { h with hops := h.hops + 1, dateline := dl }, some slot⟩

/-! ## Tags (R58, R59, R492) -/

/-- A pair of epoch and digest prefix is the one of a pending switch within its grace period, or the previous one within its own
(R58, R60). -/
def inGrace (s : State) (same : Nat → Nat → Bool) : Bool :=
  let e := rf s R.THL_PENDING F.THL_PENDING_epoch
  let coming := rb s R.THL_STATUS F.THL_STATUS_switch_pending && decide ((reg s R.THL_PENDING_TIME).toNat ≤ s.ft + 8192)
    && same e (reg s (R.THL_STAGED_DIGEST 0)).toNat
  coming || (match s.thl.previous with
    | some (pe, pd, t) => decide (s.ft < t + 8192) && same pe pd
    | none => false)

/-- The tags of a frame are accepted (R58, R59). -/
def tagsOk (s : State) (h : Hdr) : Bool :=
  let a := activeTags s
  (decide (h.epochTag = a.1) && decide (h.digestTag = a.2))
    || inGrace s (fun e d => decide (h.epochTag = e % 256) && decide (h.digestTag = d % 65536))

/-- A bit of THL_MISMATCH_PORTS goes to 1, with its event (R59, R60). -/
def setMismatch (s : State) (bit : Nat) : State :=
  let v := reg s R.THL_MISMATCH_PORTS
  if v.toNat.testBit bit then s else evgFire (setReg s R.THL_MISMATCH_PORTS (v ||| BitVec.ofNat 64 (1 <<< bit))) 131

/-! ## Landing (R486 to R488) -/

/-- Bytes of a message with its prefix, as its first frame gives them. -/
def prefixLen (payload : List Byte) : Nat := fieldAt payload 0 8 % 2 ^ 21 + 16
def prefixClass (payload : List Byte) : Nat := bitsOf (fieldAt payload 0 8) 24 4

/-- The prefix of R488 is valid for a virtual channel: length, class, bits that are 0. -/
def prefixOk (vc : Nat) (payload : List Byte) : Bool :=
  let w := fieldAt payload 0 8
  let n := w % 2 ^ 21
  let w1 := fieldAt payload 8 8
  decide (1 ≤ n ∧ n ≤ 1048576) && decide (w = n + prefixClass payload <<< 24)
    && (match prefixClass payload with
      | 0 => decide (vc ≤ 2) && decide (w1 = 0)
      | 1 => decide (vc = 2) && decide (w1 < 2 ^ 48)
      | 2 => decide (vc = 0) && decide (w1 < 2 ^ 48) && decide (n = 8)
      | 3 => decide (vc = 1) && decide (w1 < 2 ^ 62) && decide (bitsOf w1 48 4 ≤ 2)
      | 4 => decide (vc = 2) && decide (w1 < 2 ^ 56) && decide (8 ≤ n)
      | 5 => decide (vc = 3)
      | _ => false)

/-- The fields that every sorus and update message has alike: table, sending device, micro-batch, step (R207, R208, R234). -/
def sorusFieldsOk (b : List Byte) : Bool :=
  decide (fieldAt b 2 2 < 2 ^ 12) && decide (fieldAt b 4 2 < 2 ^ 14) && decide (fieldAt b 6 2 < 2 ^ 12) && decide (fieldAt b 8 8 < 2 ^ 48)

/-- A 32-byte unit header is valid: fields in their ranges, and 0 where the tables of R207, R208, R234, R393 and R440 say 0
(DEDUCED, log 106). -/
def unitHeaderOk (b : List Byte) : Bool :=
  let t := fieldAt b 0 1
  let noTable := decide (fieldAt b 1 1 = 0) && decide (fieldAt b 2 2 = 0)
  decide (32 ≤ b.length) &&
    if t = 0x21 then
      sorusFieldsOk b && decide (1 ≤ fieldAt b 0x10 4 ∧ fieldAt b 0x10 4 ≤ 65536) && decide (1 ≤ fieldAt b 0x14 4)
        && decide (fieldAt b 0x1A 1 ≤ 1) && decide (fieldAt b 0x1B 5 = 0)
    else if t = 0x22 then
      sorusFieldsOk b && decide (fieldAt b 0x10 2 < 2 ^ 14) && decide (fieldAt b 0x18 1 ≤ 1) && decide (fieldAt b 0x19 7 = 0)
    else if t ≤ 0x28 then
      sorusFieldsOk b && (noTable || decide (t ≠ 0x24 ∧ t ≠ 0x27 ∧ t ≠ 0x28)) && (decide (t = 0x23) || decide (fieldAt b 0x14 4 = 0))
        && decide (fieldAt b 0x1A 1 ≤ 1) && decide (fieldAt b 0x1B 5 = 0)
    else
      let level := decide (t = 0x36 ∨ t = 0x37)
      let aux := fieldAt b 0x18 1
      decide (fieldAt b 1 1 < 8) && decide (fieldAt b 2 2 < 2 ^ 14) && decide (fieldAt b 8 8 < 2 ^ 48) && decide (fieldAt b 0x1A 6 = 0)
        && (if level then decide (fieldAt b 4 4 = 0) && decide (1 ≤ aux ∧ aux ≤ 4)
            else if t = 0x35 then decide (6 ≤ aux ∧ aux ≤ 8) else decide (t = 0x32) || decide (aux = 0))
        && (decide (t = 0x35) || decide (fieldAt b 0x19 1 = 0))

/-- A message of class 0 names a type of its virtual channel and has a valid unit header (R488, R491). -/
def unitOk (vc : Nat) (bytes : List Byte) : Bool :=
  if prefixClass bytes ≠ 0 then true
  else
    let t := fieldAt bytes 16 1
    unitHeaderOk (bytes.drop 16) && match vc with
    | 0 => decide (t = 0x21)
    | 1 => decide (t = 0x22 ∨ t = 0x28)
    | _ => decide ((0x23 ≤ t ∧ t ≤ 0x27) ∨ (0x31 ≤ t ∧ t ≤ 0x37))

/-- Bytes taken in the landing buffer of a die and virtual channel, 4 MiB in all (R487). -/
def landingUse (s : State) (die vc : Nat) : Nat :=
  (s.shk.inFlows.map (fun f => match f.landing with
    | some l => if f.vc = vc ∧ l.die = die then prefixLen l.bytes else 0
    | none => 0)).sum

/-- A message has been delivered in order: the flow expects the next one, and every eighth is acknowledged (R486, R490). -/
def countDelivery (s : State) (f : FlowIn) : State :=
  let f := { f with
    expected := (f.expected + 1) % 1024, landing := none, sinceAck := f.sinceAck + 1, refused := none
    ackFrom := some (f.ackFrom.getD s.ft) }
  let s := setFlowIn s f
  if 8 ≤ f.sinceAck then sendAck s f.src f.vc else s

/-- The last frame of a message has landed (R486, R491). -/
def landed (s : State) (f : FlowIn) (h : Hdr) (bytes : List Byte) : State :=
  let bytes := bytes.take (prefixLen bytes)
  if unitOk f.vc bytes then countDelivery (emit s (.delivered f.src f.vc bytes)) f
  else countDelivery (sendError s 4 h) f

/-- A message of the buffer is there in whole. -/
def Landing.whole (l : Landing) : Bool := decide (0 < l.frames) && decide (prefixLen l.bytes ≤ 240 * l.frames)

/-- The unit of a message accepts it: a RAU or a sorus engine that is asked to go idle accepts none, and a sorus engine under
back-pressure no UPDATE_REQ, REM_GRAD or REM_ROW (R256, R262, R428, R487). Barrier records go to RAU A; acknowledgements of deltas, which
an engine going idle waits for, are accepted (R262). -/
def unitTakes (s : State) (vc : Nat) (bytes : List Byte) : Bool :=
  let t := fieldAt bytes 16 1
  let table := fieldAt bytes 18 2
  let die := if t = 0x36 then 0 else ((blockEntry s (fieldAt bytes 20 4)).map (·.die)).getD 0
  let w := fieldAt bytes 48 8
  let first : SorediumRec := ⟨bitsOf w 0 40, bitsOf w 40 12, bitOf w 52, []⟩
  if !unitOk vc bytes || prefixClass bytes ≠ 0 then true
  else if 0x31 ≤ t ∧ t ≤ 0x36 then !idleAsked s (0x33 + die)
  else if t = 0x21 then !idleAsked s (0x20 + homeOf s table)
  else if t = 0x22 then !idleAsked s (0x20 + rspEngine s table (fieldAt bytes 24 8) (fieldAt bytes 22 2))
  else if t = 0x23 ∨ t = 0x25 ∨ t = 0x26 then !backPressure s (homeOf s table)
  else if t = 0x24 then !idleAsked s 0x20
  else if t = 0x27 then !idleAsked s (0x20 + sorEngine s ⟨fieldAt bytes 20 2, fieldAt bytes 24 8, [first], 0, false⟩)
  else true

/-- Put a frame of the message in progress into the buffer; a whole message stays there until its unit accepts it (R487). -/
def landFrame (s : State) (f : FlowIn) (l : Landing) (h : Hdr) (payload : List Byte) : State :=
  let l := { l with frames := l.frames + 1, bytes := l.bytes ++ payload, last := s.ft }
  if l.whole && unitTakes s f.vc l.bytes then landed s f h l.bytes else setFlowIn s { f with landing := some l }

/-- A frame of this device is outside the expected message: discarded and counted (R486). -/
def outOfSeq (s : State) (p : Nat) : State := bump s (R.SHK_OUTSEQ_CNT (dieOf p)) 1

/-- Refuse a frame's message, with one ERROR for it (R59, R492): a message is the same one as before by its msg_seq and its tags, which a
resend keeps (R485; DEDUCED, log 146). -/
def refuseFrame (s : State) (f : FlowIn) (code : Nat) (h : Hdr) : State :=
  let id := some (h.msgSeq, h.epochTag, h.digestTag)
  let s := setFlowIn s { f with refused := id, landing := none }
  if f.refused = id then s else sendError s code h

/-- A DATA frame for this device: the flag says that it must wait at the router input, for room in the buffer or behind a whole message
of its flow that its unit does not accept (R486, R487, R492). -/
def localData (s : State) (p : Nat) (h : Hdr) (payload : List Byte) : State × Bool :=
  let f := flowIn s h.src h.vc
  let out (s : State) : State × Bool := (freeSlot s (some (inSlot s p h)), false)
  if f.landing.any Landing.whole then (if h.msgSeq = (f.expected + 1) % 1024 then (s, true) else out (outOfSeq s p))
  else if h.msgSeq ≠ f.expected then out (outOfSeq s p)
  else if h.vc ≠ 3 ∧ !imageActive s then out (refuseFrame s f 5 h)
  else if h.vc ≠ 3 ∧ !tagsOk s h then out (refuseFrame (setMismatch (bump s R.THL_REFUSED_CNT 1) 24) f 1 h)
  else if h.index = 0 then
    if !prefixOk h.vc payload then out (countDelivery (sendError s 4 h) f)
    else if 0x40_0000 < landingUse (setFlowIn s { f with landing := none }) (dieOf p) h.vc + prefixLen payload then (s, true)
    else out (landFrame s f ⟨h.msgSeq, 0, [], s.ft, dieOf p⟩ h payload)
  else match f.landing with
    | some l => if l.frames = h.index then out (landFrame s f l h payload) else out (outOfSeq s p)
    | none => out (outOfSeq s p)

/-- Frames waiting at the router input try again, in order; those behind one that still waits on the same port and pool stay
(R487; fuel: frames). -/
def pumpBlocked : Nat → State → State
  | 0, s => s
  | k + 1, s =>
    match s.shk.blocked with
    | [] => s
    | b :: bs =>
      let s := { s with shk := { s.shk with blocked := bs } }
      let slot := inSlot s b.port b.hdr
      let behind := (s.shk.blocked.drop k).any (fun x => decide (inSlot s x.port x.hdr = slot))
      let r := if behind then (s, true)
        else if b.hdr.dst = selfId s then localData s b.port b.hdr b.payload
        else (forward s b.port b.hdr true (fun h => .data h b.payload), false)
      pumpBlocked k (if r.2 then { r.1 with shk := { r.1.shk with blocked := r.1.shk.blocked ++ [b] } } else r.1)

def pumpLanding (s : State) : State := pumpBlocked s.shk.blocked.length s

/-- Messages that stayed in the landing buffer go to their units as far as these accept them, and what waited behind them enters
(R487). -/
def pumpUnits (s : State) : State :=
  pumpLanding (forEach (fun s (f : FlowIn) => match f.landing with
    | some l =>
      if l.whole && unitTakes s f.vc l.bytes then
        landed s f ⟨0, 0, l.seq, 0, 0, false, 0, f.vc, f.src, selfId s⟩ l.bytes
      else s
    | none => s) s s.shk.inFlows)

/-- A DATA frame accepted on a port: forwarded, landed, or waiting behind a frame that waits (R486, R487). -/
def takeData (s : State) (p : Nat) (h : Hdr) (payload : List Byte) : State :=
  let slot := inSlot s p h
  let wait (s : State) : State := { s with shk := { s.shk with blocked := s.shk.blocked ++ [⟨p, h, payload⟩] } }
  if s.shk.blocked.any (fun x => inSlot s x.port x.hdr = slot) then wait s
  else if h.dst ≠ selfId s then forward s p h true (fun h => .data h payload)
  else
    let r := localData s p h payload
    if r.2 then wait r.1 else pumpLanding r.1

/-! ## ERROR and E2E_ACK at the source (R485, R490, R493) -/

/-- The number of a flow's oldest messages that an acknowledgement up to `next` covers. -/
def ackedCount (f : FlowOut) (next : Nat) : Nat :=
  match f.unacked.head? with
  | none => 0
  | some o => let n := (next + 1024 - o.seq) % 1024
    if n ≤ f.unacked.length then n else 0

/-- A flow without unacknowledged messages routes by the new table (R484). -/
def dropOldRoute (s : State) (dst vc : Nat) : State :=
  { s with shk := { s.shk with oldRoutes := s.shk.oldRoutes.filter (fun o => !(o.1 = dst && o.2.1 = vc)) } }

/-- An E2E_ACK from a destination (R490, R484). -/
def takeAck (s : State) (dst vc next : Nat) : State :=
  let f := flowOut s dst vc
  let n := ackedCount f next
  if n = 0 then s
  else
    let s := setFlowOut s { f with unacked := f.unacked.drop n, progress := s.ft }
    let s := if f.unacked.length = n then dropOldRoute s dst vc else s
    acksIn (flowPump s dst vc)

/-- A flow's unacknowledged messages are discarded; the next message takes the refused one's number (R493; DEDUCED, log 17). -/
def discardFlow (s : State) (f : FlowOut) (seq : Nat) : State :=
  let ws := f.waiting.zipIdx.map (fun (x : OutMsg × Nat) => { x.1 with seq := (seq + x.2) % 1024 })
  dropOldRoute (setFlowOut s { f with unacked := [], waiting := ws, next := (seq + ws.length) % 1024 }) f.dst f.vc

/-- A message of earlier work that its destination refused is a late contribution to its unit (R243, R403, R493). -/
def lateMessage (s : State) : Message → State
  | .reduce m => match blockEntry s m.block with
    | some e => rauLate s e.die
    | none => s
  | .updateReq m => countLateUpd s (homeOf s m.table) 1
  | _ => s

/-- CONFIG_MISMATCH or NOT_READY for a message of a flow (R493). -/
def takeRefusal (s : State) (dst vc seq : Nat) : State :=
  let f := flowOut s dst vc
  match f.unacked.find? (fun o => o.seq = seq) with
  | none => s
  | some o =>
    let die := f.die
    let s := discardFlow s f seq
    if (o.epochTag, o.digestTag) = activeTags s then
      let s := flagEvent s (R.SHK_FLAGS die) F.SHK_FLAGS_mismatch_dst (rb s (R.SHK_CTL die) F.SHK_CTL_route_event_en) (137 + die)
      raiseNotice s 3 dst s.ft 0x11
    else acksIn (flowPump (lateMessage (bump s (R.SHK_STALE_CNT die) 1) o.msg) dst vc)

/-- NO_ROUTE for a flow: the plane is invalid for a time and the flow resends (R485). -/
def takeNoRoute (s : State) (dst vc plane : Nat) : State :=
  let f := flowOut s dst vc
  let until_ := s.ft + e2eTimeout s f.die
  flowResend (setFlowOut s { f with invalid := f.invalid.filter (fun i => i.1 ≠ plane) ++ [(plane, until_)] }) dst vc

/-- An ERROR frame for this device (R491). VIOLATION and BAD_MESSAGE change nothing at the source. -/
def takeError (s : State) (code vc seq : Nat) (copy : Hdr) : State :=
  match code with
  | 1 => takeRefusal s copy.dst vc seq
  | 3 => takeNoRoute s copy.dst vc copy.plane
  | 5 => takeRefusal s copy.dst vc seq
  | _ => s

end Sys2Proof.Machine
end

