-- ==== Sys2Proof/Machine/LinkOps.lean ====
section
/-! DEFINITION. Ports: frame numbers and replay (R466, R467), states (R462, R463, R469, R470), heartbeats (R60, R471, R501, R503). -/

namespace Sys2Proof.Machine

/-! ## Reception and replay (R466 to R468) -/

/-- The bits of a port's registers. -/
def portReg (p : Nat) : Nat := R.SHK_PORT_STATUS (p / 12) (p % 12)
def laneReg (p : Nat) : Nat := R.SHK_PORT_LANES (p / 12) (p % 12)

/-- A frame is received at time `t`: corrections and failures of the code are counted, and the frame when its CRC passes (R460,
R461, R627, R628). -/
def rxFrame (s : State) (x : Rx) (f : Frame) : State :=
  let s := advance x.t s
  let s := bump s (R.SHK_PORT_FEC_CORR (x.port / 12) (x.port % 12)) x.corr
  let s := cntAdd (bump s (R.SHK_PORT_FEC_UNCORR (x.port / 12) (x.port % 12)) x.uncorr) 16 x.uncorr
  if intact x f then countRx s x.port else s

/-- Send a LINK_CTL frame (R467). -/
def sendLinkCtl (s : State) (p : Nat) (nak laneChange : Bool) (lanes expected : Nat) : State :=
  let q := portOf s p
  let s := modPort s p (fun q => { q with sinceCtl := 0 })
  sendRaw s p (.linkCtl nak laneChange lanes (q.accepted % 2 ^ 32) expected (q.ownFreed.map (· % 65536)))

/-- A sequenced frame on a port: accepted in order while UP; a failed one is answered with a NAK, and later ones are discarded
until it is replayed (R466). One that comes in RETRAIN is not accepted and is asked for at its end, so that it is not lost (R463; DEDUCED,
log 146). The flag says that the frame is accepted. -/
def acceptSeq (s : State) (x : Rx) (f : Frame) : State × Bool :=
  let q := portOf s x.port
  if portState s x.port = 6 ∧ x.num = q.accepted then (modPort s x.port (fun q => { q with discarding := true }), false)
  else if !portUp s x.port || x.num ≠ q.accepted then (s, false)
  else if !intact x f then (sendLinkCtl (modPort s x.port (fun q => { q with discarding := true })) x.port true false 0 (q.accepted % 2 ^ 32), false)
  else
    let s := if q.discarding then cntAdd (bump s (R.SHK_PORT_REPLAY_CNT (x.port / 12) (x.port % 12)) 1) 16 1 else s
    let s := modPort s x.port (fun q => { q with accepted := q.accepted + 1, discarding := false, sinceCtl := q.sinceCtl + 1 })
    (if 128 ≤ (portOf s x.port).sinceCtl then sendLinkCtl s x.port false false 0 0 else s, true)

/-- A routed control frame: for this device, or forwarded. -/
def takeControl (s : State) (p : Nat) (h : Hdr) (mk : Hdr → Frame) (mine : State → State) : State :=
  if h.dst = selfId s then mine (freeSlot s (some (inSlot s p h))) else forward s p h false mk

/-- Frames numbered before `acked` leave the replay buffer (R466, R467). -/
def ackReplay (q : Port) (acked : Nat) : Port :=
  let oldest := q.sent - q.replay.length
  let n := (acked + 2 ^ 32 - oldest % 2 ^ 32) % 2 ^ 32
  if n ≤ q.replay.length then { q with replay := q.replay.drop n } else q

/-- Freed slots as the neighbour's credit counters report them (R467, R468). -/
def takeCredits (q : Port) (credits : List Nat) : Port :=
  { q with poolFreed := q.poolFreed.zipIdx.map (fun x => x.1 + (credits.getD x.2 0 + 65536 - x.1 % 65536) % 65536) }

/-- The frames from number `expected` on are sent again (R466). -/
def replayFrom (s : State) (p expected : Nat) : State :=
  let q := portOf s p
  let oldest := q.sent - q.replay.length
  let n := (expected + 2 ^ 32 - oldest % 2 ^ 32) % 2 ^ 32
  forEach (fun s f => sendRaw s p f) s (if n ≤ q.replay.length then q.replay.drop n else [])

/-! ## Leaving and entering states (R462, R463, R469, R470) -/

/-- Number of lanes set in a mask. -/
def laneCount (good : Nat) : Nat := ((List.range 8).filter (fun i => good.testBit i)).length

/-- The width R462 gives for a mask of good lanes; 0 with fewer than 4. -/
def laneWidth (good : Nat) : Nat :=
  let n := laneCount good
  if 8 ≤ n then 8 else if 6 ≤ n then 6 else if 4 ≤ n then 4 else 0

/-- A port changes its width (R462, R463): an UP port passes through RETRAIN and keeps its frames. -/
def setWidth (s : State) (p w : Nat) : State :=
  let die := dieOf p
  let s := wf s (laneReg p) F.SHK_PORT_LANES_width w
  let s := flagEvent s (R.SHK_FLAGS die) F.SHK_FLAGS_lane (rb s (R.SHK_CTL die) F.SHK_CTL_lane_event_en) (135 + die)
  if portUp s p then relevel (setPortState s p 6) else s

/-- A lane is faulty (R462). -/
def laneFault (s : State) (p good : Nat) : State :=
  if portState s p = 0 then s
  else
    let g := rf s (laneReg p) F.SHK_PORT_LANES_good &&& good
    let s := wf s (laneReg p) F.SHK_PORT_LANES_good g
    let w := laneWidth g
    let now := rf s (laneReg p) F.SHK_PORT_LANES_width
    if w = 0 then portDown s p
    else if w < now then
      let s := if portUp s p then sendLinkCtl s p false true w 0 else s
      setWidth s p w
    else s

/-- A LINK_CTL of the neighbour (R463, R466, R467); what one asks in RETRAIN is done at its end (DEDUCED, log 146). -/
def takeLinkCtl (s : State) (p : Nat) (nak laneChange : Bool) (lanes acked expected : Nat) (credits : List Nat) : State :=
  if !portUp s p && decide (portState s p ≠ 6) then s
  else
    let s := modPort s p (fun q => takeCredits (ackReplay q acked) credits)
    if portState s p = 6 then (if nak then modPort s p (fun q => { q with replayDue := some expected }) else s)
    else
    let s := if nak then replayFrom s p expected else s
    let s := portPump p (portOf s p).queue.length s
    if laneChange && decide (lanes < rf s (laneReg p) F.SHK_PORT_LANES_width) && decide (lanes = 4 ∨ lanes = 6) then setWidth s p lanes else s

/-- A port enters UP: frame numbers and credits start anew (R466 to R468), and a lost neighbour hears of its loss (R503). -/
def portUpNow (s : State) (p : Nat) : State :=
  let s := setPortState s p 3
  let s := modPort s p (fun q => { q with
    goodHb := 0, sent := 0, accepted := 0, replay := [], queue := [], discarding := false, replayDue := none, sinceCtl := 0
    poolSent := List.replicate 12 0, poolFreed := List.replicate 12 0, ownFreed := List.replicate 12 0 })
  let d := (wiredTo s p).1
  match s.recov.lost.find? (fun l => l.device = d) with
  | some l => sendBy s p d (.notice ⟨3, d, selfId s, rf s R.DEV_REC_EPOCH F.DEV_REC_EPOCH_epoch, l.td, lostReason s d⟩)
  | none => s

/-- RETRAIN ends: the port is UP, asks for the first frame that came meanwhile, and replays what was asked of it meanwhile (R463, R466). -/
def retrainDone (s : State) (p : Nat) : State :=
  let q := portOf s p
  let s := modPort (setPortState s p 3) p (fun q => { q with replayDue := none })
  let s := if q.discarding then sendLinkCtl s p true false 0 (q.accepted % 2 ^ 32) else s
  let s := match q.replayDue with
    | some n => replayFrom s p n
    | none => s
  relevel (portPump p (portOf s p).queue.length s)

/-! ## Heartbeats (R60, R470, R471, R501) -/

/-- The state a heartbeat of this device carries (R471). -/
def ownHbState (s : State) : Nat :=
  if rb s R.RST_STATUS F.RST_STATUS_recovery then 2 else if imageActive s then 0 else 1

/-- The heartbeat this device sends on a port. -/
def ownHeartbeat (s : State) (p : Nat) : Heartbeat :=
  ⟨ownHbState s, selfId s, (if p < 12 then p else 16 + (p - 12)), rf s (laneReg p) F.SHK_PORT_LANES_width,
    rf s (R.SHK_FT_STATUS 0) F.SHK_FT_STATUS_level, rf s R.THL_EPOCH F.THL_EPOCH_epoch, (reg s (R.THL_ACTIVE_DIGEST 0)).toNat,
    s.ft, (portOf s p).tRxLast, (portOf s p).tTxEcho, rf s (R.SHK_FT_STATUS 0) F.SHK_FT_STATUS_root⟩

/-- Send a heartbeat on every port in CHECK, UP, MISWIRED, MISMATCH or RETRAIN (R471). -/
def sendHeartbeats (s : State) : State :=
  if failed s then s
  else forEach (fun s p => if 2 ≤ portState s p then sendRaw s p (.heartbeat (ownHeartbeat s p)) else s) s (List.range 24)

/-- The neighbour's epoch and digest prefix match this device's, or the pair of a grace period (R60). -/
def hbConfigOk (s : State) (b : Heartbeat) : Bool :=
  (decide (b.epoch = rf s R.THL_EPOCH F.THL_EPOCH_epoch) && decide (b.digest = (reg s (R.THL_ACTIVE_DIGEST 0)).toNat))
    || inGrace s (fun e d => decide (b.epoch = e) && decide (b.digest = d))

/-- Heartbeat intervals of 4,096 ft wholly missed since the last heartbeat. -/
def hbMissed (s : State) (p : Nat) : Nat :=
  match (portOf s p).lastHb with
  | some t => (s.ft - t) / 4096 - 1
  | none => 0

/-- Enter MISWIRED or MISMATCH from a state that has heartbeats (R470). -/
def hbFail (s : State) (p st : Nat) : State :=
  let s := if portState s p = st then s else if portUp s p || decide (portState s p = 6) then leaveUp s p st else setPortState s p st
  modPort s p (fun q => { q with goodHb := 0 })

/-- The wiring check fails (R470, R477). -/
def hbMiswired (s : State) (p : Nat) : State :=
  let die := dieOf p
  let s := if portState s p = 4 then s else
    flagEvent s (R.SHK_FLAGS die) F.SHK_FLAGS_miswire (rb s (R.SHK_CTL die) F.SHK_CTL_wiring_event_en) (135 + die)
  modPort (hbFail s p 4) p (fun q => { q with mismatchSince := none })

/-- The configuration check fails (R60, R470, R503). -/
def hbMismatch (s : State) (p nbr : Nat) : State :=
  let s := hbFail (setMismatch s p) p 5
  let now := s.ft
  modPort s p (fun q => { q with mismatchSince := if nbr = 0 then some (q.mismatchSince.getD now) else none })

/-- A heartbeat passes: CHECK counts it, the fourth in succession enters UP (R470). -/
def hbPass (s : State) (p : Nat) : State :=
  let s := modPort s p (fun q => { q with mismatchSince := none })
  let st := portState s p
  if st = 4 ∨ st = 5 then modPort (setPortState s p 2) p (fun q => { q with goodHb := 1 })
  else if st = 2 then
    let s := modPort s p (fun q => { q with goodHb := q.goodHb + 1 })
    if 4 ≤ (portOf s p).goodHb then portUpNow s p else s
  else s

/-- Withdraw this device's standing SILENT notice about a neighbour it hears again (R501). -/
def hearAgain (s : State) (d : Nat) : State :=
  if !isLost s d && s.recov.notices.any (fun n => n.subject = d && n.origin = selfId s && standing s n)
  then raiseNotice s 2 d s.ft 0 else s

/-- A HEARTBEAT frame on a port whose state has heartbeats (R60, R470, R471, R473 to R475, R501). -/
def takeHeartbeat (s : State) (p : Nat) (b : Heartbeat) : State :=
  if portState s p < 2 then s
  else
    let s := bump s (R.SHK_PORT_HB_MISS (p / 12) (p % 12)) (hbMissed s p)
    let now := s.ft
    let s := modPort s p (fun q => { q with lastHb := some now, tRxLast := now, tTxEcho := b.tTx, nbrLevel := b.level, nbrRoot := b.root,
                                            nbrState := b.state })
    let s := wf (wf s (portReg p) F.SHK_PORT_STATUS_nbr_device b.device) (portReg p) F.SHK_PORT_STATUS_nbr_port b.port
    let s :=
      if (b.device, b.port) ≠ wiredTo s p then hbMiswired (if hbConfigOk s b then s else setMismatch s p) p
      else
        let s := hearAgain s b.device
        if hbConfigOk s b then hbPass s p else hbMismatch s p b.state
    let s := relevel s
    if (timeLevel s).2.2 = some p then discipline s b else s

/-- Time of the last heartbeat on a port, or of its entry into CHECK. -/
def heardAt (q : Port) : Nat := q.lastHb.getD q.checkFrom

/-- A port has heard nothing for 64 intervals (R470). -/
def portSilent (s : State) (p : Nat) : Bool :=
  decide (portState s p < 2) || decide (heardAt (portOf s p) + 262144 ≤ s.ft)

/-- 64 intervals without a heartbeat: the port goes DOWN, and when no port to the neighbour hears it a SILENT notice is flooded
(R470, R501). -/
def silencePort (s : State) (p : Nat) : State :=
  if portState s p < 2 ∨ s.ft < heardAt (portOf s p) + 262144 then s
  else
    let d := (wiredTo s p).1
    let s := bump s (R.SHK_PORT_HB_MISS (p / 12) (p % 12)) 64
    let s := portDown s p
    let ps := (List.range 24).filter (fun q => decide ((wiredTo s q).1 = d))
    let last := (ps.map (fun q => heardAt (portOf s q))).foldl max 0
    let mine := s.recov.notices.any (fun n => n.subject = d && n.origin = selfId s && standing s n)
    if ps.all (portSilent s) && decide (last + 262144 ≤ s.ft) && !mine && !isLost s d && (neighboursOf s d).contains (selfId s)
    then raiseNotice s 1 d (last + 262144) 0 else s

/-- A port stays in MISMATCH towards a running neighbour within the job's extent for 64 intervals (R503). -/
def mismatchDue (s : State) (p : Nat) : State :=
  match (portOf s p).mismatchSince with
  | some t => if portState s p = 5 ∧ t + 262144 ≤ s.ft then
      let d := (wiredTo s p).1
      if s.recov.notices.any (fun n => n.kind = 3 && n.subject = d && n.origin = selfId s && decide (t ≤ n.time))
        || !(neighboursOf s (selfId s)).contains d then s
      else raiseNotice s 3 d (t + 262144) 0x11
    else s
  | none => s

/-- A DEVICE_FAILED frame: one LOST notice from this device for its sender (R503). -/
def takeFailed (s : State) (p d reason : Nat) : State :=
  if portState s p = 0 ∨ s.recov.notices.any (fun n => n.kind = 3 && n.subject = d && n.origin = selfId s) then s
  else raiseNotice s 3 d s.ft reason

end Sys2Proof.Machine
end

