-- ==== Sys2Proof/Machine/RecoverCmds.lean ====
section
/-! DEFINITION. The recovery rows and the soredium rows (R257 to R259, R501 to R526). A row takes in a message that has been
delivered; the notices and pieces name their subject and origin (R506). -/

namespace Sys2Proof.Machine

/-- SILENT (R501). -/
def execSilent (n : Notice) (s : State) : Host.Outcome State Fault Refusal := .next (onData (fun s => acceptNotice s { n with kind := 1 }) s)

/-- HEARD (R501). -/
def execHeard (n : Notice) (s : State) : Host.Outcome State Fault Refusal := .next (onData (fun s => acceptNotice s { n with kind := 2 }) s)

/-- LOST (R502, R503). -/
def execLost (n : Notice) (s : State) : Host.Outcome State Fault Refusal := .next (onData (fun s => acceptNotice s { n with kind := 3 }) s)

/-- RECOVERY_COMMIT: the fabric-time counter reaches t_commit of the open epoch (R516, R517). -/
def execRecoveryCommit (t : Nat) (s : State) : Host.Outcome State Fault Refusal := .next (onData commitDue (advance t s))

/-- PIECE_RD (R521). -/
def execPieceRd (subject origin : Nat) (k : SlotKey) (s : State) : Host.Outcome State Fault Refusal :=
  .next (onData (fun s => servePiece s origin subject k) s)

/-- PIECE (R521, R526). -/
def execPiece (subject origin : Nat) (k : SlotKey) (bytes : List Byte) (s : State) : Host.Outcome State Fault Refusal :=
  .next (onData (fun s => acceptPiece s subject origin k bytes) s)

/-- FWD (R521). -/
def execFwd (subject origin : Nat) (r : SorediumRec) (s : State) : Host.Outcome State Fault Refusal :=
  .next (onData (fun s => acceptFwd s subject origin r) s)

/-- STOP (R521). -/
def execStop (subject origin : Nat) (k : SlotKey) (s : State) : Host.Outcome State Fault Refusal :=
  .next (onData (fun s => acceptStop s subject origin k) s)

/-- STOPPED (R521, R523). -/
def execStopped (subject origin : Nat) (k : SlotKey) (s : State) : Host.Outcome State Fault Refusal :=
  .next (onData (fun s => acceptStopped s subject origin k) s)

/-- DONE (R525). -/
def execDone (subject origin epoch : Nat) (s : State) : Host.Outcome State Fault Refusal :=
  .next (onData (fun s => acceptDone s subject origin epoch) s)

/-- PARITY_SCRUB: the check of a parity slot of this holder falls due (R526). -/
def execParityScrub (table : Nat) (slot : HeldSlot) (rem : Bool) (s : State) : Host.Outcome State Fault Refusal :=
  .next (onData (fun s => beginScrub s table slot rem) s)

/-- SOREDIUM (R258). -/
def execSoredium (m : Soredium) (s : State) : Host.Outcome State Fault Refusal := .next (onData (fun s => takeSoredium s m) s)

/-- SOREDIUM_ACK (R259): `source` is the holder. -/
def execSorediumAck (source step seq : Nat) (s : State) : Host.Outcome State Fault Refusal :=
  .next (onData (fun s => offerAck s step source seq) s)

/-- ROW_COMMIT: the write of an acknowledged row has completed (R259). -/
def execRowCommit (own table row : Nat) (rem : Bool) (s : State) : Host.Outcome State Fault Refusal :=
  .next (onData (fun s =>
    match s.sor.commit.find? (fun c => c.own = own && c.table = table && c.row = row && c.rem = rem && c.acked) with
    | some c => if c.parts.any (fun p => writeWaits s p.1 p.2.length) || engineHeld s c.stack then s else pumpRecs (commitDone s c)
    | none => s) s)

end Sys2Proof.Machine
end

