-- ==== Sys2Proof/Machine/LinkCmds.lean ====
section
/-! DEFINITION. The rows of the links and of peer memory accesses (R459 to R495). -/

namespace Sys2Proof.Machine

/-- A sequenced frame at time `x.t`: what `g` does once it is accepted (R466). -/
def onSeq (x : Rx) (f : Frame) (g : State → State) (s : State) : State :=
  let r := acceptSeq (rxFrame s x f) x f
  if r.2 && decide (x.port < 24) then g r.1 else r.1

/-- An unsequenced frame: one with a failed CRC is discarded (R466). -/
def onRaw (x : Rx) (f : Frame) (g : State → State) (s : State) : State :=
  let s := rxFrame s x f
  if intact x f && decide (x.port < 24) then g s else s

/-- DATA (R465, R481, R483, R486, R487). -/
def execData (x : Rx) (h : Hdr) (payload : List Byte) (s : State) : Host.Outcome State Fault Refusal :=
  .next (onSeq x (.data h payload) (fun s => takeData s x.port h payload) s)

/-- HEARTBEAT (R60, R471 to R475). -/
def execHeartbeat (x : Rx) (b : Heartbeat) (s : State) : Host.Outcome State Fault Refusal :=
  .next (onRaw x (.heartbeat b) (fun s => if failed s then s else takeHeartbeat s x.port b) s)

/-- LINK_CTL (R467). -/
def execLinkCtl (x : Rx) (nak laneChange : Bool) (lanes acked expected : Nat) (credits : List Nat) (s : State) :
    Host.Outcome State Fault Refusal :=
  .next (onRaw x (.linkCtl nak laneChange lanes acked expected credits) (fun s => takeLinkCtl s x.port nak laneChange lanes acked expected credits) s)

/-- ERROR (R483, R485, R491, R493). -/
def execError (x : Rx) (h : Hdr) (code vc msgSeq : Nat) (copy : Hdr) (s : State) : Host.Outcome State Fault Refusal :=
  .next (onSeq x (.error h code vc msgSeq copy) (fun s => takeControl s x.port h (fun h => .error h code vc msgSeq copy) (fun s => takeError s code vc msgSeq copy)) s)

/-- E2E_ACK (R485, R490). -/
def execE2eAck (x : Rx) (h : Hdr) (vc next : Nat) (s : State) : Host.Outcome State Fault Refusal :=
  .next (onSeq x (.e2eAck h vc next) (fun s => takeControl s x.port h (fun h => .e2eAck h vc next) (fun s => takeAck s h.src vc next)) s)

/-- DEVICE_FAILED (R472, R503). -/
def execDeviceFailed (x : Rx) (device reason time : Nat) (s : State) : Host.Outcome State Fault Refusal :=
  .next (onRaw x (.deviceFailed device reason time) (fun s => if failed s then s else takeFailed s x.port device reason) s)

/-- IDLE: a frame that may be dropped, sent to absorb clock differences; no counter counts it (R464, R628, R676). -/
def execIdle (port t : Nat) (s : State) : Host.Outcome State Fault Refusal :=
  let _ := port
  .next (advance t s)

/-- RESERVED_FRAME: type 7, discarded and counted (R464); the row gives no content, so its CRC is that of a frame of zeros beside the type
(DESIGN CHOICE, log 146). -/
def execReservedFrame (x : Rx) (s : State) : Host.Outcome State Fault Refusal :=
  .next (onRaw x .reserved (fun s => bump s (R.SHK_BADFRAME_CNT (dieOf x.port)) 1) s)

/-- HEARTBEAT_SEND (R471). -/
def execHeartbeatSend (t : Nat) (s : State) : Host.Outcome State Fault Refusal := .next (sendHeartbeats (advance t s))

/-- LINK_CTL_SEND (R467). -/
def execLinkCtlSend (port t : Nat) (s : State) : Host.Outcome State Fault Refusal :=
  let s := advance t s
  .next (if portUp s port && decide (port < 24) then sendLinkCtl s port false false 0 0 else s)

/-- HEARTBEAT_SILENCE (R470, R501). -/
def execHeartbeatSilence (port t : Nat) (s : State) : Host.Outcome State Fault Refusal :=
  let s := advance t s
  .next (if port < 24 then silencePort s port else s)

/-- MISMATCH_TIMEOUT (R503). -/
def execMismatchTimeout (port t : Nat) (s : State) : Host.Outcome State Fault Refusal :=
  let s := advance t s
  .next (if port < 24 then mismatchDue s port else s)

/-- LANE_FAULT: `good` are the lanes still good (R462). -/
def execLaneFault (port good t : Nat) (s : State) : Host.Outcome State Fault Refusal :=
  let s := advance t s
  .next (if port < 24 then laneFault s port good else s)

/-- RETRAIN_DONE: the width change is complete (R463). -/
def execRetrainDone (port t : Nat) (s : State) : Host.Outcome State Fault Refusal :=
  let s := advance t s
  .next (if port < 24 ∧ portState s port = 6 then retrainDone s port else s)

/-- PORT_TRAINED: training ends with the lanes `good`; with fewer than 4 it has failed (R462, R470). -/
def execPortTrained (port good t : Nat) (s : State) : Host.Outcome State Fault Refusal :=
  let s := advance t s
  .next (if port < 24 ∧ portState s port = 1 then
    let w := laneWidth good
    let s := wf (wf s (laneReg port) F.SHK_PORT_LANES_good good) (laneReg port) F.SHK_PORT_LANES_width w
    if w = 0 then portDown s port
    else
      let now := s.ft
      modPort (setPortState s port 2) port (fun q => { q with goodHb := 0, lastHb := none, checkFrom := now, tRxLast := 0, tTxEcho := 0 })
  else s)

/-- PORT_TRAIN_RETRY: a DOWN port that is enabled trains again (R469, R691). -/
def execPortTrainRetry (port t : Nat) (s : State) : Host.Outcome State Fault Refusal :=
  let s := advance t s
  let die := port / 12
  .next (if port < 24 ∧ portState s port = 0 ∧ portEnabled s port ∧ !failed s ∧ s.rst.released.testBit (30 + die)
      ∧ !idleAsked s (0x35 + die) then setPortState s port 1 else s)

/-- E2E_TIMEOUT: a flow's acknowledgement has not advanced for e2e_timeout (R485). -/
def execE2eTimeout (dst vc t : Nat) (s : State) : Host.Outcome State Fault Refusal :=
  let s := advance t s
  let f := flowOut s dst vc
  .next (if f.unacked.isEmpty ∨ s.ft < f.progress + e2eTimeout s f.die then s else flowResend s dst vc)

/-- LANDING_TIMEOUT: a partly landed message is discarded (R487). -/
def execLandingTimeout (src vc t : Nat) (s : State) : Host.Outcome State Fault Refusal :=
  let s := advance t s
  let f := flowIn s src vc
  .next (match f.landing with
  | some l => if !l.whole ∧ l.last + e2eTimeout s l.die ≤ s.ft then pumpLanding (setFlowIn s { f with landing := none }) else s
  | none => s)

/-- PLANE_INVALID_EXPIRY: a plane is valid again after a NO_ROUTE; a flow that had no valid plane resends (R485). -/
def execPlaneInvalidExpiry (dst vc t : Nat) (s : State) : Host.Outcome State Fault Refusal :=
  let s := advance t s
  let f := flowOut s dst vc
  let keep := f.invalid.filter (fun i => decide (s.ft < i.2))
  let stuck := (planeOrder (selfId s) dst).all (fun p => !planeValid s f p || f.invalid.any (fun i => i.1 = p))
  .next (if keep.length = f.invalid.length then s
  else
    let s := setFlowOut s { f with invalid := keep }
    if stuck then flowPump (flowResend s dst vc) dst vc else s)

/-- E2E_ACK_SEND (R490). -/
def execE2eAckSend (src vc t : Nat) (s : State) : Host.Outcome State Fault Refusal :=
  let s := advance t s
  .next (if 0 < (flowIn s src vc).sinceAck then sendAck s src vc else s)

/-! ## Peer memory accesses (R489) -/

/-- A range of the tiered range. -/
def tieredRange (s : State) (a n : Nat) : Bool := decide (a + n ≤ rangePages s * 0x1_0000)

/-- A range of an image slot, active or staged (R46, R489). -/
def imageSlotRange (s : State) (a n : Nat) : Bool :=
  [0, 1].any (fun k => decide (slotBase s k ≤ a) && decide (a + n ≤ slotBase s k + 0x1000_0000))

/-- A peer's write is refused (R489, R491, R570). -/
def refuseWrite (s : State) (h : Hdr) (a : Nat) : State := sendError (violation s 2 a h.src true 8) 2 h

/-- MEM_WR: a peer's write (R489, R513). -/
def execMemWr (h : Hdr) (addr : Nat) (bytes : List Byte) (s : State) : Host.Outcome State Fault Refusal :=
  .next (onData (fun s =>
    if tieredRange s addr bytes.length then settle (commitWrite s addr bytes)
    else refuseWrite s h addr) s)

/-- MEM_RD: a peer's read, answered by MEM_CPL (R46, R489); a length outside R488 is a BAD_MESSAGE (R491). -/
def execMemRd (h : Hdr) (addr len : Nat) (s : State) : Host.Outcome State Fault Refusal :=
  .next (onData (fun s =>
    let cpl (s : State) (status : Nat) (bs : List Byte) : State := sendMsg s h.src (.memCpl addr status h.msgSeq bs)
    if len = 0 ∨ 1048576 < len then sendError s 4 h
    else if tieredRange s addr len then
      newRead s (some h) addr len
    else if imageSlotRange s addr len then cpl s 0 (bytesAt s addr len)
    else cpl (violation s 2 addr h.src false 8) 1 []) s)

/-- MEM_CPL: the answer to a read of this device (R45, R46). -/
def execMemCpl (h : Hdr) (addr status seq : Nat) (bytes : List Byte) (s : State) : Host.Outcome State Fault Refusal :=
  let _ := seq
  .next (onData (fun s => loadData s h.src addr status bytes) s)

/-- STORE_WR: rows written into a frond store by a clique peer; the done bit is set (R139, R365, R489). -/
def execStoreWr (h : Hdr) (offset frond : Nat) (doneBit : Option Nat) (stride rowBytes : Nat) (bytes : List Byte) (s : State) :
    Host.Outcome State Fault Refusal :=
  .next (onData (fun s =>
    let rows := if rowBytes = 0 then [] else chunksOf rowBytes bytes
    let fits := rows.zipIdx.all (fun r => decide (offset + r.2 * stride * 64 + r.1.length ≤ storeSize))
    if cliqueOf h.src ≠ cliqueOf (selfId s) ∨ h.src = selfId s ∨ 32 ≤ frond ∨ !fits then
      refuseWrite s h (0x2000_0000_0000 + frond * 0x100_0000 + offset)
    else
      let s := forEach (fun s (r : List Byte × Nat) =>
        cntAdd (setBytes s (storeBase frond + offset + r.2 * stride * 64) r.1) 25 r.1.length) s rows.zipIdx
      match doneBit with
      | some b => let s := setSb s frond (b % 1024) true
        if b = 1018 ∨ b = 1019 then poolProgress s else s
      | none => s) s)

end Sys2Proof.Machine
end

