-- ==== Sys2Proof/Machine/RauIn.lean ====
section
/-! DEFINITION. Messages as the reduce-and-apply units take them (R428, R487): taken at once, or left in the landing buffer while the
unit accepts none. -/

namespace Sys2Proof.Machine

/-- The digests of the last step applied are computed, sent and compared (R420, R421); digest blocks that another holder has sent for a
copy come as `copy` (R422). -/
def digestDone (s : State) (e : BlockEntry) (copy : List (Nat × List Byte)) : State :=
  let x := blk s e.block
  settle (compareDigests (if x.digested < x.applied then sendDigests s e x.digested else s) e copy)

/-- Digests of another holder are recorded and compared (R421 to R424). A message that starts at digest block 0 begins a new report of
its source, which stands behind those it sent before. -/
def acceptDigest (m : DigestMsg) (copy : List (Nat × List Byte)) (s : State) (e : BlockEntry) : State :=
  let s := bump s (R.RAU_BYTES_IN e.die) (rauBytes (.digest m))
  let x := blk s e.block
  if m.step < x.agreed ∨ !isHolder s e then s
  else
    let goesOn (d : Nat × Nat × List Nat) : Bool := decide (0 < m.first) && d.1 = m.step && d.2.1 = m.source && decide (d.2.2.length = m.first)
    let ds := if x.digests.any goesOn then x.digests.map (fun d => if goesOn d then (d.1, d.2.1, d.2.2 ++ m.crcs) else d)
      else x.digests ++ [(m.step, m.source, m.crcs)]
    settle (compareDigests (setBlk s { x with digests := ds }) e copy)

/-- The link die whose RAU a message goes to; barrier records go to RAU A (DESIGN CHOICE, log 53). -/
def rauDie (s : State) (m : Message) : Nat :=
  let at_ (b : Nat) : Nat := ((blockEntry s b).map (·.die)).getD 0
  match m with
  | .reduce m => at_ m.block
  | .part m => at_ m.block
  | .grad m => at_ m.block
  | .digest m => at_ m.block
  | .param m => at_ m.block
  | _ => 0

/-- A RAU takes a message. -/
def takeRau (s : State) (m : Message) (copy : List (Nat × List Byte)) : State :=
  match m with
  | .reduce m => settle (acceptReduce s m s.ft)
  | .part m => settle (acceptPart s m s.ft)
  | .grad m => acceptGrad s m
  | .digest m => match blockEntry s m.block with
    | some e => acceptDigest m copy s e
    | none => s
  | .param m => acceptParam s m
  | .barrier m => acceptBarrier s m
  | _ => s

/-- The ranges of the partition that a block uses in step `n`: its state, the log slot of the step and its record (R386, R418). -/
def blockRanges (s : State) (e : BlockEntry) (n : Nat) : List (Nat × Nat) :=
  [(regionAddr s e, stateSize (denseOpt s e.opt) e.nElem), (logAddr s e n, 4 * e.nElem), (logRecord s e n, 64)]

/-- A GRAD whose log slot serves no access (R340, R348, R349). -/
def gradWaits (s : State) : Message → Bool
  | .grad m => match blockEntry s m.block with
    | some e => rawWaits s (logAddr s e m.step) (4 * e.nElem)
    | none => false
  | _ => false

/-- A message for a RAU, which leaves it in the landing buffer from the time it is asked to go idle to the end of its reset (R428,
R487), and while the partition cannot take it. -/
def offerRau (s : State) (m : Message) (copy : List (Nat × List Byte)) : State :=
  if idleAsked s (0x33 + rauDie s m) || gradWaits s m then { s with rau := { s.rau with landed := s.rau.landed ++ [(m, copy)] } }
  else takeRau s m copy

/-- The messages that the RAUs have left in the landing buffer are offered again, in order. -/
def pumpRau (s : State) : State :=
  let ms := s.rau.landed
  forEach (fun s x => offerRau s x.1 x.2) { s with rau := { s.rau with landed := [] } } ms

end Sys2Proof.Machine
end

