-- ==== Sys2Proof/Machine/Reset.lean ====
section
/-! DEFINITION. The reset controller: levels and sources (R575 to R578), what each level resets, hold and release (R579 to R582, R587),
failed starts and recovery mode (R589 to R592). -/

namespace Sys2Proof.Machine

/-! ## What the levels reset (R578) -/

/-- Return the registers of a block of RegTable to their reset values, but those `keep` selects. -/
def resetBlockRegs (s : State) (blk inst : Nat) (keep : Nat → Bool) : State :=
  let b := regBlocks.getD blk ⟨0, 0, 0, 0, []⟩
  resetRegs s (b.base + inst * b.stride) b.size keep

/-- A HOSTPORT reset of the event gatherer (R618). -/
def evgHostReset (s : State) : State :=
  let gone := s.evg.insvc.filter (fun e => decide (e.target < 32))
  let s := { s with evg := { s.evg with
      insvc := s.evg.insvc.filter (fun e => decide (32 ≤ e.target))
      delayed := s.evg.delayed.filter (fun t => decide (32 ≤ t))
      lastMsg := s.evg.lastMsg.filter (fun x => decide (32 ≤ x.1))
      msixPend := [] } }
  let s := forEach (fun s (e : InService) => setPend s e.source true) s gone
  let s := forEach (fun s t => wf (wf s (R.EVG_TGT_LEVEL t) F.EVG_TGT_LEVEL_signalled 0) (R.EVG_TGT_CTL t) F.EVG_TGT_CTL_en 0) s (List.range 32)
  evgSettle s

/-- The HOSTPORT row of R578 (R303, R562 to R566, R618, R690). -/
def hostReset (s : State) (reason : Nat) : State :=
  let s := resumeAll (loseGrants (loseHostLink s reason))
  let ses := rf s R.HST_ATTACH F.HST_ATTACH_session
  let s := forEach (fun s k => resetBlockRegs s k 0 (fun _ => false)) s [1, 2, 3]
  let s := wf s R.HST_ATTACH F.HST_ATTACH_session ses
  let s := { s with hst := { s.hst with msixEn := false, msixMaskAll := false, inReset := true, cacheNegotiated := false, unaligned := 0 } }
  let s := { s with rst := { s.rst with released := setBits s.rst.released 16 1 0 } }
  syncPage (evgHostReset s)

/-- Registers that a reset of level WARM (2), COLD (3) or FULL (4) keeps: of the AON row, and at WARM those of the base dies' repairs and
marks (R345, R578, R614, R686). -/
def keepReg (level r : Nat) : Bool :=
  r = R.RST_CAUSE || r = R.DEV_FABRIC_ID
    || (decide (level < 4) && (r = R.EVG_FILTERED_CNT || (List.range 8).any (fun i => r = R.EVG_PIN_CFG i)))
    || (decide (level = 2) && (List.range 8).any (fun n => r = R.STK_SPARE n || (List.range 32).any (fun c => r = R.STK_PIN_MARK n c)))

/-- Memory a reset keeps: peat always, stack memory at WARM but for the page table and the image slots (R48, R314, R350). -/
def keepKey (store level k : Nat) : Bool :=
  (decide (peatKey 0 0 ≤ k) && decide (k < 2 ^ 49))
    || (decide (level = 2) && decide (hbmBase 0 ≤ k) && decide (k < hbmBase 8)
      && decide (0x1000_0000 ≤ (k - hbmBase 0) % stackSize) && !(decide (store ≤ k) && decide (k < store + 0x2000_0000)))

/-- A stack after a reset: at WARM the repairs and the contents stay, poison with them; else its repair log is applied when it is
initialised (R345, R349, R350). -/
def resetStack (level : Nat) (x : Stack) : Stack :=
  if level = 2 then { rowSpares := x.rowSpares, bankSpares := x.bankSpares, poison := x.poison } else {}

/-- Everything a reset of level WARM, COLD or FULL returns to its reset value (R12, R48, R142, R185, R264, R314, R430, R458, R500,
R578, R618, R620). -/
def deviceReset (s : State) (level : Nat) : State :=
  let aon := bitsOf (reg s R.RST_STATUS).toNat 5 11
  let priv := rf s R.CNT_STATUS F.CNT_STATUS_priv
  let att := if level < 4 then rf s R.MGT_STATUS F.MGT_STATUS_attended else 0
  let marks := (List.range 8).map (fun n => if level = 2 then
    (rf s (R.STK_STATUS n) F.STK_STATUS_marked, rf s (R.STK_STATUS n) F.STK_STATUS_degraded) else (0, 0))
  let store := (reg s R.THL_STORE_BASE).toNat
  let farWas := s.hst.farPerstHigh
  let s := { s with
    regs := spClear (fun r => !keepReg level r) s.regs
    mem := spClear (fun k => !keepKey store level k) s.mem
    ft := 0, stepCtr := 0, thl := {}, tier := { retired := if level = 2 then s.tier.retired else [] }
    stackList := s.stackList.map (resetStack level)
    cmd := { detachReason := s.cmd.detachReason, detachTime := s.cmd.detachTime }
    hst := { perstHigh := s.hst.perstHigh, farX16 := s.hst.farX16 }
    shk := {}, sor := {}, seq := {}, rau := {}, scl := {}, recov := {}, evg := {}
    cnt := { privNext := s.cnt.privNext }
    mgt := { fuseSet := s.mgt.fuseSet, fuseSensed := s.mgt.fuseSensed, flash := s.mgt.flash, repairLog := s.mgt.repairLog }
    rst := { hold := s.rst.hold, powerOn := s.rst.powerOn, pwrOk := s.rst.pwrOk, tripped := s.rst.tripped, startLevel := s.rst.startLevel
             imageLoaded := s.rst.imageLoaded, failHigh := s.rst.failHigh, vrHot := s.rst.vrHot } }
  let s := setReg s R.RST_STATUS (BitVec.ofNat 64 (aon <<< 5))
  let s := wf (wf s R.CNT_STATUS F.CNT_STATUS_priv priv) R.MGT_STATUS F.MGT_STATUS_attended att
  let s := forEach (fun s i => wf s (R.EVG_PIN_CFG i) F.EVG_PIN_CFG_state 0) s (List.range 8)
  let s := forEach (fun s (x : (Nat × Nat) × Nat) =>
      let st := R.STK_STATUS x.2
      let s := wf (wf s st F.STK_STATUS_marked x.1.1) st F.STK_STATUS_degraded x.1.2
      wf s st F.STK_STATUS_self_refresh (b2n (level = 2))) s marks.zipIdx
  let s := if farWas then emit s (.pin .farPerst false) else s
  syncPage s

/-! ## Sources (R576, R577) -/

/-- Default level of a source: 0 BLOCK to 4 FULL, 5 NONE. -/
def defaultLevel (src : Nat) : Nat := [4, 3, 1, 1, 1, 1, 2, 0, 3, 2, 0, 5].getD src 5

/-- Levels the fuses may give a source. -/
def allowedLevels (src : Nat) : List Nat :=
  [[], [3, 4], [0, 1, 2, 3, 4, 5], [0, 1, 2, 3, 4, 5], [0, 1, 2, 3, 4, 5], [0, 1, 2, 3, 4, 5], [2, 3, 4, 5], [0, 2, 3, 4], [3, 4],
    [0, 1, 2, 3, 4, 5], [0, 5], [0, 1, 2, 3, 4, 5]].getD src []

/-- The 48-bit reset map as sensed (R577, R658). -/
def resetMap (s : State) : Nat := fuseWord s 1 + bitsOf (fuseWord s 2) 0 16 <<< 32

/-- The level of a source as the fuses map it; BLOCK of sources 2 to 5 and 9 is HOSTPORT; a locked debug reset is NONE. -/
def levelOf (s : State) (src : Nat) : Nat :=
  let f := bitsOf (resetMap s) (4 * src) 4
  let l := if 1 ≤ f ∧ f ≤ 6 ∧ (allowedLevels src).contains (f - 1) then f - 1 else defaultLevel src
  if src = 11 ∧ !s.mgt.debugUnlocked then 5
  else if l = 0 ∧ [2, 3, 4, 5, 9].contains src then 1
  else l

/-- Record a source that asserts, with its level (RST_CAUSE, RST_STATUS). -/
def markSource (s : State) (src l : Nat) : State :=
  let s := setReg s R.RST_CAUSE (BitVec.ofNat 64 (setBits (reg s R.RST_CAUSE).toNat src 1 1))
  wf (wf s R.RST_STATUS F.RST_STATUS_last_source src) R.RST_STATUS F.RST_STATUS_last_level l

/-! ## Failed starts and recovery mode (R589 to R592, R679) -/

def inRecovery (s : State) : Bool := rb s R.RST_STATUS F.RST_STATUS_recovery
def bringUp (s : State) : Bool := rb s R.RST_STATUS F.RST_STATUS_sequencing

/-- A start fails: the count rises, and at 4 recovery mode begins (R590, R591). -/
def failStart (s : State) : State :=
  let n := rf s R.RST_STATUS F.RST_STATUS_fail_count + 1
  let s := wf s R.RST_STATUS F.RST_STATUS_fail_count n
  if 4 ≤ n then
    setFailPin { (wf s R.RST_STATUS F.RST_STATUS_recovery 1) with rst := { s.rst with imageLoaded := false } } false
  else s

/-- A reset of level WARM or above after a recovery image load ends recovery mode with the count at 3 (R592). -/
def leaveRecovery (s : State) : State :=
  if inRecovery s && s.rst.imageLoaded then
    wf (wf { s with rst := { s.rst with imageLoaded := false } } R.RST_STATUS F.RST_STATUS_recovery 0) R.RST_STATUS F.RST_STATUS_fail_count 3
  else s

/-! ## Assertion (R579 to R582, R586, R587) -/

/-- The BLOCK reset in progress is abandoned (R586). -/
def abandonBlock (s : State) : State :=
  let s := wf (wf s R.RST_BLOCK F.RST_BLOCK_busy 0) R.RST_STATUS F.RST_STATUS_block_busy 0
  wf { s with rst := { s.rst with block := none, asserted := false } } R.RST_QUIESCE F.RST_QUIESCE_step 0

/-- The look-up batches of home `n` that were not complete run again (R222, R223). -/
def rerunLookups (s : State) (n : Nat) : State :=
  let mine (b : Batch) : Bool := b.home = n && !b.complete
  let again := s.sor.batches.filter mine
  let fresh (b : Batch) : Batch := { b with
    parts := [], reqs := b.reqs.map (fun (r : BatchReq) => { r with answered := false, sent := serverOf s r.dst }) }
  let s := { s with sor := { s.sor with batches := s.sor.batches.map (fun b => if mine b then fresh b else b) } }
  forEach (fun s (b : Batch) => forEach (fun s (r : BatchReq) => sendReq s r.dst r.msg) s b.reqs) s again

/-- Every flow sends what waits. -/
def pumpFlows (s : State) : State := forEach (fun s (f : FlowOut) => flowPump s f.dst f.vc) s s.shk.outFlows

/-- The block is released and reinitialises (R583 step 4). -/
def blockReinit (s : State) (c : Nat) : State :=
  if c < 0x20 then
    let s := wf s (R.FRD_STATUS c) F.FRD_STATUS_init_done 1
    pumpParams (if s.seq.step.isNone then modFrond s c (fun x => { x with halted := false }) else s)
  else if c < 0x28 then pumpUnits (resumeAll (returnSpilled (c - 0x20) s.sor.pend.length (rerunLookups s (c - 0x20))))
  else if c < 0x30 then emit (wf s (R.STK_STATUS (c - 0x28)) F.STK_STATUS_retraining 1) (.flit (c - 0x28) .train)
  else if c = 0x30 then resume (tierPressure s)
  else if c = 0x31 then restartScale s
  else if c = 0x32 then s
  else if c < 0x35 then pumpRau (pumpUnits (settle (restartPairs s (c - 0x33))))
  else
    let die := c - 0x35
    pumpFlows (forEach (fun s p => if portEnabled s p then setPortState s p 1 else s) s ((List.range 12).map (fun i => 12 * die + i)))

/-- The 1 µs hold of a BLOCK reset ends (R583 steps 3 and 4). -/
def endBlock (s : State) (c : Nat) : State := blockReinit (abandonBlock s) c

/-- A block that was asked to go idle and keeps its state goes on (R586). -/
def blockKept (s : State) (c : Nat) : State :=
  if c < 0x20 then modFrond s c (fun x => { x with halted := false })
  else pumpFlows (pumpRau (pumpUnits (settle (advanceBlocks (resumeAll s)))))

/-- A reset of level HOSTPORT (R562, R586, R587). -/
def assertHost (s : State) (reason : Nat) : State :=
  match s.rst.hold with
  | some _ => s
  | none =>
    let s := match s.rst.block with
      | some c => if s.rst.asserted then endBlock s c else blockKept (abandonBlock s) c
      | none => s
    let s := hostReset s reason
    { s with rst := { s.rst with hold := some 1 } }

/-- Before WARM the base dies complete the transactions they have accepted (R350, R582). -/
def drainStacks (s : State) : State :=
  forEach (fun s n =>
    if rb s (R.STK_STATUS n) F.STK_STATUS_init_done then completeAccepted s n else s) s (List.range 8)

/-- Everything from the announcement of a reset of level WARM or above to its assertion (R19, R581, R582, R590). -/
def fallInto (s : State) (level reason : Nat) (announce : Bool) : State :=
  let s := if announce then enterFailed s 6 else abortRunning (stopDataPlane s)
  let s := loseHostLink s reason
  let s := if level = 2 then drainStacks s else s
  let s := { s with rst := { s.rst with hold := some level, startLevel := level } }
  deviceReset (leaveRecovery s) level

/-- A reset of level WARM, COLD or FULL from a source (R581, R587, R590). -/
def assertDevice (s : State) (src level reason : Nat) : State :=
  let h := s.rst.hold.getD 0
  if 2 ≤ h then
    if h < level then deviceReset { s with rst := { s.rst with hold := some level, startLevel := level } } level
    else wf s R.RST_STATUS F.RST_STATUS_last_level h
  else if bringUp s then
    let l := max level s.rst.startLevel
    fallInto (failStart (wf s R.RST_STATUS F.RST_STATUS_last_level l)) l reason (decide (2 ≤ src))
  else fallInto s level reason (decide (2 ≤ src))

/-- A reset source asserts at the level its fuses give, BLOCK apart (R576, R577): `reason` is the detach reason of R566. While the
power-on source holds the device nothing is sampled (R672). -/
def assertSource (s : State) (src reason : Nat) : State :=
  let l := levelOf s src
  if s.rst.powerOn then s
  else if l = 5 then bump s R.RST_IGNORED_CNT 1
  else if l = 0 then markSource s src 0
  else if l = 1 then assertHost (markSource s src 1) reason
  else assertDevice (markSource s src l) src l reason

/-- VDD_AON is lost: the AON row resets too, and the power-on source holds the device (R578, R590, R639, R672). -/
def loseAon (s : State) : State :=
  let s := { s with rst := {} }
  let s := { deviceReset (wf s R.CNT_STATUS F.CNT_STATUS_priv 0) 4 with rst := {} }
  let s := { s with cnt := {}, cmd := {} }
  syncPage (setReg (setReg s R.RST_STATUS 0x800) R.RST_CAUSE 1)

/-! ## Release (R579, R580, R672, R679, R680) -/

def clockLocked (s : State) (d : Nat) : Bool := (reg s R.RST_CLK_STATUS).toNat.testBit d

/-- A domain of the host port or the links, which recovery mode releases too (R591). -/
def recoveryDomain (d : Nat) : Bool := [14, 15, 16, 30, 31].contains d || (decide (32 ≤ d) && decide (d < 40))

/-- A domain held in reset may be released now. -/
def mayRelease (s : State) (d : Nat) : Bool :=
  !s.rst.released.testBit d && clockLocked s d && decide (s.rst.hold = none)
    && (if d = 19 ∨ d = 20 then decide (1 ≤ s.rst.phase)
        else if d = 18 ∨ d = 21 then decide (2 ≤ s.rst.phase)
        else decide (s.rst.phase = 3) || (inRecovery s && decide (2 ≤ s.rst.phase) && recoveryDomain d))

/-- What starts when a domain is released: the training of a stack's link (R349), a retrain after self-refresh (R350), the host port
(R562), port training (R469). The zero-fill of a frond goes on until FROND_INIT_DONE (R142). -/
def onRelease (s : State) (d : Nat) : State :=
  if 22 ≤ d ∧ d < 30 then
    let n := d - 22
    let s := if rb s (R.STK_STATUS n) F.STK_STATUS_self_refresh then wf s (R.STK_STATUS n) F.STK_STATUS_retraining 1 else s
    emit s (.flit n .train)
  else if d = 16 then { s with hst := { s.hst with inReset := false } }
  else if d = 30 ∨ d = 31 then
    forEach (fun s p => if portState s p = 0 ∧ portEnabled s p then setPortState s p 1 else s) (relevel s) ((List.range 12).map (fun i => 12 * (d - 30) + i))
  else s

/-- Release every domain that may be. -/
def releaseDomains (s : State) : State :=
  forEach (fun s d =>
    if mayRelease s d then onRelease { s with rst := { s.rst with released := setBits s.rst.released d 1 1 } } d else s) s (List.range 40)

/-- The hold of a reset of level WARM or above ends: FTM and AON are released, the fuses are sensed at FULL, and bring-up begins
(R580, R589, R620, R659). -/
def releaseDevice (s : State) : State :=
  let full := decide (s.rst.hold = some 4)
  let s := { s with rst := { s.rst with hold := none, powerOn := false, phase := 1 }, ft := 0 }
  let s := if full then { s with mgt := { s.mgt with fuseSensed := s.mgt.fuseSet } } else s
  let s := setReg s R.RST_CLK_STATUS (BitVec.ofNat 64 (2 ^ 19))
  releaseDomains (wf s R.RST_STATUS F.RST_STATUS_sequencing (b2n (!inRecovery s)))

/-- The straps are sampled (R680, R686). -/
def sampleStraps (s : State) (x : Straps) : State :=
  let s := wf s R.DEV_FABRIC_ID F.DEV_FABRIC_ID_device x.pos
  { s with hst := { s.hst with farX16 := !x.farX4 } }

/-- A clock runs: MGT and DBG follow FTM, and what waited for the clock is released (R579, R580, R652). -/
def gainLock (s : State) (d : Nat) (x : Straps) : State :=
  let up : Bool := match s.rst.hold with
    | some h => decide (h < 2)
    | none => true
  if !up ∨ 40 ≤ d ∨ s.rst.phase = 0 then s
  else
    let s := setReg s R.RST_CLK_STATUS (BitVec.ofNat 64 (setBits (reg s R.RST_CLK_STATUS).toNat d 1 1))
    let s := if s.rst.phase = 1 ∧ clockLocked s 18 ∧ clockLocked s 20 ∧ clockLocked s 21 then
        let s := sampleStraps { s with rst := { s.rst with phase := 2 } } x
        if inRecovery s then { s with mgt := { s.mgt with running := 2 } } else s
      else s
    releaseDomains s

end Sys2Proof.Machine
end

