-- ==== Sys2Proof/Machine/BlockReset.lean ====
section
/-! DEFINITION. BLOCK resets: the quiesce handshake (R583 to R585), what each block does when asked to go idle, and what its reset
leaves (R47, R140, R141, R184, R185, R222, R223, R262, R263, R312, R313, R351, R428, R429, R457, R494, R495). -/

namespace Sys2Proof.Machine

/-- A block code of R585 and the index in the block's kind. -/
def blockListed (c : Nat) : Bool := decide (c ≤ 0x36)

/-- The block stops taking new work (R140, R184, R312); the others check idleAsked where they accept work. -/
def askIdle (s : State) (c : Nat) : State :=
  if c < 0x20 then modFrond s c (fun x => { x with halted := true })
  else if c = 0x30 then forEach abandonPage s ((s.tier.migs.filter (fun m => decide (m.pass < 3))).map (·.page))
  else s

/-- A slot of frond `f` is being read by a drain other than a SPORE program's. -/
def drainsNow (s : State) (f : Nat) : Bool :=
  [0, 1].any (fun k => decide (slotState s f k = 3) && ((slotOf s f k).op.bind (productAt s f)).any (fun p => decide (2 ≤ dDrain p.2)))

/-- The block has gone idle: of a frond no pass, drain, move, group or row goes on (R140, R184), sent deltas are committed (R262), no
final pass (R312), no accepted transaction and no row repair (R351) is in progress, and a link die has sent what its output queues held
(R494; a message that has fully landed stays there only while its unit accepts none). -/
def blockIdle (s : State) (c : Nat) : Bool :=
  if c < 0x20 then (engOf s c).run.isNone && !drainsNow s c && (frondOf s c).move.isNone && (frondOf s c).sent.isEmpty
  else if c < 0x28 then s.sor.commit.all (fun x => decide (x.stack ≠ c - 0x20))
  else if c < 0x30 then (stackOf s (c - 0x28)).failing.isEmpty && !(stackOf s (c - 0x28)).waiting.any (·.sent)
  else if c = 0x30 then s.tier.migs.isEmpty
  else if c < 0x35 then true
  else ((List.range 12).map (fun i => 12 * (c - 0x35) + i)).all (fun p => (portOf s p).queue.isEmpty)

/-- A frond's BLOCK reset (R124, R141, R185): its list stands at its start, and no op of it issues in the running step. -/
def resetFrond (s : State) (f : Nat) : State :=
  let s := resetBlockRegs s 10 f (fun _ => false)
  modFrond s f (fun x => { x with
    head := 0, headW := 0, done := 0, next := none, slots := [{}, {}], array := none, shadow := [], crozier := [], engQ := []
    eng := {}, move := none, sent := [], halted := true })

/-- A sorus engine's BLOCK reset (R262, R263): pending entries go to the spill ring ahead of those there; the rows of commits that the
timeout found unfinished are committed after it, so that they end as without the reset (DEDUCED, log 118). -/
def resetSorus (s : State) (n : Nat) : State :=
  let k := (s.sor.pend.filter (fun x => x.stack = n && !x.spilled)).length
  let s := bump s (R.SOR_UPD_SPILL_CNT n) k
  let s := resetBlockRegs s 11 n (fun r => r = R.SOR_UPD_STATUS n)
  { s with sor := { s.sor with
      pend := s.sor.pend.map (fun (x : PendEntry) => if x.stack = n then { x with spilled := true } else x) } }

/-- A base die's BLOCK reset (R351): the DRAM stays in self-refresh, its contents, repairs and marks stay; transactions it has not
accepted wait on the compute die. -/
def resetBaseDie (s : State) (n : Nat) : State :=
  let st := R.STK_STATUS n
  let m := rf s st F.STK_STATUS_marked
  let d := rf s st F.STK_STATUS_degraded
  let s := resetBlockRegs s 12 n (keepReg 2)
  let s := wf (wf (wf s st F.STK_STATUS_marked m) st F.STK_STATUS_degraded d) st F.STK_STATUS_self_refresh 1
  modStack s n (fun x => {
    rowSpares := x.rowSpares, bankSpares := x.bankSpares, poison := x.poison, waiting := x.waiting.filter (fun q => !q.sent) })

/-- The tier manager's BLOCK reset (R313). -/
def resetTier (s : State) : State :=
  let s := forEach (fun s (m : Migration) => releaseHeld (endMig s m.page) m.held) s s.tier.migs
  let s := resetBlockRegs s 8 0 (fun r => r = R.TIER_STATUS || r = R.TIER_RANGE || r = R.TIER_HEAT_EPOCH)
  { s with tier := { s.tier with
      queue := [], demoting := false, demoteSel := [], abandoned := [], rebal := [], draining := [], scanPos := 0, boundRise := 0
      promoted := 0, demoted := 0, rebalanced := 0, touches := List.replicate 8 0 } }

/-- A link die's BLOCK reset (R495): ports DOWN, buffers empty. -/
def resetLinkDie (s : State) (die : Nat) : State :=
  let ps := (List.range 12).map (fun i => 12 * die + i)
  let s := forEach (fun s p => modPort (leaveUp s p 0) p (fun _ => {})) s ps
  let s := resetBlockRegs s 13 die (fun _ => false)
  let s := { s with shk := { s.shk with
      inFlows := s.shk.inFlows.map (fun (f : FlowIn) => match f.landing with
        | some l => if l.die = die then { f with landing := none } else f
        | none => f)
      blocked := s.shk.blocked.filter (fun b => decide (b.port / 12 ≠ die)) } }
  relevel s

/-- The reset of a block is asserted (R583 step 3). -/
def assertBlock (s : State) (c : Nat) : State :=
  if c < 0x20 then resetFrond s c
  else if c < 0x28 then resetSorus s (c - 0x20)
  else if c < 0x30 then resetBaseDie s (c - 0x28)
  else if c = 0x30 then resetTier s
  else if c = 0x31 then
    resetBlockRegs s 9 0 (fun r => r = R.SCL_LOSS || r = R.SCL_FLAGS || r = R.SCL_STATUS)
  else if c = 0x32 then resetLoader s
  else if c < 0x35 then resetBlockRegs (clearPairs s (c - 0x33)) 14 (c - 0x33) (fun _ => false)
  else resetLinkDie s (c - 0x35)

/-- The handshake of a BLOCK reset starts (R583, R585); a block that a higher reset holds is being reset already (R586). -/
def startBlock (s : State) (c : Nat) (soft : Bool) : State :=
  if s.rst.phase ≠ 3 ∨ s.rst.hold.isSome ∨ s.rst.block.isSome then s
  else
    let q := R.RST_QUIESCE
    let s := wf (wf (wf s q F.RST_QUIESCE_block c) q F.RST_QUIESCE_step 2) q F.RST_QUIESCE_timed_out 0
    let s := wf (wf s q F.RST_QUIESCE_elapsed 0) R.RST_STATUS F.RST_STATUS_block_busy 1
    let s := wf s R.RST_BLOCK F.RST_BLOCK_busy (b2n soft)
    askIdle { s with rst := { s.rst with block := some c, blockAt := s.ft, asserted := false } } c

/-- Work the block has accepted and not retired (R19, R140, R184, R223, R584). -/
def unretired (s : State) (c : Nat) : List Work :=
  if c < 0x20 then
    let x := frondOf s c
    let ops := x.slots.filterMap (·.op) ++ x.engQ ++ (x.eng.run.map (·.op)).toList ++ (x.move.map (·.op)).toList ++ x.sent
    (ops.eraseDups.map (Work.op c x.step)).filter (fun w => !s.seq.notDone.contains w)
  else if c < 0x28 then
    ((s.sor.batches.filter (fun b => b.home = c - 0x20 && !b.complete)).map (fun b => Work.lookup b.table b.step b.mb))
    ++ ((s.sor.commit.filter (fun x => x.stack = c - 0x20)).map (fun x => Work.commit x.table x.step x.row))
  else if c < 0x30 then ((stackOf s (c - 0x28)).waiting.filter (·.sent)).map (fun q => Work.transaction (c - 0x28) q.tx)
  else if c = 0x30 then s.tier.migs.map (fun m => Work.migration m.page)
  else if c = 0x31 then s.scl.runs.map (fun r => Work.scale r.own.step)
  else if c = 0x32 then (s.thl.load.map (fun l => Work.load l.cmd)).toList
  else if c < 0x35 then
    (s.rau.reds.filter (fun r => (blockEntry s r.block).any (fun e => e.die = c - 0x33))).map (fun r => Work.reduction r.block r.step)
  else []

/-- The retire point reports the block's unretired work as not done (R19, R584). -/
def reportNotDone (s : State) (c : Nat) : State :=
  { s with seq := { s.seq with notDone := (unretired s c).reverse ++ s.seq.notDone } }

/-- Step 2 of the handshake ends, quiesced or at the timeout: what was waited is recorded, the block's unretired work is reported as
not done, and its reset is asserted. -/
def endWait (s : State) (c : Nat) (out : Bool) : State :=
  let q := R.RST_QUIESCE
  let s := wf s q F.RST_QUIESCE_elapsed (min 0xFFFF ((s.ft - s.rst.blockAt) / 1000))
  let s := wf (wf s q F.RST_QUIESCE_timed_out (b2n out)) q F.RST_QUIESCE_step 3
  assertBlock (reportNotDone { s with rst := { s.rst with asserted := true } } c) c

end Sys2Proof.Machine
end

