-- ==== Sys2Proof/Machine/Management.lean ====
section
/-! DEFINITION. The management controller: requests and responses (R647 to R650), firmware image (R651, R652, R654), presence, fuses
(R655, R656, R658, R659), evidence (R661). -/

namespace Sys2Proof.Machine

/-! ## Responses (R648, R650, R663) -/

/-- The bytes of a response. -/
def mgtBytes (r : MgtReq) (status : Nat) (body : List Byte) : List Byte :=
  leBytes 1 r.opcode ++ leBytes 1 status ++ leBytes 2 body.length ++ leBytes 4 r.tag ++ body

/-- Answer a request: on the mailbox the response goes to MGT_RSP and event 150 is raised. -/
def respond (s : State) (r : MgtReq) (status : Nat) (body : List Byte) : State :=
  let bs := mgtBytes r status body
  if r.iface = 2 then
    let s := forEach (fun s (x : List Byte × Nat) => setReg s (R.MGT_RSP x.2) (BitVec.ofNat 64 (leVal x.1))) s (chunksOf 8 bs).zipIdx
    let m := R.MGT_STATUS
    let s := wf (wf s m F.MGT_STATUS_rsp_len bs.length) m F.MGT_STATUS_rsp_status status
    let s := wf (wf s m F.MGT_STATUS_done 1) m F.MGT_STATUS_busy 0
    evgFireIf s (rb s R.MGT_CTL F.MGT_CTL_done_event_en) 150
  else emit s (.response r.iface status bs)

/-! ## The firmware image (R651, R652) -/

def flashByte (s : State) (a : Nat) : Byte := (spGet none s.mgt.flash a).getD (Config.factoryFlash a)
def flashBytes (s : State) (a n : Nat) : List Byte := (List.range n).map (fun i => flashByte s (a + i))

/-- Length of the body as the header gives it. -/
def fwBody (s : State) : Nat := leVal (flashBytes s 0xC 4)
def fwVersion (s : State) : Nat := leVal (flashBytes s 4 4)
def fwSvn (s : State) : Nat := leVal (flashBytes s 8 4)

/-- Header and body, which the signature covers. -/
def fwSigned (s : State) : List Byte := flashBytes s 0 (64 + fwBody s)

/-- The contents of `n` fuse words from `w` on, as bytes. -/
def fuseBytes (f : Nat → Nat) (w n : Nat) : List Byte := (List.range n).flatMap (fun i => leBytes 4 (f (w + i)))

/-- The image in the flash passes every check of R652. -/
def fwOk (s : State) : Bool :=
  let t := flashBytes s (64 + fwBody s) 208
  let key := (t.drop 8).take 97
  let svnFuses := (setBitsOf 32 (fuseWord s 3)).length + (setBitsOf 32 (fuseWord s 4)).length
  decide (leVal (flashBytes s 0 4) = 0x574D4650) && decide (fwSvn s ≤ 64) && decide (fwBody s ≤ 0x80_0000)
    && decide (leVal (flashBytes s 0x10 0x30) = 0)
    && decide (fieldAt t 0 4 = 0x4E474953) && decide (fieldAt t 4 2 = 208) && decide (fieldAt t 6 1 = 0) && decide (fieldAt t 7 1 = 0)
    && decide (fieldAt t 0x69 7 = 0) && decide (fieldAt t 8 1 = 4)
    && decide (sha384 key = fuseBytes (fuseWord s) 56 12) && decide (svnFuses ≤ fwSvn s)
    && ecdsaVerify ((key.drop 1).take 48) (key.drop 49) (sha384 (fwSigned s)) ((t.drop 0x70).take 48) ((t.drop 0xA0).take 48)

/-! ## What requests read -/

def pad48 (bs : List Byte) : List Byte := (bs ++ List.replicate 48 0).take 48

/-- A digest of six registers, in hash output order. -/
def digestBytes (s : State) (r : Nat → Nat) : List Byte := (List.range 6).flatMap (fun k => leBytes 8 (reg s (r k)).toNat)

/-- GET_DIGESTS (R63). -/
def digestBody (s : State) : List Byte :=
  digestBytes s R.THL_ACTIVE_DIGEST ++ digestBytes s R.THL_STAGED_DIGEST ++ pad48 s.thl.activeStruct ++ pad48 s.thl.stagedStruct
    ++ leBytes 4 (rf s R.THL_EPOCH F.THL_EPOCH_epoch)

/-- GET_TELEMETRY (R649): registers in its order, each in its own width. -/
def telemetryBody (s : State) : List Byte :=
  [R.RST_STATUS, R.RST_SUPPLY, R.RST_PWR, R.RST_THERM, R.RST_CAUSE].flatMap (fun r => leBytes 8 (reg s r).toNat)
    ++ (List.range 8).flatMap (fun n => leBytes 4 (reg s (R.STK_TEMP n)).toNat)

/-- READ_COUNTERS: the frozen record, or the live words; CNT_VIEW has no words 0 to 7, which are free values. -/
def counterBody (s : State) (frozen : Bool) : List Byte × State :=
  if frozen then ((List.range 256).flatMap (fun i => leBytes 8 (reg s (R.CNT_FROZEN i)).toNat), s)
  else
    let a := takeFree 256 s
    let b := takeFree 256 a.2
    (leBytes 32 a.1 ++ leBytes 32 b.1 ++ (recordWords s true).flatMap (leBytes 8), b.2)

/-- READ_FUSES: the words as programmed now. -/
def fuseBody (s : State) : List Byte := fuseBytes (fuseNow s) 0 128

/-- Bytes 0x000 to 0x12F of the evidence of R661. -/
def evidence (s : State) (nonce : List Byte) : List Byte :=
  let flags := b2n (inRecovery s) + 2 * b2n s.mgt.debugUnlocked + 4 * b2n (krovatMode s) + 8 * b2n (bitOf (fuseWord s 0) 0)
  (nonce ++ List.replicate 32 0).take 32 ++ pad48 s.mgt.fwDigest ++ digestBytes s R.THL_ACTIVE_DIGEST ++ digestBytes s R.THL_STAGED_DIGEST
    ++ pad48 s.thl.activeStruct ++ sha384 (fuseBody s) ++ leBytes 4 (rf s R.THL_EPOCH F.THL_EPOCH_epoch) ++ leBytes 2 (selfId s)
    ++ leBytes 1 flags ++ leBytes 1 0 ++ leBytes 8 s.ft ++ leBytes 4 (rf s R.MGT_FW F.MGT_FW_svn) ++ leBytes 12 0

/-- The repair log as bytes (R345). -/
def repairBytes (s : State) : List Byte := s.mgt.repairLog.flatMap (fun x => Config.repairEntry x.1 x.2.1 x.2.2.1 x.2.2.2)

/-! ## Requests with an effect -/

def attended (s : State) : Bool := rb s R.MGT_STATUS F.MGT_STATUS_attended
def setAttended (s : State) (b : Bool) : State := wf s R.MGT_STATUS F.MGT_STATUS_attended (b2n b)

/-- Write fuse pairs in turn (R656, R659): status and words written. -/
def writePairs (lost : Option Nat) : Nat → List (List Byte) → State → Nat × Nat × State
  | n, [], s => (0, n, s)
  | n, p :: ps, s =>
    let w := fieldAt p 0 1
    if lost = some n then (4, n, setAttended s false)
    else if 56 ≤ w then (2, n, s)
    else
      let old := spGet 0 s.mgt.fuseSet w
      writePairs lost (n + 1) ps { s with mgt := { s.mgt with fuseSet := spSet 0 s.mgt.fuseSet w (old ||| fieldAt p 4 4) } }

/-- WRITE_FUSES (R659). -/
def writeFuses (s : State) (r : MgtReq) : State :=
  let ps := chunksOf 8 r.body
  if r.body.length % 8 ≠ 0 ∨ ps.any (fun p => decide (fieldAt p 1 3 ≠ 0)) then respond s r 2 []
  else
    let x := writePairs r.env.lostAfter 0 ps s
    respond x.2.2 r x.1 (if x.1 = 4 then Config.progressBytes x.2.1 else [])

/-- FW_LOAD (R654, R656, R592). -/
def fwLoad (s : State) (r : MgtReq) : State :=
  let off := fieldAt r.body 0 4
  let flags := fieldAt r.body 4 1
  let data := r.body.drop 8
  if r.body.length < 8 ∨ 1 < flags ∨ fieldAt r.body 5 3 ≠ 0 then respond s r 2 []
  else if !r.env.flashOk then respond s r 8 []
  else
    let put (m : Sparse (Option Byte)) (x : Byte × Nat) : Sparse (Option Byte) := spSet none m (off + x.2) (some x.1)
    let s := { s with mgt := { s.mgt with flash := data.zipIdx.foldl put s.mgt.flash } }
    if r.env.lostAfter.isSome then respond (setAttended s false) r 4 (Config.progressBytes data.length)
    else if flags = 1 then
      if fwOk s then respond { s with rst := { s.rst with imageLoaded := s.rst.imageLoaded || inRecovery s } } r 0 []
      else respond s r 7 []
    else respond s r 0 []

/-- MARGIN starts a run (R346, R347); its response follows the run. -/
def beginMargin (s : State) (r : MgtReq) : State :=
  let n := fieldAt r.body 0 1
  let c := fieldAt r.body 1 1
  let d := fieldAt r.body 2 1
  let refuse (e : Nat) : State := respond (wf s (R.STK_MRG_STATUS n) F.STK_MRG_STATUS_error e) r 9 []
  let st := R.STK_STATUS n
  let idle := stackOpen s n && !rb s st F.STK_STATUS_mrg_active && (stackOf s n).waiting.isEmpty && (stackOf s n).failing.isEmpty
  if r.body.length ≠ 3 ∨ 8 ≤ n then respond s r 2 []
  else if imageActive s ∨ !capFused s 0xA then refuse 1
  else if 32 ≤ c ∨ 2 ≤ d then refuse 3
  else if !idle then refuse 2
  else
    let g := R.STK_MRG_STATUS n
    let s := wf (wf (wf s g F.STK_MRG_STATUS_error 0) g F.STK_MRG_STATUS_channel c) g F.STK_MRG_STATUS_dir d
    let s := wf (wf s g F.STK_MRG_STATUS_done 0) g F.STK_MRG_STATUS_running 1
    let s := wf s (R.STK_STATUS n) F.STK_STATUS_mrg_active 1
    { s with mgt := { s.mgt with margin := some (r, n) } }

/-- A one-byte body that is 0 or 1. -/
def flagBody (r : MgtReq) : Option Bool :=
  if r.body.length = 1 ∧ fieldAt r.body 0 1 ≤ 1 then some (decide (fieldAt r.body 0 1 = 1)) else none

/-- Requests that need presence, and those served in recovery mode (R649). -/
def needsPresence (op : Nat) : Bool := [8, 9, 0xA, 0xB].contains op
def servedInRecovery (op : Nat) : Bool := !([4, 0xD, 0xE, 0xF].contains op)

/-- The effect of a request that R649 and R656 let start. -/
def mgtEffect (s : State) (r : MgtReq) : State :=
  match r.opcode with
  | 1 => respond s r 0 (Config.infoBytes (rf s R.DEV_ID F.DEV_ID_part) (rf s R.DEV_ID F.DEV_ID_stepping) (selfId s)
      (rf s R.MGT_FW F.MGT_FW_version) (rf s R.MGT_FW F.MGT_FW_svn) (reg s R.RST_STATUS).toNat)
  | 2 => respond s r 0 (digestBody s)
  | 3 => respond s r 0 (telemetryBody s)
  | 4 => match flagBody r with
    | some b => let x := counterBody s b; respond x.2 r 0 x.1
    | none => respond s r 2 []
  | 5 => respond s r 0 (Config.certChain.take 4088)
  | 6 =>
    if r.body.length ≠ 32 then respond s r 2 []
    else let e := evidence s r.body; respond s r 0 (e ++ (Config.attestSign e ++ List.replicate 96 0).take 96)
  | 7 => respond s r 0 (fuseBody s)
  | 8 => writeFuses s r
  | 9 => if bitOf (fuseWord s 0) 5 then respond s r 9 []
    else respond { s with mgt := { s.mgt with debugUnlocked := true } } r 0 []
  | 0xA => fwLoad s r
  | 0xB => match flagBody r with
    | some b => if capFused s 8 then respond { s with cnt := { s.cnt with privNext := some b } } r 0 [] else respond s r 9 []
    | none => respond s r 2 []
  | 0xC => assertSource (respond s r 0 []) 6 6
  | 0xD => beginMargin s r
  | 0xE => match flagBody r with
    | some b => respond (wf s R.WIN_CTL F.WIN_CTL_raw_ok (b2n b)) r 0 []
    | none => respond s r 2 []
  | 0xF => respond (enterFailed s 7) r 0 []
  | 0x10 =>
    if r.body.length ≠ 4 then respond s r 2 []
    else respond s r 0 (((repairBytes s).drop (fieldAt r.body 0 4)).take 4088)
  | _ => respond s r 1 []

/-- Execute a request (R649, R656): unknown opcode, mode and presence are checked first, in this order. -/
def mgtServe (s : State) (r : MgtReq) : State :=
  if r.opcode = 0 ∨ 0x10 < r.opcode then respond s r 1 []
  else if (inRecovery s || decide (s.mgt.running = 2)) && !servedInRecovery r.opcode then respond s r 5 []
  else if needsPresence r.opcode && !attended s then respond s r 3 []
  else mgtEffect s r

/-- The controller can begin a request: it runs, and none executes (R647). -/
def mgtFree (s : State) : Bool := decide (2 ≤ s.rst.phase) && decide (s.mgt.running ≠ 0) && s.mgt.margin.isNone

/-- Execute waiting requests, oldest first, while the controller is free (fuel: their number). -/
def mgtPump : Nat → State → State
  | 0, s => s
  | k + 1, s =>
    match s.mgt.waiting with
    | [] => s
    | r :: rs => if mgtFree s then mgtPump k (mgtServe { s with mgt := { s.mgt with waiting := rs } } r) else s

/-- The interface holds a request that waits or executes. -/
def ifaceBusy (s : State) (i : Nat) : Bool :=
  s.mgt.waiting.any (fun r => r.iface = i) || (match s.mgt.margin with
    | some m => decide (m.1.iface = i)
    | none => false)

/-- A request arrives (R647); while MGT is in reset nothing takes it. -/
def mgtArrive (s : State) (r : MgtReq) : State :=
  if s.rst.phase < 2 then s
  else if ifaceBusy s r.iface then respond s r 6 []
  else if mgtFree s ∧ s.mgt.waiting = [] then mgtServe s r
  else { s with mgt := { s.mgt with waiting := s.mgt.waiting ++ [r] } }

/-- A write of MGT_CTL (R647, R663). -/
def mgtCtlWrite (s : State) (v : Nat) (env : MgtEnv) : State :=
  let s := wf s R.MGT_CTL F.MGT_CTL_done_event_en (v % 2)
  if !bitOf v 31 ∨ rb s R.MGT_STATUS F.MGT_STATUS_busy ∨ s.rst.phase < 2 then s
  else
    let h := leBytes 8 (reg s (R.MGT_REQ 0)).toNat
    let n := fieldAt h 2 2
    let data := (List.range 511).flatMap (fun i => leBytes 8 (reg s (R.MGT_REQ (i + 1))).toNat)
    let s := wf (wf s R.MGT_STATUS F.MGT_STATUS_done 0) R.MGT_STATUS F.MGT_STATUS_busy 1
    let r : MgtReq := ⟨2, fieldAt h 0 1, fieldAt h 4 4, data.take n, env⟩
    if 4088 < n then respond s r 2 [] else mgtArrive s r

end Sys2Proof.Machine
end

