-- ==== Sys2Proof/Machine/StackCmds.lean ====
section
/-! DEFINITION. The rows of the base dies (R315 to R351). -/

namespace Sys2Proof.Machine

/-- An event of a stack that exists. -/
def onStack (n : Nat) (g : State → State) (s : State) : State := if n < 8 then g s else s

/-- The accesses that waited for a stack go on: its transactions, then whatever else waited. -/
def stackGoesOn (s : State) (n : Nat) : State := pumpRau (resumeAll (pumpTx s n))

/-- Transactions that waited have executed: whatever waited behind them goes on (R323). -/
def txsGone (s t : State) (n : Nat) : State :=
  if (stackOf t n).waiting.length < (stackOf s n).waiting.length then resumeAll t else t

/-- RD64 (R318). -/
def execRd64 (stack tag off : Nat) (err : LineErr) (s : State) : Host.Outcome State Fault Refusal :=
  .next (onStack stack (fun s => takeTx s stack (.rd64 tag off err)) s)

/-- RD256 (R318). -/
def execRd256 (stack tag off : Nat) (errs : List LineErr) (s : State) : Host.Outcome State Fault Refusal :=
  .next (onStack stack (fun s => takeTx s stack (.rd256 tag off errs)) s)

/-- WR64 (R318, R325). -/
def execWr64 (stack tag off mask : Nat) (bytes : List Byte) (err : LineErr) (s : State) : Host.Outcome State Fault Refusal :=
  .next (onStack stack (fun s => takeTx s stack (.wr64 tag off mask bytes err)) s)

/-- WR256 (R318). -/
def execWr256 (stack tag off : Nat) (bytes : List Byte) (s : State) : Host.Outcome State Fault Refusal :=
  .next (onStack stack (fun s => takeTx s stack (.wr256 tag off bytes)) s)

/-- MSG (R318). -/
def execMsg (stack : Nat) (m : Message) (s : State) : Host.Outcome State Fault Refusal :=
  .next (onStack stack (fun s => takeTx s stack (.msg m)) s)

/-- D2D_FLIT (R317, R319, R320). -/
def execD2dFlit (stack : Nat) (up : Bool) (header : Nat) (rest : List Byte) (s : State) : Host.Outcome State Fault Refusal :=
  .next (onStack stack (fun s => txsGone s (takeFlit s stack up (leBytes 4 header ++ rest)) stack) s)

/-- D2D_LINK_CONTROL (R319). -/
def execD2dLinkControl (stack : Nat) (up nak : Bool) (seq : Nat) (s : State) : Host.Outcome State Fault Refusal :=
  .next (onStack stack (fun s => txsGone s (takeControlFlit s stack up nak seq) stack) s)

/-- D2D_RETRAIN_DONE: a training ends (R320, R321, R349). -/
def execD2dRetrainDone (stack : Nat) (r : TrainingEnd) (s : State) : Host.Outcome State Fault Refusal :=
  .next (onStack stack (fun s => stackGoesOn (retrainEnd s stack r.good r.down r.up) stack) s)

/-- PATROL_SCRUB (R338). -/
def execPatrolScrub (stack : Nat) (err : LineErr) (s : State) : Host.Outcome State Fault Refusal :=
  .next (onStack stack (fun s => scrubLine s stack err) s)

/-- REFRESH: a refresh interval comes due; the burst times it costs, summed over channels, are counted, a new ref_allbank applies from it
on (R331), and what errs in the cells since the last one is there for the next reads to meet (R332; DESIGN CHOICE, log 143). -/
def execRefresh (stack : Nat) (r : RefreshEnd) (s : State) : Host.Outcome State Fault Refusal :=
  .next (onStack stack (fun s =>
    let all := rb s (R.STK_CTL stack) F.STK_CTL_ref_allbank
    let old (e : Nat × LineErr) : Bool := r.errs.all (fun x => decide (x.1 ≠ e.1))
    bump (modStack s stack (fun x => { x with allBank := all, errs := x.errs.filter old ++ r.errs })) (R.STK_REFRESH_TIME stack) r.lost) s)

/-- ROW_REPAIR_DONE (R340). -/
def execRowRepairDone (stack channel frame : Nat) (s : State) : Host.Outcome State Fault Refusal :=
  .next (onStack stack (fun s => stackGoesOn (repairDone s stack channel frame) stack) s)

/-- STACK_INIT_DONE: the link is trained, the repair log applied and the zero-fill done; accesses are accepted (R349). -/
def execStackInitDone (stack : Nat) (s : State) : Host.Outcome State Fault Refusal :=
  .next (onStack stack (fun s =>
    let st := R.STK_STATUS stack
    if !s.rst.released.testBit (22 + stack) || rb s st F.STK_STATUS_init_done || rb s st F.STK_STATUS_retraining || (stackOf s stack).lost
    then s else stackGoesOn (initDone s stack) stack) s)

end Sys2Proof.Machine
end

