-- ==== Sys2Proof/Machine/ManagementCmds.lean ====
section
/-! DEFINITION. The rows of the management controller (R645 to R663). A request row stands for its arrival on an MCTP interface. -/

namespace Sys2Proof.Machine

/-- A control message is answered while the controller runs (R646). -/
def mctpAnswer (s : State) (iface : Nat) (body : List Byte) : State :=
  if s.rst.phase < 2 ∨ s.mgt.running = 0 then s else emit s (.response iface 0 body)

/-- SET_ENDPOINT_ID (R646); endpoint IDs 0 and 255 are no IDs (PRESUMED, log 69). -/
def execSetEndpointId (iface eid : Nat) (s : State) : Host.Outcome State Fault Refusal :=
  .next (if s.rst.phase < 2 ∨ s.mgt.running = 0 then s
  else if eid = 0 ∨ 255 ≤ eid then mctpAnswer s iface (Config.mctpBody 1 eid)
  else mctpAnswer { s with mgt := { s.mgt with eids := modAt (fun _ => eid) s.mgt.eids iface } } iface (Config.mctpBody 1 eid))

/-- GET_ENDPOINT_ID (R646). -/
def execGetEndpointId (iface : Nat) (s : State) : Host.Outcome State Fault Refusal :=
  .next (mctpAnswer s iface (Config.mctpBody 2 (s.mgt.eids.getD iface 0)))

/-- GET_MCTP_VERSION_SUPPORT (R646). -/
def execGetMctpVersionSupport (iface ty : Nat) (s : State) : Host.Outcome State Fault Refusal :=
  .next (mctpAnswer s iface (Config.mctpBody 4 ty))

/-- GET_MESSAGE_TYPE_SUPPORT (R646): the management messages are of type 0x7E. -/
def execGetMessageTypeSupport (iface : Nat) (s : State) : Host.Outcome State Fault Refusal :=
  .next (mctpAnswer s iface (Config.mctpBody 5 0x7E))

/-- GET_VENDOR_DEFINED_MESSAGE_SUPPORT (R646). -/
def execGetVendorDefinedMessageSupport (iface selector : Nat) (s : State) : Host.Outcome State Fault Refusal :=
  .next (mctpAnswer s iface (Config.mctpBody 6 selector))

def execGetInfo (iface tag : Nat) (s : State) : Host.Outcome State Fault Refusal := .next (mgtArrive s { iface := iface, opcode := 1, tag := tag, body := [] })

def execGetDigests (iface tag : Nat) (s : State) : Host.Outcome State Fault Refusal := .next (mgtArrive s { iface := iface, opcode := 2, tag := tag, body := [] })

def execGetTelemetry (iface tag : Nat) (s : State) : Host.Outcome State Fault Refusal := .next (mgtArrive s { iface := iface, opcode := 3, tag := tag, body := [] })

def execReadCounters (iface tag : Nat) (body : List Byte) (s : State) : Host.Outcome State Fault Refusal :=
  .next (mgtArrive s { iface := iface, opcode := 4, tag := tag, body := body })

def execGetCerts (iface tag : Nat) (s : State) : Host.Outcome State Fault Refusal := .next (mgtArrive s { iface := iface, opcode := 5, tag := tag, body := [] })

def execChallenge (iface tag : Nat) (body : List Byte) (s : State) : Host.Outcome State Fault Refusal :=
  .next (mgtArrive s { iface := iface, opcode := 6, tag := tag, body := body })

def execReadFuses (iface tag : Nat) (s : State) : Host.Outcome State Fault Refusal := .next (mgtArrive s { iface := iface, opcode := 7, tag := tag, body := [] })

def execWriteFuses (iface tag : Nat) (body : List Byte) (env : MgtEnv) (s : State) : Host.Outcome State Fault Refusal :=
  .next (mgtArrive s ⟨iface, 8, tag, body, env⟩)

def execDebugUnlock (iface tag : Nat) (s : State) : Host.Outcome State Fault Refusal := .next (mgtArrive s { iface := iface, opcode := 9, tag := tag, body := [] })

def execFwLoad (iface tag : Nat) (body : List Byte) (env : MgtEnv) (s : State) : Host.Outcome State Fault Refusal :=
  .next (mgtArrive s ⟨iface, 0xA, tag, body, env⟩)

def execSetCounterPriv (iface tag : Nat) (body : List Byte) (s : State) : Host.Outcome State Fault Refusal :=
  .next (mgtArrive s { iface := iface, opcode := 0xB, tag := tag, body := body })

/-- RESET: source 6 asserts once the response has gone (R576, R649). -/
def execReset (iface tag : Nat) (s : State) : Host.Outcome State Fault Refusal := .next (mgtArrive s { iface := iface, opcode := 0xC, tag := tag, body := [] })

def execMargin (iface tag : Nat) (body : List Byte) (s : State) : Host.Outcome State Fault Refusal :=
  .next (mgtArrive s { iface := iface, opcode := 0xD, tag := tag, body := body })

/-- The steps of a pin's sweep that pass in a row from the centre outwards, one way: offset 0 stands at index 32 (R346, R348; a step
beyond a failing one does not count, DEDUCED, log 122). -/
def marginSteps (errors : List Nat) (up : Bool) : Nat :=
  let side := if up then errors.drop 33 else (errors.take 32).reverse
  (side.takeWhile (· = 0)).length

/-- The result word of a pin: centre_fail when its centre fails, and the last passing step on each side of the centre (R348). -/
def marginWord (p : MarginPin) : Nat :=
  let bad := decide (p.timing.getD 32 0 ≠ 0) || decide (p.voltage.getD 32 0 ≠ 0)
  let step (es : List Nat) (up : Bool) : Nat := if bad then 0 else if up then marginSteps es true else (256 - marginSteps es false) % 256
  step p.voltage true <<< 56 + step p.voltage false <<< 48 + step p.timing true <<< 40 + step p.timing false <<< 32 + b2n bad <<< 1 + 1

/-- MARGIN_RUN_DONE: the results of the run's 72 pins become valid and the request is answered (R346 to R348); what waited for the
channel goes on. -/
def execMarginRunDone (stack : Nat) (pins : List MarginPin) (s : State) : Host.Outcome State Fault Refusal :=
  .next (if !rb s (R.STK_MRG_STATUS stack) F.STK_MRG_STATUS_running then s
  else
    let g := R.STK_MRG_STATUS stack
    let s := forEach (fun s (x : MarginPin × Nat) =>
      setReg s (R.STK_MRG_RESULT stack x.2) (BitVec.ofNat 64 (marginWord x.1))) s (pins.take 72).zipIdx
    let s := wf (wf s g F.STK_MRG_STATUS_running 0) g F.STK_MRG_STATUS_done 1
    let s := wf s (R.STK_STATUS stack) F.STK_STATUS_mrg_active 0
    let s := match s.mgt.margin with
      | some m => if m.2 = stack then respond { s with mgt := { s.mgt with margin := none } } m.1 0 [] else s
      | none => s
    mgtPump s.mgt.waiting.length (stackGoesOn s stack))

def execRawWindow (iface tag : Nat) (body : List Byte) (s : State) : Host.Outcome State Fault Refusal :=
  .next (mgtArrive s { iface := iface, opcode := 0xE, tag := tag, body := body })

def execFailDevice (iface tag : Nat) (s : State) : Host.Outcome State Fault Refusal := .next (mgtArrive s { iface := iface, opcode := 0xF, tag := tag, body := [] })

def execGetRepairLog (iface tag : Nat) (body : List Byte) (s : State) : Host.Outcome State Fault Refusal :=
  .next (mgtArrive s { iface := iface, opcode := 0x10, tag := tag, body := body })

/-- MAILBOX_GO: a write of MGT_CTL (R663). -/
def execMailboxGo (v : Nat) (env : MgtEnv) (s : State) : Host.Outcome State Fault Refusal :=
  .next (if rb s R.HST_STATUS F.HST_STATUS_link_up then mgtCtlWrite s v env else s)

/-- WATCHDOG_EXPIRY: source 7 (R576, R662); at BLOCK the management controller alone is reset and boots again (R652). -/
def execWatchdogExpiry (s : State) : Host.Outcome State Fault Refusal :=
  let l := levelOf s 7
  .next (if s.rst.phase < 2 then s
  else if l = 0 then
    let s := markSource s 7 0
    let busy := s.mgt.margin.isSome || !s.mgt.waiting.isEmpty
    let s := if busy then wf s R.MGT_STATUS F.MGT_STATUS_reset_seen 1 else s
    wf { s with mgt := { s.mgt with margin := none, waiting := [], running := if inRecovery s then 2 else 0 } } R.MGT_STATUS F.MGT_STATUS_busy 0
  else assertSource s 7 6)

/-- ATTEND_N: it has been low, or high, for 10 ms without a break (R655). -/
def execAttendN (low : Bool) (s : State) : Host.Outcome State Fault Refusal := .next (setAttended s low)

/-- FW_BOOT_VERIFY_DONE: the boot ROM starts the firmware, which releases the remaining domains, or stays alone (R580, R652). -/
def execFwBootVerifyDone (s : State) : Host.Outcome State Fault Refusal :=
  .next (if s.rst.phase < 2 ∨ s.mgt.running ≠ 0 then s
  else
    let s := if fwOk s then
        let v := fwVersion s
        let n := fwSvn s
        let s := { s with mgt := { s.mgt with running := 1, fwDigest := sha384 (fwSigned s) }, rst := { s.rst with phase := 3 } }
        releaseDomains (wf (wf s R.MGT_FW F.MGT_FW_version v) R.MGT_FW F.MGT_FW_svn n)
      else { s with mgt := { s.mgt with running := 2 } }
    mgtPump s.mgt.waiting.length s)

end Sys2Proof.Machine
end

