-- ==== Sys2Proof/Machine/CommandCmds.lean ====
section
/-! DEFINITION. The rows of the command ring and of the host link (R38 to R56, R533 to R567). A row named after a command stands
for the fetch of its descriptor. -/

namespace Sys2Proof.Machine

def execLoadThallus (h : CmdHead) (src len : Nat) (s : State) : Host.Outcome State Fault Refusal :=
  .next (fetchCmd s h (.loadThallus src len) none)

/-- THALLUS_VERIFY_DONE (R41): `image` is what was read from host memory. -/
def execThallusVerifyDone (image : Option (List Byte)) (genChanged : Bool) (s : State) : Host.Outcome State Fault Refusal :=
  .next (verifyDone s image genChanged)

def execSwitchEpoch (h : CmdHead) (epoch t pfx : Nat) (s : State) : Host.Outcome State Fault Refusal :=
  .next (fetchCmd s h (.switchEpoch epoch t pfx) none)

/-- EPOCH_SWITCH (R56). -/
def execEpochSwitch (t : Nat) (s : State) : Host.Outcome State Fault Refusal := .next (switchNow (advance t s))

def execRunSteps (h : CmdHead) (first t0 ring slotBytes slots line inDev : Nat) (s : State) : Host.Outcome State Fault Refusal :=
  .next (fetchCmd s h (.runSteps first t0 ring slotBytes slots line inDev) none)

def execStopAtStep (h : CmdHead) (step : Nat) (s : State) : Host.Outcome State Fault Refusal := .next (fetchCmd s h (.stopAtStep step) none)

def execAbort (h : CmdHead) (target : Nat) (s : State) : Host.Outcome State Fault Refusal := .next (fetchCmd s h (.abort target) none)

def execCheckpointSave (h : CmdHead) (dest offset len : Nat) (s : State) : Host.Outcome State Fault Refusal :=
  .next (fetchCmd s h (.ckSave dest offset len) none)

def execCheckpointLoad (h : CmdHead) (src len : Nat) (data : Option (List Byte)) (s : State) : Host.Outcome State Fault Refusal :=
  .next (fetchCmd s h (.ckLoad src len 0) data)

def execCheckpointClear (h : CmdHead) (s : State) : Host.Outcome State Fault Refusal := .next (fetchCmd s h (.ckLoad 0 0 1) none)

def execCheckpointRestore (h : CmdHead) (src len : Nat) (data : Option (List Byte)) (s : State) : Host.Outcome State Fault Refusal :=
  .next (fetchCmd s h (.ckLoad src len 2) data)

def execTableSwap (h : CmdHead) (table desc step : Nat) (s : State) : Host.Outcome State Fault Refusal :=
  .next (fetchCmd s h (.tableSwap table desc step) none)

def execGrantPeat (h : CmdHead) (slot addr len : Nat) (s : State) : Host.Outcome State Fault Refusal :=
  .next (fetchCmd s h (.grantPeat slot addr len) none)

def execRevokePeat (h : CmdHead) (slot : Nat) (s : State) : Host.Outcome State Fault Refusal := .next (fetchCmd s h (.revokePeat slot) none)

def execFence (h : CmdHead) (s : State) : Host.Outcome State Fault Refusal := .next (fetchCmd s h .fence none)

def execCounterSnapshot (h : CmdHead) (dest : Nat) (s : State) : Host.Outcome State Fault Refusal := .next (fetchCmd s h (.snapshot dest) none)

def execFreezeAt (h : CmdHead) (t : Nat) (s : State) : Host.Outcome State Fault Refusal := .next (fetchCmd s h (.freezeAt t) none)

def execSetLoss (h : CmdHead) (l step : Nat) (s : State) : Host.Outcome State Fault Refusal :=
  .next (fetchCmd s h (.setScales 0 l 0 0 0 step) none)

def execSetInterval (h : CmdHead) (interval step : Nat) (s : State) : Host.Outcome State Fault Refusal :=
  .next (fetchCmd s h (.setScales 1 0 0 0 interval step) none)

def execLoseHistory (h : CmdHead) (step : Nat) (s : State) : Host.Outcome State Fault Refusal :=
  .next (fetchCmd s h (.setScales 2 0 0 0 0 step) none)

def execSetTensor (h : CmdHead) (tensor e step : Nat) (s : State) : Host.Outcome State Fault Refusal :=
  .next (fetchCmd s h (.setScales 3 0 tensor e 0 step) none)

/-- The watch line is in use (R541). -/
def watching (s : State) : Bool := rb s R.HST_CTL F.HST_CTL_watch_en && rb s R.HST_STATUS F.HST_STATUS_cache_up

/-- WATCH_LINE_INVALIDATE: the line as refetched and the descriptors it names (R541). -/
def execWatchLineInvalidate (produced consumed : Nat) (ds : List Fetched) (s : State) : Host.Outcome State Fault Refusal :=
  .next (if ringsOn s && watching s then readLine s produced consumed ds else s)

/-- CONTROL_LINE_POLL: the line as read and the descriptors it names (R542). -/
def execControlLinePoll (produced consumed : Nat) (ds : List Fetched) (s : State) : Host.Outcome State Fault Refusal :=
  .next (if ringsOn s && !watching s then readLine s produced consumed ds else s)

/-- INPUT_LINE: the number of steps supplied (R551). -/
def execInputLine (supplied : Nat) (s : State) : Host.Outcome State Fault Refusal := .next (inputSeen s supplied)

/-- INPUT_COPY_DONE: the bytes of a step's slot as read (R551). -/
def execInputCopyDone (step : Nat) (bytes : List Byte) (s : State) : Host.Outcome State Fault Refusal := .next (inputCopied s step bytes)

/-- RETIRE: a command arrives at the retire point (R18, R558, R560), or records held are written. -/
def execRetire (index : Nat) (s : State) : Host.Outcome State Fault Refusal :=
  .next (match findCmd s index with
    | none => pumpRecs s
    | some c => if mayRetireCmd s c then startWaiting (retireAt s index (c.fin.getD { status := 0 })) else s)

/-- COMMAND_TIMEOUT (R550). -/
def execCommandTimeout (index t : Nat) (s : State) : Host.Outcome State Fault Refusal :=
  let s := advance t s
  .next (match findCmd s index with
    | none => s
    | some c => if timedOut s c then startWaiting (stopCmd s c 4) else s)

/-- HOST_WRITE_CONFIRM (R563). -/
def execHostWriteConfirm (s : State) : Host.Outcome State Fault Refusal := .next (confirmWrites s)

/-- HOST_PORT_LINK_UP (R562); what waited for the host's grants goes on (R303). -/
def execHostPortLinkUp (width speed : Nat) (cache : Bool) (s : State) : Host.Outcome State Fault Refusal :=
  .next (pumpInput (hostLinkUp s width speed cache))

/-- HOST_RETRAIN (R563, R564). -/
def execHostRetrain (s : State) : Host.Outcome State Fault Refusal := .next (startWaiting (hostRetrain s))

/-- HST_ATTACH: a write of the nonce (R690). -/
def execHstAttach (nonce : Nat) (s : State) : Host.Outcome State Fault Refusal :=
  .next (hostWrites s 0 R.HST_ATTACH (fun s => attach s nonce))

/-- CMD_CFG: a write of the register (R540). -/
def execCmdCfg (req v : Nat) (s : State) : Host.Outcome State Fault Refusal :=
  .next (hostWrites s req R.CMD_CFG (fun s => cmdCfgWrite s v))

end Sys2Proof.Machine
end

