-- ==== Sys2Proof/Machine/EventCmds.lean ====
section
/-! DEFINITION. Commands of the event gatherer (R602 to R616). -/

namespace Sys2Proof.Machine

/-- Claim on a target: the source answered, and the state after; each claim read sets the signalled level to 0 (R608, R609). -/
def evgClaimOn (s : State) (t : Nat) : Nat × State :=
  let s := wf s (R.EVG_TGT_LEVEL t) F.EVG_TGT_LEVEL_signalled 0
  match evgBest s t with
  | none => (0x1FF, s)
  | some src =>
    let p := evgPrio s src
    let s := setPend s src false
    (src, { s with evg := { s.evg with insvc := s.evg.insvc ++ [⟨t, src, p⟩] } })

/-- EVG_CLAIM: a read of EVG_CLAIM[t] (R609). -/
def execEvgClaim (t : Nat) (s : State) : Host.Outcome State Fault Refusal :=
  let r := evgClaimOn s t
  .next (emit r.2 (.readData (.value r.1)))

/-- A write of source `src` to EVG_COMPLETE[t] (R610, R611): what is pending behind the service may be due a message. -/
def evgCompleteOn (s : State) (t src : Nat) : State :=
  if inService s src t then
    let s := { s with evg := { s.evg with insvc := s.evg.insvc.filter (fun e => !(e.source = src && e.target = t)) } }
    let s := if evgPend s src then s else wf s (R.EVG_SRC_CFG src) F.EVG_SRC_CFG_cur_target 0x3F
    let s := forEach (fun s x => if evgCandidate s x (evgTarget s x) then s else evgRoute s x) s (pendingSources s)
    evgNotifyAs false s t
  else wf (wf s R.EVG_ERR F.EVG_ERR_code 1) R.EVG_ERR F.EVG_ERR_source src

/-- EVG_COMPLETE: a write of EVG_COMPLETE[t] (R610). -/
def execEvgComplete (t v : Nat) (s : State) : Host.Outcome State Fault Refusal :=
  .next (evgCompleteOn s t (v % 512))

/-- A write of word `w` of EVG_PEND: pending bits are set and cleared as written (R616). -/
def evgPendWrite (s : State) (w v : Nat) : State :=
  let old := (reg s (R.EVG_PEND w)).toNat
  let s := forEach (fun s b =>
      let src := 32 * w + b
      let s := setPend s src false
      if (s.evg.insvc.any (fun e => e.source = src)) then s else wf s (R.EVG_SRC_CFG src) F.EVG_SRC_CFG_cur_target 0x3F) s
    ((List.range 32).filter (fun b => old.testBit b && !v.testBit b))
  forEach (fun s b => evgPendSource s (32 * w + b)) s ((List.range 32).filter (fun b => !old.testBit b && v.testBit b))

/-- EVG_PEND: a write of EVG_PEND[w] (R616). -/
def execEvgPend (w v : Nat) (s : State) : Host.Outcome State Fault Refusal := .next (evgPendWrite s w v)

/-- Release hold and apply the latched firings in their order (R615). -/
def evgRelease (s : State) : State :=
  let fs := s.evg.latched
  let s := wf { s with evg := { s.evg with latched := [] } } R.EVG_CTL F.EVG_CTL_hold 0
  forEach evgPendSource s fs

/-- A write of EVG_CTL (R615): hold, and hold_exp cleared by writing 1. -/
def evgCtlWrite (s : State) (v : Nat) : State :=
  let s := if bitOf v 1 then wf s R.EVG_CTL F.EVG_CTL_hold_exp 0 else s
  if bitOf v 0 then
    if rb s R.EVG_CTL F.EVG_CTL_hold then s
    else wf { s with evg := { s.evg with holdSince := s.ft } } R.EVG_CTL F.EVG_CTL_hold 1
  else if rb s R.EVG_CTL F.EVG_CTL_hold then evgRelease s else s

/-- HOLD: a write of EVG_CTL (R615). -/
def execHold (v : Nat) (s : State) : Host.Outcome State Fault Refusal := .next (evgCtlWrite s v)

/-- HOLD_EXPIRY: hold has been 1 for 10 µs at time `t` (R615). -/
def execHoldExpiry (t : Nat) (s : State) : Host.Outcome State Fault Refusal :=
  let s := advance t s
  .next (if rb s R.EVG_CTL F.EVG_CTL_hold && decide (s.evg.holdSince + 10000 ≤ s.ft)
    then wf (evgRelease s) R.EVG_CTL F.EVG_CTL_hold_exp 1 else s)

/-- MODERATION_EXPIRY: the interval of a target has passed; its delayed message goes if it is still due (R613). -/
def execModerationExpiry (target t : Nat) (s : State) : Host.Outcome State Fault Refusal :=
  let s := advance t s
  .next (if s.evg.delayed.contains target && evgIntervalOver s target
    then evgNotifyAs false { s with evg := { s.evg with delayed := s.evg.delayed.filter (· ≠ target) } } target else s)

/-- Filter length of an event pin: 0 acts as 1 (EVG_PIN_CFG). -/
def pinFilter (s : State) (i : Nat) : Nat := max 1 (rf s (R.EVG_PIN_CFG i) F.EVG_PIN_CFG_filter)

/-- EVENT_IN: pin EVENT_INi_N has been low for `low` AON cycles (R614). -/
def execEventIn (i low : Nat) (s : State) : Host.Outcome State Fault Refusal :=
  .next (if low < pinFilter s i then bump s R.EVG_FILTERED_CNT 1
    else if rb s (R.EVG_PIN_CFG i) F.EVG_PIN_CFG_state then s
    else evgFire (wf s (R.EVG_PIN_CFG i) F.EVG_PIN_CFG_state 1) (160 + i))

/-- EVENT_IN_RELEASE: pin EVENT_INi_N has been high for `high` AON cycles (R614). -/
def execEventInRelease (i high : Nat) (s : State) : Host.Outcome State Fault Refusal :=
  .next (if pinFilter s i ≤ high then wf s (R.EVG_PIN_CFG i) F.EVG_PIN_CFG_state 0 else s)

end Sys2Proof.Machine
end

