-- ==== Sys2Proof/Machine/ResetCmds.lean ====
section
/-! DEFINITION. The rows of the reset controller (R572 to R592, R672 to R680). -/

namespace Sys2Proof.Machine

/-- START_OK: the firmware runs and every block has reported its initialisation complete (R589, R590, R679, R689). -/
def execStartOk (s : State) : Host.Outcome State Fault Refusal :=
  let ready := (List.range 32).all (fun f => rb s (R.FRD_STATUS f) F.FRD_STATUS_init_done)
    && (List.range 8).all (fun n => rb s (R.STK_STATUS n) F.STK_STATUS_init_done)
  .next (if bringUp s ∧ s.rst.phase = 3 ∧ ready then
    let s := wf (wf s R.RST_STATUS F.RST_STATUS_start_ok 1) R.RST_STATUS F.RST_STATUS_sequencing 0
    setFailPin (wf s R.RST_STATUS F.RST_STATUS_fail_count 0) true
  else s)

/-- START_TIMEOUT: 2 s have passed since release without START_OK (R589 to R591). -/
def execStartTimeout (t : Nat) (s : State) : Host.Outcome State Fault Refusal :=
  let s := advance t s
  .next (if bringUp s ∧ s.rst.hold.getD 0 < 2 then fallInto (failStart s) s.rst.startLevel 6 true else s)

/-- PWR_OK_RISE: the power-on source is released and bring-up begins (R672); another reset waits for its own hold (R673). -/
def execPwrOkRise (s : State) : Host.Outcome State Fault Refusal :=
  let s := { s with rst := { s.rst with pwrOk := true } }
  .next (if s.rst.powerOn then releaseDevice s else s)

/-- PWR_OK_FALL: PWR_OK is low for `ns` (R588, R673). -/
def execPwrOkFall (ns : Nat) (s : State) : Host.Outcome State Fault Refusal :=
  .next (if ns < 20 ∨ !s.rst.pwrOk then s
  else
    let s := { s with rst := { s.rst with pwrOk := false } }
    if s.rst.powerOn then s else assertSource s 1 6)

/-- SUPPLY_RESET: rail `rail` of R668, in its order, stays below its reset level for 20 ns (R594); rail 11 is VDD_AON (R578). -/
def execSupplyReset (rail : Nat) (s : State) : Host.Outcome State Fault Refusal :=
  .next (if rail = 11 then loseAon s else if 11 < rail ∨ s.rst.powerOn then s else assertSource s 1 6)

/-- Domains with a PLL (R572). -/
def hasPll (d : Nat) : Bool := decide (d < 40) && !(decide (6 ≤ d) && decide (d ≤ 15)) && decide (d ≠ 19)

/-- PLL_LOCK_LOSS (R575). -/
def execPllLockLoss (domain : Nat) (s : State) : Host.Outcome State Fault Refusal :=
  .next (if hasPll domain && clockLocked s domain then
    let s := setReg s R.RST_CLK_STATUS (BitVec.ofNat 64 (setBits (reg s R.RST_CLK_STATUS).toNat domain 1 0))
    assertSource (wf s R.RST_CAUSE F.RST_CAUSE_lock_domain domain) 1 6
  else s)

/-- PLL_LOCK: a domain's clock runs (R579, R580); the straps are what the board ties when MGT is released by it (R680). -/
def execPllLock (domain : Nat) (straps : Straps) (s : State) : Host.Outcome State Fault Refusal := .next (gainLock s domain straps)

/-- PERST_N is sampled low for `cycles` AON cycles (R576, R588). -/
def execPerstN (cycles : Nat) (s : State) : Host.Outcome State Fault Refusal :=
  .next (if cycles < 25 then bump s R.RST_FILTERED_CNT 1 else assertSource { s with hst := { s.hst with perstHigh := false } } 2 1)

/-- PERST_N goes high (R562). -/
def execPerstNRelease (s : State) : Host.Outcome State Fault Refusal := .next { s with hst := { s.hst with perstHigh := true } }

/-- The host link is up: a hot reset or FLR can reach the function, and the link can go down. -/
def hostUp (s : State) : Bool := rb s R.HST_STATUS F.HST_STATUS_link_up

/-- HOT_RESET (R576). -/
def execHotReset (s : State) : Host.Outcome State Fault Refusal := .next (if hostUp s then assertSource s 3 2 else s)

/-- FLR (R576). -/
def execFlr (s : State) : Host.Outcome State Fault Refusal := .next (if hostUp s then assertSource s 4 3 else s)

/-- SURPRISE_LINK_DOWN (R303, R576): the link and the host grants are gone whatever the fuses map the source to. -/
def execSurpriseLinkDown (s : State) : Host.Outcome State Fault Refusal :=
  .next (if hostUp s then assertSource (resumeAll (loseGrants (loseHostLink s 4))) 5 4 else s)

/-- FABRIC_RST_N is sampled low for `cycles` AON cycles (R576, R588). -/
def execFabricRstN (cycles : Nat) (s : State) : Host.Outcome State Fault Refusal :=
  .next (if cycles < 250 then bump s R.RST_FILTERED_CNT 1 else assertSource s 9 6)

/-- THERMAL_TRIP: source 8 asserts and holds reset until the sensors have cooled (R600, R677). -/
def execThermalTrip (s : State) : Host.Outcome State Fault Refusal :=
  .next (if s.rst.tripped then s
  else assertSource (emit { s with rst := { s.rst with tripped := true } } (.pin .thermtrip false)) 8 6)

/-- DEBUG_RESET: source 11, with the block it names when the fuses map it to BLOCK (R576, R578). -/
def execDebugReset (block t : Nat) (s : State) : Host.Outcome State Fault Refusal :=
  let s := advance t s
  let s' := assertSource s 11 6
  .next (if levelOf s 11 = 0 ∧ blockListed block then startBlock s' block false else s')

/-- A write of RST_BLOCK (R585). -/
def blockWrite (s : State) (v : Nat) : State :=
  let c := v % 256
  let s := wf s R.RST_BLOCK F.RST_BLOCK_block c
  if !bitOf v 31 then s
  else if !blockListed c ∨ rb s R.RST_BLOCK F.RST_BLOCK_busy then wf s R.RST_BLOCK F.RST_BLOCK_err 1
  else
    let s := wf s R.RST_BLOCK F.RST_BLOCK_err 0
    if levelOf s 10 = 5 then bump s R.RST_IGNORED_CNT 1 else startBlock (markSource s 10 0) c true

/-- RST_BLOCK: a write of the register (R585). -/
def execRstBlock (v t : Nat) (s : State) : Host.Outcome State Fault Refusal := .next (blockWrite (advance t s) v)

/-- QUIESCED: the block reports that it is idle (R583). -/
def execQuiesced (t : Nat) (s : State) : Host.Outcome State Fault Refusal :=
  let s := advance t s
  .next (match s.rst.block with
    | some c => if !s.rst.asserted && blockIdle s c then endWait s c false else s
    | none => s)

/-- QUIESCE_TIMEOUT: the block is not idle when the timeout expires (R584). -/
def execQuiesceTimeout (t : Nat) (s : State) : Host.Outcome State Fault Refusal :=
  let s := advance t s
  let limit := max 1 (rf s R.RST_QUIESCE F.RST_QUIESCE_timeout) * 1000
  .next (match s.rst.block with
    | some c =>
      if !s.rst.asserted && decide (s.rst.blockAt + limit ≤ s.ft) then
        let s := flagEvent (bump s R.RST_QTIMEOUT_CNT 1) R.RST_FLAGS F.RST_FLAGS_qtimeout
          (rb s R.RST_CTL F.RST_CTL_qtimeout_event_en) 147
        endWait s c true
      else s
    | none => s)

/-- RESET_HOLD_EXPIRY: a reset has been held for 1 µs (R579, R583, R600, R673). -/
def execResetHoldExpiry (t : Nat) (s : State) : Host.Outcome State Fault Refusal :=
  .next (match s.rst.hold with
    | some l =>
      if 2 ≤ l then (if s.rst.powerOn ∨ !s.rst.pwrOk ∨ s.rst.tripped then s else releaseDevice s)
      else
        let s := advance t s
        releaseDomains { s with rst := { s.rst with hold := none } }
    | none =>
      let s := advance t s
      match s.rst.block with
      | some c => if s.rst.asserted then endBlock s c else s
      | none => s)

/-- FAR_PERST_N_RELEASE: 100 ms after VDD_PCIE is in range, with the far-memory port out of reset (R679). -/
def execFarPerstNRelease (s : State) : Host.Outcome State Fault Refusal :=
  .next (if s.rst.released.testBit 17 ∧ !s.hst.farPerstHigh then
    emit { s with hst := { s.hst with farPerstHigh := true } } (.pin .farPerst true)
  else s)

end Sys2Proof.Machine
end

