-- ==== Sys2Proof/Machine/RegView.lean ====
section
/-! DEFINITION. What a register reads as (R10, R13, R635 to R638): status fields computed from the state, the capability list
(R64, R65, R571). -/

namespace Sys2Proof.Machine

/-- A value with fields laid over it. -/
def overlay (v : Nat) (fs : List (Field × Nat)) : Nat := fs.foldl (fun v x => setBits v x.1.lo x.1.w x.2) v

/-- A count in a field of `w` bits that saturates at all ones. -/
def cap (w n : Nat) : Nat := min n (2 ^ w - 1)

/-- The block of a code is idle after a quiesce request. -/
def quiet (s : State) (c : Nat) : Nat := b2n (idleAsked s c && blockIdle s c)

/-! ## Blocks -/

/-- DEV (R686, DEV_REC_STATUS). -/
def viewDev (s : State) (r v : Nat) : Nat :=
  let g := groupOf s (selfId s)
  let mates : List LostDev := match g with
    | some (_, ms, _) => s.recov.lost.filter (fun l => ms.contains l.device)
    | none => []
  let missing := mates.any (fun l => !allDone s l.device) || decide (2 ≤ mates.length) || !(lostPages s).isEmpty || !s.recov.lostRows.isEmpty
  let f := F.DEV_REC_STATUS_group
  if r = R.DEV_SERIAL then Config.serial.toNat
  else if r = R.DEV_REC_STATUS then overlay v
    [ (f, ((groups s).findIdx? (fun x => x.2.contains (selfId s))).getD 0),
      (F.DEV_REC_STATUS_k, (g.map (·.1)).getD 0),
      (F.DEV_REC_STATUS_lost, cap 16 s.recov.lost.length),
      (F.DEV_REC_STATUS_stand_in, b2n (!mates.isEmpty)),
      (F.DEV_REC_STATUS_deputy, b2n (mates.any (fun l => deputyOf s l.device = some (selfId s)))),
      (F.DEV_REC_STATUS_paused, b2n s.seq.densePaused),
      (F.DEV_REC_STATUS_degraded, b2n missing),
      (F.DEV_REC_STATUS_rebuilding, b2n (s.recov.lost.any (fun l => l.committed && !allDone s l.device))),
      (F.DEV_REC_STATUS_open, b2n s.recov.open_.isSome) ]
  else v

/-- HST, WIN and CMD. -/
def viewHost (s : State) (r v : Nat) : Nat :=
  if r = R.HST_STATUS then overlay v [ (F.HST_STATUS_held, cap 13 s.cmd.held.length), (F.HST_STATUS_watch, b2n (watching s)) ]
  else if r = R.CMD_STATUS then overlay v
    [ (F.CMD_STATUS_fetched, s.cmd.fetched), (F.CMD_STATUS_in_progress, cap 16 s.cmd.active.length) ]
  else if r = R.MSIX_PBA 0 then (s.evg.msixPend.filter (· < 32)).foldl (fun a t => setBits a t 1 1) 0
  else v

/-- EVG (R604 to R612). -/
def viewEvg (s : State) (r idx v : Nat) : Nat :=
  if r = R.EVG_STATUS then ((pendingSources s).map (evgTarget s)).foldl (fun a t => if t < 33 then setBits a t 1 1 else a) 0
  else if r = R.EVG_INSVC idx then
    s.evg.insvc.foldl (fun a e => if e.source / 32 = idx then setBits a (e.source % 32) 1 1 else a) 0
  else if r = R.EVG_TGT_LEVEL idx then overlay v
    [ (F.EVG_TGT_LEVEL_level, evgLevel s idx),
      (F.EVG_TGT_LEVEL_levels, (s.evg.insvc.filter (fun e => e.target = idx)).foldl (fun a e => setBits a e.prio 1 1) 0 / 2) ]
  else v

/-- CNT (R619, R635). -/
def viewCnt (s : State) (r idx v : Nat) : Nat :=
  if r = R.CNT_FT then s.ft
  else if r = R.CNT_VIEW idx then
    if s.cnt.frozen.isSome then (reg s (R.CNT_FROZEN idx)).toNat else recordWord s idx
  else v

/-- RST (R577, R583, R598). -/
def viewRst (s : State) (r v : Nat) : Nat :=
  if r = R.RST_MAP then resetMap s
  else if r = R.RST_QUIESCE then
    if s.rst.block.isSome && !s.rst.asserted then overlay v [(F.RST_QUIESCE_elapsed, cap 16 ((s.ft - s.rst.blockAt) / 1000))] else v
  else v

/-- THL (R37, R63). -/
def viewThl (s : State) (r v : Nat) : Nat :=
  let set (k : Nat) : Bool := (List.range 12).any (fun i => decide (fuseWord s (8 + 12 * k + i) ≠ 0))
  if r = R.THL_SIGN_STAT then overlay v
    [ (F.THL_SIGN_STAT_revoked, bitsOf (fuseWord s 0) 1 4),
      (F.THL_SIGN_STAT_programmed, (List.range 4).foldl (fun a k => setBits a k 1 (b2n (set k))) 0),
      (F.THL_SIGN_STAT_sign_required, fuseWord s 0) ]
  else v

/-- TIER (R265 to R312). -/
def viewTier (s : State) (r idx v : Nat) : Nat :=
  let src := s.tier.sources.getD idx {}
  if r = R.TIER_STATUS then overlay v
    [ (F.TIER_STATUS_active, cap 16 s.tier.migs.length), (F.TIER_STATUS_queued, cap 16 s.tier.queue.length),
      (F.TIER_STATUS_holding, b2n (s.tier.migs.any (fun m => m.pass = 3))), (F.TIER_STATUS_quiesced, quiet s 0x30),
      (F.TIER_STATUS_busy, b2n (!s.tier.migs.isEmpty)) ]
  else if r = R.TIER_T1_FREE then overlay v [ (F.TIER_T1_FREE_pool, poolTotal s), (F.TIER_T1_FREE_free, freeT1 s) ]
  else if r = R.TIER_SRC_ADDR idx then src.base
  else if r = R.TIER_SRC_INFO idx then overlay v
    [ (F.TIER_SRC_INFO_state, src.state), (F.TIER_SRC_INFO_used, (sourceTaken s idx).length), (F.TIER_SRC_INFO_frames, src.frames) ]
  else v

/-- SCL (R439, R440, R442). -/
def viewScl (s : State) (r v : Nat) : Nat :=
  let x := tensorOf s (rf s R.SCL_TSEL F.SCL_TSEL_tensor)
  if r = R.SCL_STATUS then
    let waits (f : Nat) : Bool := [headOp s f, headW s f].any (fun (o : Option PlanOp) => match o with
      | some o => waitsSet s f o && !scalesReady s f o
      | none => false)
    overlay v [ (F.SCL_STATUS_reducing, b2n !s.scl.runs.isEmpty),
      (F.SCL_STATUS_waiting, b2n (s.seq.step.isSome && (List.range 32).any waits)),
      (F.SCL_STATUS_quiesced, quiet s 0x31), (F.SCL_STATUS_busy, b2n (!s.scl.runs.isEmpty || !s.scl.due.isEmpty)) ]
  else match x with
    | none => v
    | some x =>
      if r = R.SCL_TENSOR then overlay v
        [ (F.SCL_TENSOR_jit_ok, b2n x.jitOk), (F.SCL_TENSOR_kind, x.kind), (F.SCL_TENSOR_sat_last, b2n x.satLast),
          (F.SCL_TENSOR_hist, x.hist.length), (F.SCL_TENSOR_headroom, x.headroom), (F.SCL_TENSOR_fmt, x.fmt),
          (F.SCL_TENSOR_e, ofSigned 8 x.e) ]
      else if r = R.SCL_TAMAX then overlay v [ (F.SCL_TAMAX_hist_max, (histMax x).toNat), (F.SCL_TAMAX_last, x.last.toNat) ]
      else v

/-- FRD of frond `f` (R123, R140, R184, R365 to R368). -/
def viewFrd (s : State) (f r v : Nat) : Nat :=
  let x := frondOf s f
  if r = R.FRD_ID f then overlay v [ (F.FRD_ID_index, f), (F.FRD_ID_quadrant, f / 8) ]
  else if r = R.FRD_STATUS f then overlay v
    [ (F.FRD_STATUS_quiesced, quiet s f), (F.FRD_STATUS_array_busy, b2n x.array.isSome),
      (F.FRD_STATUS_crozier_busy, b2n (!x.crozier.isEmpty)) ]
  else if r = R.FRD_EE_STATUS f then overlay v [ (F.FRD_EE_STATUS_quiesced, quiet s f) ]
  else if r = R.FRD_PLAN_STATUS f then overlay v
    [ (F.FRD_PLAN_STATUS_head, x.head), (F.FRD_PLAN_STATUS_head_w, x.headW),
      (F.FRD_PLAN_STATUS_deferred, if rb s r F.FRD_PLAN_STATUS_running then cap 12 (deferredCount s f) else 0) ]
  else v

/-- SOR of sorus engine `n` (R215 to R223, R236 to R262). -/
def viewSor (s : State) (n r v : Nat) : Nat :=
  let t := tableState s (rf s (R.SOR_TBL_SEL n) F.SOR_TBL_SEL_table)
  let ver (x : Option TableVersion) : Nat := (x.map (fun y => dVersion y.desc)).getD 0
  let now := ver t.versions.head?
  let batches := (s.sor.batches.filter (fun b => b.home = n && !b.complete)).length
  let held := (s.sor.heldReqs.filter (fun x => homeOf s x.2.table = n)).length
  let stage := (s.sor.stage.filter (fun x => x.stack = n)).length
  let pend := (s.sor.pend.filter (fun x => x.stack = n && !x.spilled)).length
  let work := decide (0 < stage + pend) || s.sor.pend.any (fun x => x.stack = n) || s.sor.commit.any (fun x => x.stack = n)
  if r = R.SOR_STATUS n then overlay v
    [ (F.SOR_STATUS_req_batches, cap 16 batches), (F.SOR_STATUS_own_msgs, cap 16 held), (F.SOR_STATUS_quiesced, quiet s (0x20 + n)),
      (F.SOR_STATUS_busy, b2n (0 < batches + held)) ]
  else if r = R.SOR_TBL_CTL n then overlay v
    [ (F.SOR_TBL_CTL_inflight_old, cap 16 (s.sor.batches.filter (fun b => b.table = t.id && !b.complete && b.version ≠ now)).length),
      (F.SOR_TBL_CTL_pending_version, (t.pending.map (fun p => dVersion p.desc)).getD 0),
      (F.SOR_TBL_CTL_old_version, ver (t.versions.drop 1).head?), (F.SOR_TBL_CTL_version, now),
      (F.SOR_TBL_CTL_swap_err, t.swapErr), (F.SOR_TBL_CTL_swap_pending, b2n (t.pending.isSome || t.swapCmd.isSome)),
      (F.SOR_TBL_CTL_live, t.versions.length) ]
  else if r = R.SOR_TBL_SWAP_STEP n then (t.pending.map (·.step)).getD 0
  else if r = R.SOR_UPD_STATUS n then overlay v
    [ (F.SOR_UPD_STATUS_pend, cap 16 pend), (F.SOR_UPD_STATUS_spill, cap 16 (pendUse s n true / 65536)),
      (F.SOR_UPD_STATUS_stage, cap 16 (stage / 1024)), (F.SOR_UPD_STATUS_holding, b2n (0 < held)),
      (F.SOR_UPD_STATUS_det_order, b2n s.sor.detOrder), (F.SOR_UPD_STATUS_quiesced, quiet s (0x20 + n)),
      (F.SOR_UPD_STATUS_busy, b2n work) ]
  else v

/-- STK of stack `n`. -/
def viewStk (s : State) (n r v : Nat) : Nat :=
  let x := stackOf s n
  if r = R.STK_STATUS n then overlay v
    [ (F.STK_STATUS_quiesced, quiet s (0x28 + n)), (F.STK_STATUS_busy, b2n (!x.waiting.isEmpty || !x.failing.isEmpty)) ]
  else v

/-- SHK of a die (R478, R485, R487, R494). -/
def viewShk (s : State) (die r v : Nat) : Nat :=
  let ports := (List.range 12).map (fun i => 12 * die + i)
  if r = R.SHK_ID die then overlay v [ (F.SHK_ID_device, selfId s) ]
  else if r = R.SHK_STATUS die then overlay v
    [ (F.SHK_STATUS_flows, cap 16 (s.shk.outFlows.filter (fun f => !f.unacked.isEmpty && f.die = die)).length),
      (F.SHK_STATUS_up_ports, (List.range 12).foldl (fun a i => setBits a i 1 (b2n (portUp s (12 * die + i)))) 0),
      (F.SHK_STATUS_landing, (s.shk.blocked.filter (fun b => b.port / 12 = die && b.hdr.index = 0)).foldl
        (fun a b => setBits a b.hdr.vc 1 1) 0),
      (F.SHK_STATUS_quiesced, quiet s (0x35 + die)),
      (F.SHK_STATUS_busy, b2n (ports.any (fun p => !(portOf s p).queue.isEmpty))) ]
  else v

/-- RAU of a die (R385 to R428). An apply and an all-gather are one command each, so between commands none is in progress. -/
def viewRau (s : State) (die r v : Nat) : Nat :=
  let bs := (allBlocks s).filter (fun e => e.die = die)
  let mine (b : Nat) : Bool := bs.any (fun e => e.block = b)
  let reducing := s.rau.reds.any (fun x => mine x.block && !x.bitmap.isEmpty)
  let waiting := s.rau.own.isSome
  let replaying := s.rau.blocks.any (fun x => mine x.block && x.replaying)
  if r = R.RAU_ID die then overlay v [ (F.RAU_ID_split_inv, b2n (splitInv s)) ]
  else if r = R.RAU_STATUS die then overlay v
    [ (F.RAU_STATUS_primaries, (bs.filter (isPrimary s)).length),
      (F.RAU_STATUS_replicas, (bs.filter (fun e => isHolder s e && !isPrimary s e)).length),
      (F.RAU_STATUS_replaying, b2n replaying), (F.RAU_STATUS_barrier_wait, b2n waiting), (F.RAU_STATUS_reducing, b2n reducing),
      (F.RAU_STATUS_quiesced, quiet s (0x33 + die)), (F.RAU_STATUS_plan_valid, b2n (shardSec s die).isSome),
      (F.RAU_STATUS_busy, b2n (reducing || waiting || replaying)) ]
  else v

/-- A register's value with its computed fields, by its block. -/
def viewReg (s : State) (h : RegHit) (v : Nat) : Nat :=
  match h.blk with
  | 0 => viewDev s h.start v
  | 1 => viewHost s h.start v
  | 3 => viewHost s h.start v
  | 4 => viewEvg s h.start h.idx v
  | 5 => viewCnt s h.start h.idx v
  | 6 => viewRst s h.start v
  | 7 => viewThl s h.start v
  | 8 => viewTier s h.start h.idx v
  | 9 => viewScl s h.start v
  | 10 => viewFrd s h.inst h.start v
  | 11 => viewSor s h.inst h.start v
  | 12 => viewStk s h.inst h.start v
  | 13 => viewShk s h.inst h.start v
  | 14 => viewRau s h.inst h.start v
  | _ => if h.start = R.MGT_STATUS then overlay v [ (F.MGT_STATUS_recovery, b2n (inRecovery s)) ] else v

/-- What the register of a hit reads as, counts from the frozen view while it lasts (R635). -/
def regValue (s : State) (h : RegHit) : Nat :=
  if h.row.isCount then
    match s.cnt.frozen with
    | some m => if openReg h.start then (Config.openCount s.cnt.frozenKey h.start).toNat
        else (spGet (regReset h.start) m h.start).toNat
    | none => if openReg h.start then (Config.openCount s.free h.start).toNat else (reg (runningCounts s) h.start).toNat
  else viewReg s h (reg s h.start).toNat

/-! ## The capability list (R64, R65, R571) -/

/-- The capabilities of stepping A1: ID, version. -/
def capVersion (id : Nat) : Nat := if id ≤ 2 then 2 else 1

/-- Fields of a capability's first body word above those of R65. -/
def capBody (s : State) (id : Nat) : Nat :=
  match id with
  | 1 => 256 * 2 ^ 8 + 12 * 2 ^ 24
  | 3 => 3 * 2 ^ 8 + 0xFFF * 2 ^ 16
  | 5 => 3 * 2 ^ 8
  | 6 => s.hst.expPresent % 16 * 2 ^ 8 + b2n s.hst.farX16 * 2 ^ 12
  | 7 => b2n s.hst.cacheNegotiated * 2 ^ 8
  | 9 => 4 * 2 ^ 8 + 16 * 2 ^ 16
  | 0xC => 8 * 2 ^ 8
  | _ => 0

/-- A condition of its owning chapter keeps a capability from use (R65): the watch line while CXL.cache is not up (R541), margining
while an image is active (R347). -/
def capHeldBack (s : State) (id : Nat) : Bool :=
  match id with
  | 7 => !s.hst.cacheNegotiated || !rb s R.HST_STATUS F.HST_STATUS_link_up
  | 10 => imageActive s
  | _ => false

/-- The word at a BAR0 offset of the capability list: twelve entries of a header and one body word from 0x100, in ascending ID
(their places: DESIGN CHOICE, log 20). -/
def capWord (s : State) (off : Nat) : Option Nat :=
  if 0x100 ≤ off ∧ off < 0x1C0 ∧ off % 8 = 0 then
    let id := (off - 0x100) / 16 + 1
    let next := if id = 12 then 0 else 0x100 + 16 * id
    if off % 16 = 0 then some (id + capVersion id * 2 ^ 16 + 1 * 2 ^ 24 + next * 2 ^ 32)
    else some (capBody s id + (if !capFused s id then 2 else if capHeldBack s id then 0 else 1))
  else none

end Sys2Proof.Machine
end

