-- ==== Sys2Proof/Machine/RegAccess.lean ====
section
/-! DEFINITION. Accesses of the host to BAR0 and the window BAR2: registers (R10 to R13, R536, R638), regions (R537, R538), violations
(R568 to R570). -/

namespace Sys2Proof.Machine

/-! ## Registers -/

/-- What an access to BAR0 meets: a word of the capability list, a register, two words of the MSI-X table or pending-bit array, or
a violation with its cause. -/
inductive BarTarget where
  | word (v : Nat)
  | reg (h : RegHit)
  | pair (lo hi : RegHit)
  | bad (cause : Nat)
  deriving DecidableEq, Repr

/-- Some byte of [off, off + n) lies in a register or in the capability list. -/
def barTouches (off n : Nat) : Bool :=
  (List.range n).any (fun i => (regHit (off + i)).isSome || decide (0x100 ≤ off + i ∧ off + i < 0x1C0))

/-- The target of an access to `n` bytes at BAR0 offset `off` (R10, R11, R536, R570, R591). A word of the MSI-X table may be accessed
two at a time, as PCIe allows (PRESUMED, log 21). -/
def barTarget (s : State) (off n : Nat) : BarTarget :=
  if !barServed s off then .bad 2
  else match capWord s off, regHit off, regHit (off + 4) with
    | some w, _, _ => if n = 8 then .word w else .bad 1
    | none, some h, h2 =>
      if h.start = off ∧ h.row.w / 8 = n then .reg h
      else match h2 with
        | some g => if n = 8 ∧ off % 8 = 0 ∧ R.MSIX_TABLE 0 ≤ off ∧ off < R.MSIX_PBA 2 then .pair h g else .bad 1
        | none => .bad 1
    | none, none, _ => if barTouches off n then .bad 1 else .bad 2

/-- The register reads as 0 for being global in Krovat compatibility mode (R638). -/
def privReg (s : State) (h : RegHit) : Bool :=
  krovatMode s && ((h.row.isCount && globalReg h.start)
    || ((h.start = R.CNT_VIEW h.idx || h.start = R.CNT_FROZEN h.idx) && globalWord s h.idx))

/-- Reading the register may take an open value. -/
def readsOpen (h : RegHit) : Bool :=
  (h.row.isCount && openReg h.start) || (decide (h.blk = 5) && h.start = R.CNT_VIEW h.idx)

/-- A read of a register: its value, and the state after. -/
def readReg (s : State) (h : RegHit) : Nat × State :=
  if privReg s h then (0, wf (bump s R.CNT_PRIV_CNT 1) R.CNT_FLAGS F.CNT_FLAGS_priv 1)
  else if h.blk = 4 ∧ h.start = R.EVG_CLAIM h.idx then evgClaimOn s h.idx
  else (regValue s h, if readsOpen h then { s with free := s.free + 1 } else s)

/-- Send the MSI-X messages that wait for an entry no longer masked (R605). -/
def msixFlush (s : State) : State :=
  if !s.hst.msixEn then s
  else
    let due := s.evg.msixPend.filter (fun t => !msixMasked s t)
    let s := { s with evg := { s.evg with msixPend := s.evg.msixPend.filter (fun t => !due.contains t) } }
    forEach (fun s t => emit s (.msix t)) s due

/-- The value a plain register takes when `v` is written: its RW bits as written, its RW1C bits cleared where written 1. -/
def writtenValue (row : RegRow) (old v : Nat) : Nat :=
  let kept := old - (old &&& row.rw) + (v &&& row.rw)
  kept - (kept &&& (v &&& row.w1c))

/-- A write to a register (R10, R13). -/
def writeReg (s : State) (h : RegHit) (v : Nat) : State :=
  let r := h.start
  let plain := setReg s r (BitVec.ofNat 64 (writtenValue h.row (reg s r).toNat v))
  if r = R.EVG_CTL then evgCtlWrite s v
  else if h.blk = 4 ∧ r = R.EVG_PEND h.idx then evgPendWrite s h.idx v
  else if h.blk = 4 ∧ r = R.EVG_COMPLETE h.idx then evgCompleteOn s h.idx (v % 512)
  else if h.blk = 4 then evgSettle plain
  else if r = R.CNT_CTL then cntCtlWrite s v
  else if r = R.CNT_TRACE_MARK then tracePush s 8 0xFF (v % 2 ^ 64) 0
  else if r = R.CNT_TRACE_TAIL then { plain with cnt := { plain.cnt with halfSeen := false } }
  else if r = R.HST_ATTACH then attach s v
  else if r = R.CMD_RING then noteBase plain 0 v
  else if r = R.CMD_CPL then noteBase plain 1 v
  else if r = R.CMD_LINE then noteBase plain 2 v
  else if r = R.CMD_CFG then cmdCfgWrite s v
  else if r = R.RST_BLOCK then blockWrite s v
  else if r = R.MGT_CTL then mgtCtlWrite s v ⟨none, true⟩
  else if r = R.DEV_RB_TAIL then
    { plain with recov := { plain.recov with
        rbCount := (rf s R.DEV_RB_HEAD F.DEV_RB_HEAD_head + 16384 - v % 16384) % 16384 } }
  else if R.MSIX_TABLE 0 ≤ r ∧ r < R.MSIX_PBA 0 then msixFlush plain
  else plain

/-- A read of BAR0: source 0 host port, 1 window; `addr` is what the violation log names. -/
def barRead (s : State) (source addr req off n : Nat) : State :=
  match barTarget s off n with
  | .word w => emit s (.readData (.value w))
  | .reg h => let x := readReg s h; emit x.2 (.readData (.value x.1))
  | .pair a b =>
    let x := readReg s a
    let y := readReg x.2 b
    emit y.2 (.readData (.value (x.1 + y.1 * 2 ^ 32)))
  | .bad c => violRead s source addr req c (decide (source = 0) && (blockHit regBlocks 0 off).isNone)

/-- A write of BAR0. -/
def barWrite (s : State) (source addr req off n v : Nat) : State :=
  match barTarget s off n with
  | .word _ => s
  | .reg h => writeReg s h (v % 2 ^ (8 * n))
  | .pair a b => writeReg (writeReg s a (v % 2 ^ 32)) b (v / 2 ^ 32 % 2 ^ 32)
  | .bad c => violWrite s source addr req c

/-! ## The window (R537 to R539) -/

/-- Where a window access of `n` bytes at a device address lies. -/
inductive WinRegion where
  | tiered
  | hbm (stack : Nat)
  | store (frond : Nat)
  | mirror (off : Nat)
  | bad (cause : Nat)
  deriving DecidableEq, Repr

/-- The stream status page frame holds every byte. -/
def inStatusPage (s : State) (a n : Nat) : Bool :=
  let p := (reg s R.HST_SPAGE).toNat % 2 ^ 48
  decide (p ≤ a) && decide (a + n ≤ p + 0x1_0000)

/-- The step sequencer is running steps (R139). -/
def runningSteps (s : State) : Bool := s.seq.run.isSome || s.seq.step.isSome

/-- The region of a window access, or the cause of its violation (R538, R570). -/
def winRegion (s : State) (a n : Nat) (write : Bool) : WinRegion :=
  if a + n ≤ rangePages s * 0x1_0000 then .tiered
  else if a < 0x1000_0000_0000 then .bad 6
  else match hbmStack a with
    | some k =>
      if hbmBase 8 < a + n then .bad 3
      else if !rb s R.WIN_CTL F.WIN_CTL_raw_ok && (write || !inStatusPage s a n) then .bad 4
      else if write && guardedHbm s k a n false then .bad 7
      else .hbm k
    | none =>
      if 0x2000_0000_0000 ≤ a ∧ a < 0x2000_0000_0000 + 32 * 0x100_0000 then
        let o := (a - 0x2000_0000_0000) % 0x100_0000
        if storeSize < o + n ∨ (write ∧ runningSteps s) then .bad 5 else .store ((a - 0x2000_0000_0000) / 0x100_0000)
      else if 0x3000_0000_0000 ≤ a ∧ a + n ≤ 0x3000_0000_0000 + 0x200_0000 then .mirror (a - 0x3000_0000_0000)
      else .bad 3

/-- The device address of a BAR2 offset (R537). -/
def winAddr (s : State) (off : Nat) : Nat := rf s R.WIN_BASE F.WIN_BASE_base * 0x1_0000 + off

/-- A read through the window (R538); `err` is what the check words of a frond store said (R107, R108). A store read during the
zero-fill is answered at its end, with the bytes it meets in its turn (R142). -/
def winRead (s : State) (req off n : Nat) (err : MemErr) : State :=
  if !barServed s R.WIN_BASE || !rb s R.WIN_CTL F.WIN_CTL_en then violRead s 1 off req 3 false
  else
    let a := winAddr s off
    match winRegion s a n false with
    | .tiered => newRead s none a n
    | .hbm _ => newRead s none a n
    | .store f => afterRead s f err (fun s =>
      let v := leVal (bytesAt s a n)
      let s := cntAdd s 24 n
      if rb s (R.FRD_STATUS f) F.FRD_STATUS_init_done then emit s (.readData (.value v))
      else modFrond s f (fun x => { x with heldReads := x.heldReads ++ [v] }))
    | .mirror o => barRead s 1 a req o n
    | .bad c => violRead s 1 a req c false

/-- A write through the window (R513, R538). -/
def winWrite (s : State) (req off : Nat) (bs : List Byte) : State :=
  if !barServed s R.WIN_BASE || !rb s R.WIN_CTL F.WIN_CTL_en then violWrite s 1 off req 3
  else
    let a := winAddr s off
    match winRegion s a bs.length true with
    | .tiered => settle (commitWrite s a bs)
    | .hbm _ => (devWrite s a bs).getD s
    | .store _ => (devWrite s a bs).getD s
    | .mirror o => barWrite s 1 a req o bs.length (leVal bs)
    | .bad c => violWrite s 1 a req c

end Sys2Proof.Machine
end

