-- ==== Sys2Proof/Machine/AccessCmds.lean ====
section
/-! DEFINITION. The rows of BAR0, BAR2 and configuration accesses (R10, R537 to R539, R569, R605, R638). Nothing arrives while the host
link is down (R562). -/

namespace Sys2Proof.Machine

/-- The host link is up. -/
def hostLink (s : State) : Bool := rb s R.HST_STATUS F.HST_STATUS_link_up

/-- WIN_BASE: a write of the register (R539). -/
def execWinBase (req v : Nat) (s : State) : Host.Outcome State Fault Refusal :=
  .next (hostWrites s req R.WIN_BASE (fun s => wf s R.WIN_BASE F.WIN_BASE_base (v / 2 ^ 16)))

/-- WINDOW_READ: a read at BAR2 offset `off` (R538). -/
def execWindowRead (req off : Nat) (span : WinSpan) (s : State) : Host.Outcome State Fault Refusal :=
  .next (if hostLink s then winRead s req off span.len span.err else s)

/-- WINDOW_WRITE: a write of bytes at BAR2 offset `off` (R538). -/
def execWindowWrite (req off : Nat) (bytes : List Byte) (s : State) : Host.Outcome State Fault Refusal :=
  .next (if hostLink s then winWrite s req off bytes else s)

/-- REGISTER_READ: a read of `len` bytes at BAR0 offset `off` (R10, R569, R638). -/
def execRegisterRead (req off len : Nat) (s : State) : Host.Outcome State Fault Refusal :=
  .next (if hostLink s then barRead s 0 off req off len else s)

/-- REGISTER_WRITE: a write of `len` bytes at BAR0 offset `off` (R10, R13, R569). -/
def execRegisterWrite (req off len v : Nat) (s : State) : Host.Outcome State Fault Refusal :=
  .next (if hostLink s then barWrite s 0 off req off len v else s)

/-- CONFIGURATION_REQUEST: the MSI-X enable and function mask of the function (R605, R606). -/
def execConfigurationRequest (msixEn maskAll : Bool) (s : State) : Host.Outcome State Fault Refusal :=
  .next (if hostLink s then
    evgSettle (msixFlush { s with hst := { s.hst with msixEn := msixEn, msixMaskAll := maskAll } })
  else s)

end Sys2Proof.Machine
end

