-- ==== Sys2Proof/Machine/ArrayCmds.lean ====
section
/-! DEFINITION. Commands of the array, the move engine and the op lists. -/

namespace Sys2Proof.Machine

/-- The array of frond `f` is free and a product at the head of its list keeps it waiting: 1 for a slot (R125), 2 for an operand's bit or
its scales, 0 for nothing (FRD_STATUS.stall). -/
def arrayWaits (s : State) (f : Nat) : Nat :=
  let waits (o : Option PlanOp) : Option Nat := match o with
    | some o =>
      if o.kind ≠ 1 then none
      else if !(waitsSet s f o && scalesReady s f o) then some 2
      else if (slotFor s f (descOf s o)).isNone then some 1 else none
    | none => none
  if mayIssue s f && (frondOf s f).array.isNone then ((waits (headOp s f)).orElse (fun _ => waits (headW s f))).getD 0 else 0

/-- PRODUCT: the sequencer issues the product that choose_op picks on frond `f` (R364, R368); where it can issue none, the array
reports what it waits for (R125). -/
def execProduct (f : Nat) (s : State) : Host.Outcome State Fault Refusal :=
  .next (match chooseOp s f with
    | some (o, how) => if o.kind = 1 then issueProduct s f o how else s
    | none => if arrayWaits s f = 0 then s else setStall s f (arrayWaits s f))

/-- INVOKE: the ROW invocation that choose_op picks is issued to the element engine (R364, R181). -/
def execInvoke (f : Nat) (s : State) : Host.Outcome State Fault Refusal :=
  .next (match chooseOp s f with
    | some (o, how) => if o.kind = 2 then modFrond (issueOp s f o how) f (fun x => { x with engQ := x.engQ ++ [o.idx] }) else s
    | none => s)

/-- MOVE: the move that choose_op picks runs (R360, R365), unless the store's check words say otherwise (R108), or a row of device memory
it reads must wait (R303, R305, R349). -/
def execMove (w : FrondWork) (s : State) : Host.Outcome State Fault Refusal :=
  .next (match chooseOp s w.frond with
    | some (o, how) =>
      if o.kind ≠ 3 then s
      else
        let r := localReads s (moveRanges s o)
        if r.2 then r.1 else afterRead r.1 w.frond w.err (fun s => runMove (issueOp s w.frond o how) w.frond o)
    | none => s)

/-- PASS: one pass of the product that has the array of frond `f`; `err` is what the memories' check words said (R107, R108,
R111 to R122). -/
def execPass (f : Nat) (err : MemErr) (s : State) : Host.Outcome State Fault Refusal := .next (runPass (frondErr s f err) f)

/-- DRAIN_ROW: one row of a slot drains (R127, R128). -/
def execDrainRow (f slot : Nat) (err : MemErr) (s : State) : Host.Outcome State Fault Refusal :=
  .next (drainRow (frondErr s f err) f slot)

/-- CHAIN_TILE_ARRIVAL (R129). -/
def execChainTileArrival (src dst : Nat) (s : State) : Host.Outcome State Fault Refusal := .next (chainArrived s src dst)

/-- QUEUE_SLOT_ARRIVAL (R370). -/
def execQueueSlotArrival (q : Nat) (s : State) : Host.Outcome State Fault Refusal := .next (queueArrive s q)

/-- CREDIT_RETURN (R371). -/
def execCreditReturn (q : Nat) (s : State) : Host.Outcome State Fault Refusal := .next (creditArrive s q)

/-- PLAN_STALL (R382). -/
def execPlanStall (f t : Nat) (s : State) : Host.Outcome State Fault Refusal := .next (planStall (advance t s) f)

/-- The zero-fill of a frond has ended: products, moves and invocations may issue, and the window reads that waited are answered
(R142). -/
def frondReady (s : State) (f : Nat) : State :=
  let s := forEach (fun s v => emit s (.readData (.value v))) (wf s (R.FRD_STATUS f) F.FRD_STATUS_init_done 1) (frondOf s f).heldReads
  modFrond s f (fun x => { x with heldReads := [] })

/-- FROND_INIT_DONE (R142). -/
def execFrondInitDone (f : Nat) (s : State) : Host.Outcome State Fault Refusal := .next (frondReady s f)

end Sys2Proof.Machine
end

