-- ==== Sys2Proof/Machine/ElemCmds.lean ====
section
/-! DEFINITION. Commands of the element engine: its invocations and its instructions (R144 to R181). -/

namespace Sys2Proof.Machine

/-- DRAIN_INVOCATION: the engine of the frond starts the DRAIN that is next and whose slot is FULL (R144, R181). -/
def execDrainInvocation (w : FrondWork) (s : State) : Host.Outcome State Fault Refusal :=
  .next (afterRead s w.frond w.err (fun s => startInvocation s w.frond false))

/-- ROW_INVOCATION: the engine of the frond starts the ROW that is next (R144, R181). -/
def execRowInvocation (w : FrondWork) (s : State) : Host.Outcome State Fault Refusal :=
  .next (afterRead s w.frond w.err (fun s => startInvocation s w.frond true))

/-- ADD (R156, R157). -/
def execAdd (f : Nat) (i : EInstr) (s : State) : Host.Outcome State Fault Refusal :=
  elemCmd 0x01 false false f i (binary (withArith f32add) i) s

/-- SUB (R156, R157). -/
def execSub (f : Nat) (i : EInstr) (s : State) : Host.Outcome State Fault Refusal :=
  elemCmd 0x02 false false f i (binary (withArith f32sub) i) s

/-- MUL (R156, R157). -/
def execMul (f : Nat) (i : EInstr) (s : State) : Host.Outcome State Fault Refusal :=
  elemCmd 0x03 false false f i (binary (withArith f32mul) i) s

/-- FMA: one rounding (R156, R157). -/
def execFma (f : Nat) (i : EInstr) (s : State) : Host.Outcome State Fault Refusal :=
  elemCmd 0x04 false false f i (ternary (fun a b c => let r := f32fma a b c; (r, arithFlags [a, b, c] r)) i) s

/-- MIN (R156). -/
def execMin (f : Nat) (i : EInstr) (s : State) : Host.Outcome State Fault Refusal :=
  elemCmd 0x05 false false f i (binary (fun a b => (minW a b, cmpFlags [a, b])) i) s

/-- MAX (R156). -/
def execMax (f : Nat) (i : EInstr) (s : State) : Host.Outcome State Fault Refusal :=
  elemCmd 0x06 false false f i (binary (fun a b => (maxFW a b, cmpFlags [a, b])) i) s

/-- CLAMP (R156). -/
def execClamp (f : Nat) (i : EInstr) (s : State) : Host.Outcome State Fault Refusal :=
  elemCmd 0x07 false false f i (ternary (fun a b c => (minW (maxFW a b) c, cmpFlags [a, b, c])) i) s

/-- ABS (R156). -/
def execAbs (f : Nat) (i : EInstr) (s : State) : Host.Outcome State Fault Refusal :=
  elemCmd 0x08 false false f i (unary (fun a => (a &&& 0x7FFFFFFF#32, {})) i) s

/-- NEG (R156). -/
def execNeg (f : Nat) (i : EInstr) (s : State) : Host.Outcome State Fault Refusal :=
  elemCmd 0x09 false false f i (unary (fun a => (a ^^^ 0x80000000#32, {})) i) s

/-- CMPEQ (R156). -/
def execCmpeq (f : Nat) (i : EInstr) (s : State) : Host.Outcome State Fault Refusal :=
  elemCmd 0x10 false false f i (binary (withCmp (fun a b => fvEq (f32v a) (f32v b))) i) s

/-- CMPLT (R156). -/
def execCmplt (f : Nat) (i : EInstr) (s : State) : Host.Outcome State Fault Refusal :=
  elemCmd 0x11 false false f i (binary (withCmp (fun a b => fvLt (f32v a) (f32v b))) i) s

/-- CMPLE (R156). -/
def execCmple (f : Nat) (i : EInstr) (s : State) : Host.Outcome State Fault Refusal :=
  elemCmd 0x12 false false f i (binary (withCmp (fun a b => fvLt (f32v a) (f32v b) || fvEq (f32v a) (f32v b))) i) s

/-- CMPUN (R156). -/
def execCmpun (f : Nat) (i : EInstr) (s : State) : Host.Outcome State Fault Refusal :=
  elemCmd 0x13 false false f i (binary (withCmp (fun a b => isNaN32 a || isNaN32 b)) i) s

/-- ICMPLTU (R156). -/
def execIcmpltu (f : Nat) (i : EInstr) (s : State) : Host.Outcome State Fault Refusal :=
  elemCmd 0x14 false false f i (binary (bitwise (fun a b => laneBool (decide (a.toNat < b.toNat)))) i) s

/-- SEL (R156). -/
def execSel (f : Nat) (i : EInstr) (s : State) : Host.Outcome State Fault Refusal :=
  elemCmd 0x18 false false f i (ternary (fun a b c => (if c = 0 then b else a, {})) i) s

/-- AND (R156). -/
def execAnd (f : Nat) (i : EInstr) (s : State) : Host.Outcome State Fault Refusal :=
  elemCmd 0x20 false false f i (binary (bitwise (fun a b => a &&& b)) i) s

/-- OR (R156). -/
def execOr (f : Nat) (i : EInstr) (s : State) : Host.Outcome State Fault Refusal :=
  elemCmd 0x21 false false f i (binary (bitwise (fun a b => a ||| b)) i) s

/-- XOR (R156). -/
def execXor (f : Nat) (i : EInstr) (s : State) : Host.Outcome State Fault Refusal :=
  elemCmd 0x22 false false f i (binary (bitwise (fun a b => a ^^^ b)) i) s

/-- ANDN (R156). -/
def execAndn (f : Nat) (i : EInstr) (s : State) : Host.Outcome State Fault Refusal :=
  elemCmd 0x23 false false f i (binary (bitwise (fun a b => a &&& ~~~b)) i) s

/-- SHR by aux[4:0] (R156). -/
def execShr (f : Nat) (i : EInstr) (s : State) : Host.Outcome State Fault Refusal :=
  elemCmd 0x24 false false f i (unary (fun a => (a >>> (i.aux % 32), {})) i) s

/-- SHL by aux[4:0] (R156). -/
def execShl (f : Nat) (i : EInstr) (s : State) : Host.Outcome State Fault Refusal :=
  elemCmd 0x25 false false f i (unary (fun a => (a <<< (i.aux % 32), {})) i) s

/-- IADD (R156). -/
def execIadd (f : Nat) (i : EInstr) (s : State) : Host.Outcome State Fault Refusal :=
  elemCmd 0x26 false false f i (binary (bitwise (fun a b => a + b)) i) s

/-- EXP2 (R156, R158). -/
def execExp2 (f : Nat) (i : EInstr) (s : State) : Host.Outcome State Fault Refusal :=
  elemCmd 0x30 false false f i (unary exp2C i) s

/-- LOG2 (R156, R158). -/
def execLog2 (f : Nat) (i : EInstr) (s : State) : Host.Outcome State Fault Refusal :=
  elemCmd 0x31 false false f i (unary log2C i) s

/-- RCP (R156, R158). -/
def execRcp (f : Nat) (i : EInstr) (s : State) : Host.Outcome State Fault Refusal :=
  elemCmd 0x32 false false f i (unary rcpC i) s

/-- RSQ (R156, R158). -/
def execRsq (f : Nat) (i : EInstr) (s : State) : Host.Outcome State Fault Refusal :=
  elemCmd 0x33 false false f i (unary rsqC i) s

/-- CVT (R156, R162 to R165). -/
def execCvt (f : Nat) (i : EInstr) (s : State) : Host.Outcome State Fault Refusal :=
  elemCmd 0x38 false false f i ((fun f x s => if isBlockFmt i.fmt then cvtBlock s f x i else cvtPlain s f x i)) s

/-- WID (R156, R163). -/
def execWid (f : Nat) (i : EInstr) (s : State) : Host.Outcome State Fault Refusal :=
  elemCmd 0x39 false false f i (binary (widLane i.fmt) i) s

/-- I2F (R156). -/
def execI2f (f : Nat) (i : EInstr) (s : State) : Host.Outcome State Fault Refusal :=
  elemCmd 0x3A false false f i (unary (fun a => (i2fLane a, {})) i) s

/-- F2I, rounded as rnd selects (R156, R157); a stochastic rounding draws from the stream of aux[19:0] when that is not 0, as RND and
CVT do, else from the invocation's (R165; DEDUCED, log 129). -/
def execF2i (f : Nat) (i : EInstr) (s : State) : Host.Outcome State Fault Refusal :=
  elemCmd 0x3B false false f i ((fun f x s => writeLanes s f x i (fun l =>
      f2iLane (if i.rnd = 1 then .sr (laneRandom s x (i.aux % 2 ^ 20) (x.laneRow l) (x.lanePos l)) else .ne) (operand (engOf s f) x i.a l)))) s

/-- RND (R156, R165). -/
def execRnd (f : Nat) (i : EInstr) (s : State) : Host.Outcome State Fault Refusal :=
  elemCmd 0x40 false false f i ((fun f x s => writeLanes s f x i (fun l =>
      (BitVec.ofNat 32 (laneRandom s x (i.aux % 2 ^ 20) (x.laneRow l) (x.lanePos l)), {})))) s

/-- MOV (R156). -/
def execMov (f : Nat) (i : EInstr) (s : State) : Host.Outcome State Fault Refusal :=
  elemCmd 0x48 false false f i (unary (fun a => (a, {})) i) s

/-- LD (R161). -/
def execLd (f : Nat) (i : EInstr) (s : State) : Host.Outcome State Fault Refusal :=
  elemCmd 0x50 false false f i ((fun f x s => loadLanes s f x i)) s

/-- ST (R160, R162, R163). -/
def execSt (f : Nat) (i : EInstr) (s : State) : Host.Outcome State Fault Refusal :=
  elemCmd 0x52 false false f i ((fun f x s => storeLanes s f x i)) s

/-- RMAX (R171, R172). -/
def execRmax (f : Nat) (i : EInstr) (s : State) : Host.Outcome State Fault Refusal :=
  elemCmd 0x60 false true f i (fun f x s =>
    let vs := reduceVals s f x i
    reduceChunk s f x i vs foldMax maxResult ⟨false, false, vs.any isNaN32⟩) s

/-- RSUM (R171, R173). -/
def execRsum (f : Nat) (i : EInstr) (s : State) : Host.Outcome State Fault Refusal :=
  elemCmd 0x61 false true f i (fun f x s =>
    let vs := reduceVals s f x i
    let bad := isNaN32 (foldSum vs x).sum.1 && !(x.nan || vs.any isNaN32) && !isNaN32 x.sum.1
    let y := foldSum vs x
    let over_ := decide (x.chunks ≤ x.chunk + 1) && isFin32 y.sum.1 && isInf32 (sumResult y)
    reduceChunk s f x i vs foldSum sumResult ⟨over_, bad, vs.any isNaN32⟩) s

/-- SOFTMAX on the row (R174, R175). -/
def execSoftmax (f : Nat) (i : EInstr) (s : State) : Host.Outcome State Fault Refusal :=
  elemCmd 0x62 true true f i (fun f x s => softmaxRow s f x i) s

/-- LNORM on the row (R176). -/
def execLnorm (f : Nat) (i : EInstr) (s : State) : Host.Outcome State Fault Refusal :=
  elemCmd 0x63 true true f i (fun f x s => lnormRow s f x i) s

/-- LDI: the immediate into an s register (R154). -/
def execLdi (f d : Nat) (v : LdiValue) (s : State) : Host.Outcome State Fault Refusal :=
  if ldiInvalid d v.imm then .fault .invalidEncoding
  else .next (match issuing s f (ldiWord d v.imm) with
    | some x => afterRead s f v.err (fun s =>
        advanceEngine (setSreg (countCycles s f x 0x49 0) f (d - 16) (BitVec.ofNat 32 v.imm)) f x false false)
    | none => s)

end Sys2Proof.Machine
end

