-- ==== Sys2Proof/Machine/MigrationCmds.lean ====
section
/-! DEFINITION. Commands of migrations in progress, critical-row fetches and peat sources (R273, R290, R292 to R299, R303 to R306,
R534). -/

namespace Sys2Proof.Machine

/-! ## Passes and the flip (R292 to R299) -/

/-- The copy of lines of a page reads them: what errs there is met (R334, R337). -/
def meetCopy (s : State) (src : Place) (ls : List Nat) : State :=
  match src with
  | .t1 k f => forEach (fun s (r : Nat × Nat) => (meetErrors s k (f * 0x1_0000 + 64 * r.1) (64 * r.2)).1) s (lineRuns ls)
  | .t2 _ _ => s

/-- Go on with a page's migration, unless its page was found lost (R299, R337). -/
def afterMeeting (s : State) (p : Nat) (g : State → Migration → State) : State :=
  match migOf s p with
  | some m => if failed s then s else g s m
  | none => s

/-- MIGRATION_PASS_DONE: a pass of a page's migration ends at time `t`: its lines are at the destination, and the next pass or
the final pass begins (R295). It does not end while a place of it serves no access (R303, R349). -/
def execMigrationPassDone (page t : Nat) (s : State) : Host.Outcome State Fault Refusal :=
  let s := advance t s
  .next (match migOf s page with
  | none => s
  | some m =>
    match m.src with
    | none => s
    | some src =>
      if m.pass = 3 ∨ failed s ∨ copyWaits s src m.dst then s
      else afterMeeting (meetCopy s src m.lines) page (fun s m =>
        let s := copyLines s src m.dst m.lines
        let again := if m.pass = 0 then decide (m.dirty ≠ []) else if m.pass = 1 then decide (16 < m.dirty.length) else false
        if again then setMig s page (fun m => { m with pass := m.pass + 1, lines := m.dirty, dirty := [] })
        else setMig s page (fun m => { m with pass := 3, lines := [], holdAt := s.ft })))

/-- What a page's arrival leaves to do: one in T1 needs no DEMAND any more, but must leave a frame the pools exclude; an uncovered one
in T2 is promoted under DEMAND (R311). -/
def pageArrived (s : State) (p : Nat) (dst : Place) : State :=
  let s := dropRequests s p
  match dst with
  | .t1 n f => let s := dropDemand s p
    if inPool s n f then s else { s with tier := { s.tier with poolMoves := s.tier.poolMoves ++ [p] } }
  | .t2 _ _ => if pteCovered (pte s p) then s else addDemand s p []

/-- The flip of R296: dirty lines, entry, held writes; the source frame stays until its reads are done (R298). -/
def flipMig (s : State) (m : Migration) : State :=
  let s := match m.src with
    | some src => copyLines s src m.dst m.dirty
    | none => s
  let e := setBits (pteAt (pte s m.page) (pteStack (pte s m.page)) m.dst) 41 1 0
  let s := setPte s m.page e
  let s := { s with tier := { s.tier with
    migs := s.tier.migs.filter (·.page ≠ m.page)
    draining := match m.src with
      | some src => s.tier.draining ++ [(m.page, src)]
      | none => s.tier.draining } }
  let s := raiseTo (pageArrived s m.page m.dst) R.TIER_HOLD_MAX (s.ft - m.holdAt)
  let s := match kindCount m.kind with
    | some r => bump s r 1
    | none => s
  let s := if m.kind = .rebuild then
      let s := bump s R.TIER_REBUILT_CNT 1
      let keys := (pageRows s m.page).map (fun x => (⟨storageOf x.1.desc, x.1.rem, x.1.row⟩ : SlotKey))
      let s := { s with recov := { s.recov with rebuilds := s.recov.rebuilds.filter (fun r =>
        !(r.subject = selfId s && !r.parity && keys.contains r.key)) } }
      wf s R.TIER_STATUS F.TIER_STATUS_rebuilding (b2n !(lostPages s).isEmpty)
    else s
  resumeAll (pagesMoved (releaseHeld s m.held))

/-- A final pass cannot end now, for a place that serves no access (R303, R349). -/
def flipWaits (s : State) (m : Migration) : Bool := match m.src with
  | some src => copyWaits s src m.dst
  | none => placeWaits s 0 0x1_0000 m.dst

/-- FINAL_PASS_FLIP: the final pass of a page's migration ends at time `t` (R296). -/
def execFinalPassFlip (page t : Nat) (s : State) : Host.Outcome State Fault Refusal :=
  let s := advance t s
  .next (match migOf s page with
  | some m => if m.pass = 3 ∧ !failed s ∧ !flipWaits s m then
      afterMeeting (match m.src with
        | some src => meetCopy s src m.dirty
        | none => s) page flipMig
    else s
  | none => s)

/-- FINAL_PASS_ABANDON: the final pass has held writes for 20,000 ft at time `t` (R297). -/
def execFinalPassAbandon (page t : Nat) (s : State) : Host.Outcome State Fault Refusal :=
  let s := advance t s
  .next (match migOf s page with
  | some m => if m.pass = 3 ∧ m.holdAt + 20000 ≤ s.ft ∧ !failed s then
      raiseTo (resumeAll (abandonMig s m)) R.TIER_HOLD_MAX (s.ft - m.holdAt) else s
  | none => s)

/-- SOURCE_FRAME_FREE: every read issued against a migration's source has completed, so its frame is free (R298). -/
def execSourceFrameFree (page : Nat) (s : State) : Host.Outcome State Fault Refusal :=
  .next (match s.tier.draining.find? (·.1 = page) with
  | none => s
  | some d => resumeAll (framesFreed { s with tier := { s.tier with draining := s.tier.draining.erase d } }))

/-! ## Peat (R273, R290, R303 to R305, R534) -/

/-- PEAT_READ_ERROR: a peat read of a page returned poison, an unsupported request, a completer abort or a timeout (R304). -/
def execPeatReadError (page : Nat) (s : State) : Host.Outcome State Fault Refusal :=
  .next (if pteTier (pte s page) = 2 then resumeAll (losePages (wf s R.TIER_FLAGS F.TIER_FLAGS_t2_err 1) [page]) else s)

/-- A fetch straight from the source of the lines of a row in T2 (R290): the read is issued, counted, and touches the page; the reads that
waited for it find the lines fetched. -/
def criticalFetch (s : State) (a n : Nat) : State :=
  let s := forEach (fun s g =>
    match ptePlace (pte s g.1) with
    | some (.t2 src f) =>
      let s := placeRead (bump s R.TIER_CRIT_CNT 1) (.t2 src f) g.2.1 g.2.2
      let a := g.1 * 0x1_0000 + g.2.1
      let wanted := fetchWanted s a g.2.2
      touch (if wanted then { s with sor := { s.sor with fetched := s.sor.fetched ++ [(a, g.2.2)] } } else s) g.1
    | _ => s) s (pageSegs a n)
  let s := { s with sor := { s.sor with wanted := s.sor.wanted.filter (fun w => !s.sor.fetched.any (fetchCovers w.1 w.2)) } }
  pumpInput (serveWaits (pumpReqs s))

/-- CRITICAL_ROW_FETCH: the bytes of a row at `addr` are fetched from T2 (R290); a fetch from a grant waits while the host port is down
(R303). -/
def execCriticalRowFetch (addr len : Nat) (s : State) : Host.Outcome State Fault Refusal :=
  .next (if failed s || readWaits s addr len then s else criticalFetch s addr len)

/-- FAR_LINK_UP: a far-memory link comes up on lane group `x`, to a Type 3 device of `frames` frames or to another device
(R534). In x16 mode there is only expander 0. -/
def execFarLinkUp (x frames : Nat) (type3 : Bool) (s : State) : Host.Outcome State Fault Refusal :=
  .next (if 4 ≤ x ∨ (s.hst.farX16 ∧ x ≠ 0) ∨ !s.hst.farPerstHigh ∨ s.tier.expanders.any (·.1 = x) then s
  else if !type3 then wf s R.HST_STATUS F.HST_STATUS_far_bad 1
  else
    let s := { s with hst := { s.hst with expPresent := s.hst.expPresent ||| 1 <<< x },
                      tier := { s.tier with expanders := s.tier.expanders ++ [(x, frames)] } }
    resumeAll (framesFreed (useExpanders s)))

/-- EXPANDER_LINK_DOWN: expander `x` is gone with every page held in it (R304, R305). -/
def execExpanderLinkDown (x : Nat) (s : State) : Host.Outcome State Fault Refusal :=
  .next (if s.tier.expanders.any (·.1 = x) then
    let s := resumeAll (loseSource s x)
    { s with hst := { s.hst with expPresent := setBits s.hst.expPresent x 1 0 },
             tier := { s.tier with expanders := s.tier.expanders.filter (·.1 ≠ x) } }
  else s)

/-- HOST_WAIT_EXPIRY: at time `t` the host port has been unusable for more than host_wait milliseconds (R303). -/
def execHostWaitExpiry (t : Nat) (s : State) : Host.Outcome State Fault Refusal :=
  let s := advance t s
  .next (match s.tier.hostDownSince with
  | none => s
  | some d => if d + max 1 (rf s R.TIER_CTL F.TIER_CTL_host_wait) * 1000000 < s.ft then resumeAll (loseGrants s) else s)

end Sys2Proof.Machine
end

