-- ==== Sys2Proof/Machine/Power.lean ====
section
/-! DEFINITION. Supply dips, the power manager and thermal throttling (R593 to R601, R678). -/

namespace Sys2Proof.Machine

/-- Set a flag of RST_FLAGS with its event, source 147. -/
def rstFlag (s : State) (f en : Field) : State := flagEvent s R.RST_FLAGS f (rb s R.RST_CTL en) 147

/-- A VDD_CORE reading (RST_SUPPLY). -/
def supplyReading (s : State) (mv : Nat) : State :=
  let s := wf s R.RST_SUPPLY F.RST_SUPPLY_mv mv
  wf s R.RST_SUPPLY F.RST_SUPPLY_min_mv (min (rf s R.RST_SUPPLY F.RST_SUPPLY_min_mv) mv)

/-- DROOP_TRIP: detectors of the quadrants of a mask trip together (R595). -/
def execDroopTrip (quads mv : Nat) (s : State) : Host.Outcome State Fault Refusal :=
  let q := quads % 16
  .next (if q = 0 ∨ 655 ≤ mv ∨ s.rst.phase < 1 then s
  else
    let two := decide (2 ≤ (setBitsOf 4 q).length)
    let s := { s with rst := { s.rst with halved := s.rst.halved ||| q, noc := if two then s.rst.noc ||| q else s.rst.noc } }
    let s := wf (bump (supplyReading s mv) R.RST_DROOP_CNT 1) R.RST_STATUS F.RST_STATUS_droop 1
    rstFlag s F.RST_FLAGS_droop F.RST_CTL_droop_event_en)

/-- DROOP_RECOVER: detectors of the quadrants of a mask have seen the warning level or more for 2,000 ft (R596). -/
def execDroopRecover (quads mv : Nat) (s : State) : Host.Outcome State Fault Refusal :=
  let back := 15 - quads % 16
  .next (if mv < 655 then s
  else
    let s := supplyReading { s with rst := { s.rst with halved := s.rst.halved &&& back, noc := s.rst.noc &&& back } } mv
    wf s R.RST_STATUS F.RST_STATUS_droop (b2n (s.rst.halved ≠ 0 ∨ s.rst.noc ≠ 0)))

/-- DROOP_PAUSE: VDD_CORE has stayed below the warning level for more than 50 µs (R597). -/
def execDroopPause (t : Nat) (s : State) : Host.Outcome State Fault Refusal :=
  let s := advance t s
  .next (if pausedNow s ∨ s.rst.halved = 0 then s
  else
    let s := bump { s with rst := { s.rst with pauseSince := s.ft } } R.RST_PAUSE_CNT 1
    rstFlag (wf s R.RST_STATUS F.RST_STATUS_paused 1) F.RST_FLAGS_pause F.RST_CTL_pause_event_en)

/-- PAUSE_END: VDD_CORE has stayed at or above the warning level for 100 µs (R597). -/
def execPauseEnd (t : Nat) (s : State) : Host.Outcome State Fault Refusal :=
  let s := advance t s
  .next (if pausedNow s ∧ s.rst.halved = 0 then
    wf (bump s R.RST_PAUSE_TIME (s.ft - s.rst.pauseSince)) R.RST_STATUS F.RST_STATUS_paused 0
  else s)

/-- The cap in W (RST_PWR_CAP). -/
def powerCap (s : State) : Nat := min 1400 (max 300 (rf s R.RST_PWR_CAP F.RST_PWR_CAP_cap))

/-- The sum of the samples of the last 100 µs and their number. -/
def powerSum (s : State) : Nat × Nat := (s.rst.samples.sum, max 1 s.rst.samples.length)

/-- The mean exceeds the cap, and lies below 98% of it (R598). -/
def overCap (s : State) : Bool := decide (powerCap s * (powerSum s).2 < (powerSum s).1)
def belowCap (s : State) : Bool := decide ((powerSum s).1 * 100 < powerCap s * 98 * (powerSum s).2)

def throttleNow (s : State) : Nat := rf s R.RST_STATUS F.RST_STATUS_throttle

/-- Count throttled time up to now (RST_THROTTLE_TIME). -/
def countThrottle (s : State) : State :=
  let s := if throttleNow s = 0 then s else bump s R.RST_THROTTLE_TIME (s.ft - s.rst.countedTo)
  { s with rst := { s.rst with countedTo := s.ft } }

/-- POWER_SAMPLE: package power in W at 1 µs intervals (R598). -/
def execPowerSample (watts t : Nat) (s : State) : Host.Outcome State Fault Refusal :=
  let s := countThrottle (advance t s)
  let s := { s with rst := { s.rst with samples := (watts :: s.rst.samples).take 100 } }
  let mean := (powerSum s).1 / (powerSum s).2
  let s := wf s R.RST_PWR F.RST_PWR_mean mean
  let s := wf s R.RST_PWR F.RST_PWR_peak (max (rf s R.RST_PWR F.RST_PWR_peak) mean)
  .next { s with rst := { s.rst with belowSince := if belowCap s then some (s.rst.belowSince.getD s.ft) else none } }

/-- Steps are taken now: over the cap, over temperature, or VR_HOT_N low (R598, R599, R678). -/
def throttleAsked (s : State) : Bool := overCap s || s.rst.hot || s.rst.vrHot

/-- THROTTLE_STEP: one step is taken, 10 µs after the last, or undone, 100 µs after the last and after the mean fell (R598). -/
def execThrottleStep (t : Nat) (s : State) : Host.Outcome State Fault Refusal :=
  let s := countThrottle (advance t s)
  let n := throttleNow s
  let set (s : State) (k : Nat) : State :=
    wf { s with rst := { s.rst with stepAt := s.ft } } R.RST_STATUS F.RST_STATUS_throttle k
  .next (if throttleAsked s then
    let s := if overCap s then rstFlag s F.RST_FLAGS_pwr F.RST_CTL_limit_event_en else s
    if n < 16 ∧ s.rst.stepAt + 10000 ≤ s.ft then set s (n + 1) else s
  else match s.rst.belowSince with
    | some b => if 0 < n ∧ b + 100000 ≤ s.ft ∧ s.rst.stepAt + 100000 ≤ s.ft then set s (n - 1) else s
    | none => s)

/-- The hottest DRAM die of stack `n` reads `c` °C (R599, STK_TEMP, STK_STATUS.hot). -/
def dramReading (s : State) (n c : Nat) : State :=
  let r := R.STK_TEMP n
  let s := wf (wf s r F.STK_TEMP_temp c) r F.STK_TEMP_max_temp (max (rf s r F.STK_TEMP_max_temp) c)
  let st := R.STK_STATUS n
  let was := s.rst.limited
  let s := if 95 ≤ c then { s with rst := { s.rst with limited := setBits was n 1 1 } }
    else if c < 90 then { s with rst := { s.rst with limited := setBits was n 1 0 } } else s
  let begun := decide (85 < c) && !rb s st F.STK_STATUS_hot || decide (95 ≤ c) && !was.testBit n
  let s := wf s st F.STK_STATUS_hot (b2n (85 < c))
  if begun then rstFlag s F.RST_FLAGS_therm F.RST_CTL_limit_event_en else s

/-- THERMAL_SENSE: the hottest junction and the hottest DRAM die of each stack, °C (R599, R600). -/
def execThermalSense (junction : Nat) (drams : List Nat) (t : Nat) (s : State) : Host.Outcome State Fault Refusal :=
  let s := advance t s
  let dram := drams.foldl max 0
  let r := R.RST_THERM
  let s := wf (wf s r F.RST_THERM_junction junction) r F.RST_THERM_dram dram
  let s := wf s r F.RST_THERM_max_seen (max (rf s r F.RST_THERM_max_seen) junction)
  let s := forEach (fun s (x : Nat × Nat) => dramReading s x.2 x.1) s ((drams.take 8).zipIdx)
  let s := if 100 ≤ junction then
      if s.rst.hot then s else rstFlag { s with rst := { s.rst with hot := true } } F.RST_FLAGS_therm F.RST_CTL_limit_event_en
    else if junction < 95 then { s with rst := { s.rst with hot := false } } else s
  .next (if s.rst.tripped ∧ junction < 95 ∧ dram < 95 then
    emit { s with rst := { s.rst with tripped := false } } (.pin .thermtrip true)
  else s)

/-- VR_HOT_N goes low (R678). -/
def execVrHotN (s : State) : Host.Outcome State Fault Refusal :=
  .next (rstFlag { s with rst := { s.rst with vrHot := true } } F.RST_FLAGS_therm F.RST_CTL_limit_event_en)

/-- VR_HOT_N returns high (R678): throttle steps are undone as R598 gives. -/
def execVrHotNRelease (s : State) : Host.Outcome State Fault Refusal := .next { s with rst := { s.rst with vrHot := false } }

end Sys2Proof.Machine
end

