-- ==== Sys2Proof/Machine/RauCmds.lean ====
section
/-! DEFINITION. Commands of the reduce-and-apply units, the step barrier, the scale unit's reduction and the start of a step
(R23, R394 to R427, R440). -/

namespace Sys2Proof.Machine

/-- A data-plane event at fabric time `t`. -/
def onDataAt (t : Nat) (g : State → State) (s : State) : State := onData g (advance t s)

/-- The RAU of a block accepts no message and begins no apply once asked to go idle (R428). -/
def rauIdle (s : State) (block : Nat) : Bool := match blockEntry s block with
  | some e => idleAsked s (0x33 + e.die)
  | none => false

/-- Do something with a block of the plan, once its ranges of the partition serve accesses (R340, R348, R349); what errs there is met
(R334, R337). -/
def withBlock (block : Nat) (g : State → BlockEntry → State) (s : State) : State :=
  match blockEntry s block with
  | some e =>
    let rs := blockRanges s e (blk s e.block).applied
    if rauIdle s block || rs.any (fun r => rawWaits s r.1 r.2) then s
    else
      let s := forEach (fun s r => meetAt s r.1 r.2) s rs
      if failed s then s else g s e
  | none => s

/-- STEP_START: the next step starts when R23 lets it. -/
def execStepStart (t : Nat) (s : State) : Host.Outcome State Fault Refusal :=
  .next (onDataAt t (fun s => if mayStartStep s then advanceBlocks (startStep s s.stepCtr) else s) s)

/-- REDUCE: elements of a contribution reach this RAU (R392 to R405). -/
def execReduce (m : ReduceMsg) (t : Nat) (s : State) : Host.Outcome State Fault Refusal :=
  .next (onDataAt t (fun s => offerRau s (.reduce m) []) s)

/-- PART: pairs of a part reach the primary (R398 to R400, R429). -/
def execPart (m : PartMsg) (t : Nat) (s : State) : Host.Outcome State Fault Refusal :=
  .next (onDataAt t (fun s => offerRau s (.part m) []) s)

/-- Close the window of the step in progress at its time (R402, R243). -/
def windowCloseAt (s : State) : State :=
  let n := s.rau.window - 1
  if s.rau.window = 0 ∨ s.rau.window ≤ s.rau.closed ∨ s.ft < s.rau.closeAt then s
  else cancelExpected (closeWindow s n) (fun x => decide (x.step ≤ n))

/-- WINDOW_CLOSE: the contribution window closes (R402 to R404); the owners cancel what has not come (R243). -/
def execWindowClose (t : Nat) (s : State) : Host.Outcome State Fault Refusal := .next (onDataAt t windowCloseAt s)

/-- Parts not come 65,536 ft after the close count as empty (R399). -/
def partDeadlineAt (s : State) : State :=
  if s.rau.window = 0 ∨ s.rau.closed < s.rau.window ∨ s.ft ≤ s.rau.closeAt + 65536 then s
  else emptyParts s (s.rau.window - 1)

/-- PART_DEADLINE: 65,536 ft after a window closes (R399). -/
def execPartDeadline (t : Nat) (s : State) : Host.Outcome State Fault Refusal := .next (onDataAt t partDeadlineAt s)

/-- BARRIER_RECORD: the device forms its barrier record (R407). -/
def execBarrierRecord (t : Nat) (s : State) : Host.Outcome State Fault Refusal :=
  .next (onDataAt t (fun s => if mayRecord s s.ft then formRecord s else s) s)

/-- BARRIER: a record of a device of the line (R408, R409). -/
def execBarrier (m : BarrierMsg) (s : State) : Host.Outcome State Fault Refusal := .next (onData (fun s => offerRau s (.barrier m) []) s)

/-- SCALE: amaxes of a device of the line (R440). -/
def execScale (m : ScaleMsg) (s : State) : Host.Outcome State Fault Refusal := .next (onData (fun s => scaleAccept s m) s)


/-- BLOCK_APPLY: a holder applies or skips the next step of a block (R415 to R417). -/
def execBlockApply (block : Nat) (s : State) : Host.Outcome State Fault Refusal := .next (onData (withBlock block blockApply) s)

/-- GRAD: gradient elements or a skip reach a replica (R418, R419). -/
def execGrad (m : GradMsg) (s : State) : Host.Outcome State Fault Refusal := .next (onData (fun s => offerRau s (.grad m) []) s)

/-- DIGEST_COMPUTE_DONE: a holder's digests of a block are computed, or the digest blocks it waits for have come from an
agreeing holder (R420, R422). -/
def execDigestComputeDone (r : DigestRun) (s : State) : Host.Outcome State Fault Refusal :=
  .next (onData (withBlock r.block (fun s e => digestDone s e r.copy)) s)

/-- DIGEST: another holder's digests (R421 to R423); `copy` holds the digest blocks an agreeing holder sends (R422). -/
def execDigest (m : DigestMsg) (copy : List (Nat × List Byte)) (s : State) : Host.Outcome State Fault Refusal :=
  .next (onData (fun s => offerRau s (.digest m) copy) s)

/-- BLOCK_REPLAY_DONE: the rollback and replay of a block ends (R423, R424); `copy` is the state of a holder whose replay passed. -/
def execBlockReplayDone (block : Nat) (copy : Option (List Byte)) (s : State) : Host.Outcome State Fault Refusal :=
  .next (onData (withBlock block (fun s e => settle (compareDigests (blockReplay s e copy) e []))) s)

/-- ALL_GATHER: the primary sends an agreed block to its gather group (R425, R426). -/
def execAllGather (block : Nat) (s : State) : Host.Outcome State Fault Refusal :=
  .next (onData (withBlock block (fun s e => settle (allGather s e))) s)

/-- PARAM: parameters of a block reach this device (R374 to R376, R427). -/
def execParam (m : ParamMsg) (s : State) : Host.Outcome State Fault Refusal := .next (onData (fun s => offerRau s (.param m) []) s)

end Sys2Proof.Machine
end

