-- ==== Sys2Proof/Machine/UpdateCmds.lean ====
section
/-! DEFINITION. Commands of the sparse update path (R230 to R256). -/

namespace Sys2Proof.Machine

/-- UPDATE_BATCH_START: the update batches of a frond and micro-batch start (R230). -/
def execUpdateBatchStart (frond mb : Nat) (s : State) : Host.Outcome State Fault Refusal :=
  .next (match updateStep s frond mb with
    | some n => if mayUpdate s n frond mb then startUpdate s n frond mb else s
    | none => s)

/-- Take an update-path message in, or hold it in its engine's input queue (R256). -/
def takeUpdate (m : Message) (s : State) : State := onData (fun s => settle (takeInput s m)) s

/-- UPDATE_REQ: gradients reach the owner (R240, R241, R242). -/
def execUpdateReq (m : BagMsg) (s : State) : Host.Outcome State Fault Refusal := .next (takeUpdate (.updateReq m) s)

/-- OWNER_STEP_CLOSE: the owner closes a step (R243). -/
def execOwnerStepClose (step : Nat) (s : State) : Host.Outcome State Fault Refusal :=
  .next (onData (fun s => if mayClose s step then settle (closeStep s step) else s) s)

/-- DET_ORDER_MERGE: the logged messages of a closed step whose barrier has completed are merged in order (R242). -/
def execDetOrderMerge (step : Nat) (s : State) : Host.Outcome State Fault Refusal :=
  .next (onData (fun s =>
    if detOf s step && decide (step < s.sor.closed) && decide (step < s.seq.barrier) && decide (s.sor.merged ≤ step) && enginesFree s
    then settle (detMerge s step) else s) s)

/-- ROW_APPLY: the optimiser applies a staging entry (R244, R245). -/
def execRowApply (own table version row : Nat) (rem : Bool) (s : State) : Host.Outcome State Fault Refusal :=
  .next (onData (fun s =>
    match s.sor.stage.find? (fun x => x.own = own && x.table = table && x.version = version && x.row = row && x.rem = rem && mayApply s x) with
    | some x => settle (applyEntry s x)
    | none => s) s)

/-- PENDING_ENTRY_COMPLETE: a pending entry whose pages are in T1 applies (R253, R254). -/
def execPendingEntryComplete (own table row : Nat) (rem : Bool) (s : State) : Host.Outcome State Fault Refusal :=
  .next (onData (fun s =>
    match s.sor.pend.find? (fun x => x.own = own && x.table = table && x.row = row && x.rem = rem && !x.spilled) with
    | some x => settle (completePending s x)
    | none => s) s)

/-- SPILL_RING_RETURN: spilled entries return to the buffer, back-pressure ends (R255, R256). -/
def execSpillRingReturn (stack : Nat) (s : State) : Host.Outcome State Fault Refusal :=
  .next (onData (fun s =>
    let t := returnSpilled stack s.sor.pend.length s
    settle (if pendUse t stack true < pendUse s stack true then pumpUnits (pumpInput (setBp t stack false)) else t)) s)

/-- REM_GRAD: remainder gradients reach their home (R250, R251). -/
def execRemGrad (m : RemGrad) (s : State) : Host.Outcome State Fault Refusal := .next (takeUpdate (.remGrad m) s)

/-- REM_ROW: new remainder rows reach an owner (R252). -/
def execRemRow (m : RemRow) (s : State) : Host.Outcome State Fault Refusal := .next (takeUpdate (.remRow m) s)

end Sys2Proof.Machine
end

