-- ==== Sys2Proof/Machine/Dispatch.lean ====
section
/-! DEFINITION. The meaning of every command: one arm per constructor, each a direct call of its meaning. -/

namespace Sys2Proof.Machine

/-- The effect of a command on everything but the queue. -/
def exec (i : Instr) (s : State) : Host.Outcome State Fault Refusal :=
  match i with
  | .loadThallus h src len => Sys2Proof.Machine.execLoadThallus h src len s
  | .thallusVerifyDone image genChanged => Sys2Proof.Machine.execThallusVerifyDone image genChanged s
  | .switchEpoch h epoch t pfx => Sys2Proof.Machine.execSwitchEpoch h epoch t pfx s
  | .epochSwitch t => Sys2Proof.Machine.execEpochSwitch t s
  | .runSteps h first t0 ring slotBytes slots line inDev => Sys2Proof.Machine.execRunSteps h first t0 ring slotBytes slots line inDev s
  | .stopAtStep h step => Sys2Proof.Machine.execStopAtStep h step s
  | .abort h target => Sys2Proof.Machine.execAbort h target s
  | .checkpointSave h dest offset len => Sys2Proof.Machine.execCheckpointSave h dest offset len s
  | .checkpointLoad h src len data => Sys2Proof.Machine.execCheckpointLoad h src len data s
  | .checkpointClear h => Sys2Proof.Machine.execCheckpointClear h s
  | .checkpointRestore h src len data => Sys2Proof.Machine.execCheckpointRestore h src len data s
  | .tableSwap h table desc step => Sys2Proof.Machine.execTableSwap h table desc step s
  | .tableVersionRetire table => Sys2Proof.Machine.execTableVersionRetire table s
  | .grantPeat h slot addr len => Sys2Proof.Machine.execGrantPeat h slot addr len s
  | .revokePeat h slot => Sys2Proof.Machine.execRevokePeat h slot s
  | .fence h => Sys2Proof.Machine.execFence h s
  | .counterSnapshot h dest => Sys2Proof.Machine.execCounterSnapshot h dest s
  | .freezeAt h t => Sys2Proof.Machine.execFreezeAt h t s
  | .freeze t => Sys2Proof.Machine.execFreeze t s
  | .setLoss h l step => Sys2Proof.Machine.execSetLoss h l step s
  | .setInterval h interval step => Sys2Proof.Machine.execSetInterval h interval step s
  | .loseHistory h step => Sys2Proof.Machine.execLoseHistory h step s
  | .setTensor h tensor e step => Sys2Proof.Machine.execSetTensor h tensor e step s
  | .watchLineInvalidate produced consumed ds => Sys2Proof.Machine.execWatchLineInvalidate produced consumed ds s
  | .controlLinePoll produced consumed ds => Sys2Proof.Machine.execControlLinePoll produced consumed ds s
  | .inputLine supplied => Sys2Proof.Machine.execInputLine supplied s
  | .inputCopyDone step bytes => Sys2Proof.Machine.execInputCopyDone step bytes s
  | .retire index => Sys2Proof.Machine.execRetire index s
  | .commandTimeout index t => Sys2Proof.Machine.execCommandTimeout index t s
  | .hostWriteConfirm => Sys2Proof.Machine.execHostWriteConfirm s
  | .stepStart t => Sys2Proof.Machine.execStepStart t s
  | .hostPortLinkUp width speed cache => Sys2Proof.Machine.execHostPortLinkUp width speed cache s
  | .hostRetrain => Sys2Proof.Machine.execHostRetrain s
  | .hstAttach nonce => Sys2Proof.Machine.execHstAttach nonce s
  | .cmdCfg req v => Sys2Proof.Machine.execCmdCfg req v s
  | .winBase req v => Sys2Proof.Machine.execWinBase req v s
  | .windowRead req off span => Sys2Proof.Machine.execWindowRead req off span s
  | .windowWrite req off bytes => Sys2Proof.Machine.execWindowWrite req off bytes s
  | .registerWrite req off len v => Sys2Proof.Machine.execRegisterWrite req off len v s
  | .farLinkUp x frames type3 => Sys2Proof.Machine.execFarLinkUp x frames type3 s
  | .expanderLinkDown x => Sys2Proof.Machine.execExpanderLinkDown x s
  | .hostWaitExpiry t => Sys2Proof.Machine.execHostWaitExpiry t s
  | .setEndpointId iface eid => Sys2Proof.Machine.execSetEndpointId iface eid s
  | .getEndpointId iface => Sys2Proof.Machine.execGetEndpointId iface s
  | .getMctpVersionSupport iface ty => Sys2Proof.Machine.execGetMctpVersionSupport iface ty s
  | .getMessageTypeSupport iface => Sys2Proof.Machine.execGetMessageTypeSupport iface s
  | .getVendorDefinedMessageSupport iface selector => Sys2Proof.Machine.execGetVendorDefinedMessageSupport iface selector s
  | .getInfo iface tag => Sys2Proof.Machine.execGetInfo iface tag s
  | .getDigests iface tag => Sys2Proof.Machine.execGetDigests iface tag s
  | .getTelemetry iface tag => Sys2Proof.Machine.execGetTelemetry iface tag s
  | .readCounters iface tag body => Sys2Proof.Machine.execReadCounters iface tag body s
  | .getCerts iface tag => Sys2Proof.Machine.execGetCerts iface tag s
  | .challenge iface tag body => Sys2Proof.Machine.execChallenge iface tag body s
  | .readFuses iface tag => Sys2Proof.Machine.execReadFuses iface tag s
  | .writeFuses iface tag body env => Sys2Proof.Machine.execWriteFuses iface tag body env s
  | .debugUnlock iface tag => Sys2Proof.Machine.execDebugUnlock iface tag s
  | .fwLoad iface tag body env => Sys2Proof.Machine.execFwLoad iface tag body env s
  | .setCounterPriv iface tag body => Sys2Proof.Machine.execSetCounterPriv iface tag body s
  | .reset iface tag => Sys2Proof.Machine.execReset iface tag s
  | .margin iface tag body => Sys2Proof.Machine.execMargin iface tag body s
  | .marginRunDone stack pins => Sys2Proof.Machine.execMarginRunDone stack pins s
  | .rawWindow iface tag body => Sys2Proof.Machine.execRawWindow iface tag body s
  | .failDevice iface tag => Sys2Proof.Machine.execFailDevice iface tag s
  | .getRepairLog iface tag body => Sys2Proof.Machine.execGetRepairLog iface tag body s
  | .mailboxGo v env => Sys2Proof.Machine.execMailboxGo v env s
  | .watchdogExpiry => Sys2Proof.Machine.execWatchdogExpiry s
  | .attendN low => Sys2Proof.Machine.execAttendN low s
  | .fwBootVerifyDone => Sys2Proof.Machine.execFwBootVerifyDone s
  | .startOk => Sys2Proof.Machine.execStartOk s
  | .startTimeout t => Sys2Proof.Machine.execStartTimeout t s
  | .pwrOkRise => Sys2Proof.Machine.execPwrOkRise s
  | .pwrOkFall ns => Sys2Proof.Machine.execPwrOkFall ns s
  | .supplyReset rail => Sys2Proof.Machine.execSupplyReset rail s
  | .pllLockLoss domain => Sys2Proof.Machine.execPllLockLoss domain s
  | .perstN cycles => Sys2Proof.Machine.execPerstN cycles s
  | .hotReset => Sys2Proof.Machine.execHotReset s
  | .flr => Sys2Proof.Machine.execFlr s
  | .surpriseLinkDown => Sys2Proof.Machine.execSurpriseLinkDown s
  | .fabricRstN cycles => Sys2Proof.Machine.execFabricRstN cycles s
  | .thermalTrip => Sys2Proof.Machine.execThermalTrip s
  | .debugReset block t => Sys2Proof.Machine.execDebugReset block t s
  | .rstBlock v t => Sys2Proof.Machine.execRstBlock v t s
  | .quiesced t => Sys2Proof.Machine.execQuiesced t s
  | .quiesceTimeout t => Sys2Proof.Machine.execQuiesceTimeout t s
  | .resetHoldExpiry t => Sys2Proof.Machine.execResetHoldExpiry t s
  | .droopTrip quads mv => Sys2Proof.Machine.execDroopTrip quads mv s
  | .droopRecover quads mv => Sys2Proof.Machine.execDroopRecover quads mv s
  | .droopPause t => Sys2Proof.Machine.execDroopPause t s
  | .pauseEnd t => Sys2Proof.Machine.execPauseEnd t s
  | .powerSample watts t => Sys2Proof.Machine.execPowerSample watts t s
  | .throttleStep t => Sys2Proof.Machine.execThrottleStep t s
  | .thermalSense junction drams t => Sys2Proof.Machine.execThermalSense junction drams t s
  | .vrHotN => Sys2Proof.Machine.execVrHotN s
  | .frondInitDone frond => Sys2Proof.Machine.execFrondInitDone frond s
  | .stackInitDone stack => Sys2Proof.Machine.execStackInitDone stack s
  | .product frond => Sys2Proof.Machine.execProduct frond s
  | .invoke frond => Sys2Proof.Machine.execInvoke frond s
  | .move work => Sys2Proof.Machine.execMove work s
  | .pass frond err => Sys2Proof.Machine.execPass frond err s
  | .drainRow frond slot err => Sys2Proof.Machine.execDrainRow frond slot err s
  | .chainTileArrival src dst => Sys2Proof.Machine.execChainTileArrival src dst s
  | .drainInvocation work => Sys2Proof.Machine.execDrainInvocation work s
  | .rowInvocation work => Sys2Proof.Machine.execRowInvocation work s
  | .queueSlotArrival queue => Sys2Proof.Machine.execQueueSlotArrival queue s
  | .creditReturn queue => Sys2Proof.Machine.execCreditReturn queue s
  | .planStall frond t => Sys2Proof.Machine.execPlanStall frond t s
  | .add frond k => Sys2Proof.Machine.execAdd frond k s
  | .sub frond k => Sys2Proof.Machine.execSub frond k s
  | .mul frond k => Sys2Proof.Machine.execMul frond k s
  | .fma frond k => Sys2Proof.Machine.execFma frond k s
  | .min frond k => Sys2Proof.Machine.execMin frond k s
  | .max frond k => Sys2Proof.Machine.execMax frond k s
  | .clamp frond k => Sys2Proof.Machine.execClamp frond k s
  | .abs frond k => Sys2Proof.Machine.execAbs frond k s
  | .neg frond k => Sys2Proof.Machine.execNeg frond k s
  | .cmpeq frond k => Sys2Proof.Machine.execCmpeq frond k s
  | .cmplt frond k => Sys2Proof.Machine.execCmplt frond k s
  | .cmple frond k => Sys2Proof.Machine.execCmple frond k s
  | .cmpun frond k => Sys2Proof.Machine.execCmpun frond k s
  | .icmpltu frond k => Sys2Proof.Machine.execIcmpltu frond k s
  | .sel frond k => Sys2Proof.Machine.execSel frond k s
  | .and frond k => Sys2Proof.Machine.execAnd frond k s
  | .or frond k => Sys2Proof.Machine.execOr frond k s
  | .xor frond k => Sys2Proof.Machine.execXor frond k s
  | .andn frond k => Sys2Proof.Machine.execAndn frond k s
  | .shr frond k => Sys2Proof.Machine.execShr frond k s
  | .shl frond k => Sys2Proof.Machine.execShl frond k s
  | .iadd frond k => Sys2Proof.Machine.execIadd frond k s
  | .exp2 frond k => Sys2Proof.Machine.execExp2 frond k s
  | .log2 frond k => Sys2Proof.Machine.execLog2 frond k s
  | .rcp frond k => Sys2Proof.Machine.execRcp frond k s
  | .rsq frond k => Sys2Proof.Machine.execRsq frond k s
  | .cvt frond k => Sys2Proof.Machine.execCvt frond k s
  | .wid frond k => Sys2Proof.Machine.execWid frond k s
  | .i2f frond k => Sys2Proof.Machine.execI2f frond k s
  | .f2i frond k => Sys2Proof.Machine.execF2i frond k s
  | .rnd frond k => Sys2Proof.Machine.execRnd frond k s
  | .mov frond k => Sys2Proof.Machine.execMov frond k s
  | .ldi frond d value => Sys2Proof.Machine.execLdi frond d value s
  | .ld frond k => Sys2Proof.Machine.execLd frond k s
  | .st frond k => Sys2Proof.Machine.execSt frond k s
  | .rmax frond k => Sys2Proof.Machine.execRmax frond k s
  | .rsum frond k => Sys2Proof.Machine.execRsum frond k s
  | .softmax frond k => Sys2Proof.Machine.execSoftmax frond k s
  | .lnorm frond k => Sys2Proof.Machine.execLnorm frond k s
  | .lookupBatchAdmit table mb => Sys2Proof.Machine.execLookupBatchAdmit table mb s
  | .lookupReq req => Sys2Proof.Machine.execLookupReq req s
  | .criticalRowFetch addr len => Sys2Proof.Machine.execCriticalRowFetch addr len s
  | .lookupRsp m => Sys2Proof.Machine.execLookupRsp m s
  | .lookupEnd source step count => Sys2Proof.Machine.execLookupEnd source step count s
  | .updateBatchStart frond mb => Sys2Proof.Machine.execUpdateBatchStart frond mb s
  | .updateReq m => Sys2Proof.Machine.execUpdateReq m s
  | .ownerStepClose step => Sys2Proof.Machine.execOwnerStepClose step s
  | .detOrderMerge step => Sys2Proof.Machine.execDetOrderMerge step s
  | .rowApply own table version row rem => Sys2Proof.Machine.execRowApply own table version row rem s
  | .pendingEntryComplete own table row rem => Sys2Proof.Machine.execPendingEntryComplete own table row rem s
  | .spillRingReturn stack => Sys2Proof.Machine.execSpillRingReturn stack s
  | .remGrad m => Sys2Proof.Machine.execRemGrad m s
  | .remRow m => Sys2Proof.Machine.execRemRow m s
  | .soredium m => Sys2Proof.Machine.execSoredium m s
  | .sorediumAck source step seq => Sys2Proof.Machine.execSorediumAck source step seq s
  | .rowCommit own table row rem => Sys2Proof.Machine.execRowCommit own table row rem s
  | .heatEpoch t => Sys2Proof.Machine.execHeatEpoch t s
  | .scanVisit => Sys2Proof.Machine.execScanVisit s
  | .promote => Sys2Proof.Machine.execPromote s
  | .demote => Sys2Proof.Machine.execDemote s
  | .rebalance => Sys2Proof.Machine.execRebalance s
  | .demand => Sys2Proof.Machine.execDemand s
  | .evacuate => Sys2Proof.Machine.execEvacuate s
  | .rebuild => Sys2Proof.Machine.execRebuild s
  | .revoke => Sys2Proof.Machine.execRevoke s
  | .migrationPassDone page t => Sys2Proof.Machine.execMigrationPassDone page t s
  | .finalPassFlip page t => Sys2Proof.Machine.execFinalPassFlip page t s
  | .finalPassAbandon page t => Sys2Proof.Machine.execFinalPassAbandon page t s
  | .sourceFrameFree page => Sys2Proof.Machine.execSourceFrameFree page s
  | .peatReadError page => Sys2Proof.Machine.execPeatReadError page s
  | .rd64 stack tag off err => Sys2Proof.Machine.execRd64 stack tag off err s
  | .rd256 stack tag off errs => Sys2Proof.Machine.execRd256 stack tag off errs s
  | .wr64 stack tag off mask bytes err => Sys2Proof.Machine.execWr64 stack tag off mask bytes err s
  | .wr256 stack tag off bytes => Sys2Proof.Machine.execWr256 stack tag off bytes s
  | .msg stack m => Sys2Proof.Machine.execMsg stack m s
  | .d2dFlit stack up header rest => Sys2Proof.Machine.execD2dFlit stack up header rest s
  | .d2dLinkControl stack up nak seq => Sys2Proof.Machine.execD2dLinkControl stack up nak seq s
  | .d2dRetrainDone stack result => Sys2Proof.Machine.execD2dRetrainDone stack result s
  | .patrolScrub stack err => Sys2Proof.Machine.execPatrolScrub stack err s
  | .refresh stack r => Sys2Proof.Machine.execRefresh stack r s
  | .rowRepairDone stack channel frame => Sys2Proof.Machine.execRowRepairDone stack channel frame s
  | .data x h payload => Sys2Proof.Machine.execData x h payload s
  | .heartbeat x b => Sys2Proof.Machine.execHeartbeat x b s
  | .linkCtl x nak laneChange lanes acked expected credits => Sys2Proof.Machine.execLinkCtl x nak laneChange lanes acked expected credits s
  | .error x h code vc msgSeq copy => Sys2Proof.Machine.execError x h code vc msgSeq copy s
  | .e2eAck x h vc next => Sys2Proof.Machine.execE2eAck x h vc next s
  | .deviceFailed x device reason time => Sys2Proof.Machine.execDeviceFailed x device reason time s
  | .idle port t => Sys2Proof.Machine.execIdle port t s
  | .reservedFrame x => Sys2Proof.Machine.execReservedFrame x s
  | .heartbeatSend t => Sys2Proof.Machine.execHeartbeatSend t s
  | .linkCtlSend port t => Sys2Proof.Machine.execLinkCtlSend port t s
  | .heartbeatSilence port t => Sys2Proof.Machine.execHeartbeatSilence port t s
  | .mismatchTimeout port t => Sys2Proof.Machine.execMismatchTimeout port t s
  | .laneFault port good t => Sys2Proof.Machine.execLaneFault port good t s
  | .retrainDone port t => Sys2Proof.Machine.execRetrainDone port t s
  | .portTrained port good t => Sys2Proof.Machine.execPortTrained port good t s
  | .portTrainRetry port t => Sys2Proof.Machine.execPortTrainRetry port t s
  | .e2eTimeout dst vc t => Sys2Proof.Machine.execE2eTimeout dst vc t s
  | .landingTimeout src vc t => Sys2Proof.Machine.execLandingTimeout src vc t s
  | .memWr h addr bytes => Sys2Proof.Machine.execMemWr h addr bytes s
  | .memRd h addr len => Sys2Proof.Machine.execMemRd h addr len s
  | .memCpl h addr status seq bytes => Sys2Proof.Machine.execMemCpl h addr status seq bytes s
  | .storeWr h offset frond doneBit stride rowBytes bytes => Sys2Proof.Machine.execStoreWr h offset frond doneBit stride rowBytes bytes s
  | .silent n => Sys2Proof.Machine.execSilent n s
  | .heard n => Sys2Proof.Machine.execHeard n s
  | .lost n => Sys2Proof.Machine.execLost n s
  | .recoveryCommit t => Sys2Proof.Machine.execRecoveryCommit t s
  | .pieceRd subject origin k => Sys2Proof.Machine.execPieceRd subject origin k s
  | .piece subject origin k bytes => Sys2Proof.Machine.execPiece subject origin k bytes s
  | .fwd subject origin r => Sys2Proof.Machine.execFwd subject origin r s
  | .stop subject origin k => Sys2Proof.Machine.execStop subject origin k s
  | .stopped subject origin k => Sys2Proof.Machine.execStopped subject origin k s
  | .done subject origin epoch => Sys2Proof.Machine.execDone subject origin epoch s
  | .parityScrub table slot rem => Sys2Proof.Machine.execParityScrub table slot rem s
  | .reduce m t => Sys2Proof.Machine.execReduce m t s
  | .part m t => Sys2Proof.Machine.execPart m t s
  | .partDeadline t => Sys2Proof.Machine.execPartDeadline t s
  | .windowClose t => Sys2Proof.Machine.execWindowClose t s
  | .barrierRecord t => Sys2Proof.Machine.execBarrierRecord t s
  | .barrier m => Sys2Proof.Machine.execBarrier m s
  | .scale m => Sys2Proof.Machine.execScale m s
  | .blockApply block => Sys2Proof.Machine.execBlockApply block s
  | .grad m => Sys2Proof.Machine.execGrad m s
  | .digestComputeDone run => Sys2Proof.Machine.execDigestComputeDone run s
  | .digest m copy => Sys2Proof.Machine.execDigest m copy s
  | .blockReplayDone block copy => Sys2Proof.Machine.execBlockReplayDone block copy s
  | .allGather block => Sys2Proof.Machine.execAllGather block s
  | .param m => Sys2Proof.Machine.execParam m s
  | .evgClaim t => Sys2Proof.Machine.execEvgClaim t s
  | .evgComplete t v => Sys2Proof.Machine.execEvgComplete t v s
  | .evgPend w v => Sys2Proof.Machine.execEvgPend w v s
  | .hold v => Sys2Proof.Machine.execHold v s
  | .holdExpiry t => Sys2Proof.Machine.execHoldExpiry t s
  | .moderationExpiry target t => Sys2Proof.Machine.execModerationExpiry target t s
  | .eventIn k low => Sys2Proof.Machine.execEventIn k low s
  | .thaw v => Sys2Proof.Machine.execThaw v s
  | .traceEn v => Sys2Proof.Machine.execTraceEn v s
  | .cntTraceMark v => Sys2Proof.Machine.execCntTraceMark v s
  | .planeInvalidExpiry dst vc t => Sys2Proof.Machine.execPlaneInvalidExpiry dst vc t s
  | .e2eAckSend src vc t => Sys2Proof.Machine.execE2eAckSend src vc t s
  | .registerRead req off len => Sys2Proof.Machine.execRegisterRead req off len s
  | .configurationRequest msixEn maskAll => Sys2Proof.Machine.execConfigurationRequest msixEn maskAll s
  | .pllLock domain straps => Sys2Proof.Machine.execPllLock domain straps s
  | .perstNRelease => Sys2Proof.Machine.execPerstNRelease s
  | .vrHotNRelease => Sys2Proof.Machine.execVrHotNRelease s
  | .eventInRelease k high => Sys2Proof.Machine.execEventInRelease k high s
  | .farPerstNRelease => Sys2Proof.Machine.execFarPerstNRelease s

end Sys2Proof.Machine
end

