-- ==== Sys2Proof/Safety.lean ====
section
/-! DEFINITION. What counts as a sound state and as a command that completes, in the terms the statements use: memory and the register
file in their one canonical form, the next state a command answers, what an element instruction leaves in the lanes. -/

namespace Sys2Proof.Machine

/-! ## Canonical form -/

/-- Memory in its one form: addresses strictly rising, no byte equal to what an unlisted address reads as (0). -/
def Memory.wf (m : Sparse Byte) : Bool := spWf (fun _ => 0) m

/-- The register file in its one form: offsets strictly rising, no register listed at its reset value (R12). -/
def Registers.wf (m : Sparse W64) : Bool := spWf regReset m

/-- Memory and the register file are in their canonical form. -/
abbrev Canonical (s : State) : Prop := Memory.wf s.mem = true ∧ Registers.wf s.regs = true

/-- The fixed numbers of units: fronds, stacks, link ports, peat sources (R2, R267, R459). -/
def Shaped (s : State) : Prop :=
  s.seq.fronds.length = 32 ∧ s.stackList.length = 8 ∧ s.shk.ports.length = 24 ∧ s.tier.sources.length = 16

/-! ## Completion and frames -/

/-- The command answers a next state, of which `P` holds. -/
def Completes (c : Instr) (s : State) (P : State → Prop) : Prop := ∃ t, exec c s = .next t ∧ P t

/-- Every byte of memory reads as before. -/
def MemSame (s t : State) : Prop := ∀ a, byteAt t a = byteAt s a

/-- Every byte of memory outside the `n` bytes from `lo` reads as before. -/
def MemSameOutside (lo n : Nat) (s t : State) : Prop := ∀ a, (a < lo ∨ lo + n ≤ a) → byteAt t a = byteAt s a

/-- Every register but those `p` selects reads as before. -/
def RegsSameBut (p : Nat → Bool) (s t : State) : Prop := ∀ r, p r = false → reg t r = reg s r

/-- Every byte of memory outside the page-table entries of the tiered range reads as before (R268). -/
def MemSameButPages (s t : State) : Prop :=
  ∀ a, (∀ p, p < rangePages s → a < pteAddr p ∨ pteAddr p + 8 ≤ a) → byteAt t a = byteAt s a

/-- Nothing waits for a place, a frame, a row or a record, so that `resume` and `pumpInput` let nothing go on (R302, R303, R305, R323, R349,
R558). -/
abbrev NothingWaits (s : State) : Prop :=
  s.tier.waitWrites = [] ∧ s.tier.waitCommits = [] ∧ s.tier.waitReads = [] ∧ s.sor.heldReqs = [] ∧ s.sor.inq = [] ∧ s.cmd.held = []
    ∧ ∀ x ∈ s.stackList, x.waiting = []

/-- No CHECKPOINT_SAVE or LOAD waits for rows, and none for its bytes (R349, R524). -/
abbrev NoCheckpointRuns (s : State) : Prop :=
  ∀ c ∈ s.cmd.active, c.phase = .running → c.fin = none →
    (∀ d o n, c.op ≠ .ckSave d o n) ∧ ∀ a n m, c.op = .ckLoad a n m → m = 2 ∧ c.data.isSome = true

/-- Nothing waits at all, so that `resumeAll` lets nothing go on: no PIECE_RD, no check of a parity slot, no checkpoint command. -/
abbrev NothingResumes (s : State) : Prop :=
  NothingWaits s ∧ NoCheckpointRuns s ∧ s.recov.waitRd = [] ∧ s.recov.scrub = none

/-- No line of the device's memory errs or holds poison (R332, R337). -/
abbrev NoMemoryErrors (s : State) : Prop := ∀ x ∈ s.stackList, x.errs = [] ∧ x.poison = []

/-- A command other than a FENCE or a RUN_STEPS has nothing to wait for at the retire point once its work has ended: no peer_order, no write
in device memory (R18, R558). -/
abbrev NothingOut (s : State) (c : Cmd) : Prop :=
  bitOf c.head.flags 0 = false ∧ c.wrote = [] ∧ cmdOpcode c.op ≠ 3 ∧ cmdOpcode c.op ≠ 0xB ∧ ∀ x ∈ s.sor.commit, x.cmd ≠ some c.index

/-- No MOVE waits for its messages to be acknowledged (R365). -/
abbrev NoMoveSent (s : State) : Prop := ∀ f, f < 32 → (frondOf s f).sent = []

/-! ## Commands of the ring -/

/-- The device may fetch a descriptor of head `h`, the head is valid and every command in progress has started (R543, R546). -/
abbrev CommandSlot (s : State) (h : CmdHead) : Prop :=
  mayFetch s = true ∧ headOk h = true ∧ s.cmd.fetched + 1 < 2 ^ 64
    ∧ ∀ c ∈ s.cmd.active, c.index < s.cmd.fetched ∧ c.phase = .running

/-- The state in which the work of the command just fetched begins: it is in progress, its START record is latched and written (R543,
R631). -/
def started (s : State) (h : CmdHead) (op : CmdOp) (data : Option (List Byte)) : State :=
  startCmd (cntAdd { s with cmd := { s.cmd with
      fetched := (s.cmd.fetched + 1) % 2 ^ 64
      active := s.cmd.active ++ [{ index := s.cmd.fetched, op := op, head := h, tFetch := s.ft, tStart := s.ft, phase := .waiting, data := data }] } }
    38 64) s.cmd.fetched

/-- The command of index `i` is in progress since now, with this head and operation and this end of its work, if any (R548, R549). -/
def RunsAt (t : State) (i now : Nat) (h : CmdHead) (op : CmdOp) (fin : Option CmdEnd) : Prop :=
  ∃ c, findCmd t i = some c ∧ c.op = op ∧ c.head = h ∧ c.phase = .running ∧ c.tStart = now ∧ c.fin = fin

/-- The fetched command has started, and its work goes on. -/
def Began (s t : State) (h : CmdHead) (op : CmdOp) : Prop :=
  t.cmd.fetched = s.cmd.fetched + 1 ∧ RunsAt t s.cmd.fetched s.ft h op none

/-- The fetched command has started and its work has ended OK with a result; it waits for the retire point. -/
def Worked (s t : State) (h : CmdHead) (op : CmdOp) (result : List Byte) : Prop :=
  t.cmd.fetched = s.cmd.fetched + 1 ∧ RunsAt t s.cmd.fetched s.ft h op (some ⟨0, 0, 0, result⟩)

/-- A command has completed: its record is held or in the ring, its index among the completed ones (R544, R547). -/
def Retired (t : State) (index cmdId opcode status reason outcome : Nat) : Prop :=
  index ∈ t.cmd.done ∧ ∃ r ∈ t.cmd.held ++ t.cmd.unconf, r.index = index ∧ r.cmdId = cmdId ∧ r.opcode = opcode ∧ r.status = status
    ∧ r.reason = reason ∧ r.outcome = outcome

/-! ## Resets -/

/-- The device lies in a reset of level `l` that source `src` began: the blocks stand at their reset values (R48, R101, R578, R579). -/
def LiesInReset (t : State) (src l : Nat) : Prop :=
  t.rst.hold = some l ∧ t.rst.phase = 0 ∧ t.rst.released = 0 ∧ t.thl = {} ∧ t.seq = {} ∧ t.sor = {} ∧ t.rau = {} ∧ t.shk = {} ∧ t.scl = {}
    ∧ t.recov = {} ∧ t.evg = {} ∧ t.cmd.active = [] ∧ t.cmd.fetched = 0 ∧ t.ft = 0 ∧ t.stepCtr = 0 ∧ imageActive t = false
    ∧ rf t R.THL_EPOCH F.THL_EPOCH_epoch = 0 ∧ (reg t R.RST_CAUSE).toNat.testBit src = true
    ∧ rf t R.RST_STATUS F.RST_STATUS_last_source = src ∧ rf t R.RST_STATUS F.RST_STATUS_last_level = l
    ∧ (∀ a, 0x2000_0000_0000 ≤ a → a < 0x2000_0000_0000 + 32 * 0x100_0000 → byteAt t a = 0)

/-! ## Management requests -/

/-- The controller runs, executes nothing and holds no request: one that arrives on MCTP interface `iface` executes at once (R647). -/
def MgtReady (s : State) (iface : Nat) : Prop :=
  2 ≤ s.rst.phase ∧ s.mgt.running ≠ 0 ∧ s.mgt.margin = none ∧ s.mgt.waiting = [] ∧ iface < 2

/-- The newest output is the response to a request, its header echoing opcode and tag (R648). -/
def Answers (t : State) (iface opcode tag status : Nat) (body : List Byte) : Prop :=
  t.out.head? = some (.response iface status
    (leBytes 1 opcode ++ leBytes 1 status ++ leBytes 2 body.length ++ leBytes 4 tag ++ body))

/-! ## Element instructions -/

/-- Opcode and fields of the word that an element instruction's command carries (R156); LDI, whose word has its own shape, and the other
commands have none. -/
def elemWordOf : Instr → Option (Nat × EInstr)
  | .add _ i => some (0x01, i)
  | .sub _ i => some (0x02, i)
  | .mul _ i => some (0x03, i)
  | .fma _ i => some (0x04, i)
  | .min _ i => some (0x05, i)
  | .max _ i => some (0x06, i)
  | .clamp _ i => some (0x07, i)
  | .abs _ i => some (0x08, i)
  | .neg _ i => some (0x09, i)
  | .cmpeq _ i => some (0x10, i)
  | .cmplt _ i => some (0x11, i)
  | .cmple _ i => some (0x12, i)
  | .cmpun _ i => some (0x13, i)
  | .icmpltu _ i => some (0x14, i)
  | .sel _ i => some (0x18, i)
  | .and _ i => some (0x20, i)
  | .or _ i => some (0x21, i)
  | .xor _ i => some (0x22, i)
  | .andn _ i => some (0x23, i)
  | .shr _ i => some (0x24, i)
  | .shl _ i => some (0x25, i)
  | .iadd _ i => some (0x26, i)
  | .exp2 _ i => some (0x30, i)
  | .log2 _ i => some (0x31, i)
  | .rcp _ i => some (0x32, i)
  | .rsq _ i => some (0x33, i)
  | .cvt _ i => some (0x38, i)
  | .wid _ i => some (0x39, i)
  | .i2f _ i => some (0x3A, i)
  | .f2i _ i => some (0x3B, i)
  | .rnd _ i => some (0x40, i)
  | .mov _ i => some (0x48, i)
  | .ld _ i => some (0x50, i)
  | .st _ i => some (0x52, i)
  | .rmax _ i => some (0x60, i)
  | .rsum _ i => some (0x61, i)
  | .softmax _ i => some (0x62, i)
  | .lnorm _ i => some (0x63, i)
  | _ => none

/-- The engine of frond `f` issues the word of instruction `i` next, in invocation `x`, without a memory error, and its program goes on
behind it in the same group or chunk. -/
abbrev IssuesNext (s : State) (f op : Nat) (i : EInstr) (x : Invocation) : Prop :=
  eInvalid op i = false ∧ i.err = .none ∧ issuing s f (eWord op i) = some x ∧ x.pc + 1 < x.prog.length
    ∧ (x.row = true → ∀ w, x.prog[x.pc + 1]? = some w → bitsOf w 56 8 ≠ 0x62 ∧ bitsOf w 56 8 ≠ 0x63)

/-- Lane `l` of register d after an instruction whose result in an active lane is `v` (R159, R160). -/
def laneAfter (s : State) (f : Nat) (x : Invocation) (i : EInstr) (l : Nat) (v : W32) : W32 :=
  if laneActive (engOf s f) x i l then v
  else if x.inside l && i.maskEn && i.zero then 0
  else vLane (engOf s f) i.d l

/-- The instruction `mk` of opcode `op` completes: in each lane register d holds `g` of the lane, every other register of the engine and
every byte of memory is as before, and the next instruction issues. -/
def LaneOp (mk : Nat → EInstr → Instr) (op : Nat) (g : State → Nat → Invocation → EInstr → Nat → W32) : Prop :=
  ∀ (s : State) (f : Nat) (i : EInstr) (x : Invocation), IssuesNext s f op i x →
    Completes (mk f i) s (fun t =>
      (∀ l, l < 256 → vLane (engOf t f) i.d l = laneAfter s f x i l (g s f x i l))
      ∧ (∀ r l, r < 16 → r ≠ i.d → vLane (engOf t f) r l = vLane (engOf s f) r l)
      ∧ (engOf t f).sr = (engOf s f).sr
      ∧ (engOf t f).run = some { x with pc := x.pc + 1 }
      ∧ MemSame s t)

/-- A lane's operands a, b, c. -/
def opA (s : State) (f : Nat) (x : Invocation) (i : EInstr) (l : Nat) : W32 := operand (engOf s f) x i.a l
def opB (s : State) (f : Nat) (x : Invocation) (i : EInstr) (l : Nat) : W32 := operand (engOf s f) x i.b l
def opC (s : State) (f : Nat) (x : Invocation) (i : EInstr) (l : Nat) : W32 := operand (engOf s f) x i.c l

/-- As LaneOp, for the instruction words that `ok` allows. -/
def LaneOpIf (ok : Invocation → EInstr → Prop) (mk : Nat → EInstr → Instr) (op : Nat) (g : State → Nat → Invocation → EInstr → Nat → W32) :
    Prop :=
  ∀ (s : State) (f : Nat) (i : EInstr) (x : Invocation), IssuesNext s f op i x → ok x i →
    Completes (mk f i) s (fun t =>
      (∀ l, l < 256 → vLane (engOf t f) i.d l = laneAfter s f x i l (g s f x i l))
      ∧ (∀ r l, r < 16 → r ≠ i.d → vLane (engOf t f) r l = vLane (engOf s f) r l)
      ∧ (engOf t f).sr = (engOf s f).sr
      ∧ (engOf t f).run = some { x with pc := x.pc + 1 }
      ∧ MemSame s t)

/-- Store offset of the element that lane `l` stores in region `r`, `w` bytes wide (R146, R148, R149). -/
def storeOffset (x : Invocation) (r w l : Nat) : Nat := (x.region r).1 + x.laneRow l * (x.region r).2.1 + x.lanePos l * w

/-- The code that a store writes for the word `w` of exact value `v` into a region of a format that is no block format and not BIT (R162). -/
def exactCode (s : State) (x : Invocation) (r rnd row p : Nat) (w : W32) (v : FV) : Nat :=
  if x.fmt r = 12 then w.toNat
  else (fmtCode (x.fmt r) (!x.nonsat) (if rnd = 1 ∨ x.grad r = true then .sr (laneRandom s x 0 row p) else .ne) v).1

/-- The code that ST writes for `v` there. -/
def plainCode (s : State) (x : Invocation) (r rnd row p : Nat) (v : W32) : Nat := exactCode s x r rnd row p v (f32v v)

/-- A row of values, each with the k of an exact 1/k or 0, stands in region `r` of such a format, and no other byte has changed but, after the
row's last instruction, its flag byte (R146, R162, R175, R178). -/
def RowWritten (s t : State) (f : Nat) (x : Invocation) (r rnd : Nat) (ys : List (W32 × Nat)) : Prop :=
  let w := fmtBits (x.fmt r) / 8
  let at_ (p : Nat) : Nat := storeBase f + (x.region r).1 + x.group * (x.region r).2.1 + p * w
  let flag := storeBase f + fieldAt x.call 0x1C 4 + x.group
  (∀ p y, ys[p]? = some y → (x.pc + 1 < x.prog.length ∨ flag < at_ p ∨ at_ p + w ≤ flag) →
    numAt t (at_ p) w = exactCode s x r rnd x.group p y.1 (if y.2 = 0 then f32v y.1 else fvDiv (.fin false 1 0) (fvInt (y.2 : Int))) % 2 ^ (8 * w))
  ∧ (∀ a, (∀ p, p < ys.length → a < at_ p ∨ at_ p + w ≤ a) → (x.prog.length ≤ x.pc + 1 → a ≠ flag) → byteAt t a = byteAt s a)

/-- The instruction with a result of one, two or three operands. -/
def Lane1 (mk : Nat → EInstr → Instr) (op : Nat) (g : W32 → W32) : Prop := LaneOp mk op (fun s f x i l => g (opA s f x i l))
def Lane2 (mk : Nat → EInstr → Instr) (op : Nat) (g : W32 → W32 → W32) : Prop :=
  LaneOp mk op (fun s f x i l => g (opA s f x i l) (opB s f x i l))
def Lane3 (mk : Nat → EInstr → Instr) (op : Nat) (g : W32 → W32 → W32 → W32) : Prop :=
  LaneOp mk op (fun s f x i l => g (opA s f x i l) (opB s f x i l) (opC s f x i l))

/-- All ones when `p` holds, else 0 (R156). -/
def onesIf (p : Prop) [Decidable p] : W32 := if p then 0xFFFFFFFF#32 else 0

/-! ## Migrations -/

/-- A migration of page `p` has started: it copies every line in pass 0, the lines `first` first, mig is set, nothing is dirty, and no
other byte of memory has changed (R287, R291, R292, R295). -/
def MigStarts (s t : State) (k : MigKind) (p : Nat) (dst : Place) (first : List Nat) : Prop :=
  (∃ m, t.tier.migs = s.tier.migs ++ [m] ∧ m.page = p ∧ m.kind = k ∧ m.src = ptePlace (pte s p) ∧ m.dst = dst ∧ m.pass = 0
    ∧ m.dirty = [] ∧ m.held = [] ∧ m.lines = first ++ (List.range 1024).filter (fun l => !first.contains l))
  ∧ pte t p = setBits (pte s p) 41 1 1 ∧ MemSameOutside (pteAddr p) 8 s t

/-- The frames of two places share no byte, and neither lies in a page-table frame (R267, R268). -/
def FramesApart (a b : Place) : Prop :=
  (placeKey a + 0x1_0000 ≤ placeKey b ∨ placeKey b + 0x1_0000 ≤ placeKey a)
  ∧ ∀ p, p = a ∨ p = b → match p with
    | .t1 n f => n < 8 ∧ 4096 ≤ f ∧ f < 1310720
    | .t2 k f => k < 16 ∧ f < 2 ^ 28

end Sys2Proof.Machine
end

