-- ==== Sys2Proof/Certificates/Slice0/Obligations.lean ====
section
/-! DEFINITION. The statements for the provers. -/

/-- The model's step: first in, first out. -/
def Obligations.StepRunsTheFrontCommand : Prop :=
  open Sys2Proof Machine in
  ∀ (s : State) (c : Instr) (rest : List Instr),
    step { s with pending := c :: rest } = exec c { s with pending := rest }

/-- R12, R101, R576, R619; the values no rule gives (fuses, AON state, memory bytes) are the model's choices (log 3, 5, 126). -/
def Obligations.ResetLeavesTheResetValues : Prop :=
  open Sys2Proof Machine in
  (∀ r, r ≠ R.RST_STATUS → r ≠ R.RST_CAUSE → reg State.reset r = regReset r)
  ∧ rb State.reset R.RST_CAUSE ⟨0, 1⟩ = true ∧ (∀ a, byteAt State.reset a = 0)
  ∧ State.reset.stepCtr = 0 ∧ State.reset.ft = 0 ∧ imageActive State.reset = false
  ∧ State.reset.cmd.active = [] ∧ State.reset.thl.load = none ∧ State.reset.seq.run = none ∧ State.reset.pending = []
  ∧ Canonical State.reset

/-- The canonical form of the sparse memory and register file is kept by all 253 commands and by the idle step. -/
def Obligations.EveryStepKeepsTheCanonicalForm : Prop :=
  open Sys2Proof Machine in
  ∀ (s t : State), Canonical s → step s = .next t → Canonical t

/-- The effect of a command is on everything but the queue; every command completes, but for an element instruction whose word is
invalid, which stops (R153, R155). -/
def Obligations.CommandsLeaveTheQueueAlone : Prop :=
  open Sys2Proof Machine in
  (∀ (c : Instr) (s t : State), exec c s = .next t → t.pending = s.pending)
  ∧ (∀ (s t : State), step s = .next t → t.pending = s.pending.tail)
  ∧ (∀ (c : Instr) (s : State), (∀ op i, elemWordOf c = some (op, i) → eInvalid op i = false) →
      (∀ f d imm e, c = .ldi f d ⟨imm, e⟩ → ldiInvalid d imm = false) → Completes c s (fun t => t.pending = s.pending))

/-- The fixed numbers of units (R2) are kept by every command, every reset among them. -/
def Obligations.EveryStepKeepsTheShape : Prop :=
  open Sys2Proof Machine in
  Shaped State.reset ∧ ∀ (s t : State), Shaped s → step s = .next t → Shaped t

/-- R38 to R42, R46, R52, R53, R56. -/
def Obligations.ImageCommandsComplete : Prop :=
  open Sys2Proof Machine in
  (∀ (s : State) (h : CmdHead) (src len : Nat), CommandSlot s h → (∀ c ∈ s.cmd.active, serialClass c.op ≠ some 0) →
    addrKind src = 0 ∨ addrKind src = 2 → switchPending s = false →
    Completes (.loadThallus h src len) s (fun t =>
      Began s t h (.loadThallus src len) ∧ t.thl.load = some ⟨s.cmd.fetched, src, len, []⟩
      ∧ rb t R.THL_STATUS F.THL_STATUS_staged_valid = false ∧ rb t R.THL_STATUS F.THL_STATUS_loading = true
      ∧ t.thl.activeSlot = s.thl.activeSlot ∧ t.thl.activeLen = s.thl.activeLen))
  ∧ (∀ (s : State) (l : LoadRun) (img : List Byte) (g : Bool), s.thl.load = some l → addrKind l.src = 0 → img.length = loadNeed l.len →
    let v := verifyImage (modCmd s l.cmd (fun c => { c with fetching := false })) img l.len
    (v = none →
      Completes (.thallusVerifyDone (some img) g) s (fun t =>
        bytesAt t (slotBase s (1 - s.thl.activeSlot)) img.length = img ∧ t.thl.stagedLen = l.len ∧ t.thl.load = none
        ∧ rb t R.THL_STATUS F.THL_STATUS_staged_valid = true ∧ rb t R.THL_STATUS F.THL_STATUS_loading = false
        ∧ (∀ k, k < 6 → (reg t (R.THL_STAGED_DIGEST k)).toNat = fieldAt img (fieldAt img 8 4 - 48 + 8 * k) 8)
        ∧ (∀ k, k < 6 → reg t (R.THL_ACTIVE_DIGEST k) = reg s (R.THL_ACTIVE_DIGEST k))
        ∧ MemSameOutside (slotBase s (1 - s.thl.activeSlot)) (2 ^ 28) s t))
    ∧ (∀ e, v = some e → e.reason < 256 →
      Completes (.thallusVerifyDone (some img) g) s (fun t =>
        rf t R.THL_LAST_ERR F.THL_LAST_ERR_reason = e.reason ∧ t.thl.load = none
        ∧ rb t R.THL_STATUS F.THL_STATUS_staged_valid = rb s R.THL_STATUS F.THL_STATUS_staged_valid
        ∧ rb t R.THL_STATUS F.THL_STATUS_loading = false ∧ MemSame s t
        ∧ (∀ c, findCmd s l.cmd = some c → c.fin = none → ∃ c', findCmd t l.cmd = some c' ∧ c'.fin = some { status := 2, reason := e.reason }))))
  ∧ (∀ (s : State) (l : LoadRun), s.thl.load = some l → addrKind l.src = 2 → addrVal l.src / 2 ^ 48 ≠ selfId s →
    Completes (.thallusVerifyDone none true) s (fun t =>
      rf t R.THL_LAST_ERR F.THL_LAST_ERR_reason = 0xC ∧ t.thl.load = none ∧ MemSame s t
      ∧ (∀ c, findCmd s l.cmd = some c → c.fin = none → ∃ c', findCmd t l.cmd = some c' ∧ c'.fin = some { status := 2, reason := 0xC })))
  ∧ (∀ (s : State) (h : CmdHead) (epoch time pfx : Nat), CommandSlot s h → switchErr s epoch time pfx = none → imageActive s = true →
      epoch < 2 ^ 32 → time < 2 ^ 64 →
    Completes (.switchEpoch h epoch time pfx) s (fun t =>
      Began s t h (.switchEpoch epoch time pfx) ∧ t.thl = { s.thl with switchCmd := some s.cmd.fetched }
      ∧ rb t R.THL_STATUS F.THL_STATUS_switch_pending = true ∧ (reg t R.THL_PENDING_TIME).toNat = time
      ∧ rf t R.THL_PENDING F.THL_PENDING_epoch = epoch))
  ∧ (∀ (s : State) (time : Nat), switchPending s = true →
    ((reg s R.THL_PENDING_TIME).toNat ≤ (advance time s).ft →
      Completes (.epochSwitch time) s (fun t =>
        t.thl.activeSlot = 1 - s.thl.activeSlot ∧ t.thl.activeLen = s.thl.stagedLen ∧ t.thl.activeStruct = s.thl.stagedStruct
        ∧ t.thl.stagedLen = s.thl.activeLen ∧ t.thl.switchCmd = none
        ∧ rf t R.THL_EPOCH F.THL_EPOCH_epoch = rf s R.THL_PENDING F.THL_PENDING_epoch
        ∧ rb t R.THL_STATUS F.THL_STATUS_active_valid = true ∧ rb t R.THL_STATUS F.THL_STATUS_staged_valid = false
        ∧ rb t R.THL_STATUS F.THL_STATUS_switch_pending = false
        ∧ (∀ k, k < 6 → reg t (R.THL_ACTIVE_DIGEST k) = reg s (R.THL_STAGED_DIGEST k)
            ∧ reg t (R.THL_STAGED_DIGEST k) = reg s (R.THL_ACTIVE_DIGEST k))))
    ∧ ((advance time s).ft < (reg s R.THL_PENDING_TIME).toNat →
      Completes (.epochSwitch time) s (fun t => t = advance time s)))

/-- R27, R28, R37, R41: what the loader has checked of any image it stages. -/
def Obligations.VerifiedImagesAreAuthentic : Prop :=
  open Sys2Proof Machine in
  ∀ (s : State) (img : List Byte) (len : Nat), verifyImage s img len = none →
    let body := fieldAt img 8 4
    let signed := bitOf (fieldAt img 0xE 2) 0
    len = body + (if signed then 208 else 0) ∧ len ≤ 2 ^ 28
    ∧ sha384 (img.take (body - 48)) = (img.drop (body - 48)).take 48
    ∧ (bitOf (fuseWord s 0) 0 = true → signed = true)
    ∧ (signed = true → trailerErr s ((img.drop body).take 208) (sha384 (img.take (body - 48))) = none)
    ∧ capsHeld s (fieldAt img 0x14 4) = true
    ∧ fieldAt img 0x10 2 = 0x9408

/-- R215, R548, R561. -/
def Obligations.SequencerCommandsComplete : Prop :=
  open Sys2Proof Machine in
  (∀ (s : State) (h : CmdHead) (first t0 ring slotBytes slots line inDev : Nat), CommandSlot s h →
    addrKind ring = 0 → addrKind line = 0 → addrKind inDev = 1 → addrOk inDev = true → 0 < slotBytes → slotBytes % 4096 = 0 → 0 < slots →
    imageActive s = true → stepsRunning s = false → switchPending s = false → first = s.stepCtr →
    Completes (.runSteps h first t0 ring slotBytes slots line inDev) s (fun t =>
      Began s t h (.runSteps first t0 ring slotBytes slots line inDev)
      ∧ t.seq = { s.seq with
          run := some ⟨s.cmd.fetched, t0, addrVal ring, slotBytes, slots, addrVal line, addrVal inDev⟩
          first := first, supplied := 0, copied := [] }
      ∧ t.stepCtr = s.stepCtr))
  ∧ (∀ (s : State) (h : CmdHead) (step : Nat), CommandSlot s h → stepsRunning s = true → s.seq.settled ≤ step →
    Completes (.stopAtStep h step) s (fun t =>
      Began s t h (.stopAtStep step) ∧ t.seq = { s.seq with stops := s.seq.stops ++ [(s.cmd.fetched, step)] }))
  ∧ (∀ (s : State) (h : CmdHead) (target : Nat), CommandSlot s h → s.cmd.held.length < 4095 → s.cmd.atPoint = [] →
      rb s R.HST_STATUS F.HST_STATUS_link_up = true →
    ((s.cmd.fetched ≤ target ∨ (findCmd s target = none ∧ target < s.cmd.fetched ∧ s.cmd.done.contains target = false)) →
      Completes (.abort h target) s (fun t => findCmd t s.cmd.fetched = none
        ∧ Retired t s.cmd.fetched h.cmdId 5 0 0 0 ∧ t.seq = s.seq))
    ∧ (findCmd s target = none → s.cmd.done.contains target = true → target < s.cmd.fetched →
      Completes (.abort h target) s (fun t => findCmd t s.cmd.fetched = none
        ∧ Retired t s.cmd.fetched h.cmdId 5 0 0 2 ∧ t.seq = s.seq))
    ∧ (∀ c, findCmd s target = some c → c.stopped = false → stands c = false → c.torn = false →
      Completes (.abort h target) s (fun t => findCmd t s.cmd.fetched = none ∧ Retired t s.cmd.fetched h.cmdId 5 0 0 1
        ∧ (Retired t target c.head.cmdId (cmdOpcode c.op) 1 0 0
          ∨ ∃ c', findCmd t target = some c' ∧ c'.fin = some { status := 1 } ∧ c'.stopped = true)
        ∧ (NothingOut s c → findCmd t target = none ∧ Retired t target c.head.cmdId (cmdOpcode c.op) 1 0 0)))
    ∧ (∀ c, findCmd s target = some c → c.stopped = true →
      Completes (.abort h target) s (fun t => findCmd t s.cmd.fetched = none ∧ Retired t s.cmd.fetched h.cmdId 5 0 0 1
        ∧ findCmd t target = some c)))
  ∧ (∀ (s : State) (time : Nat),
    let a := advance time s
    let n := a.stepCtr
    let dry := !a.seq.copied.contains n
    (failed a = false → mayStartStep a = true → (reg a R.HST_DRY_STEPS).toNat + 1 < 2 ^ 64 →
      Completes (.stepStart time) s (fun t =>
        t.stepCtr = n + 1 ∧ t.seq.step = some n ∧ t.seq.dry = dry ∧ t.rau.window = n + 1
        ∧ rb t R.HST_STATUS F.HST_STATUS_input_dry = dry
        ∧ (reg t R.HST_DRY_STEPS).toNat = (reg a R.HST_DRY_STEPS).toNat + (if dry then 1 else 0)
        ∧ (∀ f, f < 32 → a.seq.fronds.length = 32 → a.rau.paramHeld = [] → dry = false → a.seq.densePaused = false →
            rb a (R.FRD_PLAN_STATUS f) F.FRD_PLAN_STATUS_running = false → issuedWork a f = false →
            (frondOf t f).step = n ∧ (frondOf t f).head = 0 ∧ (frondOf t f).headW = 0 ∧ (frondOf t f).done = 0)))
    ∧ (failed a = false → mayStartStep a = false → exec (.stepStart time) s = .next a))
  ∧ (∀ (s : State) (h : CmdHead) (table desc step : Nat) (d : List Byte), CommandSlot s h → table < 4096 → addrKind desc = 1 →
      addrOk desc = true → devRead s (addrVal desc) 128 = some d → swapErr s table (some d) step = none → s.seq.step = none →
    Completes (.tableSwap h table desc step) s (fun t =>
      Began s t h (.tableSwap table desc step)
      ∧ (∃ p, (tableState t table).pending = some p ∧ p.cmd = s.cmd.fetched ∧ p.desc = d ∧ p.step = step)
      ∧ (tableState t table).versions = (tableState s table).versions ∧ t.seq = s.seq))

/-- R555 to R557, R560, R633. -/
def Obligations.CheckpointAndRecordCommandsComplete : Prop :=
  open Sys2Proof Machine in
  (∀ (s : State) (h : CmdHead) (dest offset len : Nat), CommandSlot s h → addrOk dest = true → stepsRunning s = false →
      (∀ c ∈ s.cmd.active, serialClass c.op ≠ some 1) → (∀ c ∈ s.cmd.active, c.fin.isSome = true ∨ cmdOpcode c.op ≠ 7) →
    let op : CmdOp := .ckSave dest offset len
    let s0 := started s h op none
    (saveMissing s0 = [] → Completes (.checkpointSave h dest offset len) s (fun t =>
      Worked s t h op (leBytes 8 (ckStream s0).length)
      ∧ (h.cntAddr = 0 → addrKind dest = 0 →
          (rb s R.HST_STATUS F.HST_STATUS_link_up = true →
            let bs := ((ckStream s0).drop offset).take len
            ∀ p ∈ hostPieces (bs.length / 2 ^ 20 + 2) 0 (addrVal dest) bs, .hostWrite s.cmd.fetched p.1 p.2 ∈ t.out) ∧ MemSame s t)
      ∧ t.seq = s.seq ∧ t.thl = s.thl ∧ t.stepCtr = s.stepCtr))
    ∧ (saveMissing (askRows s0 (saveMissing s0)) ≠ [] → Completes (.checkpointSave h dest offset len) s (fun t =>
      Began s t h op ∧ t.seq = s.seq ∧ t.thl = s.thl ∧ t.stepCtr = s.stepCtr)))
  ∧ (∀ (s : State) (h : CmdHead) (src len : Nat) (bs : List Byte), CommandSlot s h → addrOk src = true → addrKind src = 0 → bs.length = len →
      (∀ c ∈ s.cmd.active, serialClass c.op ≠ some 1) → (∀ c ∈ s.cmd.active, c.fin.isSome = true ∨ cmdOpcode c.op ≠ 7) →
      imageActive s = true → stepsRunning s = false → rb s R.HST_STATUS F.HST_STATUS_link_up = true →
    let op : CmdOp := .ckLoad src len 0
    let s0 := started s h op (some bs)
    (∀ gs, ckSegments bs = some gs →
      (loadMissing s0 gs = [] → Completes (.checkpointLoad h src len (some bs)) s (fun t =>
          Worked s t h op (leBytes 8 (ckLoadAll s0 gs).2.1 ++ leBytes 8 (ckLoadAll s0 gs).2.2)
          ∧ MemSame (ckLoadAll s0 gs).1 t ∧ t.stepCtr = (ckLoadAll s0 gs).1.stepCtr))
      ∧ (loadMissing (askRows s0 (loadMissing s0 gs)) gs ≠ [] → Completes (.checkpointLoad h src len (some bs)) s (fun t =>
          Began s t h op ∧ t.stepCtr = s.stepCtr))
      ∧ (∀ g, gs = [g] → g.kind = 1 → Completes (.checkpointLoad h src len (some bs)) s (fun t =>
          Worked s t h op (leBytes 8 1 ++ leBytes 8 0) ∧ t.stepCtr = fieldAt g.body 0x10 8 % 2 ^ 48)))
    ∧ (ckSegments bs = none → Completes (.checkpointLoad h src len (some bs)) s (fun t =>
        RunsAt t s.cmd.fetched s.ft h op (some { status := 2, reason := 0xF7 })
        ∧ t.stepCtr = s.stepCtr ∧ (h.cntAddr = 0 → MemSame s t))))
  ∧ (∀ (s : State) (h : CmdHead), CommandSlot s h → (∀ c ∈ s.cmd.active, serialClass c.op ≠ some 1) → imageActive s = true → stepsRunning s = false →
      h.cntAddr = 0 → NothingWaits s →
    Completes (.checkpointClear h) s (fun t =>
      Worked s t h (.ckLoad 0 0 1) (List.replicate 16 0)
      ∧ (∀ p, p < 2 ^ 28 → pte t p = 0)
      ∧ t.rau.blocks = [] ∧ t.rau.snaps = [] ∧ t.tier.migs = [] ∧ t.seq = s.seq ∧ t.stepCtr = s.stepCtr))
  ∧ (∀ (s : State) (h : CmdHead) (src len : Nat) (bs : List Byte) (gs : List CkSeg), CommandSlot s h → addrOk src = true → addrKind src = 0 →
      bs.length = len → imageActive s = true → ckSegments bs = some gs → rb s R.HST_STATUS F.HST_STATUS_link_up = true →
      (∀ c ∈ s.cmd.active, c.fin.isSome = true ∨ cmdOpcode c.op ≠ 7) →
    let op : CmdOp := .ckLoad src len 2
    let y := gs.foldl restoreSegment (started s h op (some bs), 0, 0)
    (s.seq.step = none → Completes (.checkpointRestore h src len (some bs)) s (fun t =>
      Worked s t h op (leBytes 8 y.2.1 ++ leBytes 8 y.2.2) ∧ MemSame y.1 t ∧ t.stepCtr = s.stepCtr))
    ∧ (s.seq.step.isSome = true → Completes (.checkpointRestore h src len (some bs)) s (fun t => Began s t h op ∧ t.stepCtr = s.stepCtr)))
  ∧ (∀ (s : State) (h : CmdHead), CommandSlot s h →
    Completes (.fence h) s (fun t => Worked s t h .fence [] ∧ t.seq = s.seq ∧ t.thl = s.thl ∧ (h.cntAddr = 0 → MemSame s t)))
  ∧ (∀ (s : State) (h : CmdHead) (dest : Nat), CommandSlot s h → addrOk dest = true →
    Completes (.counterSnapshot h dest) s (fun t =>
      Worked s t h (.snapshot dest) [] ∧ t.seq = s.seq ∧ t.thl = s.thl
      ∧ (addrKind dest = 0 → rb s R.HST_STATUS F.HST_STATUS_link_up = true →
          let r := latch (started s h (.snapshot dest) none) 3 s.cmd.fetched
          r.1.length = 2048 ∧ .hostWrite s.cmd.fetched (addrVal dest) r.1 ∈ t.out)))

/-- R18, R544, R550, R558, R560. -/
def Obligations.RetirePointCompletes : Prop :=
  open Sys2Proof Machine in
  (∀ (s : State) (i : Nat) (c : Cmd) (e : CmdEnd), findCmd s i = some c → c.fin = some e → c.phase = .running → mayRetireCmd s c = true →
      (∀ x ∈ s.cmd.active, x.phase = .running) → s.cmd.held.length < 4096 → s.cmd.atPoint = [] → c.torn = false → e.status ≠ 3 →
      rb s R.HST_STATUS F.HST_STATUS_link_up = true →
    Completes (.retire i) s (fun t =>
      findCmd t i = none ∧ Retired t i c.head.cmdId (cmdOpcode c.op) e.status e.reason e.outcome
      ∧ (∀ j, j ≠ i → ∀ d, findCmd s j = some d → ∃ d', findCmd t j = some d' ∧ d'.op = d.op ∧ d'.fin = d.fin)
      ∧ ((reg s R.CNT_LATCH_CNT).toNat + 1 < 2 ^ 64 → (reg t R.CNT_LATCH_CNT).toNat = (reg s R.CNT_LATCH_CNT).toNat + 1)
      ∧ t.seq = s.seq ∧ t.thl = s.thl ∧ t.stepCtr = s.stepCtr))
  ∧ (∀ (s : State) (i time : Nat) (c : Cmd), findCmd s i = some c → c.phase = .running → timedOut (advance time s) c = true →
      (∀ x ∈ s.cmd.active, x.phase = .running) → s.cmd.held.length < 4096 → s.cmd.atPoint = [] → c.torn = false →
      rb s R.HST_STATUS F.HST_STATUS_link_up = true →
    Completes (.commandTimeout i time) s (fun t => t.ft = (advance time s).ft
      ∧ (Retired t i c.head.cmdId (cmdOpcode c.op) 4 0 0
        ∨ ∃ c', findCmd t i = some c' ∧ c'.fin = some { status := 4 } ∧ c'.stopped = true)
      ∧ (NothingOut s c → findCmd t i = none ∧ Retired t i c.head.cmdId (cmdOpcode c.op) 4 0 0)))
  ∧ (∀ (s : State) (i time : Nat) (c : Cmd), findCmd s i = some c → timedOut (advance time s) c = false →
    exec (.commandTimeout i time) s = .next (advance time s))
  ∧ (∀ (s : State) (i : Nat) (c : Cmd), findCmd s i = some c → mayRetireCmd s c = false → exec (.retire i) s = .next s)

/-- R540 to R545. -/
def Obligations.RingLinesAreRead : Prop :=
  open Sys2Proof Machine in
  (∀ (s : State) (produced consumed : Nat), ringsOn s = true → s.cmd.held = [] → s.cmd.atPoint = [] → produced ≤ s.cmd.fetched →
      (∀ x ∈ s.cmd.active, x.phase = .running) →
    let after (t : State) : Prop := t.cmd = { s.cmd with cplConsumed := consumed } ∧ t.regs = s.regs ∧ t.mem = s.mem ∧ t.seq = s.seq
    (watching s = true → ∀ ds, Completes (.watchLineInvalidate produced consumed ds) s after)
    ∧ (watching s = false → ∀ ds, Completes (.controlLinePoll produced consumed ds) s after))
  ∧ (∀ (s : State) (consumed : Nat) (d : List Byte), CommandSlot s (readHead d) → readOp d = .fence → s.cmd.held = [] → s.cmd.atPoint = [] →
    (watching s = true → Completes (.watchLineInvalidate (s.cmd.fetched + 1) consumed [⟨d, none⟩]) s (fun t =>
        Worked s t (readHead d) .fence [] ∧ t.cmd.cplConsumed = consumed))
    ∧ (watching s = false → Completes (.controlLinePoll (s.cmd.fetched + 1) consumed [⟨d, none⟩]) s (fun t =>
        Worked s t (readHead d) .fence [] ∧ t.cmd.cplConsumed = consumed)))
  ∧ (∀ (s : State) (req v : Nat), rb s R.HST_STATUS F.HST_STATUS_link_up = true → barServed s R.CMD_CFG = true →
    let ring := bitsOf v 0 8
    let cpl := bitsOf v 8 8
    (bitOf v 31 = true → 6 ≤ ring → ring ≤ 16 → 6 ≤ cpl → cpl ≤ 16 → s.hst.unaligned = 0 → s.cmd.held = [] → s.cmd.atPoint = [] →
      Completes (.cmdCfg req v) s (fun t =>
        rb t R.CMD_CFG F.CMD_CFG_en = true ∧ rf t R.CMD_CFG F.CMD_CFG_ring_log2 = ring ∧ rf t R.CMD_CFG F.CMD_CFG_cpl_log2 = cpl
        ∧ rb t R.CMD_STATUS F.CMD_STATUS_cfg_err = false
        ∧ t.cmd.cplWritten = 0 ∧ t.cmd.cplConsumed = 0 ∧ t.cmd.active = s.cmd.active ∧ t.cmd.fetched = s.cmd.fetched))
    ∧ (bitOf v 31 = true → ring < 6 ∨ 16 < ring ∨ cpl < 6 ∨ 16 < cpl ∨ s.hst.unaligned ≠ 0 →
      Completes (.cmdCfg req v) s (fun t =>
        rb t R.CMD_CFG F.CMD_CFG_en = false ∧ rb t R.CMD_STATUS F.CMD_STATUS_cfg_err = true ∧ t.cmd = s.cmd ∧ MemSame s t
        ∧ RegsSameBut (fun r => r = R.CMD_CFG || r = R.CMD_STATUS) s t)))

/-- R551, R562 to R567, R690. -/
def Obligations.HostLinkEventsComplete : Prop :=
  open Sys2Proof Machine in
  (∀ (s : State) (width speed : Nat) (cache : Bool), s.hst.inReset = false → s.hst.perstHigh = true →
      linkForm width speed = true → NothingWaits s →
    Completes (.hostPortLinkUp width speed cache) s (fun t =>
      rb t R.HST_STATUS F.HST_STATUS_link_up = true ∧ rf t R.HST_STATUS F.HST_STATUS_width = width
      ∧ rf t R.HST_STATUS F.HST_STATUS_speed = speed ∧ rb t R.HST_STATUS F.HST_STATUS_cache_up = cache
      ∧ rb t R.HST_STATUS F.HST_STATUS_attached = rb s R.HST_STATUS F.HST_STATUS_attached
      ∧ rb t R.TIER_STATUS F.TIER_STATUS_host_down = false ∧ t.cmd = s.cmd ∧ t.seq = s.seq))
  ∧ (∀ (s : State), rb s R.HST_STATUS F.HST_STATUS_link_up = true → (∀ x ∈ s.cmd.active, x.phase = .running) →
    Completes .hostRetrain s (fun t =>
      rb t R.HST_STATUS F.HST_STATUS_link_up = false ∧ rb t R.HST_STATUS F.HST_STATUS_attached = false
      ∧ (attached s = true → t.cmd.detachReason = 5 ∧ t.cmd.detachTime = s.ft)
      ∧ (attached s = false → t.cmd.detachReason = s.cmd.detachReason ∧ t.cmd.detachTime = s.cmd.detachTime) ∧ t.cmd.unconf = [] ∧ t.cmd.flushes = []
      ∧ t.cmd.active.length = s.cmd.active.length
      ∧ (∀ i c, findCmd s i = some c → 0 < c.unconf → ∃ c', findCmd t i = some c' ∧ c'.torn = true ∧ c'.unconf = 0)
      ∧ t.seq = s.seq ∧ t.stepCtr = s.stepCtr))
  ∧ (∀ (s : State) (nonce : Nat), rb s R.HST_STATUS F.HST_STATUS_link_up = true → barServed s R.HST_ATTACH = true →
    (0 < nonce → nonce < 2 ^ 32 → Completes (.hstAttach nonce) s (fun t =>
      rb t R.HST_STATUS F.HST_STATUS_attached = true ∧ rf t R.HST_ATTACH F.HST_ATTACH_nonce = nonce
      ∧ rf t R.HST_ATTACH F.HST_ATTACH_session = (rf s R.HST_ATTACH F.HST_ATTACH_session + 1) % 2 ^ 32
      ∧ t.cmd.session = (rf s R.HST_ATTACH F.HST_ATTACH_session + 1) % 2 ^ 32 ∧ t.cmd.active = s.cmd.active ∧ t.seq = s.seq))
    ∧ Completes (.hstAttach 0) s (fun t =>
      rf t R.HST_ATTACH F.HST_ATTACH_nonce = 0 ∧ rf t R.HST_ATTACH F.HST_ATTACH_session = rf s R.HST_ATTACH F.HST_ATTACH_session
      ∧ rb t R.HST_STATUS F.HST_STATUS_attached = rb s R.HST_STATUS F.HST_STATUS_attached ∧ t.cmd = s.cmd))
  ∧ (∀ (s : State) (w : Nat) (issued : List (Nat × Nat)) (rest : List (Nat × List (Nat × Nat))), s.cmd.flushes = (w, issued) :: rest →
    Completes .hostWriteConfirm s (fun t =>
      t.cmd.flushes = rest ∧ t.cmd.fetched = s.cmd.fetched
      ∧ (∀ i c, findCmd s i = some c → ∃ c', findCmd t i = some c' ∧ c'.confirmed + c'.unconf = c.confirmed + c.unconf
          ∧ c.confirmed ≤ c'.confirmed ∧ (c.confirmed + c.unconf ≤ alGet 0 issued i → c'.unconf = 0))
      ∧ t.seq = s.seq ∧ t.regs = s.regs))
  ∧ (∀ (s : State) (supplied : Nat), s.seq.run.isSome = true → rb s R.HST_STATUS F.HST_STATUS_link_up = true →
    Completes (.inputLine supplied) s (fun t => t = { s with seq := { s.seq with supplied := supplied } }))
  ∧ (∀ (s : State) (n : Nat) (bytes : List Byte) (r : RunSteps) (s1 : State), s.seq.run = some r → mayCopy s n = true →
      bytes.length = r.slotBytes →
      memWrite (emit s (.hostRead (r.ring + n % r.slots * r.slotBytes) r.slotBytes)) (r.inDev + n % 2 * r.slotBytes) bytes = some s1 →
    Completes (.inputCopyDone n bytes) s (fun t =>
      t.seq.copied.head? = some n ∧ t.cmd.inputStep = n ∧ t.seq.run = s.seq.run ∧ t.seq.supplied = s.seq.supplied
      ∧ (attached s = true → MemSame s1 t)))

/-- R449, R454 to R456. -/
def Obligations.ScaleCommandsComplete : Prop :=
  open Sys2Proof Machine in
  ∀ (s : State) (h : CmdHead) (op l tensor e interval step : Nat), CommandSlot s h → s.cmd.held.length < 4096 → s.cmd.atPoint = [] →
    rb s R.HST_STATUS F.HST_STATUS_link_up = true →
    let p : PendScales := ⟨s.cmd.fetched, op, l, tensor, toSigned 8 e, interval, step⟩
    let waits (t : State) : Prop := Began s t h (.setScales op l tensor e interval step) ∧ t.scl = { s.scl with pend := some p }
      ∧ rb t R.SCL_STATUS F.SCL_STATUS_pending = true ∧ t.seq = s.seq ∧ t.thl = s.thl
    let acts (t : State) : Prop := Worked s t h (.setScales op l tensor e interval step) [] ∧ t.seq = s.seq ∧ t.thl = s.thl
      ∧ (op = 0 → rf t R.SCL_LOSS F.SCL_LOSS_L = l) ∧ (op = 1 → rf t R.SCL_LOSS F.SCL_LOSS_interval = interval)
    let fails (r : Nat) (t : State) : Prop := findCmd t s.cmd.fetched = none ∧ Retired t s.cmd.fetched h.cmdId 0xE 2 r 0
      ∧ rf t R.SCL_ERR F.SCL_ERR_reason = r ∧ t.scl = s.scl
    let goes (c : Instr) : Prop :=
      (scalesErr s op l tensor e interval step = none → s.stepCtr ≠ 0 → s.seq.step.isSome = true ∨ step ≠ s.stepCtr → Completes c s waits)
      ∧ (scalesErr s op l tensor e interval step = none → s.stepCtr = 0 ∨ (s.seq.step = none ∧ step = s.stepCtr) → Completes c s acts)
      ∧ (∀ r, scalesErr s op l tensor e interval step = some r → Completes c s (fails r))
    (op = 0 → tensor = 0 → e = 0 → interval = 0 → goes (.setLoss h l step))
    ∧ (op = 1 → l = 0 → tensor = 0 → e = 0 → goes (.setInterval h interval step))
    ∧ (op = 2 → l = 0 → tensor = 0 → e = 0 → interval = 0 → goes (.loseHistory h step))
    ∧ (op = 3 → l = 0 → interval = 0 → goes (.setTensor h tensor e step))

/-- R634 to R636. -/
def Obligations.CounterFreezeCommandsComplete : Prop :=
  open Sys2Proof Machine in
  (∀ (s : State) (h : CmdHead) (time : Nat), CommandSlot s h → rb s R.CNT_STATUS F.CNT_STATUS_freeze_pending = false → s.ft < time →
      time < 2 ^ 64 →
    Completes (.freezeAt h time) s (fun t =>
      Began s t h (.freezeAt time) ∧ (reg t R.CNT_FREEZE_T).toNat = time ∧ rb t R.CNT_STATUS F.CNT_STATUS_freeze_pending = true
      ∧ t.cnt.freezeCmd = some s.cmd.fetched ∧ t.seq = s.seq ∧ t.thl = s.thl))
  ∧ (∀ (s : State) (time : Nat), rb s R.CNT_STATUS F.CNT_STATUS_freeze_pending = true →
    ((reg s R.CNT_FREEZE_T).toNat ≤ (advance time s).ft →
      Completes (.freeze time) s (fun t =>
        rb t R.CNT_STATUS F.CNT_STATUS_frozen = true ∧ rb t R.CNT_STATUS F.CNT_STATUS_freeze_pending = false ∧ reg t R.CNT_FREEZE_T = 0
        ∧ t.cnt.frozen.isSome = true ∧ t.cnt.freezeCmd = none
        ∧ (∀ i c, s.cnt.freezeCmd = some i → findCmd s i = some c → c.fin = none →
            ∃ c', findCmd t i = some c' ∧ c'.fin = some ⟨0, 0, 0, leBytes 8 (latchTime (advance time s))⟩)
        ∧ (reg t (R.CNT_FROZEN 0)).toNat % 2 ^ 40 = 0x52434E43 + 4 * 2 ^ 32
        ∧ reg t (R.CNT_FROZEN 2) = BitVec.ofNat 64 (latchTime (advance time s))
        ∧ (∀ k, k < 248 → reg t (R.CNT_FROZEN (k + 8)) = BitVec.ofNat 64 ((recordWords (advance time s) true).getD k 0))
        ∧ t.thl = s.thl ∧ t.seq = s.seq))
    ∧ ((advance time s).ft < (reg s R.CNT_FREEZE_T).toNat → Completes (.freeze time) s (fun t => t = advance time s)))

/-- R10, R13, R536, R568 to R570: register accesses and their frame. -/
def Obligations.RegisterAccessesComplete : Prop :=
  open Sys2Proof Machine in
  ∀ (s : State) (req off n : Nat) (h : RegHit), hostLink s = true →
    (barServed s off = true → capWord s off = none → regHit off = some h → h.start = off → h.row.w / 8 = n →
      (privReg s h = false → h.blk ≠ 4 →
        Completes (.registerRead req off n) s (fun t =>
          t.out = .readData (.value (regValue s h)) :: s.out ∧ t.regs = s.regs ∧ t.mem = s.mem ∧ t.cmd = s.cmd))
      ∧ (∀ v, v < 2 ^ (8 * n) → h.blk ≠ 4 → h.blk ≠ 5 →
          off ∉ [R.HST_ATTACH, R.CMD_CFG, R.RST_BLOCK, R.MGT_CTL, R.DEV_RB_TAIL] → off < R.MSIX_TABLE 0 ∨ R.MSIX_PBA 0 ≤ off →
        Completes (.registerWrite req off n v) s (fun t =>
          (∀ k, k < h.row.w → (reg t off).toNat.testBit k =
            if h.row.rw.testBit k then v.testBit k else (reg s off).toNat.testBit k && !(h.row.w1c.testBit k && v.testBit k))
          ∧ RegsSameBut (fun r => r = off) s t ∧ MemSame s t ∧ t.cmd = s.cmd ∧ t.out = s.out)))
    ∧ (capWord s off = none → regHit off = none → (reg s R.HST_VIOL_CNT).toNat + 1 < 2 ^ 64 →
      Completes (.registerRead req off n) s (fun t =>
        (reg t R.HST_VIOL_CNT).toNat = (reg s R.HST_VIOL_CNT).toNat + 1 ∧ MemSame s t ∧ t.cmd = s.cmd
        ∧ ∃ a, t.out.head? = some (.readData a) ∧ (a = .ur ∨ a = .ca))
      ∧ (∀ v, Completes (.registerWrite req off n v) s (fun t =>
        (reg t R.HST_VIOL_CNT).toNat = (reg s R.HST_VIOL_CNT).toNat + 1 ∧ MemSame s t ∧ t.cmd = s.cmd ∧ t.out.head? = some .aer)))

/-- R537 to R539, R568. -/
def Obligations.WindowAccessesComplete : Prop :=
  open Sys2Proof Machine in
  ∀ (s : State) (req off n : Nat) (bytes : List Byte), hostLink s = true → barServed s R.WIN_BASE = true →
    (∀ v, v < 2 ^ 48 → Completes (.winBase req v) s (fun t =>
      rf t R.WIN_BASE F.WIN_BASE_base = v / 2 ^ 16 ∧ RegsSameBut (fun r => r = R.WIN_BASE) s t ∧ MemSame s t ∧ t.cmd = s.cmd))
    ∧ (rb s R.WIN_CTL F.WIN_CTL_en = true →
      let a := rf s R.WIN_BASE F.WIN_BASE_base * 65536 + off
      (∀ k, winRegion s a n false = .store k → failed s = false → rb s (R.FRD_STATUS k) F.FRD_STATUS_init_done = true →
        Completes (.windowRead req off ⟨n, .none⟩) s (fun t => t.out = .readData (.value (numAt s a n)) :: s.out ∧ t.mem = s.mem ∧ t.cmd = s.cmd))
      ∧ (∀ k, winRegion s a n false = .hbm k →
        (hbmWaits s k (a - hbmBase k) n = false → badLines s k (a - hbmBase k) n = [] →
          Completes (.windowRead req off ⟨n, .none⟩) s (fun t => t.out = .readData (.value (numAt s a n)) :: s.out ∧ t.mem = s.mem ∧ t.cmd = s.cmd))
        ∧ (hbmWaits s k (a - hbmBase k) n = false → (stackOf s k).errs = [] → (∃ l ∈ (stackOf s k).poison, meets (64 * l) 64 (a - hbmBase k) n = true) →
          Completes (.windowRead req off ⟨n, .none⟩) s (fun t => t.out.head? = some (.readData .ca)))
        ∧ (hbmWaits s k (a - hbmBase k) n = true →
          Completes (.windowRead req off ⟨n, .none⟩) s (fun t =>
            t = waitRead s ⟨none, a, n, s.tier.arrivals⟩)))
      ∧ (winRegion s a n false = .tiered →
        (readWaits s a n = false → anyLost s a n = false → NoMemoryErrors s →
          Completes (.windowRead req off ⟨n, .none⟩) s (fun t =>
            t.out.head? = some (.readData (.value (leVal (tierRead s a n)))) ∧ t.cmd = s.cmd ∧ t.seq = s.seq))
        ∧ (readWaits s a n = true →
          Completes (.windowRead req off ⟨n, .none⟩) s (fun t =>
            t = waitRead s ⟨none, a, n, s.tier.arrivals⟩)))
      ∧ (∀ k, winRegion s a n false = .store k → k < s.seq.fronds.length → failed s = false → rb s (R.FRD_STATUS k) F.FRD_STATUS_init_done = false →
        Completes (.windowRead req off ⟨n, .none⟩) s (fun t => (frondOf t k).heldReads = (frondOf s k).heldReads ++ [numAt s a n] ∧ t.out = s.out
          ∧ t.mem = s.mem ∧ t.cmd = s.cmd))
      ∧ (∀ k, winRegion s a bytes.length true = .store k →
        Completes (.windowWrite req off bytes) s (fun t => bytesAt t a bytes.length = bytes ∧ MemSameOutside a bytes.length s t ∧ t.cmd = s.cmd))
      ∧ (∀ k, winRegion s a bytes.length true = .hbm k →
        let waits := hbmWaits s k (a - hbmBase k) bytes.length
        (waits = false →
          Completes (.windowWrite req off bytes) s (fun t => bytesAt t a bytes.length = bytes ∧ MemSameOutside a bytes.length s t ∧ t.cmd = s.cmd))
        ∧ (waits = true →
          Completes (.windowWrite req off bytes) s (fun t =>
            t = waitWrite s ⟨[(a, bytes)], s.tier.arrivals⟩)))
      ∧ (∀ p o pl, winRegion s a bytes.length true = .tiered → groupOf s (selfId s) = none → partSegs [(a, bytes)] = [(p, o, bytes)] →
        ptePlace (pte s p) = some pl → placeWaits s o bytes.length pl = false → s.tier.waitWrites = [] → s.tier.waitReads = [] → s.tier.migs = [] →
        (pteAddr p + 8 ≤ placeKey pl + o ∨ placeKey pl + o + bytes.length ≤ pteAddr p) →
        Completes (.windowWrite req off bytes) s (fun t =>
          bytesAt t (placeKey pl + o) bytes.length = bytes
          ∧ (∀ x, (x < placeKey pl + o ∨ placeKey pl + o + bytes.length ≤ x) → (x < pteAddr p ∨ pteAddr p + 8 ≤ x) → byteAt t x = byteAt s x)))
      ∧ ((reg s R.HST_VIOL_CNT).toNat + 1 < 2 ^ 64 →
        ((∃ c, winRegion s a n false = .bad c) → Completes (.windowRead req off ⟨n, .none⟩) s (fun t =>
          (reg t R.HST_VIOL_CNT).toNat = (reg s R.HST_VIOL_CNT).toNat + 1 ∧ t.mem = s.mem ∧ t.cmd = s.cmd))
        ∧ ((∃ c, winRegion s a bytes.length true = .bad c) → Completes (.windowWrite req off bytes) s (fun t =>
          (reg t R.HST_VIOL_CNT).toNat = (reg s R.HST_VIOL_CNT).toNat + 1 ∧ t.mem = s.mem ∧ t.cmd = s.cmd))))
    ∧ (rb s R.WIN_CTL F.WIN_CTL_en = false → (reg s R.HST_VIOL_CNT).toNat + 1 < 2 ^ 64 →
      Completes (.windowRead req off ⟨n, .none⟩) s (fun t =>
        (reg t R.HST_VIOL_CNT).toNat = (reg s R.HST_VIOL_CNT).toNat + 1 ∧ t.mem = s.mem ∧ t.cmd = s.cmd)
      ∧ Completes (.windowWrite req off bytes) s (fun t =>
        (reg t R.HST_VIOL_CNT).toNat = (reg s R.HST_VIOL_CNT).toNat + 1 ∧ t.mem = s.mem ∧ t.cmd = s.cmd))

/-- R605, R606. -/
def Obligations.ConfigurationRequestsSetMsix : Prop :=
  open Sys2Proof Machine in
  ∀ (s : State) (en mask : Bool),
    (hostLink s = true → Completes (.configurationRequest en mask) s (fun t =>
      t.hst = { s.hst with msixEn := en, msixMaskAll := mask } ∧ t.mem = s.mem ∧ t.cmd = s.cmd ∧ t.seq = s.seq))
    ∧ (hostLink s = false → exec (.configurationRequest en mask) s = .next s)

/-- R360, R364 to R366, R368: the three kinds of op; a MOVE is stated for rows that do not overlap and a done bit that is not POOL_FREE
(with that bit the look-up engine goes on as well, R363). -/
def Obligations.OpsIssueInTurn : Prop :=
  open Sys2Proof Machine in
  (∀ (s : State) (f : Nat) (o : PlanOp) (how : Nat), f < 32 → s.seq.fronds.length = 32 → (frondOf s f).slots.length = 2 →
    chooseOp s f = some (o, how) → o.idx < 65536 →
    let consumed (b : Nat) : Bool := o.waits.zipIdx.any (fun w => bitOf w.1 15 && bitOf o.flags w.2 && decide (w.1 % 1024 = b))
    let moved (t : State) : Prop := (frondOf t f).since = s.ft ∧ rb t (R.FRD_PLAN_STATUS f) F.FRD_PLAN_STATUS_stalled = false
      ∧ (if o.isW then (frondOf t f).headW = o.idx + 1 ∧ (frondOf t f).head = (frondOf s f).head
         else (frondOf t f).head = o.idx + 1 ∧ (frondOf t f).headW = (frondOf s f).headW)
    (o.kind = 1 →
      Completes (.product f) s (fun t =>
        moved t ∧ (∀ b, b < 1024 → sbBit t f b = (sbBit s f b && !consumed b))
        ∧ (∃ k, k < 2 ∧ slotFor s f (descOf s o) = some k ∧ (frondOf t f).array = some k ∧ (slotOf t f k).op = some o.idx
            ∧ (slotOf t f k).passes = 0 ∧ slotOf t f (1 - k) = slotOf s f (1 - k))
        ∧ rf t (R.FRD_STATUS f) F.FRD_STATUS_cur_product = o.idx ∧ rf t (R.FRD_STATUS f) F.FRD_STATUS_stall = 0
        ∧ (frondOf t f).shadow = weightTile s f (descOf s o) 0 ∧ (frondOf t f).crozier = turnUnits s f (descOf s o) 0
        ∧ t = { s with regs := t.regs, seq := t.seq, cnt := t.cnt }))
    ∧ (o.kind = 2 →
      Completes (.invoke f) s (fun t =>
        moved t ∧ (∀ b, b < 1024 → sbBit t f b = (sbBit s f b && !consumed b))
        ∧ (frondOf t f).engQ = (frondOf s f).engQ ++ [o.idx] ∧ (frondOf t f).slots = (frondOf s f).slots
        ∧ t = { s with regs := t.regs, seq := t.seq }))
    ∧ (o.kind = 3 → NoMemoryErrors s → (localReads s (moveRanges s o)).2 = false →
      let s1 := (localReads s (moveRanges s o)).1
      bodyNum s1 o 0 1 < 2 → (bitOf o.done 15 = true → o.done % 1024 ≠ 1018 ∧ o.done % 1024 ≠ 1019) → (frondOf s f).next = none →
      s.rau.paramHeld = [] → (∀ r, r < bodyNum s1 o 6 2 → moveBad s1 f o r = none) →
      let g := if bodyNum s1 o 0 1 = 0 then f else bodyNum s1 o 2 1 % 32
      let at_ (r : Nat) : Nat := storeBase g + bodyNum s1 o 0x10 4 + r * (bodyNum s1 o 0x1A 2 * 64)
      let n := bodyNum s1 o 6 2
      (∀ r, r < n → (moveRow s1 f o r).length ≤ bodyNum s1 o 0x1A 2 * 64 ∨ n = 1) →
      (∀ r, r < n → at_ r + (moveRow s1 f o r).length ≤ storeBase g + storeSize) →
      Completes (.move ⟨f, .none⟩) s (fun t =>
        moved t ∧ (bitOf o.done 15 = true → sbBit t g (o.done % 1024) = true)
        ∧ (∀ r, r < n → bytesAt t (at_ r) (moveRow s1 f o r).length = moveRow s1 f o r)
        ∧ (∀ a, (∀ r, r < n → a < at_ r ∨ at_ r + (moveRow s1 f o r).length ≤ a) → byteAt t a = byteAt s1 a)
        ∧ (bitOf (bodyNum s o 1 1) 1 = false → s1 = s) ∧ MemSameButPages s s1
        ∧ t.cmd = s.cmd ∧ t.thl = s.thl ∧ t.ft = s.ft))
    ∧ (o.kind = 3 → (localReads s (moveRanges s o)).2 = true → exec (.move ⟨f, .none⟩) s = .next (localReads s (moveRanges s o)).1))
  ∧ (∀ (s : State) (f : Nat) (o : PlanOp) (how : Nat), chooseOp s f = some (o, how) →
      (o.kind ≠ 1 → exec (.product f) s = .next s) ∧ (o.kind ≠ 2 → exec (.invoke f) s = .next s)
      ∧ (o.kind ≠ 3 → exec (.move ⟨f, .none⟩) s = .next s))
  ∧ (∀ (s : State) (f : Nat), chooseOp s f = none →
      exec (.invoke f) s = .next s ∧ exec (.move ⟨f, .none⟩) s = .next s ∧ (arrayWaits s f = 0 → exec (.product f) s = .next s)
      ∧ (arrayWaits s f ≠ 0 → Completes (.product f) s (fun t => rf t (R.FRD_STATUS f) F.FRD_STATUS_stall = arrayWaits s f
          ∧ RegsSameBut (fun r => r = R.FRD_STATUS f) s t ∧ t = { s with regs := t.regs })))

/-- R116 to R126, R365; what a last pass with drain HOLD sets off beyond the slot (R365) is no part of the memory clause. -/
def Obligations.PassesAccumulate : Prop :=
  open Sys2Proof Machine in
  ∀ (s : State) (f k i : Nat) (o : PlanOp) (d : List Byte), f < 32 → k < 2 → s.seq.fronds.length = 32 → (frondOf s f).slots.length = 2 →
    (frondOf s f).array = some k → (slotOf s f k).op = some i → productAt s f i = some (o, d) →
    (frondOf s f).halted = false → failed s = false → pausedNow s = false → dRowsM d ≤ 512 → dColsN d ≤ 128 →
    ((slotOf s f k).passes = 0 → seedReady s f k d = true) → ((slotOf s f k).passes ≠ 0 → slotState s f k = 1) →
    (reg s (R.FRD_PASS_CNT f)).toNat + 1 < 2 ^ 64 →
    let j := (slotOf s f k).passes
    let kp := passDepth (fieldAt d 8 1) (fieldAt d 9 1)
    let klen := fieldAt d 4 4
    let more := (j + 1) * kp < klen
    let out := storeBase f + fieldAt d 0x18 4
    let before (r c : Nat) : W32 × W32 :=
      if j ≠ 0 ∨ dInit d = 1 ∨ dInit d = 3 then accPair s f k r c
      else if dInit d = 0 then (0, 0)
      else (BitVec.ofNat 32 (numAt s (out + r * (fieldAt d 0x28 2 * 64) + 8 * c) 4), BitVec.ofNat 32 (numAt s (out + r * (fieldAt d 0x28 2 * 64) + 8 * c + 4) 4))
    let sum (r c : Nat) : FV := fvSum (((frondOf s f).shadow.take (min klen ((j + 1) * kp) - j * kp)).zipIdx.map (fun w =>
      fvScale (productScale s f i d) (fvMul (streamedA s f d j r (j * kp + w.2)) (operandVal (fieldAt d 9 1) (w.1.getD c (0, 0))))))
    Completes (.pass f .none) s (fun t =>
      (more ∨ dDrain d ≠ 0 →
        (∀ r c, r < dRowsM d → c < dColsN d → accPair t f k r c = (passElem (before r c) (sum r c)).1)
        ∧ MemSameOutside (accKey f k 0 0) 524288 s t)
      ∧ (frondOf t f).active = (frondOf s f).shadow ∧ (frondOf t f).shadow = weightTile s f d (j + 1)
      ∧ (frondOf t f).crozier = turnUnits s f d (j + 1)
      ∧ (reg t (R.FRD_PASS_CNT f)).toNat = (reg s (R.FRD_PASS_CNT f)).toNat + 1
      ∧ (more → slotState t f k = 1 ∧ (slotOf t f k).passes = j + 1 ∧ (frondOf t f).array = some k)
      ∧ (¬more → slotState t f k = (if dDrain d = 0 then 4 else 2) ∧ (frondOf t f).array = none)
      ∧ t.thl = s.thl ∧ t.ft = s.ft)

/-- R124, R127 to R129, R142, R370, R371, R382. -/
def Obligations.TilesDrainAndArrive : Prop :=
  open Sys2Proof Machine in
  (∀ (s : State) (f k i : Nat) (o : PlanOp) (d : List Byte), f < 32 → k < 2 → s.seq.fronds.length = 32 → (frondOf s f).slots.length = 2 →
    (slotOf s f k).op = some i → productAt s f i = some (o, d) → failed s = false → dRowsM d ≤ 512 → dColsN d ≤ 128 →
    (slotState s f k = 3 ∨ (slotState s f k = 2 ∧ (frondOf s f).halted = false)) →
    let r := (slotOf s f k).drained
    let row (bs : List Byte) (out : Nat) : Prop := Completes (.drainRow f k .none) s (fun t =>
      (r + 1 < dRowsM d → bytesAt t out bs.length = bs ∧ MemSameOutside out bs.length s t
        ∧ slotState t f k = 3 ∧ (slotOf t f k).drained = r + 1)
      ∧ (dRowsM d ≤ r + 1 → slotState t f k = 0 ∧ (slotOf t f k).op = none))
    let out := storeBase f + (fieldAt d 0x18 4 + r * fieldAt d 0x28 2 * 64)
    (dDrain d = 2 → row (leAll 2 (drainFp16 s f k d r)) out)
    ∧ (dDrain d = 3 → row (leAll 2 (drainBf16 s f k d r)) out)
    ∧ (dDrain d = 4 → row (bytesAt s (accKey f k r 0) (8 * dColsN d)) out)
    ∧ (∀ q, q < 2 → dDrain d = 5 → rb s (R.FRD_PLAN_STATUS f) F.FRD_PLAN_STATUS_running = true → (r = 0 → chainTurn s f k d = true) → chainSlot s f (fieldAt d 0x3C 1 % 32) = some q →
        ¬(fieldAt d 0x3C 1 % 32 = f ∧ q = k) →
        row (bytesAt s (accKey f k r 0) 1024) (accKey (fieldAt d 0x3C 1 % 32) q r 0))
    ∧ (dDrain d = 5 → rb s (R.FRD_PLAN_STATUS f) F.FRD_PLAN_STATUS_running = true → (r = 0 ∧ chainTurn s f k d = false ∨ chainSlot s f (fieldAt d 0x3C 1 % 32) = none) →
        Completes (.drainRow f k .none) s (fun t =>
          rf t (R.FRD_STATUS f) F.FRD_STATUS_stall = 5 ∧ slotState t f k = slotState s f k ∧ t = { s with regs := t.regs })))
  ∧ (∀ (s : State) (src dst k : Nat), k < 2 → dst < s.seq.fronds.length → (frondOf s dst).slots.length = 2 →
      (slotOf s dst k).seed = some src → (slotOf s dst k).sent = true → (slotOf s dst k).arrived = false →
      ((slotOf s dst (1 - k)).seed = some src → (slotOf s dst (1 - k)).sent = true → (slotOf s dst (1 - k)).arrived = false →
        (slotOf s dst k).order < (slotOf s dst (1 - k)).order) →
      Completes (.chainTileArrival src dst) s (fun t =>
        (slotOf t dst k).arrived = true ∧ slotOf t dst (1 - k) = slotOf s dst (1 - k) ∧ t = { s with seq := t.seq }))
  ∧ (∀ (s : State) (q f : Nat) (m : QueueMove) (o : PlanOp), f < 32 → s.seq.fronds.length = 32 → (frondOf s f).move = some m → m.queue = q →
      (∀ g, g < f → ∀ y, (frondOf s g).move = some y → y.queue ≠ q) → opAt s f m.op = some o →
      let x := queueAt s q
      let n := bodyNum s o 6 2
      let len := m.bytes.length / n
      let at_ (r : Nat) : Nat := storeBase x.consFrond + (x.base + m.k % x.depth * x.slotBytes) + r * (bodyNum s o 0x1A 2 * 64)
      s.rau.paramHeld = [] → (∀ r, r < n → at_ r + len ≤ storeBase x.consFrond + storeSize) →
      0 < n → 0 < len → m.bytes.length = n * len → (len ≤ bodyNum s o 0x1A 2 * 64 ∨ n = 1) → x.firstBit + m.k % x.depth < 1024 →
      Completes (.queueSlotArrival q) s (fun t =>
        sbBit t x.consFrond (x.firstBit + m.k % x.depth) = true ∧ (frondOf t f).move = none
        ∧ (∀ r, r < n → bytesAt t (at_ r) len = (m.bytes.drop (r * len)).take len)
        ∧ (∀ a, (∀ r, r < n → a < at_ r ∨ at_ r + len ≤ a) → byteAt t a = byteAt s a)))
  ∧ (∀ (s : State) (q : Nat), q < queueCount s → (queueAt s q).prodMember = memberOf (selfId s) → 0 < alGet 0 s.seq.used q →
      ((queueAt s q).consMember ≠ memberOf (selfId s) ∨ q ∈ s.seq.returning) →
      Completes (.creditReturn q) s (fun t =>
        alGet 0 t.seq.used q = alGet 0 s.seq.used q - 1 ∧ (∀ p, p ≠ q → alGet 0 t.seq.used p = alGet 0 s.seq.used p)
        ∧ t = { s with seq := t.seq }))
  ∧ (∀ (s : State) (f time : Nat), f < 32 →
      let a := advance time s
      rb a (R.FRD_PLAN_STATUS f) F.FRD_PLAN_STATUS_running = true →
      (frondOf a f).since + max 1 (rf a (R.FRD_PLAN_CTL f) F.FRD_PLAN_CTL_stall_limit) * 1024 ≤ a.ft →
      (∀ l ∈ a.recov.lost, cliqueOf l.device = cliqueOf (selfId a) → l.committed = true) →
      Completes (.planStall f time) s (fun t =>
        rb t (R.FRD_PLAN_STATUS f) F.FRD_PLAN_STATUS_stalled = true ∧ t.ft = a.ft ∧ MemSame a t ∧ t.seq = s.seq))
  ∧ (∀ (s : State) (f : Nat), f < 32 →
      Completes (.frondInitDone f) s (fun t =>
        rb t (R.FRD_STATUS f) F.FRD_STATUS_init_done = true ∧ (∀ k, slotState t f k = slotState s f k)
        ∧ RegsSameBut (fun r => r = R.FRD_STATUS f) s t
        ∧ t.out = ((frondOf s f).heldReads.reverse.map (fun v => Out.readData (.value v))) ++ s.out
        ∧ (f < s.seq.fronds.length → (frondOf t f).heldReads = []) ∧ t = { s with regs := t.regs, out := t.out, seq := t.seq }))

/-- R156, R157, R160: ADD, SUB, MUL, FMA: the exact value of the operation rounded once to FP32; the frame is in LaneOp. -/
def Obligations.ElementArithmeticWritesLanes : Prop :=
  open Sys2Proof Machine in
  Lane2 .add 0x01 (fun a b => toF32 (fvAdd (f32v a) (f32v b)))
  ∧ Lane2 .sub 0x02 (fun a b => toF32 (fvAdd (f32v a) (fvNeg (f32v b))))
  ∧ Lane2 .mul 0x03 (fun a b => toF32 (fvMul (f32v a) (f32v b)))
  ∧ Lane3 .fma 0x04 (fun a b c => toF32 (fvAdd (fvMul (f32v a) (f32v b)) (f32v c)))

/-- R156, R159, R160: selection and comparison, lane by lane, with their frame. -/
def Obligations.ElementSelectionWritesLanes : Prop :=
  open Sys2Proof Machine in
  let lo (a b : W32) : W32 := if isNaN32 a || isNaN32 b then 0x7FC00000#32
    else if fvLt (f32v b) (f32v a) || (fvEq (f32v b) (f32v a) && neg32 b) then b else a
  let hi (a b : W32) : W32 := if isNaN32 a || isNaN32 b then 0x7FC00000#32
    else if fvLt (f32v a) (f32v b) || (fvEq (f32v b) (f32v a) && neg32 a) then b else a
  Lane2 .min 0x05 lo ∧ Lane2 .max 0x06 hi ∧ Lane3 .clamp 0x07 (fun a b c => lo (hi a b) c)
  ∧ Lane2 .cmpeq 0x10 (fun a b => onesIf (fvEq (f32v a) (f32v b) = true))
  ∧ Lane2 .cmplt 0x11 (fun a b => onesIf (fvLt (f32v a) (f32v b) = true))
  ∧ Lane2 .cmple 0x12 (fun a b => onesIf (fvLt (f32v a) (f32v b) = true ∨ fvEq (f32v a) (f32v b) = true))
  ∧ Lane2 .cmpun 0x13 (fun a b => onesIf (isNaN32 a = true ∨ isNaN32 b = true))
  ∧ Lane2 .icmpltu 0x14 (fun a b => onesIf (a.toNat < b.toNat))
  ∧ Lane3 .sel 0x18 (fun a b c => if c = 0 then b else a)

/-- R156: bit by bit for the bitwise instructions, as numbers for the shifts and the sum. -/
def Obligations.ElementBitwiseWritesLanes : Prop :=
  open Sys2Proof Machine in
  Lane1 .abs 0x08 (fun a => BitVec.ofNat 32 (a.toNat % 2 ^ 31))
  ∧ Lane1 .neg 0x09 (fun a => BitVec.ofNat 32 (a.toNat % 2 ^ 31 + (if a.toNat < 2 ^ 31 then 2 ^ 31 else 0)))
  ∧ Lane2 .and 0x20 (fun a b => a &&& b)
  ∧ Lane2 .or 0x21 (fun a b => a ||| b)
  ∧ Lane2 .xor 0x22 (fun a b => a ^^^ b)
  ∧ Lane2 .andn 0x23 (fun a b => a &&& ~~~b)
  ∧ LaneOp .shr 0x24 (fun s f x i l => BitVec.ofNat 32 ((opA s f x i l).toNat / 2 ^ bitsOf i.aux 0 5))
  ∧ LaneOp .shl 0x25 (fun s f x i l => BitVec.ofNat 32 ((opA s f x i l).toNat * 2 ^ bitsOf i.aux 0 5))
  ∧ Lane2 .iadd 0x26 (fun a b => BitVec.ofNat 32 (a.toNat + b.toNat))
  ∧ Lane1 .mov 0x48 (fun a => a)

/-- R156, R158: the four function circuits; which FP32 neighbour an inexact result takes is left open (Config.circuitUp, log 4). -/
def Obligations.ElementFunctionsWriteLanes : Prop :=
  open Sys2Proof Machine in
  ∃ e2 l2 rc rs : W32 → W32,
    Lane1 .exp2 0x30 e2 ∧ Lane1 .log2 0x31 l2 ∧ Lane1 .rcp 0x32 rc ∧ Lane1 .rsq 0x33 rs
    ∧ e2 0#32 = 0x3F800000#32 ∧ e2 0x80000000#32 = 0x3F800000#32 ∧ e2 0x7F800000#32 = 0x7F800000#32 ∧ e2 0xFF800000#32 = 0#32
    ∧ l2 0#32 = 0xFF800000#32 ∧ l2 0x80000000#32 = 0xFF800000#32 ∧ l2 0x7F800000#32 = 0x7F800000#32 ∧ l2 0xFF800000#32 = 0x7FC00000#32
    ∧ rc 0#32 = 0x7F800000#32 ∧ rc 0x80000000#32 = 0xFF800000#32 ∧ rc 0x7F800000#32 = 0#32 ∧ rc 0xFF800000#32 = 0x80000000#32
    ∧ rs 0#32 = 0x7F800000#32 ∧ rs 0x80000000#32 = 0xFF800000#32 ∧ rs 0x7F800000#32 = 0#32 ∧ rs 0xFF800000#32 = 0x7FC00000#32
    ∧ (∀ a, isNaN32 a = true → e2 a = 0x7FC00000#32 ∧ l2 a = 0x7FC00000#32 ∧ rc a = 0x7FC00000#32 ∧ rs a = 0x7FC00000#32)
    ∧ (∀ a, isFin32 a = true → neg32 a = true → a ≠ 0x80000000#32 → l2 a = 0x7FC00000#32 ∧ rs a = 0x7FC00000#32)
    ∧ e2 0x40000000#32 = 0x40800000#32 ∧ l2 0x41000000#32 = 0x40400000#32 ∧ rc 0x40800000#32 = 0x3E800000#32 ∧ rs 0x40800000#32 = 0x3F000000#32

/-- R156, R161 to R165, R438: conversions, random bits and loads; CVT into RAW32 of another source than PAIR is the model's choice (log 110). -/
def Obligations.ElementConversionsWriteLanes : Prop :=
  open Sys2Proof Machine in
  (∀ (s : State) (f : Nat) (i : EInstr) (x : Invocation), IssuesNext s f 0x38 i x → isBlockFmt i.fmt = false →
      let code (l : Nat) : W32 :=
        if i.fmt = 12 then (if i.a = 28 then toF32 (cvtSource s f x i l) else opA s f x i l)
        else BitVec.ofNat 32 (fmtCode i.fmt (!x.nonsat)
          (if cvtStochastic x i then .sr (laneRandom s x (bitsOf i.aux 0 20) (x.laneRow l) (x.lanePos l)) else .ne)
          (fvScale (produceShift s x (cvtTensor s f x i)) (cvtSource s f x i l))).1
      Completes (.cvt f i) s (fun t =>
        (∀ l, l < 256 → vLane (engOf t f) i.d l = laneAfter s f x i l (code l))
        ∧ (∀ r l, r < 16 → r ≠ i.d → vLane (engOf t f) r l = vLane (engOf s f) r l)
        ∧ (engOf t f).sr = (engOf s f).sr
        ∧ (∃ m, (engOf t f).run = some { x with pc := x.pc + 1, amax := m } ∧ (x.pre = false → m = x.amax))
        ∧ MemSame s t))
  ∧ (∀ (s : State) (f : Nat) (i : EInstr) (x : Invocation), IssuesNext s f 0x38 i x → isBlockFmt i.fmt = true →
      Completes (.cvt f i) s (fun t =>
        (∀ l, l < 256 → laneActive (engOf s f) x i l = true → bitsOf (vLane (engOf t f) i.d l).toNat 8 8 = 0)
        ∧ (∀ l m, l < 256 → m < 256 → l / 32 = m / 32 → laneActive (engOf s f) x i l = true → laneActive (engOf s f) x i m = true →
            (vLane (engOf t f) i.d l).toNat / 65536 = (vLane (engOf t f) i.d m).toNat / 65536)
        ∧ (∀ r l, r < 16 → r ≠ i.d → vLane (engOf t f) r l = vLane (engOf s f) r l)
        ∧ (engOf t f).sr = (engOf s f).sr ∧ MemSame s t))
  ∧ LaneOp .wid 0x39 (fun s f x i l =>
      if i.fmt = 12 then opA s f x i l
      else toF32 (codeVal i.fmt ((opA s f x i l).toNat % 2 ^ fmtBits i.fmt) ((opB s f x i l).toNat / 65536)))
  ∧ Lane1 .i2f 0x3A (fun a => toF32 (fvInt a.toInt))
  ∧ LaneOpIf (fun _ i => i.rnd = 0) .f2i 0x3B (fun s f x i l =>
      match f32v (opA s f x i l) with
      | .nan => 0
      | .inf n => if n then 0x80000000#32 else 0x7FFFFFFF#32
      | v => match fvToInt .ne (-(2 ^ 31)) (2 ^ 31 - 1) v with
        | some k => BitVec.ofInt 32 k
        | none => 0)
  ∧ LaneOp .rnd 0x40 (fun s _ x i l => BitVec.ofNat 32 (laneRandom s x (bitsOf i.aux 0 20) (x.laneRow l) (x.lanePos l)))
  ∧ LaneOp .ld 0x50 (fun s f x i l => (regionRead s f x (bitsOf i.aux 0 2)
      (if bitsOf i.aux 2 2 = 1 then 0 else x.laneRow l) (if bitsOf i.aux 2 2 = 2 then 0 else x.lanePos l)).1)

/-- R146, R160, R162: the stored bytes and the frame of ST. -/
def Obligations.ElementStoreWritesItsElements : Prop :=
  open Sys2Proof Machine in
  (∀ (s : State) (f : Nat) (i : EInstr) (x : Invocation), IssuesNext s f 0x52 i x →
    let r := bitsOf i.aux 0 2
    let w := fmtBits (x.fmt r) / 8
    isBlockFmt (x.fmt r) = false → x.fmt r ≠ 0 → regionTensor s f x 0 r = none → (i.maskEn && i.zero) = false →
    (∀ l m, l < 256 → m < 256 → l ≠ m → laneActive (engOf s f) x i l = true → laneActive (engOf s f) x i m = true →
      storeOffset x r w l + w ≤ storeOffset x r w m ∨ storeOffset x r w m + w ≤ storeOffset x r w l) →
    Completes (.st f i) s (fun t =>
      (∀ l, l < 256 → laneActive (engOf s f) x i l = true →
        numAt t (storeBase f + storeOffset x r w l) w
          = plainCode s x r i.rnd (x.laneRow l) (x.lanePos l) (opA s f x i l) % 2 ^ (8 * w))
      ∧ (∀ a, (∀ l, l < 256 → laneActive (engOf s f) x i l = true →
            a < storeBase f + storeOffset x r w l ∨ storeBase f + storeOffset x r w l + w ≤ a) → byteAt t a = byteAt s a)
      ∧ (engOf t f).v = (engOf s f).v ∧ (engOf t f).sr = (engOf s f).sr ∧ (engOf t f).run = some { x with pc := x.pc + 1 }))
  ∧ (∀ (s : State) (f : Nat) (i : EInstr) (x : Invocation), IssuesNext s f 0x52 i x →
    let r := bitsOf i.aux 0 2
    let b := fmtBits (x.fmt r)
    Completes (.st f i) s (fun t =>
      (∀ a, (∀ l, l < 256 → x.inside l = true →
            let o := storeBase f + (x.region r).1 + x.laneRow l * (x.region r).2.1 + x.lanePos l * b / 8
            let c := storeBase f + regionScale x r (x.laneRow l) (x.lanePos l)
            (a < o ∨ o + (b + 7) / 8 ≤ a) ∧ (isBlockFmt (x.fmt r) = true → a < c ∨ c + 2 ≤ a)) → byteAt t a = byteAt s a)
      ∧ (engOf t f).v = (engOf s f).v ∧ (engOf t f).sr = (engOf s f).sr))

/-- R154, R167, R171 to R176, R178: the instructions that write s registers and the whole-row instructions; operand b of SOFTMAX and LNORM is taken
from lane 0 (the model's choice, log 140). -/
def Obligations.ElementRowInstructionsComplete : Prop :=
  open Sys2Proof Machine in
  (∀ (s : State) (f d imm : Nat) (x : Invocation), ldiInvalid d imm = false → issuing s f (ldiWord d imm) = some x →
    Completes (.ldi f d ⟨imm, .none⟩) s (fun t =>
      sReg (engOf t f) (d - 16) = BitVec.ofNat 32 imm
      ∧ (∀ k, k < 8 → k ≠ d - 16 → sReg (engOf t f) k = sReg (engOf s f) k)
      ∧ (x.pc + 1 < x.prog.length → (x.row = true → ∀ w, x.prog[x.pc + 1]? = some w → bitsOf w 56 8 ≠ 0x62 ∧ bitsOf w 56 8 ≠ 0x63) →
          (engOf t f).v = (engOf s f).v ∧ (engOf t f).run = some { x with pc := x.pc + 1 } ∧ MemSame s t)))
  ∧ (∀ (s : State) (f : Nat) (i : EInstr) (x : Invocation), eInvalid 0x60 i = false → i.err = .none → issuing s f (eWord 0x60 i) = some x →
    x.row = true → (∀ b, x.best = some b → isNaN32 b = false) →
    let vs := x.best.toList ++ reduceVals s f x i
    let nan := x.nan || (reduceVals s f x i).any isNaN32
    (x.chunks ≤ x.chunk + 1 → Completes (.rmax f i) s (fun t =>
      let m := sReg (engOf t f) (i.d - 16)
      (nan = true → m = 0x7FC00000#32) ∧ (nan = false → vs = [] → m = 0xFF800000#32)
      ∧ (nan = false → vs ≠ [] → m ∈ vs ∧ ∀ v ∈ vs, fvLt (f32v m) (f32v v) = false ∧ (fvEq (f32v m) (f32v v) = true → neg32 m = true → neg32 v = true))
      ∧ (∀ k, k < 8 → k ≠ i.d - 16 → sReg (engOf t f) k = sReg (engOf s f) k) ∧ (x.pc + 1 < x.prog.length → MemSame s t)))
    ∧ (x.chunk + 1 < x.chunks → Completes (.rmax f i) s (fun t =>
      (∃ y, (engOf t f).run = some y ∧ y.pc = x.sweep ∧ y.chunk = x.chunk + 1 ∧ y.nan = nan ∧ y.best.isSome = !vs.isEmpty)
      ∧ (engOf t f).sr = (engOf s f).sr ∧ MemSame s t)))
  ∧ (∀ (s : State) (f : Nat) (i : EInstr) (x : Invocation), eInvalid 0x61 i = false → i.err = .none → issuing s f (eWord 0x61 i) = some x →
    x.row = true →
    let vs := reduceVals s f x i
    let p := vs.foldl (fun a v => pairAdd a (f32v v)) x.sum
    (x.chunks ≤ x.chunk + 1 → Completes (.rsum f i) s (fun t =>
      sReg (engOf t f) (i.d - 16) = (if vs = [] ∧ x.any = false then 0 else toF32 (pairVal p.1 p.2))
      ∧ (∀ k, k < 8 → k ≠ i.d - 16 → sReg (engOf t f) k = sReg (engOf s f) k) ∧ (x.pc + 1 < x.prog.length → MemSame s t)))
    ∧ (x.chunk + 1 < x.chunks → Completes (.rsum f i) s (fun t =>
      (∃ y, (engOf t f).run = some y ∧ y.pc = x.sweep ∧ y.chunk = x.chunk + 1 ∧ y.sum = p ∧ y.any = (x.any || !vs.isEmpty))
      ∧ (engOf t f).sr = (engOf s f).sr ∧ MemSame s t)))
  ∧ (∀ (s : State) (f : Nat) (i : EInstr) (x : Invocation), eInvalid 0x62 i = false → i.err = .none → issuing s f (eWord 0x62 i) = some x →
    x.row = true → f < 32 →
    (reg s (R.FRD_EE_EMPTY_CNT f)).toNat + 1 < 2 ^ 64 → (reg s (R.FRD_EE_NANROW_CNT f)).toNat + 1 < 2 ^ 64 →
    let reads := (softmaxReads s f x i).map (fun y => y.map (fun q => q.1))
    let ys := reads.filterMap id
    let r := bitsOf i.aux 2 2
    Completes (.softmax f i) s (fun t =>
      ((∀ y ∈ ys, y = 0xFF800000#32) → (reg t (R.FRD_EE_EMPTY_CNT f)).toNat
          = (reg s (R.FRD_EE_EMPTY_CNT f)).toNat + (if x.pre = true ∨ bitOf x.rowFlags 0 = true then 0 else 1))
      ∧ ((∃ y ∈ ys, isNaN32 y = true) → (reg t (R.FRD_EE_NANROW_CNT f)).toNat
          = (reg s (R.FRD_EE_NANROW_CNT f)).toNat + (if x.pre = true ∨ bitOf x.rowFlags 1 = true then 0 else 1))
      ∧ (engOf t f).sr = (engOf s f).sr
      ∧ (isBlockFmt (x.fmt r) = false → x.fmt r ≠ 0 → regionTensor s f x 0 r = none → (x.pc + 1 < x.prog.length ∨ x.group + 1 < x.rows) →
          RowWritten s t f x r i.rnd (softmaxVals reads).1)
      ∧ (x.pc + 1 < x.prog.length →
          (engOf t f).run.map (fun y => (y.pc, y.sweep, y.chunk, y.group)) = some (x.pc + 1, x.pc + 1, 0, x.group))))
  ∧ (∀ (s : State) (f : Nat) (i : EInstr) (x : Invocation), eInvalid 0x63 i = false → i.err = .none → issuing s f (eWord 0x63 i) = some x →
    x.row = true → f < 32 →
    (reg s (R.FRD_EE_EMPTY_CNT f)).toNat + 1 < 2 ^ 64 → (reg s (R.FRD_EE_NANROW_CNT f)).toNat + 1 < 2 ^ 64 →
    let reads := (lnormReads s f x i).map (fun y => y.map (fun q => q.1))
    let xs := reads.filterMap id
    let affine := if bitOf i.aux 8 then some ((lnormAffine s f x i).map (fun g => (g.1.1, g.2.1))) else none
    let r := bitsOf i.aux 2 2
    Completes (.lnorm f i) s (fun t =>
      (xs = [] → (reg t (R.FRD_EE_EMPTY_CNT f)).toNat
          = (reg s (R.FRD_EE_EMPTY_CNT f)).toNat + (if x.pre = true ∨ bitOf x.rowFlags 0 = true then 0 else 1))
      ∧ (xs ≠ [] → (∃ v ∈ xs, isFin32 v = false) → (reg t (R.FRD_EE_NANROW_CNT f)).toNat
          = (reg s (R.FRD_EE_NANROW_CNT f)).toNat + (if x.pre = true ∨ bitOf x.rowFlags 1 = true then 0 else 1))
      ∧ (engOf t f).sr = (engOf s f).sr
      ∧ (isBlockFmt (x.fmt r) = false → x.fmt r ≠ 0 → regionTensor s f x 0 r = none → (x.pc + 1 < x.prog.length ∨ x.group + 1 < x.rows) →
          RowWritten s t f x r i.rnd ((lnormVals reads (operand (engOf s f) x i.b 0) affine).1.map (fun w => (w, 0))))
      ∧ (x.pc + 1 < x.prog.length →
          (engOf t f).run.map (fun y => (y.pc, y.sweep, y.chunk, y.group)) = some (x.pc + 1, x.pc + 1, 0, x.group))))

/-- R153 to R155: the stop of invalid words, here for ADD, CVT, WID and LDI with each kind of invalid value. -/
def Obligations.InvalidElementWordsFault : Prop :=
  open Sys2Proof Machine in
  ∀ (s : State) (f : Nat) (i : EInstr) (d imm : Nat),
    (2 ≤ i.rnd ∨ 29 ≤ i.a ∨ 28 ≤ i.b ∨ 28 ≤ i.c →
      exec (.add f i) s = .fault .invalidEncoding ∧ exec (.cvt f i) s = .fault .invalidEncoding ∧ exec (.st f i) s = .fault .invalidEncoding)
    ∧ (i.a = 28 → exec (.add f i) s = .fault .invalidEncoding)
    ∧ (i.fmt = 0 ∨ i.fmt = 2 ∨ i.fmt = 4 ∨ 13 ≤ i.fmt → exec (.cvt f i) s = .fault .invalidEncoding ∧ exec (.wid f i) s = .fault .invalidEncoding)
    ∧ (d < 16 ∨ 24 ≤ d → exec (.ldi f d ⟨imm, .none⟩) s = .fault .invalidEncoding)

/-- R144, R151, R181: the start of an invocation. -/
def Obligations.InvocationsStart : Prop :=
  open Sys2Proof Machine in
  ∀ (s : State) (f : Nat) (o : PlanOp), f < 32 → s.seq.fronds.length = 32 → (frondOf s f).halted = false → failed s = false → pausedNow s = false →
    (engOf s f).run = none → rb s (R.FRD_STATUS f) F.FRD_STATUS_init_done = true → nextInvocation s f = some (o, false) → o.idx < 65536 →
    (o.kind = 2 →
      Completes (.rowInvocation ⟨f, .none⟩) s (fun t =>
        (∃ x, (engOf t f).run = some x ∧ x.op = o.idx ∧ x.row = true ∧ x.group = 0 ∧ x.pc = 0)
        ∧ rb t (R.FRD_EE_STATUS f) F.FRD_EE_STATUS_busy = true ∧ rb t (R.FRD_EE_STATUS f) F.FRD_EE_STATUS_row_mode = true
        ∧ rf t (R.FRD_EE_STATUS f) F.FRD_EE_STATUS_cur_invoke = o.idx ∧ MemSame s t))
    ∧ (∀ k, o.kind ≠ 2 → k < 2 → (slotOf s f k).op = some o.idx → slotState s f k = 2 → (k = 1 → (slotOf s f 0).op ≠ some o.idx) →
      Completes (.drainInvocation ⟨f, .none⟩) s (fun t =>
        (∃ x, (engOf t f).run = some x ∧ x.op = o.idx ∧ x.row = false ∧ x.group = 0 ∧ x.pc = 0 ∧ x.slot = k)
        ∧ slotState t f k = 3
        ∧ rb t (R.FRD_EE_STATUS f) F.FRD_EE_STATUS_busy = true ∧ rb t (R.FRD_EE_STATUS f) F.FRD_EE_STATUS_row_mode = false
        ∧ rf t (R.FRD_EE_STATUS f) F.FRD_EE_STATUS_cur_invoke = o.idx ∧ MemSame s t))

/-- R194, R197, R205 to R212, R216 to R218, R238. -/
def Obligations.LookupsComplete : Prop :=
  open Sys2Proof Machine in
  (∀ (s : State) (table mb n : Nat) (p : PlanEntry) (v : TableVersion), mayAdmit s table mb = true → admitStep s = some n →
    planEntry s table = some p → bindVersion s table n = some v →
    let s1 := (localReads s (inputParts s p v.desc n mb)).1
    let first := ((rankOf s1).getD 0 * microBatches s1 + mb) * mbSamples s1
    let bags := (readInput s1 p v.desc n mb).zipIdx
    ((localReads s (inputParts s p v.desc n mb)).2 = true → exec (.lookupBatchAdmit table mb) s = .next s1)
    ∧ ((localReads s (inputParts s p v.desc n mb)).2 = false → Completes (.lookupBatchAdmit table mb) s (fun t =>
      (n, table, mb) ∈ t.seq.admitted
      ∧ ∃ b ∈ t.sor.batches, b.table = table ∧ b.step = n ∧ b.mb = mb ∧ b.version = dVersion v.desc ∧ b.home = p.home
          ∧ b.bags = bags.map (fun g => ⟨first + g.2, (if mb % 2 = 0 then p.base else p.alt) + g.2 * p.stride * 64, g.1.idents.length⟩)
          ∧ (∀ r ∈ b.reqs, r.answered = false ∧ r.dst = v.owners.getD r.k 0 ∧ r.msg.table = table ∧ r.msg.step = n ∧ r.msg.mb = mb
              ∧ r.msg.version = dVersion v.desc ∧ r.msg.requester = selfId s ∧ r.msg.rows.length ≤ 65536)
          ∧ (∀ o, o < dOwn v.desc →
              (b.reqs.filter (fun r => r.k = o)).flatMap (fun r => r.msg.bags.flatMap (fun g => g.refs.map (fun q => (g.sample, r.msg.rows[q.idx]?, q.aux))))
                = bags.flatMap (fun g => (g.1.idents.filter (fun y => y.owner = o)).map (fun y => (first + g.2, some y.entry, y.aux)))))))
  ∧ (∀ (s : State) (m : BagMsg) (us : List CacheUpset), failed s = false → (m.requester = selfId s ∨ isLost s m.requester = false) →
      (NoMemoryErrors s → ∀ (v : TableVersion) (rows : List (List (List FV))), liveVersion s m.table m.version = some v → mayAnswer s v m.step = true →
        idleAsked s (0x20 + homeOf s m.table) = false → m.rows.any (entryWaits s v) = false → m.rows.mapM (entryRead s v) = some rows →
        let vals := rows.map (entryVals v.desc)
        Completes (.lookupReq ⟨m, us⟩) s (fun t =>
          Out.message m.requester (.lookupRsp ⟨m.version, m.table, selfId s, m.mb, m.step,
              ((m.rows.head?).map (fun e => (ownerOf v.desc e.row).1)).getD 0, m.seq, m.bags.length, 0,
              m.bags.map (fun b => (b.sample, (List.range (dOut v.desc)).map (fun e =>
                (toIeee lFP16 (.sr (randOf (jobSeed s) (dStreamFwd v.desc) m.step m.mb ((b.sample * 4096 + m.table) * 1024 + e)))
                  ((b.refs.map (fun r => refTerm v.desc (vals.getD r.idx []) r.aux e)).foldl fvAdd (.fin false 0 0))).1)))⟩) ∈ t.out
          ∧ t.seq = s.seq ∧ t.cmd = s.cmd))
      ∧ (∀ v, liveVersion s m.table m.version = some v →
          idleAsked s (0x20 + homeOf s m.table) = true ∨ mayAnswer s v m.step = false ∨ m.rows.any (entryWaits s v) = true →
        Completes (.lookupReq ⟨m, us⟩) s (fun t =>
          t.sor = { s.sor with heldReqs := s.sor.heldReqs ++ [(m.requester, m)] } ∧ t.out = s.out ∧ MemSame s t))
      ∧ (liveVersion s m.table m.version = none → (∀ q, (tableState s m.table).pending = some q → dVersion q.desc ≠ m.version) →
          homeOf s m.table < 8 → idleAsked s (0x20 + homeOf s m.table) = false → (reg s (R.SOR_VER_REFUSED_CNT (homeOf s m.table))).toNat + 1 < 2 ^ 64 →
        Completes (.lookupReq ⟨m, us⟩) s (fun t =>
          Out.message m.requester (.lookupRsp ⟨m.version, m.table, selfId s, m.mb, m.step, 0, m.seq, m.bags.length, 1, []⟩) ∈ t.out
          ∧ (reg t (R.SOR_VER_REFUSED_CNT (homeOf s m.table))).toNat = (reg s (R.SOR_VER_REFUSED_CNT (homeOf s m.table))).toNat + 1
          ∧ rb t (R.SOR_LK_FLAGS (homeOf s m.table)) F.SOR_LK_FLAGS_ver_refused = true ∧ MemSame s t ∧ t.seq = s.seq)))
  ∧ (∀ (s : State) (m : LookupRsp) (b : Batch), failed s = false → m.status = 0 → idleAsked s (0x20 + rspEngine s m.table m.step m.mb) = false → b ∈ s.sor.batches →
      (∀ c ∈ s.sor.batches, c.table = m.table → c.step = m.step → c.mb = m.mb → c.version = m.version → c = b) →
      b.table = m.table → b.step = m.step → b.mb = m.mb → b.version = m.version →
      (∃ r ∈ b.reqs, r.answered = false ∧ r.msg.seq = m.seq ∧ r.k = m.ownerIndex) →
      Completes (.lookupRsp m) s (fun t =>
        ∃ c ∈ t.sor.batches, c.table = m.table ∧ c.step = m.step ∧ c.mb = m.mb ∧ c.version = m.version ∧ c.bags = b.bags
          ∧ c.parts = b.parts ++ [(m.ownerIndex, m.seq, m.recs)]
          ∧ (∀ r ∈ c.reqs, r.k = m.ownerIndex → r.msg.seq = m.seq → r.answered = true)
          ∧ c.reqs.map (·.msg) = b.reqs.map (·.msg)))
  ∧ (∀ (s : State) (m : LookupRsp), failed s = false → idleAsked s (0x20 + rspEngine s m.table m.step m.mb) = true →
      Completes (.lookupRsp m) s (fun t => t = { s with sor := { s.sor with inq := s.sor.inq ++ [.lookupRsp m] } }))
  ∧ (∀ (s : State) (source n count : Nat), failed s = false → (∀ e ∈ s.sor.ends, ¬(e.1 = source ∧ e.2.1 = n)) →
      (idleAsked s 0x20 = false → Completes (.lookupEnd source n count) s (fun t =>
        (source, n, count) ∈ t.sor.ends ∧ (∀ e ∈ s.sor.ends, n < e.2.1 + 4 → e ∈ t.sor.ends) ∧ t.seq = s.seq))
      ∧ (idleAsked s 0x20 = true → Completes (.lookupEnd source n count) s (fun t =>
        t.sor = { s.sor with inq := s.sor.inq ++ [.lookupEnd source n count] } ∧ t.seq = s.seq ∧ MemSame s t)))
  ∧ (∀ (s : State) (table : Nat),
      (mayRetire s (tableState s table) = true →
        Completes (.tableVersionRetire table) s (fun t =>
          (tableState t table).versions = (tableState s table).versions.dropLast ∧ (tableState t table).pending = (tableState s table).pending
          ∧ (∀ u, u ≠ table → tableState t u = tableState s u)
          ∧ t = { s with sor := t.sor, cmd := t.cmd }))
      ∧ (mayRetire s (tableState s table) = false → exec (.tableVersionRetire table) s = .next s))

/-- R230 to R243, R250 to R252, R256. -/
def Obligations.GradientsReachTheirRows : Prop :=
  open Sys2Proof Machine in
  (∀ (s : State) (f k n : Nat), f < 32 → s.seq.fronds.length = 32 → updateStep s f k = some n → mayUpdate s n f k = true →
    let grads (b : Batch) (v : TableVersion) (o : Nat) := b.bags.zipIdx.map (fun g => (g.1.sample, bagGrad s b v.desc o g.2 g.1))
    Completes (.updateBatchStart f k) s (fun t =>
      sbBit t f (1020 + k % 2) = false ∧ sbBit t f (1022 + k % 2) = true
      ∧ (∀ T o b v, (T, o) ∈ gradTables s f → s.sor.batches.find? (fun b => b.table = T && b.step = n && b.mb = k) = some b →
          liveVersion s T b.version = some v →
          (T, k, n) ∈ t.sor.updSent
          ∧ (∀ r ∈ b.reqs, isLost s (r.sent.getD r.dst) = false →
              Out.message (r.sent.getD r.dst) (.updateReq { r.msg with
                table := storageOf v.desc
                bags := r.msg.bags.map (fun x => { x with grad := alGet [] (grads b v o) x.sample }) }) ∈ t.out))
      ∧ MemSame s t ∧ t.cmd = s.cmd))
  ∧ (∀ (s : State) (m : BagMsg), failed s = false → homeOf s m.table < 8 →
      (backPressure s (homeOf s m.table) = true → Completes (.updateReq m) s (fun t =>
        t.sor = { s.sor with inq := s.sor.inq ++ [.updateReq m] } ∧ t.out = s.out ∧ MemSame s t))
      ∧ (backPressure s (homeOf s m.table) = false → s.sor.expected.find? (expects m) = none →
          (reg s (R.SOR_UPD_DUP_CNT (homeOf s m.table))).toNat + 1 < 2 ^ 64 →
          Completes (.updateReq m) s (fun t =>
            (reg t (R.SOR_UPD_DUP_CNT (homeOf s m.table))).toNat = (reg s (R.SOR_UPD_DUP_CNT (homeOf s m.table))).toNat + 1
            ∧ rb t (R.SOR_UPD_FLAGS (homeOf s m.table)) F.SOR_UPD_FLAGS_dup = true ∧ t.sor = s.sor ∧ MemSame s t))
      ∧ (∀ (x : Expected) (v : TableVersion), backPressure s (homeOf s m.table) = false → s.sor.expected.find? (expects m) = some x →
          liveVersion s x.asked x.version = some v →
          (detOf s m.step = true → Completes (.updateReq m) s (fun t =>
              t.sor.log = s.sor.log ++ [(x.asked, m)] ∧ t.sor.stage = s.sor.stage ∧ { x with status := 1 } ∈ t.sor.expected ∧ MemSame s t))
          ∧ (detOf s m.step = false → dComp v.desc = false →
              let mine (e : StageEntry) (i : Nat) : Bool :=
                decide (entryOwner v (m.rows.getD i ⟨0, 0⟩) = (e.own, e.row))
              Completes (.updateReq m) s (fun t =>
                t.sor.stage = s.sor.stage.map (fun e =>
                  if e.table = storageOf v.desc ∧ e.version = dVersion v.desc ∧ e.rem = false ∧ e.step = m.step then
                    { e with
                      count := e.count - (m.rows.filter (fun y => decide (entryOwner v y = (e.own, e.row)))).length
                      pairs := ((m.bags.flatMap (fun b => b.refs.map (fun r => (b, r)))).filter (fun br => mine e br.2.idx)).foldl
                        (fun ps br => List.zipWith (fun p y => pairAdd p (f32v y)) ps (refTerms v.desc br.1.grad br.2.aux [] []).1) e.pairs }
                  else e)
                ∧ { x with status := 1 } ∈ t.sor.expected ∧ MemSame s t))))
  ∧ (∀ (s : State) (n : Nat), failed s = false →
      (mayClose s n = true → Completes (.ownerStepClose n) s (fun t =>
        t.sor.closed = n + 1 ∧ (s.sor.heldReqs = [] → t.sor.expected = s.sor.expected.filter (fun x => decide (n < x.step + 2)))))
      ∧ (mayClose s n = false → exec (.ownerStepClose n) s = .next s)
      ∧ (detOf s n = true → n < s.sor.closed → n < s.seq.barrier → s.sor.merged ≤ n → enginesFree s = true →
          NoMemoryErrors s →
          (∀ x ∈ s.sor.log, x.2.step = n → ∀ v, liveVersion s x.1 x.2.version = some v → (mergeVals s x.2 v).isSome = true) →
        Completes (.detOrderMerge n) s (fun t =>
          t.sor.merged = n + 1 ∧ t.sor.log = s.sor.log.filter (fun x => decide (x.2.step ≠ n))
          ∧ ((∀ x ∈ s.sor.log, x.2.step = n → ∀ v, liveVersion s x.1 x.2.version = some v → mergeRows s x.2 v = []) → MemSame s t)))
      ∧ ((detOf s n = false ∨ s.sor.closed ≤ n ∨ s.seq.barrier ≤ n ∨ n < s.sor.merged ∨ enginesFree s = false) → exec (.detOrderMerge n) s = .next s))
  ∧ (∀ (s : State) (m : RemGrad) (v : TableVersion), failed s = false → backPressure s (homeOf s m.table) = false →
      rowVersion s m.table m.version = some v →
      (m.table, m.step) ∉ s.sor.remDone →
      (∀ x ∈ s.sor.remGrads, ¬(x.table = m.table ∧ x.step = m.step ∧ x.source = m.source ∧ x.seq = m.seq)) →
      let got := { s with sor := { s.sor with remGrads := s.sor.remGrads ++ [m] } }
      (remGradsIn got v m.step = false → Completes (.remGrad m) s (fun t => t.sor = got.sor ∧ MemSame s t))
      ∧ (remGradsIn got v m.step = true → Completes (.remGrad m) s (fun t =>
          (storageOf v.desc, m.step) ∈ t.sor.remDone ∧ (∀ e ∈ s.sor.stage, e ∈ t.sor.stage)
          ∧ (∀ y ∈ m.recs, m.table = storageOf v.desc → m.source ∈ remSources got v m.step →
              ∃ e ∈ t.sor.stage, e.table = m.table ∧ e.version = m.version ∧ e.rem = true ∧ e.step = m.step ∧ e.row = y.1 ∧ e.count = 0))))
  ∧ (∀ (s : State) (m : RemRow) (v : TableVersion), failed s = false → backPressure s (homeOf s m.table) = false →
      rowVersion s m.table m.version = some v →
      NoMemoryErrors s →
      let old (s : State) (r : Nat × Nat × List Byte × List Byte) : Option (List Byte) := readRow s r.1 v.desc true r.2.1
      let held (r : Nat × Nat × List Byte × List Byte) : Bool := rowHeld s r.1 v.desc true r.2.1 2
      let copies : List (Nat × Nat × List Byte × List Byte) :=
        m.recs.flatMap (fun r => (remCopies s v m.source r.1).map (fun d => (d, r)))
      (copies.any held = false → (∀ r ∈ copies, (old s r).isSome = true) →
        Completes (.remRow m) s (fun t =>
          (⟨m.table, m.step, m.source, m.seq, m.last⟩ : RemSeen) ∈ t.sor.remRows
          ∧ (copies = [] → t.sor.commit = s.sor.commit)
          ∧ (∀ r bs, copies = [r] → old s r = some bs →
              ∃ c ∈ t.sor.commit, c.own = r.1 ∧ c.table = m.table ∧ c.row = r.2.1 ∧ c.rem = true ∧ c.step = m.step
                ∧ c.delta = xorBytes (bs.take (r.2.2.1.length + r.2.2.2.length)) (r.2.2.1 ++ r.2.2.2))))
      ∧ (copies.any held = true →
        Completes (.remRow m) s (fun t =>
          Message.remRow m ∈ t.sor.inq ∧ t.sor.commit = s.sor.commit ∧ t.sor.remRows = s.sor.remRows ∧ MemSame s t))
      ∧ (let asked := forEach (fun s (r : Nat × Nat × List Byte × List Byte) => degradedRead s r.1 v.desc true r.2.1) s
            (copies.filter (fun r => (old s r).isNone))
        copies.any held = false → (∃ r ∈ copies, old asked r = none) →
        Completes (.remRow m) s (fun t => Message.remRow m ∈ t.sor.inq ∧ t.sor.commit = s.sor.commit ∧ t.sor.remRows = s.sor.remRows)))

/-- R244 to R247, R253 to R259. -/
def Obligations.RowsApplyAndCommit : Prop :=
  open Sys2Proof Machine in
  (∀ (s : State) (x : StageEntry) (v : TableVersion) (o : Nat), failed s = false → x.stack < 8 →
    s.sor.stage.find? (fun y => y.own = x.own && y.table = x.table && y.version = x.version && y.row = x.row && y.rem = x.rem && mayApply s y) = some x →
    rowVersion s x.table x.version = some v → sparseRec s x.table = some o → rowLost s x.own ⟨x.table, x.rem, x.row⟩ = false →
    let g := x.pairs.map (fun p => toF32 (fvMul (pairVal p.1 p.2) (.fin false 1 (-(lossExp s x.step : Int)))))
    let inRange := ∀ p ∈ rowParts s v.desc x.rem x.row, p.1 + p.2 ≤ rangePages s * 0x1_0000
    ((∃ y ∈ g, isFin32 y = false) → (reg s (R.SOR_UPD_SKIP_CNT x.stack)).toNat + 1 < 2 ^ 64 →
      Completes (.rowApply x.own x.table x.version x.row x.rem) s (fun t =>
        (reg t (R.SOR_UPD_SKIP_CNT x.stack)).toNat = (reg s (R.SOR_UPD_SKIP_CNT x.stack)).toNat + 1
        ∧ rb t (R.SOR_UPD_FLAGS x.stack) F.SOR_UPD_FLAGS_skip = true ∧ t.sor.commit = s.sor.commit
        ∧ t.sor.pend = s.sor.pend ∧ (s.sor.heldReqs = [] → t.sor.stage = s.sor.stage.erase x ∧ MemSame s t)))
    ∧ (∀ old, (∀ y ∈ g, isFin32 y = true) → (x.own ≠ selfId s ∨ rowT2 s v.desc x.rem x.row = []) →
        NoMemoryErrors s → rowHeld s x.own v.desc x.rem x.row 3 = false → readRow s x.own v.desc x.rem x.row = some old →
        commitRoom s x.stack (partsLen s v.desc x.rem x.row 3) = true →
        let r := newRow (sparseParams s o) (rowW v.desc x.rem) (etaStep s x.step) g old
        (r = none → (reg s (R.SOR_UPD_RSKIP_CNT x.stack)).toNat + 1 < 2 ^ 64 →
          Completes (.rowApply x.own x.table x.version x.row x.rem) s (fun t =>
            (reg t (R.SOR_UPD_RSKIP_CNT x.stack)).toNat = (reg s (R.SOR_UPD_RSKIP_CNT x.stack)).toNat + 1
            ∧ rb t (R.SOR_UPD_FLAGS x.stack) F.SOR_UPD_FLAGS_rskip = true ∧ t.sor.commit = s.sor.commit
            ∧ (s.sor.heldReqs = [] → t.sor.stage = s.sor.stage.erase x ∧ (inRange → MemSameButPages s t))))
        ∧ (∀ new, r = some new →
          Completes (.rowApply x.own x.table x.version x.row x.rem) s (fun t =>
            (s.sor.heldReqs = [] → t.sor.stage = s.sor.stage.erase x)
            ∧ (∀ c ∈ s.sor.commit, c ∈ t.sor.commit)
            ∧ ∃ c ∈ t.sor.commit, c.own = x.own ∧ c.table = x.table ∧ c.row = x.row ∧ c.rem = x.rem ∧ c.step = x.step
                ∧ c.delta = xorBytes old new
                ∧ c.parts.flatMap (·.2) = new.take ((commitPlaces s x.own v.desc x.rem x.row).map (·.2)).sum)))
    ∧ ((∀ y ∈ g, isFin32 y = true) → (x.own ≠ selfId s ∨ rowT2 s v.desc x.rem x.row = []) →
        commitRoom s x.stack (partsLen s v.desc x.rem x.row 3) = false →
        exec (.rowApply x.own x.table x.version x.row x.rem) s = .next (settle s))
    ∧ (∀ t', (∀ y ∈ g, isFin32 y = true) → x.own = selfId s → rowT2 s v.desc x.rem x.row ≠ [] →
        placePending s ⟨x.own, x.table, x.version, x.row, x.rem, x.stack, x.step, g, sparseParams s o, false⟩ = some t' →
        s.sor.heldReqs = [] →
        Completes (.rowApply x.own x.table x.version x.row x.rem) s (fun t =>
          t.sor.pend = t'.sor.pend ∧ t.sor.stage = s.sor.stage.erase x ∧ t.sor.commit = s.sor.commit ∧ MemSame s t
          ∧ (∀ p ∈ rowT2 s v.desc x.rem x.row, ∃ q ∈ t.tier.demand, q.1 = p.1)))
    ∧ ((∀ y ∈ g, isFin32 y = true) → x.own = selfId s → rowT2 s v.desc x.rem x.row ≠ [] →
        placePending s ⟨x.own, x.table, x.version, x.row, x.rem, x.stack, x.step, g, sparseParams s o, false⟩ = none →
        Completes (.rowApply x.own x.table x.version x.row x.rem) s (fun t =>
          rb t (R.SOR_UPD_STATUS x.stack) F.SOR_UPD_STATUS_bp = true ∧ t.sor = s.sor ∧ MemSame s t)))
  ∧ (∀ (s : State) (x : PendEntry) (v : TableVersion) (old new : List Byte), failed s = false →
      s.sor.pend.find? (fun y => y.own = x.own && y.table = x.table && y.row = x.row && y.rem = x.rem && !y.spilled) = some x →
      rowVersion s x.table x.version = some v → rowT2 s v.desc x.rem x.row = [] →
      idleAsked s (0x20 + x.stack) = false → rowLost s x.own ⟨x.table, x.rem, x.row⟩ = false → NoMemoryErrors s →
      rowHeld s x.own v.desc x.rem x.row 3 = false → readRow s x.own v.desc x.rem x.row = some old →
      commitRoom s x.stack (partsLen s v.desc x.rem x.row 3) = true →
      newRow x.par (rowW v.desc x.rem) (etaStep s x.step) x.g old = some new →
      Completes (.pendingEntryComplete x.own x.table x.row x.rem) s (fun t =>
        t.sor.pend = s.sor.pend.erase x
        ∧ ∃ c ∈ t.sor.commit, c.own = x.own ∧ c.table = x.table ∧ c.row = x.row ∧ c.rem = x.rem ∧ c.step = x.step ∧ c.delta = xorBytes old new))
  ∧ (∀ (s : State) (k : Nat) (x : PendEntry), failed s = false → NoMemoryErrors s → k < 8 → s.sor.pend.find? (fun y => y.stack = k && y.spilled) = some x →
      pendUse s k false + pendBytes x ≤ 0x20_0000 →
      Completes (.spillRingReturn k) s (fun t =>
        { x with spilled := false } ∈ t.sor.pend ∧ (∀ y ∈ s.sor.pend, y.stack ≠ k → y ∈ t.sor.pend)
        ∧ rb t (R.SOR_UPD_STATUS k) F.SOR_UPD_STATUS_bp = false))
  ∧ (∀ (s : State) (m : Soredium) (r : SorediumRec) (k x : Nat), failed s = false → m.recs = [r] → scrubHolds s m = false →
      heldSlot s (recOwner s m.source r) r = some (k, x) → idleAsked s (0x20 + sorEngine s m) = false → sorWaits s m = false → NoMemoryErrors s →
      let a := parityAddr s k r.table r.rem x
      Completes (.soredium m) s (fun t =>
        (∀ i, i < r.delta.length → byteAt t (a + i) = byteAt s (a + i) ^^^ r.delta.getD i 0)
        ∧ MemSameOutside a r.delta.length s t
        ∧ (∀ d, serverOf s m.source = some d → (d = selfId s ∨ isLost s d = false) →
            Out.message d (.sorediumAck (selfId s) m.step m.seq) ∈ t.out)))
  ∧ (∀ (s : State) (m : Soredium), failed s = false → idleAsked s (0x20 + sorEngine s m) = true ∨ sorWaits s m = true →
      Completes (.soredium m) s (fun t => t = { s with sor := { s.sor with inq := s.sor.inq ++ [.soredium m] } }))
  ∧ (∀ (s : State) (source n seq : Nat), failed s = false →
      (ackHeld s n source seq = false → Completes (.sorediumAck source n seq) s (fun t =>
        t.sor.commit = s.sor.commit.map (fun c =>
          if c.acked = false ∧ c.step = n ∧ c.holder = some (source, seq) then { c with acked := true } else c)))
      ∧ (ackHeld s n source seq = true → Completes (.sorediumAck source n seq) s (fun t =>
        t = { s with sor := { s.sor with inq := s.sor.inq ++ [.sorediumAck source n seq] } })))
  ∧ (∀ (s : State) (own table row : Nat) (rem : Bool), failed s = false →
      (∀ c, s.sor.commit.find? (fun c => c.own = own && c.table = table && c.row = row && c.rem = rem && c.acked) = some c →
        (∀ p ∈ c.parts, writeWaits s p.1 p.2.length = false) → engineHeld s c.stack = false → s.cmd.held = [] → c.stack < 8 → (reg s (R.SOR_UPD_COMMIT_CNT c.stack)).toNat + 1 < 2 ^ 64 →
        Completes (.rowCommit own table row rem) s (fun t =>
          t.sor.commit = s.sor.commit.erase c
          ∧ (reg t (R.SOR_UPD_COMMIT_CNT c.stack)).toNat = (reg s (R.SOR_UPD_COMMIT_CNT c.stack)).toNat + 1))
      ∧ (s.sor.commit.find? (fun c => c.own = own && c.table = table && c.row = row && c.rem = rem && c.acked) = none →
        exec (.rowCommit own table row rem) s = .next s))

/-- R278 to R284, R287, R288, R290, R292, R302. -/
def Obligations.PagesArePlacedAndMigrationsStart : Prop :=
  open Sys2Proof Machine in
  (∀ (s : State) (n f : Nat), chooseT1 s (fun _ => true) = some (.t1 n f) →
    n < 8 ∧ inPool s n f = true ∧ f ∉ takenFrames s n ∧ (∀ g, inPool s n g = true → g ∉ takenFrames s n → f ≤ g)
    ∧ ∀ m, m < 8 → 0 < stackFree s m → (reg s (R.TIER_STK_TOUCH n)).toNat ≤ (reg s (R.TIER_STK_TOUCH m)).toNat
        ∧ (m < n → (reg s (R.TIER_STK_TOUCH n)).toNat < (reg s (R.TIER_STK_TOUCH m)).toNat))
  ∧ (∀ (s : State) (time : Nat), let a := advance time s
      (a.ft / 1000000 ≤ heatEpoch a → exec (.heatEpoch time) s = .next a)
      ∧ (heatEpoch a < a.ft / 1000000 → a.ft / 1000000 < 2 ^ 64 → a.tier.policyDue = false →
          (∀ n, n < 8 → a.tier.touches.getD n 0 < 2 ^ 64) →
        Completes (.heatEpoch time) s (fun t =>
          (reg t R.TIER_HEAT_EPOCH).toNat = a.ft / 1000000
          ∧ (∀ n, n < 8 → (reg t (R.TIER_STK_TOUCH n)).toNat = a.tier.touches.getD n 0)
          ∧ t.tier.touches = List.replicate 8 0 ∧ t.tier.abandoned = [] ∧ t.tier.promoted = 0 ∧ t.tier.demoted = 0 ∧ t.tier.rebalanced = 0
          ∧ t.tier.queue = a.tier.queue ∧ t.tier.migs = a.tier.migs ∧ t.tier.policy = a.tier.policy
          ∧ t = { a with regs := t.regs, tier := t.tier }))
      ∧ (∀ p, heatEpoch a < a.ft / 1000000 → a.tier.policyDue = true → sectionPolicy a = some p → a.tier.waitWrites = [] →
        Completes (.heatEpoch time) s (fun t =>
          t.tier.policy = some p ∧ t.tier.policyDue = false ∧ (reg t R.TIER_RANGE).toNat = p.rangePages % 2 ^ 64
          ∧ rb t R.TIER_STATUS F.TIER_STATUS_policy_valid = true
          ∧ (∀ q, q < 2 ^ 28 → pte t q = if p.rangePages ≤ q then 0 else pte a q))))
  ∧ (∀ (s : State),
      (∀ p, (((ptPages s).filter (fun x => pteTier x.2 ≠ 0)).map (·.1)).find? (fun p => s.tier.scanPos ≤ p) = some p →
        Completes .scanVisit s (fun t =>
          pte t p = withFlags s p (setBits (setBits (pte s p) 56 8 (effHeat (pte s p) (heatEpoch s % 256))) 48 8 (heatEpoch s % 256))
          ∧ MemSameOutside (pteAddr p) 8 s t ∧ t.tier.scanPos = p + 1 ∧ t.tier.migs = s.tier.migs ∧ t = { s with mem := t.mem, tier := t.tier }))
      ∧ ((∀ x ∈ ptPages s, pteTier x.2 = 0) → exec .scanVisit s = .next s))
  ∧ (∀ (s : State) (addr len : Nat), 0 < len → addr % 0x1_0000 + len ≤ 0x1_0000 → failed s = false → readWaits s addr len = false →
      NothingWaits s → s.recov.waitRd = [] →
      let p := addr / 0x1_0000
      (∀ src f, ptePlace (pte s p) = some (.t2 src f) → (reg s R.TIER_CRIT_CNT).toNat + 1 < 2 ^ 64 →
        Completes (.criticalRowFetch addr len) s (fun t =>
          Out.peatRead src f (addr % 0x1_0000) len ∈ t.out
          ∧ (reg t R.TIER_CRIT_CNT).toNat = (reg s R.TIER_CRIT_CNT).toNat + 1
          ∧ pteHeat (pte t p) = min 255 (effHeat (pte s p) (heatEpoch s % 256) + 1) ∧ pteStamp (pte t p) = heatEpoch s % 256
          ∧ ptePlace (pte t p) = some (.t2 src f) ∧ MemSameOutside (pteAddr p) 8 s t
          ∧ (∀ pol, s.tier.policy = some pol → pol.promoteThr ≤ pteHeat (pte t p) → s.tier.queue.length < 4096 → p ∈ t.tier.queue)))
      ∧ (pteTier (pte s p) ≠ 2 → Completes (.criticalRowFetch addr len) s (fun t =>
          t = { s with sor := { s.sor with wanted := s.sor.wanted.filter (fun w => !s.sor.fetched.any (fetchCovers w.1 w.2)) } })))
  ∧ (∀ (s : State) (addr len : Nat), failed s = true ∨ readWaits s addr len = true → exec (.criticalRowFetch addr len) s = .next s)
  ∧ (∀ (s : State) (pol : TierPolicy), s.tier.policy = some pol →
      (∀ p dst, pol.freeLow < freeT1 s → s.tier.promoted < pol.promoteBudget → chooseT1 s (fun _ => true) = some dst →
        firstStart s .promote (s.tier.queue.filter (fun q => pteTier (pte s q) = 2)) = some p →
        Completes .promote s (fun t => MigStarts s t .promote p dst [] ∧ t.tier.promoted = s.tier.promoted + 1 ∧ p ∉ t.tier.queue
          ∧ ∀ q ∈ s.tier.queue, q ≠ p → q ∈ t.tier.queue))
      ∧ (freeT1 s ≤ pol.freeLow → exec .promote s = .next s)
      ∧ (∀ p dst, s.tier.demoting = true → s.tier.demoted < pol.demoteBudget → chooseT2 s p = some dst →
        firstStart s .demote (s.tier.demoteSel.filter (demotable s)) = some p →
        Completes .demote s (fun t => MigStarts s t .demote p dst [] ∧ t.tier.demoted = s.tier.demoted + 1))
      ∧ (s.tier.demoting = false → exec .demote s = .next s)
      ∧ (∀ p dst, s.tier.rebalanced < pol.rebalBudget → chooseT1 s (fun m => m ≠ pteStack (pte s p)) = some dst →
        firstStart s .rebalance s.tier.poolMoves = some p →
        Completes .rebalance s (fun t => MigStarts s t .rebalance p dst [] ∧ t.tier.rebalanced = s.tier.rebalanced + 1))
      ∧ (∀ x rest p h dst, s.tier.rebalanced < pol.rebalBudget → s.tier.poolMoves = [] → s.tier.rebal = x :: rest → x ∉ rest →
        x.pages.find? (fun q => stillOn s x.stack q.1 && mayStart s .rebalance q.1) = some (p, h) →
        chooseT1 s (fun m => m ≠ x.stack) = some dst →
        Completes .rebalance s (fun t => MigStarts s t .rebalance p dst [] ∧ t.tier.rebalanced = s.tier.rebalanced + 1
          ∧ t.tier.rebal = (if h < x.excess then
              [{ x with excess := x.excess - h, pages := x.pages.filter (fun q => q.1 ≠ p) }] else []) ++ rest)))
  ∧ (∀ (s : State) (d : Nat × List Nat), (s.tier.demand.filter (fun d => pteTier (pte s d.1) = 2)).find? (fun d => mayStart s .demand d.1) = some d →
      (∀ dst, chooseT1 s (fun _ => true) = some dst →
        Completes .demand s (fun t => MigStarts s t .demand d.1 dst d.2 ∧ t.tier.demand = s.tier.demand))
      ∧ (∀ v, chooseT1 s (fun _ => true) = none → demandVictim s = some v →
        Completes .demand s (fun t => MigStarts s t .demote v.1 v.2 [] ∧ t.tier.demoted = s.tier.demoted ∧ t.tier.demand = s.tier.demand))
      ∧ (chooseT1 s (fun _ => true) = none → demandVictim s = none → (∃ m ∈ s.tier.migs, m.kind = .demote) → exec .demand s = .next s)
      ∧ (chooseT1 s (fun _ => true) = none → demandVictim s = none → (∀ m ∈ s.tier.migs, m.kind ≠ .demote) →
        Completes .demand s (fun t => rb t R.TIER_STATUS F.TIER_STATUS_full = true ∧ MemSame s t ∧ t.tier.migs = s.tier.migs)))
  ∧ (∀ (s : State) (p : Nat),
      (∀ dst, firstStart s .evacuate (s.tier.evacuate.filter (fun q => (anyPlace s q).isSome)) = some p → anyPlace s p = some dst →
        Completes .evacuate s (fun t => MigStarts s t .evacuate p dst []))
      ∧ (firstStart s .evacuate (s.tier.evacuate.filter (fun q => (anyPlace s q).isSome)) = none → exec .evacuate s = .next s)
      ∧ (∀ dst, firstStart s .revoke (((revoking s).flatMap (pagesIn s)).filter (fun q => (revokePlace s q).isSome)) = some p →
        revokePlace s p = some dst → Completes .revoke s (fun t => MigStarts s t .revoke p dst []))
      ∧ (firstStart s .revoke (((revoking s).flatMap (pagesIn s)).filter (fun q => (revokePlace s q).isSome)) = none →
        exec .revoke s = .next s))
  ∧ (∀ (s : State), let ps := (lostPages s).filter (mayStart s .rebuild)
      (∃ p ∈ ps, pageReady s p = true) → (∀ p ∈ ps, pageReady s p = true → choosePlace s p (pteCovered (pte s p)) = none) →
      (∀ p ∈ ps, pageUnasked s p = false) → Completes .rebuild s (fun t =>
        rb t R.TIER_STATUS F.TIER_STATUS_full = true ∧ t.tier.migs = s.tier.migs ∧ MemSame s t))
  ∧ (∀ (s : State) (p : Nat) (dst : Place),
      (((lostPages s).filter (mayStart s .rebuild)).filter (pageReady s)).findSome?
        (fun q => (choosePlace s q (pteCovered (pte s q))).map (fun d => (q, d))) = some (p, dst) →
      Completes .rebuild s (fun t =>
        (∃ m, t.tier.migs = s.tier.migs ++ [m] ∧ m.page = p ∧ m.kind = .rebuild ∧ m.src = none ∧ m.dst = dst ∧ m.pass = 3 ∧ m.holdAt = s.ft
          ∧ m.held = [])
        ∧ (∀ x r, pageRows (zeroPlace s dst) p = [x] → findRebuild s (selfId s) ⟨storageOf x.1.desc, x.1.rem, x.1.row⟩ false = some r →
            x.2.1 = p * 0x1_0000 → x.2.2.1 + x.2.2.2 ≤ r.acc.length → x.2.2.2 ≤ 0x1_0000 →
            (placeKey dst + 0x1_0000 ≤ pteAddr p ∨ pteAddr p + 8 ≤ placeKey dst) →
            bytesAt t (placeKey dst) x.2.2.2 = (r.acc.drop x.2.2.1).take x.2.2.2)))
  ∧ (∀ (s : State), lostPages s = [] → exec .rebuild s = .next s)

/-- R274, R276, R293 to R298, R300, R303 to R305, R534. -/
def Obligations.PagesKeepTheirBytesAndSourcesAreLost : Prop :=
  open Sys2Proof Machine in
  (∀ (s : State) (p time : Nat) (m : Migration) (src : Place), let a := advance time s
      migOf a p = some m → m.src = some src → m.pass < 3 → FramesApart src m.dst → (∀ l ∈ m.lines, l < 1024) →
      failed a = false → NoMemoryErrors a →
      (copyWaits a src m.dst = true → exec (.migrationPassDone p time) s = .next a)
      ∧ (copyWaits a src m.dst = false → Completes (.migrationPassDone p time) s (fun t =>
        (∀ l ∈ m.lines, bytesAt t (placeKey m.dst + 64 * l) 64 = bytesAt a (placeKey src + 64 * l) 64)
        ∧ MemSameOutside (placeKey m.dst) 0x1_0000 a t
        ∧ migOf t p = some (
            if m.pass = 0 ∧ m.dirty ≠ [] ∨ m.pass = 1 ∧ 16 < m.dirty.length then { m with pass := m.pass + 1, lines := m.dirty, dirty := [] }
            else { m with pass := 3, lines := [], holdAt := a.ft }))))
  ∧ (∀ (s : State) (p time : Nat) (m : Migration) (src : Place), let a := advance time s
      migOf a p = some m → m.src = some src → m.pass = 3 → m.kind ≠ .rebuild → FramesApart src m.dst → p < 2 ^ 28 →
      ptePlace (pte a p) = some src → (∀ l ∈ m.dirty, l < 1024) →
      (∀ l, l < 1024 → l ∉ m.dirty → bytesAt a (placeKey m.dst + 64 * l) 64 = bytesAt a (placeKey src + 64 * l) 64) →
      NothingResumes a → NoMemoryErrors a → (∀ k, k < 16 → (a.tier.sources.getD k {}).state ≠ 2) → failed a = false → flipWaits a m = false →
      (m.held = [] →
        Completes (.finalPassFlip p time) s (fun t =>
          ptePlace (pte t p) = some m.dst ∧ pteMig (pte t p) = false ∧ migOf t p = none
          ∧ tierRead t (p * 0x1_0000) 0x1_0000 = tierRead a (p * 0x1_0000) 0x1_0000
          ∧ (p, src) ∈ t.tier.draining
          ∧ (∀ r, kindCount m.kind = some r → (reg a r).toNat + 1 < 2 ^ 64 → (reg t r).toNat = (reg a r).toNat + 1)
          ∧ min (a.ft - m.holdAt) (2 ^ 64 - 1) ≤ (reg t R.TIER_HOLD_MAX).toNat))
      ∧ (∀ bs off q, m.held = [⟨[(p * 0x1_0000 + off, bs)], q⟩] → 0 < bs.length → off + bs.length ≤ 0x1_0000 → p < rangePages a →
          placeWaitsAt a q off bs.length m.dst = false → (∀ y ∈ a.tier.migs, y.page ≠ p → y.held = []) →
        Completes (.finalPassFlip p time) s (fun t =>
          ptePlace (pte t p) = some m.dst ∧ migOf t p = none
          ∧ tierRead t (p * 0x1_0000 + off) bs.length = bs
          ∧ (∀ i, i < 0x1_0000 → (i < off ∨ off + bs.length ≤ i) →
              tierRead t (p * 0x1_0000 + i) 1 = tierRead a (p * 0x1_0000 + i) 1))))
  ∧ (∀ (s : State) (p time : Nat) (m : Migration), let a := advance time s
      migOf a p = some m → m.pass = 3 → failed a = false → NothingResumes a →
      (m.holdAt + 20000 ≤ a.ft → m.held = [] → (reg a R.TIER_ABANDON_CNT).toNat + 1 < 2 ^ 64 →
        Completes (.finalPassAbandon p time) s (fun t =>
          ptePlace (pte t p) = ptePlace (pte a p) ∧ pteMig (pte t p) = false ∧ migOf t p = none ∧ p ∈ t.tier.abandoned
          ∧ MemSameOutside (pteAddr p) 8 a t
          ∧ (reg t R.TIER_ABANDON_CNT).toNat = (reg a R.TIER_ABANDON_CNT).toNat + 1
          ∧ rb t R.TIER_FLAGS F.TIER_FLAGS_abandon = true))
      ∧ (∀ bs off q src, m.holdAt + 20000 ≤ a.ft → m.held = [⟨[(p * 0x1_0000 + off, bs)], q⟩] → 0 < bs.length →
          off + bs.length ≤ 0x1_0000 → p < 2 ^ 28 → p < rangePages a → ptePlace (pte a p) = some src → FramesApart src m.dst →
          placeWaitsAt a q off bs.length src = false → (∀ y ∈ a.tier.migs, y.page ≠ p → y.held = []) →
        Completes (.finalPassAbandon p time) s (fun t =>
          ptePlace (pte t p) = some src ∧ migOf t p = none ∧ tierRead t (p * 0x1_0000 + off) bs.length = bs))
      ∧ (a.ft < m.holdAt + 20000 → exec (.finalPassAbandon p time) s = .next a))
  ∧ (∀ (s : State) (p : Nat),
      (∀ d, s.tier.draining.find? (fun x => x.1 = p) = some d → NothingResumes s →
        Completes (.sourceFrameFree p) s (fun t => t.tier.draining = s.tier.draining.erase d ∧ MemSame s t ∧ t.tier.migs = s.tier.migs))
      ∧ (s.tier.draining.find? (fun x => x.1 = p) = none → exec (.sourceFrameFree p) s = .next s))
  ∧ (∀ (s : State) (p : Nat),
      (pteTier (pte s p) = 2 → migOf s p = none → NothingResumes s → (reg s R.TIER_LOST_CNT).toNat + 1 < 2 ^ 64 →
        Completes (.peatReadError p) s (fun t =>
          pteTier (pte t p) = 3 ∧ MemSameOutside (pteAddr p) 8 s t
          ∧ (reg t R.TIER_LOST_CNT).toNat = (reg s R.TIER_LOST_CNT).toNat + 1
          ∧ rb t R.TIER_FLAGS F.TIER_FLAGS_t2_err = true ∧ rb t R.TIER_FLAGS F.TIER_FLAGS_lost = true
          ∧ rb t R.TIER_STATUS F.TIER_STATUS_rebuilding = true))
      ∧ (pteTier (pte s p) ≠ 2 → exec (.peatReadError p) s = .next s))
  ∧ (∀ (s : State) (x : Nat), x < 4 → s.tier.sources.length = 16 → s.tier.migs = [] → NothingResumes s →
      (∀ k, k < 16 → (s.tier.sources.getD k {}).state ≠ 2) →
      (s.tier.expanders.any (fun e => e.1 = x) = true →
        Completes (.expanderLinkDown x) s (fun t =>
          (∀ p, p < 2 ^ 28 → pteTier (pte t p) = if pteTier (pte s p) = 2 ∧ pteSource (pte s p) = x then 3 else pteTier (pte s p))
          ∧ (t.tier.sources.getD x {}).state = 0 ∧ (∀ e ∈ t.tier.expanders, e.1 ≠ x) ∧ bitOf t.hst.expPresent x = false
          ∧ (∀ k, k < 16 → k ≠ x → t.tier.sources.getD k {} = s.tier.sources.getD k {})))
      ∧ (s.tier.expanders.any (fun e => e.1 = x) = false → exec (.expanderLinkDown x) s = .next s))
  ∧ (∀ (s : State) (time : Nat), let a := advance time s
      (∀ d, a.tier.hostDownSince = some d → d + max 1 (rf a R.TIER_CTL F.TIER_CTL_host_wait) * 1000000 < a.ft → a.tier.sources.length = 16 →
          a.tier.migs = [] → NothingResumes a → (∀ k, k < 16 → (a.tier.sources.getD k {}).state ≠ 2) →
          (∀ p, p < 2 ^ 28 → pteTier (pte a p) = 2 → 4 ≤ pteSource (pte a p) → (a.tier.sources.getD (pteSource (pte a p)) {}).state ≠ 0) →
        Completes (.hostWaitExpiry time) s (fun t =>
          (∀ k, 4 ≤ k → k < 16 → (t.tier.sources.getD k {}).state = 0) ∧ (∀ k, k < 4 → t.tier.sources.getD k {} = a.tier.sources.getD k {})
          ∧ (∀ p, p < 2 ^ 28 → pteTier (pte t p) = if pteTier (pte a p) = 2 ∧ 4 ≤ pteSource (pte a p) then 3 else pteTier (pte a p))
          ∧ t.tier.hostDownSince = none ∧ rb t R.TIER_STATUS F.TIER_STATUS_host_down = false))
      ∧ ((∀ d, a.tier.hostDownSince = some d → a.ft ≤ d + max 1 (rf a R.TIER_CTL F.TIER_CTL_host_wait) * 1000000) →
        exec (.hostWaitExpiry time) s = .next a))
  ∧ (∀ (s : State) (x frames : Nat), x < 4 → (s.hst.farX16 = true → x = 0) → s.hst.farPerstHigh = true → s.tier.sources.length = 16 →
      (∀ e ∈ s.tier.expanders, e.1 ≠ x) →
      (NothingResumes s →
        Completes (.farLinkUp x frames true) s (fun t =>
          (x, frames) ∈ t.tier.expanders ∧ bitOf t.hst.expPresent x = true ∧ MemSame s t
          ∧ (∀ pol, s.tier.policy = some pol → bitOf pol.expMask x = true → (s.tier.sources.getD x {}).state = 0 →
              (t.tier.sources.getD x {}).state = 1 ∧ (t.tier.sources.getD x {}).frames = frames)))
      ∧ Completes (.farLinkUp x frames false) s (fun t =>
          rb t R.HST_STATUS F.HST_STATUS_far_bad = true ∧ t.tier = s.tier ∧ t.hst = s.hst ∧ MemSame s t))
  ∧ (∀ (s : State) (h : CmdHead) (slot addr len : Nat), CommandSlot s h → slot < 12 → addrKind addr = 0 → s.tier.sources.length = 16 →
      s.cmd.held.length < 4095 → s.cmd.atPoint = [] → rb s R.HST_STATUS F.HST_STATUS_link_up = true → attached s = true →
      let k := 4 + slot
      let free := (s.tier.sources.getD k {}).state = 0
      let range := addr % 0x1_0000 = 0 ∧ len % 0x1_0000 = 0 ∧ 0x1_0000 ≤ len ∧ len ≤ 2 ^ 42
      let disjoint := ∀ j, 4 ≤ j → j < 16 → (s.tier.sources.getD j {}).state ≠ 0 →
        addr + len ≤ (s.tier.sources.getD j {}).base ∨ (s.tier.sources.getD j {}).base + (s.tier.sources.getD j {}).frames * 0x1_0000 ≤ addr
      let refused (r : Nat) : Prop := Completes (.grantPeat h slot addr len) s (fun t => Retired t s.cmd.fetched h.cmdId 9 2 r 0
        ∧ rf t R.TIER_ERR F.TIER_ERR_reason = r ∧ rf t R.TIER_ERR F.TIER_ERR_slot = slot ∧ t.tier.sources = s.tier.sources)
      (free → range → disjoint → s.tier.waitWrites = [] →
        Completes (.grantPeat h slot addr len) s (fun t => Retired t s.cmd.fetched h.cmdId 9 0 0 0
          ∧ (t.tier.sources.getD k {}).state = 1 ∧ (t.tier.sources.getD k {}).base = addr
          ∧ (t.tier.sources.getD k {}).frames = len / 0x1_0000
          ∧ (∀ j, j ≠ k → t.tier.sources.getD j {} = s.tier.sources.getD j {})))
      ∧ (¬free → refused 1) ∧ (free → ¬range → refused 2)
      ∧ (free → range → (∀ j, j < 16 → 0 < (s.tier.sources.getD j {}).frames ∨ (s.tier.sources.getD j {}).state = 0) → ¬disjoint → refused 6))
  ∧ (∀ (s : State) (h : CmdHead) (slot : Nat), CommandSlot s h → slot < 12 → s.tier.sources.length = 16 →
      let k := 4 + slot
      ((s.tier.sources.getD k {}).state = 1 → pagesIn s k ≠ [] → (∀ j, j < 16 → (s.tier.sources.getD j {}).state ≠ 2) →
          (pagesIn s k).length ≤ freeT1 s + ((List.range 16).map (fun j => if j = k then 0 else sourceFree s j)).sum →
        Completes (.revokePeat h slot) s (fun t => Began s t h (.revokePeat slot)
          ∧ (t.tier.sources.getD k {}).state = 2 ∧ (t.tier.sources.getD k {}).revokeCmd = some s.cmd.fetched))
      ∧ ((s.tier.sources.getD k {}).state = 1 → pagesIn s k = [] → s.tier.migs = [] → h.cntAddr = 0 → (∀ j, j < 16 → (s.tier.sources.getD j {}).state ≠ 2) →
        Completes (.revokePeat h slot) s (fun t => Worked s t h (.revokePeat slot) [] ∧ (t.tier.sources.getD k {}).state = 0))
      ∧ ((s.tier.sources.getD k {}).state = 0 → s.cmd.held.length < 4095 → s.cmd.atPoint = [] → rb s R.HST_STATUS F.HST_STATUS_link_up = true →
        Completes (.revokePeat h slot) s (fun t => Retired t s.cmd.fetched h.cmdId 0xA 2 3 0 ∧ rf t R.TIER_ERR F.TIER_ERR_reason = 3)))

/-- R317 to R321, R323 to R325, R331 to R334, R337 to R342, R345, R349; the flit layout is log 119's, the code's zeros log 120's. -/
def Obligations.StacksServeTransactions : Prop :=
  open Sys2Proof Machine in
  (∀ (s : State) (n : Nat), n < 8 → s.stackList.length = 8 →
    let goes (t : StackTx) : Prop := txWaits s n t = false ∧ (stackOf s n).waiting.any (fun q => sameLine t q.tx) = false
    let counted (t : State) (r k : Nat) : Prop := (reg s r).toNat + k < 2 ^ 64 → (reg t r).toNat = (reg s r).toNat + k
    let clean (off lines : Nat) : Prop :=
      ∀ i, i < lines → off / 64 + i ∉ (stackOf s n).poison ∧ ∀ x ∈ (stackOf s n).errs, x.1 ≠ off / 64 + i
    let fate (off : Nat) (errs : List (Nat × Nat)) : ReadFate := decodeBurst (markedPin s n (channelOf off)) errs
    let linkOnly (t : State) : Prop := t = { s with out := t.out, stackList := t.stackList }
    (∀ tag off, offsetOk off 64 = true → goes (.rd64 tag off .good) → clean off 1 →
      Completes (.rd64 n tag off .good) s (fun t =>
        Out.d2d n (.data tag 0 (bytesAt s (hbmBase n + off) 64)) ∈ t.out ∧ counted t (R.STK_RD_BYTES n) 64
        ∧ counted t (R.STK_NARROW_CNT n) 1 ∧ MemSame s t ∧ t.tier = s.tier))
    ∧ (∀ tag off read ps, offsetOk off 64 = true → goes (.rd64 tag off ⟨read, []⟩) → clean off 1 → fate off read = .corrected ps →
      Completes (.rd64 n tag off ⟨read, []⟩) s (fun t =>
        Out.d2d n (.data tag 0 (bytesAt s (hbmBase n + off) 64)) ∈ t.out ∧ counted t (R.STK_CORR_CNT n) 1
        ∧ rf t (R.STK_ERR_ADDR n) F.STK_ERR_ADDR_offset = off ∧ rb t (R.STK_ERR_ADDR n) F.STK_ERR_ADDR_uncorr = false
        ∧ rb t (R.STK_FLAGS n) F.STK_FLAGS_corr = true ∧ MemSame s t ∧ t.tier = s.tier))
    ∧ (∀ tag off err, offsetOk off 64 = true → goes (.rd64 tag off err) →
        (fate off err.read = .uncorrectable ∨ off / 64 ∈ (stackOf s n).poison) → s.tier.migs = [] → s.tier.waitWrites = [] →
      Completes (.rd64 n tag off err) s (fun t =>
        Out.d2d n (.data tag 1 []) ∈ t.out ∧ counted t (R.STK_UNCORR_CNT n) 1
        ∧ (∀ p, inPool s n (frameOf off) = true → pageOnFrame s n (frameOf off) = some p → pteCovered (pte s p) = true → p < 2 ^ 28 →
            pteTier (pte t p) = 3)
        ∧ (inPool s n (frameOf off) = false → failed t = true)))
    ∧ (∀ tag off err, offsetOk off 64 = false → goes (.rd64 tag off err) →
      Completes (.rd64 n tag off err) s (fun t => Out.d2d n (.data tag 2 []) ∈ t.out ∧ linkOnly t))
    ∧ (∀ tag off, offsetOk off 256 = true → goes (.rd256 tag off []) → clean off 4 →
      Completes (.rd256 n tag off []) s (fun t =>
        Out.d2d n (.data tag 0 (bytesAt s (hbmBase n + off) 256)) ∈ t.out ∧ counted t (R.STK_RD_BYTES n) 256 ∧ MemSame s t ∧ t.tier = s.tier))
    ∧ (∀ tag off bytes err, offsetOk off 64 = true → goes (.wr64 tag off (2 ^ 64 - 1) bytes err) → bytes.length = 64 →
      Completes (.wr64 n tag off (2 ^ 64 - 1) bytes err) s (fun t =>
        Out.d2d n (.written tag 0) ∈ t.out ∧ bytesAt t (hbmBase n + off) 64 = bytes ∧ MemSameOutside (hbmBase n + off) 64 s t
        ∧ off / 64 ∉ (stackOf t n).poison ∧ counted t (R.STK_WR_BYTES n) 64 ∧ t.tier = s.tier))
    ∧ (∀ tag off mask bytes, offsetOk off 64 = true → goes (.wr64 tag off mask bytes .good) → bytes.length = 64 → mask < 2 ^ 64 - 1 →
        clean off 1 →
      Completes (.wr64 n tag off mask bytes .good) s (fun t =>
        Out.d2d n (.written tag 0) ∈ t.out
        ∧ (∀ i, i < 64 → byteAt t (hbmBase n + off + i) = if mask.testBit i = true then bytes.getD i 0 else byteAt s (hbmBase n + off + i))
        ∧ MemSameOutside (hbmBase n + off) 64 s t ∧ t.tier = s.tier))
    ∧ (∀ tag off bytes, offsetOk off 256 = true → goes (.wr256 tag off bytes) → bytes.length = 256 →
      Completes (.wr256 n tag off bytes) s (fun t =>
        Out.d2d n (.written tag 0) ∈ t.out ∧ bytesAt t (hbmBase n + off) 256 = bytes ∧ MemSameOutside (hbmBase n + off) 256 s t
        ∧ counted t (R.STK_WR_BYTES n) 256 ∧ t.tier = s.tier))
    ∧ (∀ m, goes (.msg m) → Completes (.msg n m) s (fun t => t.out.head? = some (.d2d n (.msg m)) ∧ linkOnly t))
    ∧ (∀ tag off err, ¬goes (.rd64 tag off err) →
      Completes (.rd64 n tag off err) s (fun t =>
        (stackOf t n).waiting = (stackOf s n).waiting ++ [⟨.rd64 tag off err, s.ft, maySend s n (.rd64 tag off err), [], s.tier.arrivals⟩]
        ∧ t = { s with out := t.out, stackList := t.stackList,
                       tier := { s.tier with arrivals := s.tier.arrivals + b2n (maySend s n (.rd64 tag off err)) } }))
    ∧ (∀ (up : Bool) (header : Nat) (rest : List Byte), let l := linkOf (stackOf s n) up
      let bytes := leBytes 4 header ++ rest
      let reply (nak : Bool) : Out := .flit n (.flit (!up) (flitBytes (controlFlit nak l.expected)))
      let after (t : State) : D2DLink := linkOf (stackOf t n) up
      (rb s (R.STK_STATUS n) F.STK_STATUS_retraining = true → exec (.d2dFlit n up header rest) s = .next s)
      ∧ (rb s (R.STK_STATUS n) F.STK_STATUS_retraining = false →
        (∀ f, readFlit bytes = some f → f.kind ≠ 0 → f.kind ≠ 4 →
          (f.seq = l.expected → Completes (.d2dFlit n up header rest) s (fun t =>
            (after t).expected = (l.expected + 1) % 1024 ∧ (after t).discarding = false ∧ (after t).refusals = 0 ∧ (after t).retry = l.retry
            ∧ (l.discarding = true → counted t (R.STK_D2D_RETRY_CNT n) 1)
            ∧ (64 ≤ l.sinceAck + 1 → (after t).sinceAck = 0 ∧ reply false ∈ t.out) ∧ MemSame s t))
          ∧ (f.seq ≠ l.expected → exec (.d2dFlit n up header rest) s = .next s))
        ∧ (∀ f, readFlit bytes = some f → f.kind = 0 → exec (.d2dFlit n up header rest) s = .next s)
        ∧ (∀ f, readFlit bytes = some f → f.kind = 4 → bitOf f.info 0 = true ∨ bitOf f.info 1 = true →
          exec (.d2dFlit n up header rest) s = exec (.d2dLinkControl n (!up) (bitOf f.info 0) (fieldAt f.payload 0 2)) s)
        ∧ (readFlit bytes = none → (l.discarding = false ∨ bitsOf (fieldAt bytes 0 4) 18 10 = l.expected) →
          (l.refusals + 1 < 8 → Completes (.d2dFlit n up header rest) s (fun t =>
            (after t).expected = l.expected ∧ (after t).discarding = true ∧ (after t).refusals = l.refusals + 1 ∧ t.regs = s.regs
            ∧ t.out = reply true :: s.out))
          ∧ (8 ≤ l.refusals + 1 → Completes (.d2dFlit n up header rest) s (fun t => (after t).expected = l.expected
            ∧ rb t (R.STK_STATUS n) F.STK_STATUS_retraining = true ∧ rb t (R.STK_STATUS n) F.STK_STATUS_link_up = false
            ∧ rb t (R.STK_FLAGS n) F.STK_FLAGS_retrain = true ∧ counted t (R.STK_RETRAIN_CNT n) 1)))))
    ∧ (∀ (up : Bool) (before after : List Flit) (q : Flit), (linkOf (stackOf s n) up).retry = before ++ q :: after →
        (∀ b ∈ before, b.seq ≠ q.seq) →
      ((linkOf (stackOf s n) up).queued = [] → (stackOf s n).waiting = [] →
        Completes (.d2dLinkControl n up false q.seq) s (fun t => (linkOf (stackOf t n) up).retry = after ∧ t = { s with stackList := t.stackList }))
      ∧ Completes (.d2dLinkControl n up true q.seq) s (fun t => (linkOf (stackOf t n) up).retry = q :: after
          ∧ t.out = ((q :: after).map (fun f => Out.flit n (.flit up (flitBytes f)))).reverse ++ s.out ∧ MemSame s t))
    ∧ (training s n = true → NothingResumes s → s.rau.landed = [] →
      (∀ down up, sparesFit s n false down = true → sparesFit s n true up = true →
        Completes (.d2dRetrainDone n ⟨true, down, up⟩) s (fun t => rb t (R.STK_STATUS n) F.STK_STATUS_retraining = false
          ∧ rb t (R.STK_STATUS n) F.STK_STATUS_link_up = true ∧ (stackOf t n).trainFails = 0 ∧ MemSame s t
          ∧ (linkOf (stackOf t n) false).mapped = ((linkOf (stackOf s n) false).mapped ++ down).eraseDups
          ∧ (linkOf (stackOf t n) true).mapped = ((linkOf (stackOf s n) true).mapped ++ up).eraseDups
          ∧ (∀ dir, ∀ f ∈ (linkOf (stackOf s n) dir).retry, Out.flit n (.flit dir (flitBytes f)) ∈ t.out)))
      ∧ (∀ good down up, good = false ∨ sparesFit s n false down = false ∨ sparesFit s n true up = false →
        ((stackOf s n).trainFails + 1 < 3 → Completes (.d2dRetrainDone n ⟨good, down, up⟩) s (fun t =>
          rb t (R.STK_STATUS n) F.STK_STATUS_retraining = true ∧ counted t (R.STK_RETRAIN_CNT n) 1
          ∧ (stackOf t n).trainFails = (stackOf s n).trainFails + 1))
        ∧ (3 ≤ (stackOf s n).trainFails + 1 → Completes (.d2dRetrainDone n ⟨good, down, up⟩) s (fun t =>
          failed t = true ∧ (stackOf t n).lost = true))))
    ∧ (let off := 64 * (stackOf s n).scrubPos
      0 < rf s (R.STK_CTL n) F.STK_CTL_scrub_hours → stackOpen s n = true → channelBusy s n (channelOf off) = false →
        (channelOf off, frameOf off) ∉ (stackOf s n).failing →
      (scrubTurn s n off = true → clean off 1 →
        (off + 64 < stackSize →
          Completes (.patrolScrub n .good) s (fun t => (stackOf t n).scrubPos = (stackOf s n).scrubPos + 1 ∧ counted t (R.STK_RD_BYTES n) 64
            ∧ MemSame s t))
        ∧ (stackSize ≤ off + 64 →
          Completes (.patrolScrub n .good) s (fun t => (stackOf t n).scrubPos = 0 ∧ counted t (R.STK_SCRUB_PASS_CNT n) 1 ∧ MemSame s t)))
      ∧ (scrubTurn s n off = false → ∀ e, Completes (.patrolScrub n e) s (fun t =>
          (stackOf t n).scrubPos = (stackOf s n).scrubPos ∧ t = { s with stackList := t.stackList })))
    ∧ (∀ r, Completes (.refresh n r) s (fun t => counted t (R.STK_REFRESH_TIME n) r.lost ∧ MemSame s t
        ∧ (stackOf t n).allBank = rb s (R.STK_CTL n) F.STK_CTL_ref_allbank
        ∧ (∀ e ∈ r.errs, e ∈ (stackOf t n).errs)
        ∧ (∀ e ∈ (stackOf s n).errs, (∀ x ∈ r.errs, x.1 ≠ e.1) → e ∈ (stackOf t n).errs)))
    ∧ (∀ c f, (c, f) ∈ (stackOf s n).failing → NothingResumes s → s.rau.landed = [] →
      (bankUse (stackOf s n) c (f % 64) < 16 →
        Completes (.rowRepairDone n c f) s (fun t =>
          (stackOf t n).failing = (stackOf s n).failing.erase (c, f) ∧ rowUse (stackOf t n) c f = rowUse (stackOf s n) c f + 1
          ∧ bankUse (stackOf t n) c (f % 64) = bankUse (stackOf s n) c (f % 64) + 1
          ∧ counted t (R.STK_REPAIR_CNT n) 1 ∧ rb t (R.STK_FLAGS n) F.STK_FLAGS_repair = true ∧ MemSame s t
          ∧ t.mgt.repairLog = s.mgt.repairLog ++ [(n, 1, c, f)]))
      ∧ (16 ≤ bankUse (stackOf s n) c (f % 64) → inPool s n f = true → (n, f) ∉ s.tier.retired →
          (s.tier.retired.filter (fun r => r.1 = n)).length < 65536 →
        Completes (.rowRepairDone n c f) s (fun t =>
          (stackOf t n).failing = (stackOf s n).failing.erase (c, f) ∧ t.tier.retired = s.tier.retired ++ [(n, f)]
          ∧ counted t (R.STK_RETIRE_CNT n) 1 ∧ (∀ p, pageOnFrame s n f = some p → p ∈ t.tier.evacuate) ∧ MemSame s t)))
    ∧ (s.rst.released.testBit (22 + n) = true → rb s (R.STK_STATUS n) F.STK_STATUS_init_done = false →
        rb s (R.STK_STATUS n) F.STK_STATUS_retraining = false → (stackOf s n).lost = false → NothingResumes s → s.rau.landed = [] →
      Completes (.stackInitDone n) s (fun t => rb t (R.STK_STATUS n) F.STK_STATUS_init_done = true
        ∧ rb t (R.STK_STATUS n) F.STK_STATUS_link_up = true ∧ MemSame s t)))
  ∧ (∀ (s : State) (n : Nat) (r : RefreshEnd), 8 ≤ n → exec (.refresh n r) s = .next s)

/-- R392 to R399, R402 to R409, R440. -/
def Obligations.ContributionsAndBarrierComplete : Prop :=
  open Sys2Proof Machine in
  let counted (a t : State) (r k : Nat) : Prop := (reg a r).toNat + k < 2 ^ 64 → (reg t r).toNat = (reg a r).toNat + k
  (∀ (s : State) (m : ReduceMsg) (e : BlockEntry) (time : Nat), let a := advance time s
      failed a = false → blockEntry a m.block = some e → rauIdle a m.block = false → e.die < 2 →
      (m.source ∉ contributors a e →
        Completes (.reduce m time) s (fun t => counted a t (R.RAU_UNMAPPED_CNT e.die) 1 ∧ t.rau = a.rau ∧ MemSame a t))
      ∧ (m.source ∈ contributors a e → mayReduce a e m.source = true → e.block ∉ a.recov.lostBlocks →
        (∀ v, v = 1 ∨ v = 2 ∨ v = 3 → seenState a e.block m.step m.source = some v → m.elems ≠ [] →
          Completes (.reduce m time) s (fun t => counted a t (R.RAU_DUP_CNT e.die) m.elems.length
            ∧ rb t (R.RAU_FLAGS e.die) F.RAU_FLAGS_dup = true ∧ t.rau = a.rau ∧ MemSame a t))
        ∧ (seenState a e.block m.step m.source = none → findContribution a e.block m.step m.source = none → isLost a m.source = false →
            m.offset + m.elems.length ≤ e.nElem →
          (m.elems.length < e.nElem →
            Completes (.reduce m time) s (fun t =>
              findContribution t e.block m.step m.source = some ⟨m.source, m.step, [(m.offset, m.elems)], false, false⟩
              ∧ t.rau.reds = a.rau.reds ∧ t.rau.blocks = a.rau.blocks ∧ MemSame a t))
          ∧ (m.elems.length = e.nElem → carryOf a m.step = false → windowPassed a m.step a.ft = true →
            Completes (.reduce m time) s (fun t => counted a t (R.RAU_LATE_CNT e.die) 1 ∧ rb t (R.RAU_FLAGS e.die) F.RAU_FLAGS_late = true
              ∧ findContribution t e.block m.step m.source = none ∧ seenState t e.block m.step m.source = some 2
              ∧ t.rau.reds = a.rau.reds ∧ t.rau.blocks = a.rau.blocks ∧ MemSame a t))
          ∧ (∀ (r : Reduction) (ps : List (W32 × W32)), m.elems.length = e.nElem → carryOf a (m.step - 1) = false → windowPassed a m.step a.ft = false →
              e.parts = 1 → actsPrimary a e = true → splitInv a = false → redOf a e none = r → r.step = m.step → m.step < a.stepCtr →
              r.next + 1 = (contributors a e).length → (contributors a e).getLast? = some m.source → r.cleared = false →
              r.leaves = [ps] → ps.length = e.nElem → otherHolders a e = [] →
            let k := r.added + 1
            let f := if bitOf (optNow a 0 5 1) 0 = true then f32div (int32 (contributors a e).length) (int32 k) else one32
            Completes (.reduce m time) s (fun t =>
              (∀ i, i < e.nElem → numAt t (logAddr a e m.step + 4 * i) 4
                = (gradElem a e m.step f i (pairAdd (ps.getD i (0, 0)) (fp16Val (m.elems.getD i 0)))).toNat)
              ∧ MemSameOutside (logAddr a e m.step) (4 * e.nElem) a t
              ∧ (blk t e.block).ready = m.step + 1 ∧ counted a t (R.RAU_CONTRIB_CNT e.die) 1
              ∧ seenState t e.block m.step m.source = some 1)))))
  ∧ (∀ (s : State) (m : PartMsg) (e : BlockEntry) (time : Nat), let a := advance time s
      failed a = false → blockEntry a m.block = some e → rauIdle a m.block = false → e.die < 2 →
      (a.rau.closeAt + 65536 < a.ft → m.step + 1 = a.rau.window →
        Completes (.part m time) s (fun t => t.rau = a.rau ∧ MemSame a t))
      ∧ ((blk a e.block).ready = m.step → m.step + 1 ≠ a.rau.window ∨ a.ft ≤ a.rau.closeAt + 65536 →
          findPart a e.block m.step m.part = none → 1 < e.parts → m.part < e.parts → (∀ j, j < e.parts → partLeader a e j ≠ some (selfId a)) →
        (m.last = false → (∀ j, j < e.parts → j ≠ m.part → ∀ p, findPart a e.block m.step j = some p → (p.complete && p.skip) = false) →
          Completes (.part m time) s (fun t =>
            findPart t e.block m.step m.part = some ⟨e.block, m.step, m.part, [(m.offset, m.pairs)], [], m.skip, false⟩ ∧ MemSame a t))
        ∧ (m.last = true → m.skip = true → actsPrimary a e = true → m.step < a.stepCtr →
          Completes (.part m time) s (fun t => (blk t e.block).ready = m.step + 1 ∧ m.step ∈ (blk t e.block).skips ∧ MemSame a t
            ∧ ∀ d ∈ otherHolders a e,
                Out.message d (.grad ⟨selfId a, e.block, m.step, 0, [], true, true, [], (contributors a e).length⟩) ∈ t.out))))
  ∧ (∀ (s : State) (n time : Nat), let a := advance time s
      failed a = false → a.rau.window = n + 1 → a.rau.closed ≤ n →
      (a.rau.closeAt ≤ a.ft → Completes (.windowClose time) s (fun t =>
        t.rau.closed = n + 1 ∧ t.rau.window = n + 1 ∧ ∀ x ∈ t.sor.expected, x.step ≤ n → x.status ≠ 0))
      ∧ (a.ft < a.rau.closeAt → exec (.windowClose time) s = .next a))
  ∧ (∀ (s : State) (n time : Nat), let a := advance time s
      failed a = false → a.rau.window = n + 1 → a.rau.closed = n + 1 → n < a.stepCtr →
      (a.rau.closeAt + 65536 < a.ft → Completes (.partDeadline time) s (fun t =>
        ∀ e ∈ allBlocks a, e.parts ≠ 1 → actsPrimary a e = true → idleAsked a (0x33 + e.die) = false → (blk a e.block).ready = n → (blk t e.block).ready = n + 1))
      ∧ (a.ft ≤ a.rau.closeAt + 65536 → exec (.partDeadline time) s = .next a))
  ∧ (∀ (s : State) (n time : Nat), let a := advance time s
      failed a = false → a.seq.step = some n →
      (mayRecord a a.ft = true → (∃ d ∈ lineOf a 1, d ≠ selfId a ∧ ∀ x ∈ a.rau.recs, ¬(x.1 = n ∧ x.2.1 = 1 ∧ x.2.2.1 = d)) →
        Completes (.barrierRecord time) s (fun t =>
          (∃ r : BarrierRec, t.rau.own = some (n, r) ∧ r.vote = (a.scl.ovf.contains n || !pairFinite (sumSquares a n))
            ∧ (r.s, r.c) = sumSquares a n ∧ r.tRec = a.ft ∧ r.count = 1
            ∧ ∀ d ∈ lineOf a 1, d ≠ selfId a → Out.message d (.barrier ⟨selfId a, n, 1, r⟩) ∈ t.out)
          ∧ t.rau.level = 1 ∧ MemSame a t))
      ∧ (mayRecord a a.ft = false → exec (.barrierRecord time) s = .next a))
  ∧ (∀ (s : State) (m : BarrierMsg), failed s = false → idleAsked s 0x33 = false → s.seq.barrier ≤ m.step →
      (∀ x ∈ s.rau.recs, ¬(x.1 = m.step ∧ x.2.1 = m.level ∧ x.2.2.1 = m.source)) →
      (s.rau.own = none → Completes (.barrier m) s (fun t =>
        t.rau = { s.rau with recs := s.rau.recs ++ [(m.step, m.level, m.source, m.record)] } ∧ MemSame s t ∧ t.seq = s.seq))
      ∧ (∀ (own r : BarrierRec), s.rau.own = some (m.step, own) → s.rau.level = 4 →
          ((lineOf s 4).mapM (fun d => if d = selfId s then some own
            else ((s.rau.recs ++ [(m.step, m.level, m.source, m.record)]).find? (fun x => x.1 = m.step && x.2.1 = 4 && x.2.2.1 = d)).map (·.2.2.2))).bind
              joinLine = some r →
        Completes (.barrier m) s (fun t =>
          t.seq.barrier = m.step + 1 ∧ t.seq.step = none ∧ t.rau.tMax = r.tRec ∧ t.rau.own = none
          ∧ t.rau.results.head? = some ⟨m.step, r, etaStep s m.step⟩)))
  ∧ (∀ (s : State) (m : ScaleMsg), failed s = false → (∀ x ∈ s.scl.runs, x.own.step ≠ m.step) →
      (∀ x ∈ s.scl.recs, ¬(x.source = m.source ∧ x.step = m.step ∧ x.level = m.level)) →
      Completes (.scale m) s (fun t => t = { s with scl := { s.scl with recs := s.scl.recs ++ [m] } }))

/-- R374, R375, R415 to R421, R423, R424, R426, R427. -/
def Obligations.BlocksApplyAgreeAndGather : Prop :=
  open Sys2Proof Machine in
  let counted (a t : State) (r k : Nat) : Prop := (reg a r).toNat + k < 2 ^ 64 → (reg t r).toNat = (reg a r).toNat + k
  (∀ (s : State) (b : Nat) (e : BlockEntry), failed s = false → blockEntry s b = some e → rauIdle s b = false → e.die < 2 →
    (∀ r ∈ blockRanges s e (blk s e.block).applied, rawWaits s r.1 r.2 = false) → NoMemoryErrors s →
    let x := blk s e.block
    (∀ r, resultOf s x.applied = some r → isHolder s e = true → x.applied ≤ x.agreed → e.block ∉ s.recov.lostBlocks →
      let n := x.applied
      let record := logRecord s e n
      let o := denseOpt s e.opt
      let gs := logGrad s e n
      let c := if r.record.vote = true then one32 else clipFactor s (toF32 (pairVal r.record.s r.record.c))
      (r.record.vote = true → Completes (.blockApply b) s (fun t =>
        (blk t e.block).applied = n + 1 ∧ n + 1 ≤ (blk t e.block).ready ∧ MemSameOutside record 64 s t ∧ bitOf (numAt t (record + 16) 4) 0 = true))
      ∧ (r.record.vote = false → x.ready ≤ n → exec (.blockApply b) s = .next s)
      ∧ (r.record.vote = false → n < x.ready → n ∉ x.skips →
        let y := applyBlock s e o r.eta c gs
        (y.2 = false → Completes (.blockApply b) s (fun t =>
          (blk t e.block).applied = n + 1 ∧ MemSameOutside record 64 s t ∧ counted s t (R.RAU_NONFIN_CNT e.die) 1
          ∧ rb t (R.RAU_FLAGS e.die) F.RAU_FLAGS_nonfin = true))
        ∧ (y.2 = true → logRecord y.1 e n = record → Completes (.blockApply b) s (fun t =>
          (blk t e.block).applied = n + 1 ∧ (blk t e.block).agreed = x.agreed
          ∧ (∀ i, i < e.nElem →
              let v := (applyElem o (biasFactors o (min (numAt s ((stateAddrs s e).getD 4 0) 4 + 1) (2 ^ 32 - 1))) (f32mul r.eta o.lrScale)
                (paramVal s e i) (f32mul (gs.getD i 0) c)
                ((readMoment s o q8bVal ((stateAddrs s e).getD 2 0) e.nElem).getD i 0)
                (if o.algo = 2 then (readMoment s o u8bVal ((stateAddrs s e).getD 3 0) e.nElem).getD i 0
                  else (readMoment s o q8bVal ((stateAddrs s e).getD 2 0) e.nElem).getD i 0)).1
              numAt t (regionAddr s e + 4 * i) 4 = v / 256 ∧ numAt t (regionAddr s e + up64 (4 * e.nElem) + i) 1 = v % 256)
          ∧ (∀ p, (p < regionAddr s e ∨ regionAddr s e + stateSize o e.nElem ≤ p) → (p < record ∨ record + 64 ≤ p) → byteAt t p = byteAt s p)))))
    ∧ (∀ copy, x.digested < x.applied → x.digested = x.agreed → s.recov.lostBlocks.contains e.block = false →
      (liveHolders s e = [selfId s] → x.agreed % 32 ≠ 31 → x.digests.find? (fun y => y.1 = x.agreed && y.2.1 = selfId s) = none →
        Completes (.digestComputeDone ⟨b, copy⟩) s (fun t =>
        (blk t e.block).agreed = x.agreed + 1 ∧ (blk t e.block).digested = x.agreed + 1 ∧ MemSame s t))
      ∧ (∀ d, d ∈ otherHolders s e → x.digests.find? (fun y => y.1 = x.agreed && y.2.1 = d) = none →
        Completes (.digestComputeDone ⟨b, copy⟩) s (fun t =>
          (blk t e.block).digested = x.agreed + 1 ∧ (blk t e.block).agreed = x.agreed ∧ MemSame s t
          ∧ Out.message d (.digest ⟨selfId s, e.block, x.agreed, 0, digestsOf (stateBytes s e), true⟩) ∈ t.out)))
    ∧ (∀ (m : DigestMsg) (mine : List Nat) (copy : List (Nat × List Byte)), m.block = b → m.step = x.agreed → x.agreed < x.digested →
        isHolder s e = true → m.first = 0 → s.recov.lostBlocks.contains e.block = false →
        m.source ≠ selfId s → liveHolders s e = [selfId s, m.source] ∨ liveHolders s e = [m.source, selfId s] →
        x.digests = [(x.agreed, selfId s, mine)] → mine.length = digestCount s e →
      (m.crcs = mine → x.agreed % 32 ≠ 31 → Completes (.digest m copy) s (fun t => (blk t e.block).agreed = x.agreed + 1 ∧ MemSame s t))
      ∧ (m.crcs ≠ mine → m.crcs.length = mine.length → x.replayed = false → x.replaying = false →
        Completes (.digest m copy) s (fun t => (blk t e.block).replaying = true ∧ (blk t e.block).agreed = x.agreed
          ∧ counted s t (R.RAU_REPLAY_CNT e.die) 1 ∧ rb t (R.RAU_FLAGS e.die) F.RAU_FLAGS_replay = true ∧ MemSame s t)))
    ∧ (x.replaying = true →
      (goodSnapshot s e x.agreed = none → Completes (.blockReplayDone b none) s (fun t =>
        (blk t e.block).replaying = false ∧ e.block ∈ t.recov.lostBlocks ∧ counted s t (R.RAU_ROLLBACK_CNT e.die) 1
        ∧ rb t (R.RAU_FLAGS e.die) F.RAU_FLAGS_rollback = true))
      ∧ (∀ k, goodSnapshot s e x.agreed = some (k, x.agreed) →
          (∃ d ∈ otherHolders s e, x.digests.find? (fun y => y.1 = x.agreed && y.2.1 = d) = none) →
        let size := stateSize (denseOpt s e.opt) e.nElem
        Completes (.blockReplayDone b none) s (fun t =>
          (blk t e.block).replaying = false ∧ (blk t e.block).replayed = true
          ∧ bytesAt t (regionAddr s e) size = bytesAt s (snapAddr s e k) size ∧ MemSameOutside (regionAddr s e) size s t)))
    ∧ (∀ r, actsPrimary s e = true → s.rau.regather.contains e.block = false → resultOf s x.gathered = some r → x.gathered < x.agreed →
      (r.record.vote = true → Completes (.allGather b) s (fun t =>
        (blk t e.block).gathered = x.gathered + 1 ∧ (∀ d g, Out.message d (.param g) ∈ t.out → Out.message d (.param g) ∈ s.out) ∧ MemSame s t))
      ∧ (r.record.vote = false → (e.fmt = 8 ∨ s.scl.pubs.any (fun p => p.1 = x.gathered + 1) = true) → e.nElem ≤ 2 ^ 19 → 0 < e.nElem →
        let p := paramCodes s e x.gathered
        p.1.length ≤ 2 ^ 19 → p.1 ≠ [] →
        Completes (.allGather b) s (fun t =>
          (blk t e.block).gathered = x.gathered + 1 ∧ MemSame s t
          ∧ ∀ d ∈ contributors s e, isLost s d = false → ∃ sc, Out.message d (.param ⟨selfId s, e.block, x.gathered, 0, p.1, sc, e.fmt,
              ofSigned 8 p.2.2, true⟩) ∈ t.out)))
    ∧ (∀ (m : GradMsg), m.block = b → gradWaits s (.grad m) = false → isHolder s e = true → x.ready ≤ m.step →
      (m.skip = true → Completes (.grad m) s (fun t =>
        (blk t e.block).ready = m.step + 1 ∧ m.step ∈ (blk t e.block).skips ∧ MemSame s t))
      ∧ (m.skip = false → Completes (.grad m) s (fun t =>
        (∀ i, i < m.elems.length → numAt t (logAddr s e m.step + 4 * (m.offset + i)) 4 = (m.elems.getD i 0).toNat)
        ∧ MemSameOutside (logAddr s e m.step + 4 * m.offset) (4 * m.elems.length) s t
        ∧ (m.last = true → e.nElem ≤ ((x.grads ++ [(m.offset, m.elems)]).map (fun g => g.2.length)).sum → (blk t e.block).ready = m.step + 1)
        ∧ (m.last = false → (blk t e.block).ready = x.ready))))
    ∧ (∀ (m : ParamMsg), m.block = b →
      ((paramEntries s).filter (fun y => y.1 = m.block) = [] → m.last = true → Completes (.param m) s (fun t =>
        counted s t (R.RAU_UNMAPPED_CNT e.die) 1 ∧ t.rau = s.rau ∧ MemSame s t))
      ∧ (∀ y ∈ paramEntries s, y.1 = m.block → mayPlace s m = false → Completes (.param m) s (fun t =>
        t.rau = { s.rau with paramHeld := s.rau.paramHeld ++ [m] } ∧ MemSame s t ∧ t.seq = s.seq))
      ∧ (∀ frond bit addr, (paramEntries s).filter (fun y => y.1 = m.block) = [(m.block, 0, frond, bit, addr)] → m.codes.length < e.nElem →
          mayPlace s m = true →
          (s.rau.paramGot.find? (fun g => g.1 = m.block && g.2.1 = m.step)) = none → Completes (.param m) s (fun t =>
        (∀ i, i < m.codes.length → numAt t (storeBase frond + (addr + 2 * m.offset) + 2 * i) 2
          = widenCode m.fmt (toSigned 8 m.e) (m.scales.getD (i / 32) 0) (m.codes.getD i 0) % 2 ^ 16)
        ∧ MemSameOutside (storeBase frond + (addr + 2 * m.offset)) (2 * m.codes.length) s t
        ∧ (m.block, m.step, m.codes.length) ∈ t.rau.paramGot ∧ t.seq = s.seq))))
  ∧ (∀ (s : State) (b : Nat), blockEntry s b = none →
      exec (.blockApply b) s = .next s ∧ exec (.allGather b) s = .next s ∧ ∀ copy, exec (.digestComputeDone ⟨b, copy⟩) s = .next s)

/-- R464, R466 to R468, R481, R483, R485 to R487, R490, R491, R493. -/
def Obligations.FramesAreDeliveredForwardedOrReplayed : Prop :=
  open Sys2Proof Machine in
  (∀ (s : State) (x : Rx), x.port < 24 → s.shk.ports.length = 24 →
    let p := x.port
    let die := p / 12
    let counted (a t : State) (r k : Nat) : Prop := (reg a r).toNat + k < 2 ^ 64 → (reg t r).toNat = (reg a r).toNat + k
    let sequenced (c : Instr) (f : Frame) : Prop :=
      (∃ h b, c = .data x h b ∧ f = .data h b) ∨ (∃ h code vc m k, c = .error x h code vc m k ∧ f = .error h code vc m k)
        ∨ (∃ h vc n, c = .e2eAck x h vc n ∧ f = .e2eAck h vc n)
    let accepted (a : State) (f : Frame) : Prop := intact x f = true ∧ portUp a p = true ∧ x.num = (portOf a p).accepted
    (∀ c f, sequenced c f →
      let a := rxFrame s x f
      let q := portOf a p
      (x.num ≠ q.accepted ∨ (portUp a p = false ∧ portState a p ≠ 6) → exec c s = .next a)
      ∧ (portState a p = 6 → x.num = q.accepted → Completes c s (fun t =>
          (portOf t p).accepted = q.accepted ∧ (portOf t p).discarding = true ∧ t = { a with shk := t.shk }
          ∧ t.shk.inFlows = a.shk.inFlows ∧ t.shk.outFlows = a.shk.outFlows))
      ∧ (portUp a p = true → x.num = q.accepted → intact x f = false → Completes c s (fun t =>
          t.out.head? = some (.frame p (.linkCtl true false 0 (q.accepted % 2 ^ 32) (q.accepted % 2 ^ 32) (q.ownFreed.map (· % 65536))))
          ∧ (portOf t p).accepted = q.accepted ∧ (portOf t p).discarding = true ∧ t.shk.inFlows = a.shk.inFlows
          ∧ t.shk.outFlows = a.shk.outFlows ∧ MemSame a t)))
    ∧ (∀ (h : Hdr) (b : List Byte),
      let a := rxFrame s x (.data h b)
      accepted a (.data h b) → a.shk.blocked = [] →
      (h.dst = selfId a →
        let f := flowIn a h.src h.vc
        let full : Bool := f.landing.any Landing.whole
        let open_ : Prop := full = false ∧ h.msgSeq = f.expected ∧ (h.vc = 3 ∨ (imageActive a = true ∧ tagsOk a h = true))
        let refused (t : State) : Prop := (flowIn t h.src h.vc).refused = some (h.msgSeq, h.epochTag, h.digestTag)
          ∧ (flowIn t h.src h.vc).landing = none ∧ (flowIn t h.src h.vc).expected = f.expected
        (h.msgSeq ≠ f.expected → full = false ∨ h.msgSeq ≠ (f.expected + 1) % 1024 → Completes (.data x h b) s (fun t =>
          counted a t (R.SHK_OUTSEQ_CNT die) 1 ∧ t.shk.inFlows = a.shk.inFlows ∧ (portOf t p).accepted = (portOf a p).accepted + 1 ∧ MemSame a t))
        ∧ (full = true → h.msgSeq = (f.expected + 1) % 1024 → Completes (.data x h b) s (fun t =>
          t.shk.blocked = [⟨p, h, b⟩] ∧ t.shk.inFlows = a.shk.inFlows ∧ MemSame a t))
        ∧ (full = false → h.msgSeq = f.expected → h.vc ≠ 3 → imageActive a = false → Completes (.data x h b) s refused)
        ∧ (full = false → h.msgSeq = f.expected → h.vc ≠ 3 → imageActive a = true → tagsOk a h = false → Completes (.data x h b) s (fun t =>
          refused t ∧ counted a t R.THL_REFUSED_CNT 1 ∧ (reg t R.THL_MISMATCH_PORTS).toNat.testBit 24 = true))
        ∧ (open_ → h.index = 0 → prefixOk h.vc b = true → prefixLen b ≤ 240 → unitOk h.vc (b.take (prefixLen b)) = true →
            unitTakes a h.vc b = true → landingUse (setFlowIn a { f with landing := none }) die h.vc + prefixLen b ≤ 0x40_0000 →
          Completes (.data x h b) s (fun t =>
            Out.delivered h.src h.vc (b.take (prefixLen b)) ∈ t.out ∧ (flowIn t h.src h.vc).expected = (f.expected + 1) % 1024
            ∧ (flowIn t h.src h.vc).landing = none ∧ MemSame a t))
        ∧ (open_ → h.index = 0 → prefixOk h.vc b = true → 240 < prefixLen b ∨ unitTakes a h.vc b = false →
            landingUse (setFlowIn a { f with landing := none }) die h.vc + prefixLen b ≤ 0x40_0000 →
          Completes (.data x h b) s (fun t =>
            (flowIn t h.src h.vc).landing = some ⟨h.msgSeq, 1, b, a.ft, die⟩ ∧ (flowIn t h.src h.vc).expected = f.expected ∧ MemSame a t))
        ∧ (open_ → h.index = 0 → prefixOk h.vc b = true →
            0x40_0000 < landingUse (setFlowIn a { f with landing := none }) die h.vc + prefixLen b →
          Completes (.data x h b) s (fun t => t.shk.blocked = [⟨p, h, b⟩] ∧ t.shk.inFlows = a.shk.inFlows ∧ MemSame a t))
        ∧ (∀ l, open_ → f.landing = some l → l.frames = h.index → h.index ≠ 0 → 240 * (l.frames + 1) < prefixLen (l.bytes ++ b) →
          Completes (.data x h b) s (fun t =>
            (flowIn t h.src h.vc).landing = some ⟨l.seq, l.frames + 1, l.bytes ++ b, a.ft, l.die⟩ ∧ (flowIn t h.src h.vc).expected = f.expected
            ∧ MemSame a t)))
      ∧ (h.dst ≠ selfId a → h.plane < 4 →
        (48 < h.hops + 1 → Completes (.data x h b) s (fun t =>
          counted a t (R.SHK_BADFRAME_CNT die) 1 ∧ t.shk.inFlows = a.shk.inFlows ∧ MemSame a t))
        ∧ (∀ hop r, h.hops + 1 ≤ 48 → transitPort a h = some (hop, r) → Completes (.data x h b) s (fun t =>
            let g : Frame := .data { h with hops := h.hops + 1, dateline := leaveDateline a p h hop } b
            (Out.frame r g ∈ t.out ∨ ∃ e ∈ (portOf t r).queue, e.frame = g) ∧ t.shk.inFlows = a.shk.inFlows ∧ MemSame a t))
        ∧ (h.hops + 1 ≤ 48 → transitPort a h = none → Completes (.data x h b) s (fun t =>
            rb t (R.SHK_FLAGS die) F.SHK_FLAGS_noroute = true ∧ t.shk.inFlows = a.shk.inFlows))))
    ∧ (∀ (h : Hdr) (code vc m : Nat) (k : Hdr),
      let a := rxFrame s x (.error h code vc m k)
      accepted a (.error h code vc m k) → h.dst = selfId a →
        let f := flowOut a k.dst vc
        (code ≠ 1 → code ≠ 3 → code ≠ 5 → Completes (.error x h code vc m k) s (fun t =>
          t.shk.outFlows = a.shk.outFlows ∧ t.shk.inFlows = a.shk.inFlows ∧ MemSame a t))
        ∧ (code = 3 → Completes (.error x h code vc m k) s (fun t =>
          (k.plane, a.ft + e2eTimeout a f.die) ∈ (flowOut t k.dst vc).invalid ∧ (flowOut t k.dst vc).unacked = f.unacked))
        ∧ (∀ o, code = 1 ∨ code = 5 → f.unacked.find? (fun y => y.seq = m) = some o → f.waiting = [] → (o.epochTag, o.digestTag) ≠ activeTags a →
            NoMoveSent a → a.cmd.held = [] → f.die < 2 →
          Completes (.error x h code vc m k) s (fun t =>
            counted a t (R.SHK_STALE_CNT f.die) 1 ∧ (flowOut t k.dst vc).unacked = [] ∧ (flowOut t k.dst vc).next = m % 1024 ∧ MemSame a t)))
    ∧ (∀ (h : Hdr) (vc n : Nat) (o : OutMsg) (rest : List OutMsg) (k : Nat),
      let a := rxFrame s x (.e2eAck h vc n)
      accepted a (.e2eAck h vc n) → h.dst = selfId a →
        let f := flowOut a h.src vc
        f.unacked = o :: rest → f.waiting = [] → NoMoveSent a → a.cmd.held = [] → o.seq < 1024 → k ≤ f.unacked.length → 0 < k → k < 1024 →
        n = (o.seq + k) % 1024 →
        Completes (.e2eAck x h vc n) s (fun t =>
          (flowOut t h.src vc).unacked = f.unacked.drop k ∧ (flowOut t h.src vc).progress = a.ft ∧ MemSame a t))
    ∧ (∀ (nak : Bool) (n acked : Nat) (credits : List Nat),
      let f : Frame := .linkCtl nak false 0 acked (if nak then acked else 0) credits
      let c : Instr := .linkCtl x nak false 0 acked (if nak then acked else 0) credits
      let a := rxFrame s x f
      let q := portOf a p
      (intact x f = false → exec c s = .next a)
      ∧ (intact x f = true → q.replay.length ≤ 2048 → q.replay.length ≤ q.sent → q.poolFreed.length = 12 →
          n ≤ q.replay.length → acked = (q.sent - q.replay.length + n) % 2 ^ 32 → credits.length = 12 → (∀ c ∈ credits, c < 65536) →
        let freed (t : State) : Prop := ∀ k, k < 12 →
          (portOf t p).poolFreed.getD k 0 % 65536 = credits.getD k 0 ∧ q.poolFreed.getD k 0 ≤ (portOf t p).poolFreed.getD k 0
        (portUp a p = true → q.queue = [] → Completes c s (fun t =>
          (portOf t p).replay = q.replay.drop n ∧ freed t ∧ MemSame a t
          ∧ t.out = (if nak = true then ((q.replay.drop n).map (Out.frame p)).reverse else []) ++ a.out))
        ∧ (portState a p = 6 → Completes c s (fun t =>
          (portOf t p).replay = q.replay.drop n ∧ freed t ∧ (nak = true → (portOf t p).replayDue = some acked)
          ∧ t = { a with shk := t.shk }))))
    ∧ (intact x .reserved = false → exec (.reservedFrame x) s = .next (rxFrame s x .reserved))
    ∧ (intact x .reserved = true → Completes (.reservedFrame x) s (fun t =>
        let a := rxFrame s x .reserved
        counted a t (R.SHK_BADFRAME_CNT die) 1 ∧ t.shk = a.shk ∧ MemSame a t)))
  ∧ (∀ (s : State) (port t : Nat), exec (.idle port t) s = .next (advance t s))

/-- R462, R463, R469 to R471, R473, R477, R482, R485, R487, R490, R691. -/
def Obligations.PortsTrainListenAndResend : Prop :=
  open Sys2Proof Machine in
  (∀ (s : State) (p time : Nat), p < 24 → s.shk.ports.length = 24 →
    let a := advance time s
    let q := portOf a p
    let die := p / 12
    let lanes (n : Nat) : Nat := if n = 8 then 8 else if 6 ≤ n then 6 else if 4 ≤ n then 4 else 0
    let width (t : State) : Nat := rf t (R.SHK_PORT_LANES die (p % 12)) F.SHK_PORT_LANES_width
    let good : Nat := rf a (R.SHK_PORT_LANES die (p % 12)) F.SHK_PORT_LANES_good
    (portState a p = 0 → portEnabled a p = true → failed a = false → a.rst.released.testBit (30 + die) = true → idleAsked a (0x35 + die) = false →
      Completes (.portTrainRetry p time) s (fun t => portState t p = 1 ∧ t = { a with regs := t.regs }))
    ∧ (portState a p ≠ 0 ∨ portEnabled a p = false → exec (.portTrainRetry p time) s = .next a)
    ∧ (∀ g, g < 256 → portState a p = 1 →
      (4 ≤ laneCount g → Completes (.portTrained p g time) s (fun t =>
        portState t p = 2 ∧ width t = lanes (laneCount g) ∧ (portOf t p).goodHb = 0 ∧ (portOf t p).checkFrom = a.ft ∧ MemSame a t))
      ∧ (laneCount g < 4 → Completes (.portTrained p g time) s (fun t => portState t p = 0 ∧ width t = 0)))
    ∧ (∀ g, portState a p = 3 →
      let w := lanes (laneCount (good &&& g))
      (width a ≤ w → 0 < w → Completes (.laneFault p g time) s (fun t => portState t p = 3 ∧ width t = width a ∧ t.shk = a.shk))
      ∧ (0 < w → w < width a → Completes (.laneFault p g time) s (fun t =>
        portState t p = 6 ∧ width t = w ∧ rb t (R.SHK_FLAGS die) F.SHK_FLAGS_lane = true ∧ (portOf t p).queue = q.queue ∧ (portOf t p).replay = q.replay
        ∧ ∃ fs, Out.frame p (.linkCtl false true w (q.accepted % 2 ^ 32) 0 fs) ∈ t.out))
      ∧ (w = 0 → Completes (.laneFault p g time) s (fun t =>
        portState t p = 0 ∧ width t = 0 ∧ rb t (R.SHK_FLAGS die) F.SHK_FLAGS_down = true ∧ (portOf t p).queue = [])))
    ∧ (portState a p = 6 → Completes (.retrainDone p time) s (fun t => portState t p = 3 ∧ width t = width a ∧ MemSame a t
        ∧ (q.discarding = true → ∃ fs, Out.frame p (.linkCtl true false 0 (q.accepted % 2 ^ 32) (q.accepted % 2 ^ 32) fs) ∈ t.out)
        ∧ (∀ n, q.replayDue = some n → q.replay.length ≤ q.sent → n = (q.sent - q.replay.length) % 2 ^ 32 →
            ∀ f ∈ q.replay, Out.frame p f ∈ t.out)))
    ∧ (portState a p ≠ 6 → exec (.retrainDone p time) s = .next a)
    ∧ (failed a = false → Completes (.heartbeatSend time) s (fun t =>
        (2 ≤ portState a p → ∃ b, Out.frame p (.heartbeat b) ∈ t.out ∧ b.device = selfId a ∧ b.tTx = a.ft ∧ b.tRxLast = q.tRxLast ∧ b.tTxEcho = q.tTxEcho
          ∧ b.epoch = rf a R.THL_EPOCH F.THL_EPOCH_epoch ∧ b.digest = (reg a (R.THL_ACTIVE_DIGEST 0)).toNat ∧ b.port = 16 * die + p % 12)
        ∧ (portState a p < 2 → ∀ b, Out.frame p (.heartbeat b) ∈ t.out → Out.frame p (.heartbeat b) ∈ a.out) ∧ MemSame a t))
    ∧ (portUp a p = true → Completes (.linkCtlSend p time) s (fun t =>
        t.out = .frame p (.linkCtl false false 0 (q.accepted % 2 ^ 32) 0 (q.ownFreed.map (· % 65536))) :: a.out ∧ (portOf t p).sinceCtl = 0 ∧ MemSame a t))
    ∧ (portUp a p = false → exec (.linkCtlSend p time) s = .next a)
    ∧ (2 ≤ portState a p → heardAt q + 262144 ≤ a.ft →
        (∃ r, r < 24 ∧ (wiredTo a r).1 = (wiredTo a p).1 ∧ portSilent a r = false) →
      Completes (.heartbeatSilence p time) s (fun t => portState t p = 0 ∧ t.recov.notices = a.recov.notices ∧ t.recov.lost = a.recov.lost
        ∧ ((reg a (R.SHK_PORT_HB_MISS die (p % 12))).toNat + 64 < 2 ^ 64 →
          (reg t (R.SHK_PORT_HB_MISS die (p % 12))).toNat = (reg a (R.SHK_PORT_HB_MISS die (p % 12))).toNat + 64)))
    ∧ (a.ft < heardAt q + 262144 → exec (.heartbeatSilence p time) s = .next a))
  ∧ (∀ (s : State) (x : Rx) (b : Heartbeat), x.port < 24 → s.shk.ports.length = 24 →
    let a := rxFrame s x (.heartbeat b)
    let p := x.port
    (intact x (.heartbeat b) = false ∨ failed a = true ∨ portState a p < 2 → exec (.heartbeat x b) s = .next a)
    ∧ (intact x (.heartbeat b) = true → failed a = false → 2 ≤ portState a p → b.device < 2 ^ 14 →
      ((b.device, b.port) ≠ wiredTo a p → Completes (.heartbeat x b) s (fun t =>
        portState t p = 4 ∧ rf t (R.SHK_PORT_STATUS (p / 12) (p % 12)) F.SHK_PORT_STATUS_nbr_device = b.device
        ∧ (portState a p ≠ 4 → rb t (R.SHK_FLAGS (p / 12)) F.SHK_FLAGS_miswire = true)))
      ∧ ((b.device, b.port) = wiredTo a p → (∀ n ∈ a.recov.notices, n.subject = b.device → n.origin ≠ selfId a) →
        (hbConfigOk a b = false → Completes (.heartbeat x b) s (fun t =>
          portState t p = 5 ∧ (reg t R.THL_MISMATCH_PORTS).toNat.testBit p = true ∧ (portOf t p).goodHb = 0))
        ∧ (hbConfigOk a b = true → portState a p = 2 → (portOf a p).goodHb < 3 → Completes (.heartbeat x b) s (fun t =>
          portState t p = 2 ∧ (portOf t p).goodHb = (portOf a p).goodHb + 1))
        ∧ (hbConfigOk a b = true → portState a p = 2 → 3 ≤ (portOf a p).goodHb → Completes (.heartbeat x b) s (fun t => portState t p = 3))
        ∧ (hbConfigOk a b = true → portState a p = 4 ∨ portState a p = 5 → Completes (.heartbeat x b) s (fun t => portState t p = 2)))))
  ∧ (∀ (s : State) (d vc time : Nat),
    let a := advance time s
    let f := flowOut a d vc
    (f.unacked = [] ∨ a.ft < f.progress + e2eTimeout a f.die → exec (.e2eTimeout d vc time) s = .next a)
    ∧ (∀ p hop r, f.unacked ≠ [] → f.progress + e2eTimeout a f.die ≤ a.ft → choosePlane a f = some p →
        outPort a (flowRoute a d vc) p (selfId a) d = some (hop, r) →
      Completes (.e2eTimeout d vc time) s (fun t =>
        (flowOut t d vc).plane = p ∧ (flowOut t d vc).progress = a.ft ∧ (flowOut t d vc).unacked = f.unacked ∧ MemSame a t
        ∧ ((reg a (R.SHK_RESEND_CNT (r / 12))).toNat + f.unacked.length < 2 ^ 64 →
          (reg t (R.SHK_RESEND_CNT (r / 12))).toNat = (reg a (R.SHK_RESEND_CNT (r / 12))).toNat + f.unacked.length)))
    ∧ ((∃ p ∈ planeOrder (selfId a) d, planeValid a f p = true ∧ ∀ i ∈ f.invalid, i.1 ≠ p) →
      Completes (.planeInvalidExpiry d vc time) s (fun t =>
        (flowOut t d vc).invalid = f.invalid.filter (fun i => decide (a.ft < i.2)) ∧ (flowOut t d vc).unacked = f.unacked ∧ t.out = a.out ∧ t.regs = a.regs))
    ∧ (∀ l, (flowIn a d vc).landing = some l → a.shk.blocked = [] →
      (l.whole = false → l.last + e2eTimeout a l.die ≤ a.ft → Completes (.landingTimeout d vc time) s (fun t =>
        (flowIn t d vc).landing = none ∧ (flowIn t d vc).expected = (flowIn a d vc).expected ∧ t = { a with shk := t.shk }))
      ∧ (l.whole = true ∨ a.ft < l.last + e2eTimeout a l.die → exec (.landingTimeout d vc time) s = .next a))
    ∧ ((flowIn a d vc).sinceAck = 0 → exec (.e2eAckSend d vc time) s = .next a)
    ∧ (∀ p hop r, 0 < (flowIn a d vc).sinceAck → a.shk.ports.length = 24 → d ≠ selfId a → choosePlane a { dst := d, vc := 3 } = some p →
        outPort a a.shk.route p (selfId a) d = some (hop, r) →
      Completes (.e2eAckSend d vc time) s (fun t => (flowIn t d vc).sinceAck = 0 ∧ (flowIn t d vc).expected = (flowIn a d vc).expected ∧ MemSame a t
        ∧ ∃ h : Hdr, h.dst = d ∧ h.src = selfId a ∧ (Out.frame r (.e2eAck h vc (flowIn a d vc).expected) ∈ t.out
            ∨ ∃ e ∈ (portOf t r).queue, e.frame = .e2eAck h vc (flowIn a d vc).expected))))

/-- R499, R501 to R506, R516, R517. -/
def Obligations.NoticesAreHeldFloodedAndCounted : Prop :=
  open Sys2Proof Machine in
  (∀ (s : State) (m : Notice) (kind : Nat) (c : Instr), (c, kind) ∈ [(.silent m, 1), (.heard m, 2), (.lost m, 3)] →
    let n : Notice := { m with kind := kind }
    let held : Bool := s.recov.notices.any (fun x => x.kind = kind && x.origin = n.origin && x.subject = n.subject && x.time = n.time)
    (failed s = true ∨ held = true → exec c s = .next s)
    ∧ (failed s = false → held = false → s.recov.open_ = none → kind ≠ 3 → n.subject ≠ selfId s → isLost s n.subject = false →
        (∀ x ∈ s.recov.notices ++ [n], x.subject ≠ selfId s → isLost s x.subject = false →
          declTime { s with recov := { s.recov with notices := s.recov.notices ++ [n] } } x.subject = none) →
      Completes c s (fun t =>
        t.recov.notices = s.recov.notices ++ [n] ∧ t.recov.lost = s.recov.lost ∧ MemSame s t
        ∧ ∀ p, p < 24 → portUp s p = true → Out.message (wiredTo s p).1 (.notice n) ∈ t.out))
    ∧ (failed s = false → held = false → s.recov.open_ = none → n.subject ≠ selfId s → lostCommitted s n.subject = true →
        (∀ x ∈ s.recov.notices, x.subject = selfId s ∨ isLost s x.subject = true) →
      Completes c s (fun t =>
        t.recov.notices = s.recov.notices ++ [n] ∧ t.recov.lost = s.recov.lost ∧ rb t R.DEV_REC_FLAGS F.DEV_REC_FLAGS_late = true
        ∧ ((reg s R.DEV_REC_LATE_CNT).toNat + 1 < 2 ^ 64 → (reg t R.DEV_REC_LATE_CNT).toNat = (reg s R.DEV_REC_LATE_CNT).toNat + 1)))
    ∧ (failed s = false → held = false → n.subject = selfId s → kind = 3 → Completes c s (fun t => failed t = true ∧ n ∈ t.recov.notices))
    ∧ (failed s = false → held = false → n.subject ≠ selfId s → kind = 3 → isLost s n.subject = false → n.subject < 16384 →
      Completes c s (fun t => isLost t n.subject = true ∧ n ∈ t.recov.notices
        ∧ (reg t (R.DEV_REC_LOSTMAP (n.subject / 64))).toNat.testBit (n.subject % 64) = true)))
  ∧ (∀ (s : State) (x : Rx) (d reason time : Nat), x.port < 24 →
    let a := rxFrame s x (.deviceFailed d reason time)
    let good : Bool := intact x (.deviceFailed d reason time)
    let own : Bool := a.recov.notices.any (fun n => n.kind = 3 && n.subject = d && n.origin = selfId a)
    (good = false ∨ failed a = true ∨ portState a x.port = 0 ∨ own = true → exec (.deviceFailed x d reason time) s = .next a)
    ∧ (good = true → failed a = false → portState a x.port ≠ 0 → own = false → d ≠ selfId a → Completes (.deviceFailed x d reason time) s (fun t =>
        isLost t d = true ∧ ⟨3, d, selfId a, rf a R.DEV_REC_EPOCH F.DEV_REC_EPOCH_epoch, a.ft, reason⟩ ∈ t.recov.notices)))
  ∧ (∀ (s : State) (p time t0 : Nat), p < 24 →
    let a := advance time s
    let d := (wiredTo a p).1
    let own : Bool := a.recov.notices.any (fun n => n.kind = 3 && n.subject = d && n.origin = selfId a && decide (t0 ≤ n.time))
    (portOf a p).mismatchSince = some t0 → portState a p = 5 →
    (a.ft < t0 + 262144 ∨ d ∉ neighboursOf a (selfId a) → exec (.mismatchTimeout p time) s = .next a)
    ∧ (t0 + 262144 ≤ a.ft → own = false → d ∈ neighboursOf a (selfId a) → Completes (.mismatchTimeout p time) s (fun t =>
        isLost t d = true ∧ ⟨3, d, selfId a, rf a R.DEV_REC_EPOCH F.DEV_REC_EPOCH_epoch, t0 + 262144, 0x11⟩ ∈ t.recov.notices)))
  ∧ (∀ (s : State) (time n c : Nat),
    let a := advance time s
    failed a = false → a.recov.open_ = some (n, c) →
    (a.ft < c → exec (.recoveryCommit time) s = .next a)
    ∧ (c ≤ a.ft → Completes (.recoveryCommit time) s (fun t =>
        t.recov.open_ = none ∧ t.recov.lastCommit = c ∧ (∀ l ∈ t.recov.lost, l.committed = true)
        ∧ t.recov.lost.map (·.device) = a.recov.lost.map (·.device))))

/-- R45, R46, R488, R489, R491, R506, R521 to R526. -/
def Obligations.PiecesRebuildAndPeersReachMemory : Prop :=
  open Sys2Proof Machine in
  (∀ (s : State), failed s = false →
    let me := selfId s
    let counted (t : State) (r k : Nat) : Prop := (reg s r).toNat + k < 2 ^ 64 → (reg t r).toNat = (reg s r).toNat + k
    (∀ (subject origin : Nat) (k : SlotKey) (g i : Nat) (ms : List Nat), groupOf s subject = some (g, ms, i) →
      let n := recordSize s k
      let sends (h : Nat) (slot : SlotKey) (par : Bool) (a : Nat) : Prop :=
        (rawWaits s a n = false → NoMemoryErrors s → Completes (.pieceRd subject origin k) s (fun t =>
          Out.message origin (.piece subject me k (bytesAt s a n)) ∈ t.out ∧ ⟨h, subject, origin, k, slot, par⟩ ∈ t.recov.forwards ∧ MemSame s t))
        ∧ (rawWaits s a n = true → exec (.pieceRd subject origin k) s
            = .next { s with recov := { s.recov with waitRd := s.recov.waitRd ++ [(origin, subject, k)] } })
      (∀ x, pieceRole s origin subject k = some (.parity x) → sends me { k with row := x } true (parityAddr s g k.table k.rem x))
      ∧ (∀ h q x, pieceRole s origin subject k = some (.standIn h q x) → sparedHere s h { k with row := q } true = true →
          sends h { k with row := q } true (spareAddr s g k.table k.rem x))
      ∧ (pieceRole s origin subject k = some .target → sparedHere s subject k false = true → serverOf s subject ≠ some origin →
          sends subject k false (spareAddr s g k.table k.rem (locate i k.row g).spare))
      ∧ (∀ own l, pieceRole s origin subject k = some (.data own l) →
        let key : SlotKey := { k with row := l }
        (rowThere s own key = false → Completes (.pieceRd subject origin k) s (fun t =>
          Out.message origin (.piece subject me k (List.replicate n 0)) ∈ t.out ∧ t.recov = s.recov ∧ MemSame s t))
        ∧ (rowThere s own key = true → own ≠ me → rowLost s own key = true → Completes (.pieceRd subject origin k) s (fun t =>
          Out.message origin (.stopped subject me k) ∈ t.out ∧ t.recov = s.recov ∧ MemSame s t))
        ∧ (rowThere s own key = true → (own = me ∨ rowLost s own key = false) →
            (rowGoneHere s own key = false ∨ scrubRead s origin subject k = true ∨ rowLost s own key = true) →
          (∀ u bs, pieceData s own key = (u, some bs) → Completes (.pieceRd subject origin k) s (fun t =>
            Out.message origin (.piece subject me k bs) ∈ t.out
            ∧ (scrubRead u origin subject k = false → ⟨own, subject, origin, k, key, false⟩ ∈ t.recov.forwards) ∧ MemSame u t))
          ∧ (∀ u, pieceData s own key = (u, none) → exec (.pieceRd subject origin k) s
              = .next { u with recov := { u.recov with waitRd := u.recov.waitRd ++ [(origin, subject, k)] } }))))
    ∧ (∀ (subject org : Nat) (k : SlotKey) (bs : List Byte) (r : Rebuild),
      let a : PieceAsk := (org, subject, k)
      s.recov.rebuilds.find? (fun r => r.asked.contains a && !r.received.contains a && !r.done) = some r → readsTarget s r = false →
      let r' := { r with received := r.received ++ [a], acc := xorBytes r.acc bs }
      ((∃ d ∈ r.asked, d ∉ r'.received) → Completes (.piece subject org k bs) s (fun t =>
        findRebuild t r.subject r.key r.parity = some r' ∧ counted t R.DEV_REC_PIECE_BYTES bs.length ∧ MemSame s t))
      ∧ (r.parity = true → (∀ d ∈ r.asked, d ∈ r'.received) → Completes (.piece subject org k bs) s (fun t =>
        findRebuild t r.subject r.key r.parity = some r' ∧ MemSame s t
        ∧ ∀ d ∈ r.asked, Out.message d.1 (.stop d.2.1 me d.2.2) ∈ t.out))
      ∧ (∀ p ds, r.parity = false → (∀ d ∈ r.asked, d ∈ r'.received) → dataPieces s r.subject r.key = some (p, ds) →
        Completes (.piece subject org k bs) s (fun t =>
          counted t R.DEV_REC_PIECE_BYTES bs.length ∧ MemSame s t
          ∧ (∀ d ∈ ds, d ∉ r.asked → Out.message d.1 (.pieceRd d.2.1 me d.2.2) ∈ t.out)
          ∧ ((∀ d ∈ ds, d ∈ r.asked) → ∀ d ∈ r.asked, Out.message d.1 (.stop d.2.1 me d.2.2) ∈ t.out))))
    ∧ (∀ (subject org : Nat) (d : SorediumRec),
      let a : PieceAsk := (org, subject, ⟨d.table, d.rem, d.row⟩)
      let mine (r : Rebuild) : Prop := r.parity = false ∧ a ∈ r.received ∧ r.done = false ∧ a ∉ r.stopped
      ((∃ r ∈ s.recov.rebuilds, mine r) → Completes (.fwd subject org d) s (fun t => t = { s with recov := t.recov }
          ∧ ∀ r ∈ s.recov.rebuilds, (mine r → { r with acc := xorBytes r.acc d.delta } ∈ t.recov.rebuilds) ∧ (¬mine r → r ∈ t.recov.rebuilds)))
      ∧ ((∀ r ∈ s.recov.rebuilds, ¬mine r) → s.recov.rewrites = [] →
        (sparedHere s subject a.2.2 false = false → exec (.fwd subject org d) s = .next s)
        ∧ (∀ g ms i, groupOf s subject = some (g, ms, i) → sparedHere s subject a.2.2 false = true → serverOf s subject = some org →
            NoMemoryErrors s →
          let w := spareAddr s g d.table d.rem (locate i d.row g).spare
          rawWaits s w d.delta.length = false → Completes (.fwd subject org d) s (fun t =>
            bytesAt t w d.delta.length = xorBytes (bytesAt s w d.delta.length) d.delta ∧ MemSameOutside w d.delta.length s t))))
    ∧ (∀ (subject origin : Nat) (k : SlotKey), Completes (.stop subject origin k) s (fun t =>
        (∀ f, f ∈ t.recov.forwards ↔ f ∈ s.recov.forwards ∧ ¬(f.subject = subject ∧ f.target = origin ∧ f.named = k))
        ∧ Out.message origin (.stopped subject me k) ∈ t.out ∧ MemSame s t))
    ∧ (∀ (subject org : Nat) (k : SlotKey) (r : Rebuild),
      let a : PieceAsk := (org, subject, k)
      s.recov.rebuilds.find? (fun r => r.asked.contains a && !r.done && !r.stopped.contains a) = some r → (∀ d ∈ r.asked, d ∈ r.received) →
      ((∃ d ∈ r.asked, d ∉ r.stopped ++ [a]) → Completes (.stopped subject org k) s (fun t =>
        findRebuild t r.subject r.key r.parity = some { r with stopped := r.stopped ++ [a] } ∧ t = { s with recov := t.recov }))
      ∧ (∀ g ms i, (∀ d ∈ r.asked, d ∈ r.stopped ++ [a]) → r.parity = false → r.subject ≠ me → groupOf s r.subject = some (g, ms, i) →
          (locate i r.key.row g).s = (ms.findIdx? (fun d => d = me)).getD 0 →
          spareTaken s r.key.table r.key.rem (r.key.row / (g * (g + 1)), (locate i r.key.row g).h, (locate i r.key.row g).s) = false →
          s.recov.shares = [] → NothingResumes s →
        let w := spareAddr s g r.key.table r.key.rem (locate i r.key.row g).spare
        let n := recordSize s r.key
        rangePages s * 0x1_0000 ≤ hbmBase 0 → hbmBase 0 ≤ w → w + n ≤ hbmBase 8 → 0 < n → rawWaits s w n = false →
          (∀ st, hbmStack w = some st → w + n ≤ hbmBase (st + 1)) →
        Completes (.stopped subject org k) s (fun t =>
          bytesAt t w n = (r.acc ++ List.replicate n 0).take n ∧ MemSameOutside w n s t ∧ counted t R.DEV_REC_REBUILT_CNT 1
          ∧ (r.subject, r.key, false) ∈ t.recov.spared)))
    ∧ (∀ subject origin epoch,
      ((subject, origin) ∈ s.recov.dones → exec (.done subject origin epoch) s = .next s)
      ∧ ((subject, origin) ∉ s.recov.dones → s.sor.heldReqs = [] → Completes (.done subject origin epoch) s (fun t =>
        t.recov.dones = s.recov.dones ++ [(subject, origin)] ∧ MemSame s t
        ∧ ∀ p, p < 24 → portUp s p = true → Out.message (wiredTo s p).1 (.done subject origin epoch) ∈ t.out)))
    ∧ (∀ (table : Nat) (slot : HeldSlot) (rem : Bool),
      (rf s R.DEV_REC_CTL F.DEV_REC_CTL_scrub_days = 0 ∨ s.recov.scrub.isSome = true ∨ scrubAsks s table rem slot = none →
        exec (.parityScrub table slot rem) s = .next s)
      ∧ (∀ v asks, rf s R.DEV_REC_CTL F.DEV_REC_CTL_scrub_days ≠ 0 → s.recov.scrub = none → newestVersion s table = some v → dAlias v.desc = false →
          scrubAsks s table rem slot = some asks → asks ≠ [] → holdsSlot s table rem slot = true →
        Completes (.parityScrub table slot rem) s (fun t =>
          t.recov.scrub = some ⟨table, rem, slot, asks, [], [], []⟩
          ∧ MemSame s t ∧ ∀ a ∈ asks, Out.message a.1 (.pieceRd a.2.1 me a.2.2) ∈ t.out)))
    ∧ (∀ (subject org : Nat) (k : SlotKey) (bs : List Byte) (c : Scrub) (w : Nat),
      let a : PieceAsk := (org, subject, k)
      (∀ r ∈ s.recov.rebuilds, a ∉ r.asked) → (∀ r ∈ s.recov.rewrites, a ∉ r.asked) → s.recov.scrub = some c → a ∈ c.asked → a ∉ c.received →
        (∀ d ∈ c.asked, d ∈ c.received ++ [a]) → c.held = [] → heldAddr s c.table c.rem c.slot = some w → NoMemoryErrors s →
      let n := recordSize s ⟨c.table, c.rem, 0⟩
      let want := (xorBytes c.acc bs ++ List.replicate n 0).take n
      rawWaits s w n = false → Completes (.piece subject org k bs) s (fun t =>
        t.recov.scrub = none ∧ bytesAt t w n = want ∧ MemSameOutside w n s t
        ∧ (bytesAt s w n ≠ want → counted t R.DEV_REC_SCRUB_FIX_CNT 1 ∧ rb t R.DEV_REC_FLAGS F.DEV_REC_FLAGS_scrub_fix = true)))
    ∧ (∀ (h : Hdr) (addr : Nat) (bs : List Byte),
      (∀ pl, tieredRange s addr bs.length = true → groupOf s me = none → bs ≠ [] → addr % 0x1_0000 + bs.length ≤ 0x1_0000 →
          ptePlace (pte s (addr / 0x1_0000)) = some pl → holdingMig s ⟨[(addr, bs)], s.tier.arrivals⟩ [addr / 0x1_0000] = none →
          s.tier.waitWrites = [] → s.tier.waitReads = [] → readWaits s addr bs.length = false →
        let a := placeKey pl + addr % 0x1_0000
        let e := pteAddr (addr / 0x1_0000)
        (e + 8 ≤ a ∨ a + bs.length ≤ e) →
        Completes (.memWr h addr bs) s (fun t => ∃ u, t = settle u
          ∧ bytesAt u a bs.length = bs ∧ ∀ q, (q < a ∨ a + bs.length ≤ q) → (q < e ∨ e + 8 ≤ q) → byteAt u q = byteAt s q))
      ∧ (tieredRange s addr bs.length = false →
        Completes (.memWr h addr bs) s (fun t => counted t R.HST_VIOL_CNT 1 ∧ MemSame s t)))
    ∧ (∀ (h : Hdr) (addr len : Nat), h.src ≠ me → isLost s h.src = false →
      ((len = 0 ∨ 1048576 < len) → Completes (.memRd h addr len) s (fun t => MemSame s t ∧ t.recov = s.recov ∧ t.tier = s.tier))
      ∧ (0 < len → len ≤ 1048576 → tieredRange s addr len = true →
        (readWaits s addr len = false → anyLost s addr len = false → NoMemoryErrors s →
          Completes (.memRd h addr len) s (fun t => Out.message h.src (.memCpl addr 0 h.msgSeq (tierRead s addr len)) ∈ t.out))
        ∧ (readWaits s addr len = true → exec (.memRd h addr len) s = .next (waitRead s ⟨some h, addr, len, s.tier.arrivals⟩)))
      ∧ (0 < len → len ≤ 1048576 → tieredRange s addr len = false → imageSlotRange s addr len = true →
        Completes (.memRd h addr len) s (fun t => Out.message h.src (.memCpl addr 0 h.msgSeq (bytesAt s addr len)) ∈ t.out ∧ MemSame s t))
      ∧ (0 < len → len ≤ 1048576 → tieredRange s addr len = false → imageSlotRange s addr len = false →
        Completes (.memRd h addr len) s (fun t => Out.message h.src (.memCpl addr 1 h.msgSeq []) ∈ t.out ∧ counted t R.HST_VIOL_CNT 1 ∧ MemSame s t)))
    ∧ (∀ (h : Hdr) (offset frond stride rowBytes rows : Nat) (done : Option Nat) (bs : List Byte), 0 < rowBytes → bs.length = rows * rowBytes →
        rowBytes ≤ stride * 64 →
      (cliqueOf h.src = cliqueOf me → h.src ≠ me → frond < 32 → s.seq.fronds.length = 32 → offset + rows * stride * 64 ≤ storeSize →
          (∀ b, done = some b → b < 1018) →
        Completes (.storeWr h offset frond done stride rowBytes bs) s (fun t =>
          (∀ j, j < rows → bytesAt t (storeBase frond + offset + j * stride * 64) rowBytes = (bs.drop (j * rowBytes)).take rowBytes)
          ∧ MemSameOutside (storeBase frond + offset) (rows * stride * 64) s t ∧ (∀ b, done = some b → sbBit t frond b = true) ∧ t.regs = s.regs))
      ∧ (cliqueOf h.src ≠ cliqueOf me → Completes (.storeWr h offset frond done stride rowBytes bs) s (fun t => counted t R.HST_VIOL_CNT 1 ∧ MemSame s t)))
    ∧ (∀ (h : Hdr) (addr seq : Nat) (bs : List Byte),
      (s.thl.load = none → ∀ status, exec (.memCpl h addr status seq bs) s = .next s)
      ∧ (∀ l, s.thl.load = some l → addrKind l.src = 2 → addrVal l.src / 2 ^ 48 = h.src →
          addrVal l.src % 2 ^ 48 ≤ addr → addr < addrVal l.src % 2 ^ 48 + loadNeed l.len →
        Completes (.memCpl h addr 0 seq bs) s (fun t => t = { s with thl := t.thl }
          ∧ t.thl.load = some { l with got := (addr - addrVal l.src % 2 ^ 48, bs) :: l.got })
        ∧ ∀ status, status ≠ 0 → exec (.memCpl h addr status seq bs) s = .next (failFetch s))))

/-- R48, R576 to R581, R594, R600: the twelve sources at the levels that reset the device. -/
def Obligations.DeviceResetSourcesAssert : Prop :=
  open Sys2Proof Machine in
  ∀ (s : State), s.rst.powerOn = false → bringUp s = false → s.rst.hold.getD 0 < 2 →
    let at_ (src : Nat) (c : Instr) : Prop := 2 ≤ levelOf s src → levelOf s src ≤ 4 → Completes c s (fun t => LiesInReset t src (levelOf s src))
    (∀ rail, rail < 11 → at_ 1 (.supplyReset rail))
    ∧ (∀ ns, 20 ≤ ns → s.rst.pwrOk = true → at_ 1 (.pwrOkFall ns))
    ∧ (∀ d, hasPll d = true → clockLocked s d = true → at_ 1 (.pllLockLoss d))
    ∧ (s.rst.tripped = false → at_ 8 .thermalTrip)
    ∧ (∀ n, 250 ≤ n → at_ 9 (.fabricRstN n))
    ∧ (∀ n, 25 ≤ n → at_ 2 (.perstN n))
    ∧ (hostUp s = true → at_ 3 .hotReset ∧ at_ 4 .flr ∧ at_ 5 .surpriseLinkDown)

/-- R48. -/
def Obligations.ResetsClearTheImages : Prop :=
  open Sys2Proof Machine in
  (∀ (s : State) (l : Nat), 2 ≤ l → l ≤ 4 →
    let t := deviceReset s l
    let page := (reg t R.HST_SPAGE).toNat % 2 ^ 48
    (∀ a, slotBase t 0 ≤ a → a < slotBase t 0 + 2 * 2 ^ 28 → a < page ∨ page + 0x1_0000 ≤ a →
      slotBase s 0 = slotBase t 0 → byteAt t a = 0)
    ∧ rf t R.THL_EPOCH F.THL_EPOCH_epoch = 0 ∧ imageActive t = false ∧ mayStartStep t = false)
  ∧ (∀ (s : State) (time : Nat), imageActive s = false → Completes (.stepStart time) s (fun t => t.seq = s.seq ∧ t.stepCtr = s.stepCtr))

/-- R562, R566, R576, R578, R618. -/
def Obligations.HostPortResetsComplete : Prop :=
  open Sys2Proof Machine in
  ∀ (s : State), s.rst.powerOn = false → s.rst.hold = none → s.rst.block = none → NothingResumes s → s.tier.migs = [] →
    let done (src reason : Nat) (t : State) : Prop :=
      t.rst.hold = some 1 ∧ t.hst.inReset = true ∧ t.hst.msixEn = false
      ∧ rb t R.HST_STATUS F.HST_STATUS_link_up = false ∧ rb t R.HST_STATUS F.HST_STATUS_attached = false
      ∧ rf t R.HST_ATTACH F.HST_ATTACH_nonce = 0 ∧ rb t R.WIN_CTL F.WIN_CTL_en = false ∧ rb t R.CMD_CFG F.CMD_CFG_en = false
      ∧ t.cmd.detachReason = (if attached s = true then reason else s.cmd.detachReason) ∧ (∀ k, k < 32 → rb t (R.EVG_TGT_CTL k) F.EVG_TGT_CTL_en = false)
      ∧ (∀ e ∈ t.evg.insvc, e.target = 32 ∨ 32 ≤ e.target)
      ∧ (reg t R.RST_CAUSE).toNat.testBit src = true ∧ rf t R.RST_STATUS F.RST_STATUS_last_level = 1
      ∧ t.seq = s.seq ∧ t.stepCtr = s.stepCtr ∧ t.ft = s.ft ∧ t.thl.activeSlot = s.thl.activeSlot ∧ imageActive t = imageActive s
      ∧ t.stackList = s.stackList ∧ t.rau = s.rau
    (∀ n, 25 ≤ n → levelOf s 2 = 1 → Completes (.perstN n) s (done 2 1))
    ∧ (hostUp s = true → (levelOf s 3 = 1 → Completes .hotReset s (done 3 2)) ∧ (levelOf s 4 = 1 → Completes .flr s (done 4 3))
      ∧ (levelOf s 5 = 1 → Completes .surpriseLinkDown s (done 5 4)))

/-- R577, R588, R673. -/
def Obligations.FilteredAndIgnoredResets : Prop :=
  open Sys2Proof Machine in
  ∀ (s : State) (n : Nat),
    let counted (r : Nat) (t : State) : Prop :=
      ((reg s r).toNat + 1 < 2 ^ 64 → (reg t r).toNat = (reg s r).toNat + 1) ∧ RegsSameBut (fun x => x = r) s t
      ∧ t = { s with regs := t.regs, cnt := t.cnt }
    (n < 25 → Completes (.perstN n) s (counted R.RST_FILTERED_CNT))
    ∧ (n < 250 → Completes (.fabricRstN n) s (counted R.RST_FILTERED_CNT))
    ∧ (n < 20 → Completes (.pwrOkFall n) s (fun t => t = s))
    ∧ (250 ≤ n → s.rst.powerOn = false → levelOf s 9 = 5 → Completes (.fabricRstN n) s (counted R.RST_IGNORED_CNT))
    ∧ Completes .perstNRelease s (fun t => t = { s with hst := { s.hst with perstHigh := true } })

/-- R579, R580, R589 to R591, R672, R679. -/
def Obligations.BringUpCompletes : Prop :=
  open Sys2Proof Machine in
  (∀ (s : State) (l : Nat), s.rst.hold = some l → 2 ≤ l → inRecovery s = false →
    let released (t : State) : Prop := t.rst.hold = none ∧ t.rst.powerOn = false ∧ t.rst.phase = 1 ∧ t.ft = 0
      ∧ rb t R.RST_STATUS F.RST_STATUS_sequencing = true ∧ clockLocked t 19 = true ∧ t.rst.released.testBit 19 = true
      ∧ t.mgt.fuseSensed = (if l = 4 then s.mgt.fuseSet else s.mgt.fuseSensed) ∧ MemSame s t
    (s.rst.powerOn = true → Completes .pwrOkRise s (fun t => released t ∧ t.rst.pwrOk = true))
    ∧ (s.rst.powerOn = false → s.rst.pwrOk = true → s.rst.tripped = false → ∀ time, Completes (.resetHoldExpiry time) s released))
  ∧ (∀ (s : State) (d : Nat) (x : Straps), s.rst.hold = none → s.rst.phase ≠ 0 → d < 40 →
    Completes (.pllLock d x) s (fun t => clockLocked t d = true
      ∧ (s.rst.phase = 1 → d = 20 → t.rst.released.testBit 20 = true)
      ∧ (s.rst.phase = 1 → d = 18 → clockLocked s 20 = true → clockLocked s 21 = true →
          t.rst.phase = 2 ∧ t.rst.released.testBit 18 = true ∧ t.rst.released.testBit 21 = true
          ∧ (x.pos < 2 ^ 14 → rf t R.DEV_FABRIC_ID F.DEV_FABRIC_ID_device = x.pos))))
  ∧ (∀ (s : State), bringUp s = true → s.rst.phase = 3 → (∀ f, f < 32 → rb s (R.FRD_STATUS f) F.FRD_STATUS_init_done = true) →
      (∀ n, n < 8 → rb s (R.STK_STATUS n) F.STK_STATUS_init_done = true) →
    Completes .startOk s (fun t =>
      rb t R.RST_STATUS F.RST_STATUS_start_ok = true ∧ bringUp t = false ∧ rf t R.RST_STATUS F.RST_STATUS_fail_count = 0
      ∧ t.rst.failHigh = true ∧ RegsSameBut (fun r => r = R.RST_STATUS) s t ∧ MemSame s t))
  ∧ (∀ (s : State) (time : Nat), bringUp s = true → s.rst.hold.getD 0 < 2 → 2 ≤ s.rst.startLevel → s.rst.startLevel ≤ 4 →
      rf s R.RST_STATUS F.RST_STATUS_fail_count < 4 → inRecovery s = false →
    Completes (.startTimeout time) s (fun t =>
      t.rst.hold = some s.rst.startLevel ∧ t.rst.phase = 0 ∧ t.seq = {} ∧ t.thl = {} ∧ t.ft = 0
      ∧ rf t R.RST_STATUS F.RST_STATUS_fail_count = rf s R.RST_STATUS F.RST_STATUS_fail_count + 1
      ∧ inRecovery t = decide (rf s R.RST_STATUS F.RST_STATUS_fail_count = 3)))
  ∧ (∀ (s : State), s.rst.released.testBit 17 = true → s.hst.farPerstHigh = false →
    Completes .farPerstNRelease s (fun t => t.hst = { s.hst with farPerstHigh := true } ∧ t.out = .pin .farPerst true :: s.out
      ∧ t = { s with hst := t.hst, out := t.out }))

/-- R583 to R586. -/
def Obligations.BlockResetsComplete : Prop :=
  open Sys2Proof Machine in
  (∀ (s : State) (v time : Nat), rb s R.RST_BLOCK F.RST_BLOCK_busy = false → bitOf v 31 = true →
    (blockListed (v % 256) = true → levelOf s 10 = 0 → s.rst.phase = 3 → s.rst.hold = none → s.rst.block = none →
        (v % 256 = 0x30 → s.tier.migs = []) →
      Completes (.rstBlock v time) s (fun t =>
        t.rst.block = some (v % 256) ∧ t.rst.asserted = false ∧ t.rst.blockAt = (advance time s).ft
        ∧ rb t R.RST_BLOCK F.RST_BLOCK_busy = true ∧ rb t R.RST_BLOCK F.RST_BLOCK_err = false
        ∧ rf t R.RST_QUIESCE F.RST_QUIESCE_block = v % 256 ∧ rf t R.RST_QUIESCE F.RST_QUIESCE_step = 2 ∧ t.cmd = s.cmd ∧ t.thl = s.thl))
    ∧ (blockListed (v % 256) = false → Completes (.rstBlock v time) s (fun t =>
        rb t R.RST_BLOCK F.RST_BLOCK_err = true ∧ t.rst = s.rst ∧ t.cmd = s.cmd ∧ t.seq = s.seq ∧ t.thl = s.thl)))
  ∧ (∀ (s : State) (v time : Nat), rb (advance time s) R.RST_BLOCK F.RST_BLOCK_busy = true → bitOf v 31 = true →
    Completes (.rstBlock v time) s (fun t => rb t R.RST_BLOCK F.RST_BLOCK_err = true ∧ t.rst = s.rst ∧ t.cmd = s.cmd))
  ∧ (∀ (s : State) (c time : Nat), s.rst.powerOn = false → levelOf s 11 = 0 → blockListed c = true → s.rst.phase = 3 → s.rst.hold = none → s.rst.block = none →
      (c = 0x30 → s.tier.migs = []) →
    Completes (.debugReset c time) s (fun t => t.rst.block = some c ∧ t.rst.asserted = false
      ∧ rb t R.RST_BLOCK F.RST_BLOCK_busy = false ∧ (reg t R.RST_CAUSE).toNat.testBit 11 = true ∧ t.cmd = s.cmd))
  ∧ (∀ (s : State) (c time : Nat), s.rst.block = some c → s.rst.asserted = false → c < 0x20 → s.seq.fronds.length = 32 →
    let off (t : State) : Prop := t.rst.asserted = true ∧ t.rst.block = some c ∧ rf t R.RST_QUIESCE F.RST_QUIESCE_step = 3
      ∧ (frondOf t c).slots = [{}, {}] ∧ (frondOf t c).engQ = [] ∧ (frondOf t c).eng = {} ∧ (frondOf t c).array = none
      ∧ (∀ g, g ≠ c → frondOf t g = frondOf (advance time s) g) ∧ t.cmd = s.cmd
    (blockIdle (advance time s) c = true → Completes (.quiesced time) s (fun t => off t ∧ rb t R.RST_QUIESCE F.RST_QUIESCE_timed_out = false))
    ∧ (s.rst.blockAt + Nat.max 1 (rf (advance time s) R.RST_QUIESCE F.RST_QUIESCE_timeout) * 1000 ≤ (advance time s).ft →
        (reg (advance time s) R.RST_QTIMEOUT_CNT).toNat + 1 < 2 ^ 64 →
      Completes (.quiesceTimeout time) s (fun t => off t ∧ rb t R.RST_QUIESCE F.RST_QUIESCE_timed_out = true
        ∧ rb t R.RST_FLAGS F.RST_FLAGS_qtimeout = true
        ∧ (reg t R.RST_QTIMEOUT_CNT).toNat = (reg (advance time s) R.RST_QTIMEOUT_CNT).toNat + 1)))
  ∧ (∀ (s : State) (c time : Nat), s.rst.hold = none → s.rst.block = some c → s.rst.asserted = true →
    Completes (.resetHoldExpiry time) s (fun t => t.rst.block = none ∧ t.rst.asserted = false
      ∧ rb t R.RST_BLOCK F.RST_BLOCK_busy = false ∧ rb t R.RST_STATUS F.RST_STATUS_block_busy = false
      ∧ (c < 0x20 ∨ (0x28 ≤ c ∧ c < 0x30) ∨ c = 0x32 → t.cmd = s.cmd)))

/-- R595 to R597. -/
def Obligations.SupplyDipsComplete : Prop :=
  open Sys2Proof Machine in
  ∀ (s : State) (quads mv time : Nat),
    let same (t : State) : Prop := t.cmd = s.cmd ∧ t.seq = s.seq ∧ t.thl = s.thl ∧ t.stackList = s.stackList
    (0 < quads → quads < 16 → mv < 655 → 1 ≤ s.rst.phase → (reg s R.RST_DROOP_CNT).toNat + 1 < 2 ^ 64 →
      Completes (.droopTrip quads mv) s (fun t =>
        (∀ q, q < 4 → t.rst.halved.testBit q = (s.rst.halved.testBit q || quads.testBit q))
        ∧ t.rst.noc = (if (setBitsOf 4 quads).length < 2 then s.rst.noc else s.rst.noc ||| quads)
        ∧ (reg t R.RST_DROOP_CNT).toNat = (reg s R.RST_DROOP_CNT).toNat + 1 ∧ rf t R.RST_SUPPLY F.RST_SUPPLY_mv = mv
        ∧ rf t R.RST_SUPPLY F.RST_SUPPLY_min_mv = Nat.min (rf s R.RST_SUPPLY F.RST_SUPPLY_min_mv) mv
        ∧ rb t R.RST_STATUS F.RST_STATUS_droop = true ∧ rb t R.RST_FLAGS F.RST_FLAGS_droop = true ∧ t.mem = s.mem ∧ same t))
    ∧ (655 ≤ mv → mv < 65536 → quads < 16 → s.rst.halved < 16 → s.rst.noc < 16 → Completes (.droopRecover quads mv) s (fun t =>
        (∀ q, t.rst.halved.testBit q = (s.rst.halved.testBit q && !quads.testBit q))
        ∧ (rb t R.RST_STATUS F.RST_STATUS_droop = true ↔ (t.rst.halved ≠ 0 ∨ t.rst.noc ≠ 0)) ∧ t.mem = s.mem ∧ same t))
    ∧ (pausedNow s = false → s.rst.halved ≠ 0 → (reg s R.RST_PAUSE_CNT).toNat + 1 < 2 ^ 64 → Completes (.droopPause time) s (fun t =>
        pausedNow t = true ∧ rb t R.RST_FLAGS F.RST_FLAGS_pause = true
        ∧ (reg t R.RST_PAUSE_CNT).toNat = (reg s R.RST_PAUSE_CNT).toNat + 1 ∧ t.rst.pauseSince = (advance time s).ft ∧ same t))
    ∧ (pausedNow s = true → s.rst.halved = 0 → (reg s R.RST_PAUSE_TIME).toNat + (advance time s).ft < 2 ^ 64 → Completes (.pauseEnd time) s (fun t =>
        pausedNow t = false
        ∧ (reg t R.RST_PAUSE_TIME).toNat = (reg s R.RST_PAUSE_TIME).toNat + ((advance time s).ft - s.rst.pauseSince) ∧ same t))

/-- R598 to R600, R677, R678. -/
def Obligations.PowerAndHeatRowsComplete : Prop :=
  open Sys2Proof Machine in
  ∀ (s : State) (time : Nat),
    let same (t : State) : Prop := t.cmd = s.cmd ∧ t.seq = s.seq ∧ t.thl = s.thl ∧ t.stackList = s.stackList
    let s1 := countThrottle (advance time s)
    (∀ w, w < 2 ^ 32 → (∀ x ∈ s.rst.samples, x < 2 ^ 32) → s.rst.samples.length ≤ 100 → Completes (.powerSample w time) s (fun t =>
        t.rst.samples = w :: s.rst.samples.take 99 ∧ rf t R.RST_PWR F.RST_PWR_mean = t.rst.samples.sum / t.rst.samples.length
        ∧ rf t R.RST_PWR F.RST_PWR_mean ≤ rf t R.RST_PWR F.RST_PWR_peak ∧ rf s R.RST_PWR F.RST_PWR_peak ≤ rf t R.RST_PWR F.RST_PWR_peak
        ∧ same t))
    ∧ (throttleAsked s1 = true → Completes (.throttleStep time) s (fun t => same t
        ∧ throttleNow t = (if throttleNow s < 16 ∧ s1.rst.stepAt + 10000 ≤ s1.ft then throttleNow s + 1 else throttleNow s)
        ∧ (overCap s1 = true → rb t R.RST_FLAGS F.RST_FLAGS_pwr = true)))
    ∧ (throttleAsked s1 = false → Completes (.throttleStep time) s (fun t => same t
        ∧ throttleNow t = (match s1.rst.belowSince with
          | some b => if 0 < throttleNow s ∧ b + 100000 ≤ s1.ft ∧ s1.rst.stepAt + 100000 ≤ s1.ft then throttleNow s - 1 else throttleNow s
          | none => throttleNow s)))
    ∧ (∀ junction drams, junction < 256 → (∀ d ∈ drams, d < 256) → Completes (.thermalSense junction drams time) s (fun t => same t
        ∧ rf t R.RST_THERM F.RST_THERM_junction = junction ∧ junction ≤ rf t R.RST_THERM F.RST_THERM_max_seen
        ∧ (∀ d ∈ drams, d ≤ rf t R.RST_THERM F.RST_THERM_dram)
        ∧ (100 ≤ junction → t.rst.hot = true ∧ (s.rst.hot = false → rb t R.RST_FLAGS F.RST_FLAGS_therm = true))
        ∧ (junction < 95 → t.rst.hot = false)
        ∧ (junction < 95 → (∀ d ∈ drams, d < 95) → t.rst.tripped = false)))
    ∧ Completes .vrHotN s (fun t => t.rst.vrHot = true ∧ throttleAsked t = true ∧ rb t R.RST_FLAGS F.RST_FLAGS_therm = true ∧ same t)
    ∧ Completes .vrHotNRelease s (fun t => t = { s with rst := { s.rst with vrHot := false } })

/-- R608, R609. -/
def Obligations.EventClaimsComplete : Prop :=
  open Sys2Proof Machine in
  ∀ (s : State) (tg : Nat), tg < 33 →
    (∀ src, evgBest s tg = some src →
      evgDeliverable s tg src = true ∧ (∀ x, evgDeliverable s tg x = true → x < 320 → evgPrio s x < evgPrio s src ∨ (evgPrio s x = evgPrio s src ∧ src ≤ x))
      ∧ Completes (.evgClaim tg) s (fun t =>
        t.out = .readData (.value src) :: s.out ∧ evgPend t src = false ∧ t.evg.insvc = s.evg.insvc ++ [⟨tg, src, evgPrio s src⟩]
        ∧ rf t (R.EVG_TGT_LEVEL tg) F.EVG_TGT_LEVEL_signalled = 0
        ∧ (∀ x, x < 320 → x ≠ src → evgPend t x = evgPend s x)
        ∧ t = { s with regs := t.regs, evg := t.evg, out := t.out }))
    ∧ (evgBest s tg = none →
      (∀ x, x < 320 → evgDeliverable s tg x = false)
      ∧ Completes (.evgClaim tg) s (fun t =>
        t.out = .readData (.value 0x1FF) :: s.out ∧ rf t (R.EVG_TGT_LEVEL tg) F.EVG_TGT_LEVEL_signalled = 0
        ∧ RegsSameBut (fun r => r = R.EVG_TGT_LEVEL tg) s t ∧ t = { s with regs := t.regs, out := t.out }))

/-- R610. -/
def Obligations.EventCompletionEndsService : Prop :=
  open Sys2Proof Machine in
  ∀ (s : State) (tg src : Nat), tg < 33 → src < 512 →
    (inService s src tg = true → Completes (.evgComplete tg src) s (fun t =>
      inService t src tg = false ∧ t.evg.insvc = s.evg.insvc.filter (fun e => !(e.source = src && e.target = tg))
      ∧ t.mem = s.mem ∧ t.cmd = s.cmd ∧ t.seq = s.seq ∧ t.thl = s.thl))
    ∧ (inService s src tg = false → Completes (.evgComplete tg src) s (fun t =>
      rf t R.EVG_ERR F.EVG_ERR_code = 1 ∧ rf t R.EVG_ERR F.EVG_ERR_source = src
      ∧ RegsSameBut (fun r => r = R.EVG_ERR) s t ∧ t = { s with regs := t.regs }))

/-- R603, R615, R616. -/
def Obligations.PendingAndHoldWritesComplete : Prop :=
  open Sys2Proof Machine in
  (∀ (s : State) (w v : Nat), w < 10 → v < 2 ^ 32 →
    Completes (.evgPend w v) s (fun t =>
      (∀ b, b < 32 → 32 * w + b ≠ 149 ∨ v.testBit b = true → evgPend t (32 * w + b) = v.testBit b) ∧ (∀ x, x < 320 → x / 32 ≠ w → x ≠ 149 → evgPend t x = evgPend s x)
      ∧ t.mem = s.mem ∧ t.cmd = s.cmd ∧ t.seq = s.seq ∧ t.evg.insvc = s.evg.insvc))
  ∧ (∀ (s : State), rb s R.EVG_CTL F.EVG_CTL_hold = false →
    Completes (.hold 1) s (fun t => rb t R.EVG_CTL F.EVG_CTL_hold = true ∧ t.evg = { s.evg with holdSince := s.ft }
      ∧ RegsSameBut (fun r => r = R.EVG_CTL) s t ∧ t = { s with regs := t.regs, evg := t.evg }
      ∧ (∀ src, evgFire t src = { t with evg := { t.evg with latched := t.evg.latched ++ [src] } })))
  ∧ (∀ (s : State), rb s R.EVG_CTL F.EVG_CTL_hold = true →
    let done (t : State) : Prop := rb t R.EVG_CTL F.EVG_CTL_hold = false ∧ t.evg.latched = []
      ∧ (∀ src ∈ s.evg.latched, src < 320 → evgPend t src = true) ∧ t.mem = s.mem ∧ t.cmd = s.cmd
    Completes (.hold 0) s done
    ∧ (∀ time, s.evg.holdSince + 10000 ≤ (advance time s).ft → Completes (.holdExpiry time) s (fun t =>
        rb t R.EVG_CTL F.EVG_CTL_hold = false ∧ t.evg.latched = [] ∧ rb t R.EVG_CTL F.EVG_CTL_hold_exp = true ∧ t.cmd = s.cmd))
    ∧ (∀ time, (advance time s).ft < s.evg.holdSince + 10000 → Completes (.holdExpiry time) s (fun t => t = advance time s)))

/-- R613, R614. -/
def Obligations.ModerationAndPinsComplete : Prop :=
  open Sys2Proof Machine in
  (∀ (s : State) (tg time src : Nat), tg < 33 → s.evg.delayed.contains tg = true → evgIntervalOver (advance time s) tg = true →
      evgBest (advance time s) tg = some src →
      rf (advance time s) (R.EVG_TGT_LEVEL tg) F.EVG_TGT_LEVEL_signalled < evgPrio (advance time s) src →
      (reg (advance time s) R.EVG_MSG_CNT).toNat + 1 < 2 ^ 64 →
    Completes (.moderationExpiry tg time) s (fun t =>
      t.evg.delayed.contains tg = false ∧ rf t (R.EVG_TGT_LEVEL tg) F.EVG_TGT_LEVEL_signalled = evgPrio (advance time s) src
      ∧ (reg t R.EVG_MSG_CNT).toNat = (reg (advance time s) R.EVG_MSG_CNT).toNat + 1 ∧ t.cmd = s.cmd ∧ t.ft = (advance time s).ft))
  ∧ (∀ (s : State) (i n : Nat), i < 8 →
    (pinFilter s i ≤ n → rb s (R.EVG_PIN_CFG i) F.EVG_PIN_CFG_state = false → rb s R.EVG_CTL F.EVG_CTL_hold = false →
      Completes (.eventIn i n) s (fun t =>
        rb t (R.EVG_PIN_CFG i) F.EVG_PIN_CFG_state = true ∧ evgPend t (160 + i) = true ∧ t.mem = s.mem ∧ t.cmd = s.cmd))
    ∧ (n < pinFilter s i → (reg s R.EVG_FILTERED_CNT).toNat + 1 < 2 ^ 64 →
      Completes (.eventIn i n) s (fun t =>
        (reg t R.EVG_FILTERED_CNT).toNat = (reg s R.EVG_FILTERED_CNT).toNat + 1
        ∧ RegsSameBut (fun r => r = R.EVG_FILTERED_CNT) s t ∧ t = { s with regs := t.regs, cnt := t.cnt }))
    ∧ (pinFilter s i ≤ n →
      Completes (.eventInRelease i n) s (fun t =>
        rb t (R.EVG_PIN_CFG i) F.EVG_PIN_CFG_state = false ∧ RegsSameBut (fun r => r = R.EVG_PIN_CFG i) s t ∧ t = { s with regs := t.regs })))

/-- R636, R640 to R642. -/
def Obligations.TraceAndThawWritesComplete : Prop :=
  open Sys2Proof Machine in
  (∀ (s : State) (v : Nat), v < 2 ^ 32 →
    Completes (.thaw v) s (fun t =>
      t.cnt.frozen = none ∧ rb t R.CNT_STATUS F.CNT_STATUS_frozen = false
      ∧ (∀ i, i < 256 → reg t (R.CNT_FROZEN i) = reg s (R.CNT_FROZEN i)) ∧ t = { s with regs := t.regs, cnt := t.cnt }))
  ∧ (∀ (s : State) (v : Nat), v < 2 ^ 32 → bitOf v 7 = false →
    Completes (.traceEn v) s (fun t =>
      rb t R.CNT_CTL F.CNT_CTL_trace_en = bitOf v 6 ∧ rb t R.CNT_CTL F.CNT_CTL_drop_event_en = bitOf v 3
      ∧ rb t R.CNT_CTL F.CNT_CTL_trace_stop_event_en = bitOf v 2 ∧ rb t R.CNT_CTL F.CNT_CTL_trace_half_event_en = bitOf v 1
      ∧ rb t R.CNT_CTL F.CNT_CTL_freeze_event_en = bitOf v 0
      ∧ t.cnt.frozen = s.cnt.frozen
      ∧ (bitOf v 6 = false → rb t R.CNT_STATUS F.CNT_STATUS_trace_on = false ∧ t.cnt = s.cnt)
      ∧ (bitOf v 6 = true → rb s R.CNT_CTL F.CNT_CTL_trace_en = true → t.cnt = s.cnt
          ∧ reg t R.CNT_STATUS = reg s R.CNT_STATUS)
      ∧ (bitOf v 6 = true → rb s R.CNT_CTL F.CNT_CTL_trace_en = false → rb s R.CNT_STATUS F.CNT_STATUS_trace_stopped = true →
          reg t R.CNT_TRACE_HEAD = 0 ∧ reg t R.CNT_TRACE_TAIL = 0 ∧ rb t R.CNT_STATUS F.CNT_STATUS_trace_stopped = false
          ∧ rb t R.CNT_STATUS F.CNT_STATUS_trace_on = decide (s.cnt.plan.mode ≠ 0))
      ∧ (bitOf v 6 = true → rb s R.CNT_CTL F.CNT_CTL_trace_en = false → rb s R.CNT_STATUS F.CNT_STATUS_trace_stopped = false →
          rb t R.CNT_STATUS F.CNT_STATUS_trace_on = decide (s.cnt.plan.mode ≠ 0) ∧ reg t R.CNT_TRACE_HEAD = reg s R.CNT_TRACE_HEAD)
      ∧ t = { s with regs := t.regs, cnt := t.cnt }))
  ∧ (∀ (s : State) (v : Nat), v < 2 ^ 64 →
    (traceWants s 8 = true → s.cnt.traceQ.length < 64 →
      Completes (.cntTraceMark v) s (fun t =>
        t = { s with cnt := { s.cnt with traceQ := s.cnt.traceQ ++ [⟨s.ft, 8, 0xFF, v, 0⟩] } }))
    ∧ (traceWants s 8 = true → 64 ≤ s.cnt.traceQ.length → rb s R.CNT_CTL F.CNT_CTL_drop_event_en = false →
        (reg s R.CNT_TRACE_DROP).toNat + 1 < 2 ^ 64 →
      Completes (.cntTraceMark v) s (fun t =>
        (reg t R.CNT_TRACE_DROP).toNat = (reg s R.CNT_TRACE_DROP).toNat + 1 ∧ rb t R.CNT_FLAGS F.CNT_FLAGS_drop = true
        ∧ t.cnt.dropped = true ∧ t.cnt.traceQ = s.cnt.traceQ
        ∧ RegsSameBut (fun r => r = R.CNT_TRACE_DROP || r = R.CNT_FLAGS) s t ∧ t = { s with regs := t.regs, cnt := t.cnt }))
    ∧ (traceWants s 8 = false → Completes (.cntTraceMark v) s (fun t => t = s)))

/-- R475, R619, R621; the idle step and the rate of the correction are the model's choices (logs 6, 40). -/
def Obligations.TimeNeverGoesBack : Prop :=
  open Sys2Proof Machine in
  ∀ (s : State) (time : Nat), s.ft < 2 ^ 64 → time < 2 ^ 64 →
    let a := advance time s
    let n := if s.ft ≤ time then time else s.ft
    let k := Nat.min s.shk.slew.natAbs ((s.shk.slewPart + 4 * (n - s.ft)) / 1000)
    (s.shk.slew = 0 → a.ft = n ∧ a.shk.slew = 0)
    ∧ (s.shk.slewPart < 1000 → s.ft ≤ a.ft ∧ a.shk.slewPart < 1000
      ∧ (0 < s.shk.slew → a.ft = Nat.min (n + k) (2 ^ 64 - 1) ∧ a.shk.slew = s.shk.slew - k)
      ∧ (s.shk.slew < 0 → a.ft = n - k ∧ a.shk.slew = s.shk.slew + k))
    ∧ a.cmd = s.cmd ∧ a.seq = s.seq ∧ a.thl = s.thl ∧ a.pending = s.pending
    ∧ (s.pending = [] → s.ft + 1 < 2 ^ 64 → ∃ t, step s = .next t ∧ (s.shk.slew = 0 → t.ft = s.ft + 1) ∧ t = advance (s.ft + 1) s ∧ t.pending = [])

/-- R63. -/
def Obligations.DigestsAreReported : Prop :=
  open Sys2Proof Machine in
  ∀ (s : State) (iface tag : Nat), MgtReady s iface →
    Completes (.getDigests iface tag) s (fun t => ∃ body,
      Answers t iface 2 tag 0 body ∧ body.length = 196
      ∧ (∀ k, k < 6 → fieldAt body (8 * k) 8 = (reg s (R.THL_ACTIVE_DIGEST k)).toNat ∧ fieldAt body (48 + 8 * k) 8 = (reg s (R.THL_STAGED_DIGEST k)).toNat)
      ∧ (∀ k, k < 48 → body.getD (96 + k) 0 = s.thl.activeStruct.getD k 0 ∧ body.getD (144 + k) 0 = s.thl.stagedStruct.getD k 0)
      ∧ fieldAt body 192 4 = rf s R.THL_EPOCH F.THL_EPOCH_epoch
      ∧ t = { s with out := t.out })

/-- R345, R648, R649, R658, R660, R661; bodies of GET_INFO, GET_CERTS and repair entries are open (log 4). -/
def Obligations.ManagementReadsComplete : Prop :=
  open Sys2Proof Machine in
  ∀ (s : State) (iface tag : Nat), MgtReady s iface →
    let kept (t : State) : Prop := t = { s with out := t.out, free := t.free }
    Completes (.getInfo iface tag) s (fun t => (∃ body, Answers t iface 1 tag 0 body) ∧ kept t)
    ∧ Completes (.getTelemetry iface tag) s (fun t => ∃ body, Answers t iface 3 tag 0 body ∧ kept t
        ∧ fieldAt body 0 8 = (reg s R.RST_STATUS).toNat ∧ fieldAt body 8 8 = (reg s R.RST_SUPPLY).toNat
        ∧ fieldAt body 16 8 = (reg s R.RST_PWR).toNat ∧ fieldAt body 24 8 = (reg s R.RST_THERM).toNat ∧ fieldAt body 32 8 = (reg s R.RST_CAUSE).toNat
        ∧ ∀ n, n < 8 → fieldAt body (40 + 4 * n) 4 = (reg s (R.STK_TEMP n)).toNat % 2 ^ 32)
    ∧ (inRecovery s = false → s.mgt.running = 1 →
        Completes (.readCounters iface tag [1]) s (fun t => ∃ body, Answers t iface 4 tag 0 body ∧ body.length = 2048 ∧ kept t
          ∧ ∀ i, i < 256 → fieldAt body (8 * i) 8 = (reg s (R.CNT_FROZEN i)).toNat)
        ∧ Completes (.readCounters iface tag [0]) s (fun t => ∃ body, Answers t iface 4 tag 0 body ∧ body.length = 2048 ∧ kept t
          ∧ ∀ i, 8 ≤ i → i < 88 → openWord i = false → fieldAt body (8 * i) 8 = spGet 0 s.cnt.words i % 2 ^ 64))
    ∧ Completes (.getCerts iface tag) s (fun t => (∃ body, Answers t iface 5 tag 0 body ∧ body.length ≤ 4088) ∧ kept t)
    ∧ (∀ nonce, nonce.length = 32 → Completes (.challenge iface tag nonce) s (fun t => ∃ body, Answers t iface 6 tag 0 body ∧ body.length = 400
        ∧ body.take 32 = nonce ∧ fieldAt body 0x110 4 = rf s R.THL_EPOCH F.THL_EPOCH_epoch ∧ fieldAt body 0x114 2 = selfId s
        ∧ fieldAt body 0x118 8 = s.ft % 2 ^ 64 ∧ (body.drop 0x050).take 48 = (List.range 6).flatMap (fun k => leBytes 8 (reg s (R.THL_ACTIVE_DIGEST k)).toNat)
        ∧ kept t))
    ∧ Completes (.readFuses iface tag) s (fun t => ∃ body, Answers t iface 7 tag 0 body ∧ body.length = 512
        ∧ (∀ w, w < 128 → fieldAt body (4 * w) 4 = fuseNow s w % 2 ^ 32) ∧ kept t)
    ∧ (∀ off, off < 2 ^ 32 → Completes (.getRepairLog iface tag (leBytes 4 off)) s (fun t =>
        Answers t iface 0x10 tag 0 (((repairBytes s).drop off).take 4088) ∧ kept t))

/-- R649, R656, R658, R659, R654, R639. -/
def Obligations.PresenceIsRequired : Prop :=
  open Sys2Proof Machine in
  ∀ (s : State) (iface tag : Nat) (body : List Byte) (env : MgtEnv), MgtReady s iface →
    let none_ (op : Nat) (t : State) : Prop := Answers t iface op tag 3 [] ∧ t = { s with out := t.out }
    (attended s = false →
      Completes (.writeFuses iface tag body env) s (none_ 8) ∧ Completes (.debugUnlock iface tag) s (none_ 9)
      ∧ Completes (.fwLoad iface tag body env) s (none_ 0xA) ∧ Completes (.setCounterPriv iface tag body) s (none_ 0xB))
    ∧ (attended s = true → env.lostAfter = none →
      (∀ w mask, w < 256 → mask < 2 ^ 32 →
        (w < 56 → Completes (.writeFuses iface tag (leBytes 4 w ++ leBytes 4 mask) env) s (fun t => Answers t iface 8 tag 0 []
          ∧ fuseNow t w = (fuseNow s w ||| mask) ∧ (∀ x, x ≠ w → fuseNow t x = fuseNow s x) ∧ (∀ x, fuseWord t x = fuseWord s x)
          ∧ t = { s with mgt := t.mgt, out := t.out }))
        ∧ (56 ≤ w → Completes (.writeFuses iface tag (leBytes 4 w ++ leBytes 4 mask) env) s (fun t => Answers t iface 8 tag 2 []
          ∧ t = { s with out := t.out })))
      ∧ (bitOf (fuseWord s 0) 5 = false → Completes (.debugUnlock iface tag) s (fun t => Answers t iface 9 tag 0 []
          ∧ t = { s with mgt := { s.mgt with debugUnlocked := true }, out := t.out }))
      ∧ (bitOf (fuseWord s 0) 5 = true → Completes (.debugUnlock iface tag) s (fun t => Answers t iface 9 tag 9 [] ∧ t = { s with out := t.out }))
      ∧ (∀ off data, off < 2 ^ 32 → env.flashOk = true → Completes (.fwLoad iface tag (leBytes 4 off ++ leBytes 4 0 ++ data) env) s (fun t =>
          Answers t iface 0xA tag 0 [] ∧ flashBytes t off data.length = data
          ∧ (∀ a, a < off ∨ off + data.length ≤ a → flashByte t a = flashByte s a) ∧ t = { s with mgt := t.mgt, out := t.out }))
      ∧ (capFused s 8 = true → Completes (.setCounterPriv iface tag [1]) s (fun t => Answers t iface 0xB tag 0 []
          ∧ t = { s with cnt := { s.cnt with privNext := some true }, out := t.out })))

/-- R346 to R348, R498, R576, R649. -/
def Obligations.ManagementEffectsComplete : Prop :=
  open Sys2Proof Machine in
  (∀ (s : State) (iface tag : Nat), MgtReady s iface → inRecovery s = false → s.mgt.running = 1 →
    (∀ b : Bool, Completes (.rawWindow iface tag [if b then 1 else 0]) s (fun t => Answers t iface 0xE tag 0 []
        ∧ rb t R.WIN_CTL F.WIN_CTL_raw_ok = b ∧ RegsSameBut (fun r => r = R.WIN_CTL) s t ∧ t = { s with regs := t.regs, out := t.out }))
    ∧ (failed s = false → Completes (.failDevice iface tag) s (fun t => Answers t iface 0xF tag 0 [] ∧ failed t = true))
    ∧ (s.rst.powerOn = false → bringUp s = false → s.rst.hold.getD 0 < 2 → 2 ≤ levelOf s 6 → levelOf s 6 ≤ 4 →
        Completes (.reset iface tag) s (fun t => LiesInReset t 6 (levelOf s 6)))
    ∧ (∀ n c d, n < 8 → c < 32 → d < 2 →
      let body := leBytes 1 n ++ leBytes 1 c ++ leBytes 1 d
      (imageActive s = true → Completes (.margin iface tag body) s (fun t => Answers t iface 0xD tag 9 []
        ∧ rf t (R.STK_MRG_STATUS n) F.STK_MRG_STATUS_error = 1 ∧ t.mgt = s.mgt ∧ MemSame s t))
      ∧ (imageActive s = false → capFused s 0xA = true → stackOpen s n = true → rb s (R.STK_STATUS n) F.STK_STATUS_mrg_active = false →
          (stackOf s n).waiting = [] → (stackOf s n).failing = [] →
        Completes (.margin iface tag body) s (fun t =>
          (∃ r, t.mgt.margin = some (r, n) ∧ r.iface = iface ∧ r.tag = tag)
          ∧ rb t (R.STK_MRG_STATUS n) F.STK_MRG_STATUS_running = true ∧ rf t (R.STK_MRG_STATUS n) F.STK_MRG_STATUS_channel = c
          ∧ rf t (R.STK_MRG_STATUS n) F.STK_MRG_STATUS_dir = d ∧ rb t (R.STK_STATUS n) F.STK_STATUS_mrg_active = true
          ∧ t.out = s.out ∧ MemSame s t))))
  ∧ (∀ (s : State) (n : Nat) (pins : List MarginPin) (r : MgtReq), n < 8 → rb s (R.STK_MRG_STATUS n) F.STK_MRG_STATUS_running = true →
      s.mgt.margin = some (r, n) → r.iface < 2 → s.mgt.waiting = [] → (stackOf s n).waiting = [] → NothingWaits s → pins.length = 72 →
      (∀ p ∈ pins, p.timing.length = 64 ∧ p.voltage.length = 64) →
    let passesUpTo (es : List Nat) (k : Nat) : Prop := k ≤ 31 ∧ (∀ j, j ≤ k → es.getD (32 + j) 0 = 0) ∧ (k < 31 → es.getD (33 + k) 0 ≠ 0)
    let passesDownTo (es : List Nat) (k : Nat) : Prop := k ≤ 32 ∧ (∀ j, j ≤ k → es.getD (32 - j) 0 = 0) ∧ (k < 32 → es.getD (31 - k) 0 ≠ 0)
    Completes (.marginRunDone n pins) s (fun t =>
      t.mgt.margin = none ∧ rb t (R.STK_MRG_STATUS n) F.STK_MRG_STATUS_running = false ∧ rb t (R.STK_MRG_STATUS n) F.STK_MRG_STATUS_done = true
      ∧ rb t (R.STK_STATUS n) F.STK_STATUS_mrg_active = false ∧ Answers t r.iface r.opcode r.tag 0 []
      ∧ (∀ k (p : MarginPin), pins[k]? = some p →
          let w := (reg t (R.STK_MRG_RESULT n k)).toNat
          bitOf w 0 = true
          ∧ (p.timing.getD 32 0 ≠ 0 ∨ p.voltage.getD 32 0 ≠ 0 → bitOf w 1 = true ∧ bitsOf w 32 32 = 0)
          ∧ (p.timing.getD 32 0 = 0 → p.voltage.getD 32 0 = 0 → bitOf w 1 = false
            ∧ passesDownTo p.timing ((256 - bitsOf w 32 8) % 256) ∧ passesUpTo p.timing (bitsOf w 40 8)
            ∧ passesDownTo p.voltage ((256 - bitsOf w 48 8) % 256) ∧ passesUpTo p.voltage (bitsOf w 56 8)))))

/-- R646, R647, R652, R655, R662, R663. -/
def Obligations.ManagementTransportCompletes : Prop :=
  open Sys2Proof Machine in
  (∀ (s : State) (iface x : Nat), 2 ≤ s.rst.phase → s.mgt.running ≠ 0 → s.mgt.eids.length = 2 → iface < 2 →
    let ans (t : State) : Prop := (∃ body, t.out = .response iface 0 body :: s.out) ∧ t = { s with out := t.out }
    (1 ≤ x → x < 255 → Completes (.setEndpointId iface x) s (fun t =>
        t.mgt.eids.getD iface 0 = x ∧ t.mgt.eids.getD (1 - iface) 0 = s.mgt.eids.getD (1 - iface) 0
        ∧ (∃ body, t.out = .response iface 0 body :: s.out) ∧ t = { s with mgt := { s.mgt with eids := t.mgt.eids }, out := t.out }))
    ∧ Completes (.getEndpointId iface) s ans ∧ Completes (.getMctpVersionSupport iface x) s ans
    ∧ Completes (.getMessageTypeSupport iface) s ans ∧ Completes (.getVendorDefinedMessageSupport iface x) s ans)
  ∧ (∀ (s : State) (env : MgtEnv), rb s R.HST_STATUS F.HST_STATUS_link_up = true → 2 ≤ s.rst.phase →
    (rb s R.MGT_STATUS F.MGT_STATUS_busy = false → s.mgt.running ≠ 0 → s.mgt.margin = none → s.mgt.waiting = [] →
      fieldAt (leBytes 8 (reg s (R.MGT_REQ 0)).toNat) 0 1 = 0x11 → fieldAt (leBytes 8 (reg s (R.MGT_REQ 0)).toNat) 2 2 ≤ 4088 →
      Completes (.mailboxGo (2 ^ 31) env) s (fun t =>
        rb t R.MGT_STATUS F.MGT_STATUS_done = true ∧ rb t R.MGT_STATUS F.MGT_STATUS_busy = false
        ∧ rf t R.MGT_STATUS F.MGT_STATUS_rsp_status = 1 ∧ rf t R.MGT_STATUS F.MGT_STATUS_rsp_len = 8
        ∧ bitsOf (reg t (R.MGT_RSP 0)).toNat 8 8 = 1 ∧ bitsOf (reg t (R.MGT_RSP 0)).toNat 32 32 = bitsOf (reg s (R.MGT_REQ 0)).toNat 32 32
        ∧ t.cmd = s.cmd ∧ MemSame s t))
    ∧ (rb s R.MGT_STATUS F.MGT_STATUS_busy = true → Completes (.mailboxGo (2 ^ 31) env) s (fun t =>
        RegsSameBut (fun r => r = R.MGT_CTL) s t ∧ t = { s with regs := t.regs })))
  ∧ (∀ (s : State), 2 ≤ s.rst.phase → levelOf s 7 = 0 →
    Completes .watchdogExpiry s (fun t =>
      t.mgt.waiting = [] ∧ t.mgt.margin = none ∧ rb t R.MGT_STATUS F.MGT_STATUS_busy = false
      ∧ (s.mgt.margin.isSome = true ∨ s.mgt.waiting ≠ [] → rb t R.MGT_STATUS F.MGT_STATUS_reset_seen = true)
      ∧ (reg t R.RST_CAUSE).toNat.testBit 7 = true ∧ t = { s with regs := t.regs, mgt := t.mgt }))
  ∧ (∀ (s : State) (low : Bool), Completes (.attendN low) s (fun t =>
      attended t = low ∧ RegsSameBut (fun r => r = R.MGT_STATUS) s t ∧ t = { s with regs := t.regs }))
  ∧ (∀ (s : State), 2 ≤ s.rst.phase → s.mgt.running = 0 → s.mgt.waiting = [] →
    (fwOk s = true → Completes .fwBootVerifyDone s (fun t => t.mgt.running = 1 ∧ t.rst.phase = 3
        ∧ rf t R.MGT_FW F.MGT_FW_version = fwVersion s % 2 ^ 32 ∧ rf t R.MGT_FW F.MGT_FW_svn = fwSvn s % 2 ^ 32
        ∧ (∀ d, d < 40 → clockLocked s d = true → s.rst.hold = none → t.rst.released.testBit d = true)))
    ∧ (fwOk s = false → Completes .fwBootVerifyDone s (fun t => t = { s with mgt := { s.mgt with running := 2 } })))
end

