-- ==== Sys2Proof/Laws/Bytes.lean ====
section
/-! SUPPORT. Laws of the byte layouts: the CRC-32C as a fold, the lengths of a frame's content and image, and what reading an image answers. -/

namespace Sys2Proof.Laws

open Sys2Proof.Machine

@[simp] theorem atNum_eq {α : Type} (n : Nat) (f : Nat → α) : atNum n f = f n := by cases n <;> rfl

theorem crc32Bytes_eq (bs : List Byte) : ∀ c, crc32Bytes bs c = bs.foldl (fun c b => crc32Shift 8 (c ^^^ b.toNat)) c := by
  induction bs with
  | nil => intro c; rfl
  | cons b bs ih => intro c; simp only [crc32Bytes, atNum_eq, List.foldl_cons, ih]

@[simp] theorem leBytes_length (n x : Nat) : (leBytes n x).length = n := by
  induction n generalizing x with
  | zero => rfl
  | succ n ih => simp only [leBytes, List.length_cons, ih]

@[simp] theorem frameBody_length (bs : List Byte) : (frameBody bs).length = 252 := by
  simp only [frameBody, List.length_take, List.length_append, List.length_replicate]; omega

@[simp] theorem frameContent_length (f : Frame) : (frameContent f).length = 252 := by cases f <;> simp [frameContent]

@[simp] theorem frameImage_length (f : Frame) : (frameImage f).length = 256 := by simp [frameImage]

/-- What is read from 256 bytes: the fields of the first 252, and only when the last four are their CRC-32C. -/
theorem readFrame_cases {bs : List Byte} {f : Frame} (h : readFrame bs = some f) :
    bs.length = 256 ∧ fieldAt bs 252 4 = crc32c (bs.take 252) ∧ f = readContent (bs.take 252) := by
  simp only [readFrame] at h
  split at h
  · rename_i c; exact ⟨c.1, c.2, (Option.some.inj h).symm⟩
  · cases h

end Sys2Proof.Laws
end

