-- ==== Sys2Proof/Laws/Sparse.lean ====
section
/-! SUPPORT. Laws of the sparse maps: what a write reads as, and that every operation keeps the canonical form. -/

namespace Sys2Proof.Laws

open Sys2Proof.Machine

variable {V : Type} [DecidableEq V]

/-- A larger lower bound is a smaller one too. -/
theorem spWfFrom_mono {d : Nat → V} {lo lo' : Nat} {m : Sparse V} (h : lo' ≤ lo) (w : spWfFrom d lo m = true) :
    spWfFrom d lo' m = true := by
  cases m with
  | nil => rfl
  | cons e m =>
    obtain ⟨k, v⟩ := e
    simp only [spWfFrom, Bool.and_eq_true, decide_eq_true_eq] at w ⊢
    exact ⟨⟨by omega, w.1.2⟩, w.2⟩

/-- Filtering keeps the canonical form. -/
theorem spWfFrom_filter {d : Nat → V} (p : Nat × V → Bool) (m : Sparse V) :
    ∀ {lo : Nat}, spWfFrom d lo m = true → spWfFrom d lo (m.filter p) = true := by
  induction m with
  | nil => intro lo w; exact w
  | cons e m ih =>
    obtain ⟨k, v⟩ := e
    intro lo w
    simp only [spWfFrom, Bool.and_eq_true, decide_eq_true_eq] at w
    by_cases hp : p (k, v) = true
    · simp only [List.filter_cons, hp, if_true, spWfFrom, Bool.and_eq_true, decide_eq_true_eq]
      exact ⟨w.1, ih w.2⟩
    · simp only [List.filter_cons, hp, Bool.false_eq_true, if_false]
      exact spWfFrom_mono (by omega) (ih w.2)

/-- Writing keeps the canonical form when the value removed is what the key reads as unlisted. -/
theorem spWfFrom_spSet {d : Nat → V} {a : Nat} {v : V} (m : Sparse V) :
    ∀ {lo : Nat}, lo ≤ a → spWfFrom d lo m = true → spWfFrom d lo (spSet (d a) m a v) = true := by
  induction m with
  | nil =>
    intro lo hl w
    by_cases hv : v = d a
    · simp [spSet, hv, spWfFrom]
    · simp [spSet, hv, spWfFrom, hl]
  | cons e m ih =>
    obtain ⟨k, x⟩ := e
    intro lo hl w
    have w0 := w
    simp only [spWfFrom, Bool.and_eq_true, decide_eq_true_eq] at w
    unfold spSet
    by_cases h1 : a < k
    · by_cases hv : v = d a
      · simp only [h1, hv, if_true, spWfFrom, Bool.and_eq_true, decide_eq_true_eq]
        exact ⟨w.1, spWfFrom_filter _ _ w.2⟩
      · simp only [h1, hv, if_true, if_false, spWfFrom, Bool.and_eq_true, decide_eq_true_eq]
        exact ⟨⟨hl, hv⟩, ⟨by omega, w.1.2⟩, w.2⟩
    · by_cases h2 : a = k
      · by_cases hv : v = d a
        · simp only [h2, Nat.lt_irrefl, if_true, if_false]
          rw [if_pos (by rw [hv, h2])]
          exact spWfFrom_mono (by omega) (spWfFrom_filter _ _ w.2)
        · simp only [h2, Nat.lt_irrefl, if_true, if_false]
          rw [if_neg (by rw [← h2]; exact hv)]
          simp only [spWfFrom, Bool.and_eq_true, decide_eq_true_eq]
          exact ⟨⟨by omega, by rw [← h2]; exact hv⟩, w.2⟩
      · simp only [h1, h2, if_false, spWfFrom, Bool.and_eq_true, decide_eq_true_eq]
        exact ⟨w.1, ih (by omega) w.2⟩

/-- Writing keeps the canonical form. -/
theorem spWf_spSet {d : Nat → V} {m : Sparse V} {a : Nat} {v : V} (w : spWf d m = true) :
    spWf d (spSet (d a) m a v) = true := spWfFrom_spSet m (Nat.zero_le a) w

/-- Clearing keys keeps the canonical form. -/
theorem spWf_spClear {d : Nat → V} {m : Sparse V} (p : Nat → Bool) (w : spWf d m = true) :
    spWf d (spClear p m) = true := spWfFrom_filter _ m w

/-- A key below the lower bound reads as unlisted. -/
theorem spGet_below {d : Nat → V} {x : V} {m : Sparse V} :
    ∀ {lo a : Nat}, spWfFrom d lo m = true → a < lo → spGet x m a = x := by
  induction m with
  | nil => intros; rfl
  | cons e m ih =>
    obtain ⟨k, v⟩ := e
    intro lo a w h
    simp only [spWfFrom, Bool.and_eq_true, decide_eq_true_eq] at w
    simp only [spGet]
    rw [if_neg (by omega)]
    exact ih w.2 (by omega)

omit [DecidableEq V] in
/-- Another key reads as before when a key is deleted. -/
theorem spGet_spDel_ne (x : V) {m : Sparse V} {a b : Nat} (h : b ≠ a) : spGet x (spDel m a) b = spGet x m b := by
  induction m with
  | nil => rfl
  | cons e m ih =>
    obtain ⟨k, v⟩ := e
    by_cases hk : k = a
    · have : spDel ((k, v) :: m) a = spDel m a := by simp [spDel, hk]
      rw [this, ih]
      simp only [spGet]
      rw [if_neg (by omega)]
    · have : spDel ((k, v) :: m) a = (k, v) :: spDel m a := by simp [spDel, hk]
      rw [this]
      simp only [spGet]
      rw [ih]

omit [DecidableEq V] in
/-- A deleted key reads as unlisted. -/
theorem spGet_spDel_same (x : V) (m : Sparse V) (a : Nat) : spGet x (spDel m a) a = x := by
  induction m with
  | nil => rfl
  | cons e m ih =>
    obtain ⟨k, v⟩ := e
    by_cases hk : k = a
    · have : spDel ((k, v) :: m) a = spDel m a := by simp [spDel, hk]
      rw [this, ih]
    · have : spDel ((k, v) :: m) a = (k, v) :: spDel m a := by simp [spDel, hk]
      rw [this]
      simp only [spGet]
      rw [if_neg hk, ih]

/-- Another key reads as before a write. -/
theorem spGet_spSet_ne (x : V) {m : Sparse V} {a b : Nat} {v : V} (h : b ≠ a) :
    spGet x (spSet x m a v) b = spGet x m b := by
  induction m with
  | nil =>
    by_cases hv : v = x
    · simp [spSet, hv]
    · simp only [spSet, hv, if_false, spGet]
      rw [if_neg (by omega)]
  | cons e m ih =>
    obtain ⟨k, y⟩ := e
    unfold spSet
    by_cases h1 : a < k
    · by_cases hv : v = x
      · simp only [h1, hv, if_true, spGet, spGet_spDel_ne x h]
      · simp only [h1, hv, if_true, if_false]
        conv_lhs => unfold spGet
        rw [if_neg (by omega)]
    · by_cases h2 : a = k
      · by_cases hv : v = x
        · simp only [h2, hv, if_true, if_false, Nat.lt_irrefl]
          rw [spGet_spDel_ne x (by omega)]
          conv_rhs => unfold spGet
          rw [if_neg (by omega)]
        · simp only [h2, hv, if_true, if_false, Nat.lt_irrefl, spGet]
          rw [if_neg (by omega), if_neg (by omega)]
      · simp only [h1, h2, if_false, spGet, ih]

/-- The written key reads as the value written, in any map. -/
theorem spGet_spSet_same (x : V) (m : Sparse V) (a : Nat) (v : V) : spGet x (spSet x m a v) a = v := by
  induction m with
  | nil =>
    by_cases hv : v = x
    · simp [spSet, hv, spGet]
    · simp [spSet, hv, spGet]
  | cons e m ih =>
    obtain ⟨k, y⟩ := e
    unfold spSet
    by_cases h1 : a < k
    · by_cases hv : v = x
      · simp only [h1, hv, if_true, spGet]
        rw [if_neg (by omega), spGet_spDel_same]
      · simp [h1, hv, spGet]
    · by_cases h2 : a = k
      · by_cases hv : v = x
        · simp only [h2, hv, if_true, if_false, Nat.lt_irrefl]
          exact spGet_spDel_same x m k
        · simp [h2, hv, spGet]
      · simp only [h1, h2, if_false, spGet]
        rw [if_neg (by omega)]
        exact ih

/-- A write read back anywhere. -/
theorem spGet_spSet (x : V) (m : Sparse V) (a b : Nat) (v : V) :
    spGet x (spSet x m a v) b = if b = a then v else spGet x m b := by
  by_cases h : b = a
  · rw [if_pos h, h]; exact spGet_spSet_same x m a v
  · rw [if_neg h]; exact spGet_spSet_ne x h

omit [DecidableEq V] in
/-- Filtering keys away leaves the others. -/
theorem spGet_spClear_keep (x : V) {p : Nat → Bool} {m : Sparse V} {a : Nat} (h : p a = false) :
    spGet x (spClear p m) a = spGet x m a := by
  induction m with
  | nil => rfl
  | cons e m ih =>
    obtain ⟨k, v⟩ := e
    by_cases hk : p k = true
    · have : spClear p ((k, v) :: m) = spClear p m := by simp [spClear, hk]
      rw [this, ih]
      simp only [spGet]
      rw [if_neg (by rintro rfl; simp [h] at hk)]
    · have : spClear p ((k, v) :: m) = (k, v) :: spClear p m := by simp [spClear, hk]
      rw [this]
      simp only [spGet]
      rw [ih]

omit [DecidableEq V] in
/-- A cleared key reads as unlisted. -/
theorem spGet_spClear_gone (x : V) {p : Nat → Bool} {m : Sparse V} {a : Nat} (h : p a = true) :
    spGet x (spClear p m) a = x := by
  induction m with
  | nil => rfl
  | cons e m ih =>
    obtain ⟨k, v⟩ := e
    by_cases hk : p k = true
    · have : spClear p ((k, v) :: m) = spClear p m := by simp [spClear, hk]
      rw [this, ih]
    · have : spClear p ((k, v) :: m) = (k, v) :: spClear p m := by simp [spClear, hk]
      rw [this]
      simp only [spGet]
      rw [if_neg (by rintro rfl; simp [h] at hk)]
      exact ih

/-- Storing bytes keeps the canonical form. -/
theorem spWf_putBytes (bs : List Byte) :
    ∀ {m : Sparse Byte} {a : Nat}, spWf (fun _ => (0 : Byte)) m = true →
      spWf (fun _ => (0 : Byte)) (putBytes m a bs) = true := by
  induction bs with
  | nil => intro m a w; exact w
  | cons b bs ih =>
    intro m a w
    exact ih (spWf_spSet (d := fun _ => (0 : Byte)) w)

/-- Bytes outside a store read as before. -/
theorem spGet_putBytes_outside (bs : List Byte) :
    ∀ {m : Sparse Byte} {a b : Nat}, (b < a ∨ a + bs.length ≤ b) → spGet 0 (putBytes m a bs) b = spGet 0 m b := by
  induction bs with
  | nil => intros; rfl
  | cons x bs ih =>
    intro m a b h
    simp only [List.length_cons] at h
    unfold putBytes
    rw [ih (by omega)]
    exact spGet_spSet_ne 0 (by omega)

/-- Bytes inside a store read as stored. -/
theorem spGet_putBytes_inside (bs : List Byte) :
    ∀ {m : Sparse Byte} {a i : Nat}, i < bs.length → spGet 0 (putBytes m a bs) (a + i) = bs.getD i 0 := by
  induction bs with
  | nil => intro m a i h; simp at h
  | cons x bs ih =>
    intro m a i h
    unfold putBytes
    cases i with
    | zero =>
      rw [spGet_putBytes_outside _ (by omega)]
      exact spGet_spSet_same 0 m a x
    | succ i =>
      have := ih (m := putByte m a x) (a := a + 1) (i := i) (by simpa using h)
      rw [show a + (i + 1) = a + 1 + i by omega, this]
      simp

end Sys2Proof.Laws
end

