-- ==== Sys2Proof/Laws/State.lean ====
section
/-! SUPPORT. Laws of the shared operations over State: the field each one changes and what it then holds, and that every other
field is as before. Proofs cite these and unfold no record update. -/

namespace Sys2Proof.Laws

open Sys2Proof.Machine

variable (s : State)

/-! ## setReg: storing a register changes the register file alone. -/

@[simp] theorem setReg_mem (r : Nat) (v : W64) : (setReg s r v).mem = s.mem := rfl
@[simp] theorem setReg_ft (r : Nat) (v : W64) : (setReg s r v).ft = s.ft := rfl
@[simp] theorem setReg_stepCtr (r : Nat) (v : W64) : (setReg s r v).stepCtr = s.stepCtr := rfl
@[simp] theorem setReg_thl (r : Nat) (v : W64) : (setReg s r v).thl = s.thl := rfl
@[simp] theorem setReg_tier (r : Nat) (v : W64) : (setReg s r v).tier = s.tier := rfl
@[simp] theorem setReg_stackList (r : Nat) (v : W64) : (setReg s r v).stackList = s.stackList := rfl
@[simp] theorem setReg_cmd (r : Nat) (v : W64) : (setReg s r v).cmd = s.cmd := rfl
@[simp] theorem setReg_hst (r : Nat) (v : W64) : (setReg s r v).hst = s.hst := rfl
@[simp] theorem setReg_shk (r : Nat) (v : W64) : (setReg s r v).shk = s.shk := rfl
@[simp] theorem setReg_sor (r : Nat) (v : W64) : (setReg s r v).sor = s.sor := rfl
@[simp] theorem setReg_seq (r : Nat) (v : W64) : (setReg s r v).seq = s.seq := rfl
@[simp] theorem setReg_rau (r : Nat) (v : W64) : (setReg s r v).rau = s.rau := rfl
@[simp] theorem setReg_scl (r : Nat) (v : W64) : (setReg s r v).scl = s.scl := rfl
@[simp] theorem setReg_recov (r : Nat) (v : W64) : (setReg s r v).recov = s.recov := rfl
@[simp] theorem setReg_evg (r : Nat) (v : W64) : (setReg s r v).evg = s.evg := rfl
@[simp] theorem setReg_cnt (r : Nat) (v : W64) : (setReg s r v).cnt = s.cnt := rfl
@[simp] theorem setReg_mgt (r : Nat) (v : W64) : (setReg s r v).mgt = s.mgt := rfl
@[simp] theorem setReg_rst (r : Nat) (v : W64) : (setReg s r v).rst = s.rst := rfl
@[simp] theorem setReg_pending (r : Nat) (v : W64) : (setReg s r v).pending = s.pending := rfl
@[simp] theorem setReg_out (r : Nat) (v : W64) : (setReg s r v).out = s.out := rfl
@[simp] theorem setReg_free (r : Nat) (v : W64) : (setReg s r v).free = s.free := rfl

/-! ## wf: setting a register's field changes the register file alone. -/

@[simp] theorem wf_mem (r : Nat) (f : Field) (x : Nat) : (wf s r f x).mem = s.mem := rfl
@[simp] theorem wf_ft (r : Nat) (f : Field) (x : Nat) : (wf s r f x).ft = s.ft := rfl
@[simp] theorem wf_stepCtr (r : Nat) (f : Field) (x : Nat) : (wf s r f x).stepCtr = s.stepCtr := rfl
@[simp] theorem wf_thl (r : Nat) (f : Field) (x : Nat) : (wf s r f x).thl = s.thl := rfl
@[simp] theorem wf_tier (r : Nat) (f : Field) (x : Nat) : (wf s r f x).tier = s.tier := rfl
@[simp] theorem wf_stackList (r : Nat) (f : Field) (x : Nat) : (wf s r f x).stackList = s.stackList := rfl
@[simp] theorem wf_cmd (r : Nat) (f : Field) (x : Nat) : (wf s r f x).cmd = s.cmd := rfl
@[simp] theorem wf_hst (r : Nat) (f : Field) (x : Nat) : (wf s r f x).hst = s.hst := rfl
@[simp] theorem wf_shk (r : Nat) (f : Field) (x : Nat) : (wf s r f x).shk = s.shk := rfl
@[simp] theorem wf_sor (r : Nat) (f : Field) (x : Nat) : (wf s r f x).sor = s.sor := rfl
@[simp] theorem wf_seq (r : Nat) (f : Field) (x : Nat) : (wf s r f x).seq = s.seq := rfl
@[simp] theorem wf_rau (r : Nat) (f : Field) (x : Nat) : (wf s r f x).rau = s.rau := rfl
@[simp] theorem wf_scl (r : Nat) (f : Field) (x : Nat) : (wf s r f x).scl = s.scl := rfl
@[simp] theorem wf_recov (r : Nat) (f : Field) (x : Nat) : (wf s r f x).recov = s.recov := rfl
@[simp] theorem wf_evg (r : Nat) (f : Field) (x : Nat) : (wf s r f x).evg = s.evg := rfl
@[simp] theorem wf_cnt (r : Nat) (f : Field) (x : Nat) : (wf s r f x).cnt = s.cnt := rfl
@[simp] theorem wf_mgt (r : Nat) (f : Field) (x : Nat) : (wf s r f x).mgt = s.mgt := rfl
@[simp] theorem wf_rst (r : Nat) (f : Field) (x : Nat) : (wf s r f x).rst = s.rst := rfl
@[simp] theorem wf_pending (r : Nat) (f : Field) (x : Nat) : (wf s r f x).pending = s.pending := rfl
@[simp] theorem wf_out (r : Nat) (f : Field) (x : Nat) : (wf s r f x).out = s.out := rfl
@[simp] theorem wf_free (r : Nat) (f : Field) (x : Nat) : (wf s r f x).free = s.free := rfl

/-! ## raiseTo: raising a register's count changes the register file alone. -/

@[simp] theorem raiseTo_mem (r n : Nat) : (raiseTo s r n).mem = s.mem := rfl
@[simp] theorem raiseTo_ft (r n : Nat) : (raiseTo s r n).ft = s.ft := rfl
@[simp] theorem raiseTo_stepCtr (r n : Nat) : (raiseTo s r n).stepCtr = s.stepCtr := rfl
@[simp] theorem raiseTo_thl (r n : Nat) : (raiseTo s r n).thl = s.thl := rfl
@[simp] theorem raiseTo_tier (r n : Nat) : (raiseTo s r n).tier = s.tier := rfl
@[simp] theorem raiseTo_stackList (r n : Nat) : (raiseTo s r n).stackList = s.stackList := rfl
@[simp] theorem raiseTo_cmd (r n : Nat) : (raiseTo s r n).cmd = s.cmd := rfl
@[simp] theorem raiseTo_hst (r n : Nat) : (raiseTo s r n).hst = s.hst := rfl
@[simp] theorem raiseTo_shk (r n : Nat) : (raiseTo s r n).shk = s.shk := rfl
@[simp] theorem raiseTo_sor (r n : Nat) : (raiseTo s r n).sor = s.sor := rfl
@[simp] theorem raiseTo_seq (r n : Nat) : (raiseTo s r n).seq = s.seq := rfl
@[simp] theorem raiseTo_rau (r n : Nat) : (raiseTo s r n).rau = s.rau := rfl
@[simp] theorem raiseTo_scl (r n : Nat) : (raiseTo s r n).scl = s.scl := rfl
@[simp] theorem raiseTo_recov (r n : Nat) : (raiseTo s r n).recov = s.recov := rfl
@[simp] theorem raiseTo_evg (r n : Nat) : (raiseTo s r n).evg = s.evg := rfl
@[simp] theorem raiseTo_cnt (r n : Nat) : (raiseTo s r n).cnt = s.cnt := rfl
@[simp] theorem raiseTo_mgt (r n : Nat) : (raiseTo s r n).mgt = s.mgt := rfl
@[simp] theorem raiseTo_rst (r n : Nat) : (raiseTo s r n).rst = s.rst := rfl
@[simp] theorem raiseTo_pending (r n : Nat) : (raiseTo s r n).pending = s.pending := rfl
@[simp] theorem raiseTo_out (r n : Nat) : (raiseTo s r n).out = s.out := rfl
@[simp] theorem raiseTo_free (r n : Nat) : (raiseTo s r n).free = s.free := rfl

/-! ## resetRegs: returning registers to their reset values changes the register file alone. -/

@[simp] theorem resetRegs_mem (lo n : Nat) (keep : Nat → Bool) : (resetRegs s lo n keep).mem = s.mem := rfl
@[simp] theorem resetRegs_ft (lo n : Nat) (keep : Nat → Bool) : (resetRegs s lo n keep).ft = s.ft := rfl
@[simp] theorem resetRegs_stepCtr (lo n : Nat) (keep : Nat → Bool) : (resetRegs s lo n keep).stepCtr = s.stepCtr := rfl
@[simp] theorem resetRegs_thl (lo n : Nat) (keep : Nat → Bool) : (resetRegs s lo n keep).thl = s.thl := rfl
@[simp] theorem resetRegs_tier (lo n : Nat) (keep : Nat → Bool) : (resetRegs s lo n keep).tier = s.tier := rfl
@[simp] theorem resetRegs_stackList (lo n : Nat) (keep : Nat → Bool) : (resetRegs s lo n keep).stackList = s.stackList := rfl
@[simp] theorem resetRegs_cmd (lo n : Nat) (keep : Nat → Bool) : (resetRegs s lo n keep).cmd = s.cmd := rfl
@[simp] theorem resetRegs_hst (lo n : Nat) (keep : Nat → Bool) : (resetRegs s lo n keep).hst = s.hst := rfl
@[simp] theorem resetRegs_shk (lo n : Nat) (keep : Nat → Bool) : (resetRegs s lo n keep).shk = s.shk := rfl
@[simp] theorem resetRegs_sor (lo n : Nat) (keep : Nat → Bool) : (resetRegs s lo n keep).sor = s.sor := rfl
@[simp] theorem resetRegs_seq (lo n : Nat) (keep : Nat → Bool) : (resetRegs s lo n keep).seq = s.seq := rfl
@[simp] theorem resetRegs_rau (lo n : Nat) (keep : Nat → Bool) : (resetRegs s lo n keep).rau = s.rau := rfl
@[simp] theorem resetRegs_scl (lo n : Nat) (keep : Nat → Bool) : (resetRegs s lo n keep).scl = s.scl := rfl
@[simp] theorem resetRegs_recov (lo n : Nat) (keep : Nat → Bool) : (resetRegs s lo n keep).recov = s.recov := rfl
@[simp] theorem resetRegs_evg (lo n : Nat) (keep : Nat → Bool) : (resetRegs s lo n keep).evg = s.evg := rfl
@[simp] theorem resetRegs_cnt (lo n : Nat) (keep : Nat → Bool) : (resetRegs s lo n keep).cnt = s.cnt := rfl
@[simp] theorem resetRegs_mgt (lo n : Nat) (keep : Nat → Bool) : (resetRegs s lo n keep).mgt = s.mgt := rfl
@[simp] theorem resetRegs_rst (lo n : Nat) (keep : Nat → Bool) : (resetRegs s lo n keep).rst = s.rst := rfl
@[simp] theorem resetRegs_pending (lo n : Nat) (keep : Nat → Bool) : (resetRegs s lo n keep).pending = s.pending := rfl
@[simp] theorem resetRegs_out (lo n : Nat) (keep : Nat → Bool) : (resetRegs s lo n keep).out = s.out := rfl
@[simp] theorem resetRegs_free (lo n : Nat) (keep : Nat → Bool) : (resetRegs s lo n keep).free = s.free := rfl

/-! ## bump: counting in a register changes the register file and the counter block alone (R623). -/

@[simp] theorem bump_mem (r n : Nat) : (bump s r n).mem = s.mem := rfl
@[simp] theorem bump_ft (r n : Nat) : (bump s r n).ft = s.ft := rfl
@[simp] theorem bump_stepCtr (r n : Nat) : (bump s r n).stepCtr = s.stepCtr := rfl
@[simp] theorem bump_thl (r n : Nat) : (bump s r n).thl = s.thl := rfl
@[simp] theorem bump_tier (r n : Nat) : (bump s r n).tier = s.tier := rfl
@[simp] theorem bump_stackList (r n : Nat) : (bump s r n).stackList = s.stackList := rfl
@[simp] theorem bump_cmd (r n : Nat) : (bump s r n).cmd = s.cmd := rfl
@[simp] theorem bump_hst (r n : Nat) : (bump s r n).hst = s.hst := rfl
@[simp] theorem bump_shk (r n : Nat) : (bump s r n).shk = s.shk := rfl
@[simp] theorem bump_sor (r n : Nat) : (bump s r n).sor = s.sor := rfl
@[simp] theorem bump_seq (r n : Nat) : (bump s r n).seq = s.seq := rfl
@[simp] theorem bump_rau (r n : Nat) : (bump s r n).rau = s.rau := rfl
@[simp] theorem bump_scl (r n : Nat) : (bump s r n).scl = s.scl := rfl
@[simp] theorem bump_recov (r n : Nat) : (bump s r n).recov = s.recov := rfl
@[simp] theorem bump_evg (r n : Nat) : (bump s r n).evg = s.evg := rfl
@[simp] theorem bump_mgt (r n : Nat) : (bump s r n).mgt = s.mgt := rfl
@[simp] theorem bump_rst (r n : Nat) : (bump s r n).rst = s.rst := rfl
@[simp] theorem bump_pending (r n : Nat) : (bump s r n).pending = s.pending := rfl
@[simp] theorem bump_out (r n : Nat) : (bump s r n).out = s.out := rfl
@[simp] theorem bump_free (r n : Nat) : (bump s r n).free = s.free := rfl

/-! ## cntAdd: adding to a record word changes the counter block alone. -/

@[simp] theorem cntAdd_regs (w n : Nat) : (cntAdd s w n).regs = s.regs := rfl
@[simp] theorem cntAdd_mem (w n : Nat) : (cntAdd s w n).mem = s.mem := rfl
@[simp] theorem cntAdd_ft (w n : Nat) : (cntAdd s w n).ft = s.ft := rfl
@[simp] theorem cntAdd_stepCtr (w n : Nat) : (cntAdd s w n).stepCtr = s.stepCtr := rfl
@[simp] theorem cntAdd_thl (w n : Nat) : (cntAdd s w n).thl = s.thl := rfl
@[simp] theorem cntAdd_tier (w n : Nat) : (cntAdd s w n).tier = s.tier := rfl
@[simp] theorem cntAdd_stackList (w n : Nat) : (cntAdd s w n).stackList = s.stackList := rfl
@[simp] theorem cntAdd_cmd (w n : Nat) : (cntAdd s w n).cmd = s.cmd := rfl
@[simp] theorem cntAdd_hst (w n : Nat) : (cntAdd s w n).hst = s.hst := rfl
@[simp] theorem cntAdd_shk (w n : Nat) : (cntAdd s w n).shk = s.shk := rfl
@[simp] theorem cntAdd_sor (w n : Nat) : (cntAdd s w n).sor = s.sor := rfl
@[simp] theorem cntAdd_seq (w n : Nat) : (cntAdd s w n).seq = s.seq := rfl
@[simp] theorem cntAdd_rau (w n : Nat) : (cntAdd s w n).rau = s.rau := rfl
@[simp] theorem cntAdd_scl (w n : Nat) : (cntAdd s w n).scl = s.scl := rfl
@[simp] theorem cntAdd_recov (w n : Nat) : (cntAdd s w n).recov = s.recov := rfl
@[simp] theorem cntAdd_evg (w n : Nat) : (cntAdd s w n).evg = s.evg := rfl
@[simp] theorem cntAdd_mgt (w n : Nat) : (cntAdd s w n).mgt = s.mgt := rfl
@[simp] theorem cntAdd_rst (w n : Nat) : (cntAdd s w n).rst = s.rst := rfl
@[simp] theorem cntAdd_pending (w n : Nat) : (cntAdd s w n).pending = s.pending := rfl
@[simp] theorem cntAdd_out (w n : Nat) : (cntAdd s w n).out = s.out := rfl
@[simp] theorem cntAdd_free (w n : Nat) : (cntAdd s w n).free = s.free := rfl

/-! ## setBytes: storing bytes changes memory alone. -/

@[simp] theorem setBytes_regs (a : Nat) (bs : List Byte) : (setBytes s a bs).regs = s.regs := rfl
@[simp] theorem setBytes_ft (a : Nat) (bs : List Byte) : (setBytes s a bs).ft = s.ft := rfl
@[simp] theorem setBytes_stepCtr (a : Nat) (bs : List Byte) : (setBytes s a bs).stepCtr = s.stepCtr := rfl
@[simp] theorem setBytes_thl (a : Nat) (bs : List Byte) : (setBytes s a bs).thl = s.thl := rfl
@[simp] theorem setBytes_tier (a : Nat) (bs : List Byte) : (setBytes s a bs).tier = s.tier := rfl
@[simp] theorem setBytes_stackList (a : Nat) (bs : List Byte) : (setBytes s a bs).stackList = s.stackList := rfl
@[simp] theorem setBytes_cmd (a : Nat) (bs : List Byte) : (setBytes s a bs).cmd = s.cmd := rfl
@[simp] theorem setBytes_hst (a : Nat) (bs : List Byte) : (setBytes s a bs).hst = s.hst := rfl
@[simp] theorem setBytes_shk (a : Nat) (bs : List Byte) : (setBytes s a bs).shk = s.shk := rfl
@[simp] theorem setBytes_sor (a : Nat) (bs : List Byte) : (setBytes s a bs).sor = s.sor := rfl
@[simp] theorem setBytes_seq (a : Nat) (bs : List Byte) : (setBytes s a bs).seq = s.seq := rfl
@[simp] theorem setBytes_rau (a : Nat) (bs : List Byte) : (setBytes s a bs).rau = s.rau := rfl
@[simp] theorem setBytes_scl (a : Nat) (bs : List Byte) : (setBytes s a bs).scl = s.scl := rfl
@[simp] theorem setBytes_recov (a : Nat) (bs : List Byte) : (setBytes s a bs).recov = s.recov := rfl
@[simp] theorem setBytes_evg (a : Nat) (bs : List Byte) : (setBytes s a bs).evg = s.evg := rfl
@[simp] theorem setBytes_cnt (a : Nat) (bs : List Byte) : (setBytes s a bs).cnt = s.cnt := rfl
@[simp] theorem setBytes_mgt (a : Nat) (bs : List Byte) : (setBytes s a bs).mgt = s.mgt := rfl
@[simp] theorem setBytes_rst (a : Nat) (bs : List Byte) : (setBytes s a bs).rst = s.rst := rfl
@[simp] theorem setBytes_pending (a : Nat) (bs : List Byte) : (setBytes s a bs).pending = s.pending := rfl
@[simp] theorem setBytes_out (a : Nat) (bs : List Byte) : (setBytes s a bs).out = s.out := rfl
@[simp] theorem setBytes_free (a : Nat) (bs : List Byte) : (setBytes s a bs).free = s.free := rfl

/-! ## zeroKeys: zeroing keys changes memory alone. -/

@[simp] theorem zeroKeys_regs (a n : Nat) : (zeroKeys s a n).regs = s.regs := rfl
@[simp] theorem zeroKeys_ft (a n : Nat) : (zeroKeys s a n).ft = s.ft := rfl
@[simp] theorem zeroKeys_stepCtr (a n : Nat) : (zeroKeys s a n).stepCtr = s.stepCtr := rfl
@[simp] theorem zeroKeys_thl (a n : Nat) : (zeroKeys s a n).thl = s.thl := rfl
@[simp] theorem zeroKeys_tier (a n : Nat) : (zeroKeys s a n).tier = s.tier := rfl
@[simp] theorem zeroKeys_stackList (a n : Nat) : (zeroKeys s a n).stackList = s.stackList := rfl
@[simp] theorem zeroKeys_cmd (a n : Nat) : (zeroKeys s a n).cmd = s.cmd := rfl
@[simp] theorem zeroKeys_hst (a n : Nat) : (zeroKeys s a n).hst = s.hst := rfl
@[simp] theorem zeroKeys_shk (a n : Nat) : (zeroKeys s a n).shk = s.shk := rfl
@[simp] theorem zeroKeys_sor (a n : Nat) : (zeroKeys s a n).sor = s.sor := rfl
@[simp] theorem zeroKeys_seq (a n : Nat) : (zeroKeys s a n).seq = s.seq := rfl
@[simp] theorem zeroKeys_rau (a n : Nat) : (zeroKeys s a n).rau = s.rau := rfl
@[simp] theorem zeroKeys_scl (a n : Nat) : (zeroKeys s a n).scl = s.scl := rfl
@[simp] theorem zeroKeys_recov (a n : Nat) : (zeroKeys s a n).recov = s.recov := rfl
@[simp] theorem zeroKeys_evg (a n : Nat) : (zeroKeys s a n).evg = s.evg := rfl
@[simp] theorem zeroKeys_cnt (a n : Nat) : (zeroKeys s a n).cnt = s.cnt := rfl
@[simp] theorem zeroKeys_mgt (a n : Nat) : (zeroKeys s a n).mgt = s.mgt := rfl
@[simp] theorem zeroKeys_rst (a n : Nat) : (zeroKeys s a n).rst = s.rst := rfl
@[simp] theorem zeroKeys_pending (a n : Nat) : (zeroKeys s a n).pending = s.pending := rfl
@[simp] theorem zeroKeys_out (a n : Nat) : (zeroKeys s a n).out = s.out := rfl
@[simp] theorem zeroKeys_free (a n : Nat) : (zeroKeys s a n).free = s.free := rfl

/-! ## emit: recording an output changes the list of outputs alone. -/

@[simp] theorem emit_regs (o : Out) : (emit s o).regs = s.regs := rfl
@[simp] theorem emit_mem (o : Out) : (emit s o).mem = s.mem := rfl
@[simp] theorem emit_ft (o : Out) : (emit s o).ft = s.ft := rfl
@[simp] theorem emit_stepCtr (o : Out) : (emit s o).stepCtr = s.stepCtr := rfl
@[simp] theorem emit_thl (o : Out) : (emit s o).thl = s.thl := rfl
@[simp] theorem emit_tier (o : Out) : (emit s o).tier = s.tier := rfl
@[simp] theorem emit_stackList (o : Out) : (emit s o).stackList = s.stackList := rfl
@[simp] theorem emit_cmd (o : Out) : (emit s o).cmd = s.cmd := rfl
@[simp] theorem emit_hst (o : Out) : (emit s o).hst = s.hst := rfl
@[simp] theorem emit_shk (o : Out) : (emit s o).shk = s.shk := rfl
@[simp] theorem emit_sor (o : Out) : (emit s o).sor = s.sor := rfl
@[simp] theorem emit_seq (o : Out) : (emit s o).seq = s.seq := rfl
@[simp] theorem emit_rau (o : Out) : (emit s o).rau = s.rau := rfl
@[simp] theorem emit_scl (o : Out) : (emit s o).scl = s.scl := rfl
@[simp] theorem emit_recov (o : Out) : (emit s o).recov = s.recov := rfl
@[simp] theorem emit_evg (o : Out) : (emit s o).evg = s.evg := rfl
@[simp] theorem emit_cnt (o : Out) : (emit s o).cnt = s.cnt := rfl
@[simp] theorem emit_mgt (o : Out) : (emit s o).mgt = s.mgt := rfl
@[simp] theorem emit_rst (o : Out) : (emit s o).rst = s.rst := rfl
@[simp] theorem emit_pending (o : Out) : (emit s o).pending = s.pending := rfl
@[simp] theorem emit_free (o : Out) : (emit s o).free = s.free := rfl

/-! ## takeFree: taking a free value advances its counter alone. -/

@[simp] theorem takeFree_regs (w : Nat) : ((takeFree w s).2).regs = s.regs := rfl
@[simp] theorem takeFree_mem (w : Nat) : ((takeFree w s).2).mem = s.mem := rfl
@[simp] theorem takeFree_ft (w : Nat) : ((takeFree w s).2).ft = s.ft := rfl
@[simp] theorem takeFree_stepCtr (w : Nat) : ((takeFree w s).2).stepCtr = s.stepCtr := rfl
@[simp] theorem takeFree_thl (w : Nat) : ((takeFree w s).2).thl = s.thl := rfl
@[simp] theorem takeFree_tier (w : Nat) : ((takeFree w s).2).tier = s.tier := rfl
@[simp] theorem takeFree_stackList (w : Nat) : ((takeFree w s).2).stackList = s.stackList := rfl
@[simp] theorem takeFree_cmd (w : Nat) : ((takeFree w s).2).cmd = s.cmd := rfl
@[simp] theorem takeFree_hst (w : Nat) : ((takeFree w s).2).hst = s.hst := rfl
@[simp] theorem takeFree_shk (w : Nat) : ((takeFree w s).2).shk = s.shk := rfl
@[simp] theorem takeFree_sor (w : Nat) : ((takeFree w s).2).sor = s.sor := rfl
@[simp] theorem takeFree_seq (w : Nat) : ((takeFree w s).2).seq = s.seq := rfl
@[simp] theorem takeFree_rau (w : Nat) : ((takeFree w s).2).rau = s.rau := rfl
@[simp] theorem takeFree_scl (w : Nat) : ((takeFree w s).2).scl = s.scl := rfl
@[simp] theorem takeFree_recov (w : Nat) : ((takeFree w s).2).recov = s.recov := rfl
@[simp] theorem takeFree_evg (w : Nat) : ((takeFree w s).2).evg = s.evg := rfl
@[simp] theorem takeFree_cnt (w : Nat) : ((takeFree w s).2).cnt = s.cnt := rfl
@[simp] theorem takeFree_mgt (w : Nat) : ((takeFree w s).2).mgt = s.mgt := rfl
@[simp] theorem takeFree_rst (w : Nat) : ((takeFree w s).2).rst = s.rst := rfl
@[simp] theorem takeFree_pending (w : Nat) : ((takeFree w s).2).pending = s.pending := rfl
@[simp] theorem takeFree_out (w : Nat) : ((takeFree w s).2).out = s.out := rfl

/-! ## modStack: changing a stack changes the list of stacks alone. -/

@[simp] theorem modStack_regs (n : Nat) (f : Stack → Stack) : (modStack s n f).regs = s.regs := rfl
@[simp] theorem modStack_mem (n : Nat) (f : Stack → Stack) : (modStack s n f).mem = s.mem := rfl
@[simp] theorem modStack_ft (n : Nat) (f : Stack → Stack) : (modStack s n f).ft = s.ft := rfl
@[simp] theorem modStack_stepCtr (n : Nat) (f : Stack → Stack) : (modStack s n f).stepCtr = s.stepCtr := rfl
@[simp] theorem modStack_thl (n : Nat) (f : Stack → Stack) : (modStack s n f).thl = s.thl := rfl
@[simp] theorem modStack_tier (n : Nat) (f : Stack → Stack) : (modStack s n f).tier = s.tier := rfl
@[simp] theorem modStack_cmd (n : Nat) (f : Stack → Stack) : (modStack s n f).cmd = s.cmd := rfl
@[simp] theorem modStack_hst (n : Nat) (f : Stack → Stack) : (modStack s n f).hst = s.hst := rfl
@[simp] theorem modStack_shk (n : Nat) (f : Stack → Stack) : (modStack s n f).shk = s.shk := rfl
@[simp] theorem modStack_sor (n : Nat) (f : Stack → Stack) : (modStack s n f).sor = s.sor := rfl
@[simp] theorem modStack_seq (n : Nat) (f : Stack → Stack) : (modStack s n f).seq = s.seq := rfl
@[simp] theorem modStack_rau (n : Nat) (f : Stack → Stack) : (modStack s n f).rau = s.rau := rfl
@[simp] theorem modStack_scl (n : Nat) (f : Stack → Stack) : (modStack s n f).scl = s.scl := rfl
@[simp] theorem modStack_recov (n : Nat) (f : Stack → Stack) : (modStack s n f).recov = s.recov := rfl
@[simp] theorem modStack_evg (n : Nat) (f : Stack → Stack) : (modStack s n f).evg = s.evg := rfl
@[simp] theorem modStack_cnt (n : Nat) (f : Stack → Stack) : (modStack s n f).cnt = s.cnt := rfl
@[simp] theorem modStack_mgt (n : Nat) (f : Stack → Stack) : (modStack s n f).mgt = s.mgt := rfl
@[simp] theorem modStack_rst (n : Nat) (f : Stack → Stack) : (modStack s n f).rst = s.rst := rfl
@[simp] theorem modStack_pending (n : Nat) (f : Stack → Stack) : (modStack s n f).pending = s.pending := rfl
@[simp] theorem modStack_out (n : Nat) (f : Stack → Stack) : (modStack s n f).out = s.out := rfl
@[simp] theorem modStack_free (n : Nat) (f : Stack → Stack) : (modStack s n f).free = s.free := rfl

/-! ## modFrond: changing a frond changes the sequencer alone. -/

@[simp] theorem modFrond_regs (n : Nat) (f : FrondState → FrondState) : (modFrond s n f).regs = s.regs := rfl
@[simp] theorem modFrond_mem (n : Nat) (f : FrondState → FrondState) : (modFrond s n f).mem = s.mem := rfl
@[simp] theorem modFrond_ft (n : Nat) (f : FrondState → FrondState) : (modFrond s n f).ft = s.ft := rfl
@[simp] theorem modFrond_stepCtr (n : Nat) (f : FrondState → FrondState) : (modFrond s n f).stepCtr = s.stepCtr := rfl
@[simp] theorem modFrond_thl (n : Nat) (f : FrondState → FrondState) : (modFrond s n f).thl = s.thl := rfl
@[simp] theorem modFrond_tier (n : Nat) (f : FrondState → FrondState) : (modFrond s n f).tier = s.tier := rfl
@[simp] theorem modFrond_stackList (n : Nat) (f : FrondState → FrondState) : (modFrond s n f).stackList = s.stackList := rfl
@[simp] theorem modFrond_cmd (n : Nat) (f : FrondState → FrondState) : (modFrond s n f).cmd = s.cmd := rfl
@[simp] theorem modFrond_hst (n : Nat) (f : FrondState → FrondState) : (modFrond s n f).hst = s.hst := rfl
@[simp] theorem modFrond_shk (n : Nat) (f : FrondState → FrondState) : (modFrond s n f).shk = s.shk := rfl
@[simp] theorem modFrond_sor (n : Nat) (f : FrondState → FrondState) : (modFrond s n f).sor = s.sor := rfl
@[simp] theorem modFrond_rau (n : Nat) (f : FrondState → FrondState) : (modFrond s n f).rau = s.rau := rfl
@[simp] theorem modFrond_scl (n : Nat) (f : FrondState → FrondState) : (modFrond s n f).scl = s.scl := rfl
@[simp] theorem modFrond_recov (n : Nat) (f : FrondState → FrondState) : (modFrond s n f).recov = s.recov := rfl
@[simp] theorem modFrond_evg (n : Nat) (f : FrondState → FrondState) : (modFrond s n f).evg = s.evg := rfl
@[simp] theorem modFrond_cnt (n : Nat) (f : FrondState → FrondState) : (modFrond s n f).cnt = s.cnt := rfl
@[simp] theorem modFrond_mgt (n : Nat) (f : FrondState → FrondState) : (modFrond s n f).mgt = s.mgt := rfl
@[simp] theorem modFrond_rst (n : Nat) (f : FrondState → FrondState) : (modFrond s n f).rst = s.rst := rfl
@[simp] theorem modFrond_pending (n : Nat) (f : FrondState → FrondState) : (modFrond s n f).pending = s.pending := rfl
@[simp] theorem modFrond_out (n : Nat) (f : FrondState → FrondState) : (modFrond s n f).out = s.out := rfl
@[simp] theorem modFrond_free (n : Nat) (f : FrondState → FrondState) : (modFrond s n f).free = s.free := rfl

/-! ## modPort: changing a port changes the links alone. -/

@[simp] theorem modPort_regs (n : Nat) (f : Port → Port) : (modPort s n f).regs = s.regs := rfl
@[simp] theorem modPort_mem (n : Nat) (f : Port → Port) : (modPort s n f).mem = s.mem := rfl
@[simp] theorem modPort_ft (n : Nat) (f : Port → Port) : (modPort s n f).ft = s.ft := rfl
@[simp] theorem modPort_stepCtr (n : Nat) (f : Port → Port) : (modPort s n f).stepCtr = s.stepCtr := rfl
@[simp] theorem modPort_thl (n : Nat) (f : Port → Port) : (modPort s n f).thl = s.thl := rfl
@[simp] theorem modPort_tier (n : Nat) (f : Port → Port) : (modPort s n f).tier = s.tier := rfl
@[simp] theorem modPort_stackList (n : Nat) (f : Port → Port) : (modPort s n f).stackList = s.stackList := rfl
@[simp] theorem modPort_cmd (n : Nat) (f : Port → Port) : (modPort s n f).cmd = s.cmd := rfl
@[simp] theorem modPort_hst (n : Nat) (f : Port → Port) : (modPort s n f).hst = s.hst := rfl
@[simp] theorem modPort_sor (n : Nat) (f : Port → Port) : (modPort s n f).sor = s.sor := rfl
@[simp] theorem modPort_seq (n : Nat) (f : Port → Port) : (modPort s n f).seq = s.seq := rfl
@[simp] theorem modPort_rau (n : Nat) (f : Port → Port) : (modPort s n f).rau = s.rau := rfl
@[simp] theorem modPort_scl (n : Nat) (f : Port → Port) : (modPort s n f).scl = s.scl := rfl
@[simp] theorem modPort_recov (n : Nat) (f : Port → Port) : (modPort s n f).recov = s.recov := rfl
@[simp] theorem modPort_evg (n : Nat) (f : Port → Port) : (modPort s n f).evg = s.evg := rfl
@[simp] theorem modPort_cnt (n : Nat) (f : Port → Port) : (modPort s n f).cnt = s.cnt := rfl
@[simp] theorem modPort_mgt (n : Nat) (f : Port → Port) : (modPort s n f).mgt = s.mgt := rfl
@[simp] theorem modPort_rst (n : Nat) (f : Port → Port) : (modPort s n f).rst = s.rst := rfl
@[simp] theorem modPort_pending (n : Nat) (f : Port → Port) : (modPort s n f).pending = s.pending := rfl
@[simp] theorem modPort_out (n : Nat) (f : Port → Port) : (modPort s n f).out = s.out := rfl
@[simp] theorem modPort_free (n : Nat) (f : Port → Port) : (modPort s n f).free = s.free := rfl

/-! ## setFlowIn: changing an incoming flow changes the links alone. -/

@[simp] theorem setFlowIn_regs (f : FlowIn) : (setFlowIn s f).regs = s.regs := rfl
@[simp] theorem setFlowIn_mem (f : FlowIn) : (setFlowIn s f).mem = s.mem := rfl
@[simp] theorem setFlowIn_ft (f : FlowIn) : (setFlowIn s f).ft = s.ft := rfl
@[simp] theorem setFlowIn_stepCtr (f : FlowIn) : (setFlowIn s f).stepCtr = s.stepCtr := rfl
@[simp] theorem setFlowIn_thl (f : FlowIn) : (setFlowIn s f).thl = s.thl := rfl
@[simp] theorem setFlowIn_tier (f : FlowIn) : (setFlowIn s f).tier = s.tier := rfl
@[simp] theorem setFlowIn_stackList (f : FlowIn) : (setFlowIn s f).stackList = s.stackList := rfl
@[simp] theorem setFlowIn_cmd (f : FlowIn) : (setFlowIn s f).cmd = s.cmd := rfl
@[simp] theorem setFlowIn_hst (f : FlowIn) : (setFlowIn s f).hst = s.hst := rfl
@[simp] theorem setFlowIn_sor (f : FlowIn) : (setFlowIn s f).sor = s.sor := rfl
@[simp] theorem setFlowIn_seq (f : FlowIn) : (setFlowIn s f).seq = s.seq := rfl
@[simp] theorem setFlowIn_rau (f : FlowIn) : (setFlowIn s f).rau = s.rau := rfl
@[simp] theorem setFlowIn_scl (f : FlowIn) : (setFlowIn s f).scl = s.scl := rfl
@[simp] theorem setFlowIn_recov (f : FlowIn) : (setFlowIn s f).recov = s.recov := rfl
@[simp] theorem setFlowIn_evg (f : FlowIn) : (setFlowIn s f).evg = s.evg := rfl
@[simp] theorem setFlowIn_cnt (f : FlowIn) : (setFlowIn s f).cnt = s.cnt := rfl
@[simp] theorem setFlowIn_mgt (f : FlowIn) : (setFlowIn s f).mgt = s.mgt := rfl
@[simp] theorem setFlowIn_rst (f : FlowIn) : (setFlowIn s f).rst = s.rst := rfl
@[simp] theorem setFlowIn_pending (f : FlowIn) : (setFlowIn s f).pending = s.pending := rfl
@[simp] theorem setFlowIn_out (f : FlowIn) : (setFlowIn s f).out = s.out := rfl
@[simp] theorem setFlowIn_free (f : FlowIn) : (setFlowIn s f).free = s.free := rfl

/-! ## setFlowOut: changing an outgoing flow changes the links alone. -/

@[simp] theorem setFlowOut_regs (f : FlowOut) : (setFlowOut s f).regs = s.regs := rfl
@[simp] theorem setFlowOut_mem (f : FlowOut) : (setFlowOut s f).mem = s.mem := rfl
@[simp] theorem setFlowOut_ft (f : FlowOut) : (setFlowOut s f).ft = s.ft := rfl
@[simp] theorem setFlowOut_stepCtr (f : FlowOut) : (setFlowOut s f).stepCtr = s.stepCtr := rfl
@[simp] theorem setFlowOut_thl (f : FlowOut) : (setFlowOut s f).thl = s.thl := rfl
@[simp] theorem setFlowOut_tier (f : FlowOut) : (setFlowOut s f).tier = s.tier := rfl
@[simp] theorem setFlowOut_stackList (f : FlowOut) : (setFlowOut s f).stackList = s.stackList := rfl
@[simp] theorem setFlowOut_cmd (f : FlowOut) : (setFlowOut s f).cmd = s.cmd := rfl
@[simp] theorem setFlowOut_hst (f : FlowOut) : (setFlowOut s f).hst = s.hst := rfl
@[simp] theorem setFlowOut_sor (f : FlowOut) : (setFlowOut s f).sor = s.sor := rfl
@[simp] theorem setFlowOut_seq (f : FlowOut) : (setFlowOut s f).seq = s.seq := rfl
@[simp] theorem setFlowOut_rau (f : FlowOut) : (setFlowOut s f).rau = s.rau := rfl
@[simp] theorem setFlowOut_scl (f : FlowOut) : (setFlowOut s f).scl = s.scl := rfl
@[simp] theorem setFlowOut_recov (f : FlowOut) : (setFlowOut s f).recov = s.recov := rfl
@[simp] theorem setFlowOut_evg (f : FlowOut) : (setFlowOut s f).evg = s.evg := rfl
@[simp] theorem setFlowOut_cnt (f : FlowOut) : (setFlowOut s f).cnt = s.cnt := rfl
@[simp] theorem setFlowOut_mgt (f : FlowOut) : (setFlowOut s f).mgt = s.mgt := rfl
@[simp] theorem setFlowOut_rst (f : FlowOut) : (setFlowOut s f).rst = s.rst := rfl
@[simp] theorem setFlowOut_pending (f : FlowOut) : (setFlowOut s f).pending = s.pending := rfl
@[simp] theorem setFlowOut_out (f : FlowOut) : (setFlowOut s f).out = s.out := rfl
@[simp] theorem setFlowOut_free (f : FlowOut) : (setFlowOut s f).free = s.free := rfl

/-! ## modCmd: changing a command in progress changes the command intake alone. -/

@[simp] theorem modCmd_regs (i : Nat) (f : Cmd → Cmd) : (modCmd s i f).regs = s.regs := rfl
@[simp] theorem modCmd_mem (i : Nat) (f : Cmd → Cmd) : (modCmd s i f).mem = s.mem := rfl
@[simp] theorem modCmd_ft (i : Nat) (f : Cmd → Cmd) : (modCmd s i f).ft = s.ft := rfl
@[simp] theorem modCmd_stepCtr (i : Nat) (f : Cmd → Cmd) : (modCmd s i f).stepCtr = s.stepCtr := rfl
@[simp] theorem modCmd_thl (i : Nat) (f : Cmd → Cmd) : (modCmd s i f).thl = s.thl := rfl
@[simp] theorem modCmd_tier (i : Nat) (f : Cmd → Cmd) : (modCmd s i f).tier = s.tier := rfl
@[simp] theorem modCmd_stackList (i : Nat) (f : Cmd → Cmd) : (modCmd s i f).stackList = s.stackList := rfl
@[simp] theorem modCmd_hst (i : Nat) (f : Cmd → Cmd) : (modCmd s i f).hst = s.hst := rfl
@[simp] theorem modCmd_shk (i : Nat) (f : Cmd → Cmd) : (modCmd s i f).shk = s.shk := rfl
@[simp] theorem modCmd_sor (i : Nat) (f : Cmd → Cmd) : (modCmd s i f).sor = s.sor := rfl
@[simp] theorem modCmd_seq (i : Nat) (f : Cmd → Cmd) : (modCmd s i f).seq = s.seq := rfl
@[simp] theorem modCmd_rau (i : Nat) (f : Cmd → Cmd) : (modCmd s i f).rau = s.rau := rfl
@[simp] theorem modCmd_scl (i : Nat) (f : Cmd → Cmd) : (modCmd s i f).scl = s.scl := rfl
@[simp] theorem modCmd_recov (i : Nat) (f : Cmd → Cmd) : (modCmd s i f).recov = s.recov := rfl
@[simp] theorem modCmd_evg (i : Nat) (f : Cmd → Cmd) : (modCmd s i f).evg = s.evg := rfl
@[simp] theorem modCmd_cnt (i : Nat) (f : Cmd → Cmd) : (modCmd s i f).cnt = s.cnt := rfl
@[simp] theorem modCmd_mgt (i : Nat) (f : Cmd → Cmd) : (modCmd s i f).mgt = s.mgt := rfl
@[simp] theorem modCmd_rst (i : Nat) (f : Cmd → Cmd) : (modCmd s i f).rst = s.rst := rfl
@[simp] theorem modCmd_pending (i : Nat) (f : Cmd → Cmd) : (modCmd s i f).pending = s.pending := rfl
@[simp] theorem modCmd_out (i : Nat) (f : Cmd → Cmd) : (modCmd s i f).out = s.out := rfl
@[simp] theorem modCmd_free (i : Nat) (f : Cmd → Cmd) : (modCmd s i f).free = s.free := rfl

/-! ## setBlk: changing a block changes the RAU alone. -/

@[simp] theorem setBlk_regs (x : BlockState) : (setBlk s x).regs = s.regs := rfl
@[simp] theorem setBlk_mem (x : BlockState) : (setBlk s x).mem = s.mem := rfl
@[simp] theorem setBlk_ft (x : BlockState) : (setBlk s x).ft = s.ft := rfl
@[simp] theorem setBlk_stepCtr (x : BlockState) : (setBlk s x).stepCtr = s.stepCtr := rfl
@[simp] theorem setBlk_thl (x : BlockState) : (setBlk s x).thl = s.thl := rfl
@[simp] theorem setBlk_tier (x : BlockState) : (setBlk s x).tier = s.tier := rfl
@[simp] theorem setBlk_stackList (x : BlockState) : (setBlk s x).stackList = s.stackList := rfl
@[simp] theorem setBlk_cmd (x : BlockState) : (setBlk s x).cmd = s.cmd := rfl
@[simp] theorem setBlk_hst (x : BlockState) : (setBlk s x).hst = s.hst := rfl
@[simp] theorem setBlk_shk (x : BlockState) : (setBlk s x).shk = s.shk := rfl
@[simp] theorem setBlk_sor (x : BlockState) : (setBlk s x).sor = s.sor := rfl
@[simp] theorem setBlk_seq (x : BlockState) : (setBlk s x).seq = s.seq := rfl
@[simp] theorem setBlk_scl (x : BlockState) : (setBlk s x).scl = s.scl := rfl
@[simp] theorem setBlk_recov (x : BlockState) : (setBlk s x).recov = s.recov := rfl
@[simp] theorem setBlk_evg (x : BlockState) : (setBlk s x).evg = s.evg := rfl
@[simp] theorem setBlk_cnt (x : BlockState) : (setBlk s x).cnt = s.cnt := rfl
@[simp] theorem setBlk_mgt (x : BlockState) : (setBlk s x).mgt = s.mgt := rfl
@[simp] theorem setBlk_rst (x : BlockState) : (setBlk s x).rst = s.rst := rfl
@[simp] theorem setBlk_pending (x : BlockState) : (setBlk s x).pending = s.pending := rfl
@[simp] theorem setBlk_out (x : BlockState) : (setBlk s x).out = s.out := rfl
@[simp] theorem setBlk_free (x : BlockState) : (setBlk s x).free = s.free := rfl

/-! ## queueMsg: a message that waits changes the sorus engines' queues alone. -/

@[simp] theorem queueMsg_regs (m : Message) : (queueMsg s m).regs = s.regs := rfl
@[simp] theorem queueMsg_mem (m : Message) : (queueMsg s m).mem = s.mem := rfl
@[simp] theorem queueMsg_ft (m : Message) : (queueMsg s m).ft = s.ft := rfl
@[simp] theorem queueMsg_stepCtr (m : Message) : (queueMsg s m).stepCtr = s.stepCtr := rfl
@[simp] theorem queueMsg_thl (m : Message) : (queueMsg s m).thl = s.thl := rfl
@[simp] theorem queueMsg_tier (m : Message) : (queueMsg s m).tier = s.tier := rfl
@[simp] theorem queueMsg_stackList (m : Message) : (queueMsg s m).stackList = s.stackList := rfl
@[simp] theorem queueMsg_cmd (m : Message) : (queueMsg s m).cmd = s.cmd := rfl
@[simp] theorem queueMsg_hst (m : Message) : (queueMsg s m).hst = s.hst := rfl
@[simp] theorem queueMsg_shk (m : Message) : (queueMsg s m).shk = s.shk := rfl
@[simp] theorem queueMsg_seq (m : Message) : (queueMsg s m).seq = s.seq := rfl
@[simp] theorem queueMsg_rau (m : Message) : (queueMsg s m).rau = s.rau := rfl
@[simp] theorem queueMsg_scl (m : Message) : (queueMsg s m).scl = s.scl := rfl
@[simp] theorem queueMsg_recov (m : Message) : (queueMsg s m).recov = s.recov := rfl
@[simp] theorem queueMsg_evg (m : Message) : (queueMsg s m).evg = s.evg := rfl
@[simp] theorem queueMsg_cnt (m : Message) : (queueMsg s m).cnt = s.cnt := rfl
@[simp] theorem queueMsg_mgt (m : Message) : (queueMsg s m).mgt = s.mgt := rfl
@[simp] theorem queueMsg_rst (m : Message) : (queueMsg s m).rst = s.rst := rfl
@[simp] theorem queueMsg_pending (m : Message) : (queueMsg s m).pending = s.pending := rfl
@[simp] theorem queueMsg_out (m : Message) : (queueMsg s m).out = s.out := rfl
@[simp] theorem queueMsg_free (m : Message) : (queueMsg s m).free = s.free := rfl

/-! ## setTable: changing a table changes the sorus engines alone. -/

@[simp] theorem setTable_regs (x : TableState) : (setTable s x).regs = s.regs := rfl
@[simp] theorem setTable_mem (x : TableState) : (setTable s x).mem = s.mem := rfl
@[simp] theorem setTable_ft (x : TableState) : (setTable s x).ft = s.ft := rfl
@[simp] theorem setTable_stepCtr (x : TableState) : (setTable s x).stepCtr = s.stepCtr := rfl
@[simp] theorem setTable_thl (x : TableState) : (setTable s x).thl = s.thl := rfl
@[simp] theorem setTable_tier (x : TableState) : (setTable s x).tier = s.tier := rfl
@[simp] theorem setTable_stackList (x : TableState) : (setTable s x).stackList = s.stackList := rfl
@[simp] theorem setTable_cmd (x : TableState) : (setTable s x).cmd = s.cmd := rfl
@[simp] theorem setTable_hst (x : TableState) : (setTable s x).hst = s.hst := rfl
@[simp] theorem setTable_shk (x : TableState) : (setTable s x).shk = s.shk := rfl
@[simp] theorem setTable_seq (x : TableState) : (setTable s x).seq = s.seq := rfl
@[simp] theorem setTable_rau (x : TableState) : (setTable s x).rau = s.rau := rfl
@[simp] theorem setTable_scl (x : TableState) : (setTable s x).scl = s.scl := rfl
@[simp] theorem setTable_recov (x : TableState) : (setTable s x).recov = s.recov := rfl
@[simp] theorem setTable_evg (x : TableState) : (setTable s x).evg = s.evg := rfl
@[simp] theorem setTable_cnt (x : TableState) : (setTable s x).cnt = s.cnt := rfl
@[simp] theorem setTable_mgt (x : TableState) : (setTable s x).mgt = s.mgt := rfl
@[simp] theorem setTable_rst (x : TableState) : (setTable s x).rst = s.rst := rfl
@[simp] theorem setTable_pending (x : TableState) : (setTable s x).pending = s.pending := rfl
@[simp] theorem setTable_out (x : TableState) : (setTable s x).out = s.out := rfl
@[simp] theorem setTable_free (x : TableState) : (setTable s x).free = s.free := rfl

/-! ## wantRow: asking for lines of a row changes the sorus engines alone. -/

@[simp] theorem wantRow_regs (own : Nat) (d : List Byte) (rem : Bool) (l k : Nat) : (wantRow s own d rem l k).regs = s.regs := rfl
@[simp] theorem wantRow_mem (own : Nat) (d : List Byte) (rem : Bool) (l k : Nat) : (wantRow s own d rem l k).mem = s.mem := rfl
@[simp] theorem wantRow_ft (own : Nat) (d : List Byte) (rem : Bool) (l k : Nat) : (wantRow s own d rem l k).ft = s.ft := rfl
@[simp] theorem wantRow_stepCtr (own : Nat) (d : List Byte) (rem : Bool) (l k : Nat) : (wantRow s own d rem l k).stepCtr = s.stepCtr := rfl
@[simp] theorem wantRow_thl (own : Nat) (d : List Byte) (rem : Bool) (l k : Nat) : (wantRow s own d rem l k).thl = s.thl := rfl
@[simp] theorem wantRow_tier (own : Nat) (d : List Byte) (rem : Bool) (l k : Nat) : (wantRow s own d rem l k).tier = s.tier := rfl
@[simp] theorem wantRow_stackList (own : Nat) (d : List Byte) (rem : Bool) (l k : Nat) : (wantRow s own d rem l k).stackList = s.stackList := rfl
@[simp] theorem wantRow_cmd (own : Nat) (d : List Byte) (rem : Bool) (l k : Nat) : (wantRow s own d rem l k).cmd = s.cmd := rfl
@[simp] theorem wantRow_hst (own : Nat) (d : List Byte) (rem : Bool) (l k : Nat) : (wantRow s own d rem l k).hst = s.hst := rfl
@[simp] theorem wantRow_shk (own : Nat) (d : List Byte) (rem : Bool) (l k : Nat) : (wantRow s own d rem l k).shk = s.shk := rfl
@[simp] theorem wantRow_seq (own : Nat) (d : List Byte) (rem : Bool) (l k : Nat) : (wantRow s own d rem l k).seq = s.seq := rfl
@[simp] theorem wantRow_rau (own : Nat) (d : List Byte) (rem : Bool) (l k : Nat) : (wantRow s own d rem l k).rau = s.rau := rfl
@[simp] theorem wantRow_scl (own : Nat) (d : List Byte) (rem : Bool) (l k : Nat) : (wantRow s own d rem l k).scl = s.scl := rfl
@[simp] theorem wantRow_recov (own : Nat) (d : List Byte) (rem : Bool) (l k : Nat) : (wantRow s own d rem l k).recov = s.recov := rfl
@[simp] theorem wantRow_evg (own : Nat) (d : List Byte) (rem : Bool) (l k : Nat) : (wantRow s own d rem l k).evg = s.evg := rfl
@[simp] theorem wantRow_cnt (own : Nat) (d : List Byte) (rem : Bool) (l k : Nat) : (wantRow s own d rem l k).cnt = s.cnt := rfl
@[simp] theorem wantRow_mgt (own : Nat) (d : List Byte) (rem : Bool) (l k : Nat) : (wantRow s own d rem l k).mgt = s.mgt := rfl
@[simp] theorem wantRow_rst (own : Nat) (d : List Byte) (rem : Bool) (l k : Nat) : (wantRow s own d rem l k).rst = s.rst := rfl
@[simp] theorem wantRow_pending (own : Nat) (d : List Byte) (rem : Bool) (l k : Nat) : (wantRow s own d rem l k).pending = s.pending := rfl
@[simp] theorem wantRow_out (own : Nat) (d : List Byte) (rem : Bool) (l k : Nat) : (wantRow s own d rem l k).out = s.out := rfl
@[simp] theorem wantRow_free (own : Nat) (d : List Byte) (rem : Bool) (l k : Nat) : (wantRow s own d rem l k).free = s.free := rfl

/-! ## waitRead: a read that waits changes the tier manager alone. -/

@[simp] theorem waitRead_regs (w : WaitRead) : (waitRead s w).regs = s.regs := rfl
@[simp] theorem waitRead_mem (w : WaitRead) : (waitRead s w).mem = s.mem := rfl
@[simp] theorem waitRead_ft (w : WaitRead) : (waitRead s w).ft = s.ft := rfl
@[simp] theorem waitRead_stepCtr (w : WaitRead) : (waitRead s w).stepCtr = s.stepCtr := rfl
@[simp] theorem waitRead_thl (w : WaitRead) : (waitRead s w).thl = s.thl := rfl
@[simp] theorem waitRead_stackList (w : WaitRead) : (waitRead s w).stackList = s.stackList := rfl
@[simp] theorem waitRead_cmd (w : WaitRead) : (waitRead s w).cmd = s.cmd := rfl
@[simp] theorem waitRead_hst (w : WaitRead) : (waitRead s w).hst = s.hst := rfl
@[simp] theorem waitRead_shk (w : WaitRead) : (waitRead s w).shk = s.shk := rfl
@[simp] theorem waitRead_sor (w : WaitRead) : (waitRead s w).sor = s.sor := rfl
@[simp] theorem waitRead_seq (w : WaitRead) : (waitRead s w).seq = s.seq := rfl
@[simp] theorem waitRead_rau (w : WaitRead) : (waitRead s w).rau = s.rau := rfl
@[simp] theorem waitRead_scl (w : WaitRead) : (waitRead s w).scl = s.scl := rfl
@[simp] theorem waitRead_recov (w : WaitRead) : (waitRead s w).recov = s.recov := rfl
@[simp] theorem waitRead_evg (w : WaitRead) : (waitRead s w).evg = s.evg := rfl
@[simp] theorem waitRead_cnt (w : WaitRead) : (waitRead s w).cnt = s.cnt := rfl
@[simp] theorem waitRead_mgt (w : WaitRead) : (waitRead s w).mgt = s.mgt := rfl
@[simp] theorem waitRead_rst (w : WaitRead) : (waitRead s w).rst = s.rst := rfl
@[simp] theorem waitRead_pending (w : WaitRead) : (waitRead s w).pending = s.pending := rfl
@[simp] theorem waitRead_out (w : WaitRead) : (waitRead s w).out = s.out := rfl
@[simp] theorem waitRead_free (w : WaitRead) : (waitRead s w).free = s.free := rfl

/-! ## What the changed field holds -/

@[simp] theorem setReg_regs (r : Nat) (v : W64) : (setReg s r v).regs = spSet (regReset r) s.regs r v := rfl
@[simp] theorem setBytes_mem (a : Nat) (bs : List Byte) : (setBytes s a bs).mem = putBytes s.mem a bs := rfl
@[simp] theorem emit_out (o : Out) : (emit s o).out = o :: s.out := rfl
@[simp] theorem takeFree_free (w : Nat) : (takeFree w s).2.free = s.free + 1 := rfl

/-- A free value fits its width. -/
theorem takeFree_lt (w : Nat) : (takeFree w s).1 < 2 ^ w := Nat.mod_lt _ (Nat.two_pow_pos w)

/-- A stored register reads as stored. -/
@[simp] theorem reg_setReg_same (r : Nat) (v : W64) : reg (setReg s r v) r = v := spGet_spSet_same (regReset r) s.regs r v

/-- A key reads as before a write of another, whatever default the read and the write use. -/
theorem spGet_spSet_other {V : Type} [DecidableEq V] (x d : V) {a b : Nat} {v : V} (h : b ≠ a) (m : Sparse V) :
    spGet x (spSet d m a v) b = spGet x m b := by
  induction m with
  | nil =>
    by_cases hv : v = d
    · simp [spSet, hv]
    · simp [spSet, hv, spGet, Ne.symm h]
  | cons e m ih =>
    obtain ⟨k, y⟩ := e
    by_cases h1 : a < k
    · by_cases hv : v = d
      · simp only [spSet, h1, hv, if_true, spGet, spGet_spDel_ne x h]
      · simp [spSet, h1, hv, spGet, Ne.symm h]
    · by_cases h2 : a = k
      · subst h2
        by_cases hv : v = d
        · simp [spSet, hv, spGet, Ne.symm h, spGet_spDel_ne x h]
        · simp [spSet, hv, spGet, Ne.symm h]
      · simp only [spSet, h1, h2, if_false, spGet, ih]

/-- Another register reads as before. -/
theorem reg_setReg_ne {r q : Nat} (v : W64) (h : q ≠ r) : reg (setReg s r v) q = reg s q :=
  spGet_spSet_other (regReset q) (regReset r) h s.regs

/-- Setting a field of a register leaves every other register as it was. -/
theorem reg_wf_ne {r q : Nat} (f : Field) (x : Nat) (h : q ≠ r) : reg (wf s r f x) q = reg s q := reg_setReg_ne s _ h

/-- Setting a field writes the register's value with that field replaced. -/
@[simp] theorem reg_wf_same (r : Nat) (f : Field) (x : Nat) : reg (wf s r f x) r = fset f (reg s r) x := reg_setReg_same s r _

/-- A byte outside a store reads as before. -/
theorem byteAt_setBytes_outside {a b : Nat} {bs : List Byte} (h : b < a ∨ a + bs.length ≤ b) :
    byteAt (setBytes s a bs) b = byteAt s b := spGet_putBytes_outside bs h

/-- A byte inside a store reads as stored. -/
theorem byteAt_setBytes_inside {a i : Nat} {bs : List Byte} (h : i < bs.length) :
    byteAt (setBytes s a bs) (a + i) = bs.getD i 0 := spGet_putBytes_inside bs h

/-- Storing a register keeps the register file's canonical form. -/
theorem setReg_registers_wf (r : Nat) (v : W64) (w : Registers.wf s.regs = true) : Registers.wf (setReg s r v).regs = true :=
  spWf_spSet (d := regReset) w

/-- Returning registers to reset keeps the register file's canonical form. -/
theorem resetRegs_registers_wf (lo n : Nat) (keep : Nat → Bool) (w : Registers.wf s.regs = true) :
    Registers.wf (resetRegs s lo n keep).regs = true :=
  spWf_spClear (d := regReset) (fun r => decide (lo ≤ r) && decide (r < lo + n) && !keep r) w

/-- Storing bytes keeps memory's canonical form. -/
theorem setBytes_memory_wf (a : Nat) (bs : List Byte) (w : Memory.wf s.mem = true) : Memory.wf (setBytes s a bs).mem = true :=
  spWf_putBytes bs w

/-- Zeroing keys keeps memory's canonical form. -/
theorem zeroKeys_memory_wf (a n : Nat) (w : Memory.wf s.mem = true) : Memory.wf (zeroKeys s a n).mem = true :=
  spWf_spClear (d := fun _ => (0 : Byte)) (fun k => decide (a ≤ k) && decide (k < a + n)) w

end Sys2Proof.Laws
end

