-- ==== Sys2Proof/WellFormed.lean ====
section
/-! DEFINITION. Well-formed commands: every operand lies in the range its field or its unit has in the spec. The meanings answer for
every operand; what a rule forbids they reject or ignore as the rule says. -/

namespace Sys2Proof

/-- A number fits a field of `w` bits. -/
def fits (w n : Nat) : Bool := decide (n < 2 ^ w)

/-- The fields of R546. -/
def CmdHead.wf (h : CmdHead) : Bool := fits 8 h.flags && fits 16 h.timeout && fits 32 h.cmdId && fits 64 h.cntAddr

/-- The header fields of R465. -/
def Hdr.wf (h : Hdr) : Bool :=
  fits 6 h.hops && decide (h.index ≤ 4369) && fits 10 h.msgSeq && fits 16 h.digestTag && fits 8 h.epochTag && fits 2 h.plane
    && fits 2 h.vc && fits 14 h.src && fits 14 h.dst

/-- One of the 24 ports of R459. -/
def Rx.wf (x : Rx) : Bool := decide (x.port < 24) && fits 32 x.crc && fits 64 x.t

/-- The fields of a format R instruction (R153). -/
def EInstr.wf (i : EInstr) : Bool :=
  fits 5 i.d && fits 5 i.a && fits 5 i.b && fits 5 i.c && fits 4 i.mreg && fits 2 i.rnd && fits 4 i.fmt && fits 24 i.aux

/-- A notice of R501 to R506. -/
def Notice.wf (n : Notice) : Bool :=
  decide (1 ≤ n.kind) && decide (n.kind ≤ 3) && fits 14 n.subject && fits 14 n.origin && fits 64 n.time && fits 8 n.reason

/-- A row of a table (R506). -/
def SlotKey.wf (k : SlotKey) : Bool := fits 12 k.table && fits 40 k.row

/-- A parity slot's numbers (R510). -/
def HeldSlot.wf : HeldSlot → Bool
  | .own slot => fits 40 slot
  | .standIn holder stripe => fits 14 holder && fits 40 stripe

/-- The straps POS0 to POS13 (R680). -/
def Straps.wf (x : Straps) : Bool := fits 14 x.pos

/-- The fields of a HEARTBEAT (R471). -/
def Heartbeat.wf (b : Heartbeat) : Bool :=
  fits 8 b.state && fits 14 b.device && fits 5 b.port && fits 8 b.lanes && fits 8 b.level && fits 32 b.epoch && fits 64 b.digest
    && fits 64 b.tTx && fits 64 b.tRxLast && fits 64 b.tTxEcho && fits 14 b.root

/-- The fields of LOOKUP_REQ and UPDATE_REQ (R207, R234). -/
def BagMsg.wf (m : BagMsg) : Bool :=
  fits 8 m.version && fits 12 m.table && fits 14 m.requester && fits 12 m.mb && fits 48 m.step
    && m.rows.all (fun e => fits 40 e.row && fits 24 e.rem)
    && m.bags.all (fun b => b.refs.all (fun r => decide (r.idx < m.rows.length)))

/-- A record names a table (R257). -/
def SorediumRec.wf (r : SorediumRec) : Bool := fits 12 r.table && fits 40 r.row

/-- Symbol errors name pins 0 to 71 and flip bits of their symbol (R332). -/
def LineErr.wf (e : LineErr) : Bool := (e.read ++ e.again).all (fun x => decide (x.1 < 72) && decide (0 < x.2) && decide (x.2 < 256))

/-- A command whose operands lie in their ranges. -/
def Instr.wf : Instr → Bool
  | .loadThallus h src len => h.wf && fits 64 src && fits 64 len
  | .thallusVerifyDone _ _ => true
  | .switchEpoch h epoch t pfx => h.wf && fits 32 epoch && fits 64 t && fits 64 pfx
  | .epochSwitch t => fits 64 t
  | .runSteps h first t0 ring slotBytes slots line inDev => h.wf && fits 48 first && fits 64 t0 && fits 64 ring && fits 32 slotBytes && fits 32 slots && fits 64 line && fits 64 inDev
  | .stopAtStep h step => h.wf && fits 48 step
  | .abort h target => h.wf && fits 64 target
  | .checkpointSave h dest offset len => h.wf && fits 64 dest && fits 64 offset && fits 64 len
  | .checkpointLoad h src len _ => h.wf && fits 64 src && fits 64 len
  | .checkpointClear h => h.wf
  | .checkpointRestore h src len _ => h.wf && fits 64 src && fits 64 len
  | .tableSwap h table desc step => h.wf && fits 12 table && fits 64 desc && fits 48 step
  | .tableVersionRetire table => fits 12 table
  | .grantPeat h slot addr len => h.wf && fits 8 slot && fits 64 addr && fits 64 len
  | .revokePeat h slot => h.wf && fits 8 slot
  | .fence h => h.wf
  | .counterSnapshot h dest => h.wf && fits 64 dest
  | .freezeAt h t => h.wf && fits 64 t
  | .freeze t => fits 64 t
  | .setLoss h l step => h.wf && fits 8 l && fits 48 step
  | .setInterval h interval step => h.wf && fits 16 interval && fits 48 step
  | .loseHistory h step => h.wf && fits 48 step
  | .setTensor h _ e step => h.wf && fits 8 e && fits 48 step
  | .watchLineInvalidate produced consumed ds => fits 64 produced && fits 64 consumed && ds.all (fun d => decide (d.desc.length = 64))
  | .controlLinePoll produced consumed ds => fits 64 produced && fits 64 consumed && ds.all (fun d => decide (d.desc.length = 64))
  | .inputLine supplied => fits 48 supplied
  | .inputCopyDone step _ => fits 48 step
  | .retire index => fits 64 index
  | .commandTimeout index t => fits 64 index && fits 64 t
  | .hostWriteConfirm => true
  | .stepStart t => fits 64 t
  | .hostPortLinkUp width speed _ => [16, 8, 4, 2, 1].contains width && decide (1 ≤ speed) && decide (speed ≤ 6)
  | .hostRetrain => true
  | .hstAttach nonce => fits 32 nonce
  | .cmdCfg req v => fits 16 req && fits 32 v
  | .winBase req v => fits 16 req && fits 64 v
  | .windowRead req off _ => fits 16 req && fits 28 off
  | .windowWrite req off _ => fits 16 req && fits 28 off
  | .registerWrite req off len v => fits 16 req && fits 25 off && fits (8 * len) v
  | .farLinkUp x frames _ => decide (x < 4) && fits 28 frames
  | .expanderLinkDown x => decide (x < 4)
  | .hostWaitExpiry t => fits 64 t
  | .setEndpointId iface eid => decide (iface < 3) && fits 8 eid
  | .getEndpointId iface => decide (iface < 3)
  | .getMctpVersionSupport iface ty => decide (iface < 3) && fits 8 ty
  | .getMessageTypeSupport iface => decide (iface < 3)
  | .getVendorDefinedMessageSupport iface _ => decide (iface < 3)
  | .getInfo iface tag => decide (iface < 3) && fits 32 tag
  | .getDigests iface tag => decide (iface < 3) && fits 32 tag
  | .getTelemetry iface tag => decide (iface < 3) && fits 32 tag
  | .readCounters iface tag body => decide (iface < 3) && fits 32 tag && decide (body.length ≤ 4088)
  | .getCerts iface tag => decide (iface < 3) && fits 32 tag
  | .challenge iface tag body => decide (iface < 3) && fits 32 tag && decide (body.length ≤ 4088)
  | .readFuses iface tag => decide (iface < 3) && fits 32 tag
  | .writeFuses iface tag body _ => decide (iface < 3) && fits 32 tag && decide (body.length ≤ 4088)
  | .debugUnlock iface tag => decide (iface < 3) && fits 32 tag
  | .fwLoad iface tag body _ => decide (iface < 3) && fits 32 tag && decide (body.length ≤ 4088)
  | .setCounterPriv iface tag body => decide (iface < 3) && fits 32 tag && decide (body.length ≤ 4088)
  | .reset iface tag => decide (iface < 3) && fits 32 tag
  | .margin iface tag body => decide (iface < 3) && fits 32 tag && decide (body.length ≤ 4088)
  | .marginRunDone stack pins => decide (stack < 8) && decide (pins.length = 72)
    && pins.all (fun p => decide (p.timing.length = 64) && decide (p.voltage.length = 64))
  | .rawWindow iface tag body => decide (iface < 3) && fits 32 tag && decide (body.length ≤ 4088)
  | .failDevice iface tag => decide (iface < 3) && fits 32 tag
  | .getRepairLog iface tag body => decide (iface < 3) && fits 32 tag && decide (body.length ≤ 4088)
  | .mailboxGo v _ => fits 32 v
  | .watchdogExpiry => true
  | .attendN _ => true
  | .fwBootVerifyDone => true
  | .startOk => true
  | .startTimeout t => fits 64 t
  | .pwrOkRise => true
  | .pwrOkFall _ => true
  | .supplyReset _ => true
  | .pllLockLoss domain => decide (domain < 40)
  | .perstN _ => true
  | .hotReset => true
  | .flr => true
  | .surpriseLinkDown => true
  | .fabricRstN _ => true
  | .thermalTrip => true
  | .debugReset block t => fits 8 block && fits 64 t
  | .rstBlock v t => fits 32 v && fits 64 t
  | .quiesced t => fits 64 t
  | .quiesceTimeout t => fits 64 t
  | .resetHoldExpiry t => fits 64 t
  | .droopTrip quads mv => fits 4 quads && fits 16 mv
  | .droopRecover quads mv => fits 4 quads && fits 16 mv
  | .droopPause t => fits 64 t
  | .pauseEnd t => fits 64 t
  | .powerSample _ t => fits 64 t
  | .throttleStep t => fits 64 t
  | .thermalSense junction drams t => fits 8 junction && decide (drams.length = 8) && fits 64 t
  | .vrHotN => true
  | .frondInitDone frond => decide (frond < 32)
  | .stackInitDone stack => decide (stack < 8)
  | .product frond => decide (frond < 32)
  | .invoke frond => decide (frond < 32)
  | .move w => decide (w.frond < 32)
  | .pass frond _ => decide (frond < 32)
  | .drainRow frond slot _ => decide (frond < 32) && decide (slot < 2)
  | .chainTileArrival src dst => decide (src < 32) && decide (dst < 32)
  | .drainInvocation w => decide (w.frond < 32)
  | .rowInvocation w => decide (w.frond < 32)
  | .queueSlotArrival queue => fits 16 queue
  | .creditReturn queue => fits 16 queue
  | .planStall frond t => decide (frond < 32) && fits 64 t
  | .add frond i => decide (frond < 32) && i.wf
  | .sub frond i => decide (frond < 32) && i.wf
  | .mul frond i => decide (frond < 32) && i.wf
  | .fma frond i => decide (frond < 32) && i.wf
  | .min frond i => decide (frond < 32) && i.wf
  | .max frond i => decide (frond < 32) && i.wf
  | .clamp frond i => decide (frond < 32) && i.wf
  | .abs frond i => decide (frond < 32) && i.wf
  | .neg frond i => decide (frond < 32) && i.wf
  | .cmpeq frond i => decide (frond < 32) && i.wf
  | .cmplt frond i => decide (frond < 32) && i.wf
  | .cmple frond i => decide (frond < 32) && i.wf
  | .cmpun frond i => decide (frond < 32) && i.wf
  | .icmpltu frond i => decide (frond < 32) && i.wf
  | .sel frond i => decide (frond < 32) && i.wf
  | .and frond i => decide (frond < 32) && i.wf
  | .or frond i => decide (frond < 32) && i.wf
  | .xor frond i => decide (frond < 32) && i.wf
  | .andn frond i => decide (frond < 32) && i.wf
  | .shr frond i => decide (frond < 32) && i.wf
  | .shl frond i => decide (frond < 32) && i.wf
  | .iadd frond i => decide (frond < 32) && i.wf
  | .exp2 frond i => decide (frond < 32) && i.wf
  | .log2 frond i => decide (frond < 32) && i.wf
  | .rcp frond i => decide (frond < 32) && i.wf
  | .rsq frond i => decide (frond < 32) && i.wf
  | .cvt frond i => decide (frond < 32) && i.wf
  | .wid frond i => decide (frond < 32) && i.wf
  | .i2f frond i => decide (frond < 32) && i.wf
  | .f2i frond i => decide (frond < 32) && i.wf
  | .rnd frond i => decide (frond < 32) && i.wf
  | .mov frond i => decide (frond < 32) && i.wf
  | .ldi frond d v => decide (frond < 32) && decide (16 ≤ d) && decide (d < 24) && fits 32 v.imm
  | .ld frond i => decide (frond < 32) && i.wf
  | .st frond i => decide (frond < 32) && i.wf
  | .rmax frond i => decide (frond < 32) && i.wf
  | .rsum frond i => decide (frond < 32) && i.wf
  | .softmax frond i => decide (frond < 32) && i.wf
  | .lnorm frond i => decide (frond < 32) && i.wf
  | .lookupBatchAdmit table mb => fits 12 table && fits 12 mb
  | .lookupReq r => r.msg.wf && r.upsets.all (fun u => decide (u.stack < 8) && decide (u.word < 8) && decide (u.bit < 72))
  | .criticalRowFetch addr _ => fits 48 addr
  | .lookupRsp _ => true
  | .lookupEnd source step count => fits 14 source && fits 48 step && fits 16 count
  | .updateBatchStart frond mb => decide (frond < 32) && fits 12 mb
  | .updateReq m => m.wf
  | .ownerStepClose step => fits 48 step
  | .detOrderMerge step => fits 48 step
  | .rowApply own table version row _ => fits 14 own && fits 12 table && fits 8 version && fits 40 row
  | .pendingEntryComplete own table row _ => fits 14 own && fits 12 table && fits 40 row
  | .spillRingReturn stack => decide (stack < 8)
  | .remGrad _ => true
  | .remRow _ => true
  | .soredium _ => true
  | .sorediumAck source step seq => fits 14 source && fits 48 step && fits 48 seq
  | .rowCommit own table row _ => fits 14 own && fits 12 table && fits 40 row
  | .heatEpoch t => fits 64 t
  | .scanVisit => true
  | .promote => true
  | .demote => true
  | .rebalance => true
  | .demand => true
  | .evacuate => true
  | .rebuild => true
  | .revoke => true
  | .migrationPassDone page t => fits 28 page && fits 64 t
  | .finalPassFlip page t => fits 28 page && fits 64 t
  | .finalPassAbandon page t => fits 28 page && fits 64 t
  | .sourceFrameFree page => fits 28 page
  | .peatReadError page => fits 28 page
  | .rd64 stack tag off e => decide (stack < 8) && fits 10 tag && fits 37 off && e.wf
  | .rd256 stack tag off errs => decide (stack < 8) && fits 10 tag && fits 37 off && decide (errs.length = 4) && errs.all (·.wf)
  | .wr64 stack tag off mask bytes e => decide (stack < 8) && fits 10 tag && fits 37 off && fits 64 mask && decide (bytes.length = 64) && e.wf
  | .wr256 stack tag off bytes => decide (stack < 8) && fits 10 tag && fits 37 off && decide (bytes.length = 256)
  | .msg stack _ => decide (stack < 8)
  | .d2dFlit stack _ header rest => decide (stack < 8) && fits 32 header && decide (rest.length = 68)
  | .d2dLinkControl stack _ _ seq => decide (stack < 8) && fits 10 seq
  | .d2dRetrainDone stack r => decide (stack < 8) && (r.down ++ r.up).all (fun x => decide (x < 576))
  | .patrolScrub stack e => decide (stack < 8) && e.wf
  | .refresh stack r => decide (stack < 8) && r.errs.all (fun e => fits 31 e.1 && e.2.wf)
  | .rowRepairDone stack channel frame => decide (stack < 8) && decide (channel < 32) && fits 21 frame
  | .data x h payload => x.wf && h.wf && decide (payload.length = 240)
  | .heartbeat x b => x.wf && b.wf
  | .linkCtl x _ _ lanes acked expected credits => x.wf && fits 8 lanes && fits 32 acked && fits 32 expected && decide (credits.length = 12)
    && credits.all (fits 16)
  | .error x h code vc msgSeq copy => x.wf && h.wf && fits 8 code && fits 2 vc && fits 10 msgSeq && copy.wf
  | .e2eAck x h vc next => x.wf && h.wf && fits 2 vc && fits 10 next
  | .deviceFailed x device reason time => x.wf && fits 14 device && fits 8 reason && fits 64 time
  | .idle port t => decide (port < 24) && fits 64 t
  | .reservedFrame x => x.wf
  | .heartbeatSend t => fits 64 t
  | .linkCtlSend port t => decide (port < 24) && fits 64 t
  | .heartbeatSilence port t => decide (port < 24) && fits 64 t
  | .mismatchTimeout port t => decide (port < 24) && fits 64 t
  | .laneFault port good t => decide (port < 24) && fits 8 good && fits 64 t
  | .retrainDone port t => decide (port < 24) && fits 64 t
  | .portTrained port good t => decide (port < 24) && fits 8 good && fits 64 t
  | .portTrainRetry port t => decide (port < 24) && fits 64 t
  | .e2eTimeout dst vc t => fits 14 dst && fits 2 vc && fits 64 t
  | .landingTimeout src vc t => fits 14 src && fits 2 vc && fits 64 t
  | .memWr h addr _ => h.wf && fits 48 addr
  | .memRd h addr _ => h.wf && fits 48 addr
  | .memCpl h addr _ seq _ => h.wf && fits 48 addr && fits 10 seq
  | .storeWr h offset frond doneBit stride rowBytes _ => h.wf && fits 24 offset && decide (frond < 32) && doneBit.all (fun b => decide (b < 1024)) && fits 16 stride && fits 32 rowBytes
  | .silent n => n.wf
  | .heard n => n.wf
  | .lost n => n.wf
  | .recoveryCommit t => fits 64 t
  | .pieceRd subject origin k => fits 14 subject && fits 14 origin && k.wf
  | .piece subject origin k _ => fits 14 subject && fits 14 origin && k.wf
  | .fwd subject origin r => fits 14 subject && fits 14 origin && r.wf
  | .stop subject origin k => fits 14 subject && fits 14 origin && k.wf
  | .stopped subject origin k => fits 14 subject && fits 14 origin && k.wf
  | .done subject origin epoch => fits 14 subject && fits 14 origin && fits 32 epoch
  | .parityScrub table slot _ => fits 12 table && slot.wf
  | .reduce _ t => fits 64 t
  | .part _ t => fits 64 t
  | .partDeadline t => fits 64 t
  | .windowClose t => fits 64 t
  | .barrierRecord t => fits 64 t
  | .barrier _ => true
  | .scale _ => true
  | .blockApply block => fits 20 block
  | .grad _ => true
  | .digestComputeDone r => fits 20 r.block && r.copy.all (fun c => fits 32 c.1)
  | .digest _ _ => true
  | .blockReplayDone block _ => fits 20 block
  | .allGather block => fits 20 block
  | .param _ => true
  | .evgClaim t => decide (t < 33)
  | .evgComplete t v => decide (t < 33) && fits 32 v
  | .evgPend w v => decide (w < 10) && fits 32 v
  | .hold v => fits 32 v
  | .holdExpiry t => fits 64 t
  | .moderationExpiry target t => decide (target < 33) && fits 64 t
  | .eventIn i _ => decide (i < 8)
  | .thaw v => fits 32 v
  | .traceEn v => fits 32 v
  | .cntTraceMark v => fits 64 v
  | .planeInvalidExpiry dst vc t => fits 14 dst && fits 2 vc && fits 64 t
  | .e2eAckSend src vc t => fits 14 src && fits 2 vc && fits 64 t
  | .registerRead req off _ => fits 16 req && fits 25 off
  | .configurationRequest _ _ => true
  | .pllLock domain straps => decide (domain < 40) && straps.wf
  | .perstNRelease => true
  | .vrHotNRelease => true
  | .eventInRelease i _ => decide (i < 8)
  | .farPerstNRelease => true

end Sys2Proof
end

