-- ==== Sys2Proof/Tests/Slice0.lean ====
section
/-! SUPPORT. The model's own tests: ill-formed terms refused, and for each clause of a statement a concrete state and operands that meet
its hypotheses, with what the command then does there. -/

namespace Sys2Proof.Tests
set_option Elab.async false
open Sys2Proof Machine

/-- The command answers a next state that satisfies `p`. -/
def sat (c : Instr) (s : State) (p : State → Bool) : Bool := match exec c s with
  | .next t => p t
  | _ => false

/-- Set fields of registers. -/
def put (s : State) (xs : List (Nat × Field × Nat)) : State := xs.foldl (fun s x => wf s x.1 x.2.1 x.2.2) s

/-- The stacks take accesses. -/
def opened (s : State) : State := put s ((List.range 8).map (fun n => (R.STK_STATUS n, F.STK_STATUS_init_done, 1)))

/-- The host port is up and attached, the rings are on with 64 entries each. -/
def up : State := put { State.reset with hst := { State.reset.hst with inReset := false, perstHigh := true } }
  [(R.HST_STATUS, F.HST_STATUS_link_up, 1), (R.HST_STATUS, F.HST_STATUS_attached, 1), (R.CMD_CFG, F.CMD_CFG_en, 1),
   (R.CMD_CFG, F.CMD_CFG_ring_log2, 6), (R.CMD_CFG, F.CMD_CFG_cpl_log2, 6)]

/-- An image is active. -/
def live : State := put up [(R.THL_STATUS, F.THL_STATUS_active_valid, 1)]

/-- A descriptor's head without options. -/
def hd : CmdHead := { flags := 0, timeout := 0, cmdId := 7, cntAddr := 0 }

/-- A running command. -/
def cmd (i : Nat) (op : CmdOp) : Cmd := { index := i, op := op, head := hd, tFetch := 0, tStart := 0, phase := .running }

/-- One command in progress, the next has index 1. -/
def busy (s : State) (c : Cmd) : State := { s with cmd := { s.cmd with fetched := 1, active := [c] } }

def worked (t : State) (i : Nat) (op : CmdOp) (fin : Option CmdEnd) : Bool := match findCmd t i with
  | some c => decide (c.op = op) && decide (c.fin = fin) && decide (c.phase = .running)
  | none => false

/-- The newest record is of this command with this end. -/
def record (t : State) (i st re out : Nat) : Bool :=
  t.cmd.done.contains i && (t.cmd.held ++ t.cmd.unconf).any (fun r => r.index = i && r.status = st && r.reason = re && r.outcome = out)

theorem test_step_front : (match step { up with pending := [.fence hd, .hostRetrain] } with
    | .next t => t.pending = [.hostRetrain] && worked t 0 .fence (some ⟨0, 0, 0, []⟩)
    | _ => false) = true := by decide +kernel
theorem test_reset_canonical : Memory.wf State.reset.mem = true ∧ Registers.wf State.reset.regs = true := by decide +kernel

theorem test_load_starts : (decide (CommandSlot up hd ∧ switchPending up = false) && sat (.loadThallus hd 0x1000 4096) up (fun t =>
    worked t 0 (.loadThallus 0x1000 4096) none && t.thl.load = some ⟨0, 0x1000, 4096, []⟩
    && rb t R.THL_STATUS F.THL_STATUS_loading)) = true := by decide +kernel

theorem test_verify_fails : (decide (addrKind 0x1000 = 0) && sat (.thallusVerifyDone (some (List.replicate 64 0)) false)
    { busy up (cmd 0 (.loadThallus 0x1000 64)) with thl := { up.thl with load := some ⟨0, 0x1000, 64, []⟩ } } (fun t =>
      rf t R.THL_LAST_ERR F.THL_LAST_ERR_reason = 1 && t.thl.load.isNone
      && (findCmd t 0).any (fun c => c.fin = some { status := 2, reason := 1 }))) = true := by decide +kernel

theorem test_peer_generation : (decide (addrKind (2 * 2 ^ 62 + 5 * 2 ^ 48) = 2 ∧ addrVal (2 * 2 ^ 62 + 5 * 2 ^ 48) / 2 ^ 48 ≠ selfId up)
    && sat (.thallusVerifyDone none true)
      { busy up (cmd 0 (.loadThallus (2 * 2 ^ 62 + 5 * 2 ^ 48) 64)) with thl := { up.thl with load := some ⟨0, 2 * 2 ^ 62 + 5 * 2 ^ 48, 64, []⟩ } }
      (fun t => rf t R.THL_LAST_ERR F.THL_LAST_ERR_reason = 0xC && t.thl.load.isNone)) = true := by decide +kernel

/-- An image is staged, the active one stays. -/
def staged : State := put live [(R.THL_STATUS, F.THL_STATUS_staged_valid, 1)]

theorem test_switch_pends : (decide (CommandSlot staged hd ∧ switchErr staged 1 0x2000000 0 = none ∧ imageActive staged = true)
    && sat (.switchEpoch hd 1 0x2000000 0) staged (fun t => worked t 0 (.switchEpoch 1 0x2000000 0) none && switchPending t
      && reg t R.THL_PENDING_TIME = 0x2000000 && rf t R.THL_PENDING F.THL_PENDING_epoch = 1 && t.thl.switchCmd = some 0)) = true := by
  decide +kernel

/-- A switch to epoch 3 is pending at 100, with a list of digests to swap. -/
def pendingSwitch : State :=
  setReg (put staged [(R.THL_STATUS, F.THL_STATUS_switch_pending, 1), (R.THL_PENDING, F.THL_PENDING_epoch, 3),
    (R.THL_STAGED_DIGEST 0, ⟨0, 64⟩, 5)]) R.THL_PENDING_TIME 100

theorem test_switch_applies : sat (.epochSwitch 100) pendingSwitch (fun t => t.thl.activeSlot = 1 && rf t R.THL_EPOCH F.THL_EPOCH_epoch = 3
    && reg t (R.THL_ACTIVE_DIGEST 0) = 5 && reg t (R.THL_STAGED_DIGEST 0) = 0 && !switchPending t
    && !rb t R.THL_STATUS F.THL_STATUS_staged_valid) = true := by decide +kernel
theorem test_switch_waits : sat (.epochSwitch 99) pendingSwitch (fun t => t = advance 99 pendingSwitch) = true := by decide +kernel

/-- A RUN_STEPS in progress. -/
def running : State :=
  { busy live (cmd 0 (.runSteps 0 50 0x10000 4096 4 0x9000 (2 ^ 62 + 0x1000_1000_0000))) with
    seq := { live.seq with run := some ⟨0, 50, 0x10000, 4096, 4, 0x9000, 0x1000_1000_0000⟩ } }

theorem test_run_starts : (decide (CommandSlot live hd ∧ addrOk (2 ^ 62 + 0x1000_1000_0000) = true ∧ addrKind (2 ^ 62 + 0x1000_1000_0000) = 1
      ∧ imageActive live = true ∧ switchPending live = false)
    && sat (.runSteps hd 0 50 0x10000 4096 4 0x9000 (2 ^ 62 + 0x1000_1000_0000)) live (fun t =>
      decide (t.seq.run = running.seq.run) && worked t 0 (.runSteps 0 50 0x10000 4096 4 0x9000 (2 ^ 62 + 0x1000_1000_0000)) none)) = true := by
  decide +kernel
theorem test_stop_joins : (decide (CommandSlot running hd) && sat (.stopAtStep hd 0) running (fun t =>
    worked t 1 (.stopAtStep 0) none && t.seq.stops = [(1, 0)])) = true := by decide +kernel
theorem test_abort_stops_run : (decide (CommandSlot running hd) && sat (.abort hd 0) running (fun t =>
    record t 0 1 0 0 && record t 1 0 0 1 && t.seq.run.isNone && (findCmd t 0).isNone && (findCmd t 1).isNone)) = true := by decide +kernel
theorem test_abort_unknown : sat (.abort hd 1) running (fun t => record t 1 0 0 0 && t.seq = running.seq) = true := by decide +kernel
theorem test_abort_completed : sat (.abort hd 0) { up with cmd := { up.cmd with fetched := 1, done := [0] } } (fun t =>
    record t 1 0 0 2) = true := by decide +kernel

theorem test_save_writes_stream : (decide (CommandSlot live hd ∧ addrOk 0x5000 = true) && sat (.checkpointSave hd 0x5000 0 64) live (fun t =>
    worked t 0 (.ckSave 0x5000 0 64) (some ⟨0, 0, 0, leBytes 8 (ckStream live).length⟩)
    && t.out.contains (.hostWrite 0 0x5000 ((ckStream live).take 64)))) = true := by decide +kernel
theorem test_load_nothing : (decide (CommandSlot live hd ∧ ckSegments [] = some []) && sat (.checkpointLoad hd 0x5000 0 (some [])) live (fun t =>
    worked t 0 (.ckLoad 0x5000 0 0) (some ⟨0, 0, 0, List.replicate 16 0⟩))) = true := by decide +kernel
theorem test_load_bad : (decide (ckSegments (List.replicate 32 1) = none) && sat (.checkpointLoad hd 0x5000 32 (some (List.replicate 32 1))) live
    (fun t => worked t 0 (.ckLoad 0x5000 32 0) (some ⟨2, 0xF7, 0, []⟩))) = true := by decide +kernel
theorem test_clear : sat (.checkpointClear hd) (setPte live 3 0x77) (fun t =>
    worked t 0 (.ckLoad 0 0 1) (some ⟨0, 0, 0, List.replicate 16 0⟩) && pte t 3 = 0) = true := by decide +kernel
theorem test_restore_nothing : sat (.checkpointRestore hd 0x5000 0 (some [])) live (fun t =>
    worked t 0 (.ckLoad 0x5000 0 2) (some ⟨0, 0, 0, List.replicate 16 0⟩)) = true := by decide +kernel
theorem test_fence : sat (.fence hd) up (fun t => worked t 0 .fence (some ⟨0, 0, 0, []⟩)) = true := by decide +kernel
theorem test_snapshot_completes : (decide (CommandSlot up hd ∧ addrOk 0x5000 = true)
    && sat (.counterSnapshot hd 0x5000) up (fun t => worked t 0 (.snapshot 0x5000) (some ⟨0, 0, 0, []⟩))) = true := by decide +kernel

/-- A FENCE whose work has ended. -/
def ended : State := busy up { cmd 0 .fence with fin := some { status := 0 } }

theorem test_retire : (decide (∀ x ∈ ended.cmd.active, x.phase = .running) && (findCmd ended 0).any (fun c => mayRetireCmd ended c)
    && sat (.retire 0) ended (fun t => record t 0 0 0 0 && (findCmd t 0).isNone && reg t R.CNT_LATCH_CNT = 1)) = true := by decide +kernel
theorem test_timeout : sat (.commandTimeout 0 2000000) (busy up { cmd 0 (.snapshot 0) with head := { hd with timeout := 2 } }) (fun t =>
    record t 0 4 0 0 && t.ft = 2000000) = true := by decide +kernel

/-- The descriptor of a FENCE. -/
def fenceBytes : List Byte := 0xB :: List.replicate 63 0
theorem test_poll_fetches : (decide (CommandSlot up (readHead fenceBytes) ∧ readOp fenceBytes = .fence ∧ watching up = false)
    && sat (.controlLinePoll 1 5 [⟨fenceBytes, none⟩]) up (fun t => t.cmd.cplConsumed = 5 && worked t 0 .fence (some ⟨0, 0, 0, []⟩))) = true := by
  decide +kernel
/-- The watch line in use. -/
def watched : State := put up [(R.HST_CTL, F.HST_CTL_watch_en, 1), (R.HST_STATUS, F.HST_STATUS_cache_up, 1)]
theorem test_watch_reads : (watching watched && sat (.watchLineInvalidate 0 5 []) watched (fun t =>
    t.cmd = { watched.cmd with cplConsumed := 5 })) = true := by decide +kernel
theorem test_watch_fetches : sat (.watchLineInvalidate 1 5 [⟨fenceBytes, none⟩]) watched (fun t =>
    worked t 0 .fence (some ⟨0, 0, 0, []⟩)) = true := by decide +kernel
theorem test_cfg_enables : (barServed up R.CMD_CFG && sat (.cmdCfg 0 (2 ^ 31 + 16 * 256 + 6)) up (fun t =>
    rb t R.CMD_CFG F.CMD_CFG_en && rf t R.CMD_CFG F.CMD_CFG_cpl_log2 = 16 && rf t R.CMD_CFG F.CMD_CFG_ring_log2 = 6)) = true := by decide +kernel
theorem test_cfg_unaligned : sat (.cmdCfg 0 (2 ^ 31 + 6 * 256 + 6)) (noteBase up 2 0x1020) (fun t =>
    !rb t R.CMD_CFG F.CMD_CFG_en && rb t R.CMD_STATUS F.CMD_STATUS_cfg_err) = true := by decide +kernel
theorem test_cfg_refuses : sat (.cmdCfg 0 (2 ^ 31 + 17 * 256 + 6)) up (fun t =>
    !rb t R.CMD_CFG F.CMD_CFG_en && rb t R.CMD_STATUS F.CMD_STATUS_cfg_err) = true := by decide +kernel

theorem test_link_up : sat (.hostPortLinkUp 16 6 true) (put up [(R.HST_STATUS, F.HST_STATUS_link_up, 0)]) (fun t =>
    rb t R.HST_STATUS F.HST_STATUS_link_up && rf t R.HST_STATUS F.HST_STATUS_width = 16 && rf t R.HST_STATUS F.HST_STATUS_speed = 6) = true := by
  decide +kernel
theorem test_retrain : sat .hostRetrain (busy up { cmd 0 .fence with unconf := 8 }) (fun t =>
    !rb t R.HST_STATUS F.HST_STATUS_link_up && !attached t && t.cmd.detachReason = 5 && (findCmd t 0).any (fun c => c.torn)) = true := by
  decide +kernel
theorem test_attach : sat (.hstAttach 9) up (fun t => rb t R.HST_STATUS F.HST_STATUS_attached && t.cmd.session = 1
    && rf t R.HST_ATTACH F.HST_ATTACH_nonce = 9) = true := by decide +kernel
theorem test_attach_zero : sat (.hstAttach 0) up (fun t => rf t R.HST_ATTACH F.HST_ATTACH_session = 0 && attached t) = true := by decide +kernel
theorem test_confirm : sat .hostWriteConfirm { busy up { cmd 0 .fence with unconf := 8 } with cmd := { (busy up { cmd 0 .fence with unconf := 8 }).cmd with flushes := [(0, [(0, 8)])] } } (fun t =>
    t.cmd.flushes = [] && (findCmd t 0).any (fun c => c.unconf = 0 && c.confirmed = 8)) = true := by decide +kernel
theorem test_input_line : sat (.inputLine 3) running (fun t => t.seq.supplied = 3) = true := by decide +kernel
theorem test_input_copy : (let s := { opened running with seq := { running.seq with supplied := 2, run := running.seq.run.map (fun r => { r with slotBytes := 2 }) } }
    mayCopy s 1 && sat (.inputCopyDone 1 [4, 5]) s (fun t => t.seq.copied = [1] && bytesAt t (0x1000_1000_0000 + 2) 2 = [4, 5])) = true := by decide +kernel

/-- A step under way with the scale unit set up. -/
def stepping : State := { live with seq := { live.seq with step := some 0 }, stepCtr := 1, scl := { live.scl with lossOf := [(0, 4)] } }
theorem test_set_loss : (decide (CommandSlot stepping hd ∧ scalesErr stepping 0 24 0 0 0 1 = none) && sat (.setLoss hd 24 1) stepping (fun t =>
    worked t 0 (.setScales 0 24 0 0 0 1) none && t.scl.pend = some ⟨0, 0, 24, 0, 0, 0, 1⟩)) = true := by decide +kernel
theorem test_set_interval : sat (.setInterval hd 100 1) stepping (fun t => t.scl.pend = some ⟨0, 1, 0, 0, 0, 100, 1⟩) = true := by decide +kernel
theorem test_lose_history : sat (.loseHistory hd 1) stepping (fun t => t.scl.pend = some ⟨0, 2, 0, 0, 0, 0, 1⟩) = true := by decide +kernel
theorem test_set_tensor : sat (.setTensor hd 0 255 1) { stepping with scl := { stepping.scl with tensors := [{ fmt := 6, headroom := 0, kind := 0, initExp := 0, e := 0 }] } } (fun t =>
    t.scl.pend = some ⟨0, 3, 0, 0, -1, 0, 1⟩) = true := by decide +kernel
theorem test_set_loss_rejected : (decide (scalesErr stepping 0 25 0 0 0 1 = some 3) && sat (.setLoss hd 25 1) stepping (fun t =>
    record t 0 2 3 0 && rf t R.SCL_ERR F.SCL_ERR_reason = 3 && t.scl = stepping.scl)) = true := by decide +kernel

theorem test_freeze_at : (decide (CommandSlot up hd) && sat (.freezeAt hd 1) up (fun t =>
    worked t 0 (.freezeAt 1) none && reg t R.CNT_FREEZE_T = 1 && rb t R.CNT_STATUS F.CNT_STATUS_freeze_pending)) = true := by decide +kernel
/-- A freeze is pending at 40. -/
def freezing : State := setReg (put { busy up (cmd 0 (.freezeAt 40)) with cnt := { up.cnt with freezeCmd := some 0 } }
  [(R.CNT_STATUS, F.CNT_STATUS_freeze_pending, 1)]) R.CNT_FREEZE_T 40
theorem test_freeze_waits : sat (.freeze 39) freezing (fun t => t = advance 39 freezing) = true := by decide +kernel
theorem test_freeze_is_due : decide (rb freezing R.CNT_STATUS F.CNT_STATUS_freeze_pending = true
    ∧ (reg freezing R.CNT_FREEZE_T).toNat ≤ (advance 40 freezing).ft ∧ freezing.cnt.freezeCmd = some 0) = true := by decide +kernel

theorem test_register_read : (decide ((regHit R.WIN_CTL).isSome) && (regHit R.WIN_CTL).all (fun h => decide (h.start = R.WIN_CTL ∧ h.row.w / 8 = 4
      ∧ h.blk ≠ 4 ∧ h.blk ≠ 5 ∧ capWord up R.WIN_CTL = none ∧ barServed up R.WIN_CTL = true ∧ privReg up h = false))
    && sat (.registerRead 0 R.DEV_ID 4) up (fun t => t.out.head? = some (.readData (.value 0x19408)))) = true := by decide +kernel
theorem test_register_write_masks : sat (.registerWrite 0 R.WIN_CTL 4 0xFFFF_FFFF) up (fun t => reg t R.WIN_CTL = 1) = true := by decide +kernel
theorem test_no_register : (decide (regHit 0x8_0000 = none ∧ capWord up 0x8_0000 = none)
    && sat (.registerRead 0 0x8_0000 4) up (fun t => reg t R.HST_VIOL_CNT = 1)
    && sat (.registerWrite 0 0x8_0000 4 1) up (fun t => reg t R.HST_VIOL_CNT = 1 && t.out.head? = some .aer)) = true := by decide +kernel

/-- The window enabled at a base. -/
def windowAt (base : Nat) : State := put (opened up) [(R.FRD_STATUS 0, F.FRD_STATUS_init_done, 1), (R.WIN_CTL, F.WIN_CTL_en, 1), (R.WIN_CTL, F.WIN_CTL_raw_ok, 1), (R.WIN_BASE, F.WIN_BASE_base, base)]
theorem test_win_base : sat (.winBase 0 0x2000_0001_0000) up (fun t => rf t R.WIN_BASE F.WIN_BASE_base = 0x2000_0001) = true := by decide +kernel
theorem test_window_store : (decide (winRegion (windowAt 0x2000_0001) 0x2000_0001_0008 2 true = .store 0
      ∧ winRegion (windowAt 0x2000_0001) 0x2000_0001_0008 2 false = .store 0)
    && sat (.windowWrite 0 8 [7, 9]) (windowAt 0x2000_0001) (fun t => t.mem = [(0x2000_0001_0008, 7), (0x2000_0001_0009, 9)]
      && sat (.windowRead 0 8 ⟨2, .none⟩) t (fun u => u.out.head? = some (.readData (.value 0x907))))) = true := by decide +kernel
theorem test_window_hbm : (decide (winRegion (windowAt 0x1013_FFFF) 0x1013_FFFF_FFFE 2 true = .hbm 0)
    && sat (.windowWrite 0 0xFFFE [7, 9]) (windowAt 0x1013_FFFF) (fun t => t.mem = [(0x1013_FFFF_FFFE, 7), (0x1013_FFFF_FFFF, 9)]
      && reg t (R.STK_WR_BYTES 0) = 2)) = true := by decide +kernel
theorem test_window_refuses : (decide (winRegion (windowAt 0x2000_0000) 0x2000_00C0_0000 1 true = .bad 5)
    && sat (.windowWrite 0 0xC0_0000 [1]) (windowAt 0x2000_0000) (fun t => t.mem = [] && reg t R.HST_VIOL_CNT = 1)
    && sat (.windowRead 0 0 ⟨4, .none⟩) up (fun t => reg t R.HST_VIOL_CNT = 1)
    && sat (.windowWrite 0 0 [1]) up (fun t => reg t R.HST_VIOL_CNT = 1 && t.mem = [])) = true := by decide +kernel
theorem test_configuration : sat (.configurationRequest true false) up (fun t => t.hst.msixEn) = true := by decide +kernel

/-- Bytes as cells from an address up, zeros left out. -/
def cellsAt (a : Nat) (bs : List Byte) : Sparse Byte := ((bs.zipIdx).filter (fun b => b.1 ≠ 0)).map (fun b => (a + b.2, b.1))

/-- An active image holds these sections: type, instance, bytes of at most 0x1000. -/
def imaged (s : State) (secs : List (Nat × Nat × List Byte)) : State :=
  let b := slotBase s 0
  let head : List Byte := List.replicate 12 0 ++ leBytes 2 secs.length ++ List.replicate 18 0 ++ leBytes 4 0x80 ++ List.replicate 92 0
  let table := secs.zipIdx.flatMap (fun x => leBytes 2 x.1.1 ++ [0, 0] ++ leBytes 4 (0x1000 * (x.2 + 1)) ++ leBytes 4 x.1.2.2.length ++ leBytes 2 x.1.2.1 ++ [0, 0])
  { s with mem := cellsAt b (head ++ table) ++ secs.zipIdx.flatMap (fun x => cellsAt (b + 0x1000 * (x.2 + 1)) x.1.2.2) }

/-- A FROND_PLAN section that gives frond 0 these ops. -/
def planOf (ops : List (List Byte)) : List Byte :=
  leBytes 4 0x200 ++ leBytes 4 0 ++ leBytes 2 4 ++ List.replicate 6 0 ++ leBytes 4 0x200 ++ leBytes 2 ops.length ++ List.replicate 0x1EA 0 ++ ops.flatten

/-- An op header: kind, class, flags, wait0, done, body length. -/
def opHead (kind cls flags wait done len : Nat) : List Byte :=
  [BitVec.ofNat 8 kind, BitVec.ofNat 8 cls, BitVec.ofNat 8 flags, 0] ++ leBytes 2 wait ++ leBytes 2 0 ++ leBytes 2 0 ++ leBytes 2 done ++ leBytes 2 len ++ [0, 0]

/-- A product of 2 x 1 elements in BF16 with K = 2: A at 0, B at 0x1000, output at 0x2000. -/
def prodBody (klen flags : Nat) : List Byte :=
  leBytes 2 2 ++ leBytes 2 1 ++ leBytes 4 klen ++ [3, 3, 0, 0] ++ leBytes 2 flags ++ leBytes 2 0 ++ leBytes 4 0 ++ leBytes 4 0x1000 ++ leBytes 4 0x2000
    ++ leBytes 8 0 ++ leBytes 2 1 ++ leBytes 2 1 ++ leBytes 2 1 ++ List.replicate 22 0

/-- Frond 0 runs this list in an image without bound exponents. -/
def listed (ops : List (List Byte)) (flags : List (Nat × Field × Nat)) : State :=
  put (imaged live [(1, 0, planOf ops)]) ([(R.FRD_PLAN_STATUS 0, F.FRD_PLAN_STATUS_running, 1), (R.FRD_STATUS 0, F.FRD_STATUS_init_done, 1)] ++ flags)

def picks (s : State) (kind : Nat) : Bool := match chooseOp s 0 with
  | some (o, _) => decide (o.kind = kind)
  | none => false

def aProduct (drain : Nat) : List Byte := opHead 1 0 1 0x8007 0x8009 64 ++ prodBody 2 (drain * 32)
def aMove : List Byte := opHead 3 0 0 0 0x8009 32 ++ [0, 0, 0, 0, 0, 0] ++ leBytes 2 2 ++ leBytes 8 0 ++ leBytes 4 0x3000 ++ leBytes 4 64 ++ leBytes 2 1 ++ leBytes 2 2
  ++ leBytes 4 0

/-- The bit its product waits on is set. -/
def waitSet (drain : Nat) : State := setSb (listed [aProduct drain, aMove] []) 0 7 true
theorem test_product_issues : (picks (waitSet 4) 1 && sat (.product 0) (waitSet 4) (fun t => decide ((frondOf t 0).array = some 0)
    && decide ((slotOf t 0 0).op = some 0) && !sbBit t 0 7 && decide ((frondOf t 0).head = 1))) = true := by decide +kernel
theorem test_product_waits : sat (.product 0) (listed [aProduct 4] []) (fun t => (frondOf t 0).array.isNone && decide ((frondOf t 0).head = 0)) = true := by
  decide +kernel
theorem test_invoke_issues : (let s := listed [opHead 2 0 0 0 0 128 ++ List.replicate 128 0] []
    picks s 2 && sat (.invoke 0) s (fun t => decide ((frondOf t 0).engQ = [0]))) = true := by decide +kernel
theorem test_move_copies : (let s := setBytes (listed [aMove] []) (storeBase 0) (leBytes 64 (7 + 9 * 2 ^ 500) ++ [5])
    picks s 3 && sat (.move ⟨0, .none⟩) s (fun t => byteAt t (storeBase 0 + 0x3000) == 7 && byteAt t (storeBase 0 + 0x3080) == 5 && sbBit t 0 9
      && rb t (R.FRD_PLAN_STATUS 0) F.FRD_PLAN_STATUS_complete)) = true := by decide +kernel

/-- The product has the array; A is 1, 2 in row 0 and 3, 4 in row 1, B is 5, 6. -/
def arrayRuns (drain passes : Nat) : State :=
  let s := modSlot (modFrond (listed [aProduct drain, aMove] []) 0 (fun x => { x with array := some 0 })) 0 0 (fun x => { x with op := some 0, passes := passes })
  loadPass (setBytes (setBytes s (storeBase 0) (leBytes 64 0x40003F80 ++ leBytes 4 0x40804040)) (storeBase 0 + 0x1000) (leBytes 64 0x40A0 ++ leBytes 2 0x40C0))
    0 (prodBody 2 (drain * 32)) 0
theorem test_pass : (sat (.pass 0 .none) (arrayRuns 4 0) (fun t => accPair t 0 0 0 0 == (0x41880000#32, 0#32) && accPair t 0 0 1 0 == (0x421C0000#32, 0#32)
    && decide (slotState t 0 0 = 2) && (frondOf t 0).array.isNone && decide (reg t (R.FRD_PASS_CNT 0) = 1))) = true := by decide +kernel
theorem test_pass_holds : sat (.pass 0 .none) (arrayRuns 0 0) (fun t => decide (slotState t 0 0 = 4) && sbBit t 0 9) = true := by decide +kernel
theorem test_pass_fails : sat (.pass 0 .uncorrectable) (arrayRuns 4 0) (fun t => failed t && decide (slotState t 0 0 = 0)) = true := by decide +kernel


/-- A slot of 2 rows is full of pairs. -/
def fullSlot (drain drained : Nat) : State :=
  let s := put (arrayRuns drain 1) [(R.FRD_STATUS 0, F.FRD_STATUS_slot0_state, 2)]
  setBytes (modSlot (modFrond s 0 (fun x => { x with array := none })) 0 0 (fun x => { x with drained := drained })) (accKey 0 0 0 0) (leBytes 8 0x3F800000)
theorem test_drain_rows : (sat (.drainRow 0 0 .none) (fullSlot 3 0) (fun t => numAt t (storeBase 0 + 0x2000) 2 == 0x3F80 && decide (slotState t 0 0 = 3))
    && sat (.drainRow 0 0 .none) (fullSlot 2 0) (fun t => numAt t (storeBase 0 + 0x2000) 2 == 0x3C00)
    && sat (.drainRow 0 0 .none) (fullSlot 4 1) (fun t => decide (slotState t 0 0 = 0) && sbBit t 0 9)
    && sat (.drainRow 0 0 .none) (fullSlot 5 0) (fun t => accPair t 0 1 0 0 == (0x3F800000#32, 0#32))) = true := by decide +kernel
theorem test_tile_arrives : (let s := modSlot State.reset 3 1 (fun x => { x with seed := some 2, sent := true })
    sat (.chainTileArrival 2 3) s (fun t => (slotOf t 3 1).arrived)) = true := by decide +kernel
/-- Queue 0 from frond 0 to frond 1, depth 2, bits from 20, slots of 0x100 bytes at 0x4000. -/
def queued : State :=
  let s := imaged live [(1, 0, planOf [aMove]), (2, 0, leBytes 16 1 ++ [0, 0, 0, 1, 2, 0] ++ leBytes 2 20 ++ leBytes 4 0x4000 ++ leBytes 4 0x100 ++ List.replicate 16 0)]
  { modFrond s 0 (fun x => { x with move := some ⟨0, 3, leBytes 64 7 ++ leBytes 64 9, 0⟩ }) with seq := { (modFrond s 0 (fun x => { x with
      move := some ⟨0, 3, leBytes 64 7 ++ leBytes 64 9, 0⟩ })).seq with used := [(0, 2)], returning := [0] } }
theorem test_queue_arrives : sat (.queueSlotArrival 0) queued (fun t => sbBit t 1 21 && byteAt t (storeBase 1 + 0x4100) == 7
    && byteAt t (storeBase 1 + 0x4180) == 9) = true := by decide +kernel
theorem test_credit_returns : sat (.creditReturn 0) queued (fun t => decide (alGet 0 t.seq.used 0 = 1)) = true := by decide +kernel
theorem test_plan_stalls : sat (.planStall 0 10240000) (listed [aMove] []) (fun t => rb t (R.FRD_PLAN_STATUS 0) F.FRD_PLAN_STATUS_stalled) = true := by
  decide +kernel
theorem test_frond_init : sat (.frondInitDone 31) (modFrond State.reset 31 (fun x => { x with heldReads := [5] })) (fun t =>
    rb t (R.FRD_STATUS 31) F.FRD_STATUS_init_done && decide (t.out = [.readData (.value 5)])) = true := by decide +kernel

/-- Region bytes of a call body: region r at 0x1000 + 0x4000 r, row pitch 1,024 bytes. -/
def callBytes (rows len : Nat) : List Byte :=
  leBytes 2 0 ++ leBytes 2 rows ++ leBytes 2 len ++ List.replicate 22 0 ++ leBytes 4 0xFFFFFFFF
    ++ (List.range 4).flatMap (fun r => leBytes 4 (0x1000 + 0x4000 * r) ++ leBytes 2 16 ++ leBytes 2 1 ++ leBytes 4 (0x20000 + 0x1000 * r)
      ++ List.replicate 4 0) ++ List.replicate 64 0

/-- Frond 0's engine runs a program of `w` and a MOV, on a 2 x 128 tile or on two rows of 4 positions; FP32 regions; v1 and v2 hold `a`
and `b` in lane 0, `b` and `a` in lane 1. -/
def engaged (row : Bool) (fmt w : Nat) (a b : W32) : State :=
  modEng State.reset 0 (fun _ => { v := [[], [a, b, 0x7FC00000#32], [b, a, 0x3F800000#32]], sr := [], run := some {
      op := 0, row := row, slot := 0, desc := (if row then [] else [2, 0, 128, 0] ++ List.replicate 124 0), call := callBytes 2 4
      prog := [w, eWord 0x48 {}], shape := [0, 3, BitVec.ofNat 8 fmt, 1, 1, 1] ++ List.replicate 26 0, step := 3 } })

/-- The instruction issues there and lanes 0, 1 and 2 of v3 then hold these values. -/
def laneTest (mk : Nat → EInstr → Instr) (op : Nat) (i : EInstr) (a b : W32) (r : List W32) : Bool :=
  let s := engaged false 1 (eWord op i) a b
  !eInvalid op i && decide (issuing s 0 (eWord op i) = (engOf s 0).run)
    && sat (mk 0 i) s (fun t => (List.range r.length).all (fun l => vLane (engOf t 0) 3 l == r.getD l 0)
      && decide ((engOf t 0).run.map (·.pc) = some 1))

def rrr : EInstr := { d := 3, a := 1, b := 2, c := 1 }

theorem test_add : laneTest .add 0x01 rrr 0x3F800000#32 0x40000000#32 [0x40400000#32, 0x40400000#32, 0x7FC00000#32] = true := by decide +kernel
theorem test_sub : laneTest .sub 0x02 rrr 0x3F800000#32 0x40000000#32 [0xBF800000#32, 0x3F800000#32, 0x7FC00000#32] = true := by decide +kernel
theorem test_mul : laneTest .mul 0x03 rrr 0x40000000#32 0x40400000#32 [0x40C00000#32, 0x40C00000#32, 0x7FC00000#32] = true := by decide +kernel
theorem test_fma : laneTest .fma 0x04 rrr 0x40000000#32 0x40400000#32 [0x41000000#32, 0x41100000#32, 0x7FC00000#32] = true := by decide +kernel
theorem test_masked_add : laneTest .add 0x01 { rrr with maskEn := true, mreg := 0, zero := true } 0x3F800000#32 0x40000000#32 [0, 0, 0]
    = true := by decide +kernel


theorem test_min : laneTest .min 0x05 rrr 0#32 0x80000000#32 [0x80000000#32, 0x80000000#32, 0x7FC00000#32] = true := by decide +kernel
theorem test_max : laneTest .max 0x06 rrr 0#32 0x80000000#32 [0#32, 0#32, 0x7FC00000#32] = true := by decide +kernel
theorem test_clamp : laneTest .clamp 0x07 rrr 0x3F800000#32 0x40000000#32 [0x3F800000#32, 0x40000000#32] = true := by decide +kernel
theorem test_compares : (laneTest .cmpeq 0x10 rrr 0#32 0x80000000#32 [0xFFFFFFFF#32, 0xFFFFFFFF#32, 0]
    && laneTest .cmplt 0x11 rrr 0#32 0x3F800000#32 [0xFFFFFFFF#32, 0, 0] && laneTest .cmple 0x12 rrr 0#32 0x80000000#32 [0xFFFFFFFF#32, 0xFFFFFFFF#32, 0]
    && laneTest .cmpun 0x13 rrr 0#32 0#32 [0, 0, 0xFFFFFFFF#32] && laneTest .icmpltu 0x14 rrr 1#32 0x80000000#32 [0xFFFFFFFF#32, 0, 0])
    = true := by decide +kernel
theorem test_sel : laneTest .sel 0x18 rrr 0#32 5#32 [5#32, 5#32] = true := by decide +kernel


theorem test_bits : (laneTest .abs 0x08 rrr 0xBF800000#32 1#32 [0x3F800000#32, 1#32] && laneTest .neg 0x09 rrr 0xBF800000#32 1#32 [0x3F800000#32, 0x80000001#32]
    && laneTest .and 0x20 rrr 12#32 10#32 [8#32, 8#32] && laneTest .or 0x21 rrr 12#32 10#32 [14#32, 14#32]
    && laneTest .xor 0x22 rrr 12#32 10#32 [6#32, 6#32] && laneTest .andn 0x23 rrr 12#32 10#32 [4#32, 2#32]) = true := by decide +kernel
theorem test_shifts : (laneTest .shr 0x24 { rrr with aux := 33 } 12#32 0x80000001#32 [6#32, 0x40000000#32]
    && laneTest .shl 0x25 { rrr with aux := 1 } 12#32 0x80000001#32 [24#32, 2#32]
    && laneTest .iadd 0x26 rrr 0xFFFFFFFF#32 2#32 [1#32, 1#32] && laneTest .mov 0x48 rrr 7#32 8#32 [7#32, 8#32]) = true := by decide +kernel


theorem test_functions : (laneTest .exp2 0x30 rrr 0x40000000#32 0xFF800000#32 [0x40800000#32, 0, 0x7FC00000#32]
    && laneTest .log2 0x31 rrr 0x41000000#32 0xBF800000#32 [0x40400000#32, 0x7FC00000#32]
    && laneTest .rcp 0x32 rrr 0x40800000#32 0x80000000#32 [0x3E800000#32, 0xFF800000#32]
    && laneTest .rsq 0x33 rrr 0x40800000#32 0#32 [0x3F000000#32, 0x7F800000#32]) = true := by decide +kernel


theorem test_cvt : laneTest .cvt 0x38 { rrr with fmt := 3 } 0x3F808000#32 0x3F818000#32 [0x3F80#32, 0x3F82#32] = true := by decide +kernel
theorem test_cvt_block : (let s := engaged false 1 (eWord 0x38 { rrr with fmt := 10 }) 0x3F800000#32 0x40000000#32
    !eInvalid 0x38 { rrr with fmt := 10 } && (issuing s 0 (eWord 0x38 { rrr with fmt := 10 })).isSome && isBlockFmt 10
    && sat (.cvt 0 { rrr with fmt := 10 }) s (fun t => (vLane (engOf t 0) 3 0).toNat / 65536 == (vLane (engOf t 0) 3 31).toNat / 65536)) = true := by
  decide +kernel
theorem test_wid : laneTest .wid 0x39 { rrr with fmt := 5 } 0x3C00#32 0xC000#32 [0x3F800000#32, 0xC0000000#32] = true := by decide +kernel
theorem test_i2f : laneTest .i2f 0x3A rrr 0xFFFFFFFF#32 3#32 [0xBF800000#32, 0x40400000#32] = true := by decide +kernel
theorem test_f2i : laneTest .f2i 0x3B rrr 0x40200000#32 0xCF000001#32 [2#32, 0x80000000#32, 0] = true := by decide +kernel
theorem test_rnd : (let s := engaged false 1 (eWord 0x40 rrr) 0 0
    (issuing s 0 (eWord 0x40 rrr)).isSome && sat (.rnd 0 rrr) s (fun t => decide ((vLane (engOf t 0) 3 0).toNat < 65536)
      && decide ((engOf t 0).run.map (·.pc) = some 1))) = true := by decide +kernel
theorem test_ld : (let s := setBytes (engaged false 1 (eWord 0x50 { rrr with aux := 1 }) 0 0) (storeBase 0 + 0x5000) [0, 0, 0x80, 0x3F]
    (issuing s 0 (eWord 0x50 { rrr with aux := 1 })).isSome && sat (.ld 0 { rrr with aux := 1 }) s (fun t => vLane (engOf t 0) 3 0 == 0x3F800000#32)) = true := by
  decide +kernel


theorem test_st : (let i : EInstr := { rrr with aux := 1 }
    let s := engaged false 1 (eWord 0x52 i) 0x3F800000#32 0x40000000#32
    let x := (engOf s 0).run
    !eInvalid 0x52 i && decide (issuing s 0 (eWord 0x52 i) = x) && decide (x.map (fun x => x.fmt 1) = some 1)
      && decide (x.map (fun x => regionTensor s 0 x 0 1) = some none)
      && sat (.st 0 i) s (fun t => numAt t (storeBase 0 + 0x5000) 8 == 0x400000003F800000)) = true := by decide +kernel


theorem test_ldi : (let s := engaged false 1 (ldiWord 17 5) 0 0
    !ldiInvalid 17 5 && (issuing s 0 (ldiWord 17 5)).isSome && sat (.ldi 0 17 ⟨5, .none⟩) s (fun t => sReg (engOf t 0) 1 == 5#32)) = true := by decide +kernel
theorem test_rmax : (let i : EInstr := { d := 16, a := 1 }
    let s := engaged true 1 (eWord 0x60 i) 0x3F800000#32 0x40000000#32
    !eInvalid 0x60 i && (issuing s 0 (eWord 0x60 i)).isSome && sat (.rmax 0 i) s (fun t => sReg (engOf t 0) 0 == 0x7FC00000#32)) = true := by
  decide +kernel
theorem test_rsum : (let i : EInstr := { d := 16, a := 27 }
    let s := engaged true 1 (eWord 0x61 i) 0 0
    !eInvalid 0x61 i && (issuing s 0 (eWord 0x61 i)).isSome && sat (.rsum 0 i) s (fun t => sReg (engOf t 0) 0 == 0x40800000#32)) = true := by
  decide +kernel


theorem test_invalid_words : (let bad (c : Instr) : Bool := match exec c State.reset with
      | .fault _ => true
      | _ => false
    bad (.add 0 { rnd := 2 }) && bad (.cvt 0 { b := 28, fmt := 1 }) && bad (.add 0 { a := 28 }) && bad (.wid 0 { fmt := 4 }) && bad (.ldi 0 15 ⟨0, .none⟩)
      && bad (.ldi 0 24 ⟨0, .none⟩)) = true := by decide +kernel


/-- A SUM table of 10 rows of 16 elements on this device alone, of a version. -/
def tableDesc (v : Nat) : List Byte :=
  leBytes 2 5 ++ [0, 0] ++ leBytes 2 16 ++ [0, 0] ++ leBytes 2 0 ++ leBytes 2 1 ++ leBytes 4 0 ++ leBytes 8 10 ++ leBytes 8 10 ++ leBytes 16 0
    ++ leBytes 8 0x40_0000 ++ leBytes 8 0x41_0000 ++ leBytes 8 0x42_0000 ++ leBytes 32 0 ++ leBytes 16 0 ++ [BitVec.ofNat 8 v] ++ leBytes 7 0

/-- Step 1 of a run with one micro-batch of one sample, whose bag is rows 3, 4, 3. -/
def lookupRuns : State :=
  let d : Nat := selfId State.reset
  let plan : List Byte := leBytes 2 1 ++ leBytes 2 1 ++ leBytes 2 1 ++ leBytes 2 1 ++ leBytes 8 0 ++ leBytes 16 d
    ++ (leBytes 2 5 ++ [2, 0] ++ leBytes 4 0x100 ++ leBytes 4 0x200 ++ leBytes 4 1 ++ leBytes 8 0x1000_0000_0000 ++ leBytes 8 0 ++ leBytes 16 0)
  let s := imaged (opened live) [(5, 0, plan)]
  { s with
    seq := { s.seq with step := some 1, admitQ := [1] }
    sor := { s.sor with tables := [{ id := 5, versions := [⟨tableDesc 2, [d], 0, true, false⟩, ⟨tableDesc 1, [d], 0, true, false⟩] }] } }
theorem test_admit : (mayAdmit lookupRuns 5 0 && (planEntry lookupRuns 5).isSome && (bindVersion lookupRuns 5 1).isSome
    && sat (.lookupBatchAdmit 5 0) lookupRuns (fun t => t.sor.batches.any (fun b => decide (b.version = 2)) && t.seq.admitted.contains (1, 5, 0))) = true := by
  decide +kernel
def aReq (v : Nat) : BagMsg := ⟨v, 5, selfId State.reset, 0, 0, [⟨3, 0⟩], [⟨0, [⟨0, 0⟩, ⟨0, 0⟩], []⟩], 0, true⟩
theorem test_version_unknown : sat (.lookupReq ⟨aReq 9, []⟩) lookupRuns (fun t => decide (reg t (R.SOR_VER_REFUSED_CNT 0) = 1)
    && decide (t.out.head? = some (.message (selfId State.reset) (.lookupRsp ⟨9, 5, selfId State.reset, 0, 0, 0, 0, 1, 1, []⟩)))) = true := by decide +kernel
theorem test_request_served : (match liveVersion lookupRuns 5 2 with
    | some v => mayAnswer lookupRuns v 0 && ((aReq 2).rows.mapM (entryRead lookupRuns v)).isSome
    | none => false) = true := by decide +kernel
def waiting : State := { lookupRuns with sor := { lookupRuns.sor with batches := [{ table := 5, step := 1, mb := 0, version := 2, home := 0, bags := [⟨0, 0x100, 2⟩], reqs := [{ k := 0, dst := 0, msg := { aReq 2 with step := 1 } }] }] } }
theorem test_answer : sat (.lookupRsp ⟨2, 5, 0, 0, 1, 0, 0, 1, 0, [(0, List.replicate 16 0x3C00)]⟩) waiting (fun t => t.sor.batches.any (fun b =>
    decide (b.parts.length = 1) && b.reqs.all (·.answered))) = true := by decide +kernel
theorem test_lookup_end : sat (.lookupEnd 7 1 2) lookupRuns (fun t => decide (t.sor.ends = [(7, 1, 2)])) = true := by decide +kernel
theorem test_version_retires : (let x := tableState lookupRuns 5
    let s := setTable lookupRuns { x with versions := modAt (fun v => { v with bound := true }) x.versions 0 }
    mayRetire s (tableState s 5) && sat (.tableVersionRetire 5) s (fun t => decide ((tableState t 5).versions.map (fun v => dVersion v.desc) = [2]))) = true := by
  decide +kernel

/-- The image of lookupRuns with a sparse record of table 5: SGD, gradients on frond 1 at 0, learning rate scale 1. -/
def sparseSec : List Byte := leBytes 2 1 ++ leBytes 2 0 ++ leBytes 4 1 ++ leBytes 4 1 ++ leBytes 132 0
  ++ (leBytes 2 5 ++ [0, 0, 1, 0] ++ leBytes 2 1 ++ leBytes 8 0 ++ leBytes 4 0x3F800000 ++ leBytes 44 0)
def updating : State :=
  let d : Nat := selfId State.reset
  let plan : List Byte := leBytes 2 1 ++ leBytes 2 1 ++ leBytes 2 1 ++ leBytes 2 1 ++ leBytes 8 0 ++ leBytes 16 d
    ++ (leBytes 2 5 ++ [2, 0] ++ leBytes 4 0x100 ++ leBytes 4 0x200 ++ leBytes 4 1 ++ leBytes 8 0x1000_0000 ++ leBytes 8 0 ++ leBytes 16 0)
  let s := imaged (opened live) [(5, 0, plan), (0xC, 1, sparseSec)]
  { s with
    seq := { s.seq with step := some 1 }
    sor := { s.sor with stageSize := 1, spillSize := 1, tables := [{ id := 5, versions := [⟨tableDesc 2, [d], 0, true, false⟩] }] } }
theorem test_update_batch : (let s := setSb { updating with seq := { updating.seq with admitted := [(1, 5, 0)] }, sor := { updating.sor with batches := waiting.sor.batches.map (fun b => { b with complete := true }) } } 1 1020 true
    mayUpdate s 1 1 0 && decide (updateStep s 1 0 = some 1) && sat (.updateBatchStart 1 0) s (fun t => sbBit t 1 1022 && !sbBit t 1 1020 && t.sor.updSent.contains (5, 0, 1))) = true := by
  decide +kernel
/-- An owner with one staging entry of row 3 and one expected UPDATE_REQ for it. -/
def merging : State := { lookupRuns with sor := { lookupRuns.sor with
  stage := [⟨selfId State.reset, 5, 2, 3, false, 0, 0, 1, List.replicate 16 (0x3F800000#32, 0)⟩]
  expected := [⟨selfId State.reset, 5, 2, 0, 0, 0, 0, 5, [⟨3, 0⟩]⟩] } }
def anUpdate : BagMsg := ⟨2, 5, selfId State.reset, 0, 0, [⟨3, 0⟩], [⟨0, [⟨0, 0⟩, ⟨0, 0⟩], List.replicate 16 0x4000⟩], 0, true⟩
theorem test_update_merges : (!failed merging && !backPressure merging 0 && (merging.sor.expected.find? (expects anUpdate)).isSome
    && sat (.updateReq anUpdate) merging (fun t => t.sor.stage.any (fun e => decide (e.count = 0) && decide (e.pairs.head? = some (0x40A00000#32, 0#32))))) = true := by
  decide +kernel
theorem test_update_logged : sat (.updateReq anUpdate) { merging with sor := { merging.sor with detOrder := true } } (fun t =>
    decide (t.sor.log = [(5, anUpdate)])) = true := by decide +kernel
theorem test_update_discarded : sat (.updateReq anUpdate) lookupRuns (fun t => decide (reg t (R.SOR_UPD_DUP_CNT 0) = 1)) = true := by decide +kernel
theorem test_update_waits : sat (.updateReq anUpdate) (put merging [(R.SOR_UPD_STATUS (homeOf merging 5), F.SOR_UPD_STATUS_bp, 1)]) (fun t =>
    decide (t.sor.inq = [.updateReq anUpdate])) = true := by decide +kernel
/-- Every rank has ended step 0 with no request outstanding. -/
def endedStep : State := { lookupRuns with sor := { lookupRuns.sor with ends := [(selfId State.reset, 0, 0)] } }
theorem test_step_closes : (mayClose endedStep 0 && !mayClose merging 0 && sat (.ownerStepClose 0) endedStep (fun t => decide (t.sor.closed = 1))) = true := by
  decide +kernel
theorem test_log_merges : (let s := { merging with sor := { merging.sor with detOrder := true, closed := 1, log := [(5, anUpdate)] }, seq := { merging.seq with barrier := 1 } }
    sat (.detOrderMerge 0) s (fun t => decide (t.sor.merged = 1) && t.sor.log.isEmpty
      && t.sor.stage.any (fun e => decide (e.pairs.head? = some (0x40A00000#32, 0#32))))) = true := by decide +kernel
/-- As tableDesc, compositional with 8 remainder rows of 16 elements. -/
def compDesc : List Byte := ((tableDesc 2).set 2 2).set 0x52 16 |>.set 0x58 8
def composed : State := { lookupRuns with sor := { lookupRuns.sor with tables := [{ id := 5, versions := [⟨compDesc, [selfId State.reset], 0, true, false⟩] }] } }
theorem test_rem_grad : sat (.remGrad ⟨2, 5, selfId State.reset, 0, [(6, List.replicate 16 (0x3F800000#32, 0))], 0, true⟩) composed (fun t =>
    t.sor.remDone.contains (5, 0) && t.sor.stage.any (fun e => decide (e.row = 6) && e.rem)) = true := by decide +kernel
theorem test_rem_grad_waits : sat (.remGrad ⟨2, 5, selfId State.reset, 0, [], 0, false⟩) composed (fun t =>
    decide (t.sor.remGrads.length = 1) && t.sor.remDone.isEmpty) = true := by decide +kernel
theorem test_rem_row : sat (.remRow ⟨2, 5, 9, 0, [], 0, true⟩) composed (fun t => t.sor.remRows.contains ⟨5, 0, 9, 0, true⟩) = true := by decide +kernel

/-- The staging entry of row 3 may apply: its step is closed; `g` is its gradient, and the row's planes lie in T1. -/
def applying (g : W32) : State := { updating with sor := { updating.sor with
  closed := 1, stage := [⟨selfId State.reset, 5, 2, 3, false, 0, 0, 0, List.replicate 16 (g, 0)⟩] } }
def applied (s : State) : State := match exec (.rowApply (selfId State.reset) 5 2 3 false) s with
  | .next t => t
  | _ => s
theorem test_row_skips : (let t := applied (applying 0x7F800000#32)
    decide (reg t (R.SOR_UPD_SKIP_CNT 0) = 1) && t.sor.stage.isEmpty && t.sor.commit.isEmpty) = true := by decide +kernel
theorem test_row_applies : (let s := applying 0x3F800000#32
    s.sor.stage.any (mayApply s) && (readRow s (selfId s) (tableDesc 2) false 3).isSome
    && decide ((applied s).sor.stage.length = 0) && decide ((applied s).sor.commit.length = 1)) = true := by decide +kernel
def pending : State := { updating with sor := { updating.sor with pend := [⟨selfId State.reset, 5, 2, 3, false, 0, 0, List.replicate 16 0, sparseParams updating ((sparseRec updating 5).getD 0), false⟩] } }
theorem test_pending_completes : sat (.pendingEntryComplete (selfId State.reset) 5 3 false) pending (fun t => t.sor.pend.isEmpty
    && decide (t.sor.commit.length = 1)) = true := by decide +kernel
theorem test_spill_returns : (let s := put { pending with sor := { pending.sor with pend := pending.sor.pend.map (fun x => { x with spilled := true }) } } [(R.SOR_UPD_STATUS 0, F.SOR_UPD_STATUS_bp, 1)]
    sat (.spillRingReturn 0) s (fun t => t.sor.pend.all (fun x => !x.spilled) && !rb t (R.SOR_UPD_STATUS 0) F.SOR_UPD_STATUS_bp)) = true := by decide +kernel
theorem test_row_commits : (let s := applied (applying 0x3F800000#32)
    let s := { s with sor := { s.sor with commit := s.sor.commit.map (fun c => { c with acked := true }) } }
    sat (.rowCommit (selfId State.reset) 5 3 false) s (fun t => t.sor.commit.isEmpty && decide (reg t (R.SOR_UPD_COMMIT_CNT 0) = 1))) = true := by decide +kernel
def acked (s : State) : Bool := s.sor.commit.any (fun c => c.acked)
theorem test_soredium_ack : (let s := { updating with sor := { updating.sor with commit := [⟨0, 5, 2, 3, false, 0, 4, [], some (9, 7), false, [], none⟩] } }
    sat (.sorediumAck 9 4 7) s acked && sat (.sorediumAck 9 4 8) s (fun t => !acked t)) = true := by decide +kernel
/-- A group of 6 members, this device the parity holder of row 0 of member 1. -/
def grouped : State :=
  let d : Nat := selfId State.reset
  let sec : List Byte := leBytes 2 1 ++ leBytes 2 0 ++ leBytes 4 0x40 ++ leBytes 8 0x1000_2000_0000 ++ leBytes 8 0x1000_3000_0000 ++ leBytes 8 0x1_0000 ++ leBytes 8 0x1000_4000_0000
    ++ leBytes 24 0 ++ ([4, 0] ++ leBytes 2 6 ++ leBytes 4 0 ++ leBytes 2 17 ++ leBytes 2 21 ++ leBytes 2 d ++ leBytes 2 25 ++ leBytes 2 29 ++ leBytes 2 33 ++ leBytes 4 0)
  let s := imaged (opened live) [(7, 0, sec)]
  { s with sor := { s.sor with tables := [{ id := 5, versions := [⟨tableDesc 2, [21], 0, true, false⟩] }] } }
theorem test_soredium : (let m : Soredium := ⟨21, 4, [⟨0, 5, false, [1, 2, 3]⟩], 7, false⟩
    (heldSlot grouped 21 ⟨0, 5, false, [1, 2, 3]⟩).isSome && !scrubHolds grouped m
    && sat (.soredium m) grouped (fun t => t.out.any (fun o => decide (o = .message 21 (.sorediumAck (selfId State.reset) 4 7))))) = true := by decide +kernel

/-- Two stacks with four pool frames each, expander 0 with eight frames, every page covered. -/
def tierPol : TierPolicy := ⟨64, 4, 2, 1, 1, 1, 3, 1, 1, 1, (4096, 4) :: (4096, 4) :: List.replicate 6 (0, 0), [(0, 64, 2)]⟩
/-- Page 3 lies in T1 stack 1 frame 4096, page 5 in T2 frame 2 of expander 0 with heat 3. -/
def tiered : State :=
  let s := { opened live with tier := { live.tier with policy := some tierPol, sources := modAt (fun _ => ⟨1, 0, 8, none⟩) live.tier.sources 0, expanders := [(0, 8)] } }
  let c : Nat := setBits 0 40 1 1
  setPte (setPte s 3 (pteAt c 1 (.t1 1 4096))) 5 (setBits (pteAt c 5 (.t2 0 2)) 56 8 3)
def migStarted (t : State) (k : MigKind) (p : Nat) (dst : Place) : Bool := match t.tier.migs with
  | [m] => decide (m.kind = k) && decide (m.page = p) && decide (m.dst = dst) && pteMig (pte t p)
  | _ => false
def inT1 (n f : Nat) (p : Option Place) : Bool := decide (p = some (.t1 n f))
theorem test_choose : (inT1 0 4096 (chooseT1 tiered (fun _ => true)) && inT1 1 4097 (chooseT1 (setReg tiered (R.TIER_STK_TOUCH 0) 9) (fun _ => true))) = true := by
  decide +kernel
theorem test_heat_epoch : (let s := { tiered with tier := { tiered.tier with touches := [4, 0, 0, 0, 0, 0, 0, 7], promoted := 1 } }
    sat (.heatEpoch 2500000) s (fun t => decide (reg t R.TIER_HEAT_EPOCH = 2) && decide (reg t (R.TIER_STK_TOUCH 7) = 7) && decide (t.tier.promoted = 0))) = true := by
  decide +kernel
theorem test_new_policy : (let sec : List Byte := leBytes 4 4 ++ [4, 2, 0, 1] ++ leBytes 4 64 ++ leBytes 4 65 ++ List.replicate 72 0 ++ leBytes 8 0
    let i := imaged tiered [(0xD, 0, sec)]
    let s := { i with mem := i.mem, tier := { tiered.tier with policyDue := true } }
    sat (.heatEpoch 2500000) s (fun t => decide (reg t R.TIER_RANGE = 4) && decide (t.tier.policy.isSome) && !t.tier.policyDue)) = true := by decide +kernel
theorem test_scan : (let s := { tiered with tier := { tiered.tier with scanPos := 4 } }
    let s := setReg s R.TIER_HEAT_EPOCH 1
    sat .scanVisit s (fun t => decide (pteHeat (pte t 5) = 1) && decide (pteStamp (pte t 5) = 1) && decide (t.tier.scanPos = 6))
      && sat .scanVisit live (fun t => decide (t = live))) = true := by decide +kernel
theorem test_critical_fetch : sat (.criticalRowFetch 0x50080 64) tiered (fun t => t.out.contains (.peatRead 0 2 0x80 64)
    && decide (pteHeat (pte t 5) = 4) && t.tier.queue.contains 5) = true := by decide +kernel
theorem test_promote : sat .promote { tiered with tier := { tiered.tier with queue := [5] } } (fun t => migStarted t .promote 5 (.t1 0 4096)) = true := by
  decide +kernel
theorem test_demote : sat .demote { tiered with tier := { tiered.tier with demoting := true, demoteSel := [3] } } (fun t => migStarted t .demote 3 (.t2 0 0)) = true := by
  decide +kernel
theorem test_rebalance : (sat .rebalance { tiered with tier := { tiered.tier with poolMoves := [3] } } (fun t => migStarted t .rebalance 3 (.t1 0 4096))
    && sat .rebalance { tiered with tier := { tiered.tier with rebal := [⟨1, 5, [(3, 5)]⟩] } } (fun t => migStarted t .rebalance 3 (.t1 0 4096))) = true := by decide +kernel
/-- As tiered, page 5 asked for by a pending update, without a free T1 frame. -/
def crowded : State := { tiered with tier := { tiered.tier with demand := [(5, [7])], policy := some { tierPol with pools := (4096, 0) :: (4096, 1) :: List.replicate 6 (0, 0) } } }
theorem test_demand : (sat .demand { tiered with tier := { tiered.tier with demand := [(5, [7])] } } (fun t => migStarted t .demand 5 (.t1 0 4096)
      && t.tier.migs.any (fun m => decide (m.lines.head? = some 7) && decide (m.lines.length = 1024)))
    && sat .demand crowded (fun t => migStarted t .demote 3 (.t2 0 0))
    && sat .demand (put crowded [(R.TIER_CTL, F.TIER_CTL_mig_en, 0)]) (fun t => rb t R.TIER_STATUS F.TIER_STATUS_full)) = true := by decide +kernel
theorem test_evacuate : (sat .evacuate { tiered with tier := { tiered.tier with evacuate := [3] } } (fun t => migStarted t .evacuate 3 (.t1 0 4096))
    && sat .evacuate { crowded with tier := { crowded.tier with evacuate := [3], demand := [], sources := live.tier.sources } } (fun t =>
      t.tier.migs.isEmpty && !rb t R.TIER_STATUS F.TIER_STATUS_full)) = true := by
  decide +kernel
theorem test_revoke : (let s (x : State) := { x with tier := { x.tier with demand := [], sources := modAt (fun _ => ⟨2, 0, 8, some 0⟩) x.tier.sources 0 } }
    sat .revoke (s tiered) (fun t => migStarted t .revoke 5 (.t1 0 4096)) && sat .revoke (s crowded) (fun t => t.tier.migs.isEmpty && !rb t R.TIER_STATUS F.TIER_STATUS_full)) = true := by
  decide +kernel
/-- Page 64 of table 5, which holds its rows of 64 bytes, is lost and row 0 is rebuilt. -/
def relocating : State :=
  let s := { tiered with sor := { tiered.sor with tables := [{ id := 5, versions := [⟨(tableDesc 2).set 0x18 1, [selfId State.reset], 0, true, false⟩] }] },
                         recov := { tiered.recov with rebuilds := [⟨selfId State.reset, ⟨5, false, 0⟩, false, 0, [], [], [], List.replicate 128 7, false, true⟩] } }
  setPte s 0x40 (setBits (setBits 0 40 1 1) 43 2 3)
theorem test_rebuild : sat .rebuild relocating (fun t => t.tier.migs.any (fun m => decide (m.kind = .rebuild) && decide (m.dst = .t1 0 4096) && decide (m.pass = 3))
    && byteAt t (placeKey (.t1 0 4096)) == 7) = true := by decide +kernel

/-- Page 5 moves from frame 2 of expander 0 to stack 1 frame 4098; line 0 differs and is in the list of its pass, or dirty. -/
def moving (pass : Nat) (lines dirty : List Nat) (held : List HeldWrite) : State :=
  let s := setBytes tiered (placeKey (.t2 0 2) + 3) [9]
  setPte { s with tier := { s.tier with migs := [⟨5, .promote, some (.t2 0 2), .t1 1 4098, pass, lines, dirty, 0, held, []⟩] } } 5
    (setBits (pte s 5) 41 1 1)
theorem test_migration_pass : (sat (.migrationPassDone 5 40) (moving 0 [0, 1] [] []) (fun t => byteAt t (placeKey (.t1 1 4098) + 3) == 9
      && t.tier.migs.any (fun m => decide (m.pass = 3) && decide (m.holdAt = 40)))
    && sat (.migrationPassDone 5 40) (moving 0 [0, 1] [7] []) (fun t => t.tier.migs.any (fun m => decide (m.pass = 1) && decide (m.lines = [7])))
    && sat (.migrationPassDone 5 40) (moving 1 [0, 1] [7] []) (fun t => t.tier.migs.any (fun m => decide (m.pass = 3) && decide (m.dirty = [7])))) = true := by
  decide +kernel
theorem test_flip : (sat (.finalPassFlip 5 40) (moving 3 [] [0] []) (fun t => t.tier.migs.isEmpty && decide (tierRead t 0x50003 1 = [9])
      && decide (ptePlace (pte t 5) = some (.t1 1 4098)) && decide (reg t R.TIER_PROMOTE_CNT = 1) && decide (reg t R.TIER_HOLD_MAX = 40))
    && sat (.finalPassFlip 5 40) (moving 3 [] [0] [⟨[(0x50010, [4, 5])], 0⟩]) (fun t => decide (tierRead t 0x50010 2 = [4, 5]) && decide (tierRead t 0x50003 1 = [9]))) = true := by
  decide +kernel
theorem test_abandon : (sat (.finalPassAbandon 5 20000) (moving 3 [] [0] [⟨[(0x50010, [4, 5])], 0⟩]) (fun t => t.tier.migs.isEmpty
      && decide (ptePlace (pte t 5) = some (.t2 0 2)) && decide (tierRead t 0x50010 2 = [4, 5]) && decide (reg t R.TIER_ABANDON_CNT = 1))
    && sat (.finalPassAbandon 5 19999) (moving 3 [] [0] []) (fun t => decide (t.tier.migs.length = 1))) = true := by decide +kernel
theorem test_frame_free : sat (.sourceFrameFree 5) { tiered with tier := { tiered.tier with draining := [(5, .t2 0 3)] } } (fun t => t.tier.draining.isEmpty) = true := by
  decide +kernel
theorem test_peat_error : sat (.peatReadError 5) tiered (fun t => decide (pteTier (pte t 5) = 3) && decide (reg t R.TIER_LOST_CNT = 1)
    && rb t R.TIER_FLAGS F.TIER_FLAGS_t2_err) = true := by decide +kernel
theorem test_held_outlives_loss : sat (.peatReadError 5) (moving 3 [] [0] [⟨[(0x50010, [4, 5])], 0⟩]) (fun t => decide (t.tier.waitWrites = [⟨[(0x50010, [4, 5])], 0⟩])
    && t.tier.migs.isEmpty) = true := by decide +kernel
theorem test_expander_down : sat (.expanderLinkDown 0) tiered (fun t => decide (pteTier (pte t 5) = 3) && decide (pteTier (pte t 3) = 1)
    && decide ((t.tier.sources.getD 0 {}).state = 0)) = true := by decide +kernel
theorem test_host_wait : (let s0 := { tiered with tier := { tiered.tier with hostDownSince := some 0, sources := modAt (fun _ => ⟨1, 0x10000, 8, none⟩) tiered.tier.sources 6 } }
    let s := setPte s0 7 (pteAt (setBits 0 40 1 1) 7 (.t2 6 0))
    sat (.hostWaitExpiry 10000001) s (fun t => decide (pteTier (pte t 7) = 3) && decide (pteTier (pte t 5) = 2) && decide ((t.tier.sources.getD 6 {}).state = 0))
      && sat (.hostWaitExpiry 10000000) s (fun t => decide (pteTier (pte t 7) = 2))) = true := by decide +kernel
theorem test_far_link : (let s := { live with hst := { live.hst with farPerstHigh := true }, tier := { live.tier with policy := some tierPol } }
    sat (.farLinkUp 0 8 true) s (fun t => decide (t.tier.sources.getD 0 {} = ⟨1, 0, 8, none⟩)) && sat (.farLinkUp 0 8 false) s (fun t =>
      rb t R.HST_STATUS F.HST_STATUS_far_bad)) = true := by decide +kernel
theorem test_grant : (sat (.grantPeat hd 2 0x10000 0x20000) tiered (fun t => record t 0 0 0 0 && decide (t.tier.sources.getD 6 {} = ⟨1, 0x10000, 2, none⟩))
    && sat (.grantPeat hd 2 0x10000 0x20001) tiered (fun t => record t 0 2 2 0)
    && (let s := { tiered with tier := { tiered.tier with sources := modAt (fun _ => ⟨1, 0x20000, 8, none⟩) tiered.tier.sources 6 } }
      sat (.grantPeat hd 2 0x10000 0x10000) s (fun t => record t 0 2 1 0) && sat (.grantPeat hd 3 0x10000 0x20000) s (fun t => record t 0 2 6 0)
        && sat (.grantPeat hd 3 0x10000 0x10000) s (fun t => record t 0 0 0 0))) = true := by decide +kernel
theorem test_revoke_grant : (let s := { tiered with tier := { tiered.tier with sources := modAt (fun _ => ⟨1, 0x20000, 8, none⟩) tiered.tier.sources 6 } }
    sat (.revokePeat hd 2) s (fun t => worked t 0 (.revokePeat 2) (some ⟨0, 0, 0, []⟩) && decide ((t.tier.sources.getD 6 {}).state = 0))
      && sat (.revokePeat hd 2) (setPte s 7 (pteAt (setBits 0 40 1 1) 7 (.t2 6 0))) (fun t => worked t 0 (.revokePeat 2) none
        && decide ((t.tier.sources.getD 6 {}).state = 2))
      && sat (.revokePeat hd 3) s (fun t => record t 0 2 3 0)) = true := by decide +kernel

/-- Stack 1 is open and holds the bytes 1 to 3 at offset 0x2000_0000. -/
def openStack : State := put (setBytes live (hbmBase 1 + 0x2000_0000) [1, 2, 3]) [(R.STK_STATUS 1, F.STK_STATUS_init_done, 1), (R.STK_STATUS 1, F.STK_STATUS_link_up, 1)]
def answered (t : State) (r : D2DReply) : Bool := t.out.contains (.d2d 1 r)
def lineBytes : List Byte := [1, 2, 3] ++ List.replicate 61 0
theorem test_rd64 : (stackOpen openStack 1 && sat (.rd64 1 9 0x2000_0000 .good) openStack (fun t => answered t (.data 9 0 lineBytes) && decide (reg t (R.STK_RD_BYTES 1) = 64))
    && sat (.rd64 1 9 0x2000_0000 ⟨[(4, 1)], []⟩) openStack (fun t => answered t (.data 9 0 lineBytes) && decide (reg t (R.STK_CORR_CNT 1) = 1))
    && sat (.rd64 1 9 0x2000_0020 .good) openStack (fun t => answered t (.data 9 2 []))
    && sat (.rd64 1 9 0x2000_0000 .good) live (fun t => decide ((stackOf t 1).waiting.length = 1))) = true := by decide +kernel
/-- Errors in the symbols of five pins. -/
def fiveBad : LineErr := ⟨(List.range 5).map (fun j => (j, 1)), []⟩
theorem test_rd64_poison : (let s := put tiered [(R.STK_STATUS 1, F.STK_STATUS_init_done, 1)]
    sat (.rd64 1 9 0x1000_0000 fiveBad) s (fun t => answered t (.data 9 1 []) && decide (pteTier (pte t 3) = 3) && !failed t)
      && sat (.rd64 1 9 0x2000_0000 fiveBad) s (fun t => answered t (.data 9 1 []) && failed t)) = true := by decide +kernel
theorem test_rd256 : sat (.rd256 1 9 0x2000_0000 []) openStack (fun t => answered t (.data 9 0 (lineBytes ++ List.replicate 192 0))) = true := by decide +kernel
theorem test_wr64 : (sat (.wr64 1 9 0x2000_0000 (2 ^ 64 - 1) (List.replicate 64 7) .good) openStack (fun t => answered t (.written 9 0)
      && decide (bytesAt t (hbmBase 1 + 0x2000_0000) 64 = List.replicate 64 7))
    && sat (.wr64 1 9 0x2000_0000 2 (List.replicate 64 7) .good) openStack (fun t => decide (bytesAt t (hbmBase 1 + 0x2000_0000) 3 = [1, 7, 3]))) = true := by decide +kernel
theorem test_wr256 : sat (.wr256 1 9 0x2000_0000 (List.replicate 256 7)) openStack (fun t => answered t (.written 9 0)
    && decide (bytesAt t (hbmBase 1 + 0x2000_00C0) 64 = List.replicate 64 7)) = true := by decide +kernel
theorem test_msg : sat (.msg 1 (.sorediumAck 3 4 5)) openStack (fun t => t.out.contains (.d2d 1 (.msg (.sorediumAck 3 4 5)))) = true := by decide +kernel
/-- A completion flit with a sequence number. -/
def aFlit (seq : Nat) : Flit := ⟨3, seq, 9, 0, List.replicate 64 0⟩
theorem test_crc32c : crc32c [0x31, 0x32, 0x33, 0x34, 0x35, 0x36, 0x37, 0x38, 0x39] = 0xE3069283 := by decide +kernel
/-- The receiver of stack 1's link towards the compute die expects seq 5 after `k` refusals; the retry buffer holds 3, 4 and 5. -/
def linked (k : Nat) : State := modLink openStack 1 true (fun l => { l with expected := 5, refusals := k, sinceAck := 63, retry := [aFlit 3, aFlit 4, aFlit 5] })
/-- The arrival of 72 bytes as a flit. -/
def flitCmd (n : Nat) (up : Bool) (bs : List Byte) : Instr := .d2dFlit n up (leVal (bs.take 4)) (bs.drop 4)
theorem test_flit : (sat (flitCmd 1 true (flitBytes (aFlit 5))) (linked 2) (fun t => decide ((linkOf (stackOf t 1) true).expected = 6) && t.out.contains (.flit 1 (.flit false (flitBytes (controlFlit false 5)))))
    && sat (flitCmd 1 true (List.replicate 72 1)) (linked 2) (fun t => decide ((linkOf (stackOf t 1) true).refusals = 3) && t.out.contains (.flit 1 (.flit false (flitBytes (controlFlit true 5)))))
    && sat (flitCmd 1 true (List.replicate 72 1)) (linked 7) (fun t => rb t (R.STK_STATUS 1) F.STK_STATUS_retraining && decide (reg t (R.STK_RETRAIN_CNT 1) = 1))) = true := by
  decide +kernel
theorem test_link_control : (sat (.d2dLinkControl 1 true false 4) (linked 0) (fun t => decide ((linkOf (stackOf t 1) true).retry = [aFlit 5]))
    && sat (.d2dLinkControl 1 true true 4) (linked 0) (fun t => decide ((linkOf (stackOf t 1) true).retry = [aFlit 4, aFlit 5]) && t.out.contains (.flit 1 (.flit true (flitBytes (aFlit 5)))))) = true := by
  decide +kernel
theorem test_d2d_retrain : (let s := put openStack [(R.STK_STATUS 1, F.STK_STATUS_retraining, 1)]
    sat (.d2dRetrainDone 1 ⟨true, [], []⟩) s (fun t => !rb t (R.STK_STATUS 1) F.STK_STATUS_retraining && rb t (R.STK_STATUS 1) F.STK_STATUS_link_up)
      && sat (.d2dRetrainDone 1 ⟨false, [], []⟩) s (fun t => decide ((stackOf t 1).trainFails = 1) && !failed t)
      && sat (.d2dRetrainDone 1 ⟨false, [], []⟩) (modStack s 1 (fun x => { x with trainFails := 2 })) failed
      && sat (.d2dRetrainDone 1 ⟨true, (List.range 17), []⟩) s (fun t => decide ((stackOf t 1).trainFails = 1))) = true := by decide +kernel
theorem test_scrub : (sat (.patrolScrub 1 .good) openStack (fun t => decide ((stackOf t 1).scrubPos = 1))
    && sat (.patrolScrub 1 .good) (modStack openStack 1 (fun x => { x with scrubPos := stackSize / 64 - 1 })) (fun t => decide ((stackOf t 1).scrubPos = 0)
      && decide (reg t (R.STK_SCRUB_PASS_CNT 1) = 1))) = true := by decide +kernel
theorem test_refresh : sat (.refresh 1 ⟨1000, []⟩) openStack (fun t => decide (reg t (R.STK_REFRESH_TIME 1) = 1000)) = true := by decide +kernel
theorem test_row_repair : sat (.rowRepairDone 1 3 9) (modStack openStack 1 (fun x => { x with failing := [(3, 9)] })) (fun t => (stackOf t 1).failing.isEmpty
    && decide (rowUse (stackOf t 1) 3 9 = 1) && decide (reg t (R.STK_REPAIR_CNT 1) = 1) && decide (rf t (R.STK_SPARE 1) F.STK_SPARE_min_free = 15)) = true := by
  decide +kernel
theorem test_stack_init : sat (.stackInitDone 1) { live with rst := { live.rst with released := 2 ^ 23 } } (fun t => stackOpen t 1) = true := by decide +kernel

/-- A shard plan of one block of 2 elements with these contributors, replica (0x8000 + ID, or 0) and log2 of the part count. -/
def shardSecOf (ids : List Nat) (replica parts : Nat) : List Byte :=
  leBytes 4 1 ++ leBytes 2 1 ++ [0, 0] ++ leBytes 8 0x1000_3000_0000 ++ leBytes 8 0x10_0000 ++ leBytes 16 0 ++ leBytes 4 0x40 ++ leBytes 4 0x80 ++ leBytes 16 0
    ++ leBytes 4 0x48 ++ leBytes 4 0 ++ (leBytes 2 ids.length ++ leBytes 6 0 ++ ids.flatMap (leBytes 2) ++ List.replicate (48 - 2 * ids.length) 0)
    ++ (leBytes 8 5 ++ leBytes 4 2 ++ leBytes 2 (selfId State.reset) ++ leBytes 2 replica ++ leBytes 2 0 ++ leBytes 2 0 ++ [6, 0] ++ leBytes 2 (parts * 0x1000) ++ leBytes 8 0)
/-- A dense section: SGD without momentum, rate 1, DROP, no clipping. -/
def denseSec : List Byte := leBytes 2 1 ++ leBytes 2 1 ++ leBytes 4 0 ++ leBytes 4 1000000 ++ leBytes 4 0 ++ leBytes 16 0
  ++ (leBytes 8 0 ++ leBytes 4 0x3F800000 ++ leBytes 4 0) ++ (leBytes 4 0 ++ leBytes 4 0x3F800000 ++ leBytes 24 0)
/-- Step 3 runs, its window closes at 500; the loss scale is 2^0. -/
def reducing (ids : List Nat) (replica parts : Nat) : State :=
  let i := put (imaged (opened live) [(6, 0, shardSecOf ids replica parts), (0xC, 0, denseSec)]) [(R.SCL_LOSS, F.SCL_LOSS_L, 0)]
  let s := i
  { s with stepCtr := 4, seq := { s.seq with step := some 3, barrier := 3 }, rau := { s.rau with base := 3, window := 4, closed := 3, closeAt := 500 } }
def me0 : Nat := selfId State.reset
def red1 (elems : List Nat) : ReduceMsg := ⟨me0, 0, 3, 0, elems, true, false⟩
def theBlock (s : State) : BlockEntry := (blockEntry s 0).getD ⟨0, 0, 0, 0, 0, [], 0, 0, 0, 0, 0, 0⟩
theorem test_reduce_final : (let s := reducing [me0] 0 0
    mayReduce s (theBlock s) me0 && actsPrimary s (theBlock s) && sat (.reduce (red1 [0x3C00, 0xC000]) 100) s (fun t =>
      decide ((blk t 0).ready = 4) && decide (logGrad t (theBlock t) 3 = [0x3F800000#32, 0xC0000000#32]) && decide (reg t (R.RAU_CONTRIB_CNT 0) = 1))) = true := by
  decide +kernel
theorem test_reduce_kept : (let s := reducing [me0] 0 0
    sat (.reduce (red1 [0x3C00]) 100) s (fun t => decide (findContribution t 0 3 me0 = some ⟨me0, 3, [(0, [0x3C00])], false, false⟩))
      && sat (.reduce { red1 [0x3C00] with source := 9 } 100) s (fun t => decide (reg t (R.RAU_UNMAPPED_CNT 0) = 1))
      && sat (.reduce (red1 [0x3C00, 0]) 100) (setSeen s 0 3 me0 1) (fun t => decide (reg t (R.RAU_DUP_CNT 0) = 2))
      && sat (.reduce (red1 [0x3C00, 0]) 500) s (fun t => decide (reg t (R.RAU_LATE_CNT 0) = 1) && decide (seenState t 0 3 me0 = some 2))) = true := by
  decide +kernel
/-- A split block whose parts other devices lead. -/
def splitting : State := reducing [200, 300] 0 1
def aPart (last skip : Bool) : PartMsg := ⟨200, 0, 3, 0, 0, [(0x3F800000#32, 0#32)], last, skip, [0], 2⟩
theorem test_part : (actsPrimary splitting (theBlock splitting) && sat (.part (aPart false false) 100) splitting (fun t =>
    decide (findPart t 0 3 0 = some ⟨0, 3, 0, [(0, [(0x3F800000#32, 0#32)])], [], false, false⟩))) = true := by decide +kernel
theorem test_part_late : sat (.part (aPart true true) 66037) splitting (fun t => t.rau.parts.isEmpty) = true := by decide +kernel
theorem test_part_skip : sat (.part (aPart true true) 100) splitting (fun t => decide ((blk t 0).ready = 4) && decide ((blk t 0).skips = [3])) = true := by
  decide +kernel
theorem test_window : (let s := reducing [me0] 0 0
    sat (.windowClose 500) s (fun t => decide (t.rau.closed = 4) && decide ((blk t 0).ready = 4) && decide (reg t (R.RAU_DROP_CNT 0) = 1))
      && sat (.windowClose 499) s (fun t => decide (t.rau.closed = 3))) = true := by decide +kernel
theorem test_deadline : (let s := { splitting with rau := { splitting.rau with closed := 4 } }
    sat (.partDeadline 66037) s (fun t => decide ((blk t 0).ready = 4) && decide (reg t (R.RAU_DROP_CNT 0) = 2))
      && sat (.partDeadline 66036) s (fun t => decide ((blk t 0).ready = 3))) = true := by decide +kernel
/-- The step's only block is final; the line of level 1 has another device. -/
def recordDue (ids : List Nat) : State :=
  let s := setBlk (reducing ids 0 0) { blk (reducing ids 0 0) 0 with ready := 4 }
  { s with rau := { s.rau with closed := 4 } }
def peer1 : Nat := ((List.range 64).find? (fun d => decide (d ≠ me0) && [2, 3, 4].all (fun l => decide (levelCoord l d = levelCoord l me0)))).getD 0
theorem test_record : (let s := recordDue [me0, peer1]
    mayRecord { s with ft := 600 } 600 && sat (.barrierRecord 600) s (fun t => decide (t.rau.own = some (3, ⟨false, 0, 0, 600, 1⟩)) && decide (t.rau.level = 1)
      && t.out.contains (.message peer1 (.barrier ⟨me0, 3, 1, ⟨false, 0, 0, 600, 1⟩⟩)))
    && sat (.barrierRecord 499) s (fun t => t.rau.own.isNone)) = true := by decide +kernel
theorem test_barrier_alone : sat (.barrierRecord 600) (recordDue [me0]) (fun t => decide (t.seq.barrier = 4) && t.seq.step.isNone
    && decide (t.rau.results = [⟨3, ⟨false, 0, 0, 600, 1⟩, 0x3F800000#32⟩])) = true := by decide +kernel
def peer4 : Nat := 1
theorem test_barrier_last : (let r0 := recordDue [me0, peer4]
    let s := { r0 with rau := { r0.rau with own := some (3, ⟨false, 0, 0, 600, 1⟩), level := 4 } }
    decide (lineOf s 4 = [me0, peer4]) && sat (.barrier ⟨peer4, 3, 4, ⟨true, 0, 0, 700, 5⟩⟩) s (fun t => decide (t.rau.tMax = 700) && decide (t.seq.barrier = 4)
      && decide (reg t R.SCL_OVF_CNT = 1))) = true := by decide +kernel
theorem test_barrier_kept : sat (.barrier ⟨9, 3, 2, ⟨true, 0, 0, 700, 5⟩⟩) (recordDue [me0]) (fun t => decide (t.rau.recs.length = 1)) = true := by decide +kernel
theorem test_scale_kept : sat (.scale ⟨9, 3, 1, [], []⟩) (recordDue [me0]) (fun t => decide (t.scl.recs.length = 1)) = true := by decide +kernel

/-- The barrier of step 3 has completed; x is 1, 2 and the logged gradient 0.5, 0.5. -/
def applyDue (replica : Nat) (vote : Bool) (ready : Nat) : State :=
  let s0 := reducing [me0] replica 0
  let e := theBlock s0
  let s1 := setBytes (putGrad s0 e 3 0 [0x3F000000#32, 0x3F000000#32]) (regionAddr s0 e) (leBytes 4 0x3F800000 ++ leBytes 4 0x40000000)
  let s := setBlk s1 { blk s1 0 with ready := ready }
  { s with rau := { s.rau with results := [⟨3, ⟨vote, 0, 0, 600, 1⟩, 0x3F800000#32⟩] } }
theorem test_apply : (sat (.blockApply 0) (applyDue 0 false 4) (fun t => decide (numAt t (regionAddr t (theBlock t)) 8 = 0x3FC00000_3F000000)
      && decide ((blk t 0).applied = 4))
    && sat (.blockApply 0) (applyDue 0 true 3) (fun t => decide ((blk t 0).applied = 4) && decide (numAt t (regionAddr t (theBlock t)) 8 = 0x40000000_3F800000))
    && sat (.blockApply 0) (applyDue 0 false 3) (fun t => decide ((blk t 0).applied = 3))) = true := by decide +kernel
theorem test_apply_nonfinite : (let s := putGrad (applyDue 0 false 4) (theBlock (applyDue 0 false 4)) 3 0 [0x7F800000#32]
    sat (.blockApply 0) s (fun t => decide ((blk t 0).applied = 4) && decide (reg t (R.RAU_NONFIN_CNT 0) = 1)
      && decide (numAt t (regionAddr t (theBlock t)) 8 = 0x40000000_3F800000))) = true := by decide +kernel
def applied4 (replica : Nat) : State := setBlk (applyDue replica false 4) { blk (applyDue replica false 4) 0 with applied := 4 }
theorem test_digest_alone : (let s := applied4 0
    let x := blk s 0
    (match exec (.digestComputeDone ⟨0, []⟩) s with
      | .next _ => true
      | _ => false)
      && decide (liveHolders s (theBlock s) = [selfId s]) && decide (x.digested < x.applied) && decide (x.digested = x.agreed)
      && decide (x.agreed % 32 ≠ 31)) = true := by decide +kernel
theorem test_digest_sent : sat (.digestComputeDone ⟨0, []⟩) (applied4 (0x8000 + 200)) (fun t => decide ((blk t 0).agreed = 3) && decide ((blk t 0).digested = 4)
    && t.out.any (fun o => match o with
      | .message d (.digest m) => decide (d = 200) && decide (m.step = 3)
      | _ => false)) = true := by decide +kernel
/-- This holder has its digests of step 3, the replica's have not come. -/
def digested4 : State := setBlk (applied4 (0x8000 + 200)) { blk (applied4 (0x8000 + 200)) 0 with digested := 4, digests := [(3, me0, [77])] }
theorem test_digest : (sat (.digest ⟨200, 0, 3, 0, [77], true⟩ []) digested4 (fun t => decide ((blk t 0).agreed = 4))
    && sat (.digest ⟨200, 0, 3, 0, [78], true⟩ []) digested4 (fun t => (blk t 0).replaying && decide (reg t (R.RAU_REPLAY_CNT 0) = 1))) = true := by decide +kernel
theorem test_replay_lost : (let s := setBlk digested4 { blk digested4 0 with replaying := true, digested := 3 }
    sat (.blockReplayDone 0 none) s (fun t => t.recov.lostBlocks.contains 0 && decide (reg t (R.RAU_ROLLBACK_CNT 0) = 1))) = true := by decide +kernel
/-- A replay whose snapshot of step 3 is good. -/
def replaying4 : State :=
  let s := setBlk digested4 { blk digested4 0 with replaying := true }
  { s with rau := { s.rau with snaps := [(0, 0, 3, [0])] } }
theorem crc64_zeros (n : Nat) : crc64 (List.replicate n 0) = 0 := by
  induction n with
  | zero => rfl
  | succ k ih => exact ih
theorem test_replay_snapshot : goodSnapshot replaying4 (theBlock replaying4) 3 = some (0, 3) := by
  have h : digestsOf (bytesAt replaying4 (snapAddr replaying4 (theBlock replaying4) 0)
      (stateSize (denseOpt replaying4 (theBlock replaying4).opt) (theBlock replaying4).nElem)) = [0] := by
    have hc : chunksOf (4 * 2 ^ 20) (bytesAt replaying4 (snapAddr replaying4 (theBlock replaying4) 0)
        (stateSize (denseOpt replaying4 (theBlock replaying4).opt) (theBlock replaying4).nElem)) = [List.replicate 192 0] := by
      decide +kernel
    rw [digestsOf, hc, List.map_singleton, crc64_zeros]
  have hs : replaying4.rau.snaps = [(0, 0, 3, [0])] := rfl
  have hb : (theBlock replaying4).block = 0 := by decide +kernel
  unfold goodSnapshot
  rw [hs]
  simp only [List.filter_cons, List.filter_nil, h, hb]
  rfl
theorem test_replaying : ((blk replaying4 0).replaying && decide (200 ∈ otherHolders replaying4 (theBlock replaying4))) = true := by decide +kernel
/-- This primary's block is agreed for step 3 and may be all-gathered. -/
def gathering : State :=
  let s := setBlk (applyDue 0 false 4) { blk (applyDue 0 false 4) 0 with applied := 4, agreed := 4 }
  { s with scl := { s.scl with pubs := [(4, [])] } }
theorem test_gather : (actsPrimary gathering (theBlock gathering) && (resultOf gathering 3).isSome && decide ((blk gathering 0).gathered = 3)
    && decide ((blk gathering 0).agreed = 4)) = true := by decide +kernel
theorem test_gather_codes : (paramCodes gathering (theBlock gathering) 3).1 = [0x38, 0x40] := by decide +kernel
theorem test_grad : (let s := reducing [200] (0x8000 + me0) 0
    let g : GradMsg := ⟨200, 0, 3, 0, [0x3F000000#32, 0x3F800000#32], true, false, [0], 1⟩
    isHolder s (theBlock s) && sat (.grad g) s (fun t => decide (logGrad t (theBlock t) 3 = g.elems) && decide ((blk t 0).ready = 4))
      && sat (.grad { g with elems := [], skip := true }) s (fun t => decide ((blk t 0).skips = [3]))) = true := by decide +kernel
/-- The parameter map places block 0 on frond 2 at 0x40 with bit 5. -/
def mapped : State :=
  let plan : List Byte := leBytes 4 0x200 ++ leBytes 4 1 ++ leBytes 4 4 ++ List.replicate 0x1F4 0 ++ (leBytes 4 0 ++ [0, 2] ++ leBytes 2 0x8005 ++ leBytes 8 0x40)
  let s := put (imaged live [(6, 0, shardSecOf [me0] 0 0), (1, 0, plan)]) []
  { s with seq := { s.seq with barrier := 4 } }
theorem test_param : (let m : ParamMsg := ⟨200, 0, 3, 0, [0x38], [], 6, 0, true⟩
    decide (paramEntries mapped = [(0, 0, 2, 0x8005, 0x40)]) && sat (.param m) mapped (fun t => decide (numAt t (storeBase 2 + 0x40) 2 = 0x3F80))
      && sat (.param { m with codes := [0x38, 0x40] }) mapped (fun t => sbBit t 2 5 && decide (numAt t (storeBase 2 + 0x40) 4 = 0x40003F80))
      && sat (.param m) (reducing [me0] 0 0) (fun t => decide (reg t (R.RAU_UNMAPPED_CNT 0) = 1))
      && sat (.param m) { mapped with seq := {} } (fun t => decide (t.rau.paramHeld = [m]) && decide (numAt t (storeBase 2 + 0x40) 2 = 0))) = true := by decide +kernel

/-- Every port is UP; port 3 has accepted 7 frames and sent 5, of which the last 3 are not acknowledged. -/
def linkUp : State :=
  let s := put live ((List.range 24).map (fun p => (R.SHK_PORT_STATUS (p / 12) (p % 12), F.SHK_PORT_STATUS_state, 3)))
  let s := put s ((List.range 24).map (fun p => (R.SHK_PORT_LANES (p / 12) (p % 12), F.SHK_PORT_LANES_width, 8)))
  let s := put s ((List.range 24).map (fun p => (R.SHK_PORT_LANES (p / 12) (p % 12), F.SHK_PORT_LANES_good, 255)))
  let rep : List Port := List.replicate 24 { poolSent := List.replicate 12 0, poolFreed := List.replicate 12 0, ownFreed := List.replicate 12 0 }
  modPort { s with shk := { s.shk with ports := rep } } 3 (fun q => { q with accepted := 7, sent := 5, replay := [.idle, .reserved, .deviceFailed 1 2 3] })
def rx3 : Rx := ⟨3, 7, 0, 0, 0, 100⟩
/-- The arrival of a frame with the CRC its content has; a DATA frame's payload is filled up with zeros. -/
def rxOf (f : Frame) : Rx := { rx3 with crc := crc32c (frameContent f) }
def full (bs : List Byte) : List Byte := (bs ++ List.replicate 240 0).take 240
def dataCmd (h : Hdr) (bs : List Byte) : Instr := .data (rxOf (.data h (full bs))) h (full bs)
def errorCmd (h : Hdr) (code vc seq : Nat) (copy : Hdr) : Instr := .error (rxOf (.error h code vc seq copy)) h code vc seq copy
def ackCmd (h : Hdr) (vc next : Nat) : Instr := .e2eAck (rxOf (.e2eAck h vc next)) h vc next
def ctlCmd (nak change : Bool) (lanes acked expected : Nat) (cr : List Nat) : Instr :=
  .linkCtl (rxOf (.linkCtl nak change lanes acked expected cr)) nak change lanes acked expected cr
def beatCmd (b : Heartbeat) : Instr := .heartbeat (rxOf (.heartbeat b)) b
def failedCmd (d reason t : Nat) : Instr := .deviceFailed (rxOf (.deviceFailed d reason t)) d reason t
def hdrTo (dst : Nat) : Hdr := ⟨0, 0, 0, 0, 0, false, 0, 0, 1, dst⟩
def unitBytes (n : Nat) : List Byte :=
  leBytes 8 n ++ leBytes 8 0 ++ [0x21] ++ List.replicate 15 0 ++ leBytes 4 1 ++ leBytes 4 1 ++ List.replicate 200 0
theorem test_frame_discarded : (portUp linkUp 3 && sat (.data { rxOf (.data (hdrTo 0) (full [])) with num := 6 } (hdrTo 0) (full [])) linkUp (fun t => decide ((portOf t 3).accepted = 7))
    && sat (dataCmd (hdrTo 0) []) live (fun t => decide (t.shk = live.shk))) = true := by decide +kernel
theorem test_nak : sat (.data { rxOf (.data (hdrTo 0) (full [])) with uncorr := 1 } (hdrTo 0) (full [])) linkUp (fun t =>
    sat (.data rx3 (hdrTo 0) (full [])) linkUp (fun u => decide (u.out.head? = t.out.head?)) &&
    decide (t.out.head? = some (.frame 3 (.linkCtl true false 0 7 7 (List.replicate 12 0)))) && (portOf t 3).discarding) = true := by decide +kernel
theorem test_out_of_seq : sat (dataCmd { hdrTo (selfId linkUp) with msgSeq := 4 } []) linkUp (fun t => decide (reg t (R.SHK_OUTSEQ_CNT 0) = 1)
    && decide ((portOf t 3).accepted = 8)) = true := by decide +kernel
theorem test_data_not_ready : sat (dataCmd (hdrTo (selfId linkUp)) (unitBytes 100)) (put linkUp [(R.THL_STATUS, F.THL_STATUS_active_valid, 0)])
    (fun t => (flowIn t 1 0).refused.isSome && decide ((flowIn t 1 0).expected = 0)) = true := by decide +kernel
theorem test_data_refused : sat (dataCmd { hdrTo (selfId linkUp) with epochTag := 9 } (unitBytes 100)) linkUp
    (fun t => (flowIn t 1 0).refused.isSome && decide (reg t R.THL_REFUSED_CNT = 1) && (reg t R.THL_MISMATCH_PORTS).toNat.testBit 24) = true := by decide +kernel
theorem test_data_delivered : (tagsOk linkUp (hdrTo 0) && prefixOk 0 (unitBytes 100) && sat (dataCmd (hdrTo (selfId linkUp)) (unitBytes 100)) linkUp
    (fun t => t.out.contains (.delivered 1 0 ((unitBytes 100).take 116)) && decide ((flowIn t 1 0).expected = 1))) = true := by decide +kernel
theorem test_data_bad_header : sat (dataCmd (hdrTo (selfId linkUp)) (leBytes 8 100 ++ leBytes 8 0 ++ [0x21] ++ List.replicate 223 0)) linkUp
    (fun t => decide ((flowIn t 1 0).expected = 1) && !t.out.any (fun o => match o with
      | .delivered _ _ _ => true
      | _ => false)) = true := by decide +kernel
theorem test_data_landing : sat (dataCmd (hdrTo (selfId linkUp)) (unitBytes 1000)) linkUp
    (fun t => decide ((flowIn t 1 0).landing = some ⟨0, 1, unitBytes 1000, 100, 0⟩)) = true := by decide +kernel
theorem test_data_next : sat (dataCmd { hdrTo (selfId linkUp) with index := 1 } (List.replicate 240 5))
    (setFlowIn linkUp { src := 1, vc := 0, landing := some ⟨0, 1, unitBytes 1000, 50, 0⟩ })
    (fun t => decide ((flowIn t 1 0).landing = some ⟨0, 2, unitBytes 1000 ++ List.replicate 240 5, 100, 0⟩)) = true := by decide +kernel
theorem test_data_waits : sat (dataCmd (hdrTo (selfId linkUp)) (unitBytes 1000))
    ([11, 12, 13, 14].foldl (fun s d => setFlowIn s { src := d, vc := 0, landing := some ⟨0, 1, unitBytes 1048576, 50, 0⟩ }) linkUp)
    (fun t => decide (t.shk.blocked = [⟨3, hdrTo (selfId linkUp), unitBytes 1000⟩])) = true := by decide +kernel
theorem test_forward : (decide (selfId linkUp = 0) && decide (outPort linkUp linkUp.shk.route 0 1 2 = some (.a 2, 7))
    && sat (dataCmd (hdrTo 2) [9]) linkUp (fun t => t.out.contains (.frame 7 (.data { hdrTo 2 with hops := 1 } (full [9]))))
    && sat (dataCmd { hdrTo 2 with hops := 48 } [9]) linkUp (fun t => decide (reg t (R.SHK_BADFRAME_CNT 0) = 1))) = true := by decide +kernel
theorem test_forward_none : (let s := put linkUp ((List.range 4).map (fun k => (R.SHK_PORT_STATUS 0 (4 + k), F.SHK_PORT_STATUS_state, 0)))
    decide (outPort s s.shk.route 0 1 2 = none) && sat (dataCmd (hdrTo 2) [9]) s (fun t => rb t (R.SHK_FLAGS 0) F.SHK_FLAGS_noroute)) = true := by decide +kernel
/-- Messages 4 to 6 of the flow to device 2 on virtual channel 0 are not acknowledged. -/
def flowing : State :=
  let om (k : Nat) : OutMsg := ⟨k, .notice ⟨1, 0, 0, 0, 0, 0⟩, 7, 0, none, none, none⟩
  setFlowOut linkUp { dst := 2, vc := 0, next := 7, unacked := [om 4, om 5, om 6] }
theorem test_error : (sat (errorCmd (hdrTo 0) 2 0 4 (hdrTo 2)) flowing (fun t => decide (t.shk.outFlows = flowing.shk.outFlows))
    && sat (errorCmd (hdrTo 0) 5 0 5 (hdrTo 2)) flowing (fun t => decide (reg t (R.SHK_STALE_CNT 0) = 1) && (flowOut t 2 0).unacked.isEmpty
      && decide ((flowOut t 2 0).next = 5))) = true := by decide +kernel
theorem test_e2e_ack : sat (ackCmd { hdrTo 0 with src := 2 } 0 6) flowing (fun t => decide ((flowOut t 2 0).unacked.map (·.seq) = [6])
    && decide ((flowOut t 2 0).progress = 100)) = true := by decide +kernel
theorem test_link_ctl : (sat (ctlCmd false false 0 3 0 (List.replicate 12 9)) linkUp (fun t =>
      decide ((portOf t 3).replay = [.reserved, .deviceFailed 1 2 3]) && decide ((portOf t 3).poolFreed.getD 5 0 = 9))
    && sat (ctlCmd true false 0 3 3 (List.replicate 12 9)) linkUp (fun t =>
      decide (t.out.take 2 = [.frame 3 (.deviceFailed 1 2 3), .frame 3 .reserved]))) = true := by decide +kernel
theorem test_reserved : sat (.reservedFrame (rxOf .reserved)) linkUp (fun t => decide (reg t (R.SHK_BADFRAME_CNT 0) = 1)) = true := by decide +kernel
theorem test_idle : sat (.idle 3 55) linkUp (fun t => decide (t.ft = 55)) = true := by decide +kernel


def portAt (st : Nat) : State := setPortState linkUp 3 st
theorem test_port_train : (let s := { portAt 0 with rst := { linkUp.rst with released := 2 ^ 30 } }
    sat (.portTrainRetry 3 100) s (fun t => decide (portState t 3 = 1)) && sat (.portTrainRetry 3 100) (portAt 2) (fun t => decide (portState t 3 = 2))
      && sat (.portTrained 3 0x7F 100) (portAt 1) (fun t => decide (portState t 3 = 2) && decide (rf t (R.SHK_PORT_LANES 0 3) F.SHK_PORT_LANES_width = 6))
      && sat (.portTrained 3 7 100) (portAt 1) (fun t => decide (portState t 3 = 0))) = true := by decide +kernel
theorem test_lane_fault : (sat (.laneFault 3 0xFF 100) linkUp (fun t => decide (portState t 3 = 3))
    && sat (.laneFault 3 0xFE 100) linkUp (fun t => decide (portState t 3 = 6) && decide (rf t (R.SHK_PORT_LANES 0 3) F.SHK_PORT_LANES_width = 6)
      && rb t (R.SHK_FLAGS 0) F.SHK_FLAGS_lane && t.out.contains (.frame 3 (.linkCtl false true 6 7 0 (List.replicate 12 0))))
    && sat (.laneFault 3 7 100) linkUp (fun t => decide (portState t 3 = 0) && rb t (R.SHK_FLAGS 0) F.SHK_FLAGS_down)) = true := by decide +kernel
theorem test_retrain_done : (sat (.retrainDone 3 100) (portAt 6) (fun t => portUp t 3) && sat (.retrainDone 3 100) (portAt 2) (fun t => decide (portState t 3 = 2))) = true := by
  decide +kernel
theorem test_heartbeat_send : (sat (.heartbeatSend 100) linkUp (fun t => decide (t.out.length = linkUp.out.length + 24))
    && sat (.heartbeatSend 100) (portAt 1) (fun t => decide (t.out.length = linkUp.out.length + 23))) = true := by decide +kernel
theorem test_link_ctl_send : (sat (.linkCtlSend 3 100) linkUp (fun t => decide (t.out.head? = some (.frame 3 (.linkCtl false false 0 7 0 (List.replicate 12 0)))))
    && sat (.linkCtlSend 3 100) (portAt 2) (fun t => decide (t.out = linkUp.out))) = true := by decide +kernel
theorem test_silence : (let s := modPort linkUp 3 (fun q => { q with lastHb := some 1 })
    let s := modPort s 2 (fun q => { q with lastHb := some 262000 })
    decide ((wiredTo s 2).1 = (wiredTo s 3).1)
      && sat (.heartbeatSilence 3 262145) s (fun t => decide (portState t 3 = 0) && decide (reg t (R.SHK_PORT_HB_MISS 0 3) = 64) && t.recov.notices.isEmpty)
      && sat (.heartbeatSilence 3 262144) s (fun t => portUp t 3)) = true := by decide +kernel
/-- A heartbeat of the neighbour that R477 wires to port 3, with this epoch. -/
def beat (epoch : Nat) : Heartbeat := ⟨0, 1, 3, 8, 63, epoch, 0, 90, 0, 0, 0⟩
theorem test_heartbeat : (decide (wiredTo linkUp 3 = (1, 3)) && hbConfigOk linkUp (beat 0) && !hbConfigOk linkUp (beat 1)
    && sat (beatCmd { beat 0 with port := 4 }) linkUp (fun t => decide (portState t 3 = 4) && rb t (R.SHK_FLAGS 0) F.SHK_FLAGS_miswire)
    && sat (beatCmd (beat 1)) linkUp (fun t => decide (portState t 3 = 5) && (reg t R.THL_MISMATCH_PORTS).toNat.testBit 3)
    && sat (beatCmd (beat 0)) (portAt 2) (fun t => decide (portState t 3 = 2) && decide ((portOf t 3).goodHb = 1))
    && sat (beatCmd (beat 0)) (modPort (portAt 2) 3 (fun q => { q with goodHb := 3 })) (fun t => portUp t 3)
    && sat (beatCmd (beat 0)) (portAt 5) (fun t => decide (portState t 3 = 2))
    && sat (beatCmd (beat 0)) (portAt 1) (fun t => decide (portState t 3 = 1))) = true := by decide +kernel
theorem test_e2e_timeout : (decide (choosePlane flowing (flowOut flowing 2 0) = some 0)
    && sat (.e2eTimeout 2 0 65536) flowing (fun t => decide ((flowOut t 2 0).progress = 65536) && decide (reg t (R.SHK_RESEND_CNT 0) = 3))
    && sat (.e2eTimeout 2 0 65535) flowing (fun t => decide ((flowOut t 2 0).progress = 0))) = true := by decide +kernel
theorem test_plane_expiry : (let s := setFlowOut flowing { flowOut flowing 2 0 with invalid := [(3, 50)] }
    planeValid s (flowOut s 2 0) 0 && sat (.planeInvalidExpiry 2 0 50) s (fun t => (flowOut t 2 0).invalid.isEmpty)) = true := by decide +kernel
theorem test_landing_timeout : (let s := setFlowIn linkUp { src := 1, vc := 0, landing := some ⟨0, 1, unitBytes 1000, 50, 0⟩ }
    sat (.landingTimeout 1 0 65586) s (fun t => (flowIn t 1 0).landing.isNone) && sat (.landingTimeout 1 0 65585) s (fun t => (flowIn t 1 0).landing.isSome)) = true := by
  decide +kernel
theorem test_ack_send : (let s := setFlowIn linkUp { src := 1, vc := 0, expected := 5, sinceAck := 2 }
    sat (.e2eAckSend 1 0 100) s (fun t => decide ((flowIn t 1 0).sinceAck = 0) && t.out.any (fun o => match o with
      | .frame 1 (.e2eAck _ 0 5) => true
      | _ => false))) = true := by decide +kernel

def noticeOf (kind d time : Nat) : Notice := ⟨kind, d, 40, 0, time, 1⟩
/-- Device 77 is in the lost set and its epoch has committed. -/
def lost77 : State := { linkUp with recov := { linkUp.recov with lost := [⟨77, 10, 1, 0, true⟩], lastCommit := 200010 } }
theorem test_notice_held : (sat (.silent (noticeOf 1 77 9)) linkUp (fun t => decide (t.recov.notices = [noticeOf 1 77 9])
      && (List.range 24).all (fun p => t.out.contains (.message (wiredTo linkUp p).1 (.notice (noticeOf 1 77 9)))))
    && sat (.heard (noticeOf 2 77 9)) linkUp (fun t => decide (t.recov.notices = [noticeOf 2 77 9]) && t.recov.lost.isEmpty)
    && decide (declTime { linkUp with recov := { linkUp.recov with notices := [noticeOf 1 77 9] } } 77 = none)) = true := by decide +kernel
theorem test_notice_again : sat (.silent (noticeOf 1 77 9)) { linkUp with recov := { linkUp.recov with notices := [noticeOf 1 77 9] } }
    (fun t => decide (t.recov.notices = [noticeOf 1 77 9])) = true := by decide +kernel
theorem test_notice_late : sat (.lost (noticeOf 3 77 9)) lost77 (fun t => decide (reg t R.DEV_REC_LATE_CNT = 1) && rb t R.DEV_REC_FLAGS F.DEV_REC_FLAGS_late
    && decide (t.recov.notices = [noticeOf 3 77 9])) = true := by decide +kernel
theorem test_notice_self : sat (.lost (noticeOf 3 (selfId linkUp) 9)) linkUp failed = true := by decide +kernel
theorem test_notice_lost : sat (.lost (noticeOf 3 77 9)) linkUp (fun t => isLost t 77 && (reg t (R.DEV_REC_LOSTMAP 1)).toNat.testBit 13
    && decide (t.recov.open_ = some (1, 200009))) = true := by decide +kernel
theorem test_device_failed : (sat (failedCmd 77 4 50) linkUp (fun t => isLost t 77 && decide (t.recov.notices = [⟨3, 77, 0, 0, 100, 4⟩]))
    && sat (failedCmd 77 4 50) (portAt 0) (fun t => t.recov.notices.isEmpty)) = true := by decide +kernel
/-- The job has all of a fabric of 2 × 2 × 2 cliques. -/
def routed (s : State) : State := { s with shk := { s.shk with route := some ⟨0xFFF, 0xFFF, [2, 2, 2], [0, 0, 0], [2, 2, 2], 0, 0, 0⟩ } }
theorem test_mismatch : (let u := modPort (portAt 5) 3 (fun q => { q with mismatchSince := some 100 })
    let s := routed u
    decide (1 ∈ neighboursOf s 0 ∧ 1 ∉ neighboursOf u 0) && sat (.mismatchTimeout 3 262244) u (fun t => decide (t = advance 262244 u)) && sat (.mismatchTimeout 3 262244) s (fun t => isLost t 1 && decide (t.recov.notices = [⟨3, 1, 0, 0, 262244, 0x11⟩]))
      && sat (.mismatchTimeout 3 262243) s (fun t => t.recov.notices.isEmpty)) = true := by decide +kernel
theorem test_recovery_commit : (let s := { lost77 with recov := { lost77.recov with lost := [⟨77, 10, 1, 0, false⟩], open_ := some (1, 200010) } }
    sat (.recoveryCommit 200010) s (fun t => t.recov.open_.isNone && decide (t.recov.lastCommit = 200010) && t.recov.lost.all (·.committed))
      && sat (.recoveryCommit 200009) s (fun t => t.recov.open_.isSome)) = true := by decide +kernel


/-- As grouped, every member owns rows 0 to 9 of the table. -/
def sharing : State := { grouped with sor := { grouped.sor with
  tables := [{ id := 5, versions := [⟨tableDesc 2, [17, 21, selfId State.reset, 25, 29, 33], 0, true, false⟩] }] } }
def key5 (l : Nat) : SlotKey := ⟨5, false, l⟩
def lostDev (d : Nat) : LostDev := ⟨d, 10, 1, 0, true⟩
def withLost (s : State) (ds : List Nat) : State := { s with recov := { s.recov with lost := ds.map lostDev } }
/-- Device 21 is member 1 of this device's group; a rebuild of its row 2 has asked devices for their pieces. -/
def rebuilding (r : Rebuild) : State := { sharing with recov := { sharing.recov with rebuilds := [r] } }
def asksOf (l : Nat) (ds : List Nat) : List PieceAsk := ds.map (fun d => (d, 21, key5 l))
def rebAt (l : Nat) (asked received stopped : List Nat) : Rebuild :=
  ⟨21, key5 l, false, 0, asksOf l asked, asksOf l received, asksOf l stopped, [1, 2, 3], false, false⟩
def reb (asked received stopped : List Nat) : Rebuild := rebAt 2 asked received stopped
/-- A row of device 21 below 10 for which this device has a role towards device 25. -/
def rowWith (s : State) (p : PieceRole → Bool) : Nat := ((List.range 10).find? (fun l => (pieceRole s 25 21 (key5 l)).any p)).getD 99
def parityRow : Nat := rowWith sharing (fun r => match r with
  | .parity _ => true
  | _ => false)
def dataRow : Nat := rowWith sharing (fun r => match r with
  | .data _ m => decide (m < 10)
  | _ => false)
/-- A row of device 21 whose spare holder is this device. -/
def spareRow : Nat := ((List.range 10).find? (fun l => decide ((locate 1 l 4).s = 2))).getD 99
theorem test_piece_rd : (decide ((groupOf sharing 21).map (·.1) = some 4) && (match pieceRole sharing 25 21 (key5 parityRow) with
    | some (.parity x) => !rawWaits sharing (parityAddr sharing 4 5 false x) (recordSize sharing (key5 0))
        && sat (.pieceRd 21 25 (key5 parityRow)) sharing (fun t => t.recov.forwards.contains ⟨selfId sharing, 21, 25, key5 parityRow, key5 x, true⟩)
    | _ => false)) = true := by decide +kernel
theorem test_piece_rd_data : (match pieceRole sharing 25 21 (key5 dataRow) with
    | some (.data own m) => (pieceData sharing own (key5 m)).2.isSome && rowThere sharing own (key5 m)
        && sat (.pieceRd 21 25 (key5 dataRow)) sharing (fun t => t.recov.forwards.contains ⟨own, 21, 25, key5 dataRow, key5 m, false⟩)
        && sat (.pieceRd 21 25 (key5 dataRow)) grouped (fun t => t.recov.forwards.isEmpty && t.out.any (fun o => match o with
          | .message 25 (.piece _ _ _ bs) => bs.all (· = 0)
          | _ => false))
    | _ => false) = true := by decide +kernel
/-- As sharing, a commit of this device's row waits to be written. -/
def committing (m : Nat) : State := { sharing with sor := { sharing.sor with
  commit := [⟨selfId sharing, 5, 2, m, false, 0, 4, [], none, false, [], none⟩] } }
theorem test_piece_rd_waits : (match pieceRole sharing 25 21 (key5 dataRow) with
    | some (.data own m) => (pieceData (committing m) own (key5 m)).2.isNone
        && sat (.pieceRd 21 25 (key5 dataRow)) (committing m) (fun t => decide (t.recov.waitRd = [(25, 21, key5 dataRow)]))
    | _ => false) = true := by decide +kernel
/-- The stripe of spareRow, its parity holder, and the slot in which this device stands in for it. -/
def spareHolder : Nat := [17, 21, selfId State.reset, 25, 29, 33].getD (locate 1 spareRow 4).h 0
def standing : State :=
  let s := withLost sharing [spareHolder]
  { s with recov := { s.recov with spared := [(spareHolder, key5 (spareRow / 20), true)] } }
theorem test_piece_rd_stand_in : (decide (pieceRole standing 25 21 (key5 spareRow) = some (.standIn spareHolder (spareRow / 20) (locate 1 spareRow 4).spare))
    && sat (.pieceRd 21 25 (key5 spareRow)) standing (fun t => t.recov.forwards.contains ⟨spareHolder, 21, 25, key5 spareRow, key5 (spareRow / 20), true⟩)
    && sat (.pieceRd 21 25 (key5 spareRow)) sharing (fun t => decide (t.recov.waitRd = [(25, 21, key5 spareRow)]))) = true := by decide +kernel
/-- Row 0 of the lost device 17 has its spare slot on this device; device 21 is the deputy. -/
theorem test_piece_rd_target : (let s := withLost sharing [17]
    decide (pieceRole s 25 17 (key5 0) = some .target ∧ serverOf s 17 = some 21)
      && sat (.pieceRd 17 25 (key5 0)) s (fun t => (findRebuild t 17 (key5 0) false).isSome && decide (t.recov.waitRd.length = 1))
      && sat (.pieceRd 17 25 (key5 0)) { s with recov := { s.recov with spared := [(17, key5 0, false)] } } (fun t =>
        t.out.any (fun o => match o with
          | .message 25 (.piece _ _ _ _) => true
          | _ => false))) = true := by decide +kernel
theorem test_piece : (sat (.piece 21 25 (key5 2) [9]) (rebuilding (reb [17, 25] [] [])) (fun t =>
      decide (t.recov.rebuilds = [{ reb [17, 25] [25] [] with acc := [8, 2, 3] }]) && decide (reg t R.DEV_REC_PIECE_BYTES = 1))) = true := by
  decide +kernel
def parityReb : Rebuild := ⟨17, key5 0, true, 0, [(25, 25, key5 1)], [], [], [], false, false⟩
theorem test_piece_stop : sat (.piece 25 25 (key5 1) [9]) (rebuilding parityReb) (fun t =>
    t.out.any (fun o => match o with
      | .message 25 (.stop _ _ _) => true
      | _ => false)) = true := by decide +kernel
theorem test_piece_parity : (let lostOne := withLost sharing [17]
    match dataPieces lostOne 17 (key5 0) with
    | some (p, ds) => decide (ds.length = 2) && !ds.contains p
        && sat (.piece p.2.1 p.1 p.2.2 [9]) { lostOne with recov := { lostOne.recov with rebuilds := [⟨17, key5 0, false, 0, [p], [], [], [], false, false⟩] } }
          (fun t => ds.all (fun d => t.out.contains (.message d.1 (.pieceRd d.2.1 (selfId sharing) d.2.2))))
    | none => false) = true := by decide +kernel
theorem test_fwd : (sat (.fwd 21 17 ⟨2, 5, false, [9]⟩) (rebuilding (reb [17, 25] [17] [])) (fun t => decide (t.recov.rebuilds.map (·.acc) = [[8, 2, 3]]))
    && sat (.fwd 21 17 ⟨2, 5, false, [9]⟩) sharing (fun t => t.recov.rebuilds.isEmpty)) = true := by decide +kernel
theorem test_stop : sat (.stop 21 25 (key5 2)) { sharing with recov := { sharing.recov with forwards := [⟨17, 21, 25, key5 2, key5 1, true⟩] } }
    (fun t => t.recov.forwards.isEmpty && t.out.contains (.message 25 (.stopped 21 (selfId sharing) (key5 2)))) = true := by decide +kernel
theorem test_stopped : sat (.stopped 21 17 (key5 2)) (rebuilding (reb [17, 25] [17, 25] [])) (fun t =>
    decide (t.recov.rebuilds.map (·.stopped) = [asksOf 2 [17]])) = true := by decide +kernel
theorem test_stopped_last : (let s := rebuilding (rebAt spareRow [17, 25] [17, 25] [25])
    decide (groupOf s 21 = some (4, [17, 21, selfId s, 25, 29, 33], 1)) && sat (.stopped 21 17 (key5 spareRow)) s (fun t =>
      decide (t.recov.spared = [(21, key5 spareRow, false)]) && decide (reg t R.DEV_REC_REBUILT_CNT = 1)
      && decide (bytesAt t (spareAddr s 4 5 false (locate 1 spareRow 4).spare) 3 = [1, 2, 3]))) = true := by decide +kernel
theorem test_stopped_lost : (let s := rebuilding (rebAt spareRow [17, 25] [17] [])
    sat (.stopped 21 25 (key5 spareRow)) s (fun t => t.recov.rebuilds.isEmpty && t.out.any (fun o => decide (o = .message 17 (.stop 21 (selfId s) (key5 spareRow)))))) = true := by
  decide +kernel
theorem test_done : sat (.done 21 25 1) sharing (fun t => decide (t.recov.dones = [(21, 25)])) = true := by decide +kernel
/-- A parity slot this device holds, with a row of device 21. -/
def scrubSlot : Nat := (locate 1 parityRow 4).parity
theorem test_scrub_begin : ((slotOwners sharing 5 false (.own scrubSlot)).any (fun o => decide (o.1 = 21)) && sat (.parityScrub 5 (.own scrubSlot) false) sharing (fun t =>
    match t.recov.scrub with
    | some c => decide (c.slot = .own scrubSlot) && c.asked.all (fun d => t.out.contains (.message d.1 (.pieceRd d.2.1 (selfId sharing) d.2.2))) && !c.asked.isEmpty
    | none => false)) = true := by decide +kernel
theorem test_scrub_fix : (match (slotOwners sharing 5 false (.own scrubSlot)).head? with
    | some o => let a : PieceAsk := (o.1, o.1, key5 o.2)
      let c : Scrub := ⟨5, false, .own scrubSlot, [a], [], [], []⟩
      sat (.piece o.1 o.1 (key5 o.2) [9]) { sharing with recov := { sharing.recov with scrub := some c } } (fun t => t.recov.scrub.isNone
        && decide (reg t R.DEV_REC_SCRUB_FIX_CNT = 1) && decide (bytesAt t (parityAddr sharing 4 5 false scrubSlot) 2 = [9, 0]))
    | none => false) = true := by decide +kernel
theorem test_scrub_stand_in : sat (.parityScrub 5 (.standIn spareHolder (spareRow / 20)) false) standing (fun t => match t.recov.scrub with
    | some c => c.asked.any (fun d => decide (d = (21, 21, key5 spareRow)))
    | none => false) = true := by decide +kernel
theorem test_mem_wr : (sat (.memWr { hdrTo 0 with src := 21 } 0x1000_3000_0000 [7, 8]) grouped (fun t => decide (reg t R.HST_VIOL_CNT = 1) && decide (bytesAt t 0x1000_3000_0000 2 = [0, 0]))
    && sat (.memWr (hdrTo 0) 0x5000_0000_0000 [7]) grouped (fun t => decide (reg t R.HST_VIOL_CNT = 1))) = true := by decide +kernel
theorem test_mem_wr_tier : (match ptePlace (pte tiered 3) with
    | some pl => decide (groupOf tiered (selfId tiered) = none) && (migOf tiered 3).isNone && tieredRange tiered 0x3_0010 2
        && sat (.memWr (hdrTo 0) 0x3_0010 [7, 8]) tiered (fun t => decide (bytesAt t (placeKey pl + 0x10) 2 = [7, 8]))
    | none => false) = true := by decide +kernel
theorem test_mem_rd : (sat (.memRd (hdrTo 0) 0 0) live (fun t => decide (reg t R.HST_VIOL_CNT = 0))
    && (imageSlotRange live (slotBase live 0) 4 && sat (.memRd (hdrTo 0) (slotBase live 0) 4) live (fun t => t.out.contains (.message 1 (.memCpl (slotBase live 0) 0 0 [0, 0, 0, 0]))))
    && sat (.memRd (hdrTo 0) 0x5000_0000_0000 4) live (fun t => t.out.contains (.message 1 (.memCpl 0x5000_0000_0000 1 0 [])) && decide (reg t R.HST_VIOL_CNT = 1))
    && (tieredRange tiered 0x3_0000 4 && !anyLost tiered 0x3_0000 4 && sat (.memRd (hdrTo 0) 0x3_0000 4) tiered (fun t =>
      t.out.contains (.message 1 (.memCpl 0x3_0000 0 0 (tierRead tiered 0x3_0000 4)))))) = true := by decide +kernel
theorem test_store_wr : (sat (.storeWr (hdrTo 0) 0x40 2 (some 9) 1 2 [1, 2, 3, 4]) live (fun t => sbBit t 2 9 && decide (bytesAt t (storeBase 2 + 0x40) 2 = [1, 2])
      && decide (bytesAt t (storeBase 2 + 0x80) 2 = [3, 4]))
    && sat (.storeWr { hdrTo 0 with src := 99 } 0x40 2 none 1 2 [1, 2]) live (fun t => decide (reg t R.HST_VIOL_CNT = 1))) = true := by decide +kernel

/-- This device owns row 0 of table 5, whose page is lost; the row is protected by the group and its rebuild has not begun. -/
def rowLostHere : State :=
  let s := opened { grouped with tier := { tiered.tier with sources := live.tier.sources }, sor := relocating.sor }
  setPte s 0x40 (setBits (setBits 0 40 1 1) 43 2 3)

/-- A device that has come up: every domain released, every frond and stack ready. -/
def booted : State :=
  let s := { live with rst := { live.rst with hold := none, powerOn := false, pwrOk := true, phase := 3, released := 2 ^ 40 - 1, failHigh := true } }
  let s := setReg s R.RST_CLK_STATUS (BitVec.ofNat 64 (2 ^ 40 - 1))
  opened (put s ((List.range 32).map (fun f => (R.FRD_STATUS f, F.FRD_STATUS_init_done, 1))))

/-- What lies in a reset, as far as a test asks. -/
def lies (src l : Nat) (t : State) : Bool :=
  decide (t.rst.hold = some l) && t.cmd.active.isEmpty && decide (t.seq = {}) && decide (t.thl = {}) && !imageActive t
    && (reg t R.RST_CAUSE).toNat.testBit src && decide (rf t R.RST_STATUS F.RST_STATUS_last_source = src)
    && decide (rf t R.RST_STATUS F.RST_STATUS_last_level = l)

/-- Busy with a RUN_STEPS. -/
def bootedRun : State := { booted with cmd := running.cmd, seq := running.seq, mem := [(0x2000_0000_0000, 5), (peatKey 4 0, 9)] }
theorem test_reset_hypotheses : decide (bootedRun.rst.powerOn = false ∧ bringUp bootedRun = false ∧ levelOf bootedRun 1 = 3
    ∧ levelOf bootedRun 8 = 3 ∧ levelOf bootedRun 9 = 2 ∧ levelOf bootedRun 2 = 1 ∧ levelOf bootedRun 10 = 0) = true := by decide +kernel
theorem test_supply_reset : sat (.supplyReset 10) bootedRun (fun t => lies 1 3 t && byteAt t 0x2000_0000_0000 = 0 && byteAt t (peatKey 4 0) = 9) = true := by
  decide +kernel
theorem test_power_falls : sat (.pwrOkFall 20) bootedRun (lies 1 3) = true := by decide +kernel
theorem test_lock_loss : (hasPll 4 && clockLocked booted 4 && sat (.pllLockLoss 4) booted (fun t => lies 1 3 t
    && rf t R.RST_CAUSE F.RST_CAUSE_lock_domain = 4)) = true := by decide +kernel
theorem test_thermal_trip : sat .thermalTrip booted (fun t => lies 8 3 t && t.rst.tripped) = true := by decide +kernel
theorem test_fabric_reset : sat (.fabricRstN 250) bootedRun (lies 9 2) = true := by decide +kernel
theorem test_perst_resets_host : sat (.perstN 25) { bootedRun with seq := bootedRun.seq } (fun t => decide (t.rst.hold = some 1) && !attached t
    && !rb t R.HST_STATUS F.HST_STATUS_link_up && decide (t.seq = bootedRun.seq) && decide (t.cmd.detachReason = 1)) = true := by decide +kernel
theorem test_hot_reset : (hostUp booted && sat .hotReset booted (fun t => decide (t.cmd.detachReason = 2) && !attached t)
    && sat .flr booted (fun t => decide (t.cmd.detachReason = 3)) && sat .surpriseLinkDown booted (fun t => decide (t.cmd.detachReason = 4))) = true := by
  decide +kernel
theorem test_filtered : sat (.perstN 24) up (fun t => reg t R.RST_FILTERED_CNT = 1 && sat (.fabricRstN 249) t (fun u =>
    reg u R.RST_FILTERED_CNT = 2 && sat (.pwrOkFall 19) u (fun x => x = u))) = true := by decide +kernel
theorem test_power_on : sat .pwrOkRise State.reset (fun t => decide (t.rst.phase = 1) && bringUp t && clockLocked t 19
    && sat (.pllLock 20 ⟨0, false⟩) t (fun u => u.rst.released.testBit 20
      && sat (.pllLock 21 ⟨0, false⟩) u (fun v => sat (.pllLock 18 ⟨0x3FFF, false⟩) v (fun w => decide (w.rst.phase = 2)
        && w.rst.released.testBit 18 && decide (rf w R.DEV_FABRIC_ID F.DEV_FABRIC_ID_device = 0x3FFF))))) = true := by decide +kernel
theorem test_hold_expires : sat (.resetHoldExpiry 5) { booted with rst := { booted.rst with hold := some 2, phase := 0, released := 0 } } (fun t =>
    decide (t.rst.hold = none) && decide (t.rst.phase = 1) && decide (t.ft = 0)) = true := by decide +kernel
theorem test_start_ok : sat .startOk (put booted [(R.RST_STATUS, F.RST_STATUS_sequencing, 1), (R.RST_STATUS, F.RST_STATUS_fail_count, 3)]) (fun t =>
    rb t R.RST_STATUS F.RST_STATUS_start_ok && !bringUp t && decide (rf t R.RST_STATUS F.RST_STATUS_fail_count = 0)) = true := by decide +kernel
theorem test_start_timeout : sat (.startTimeout 9) (put booted [(R.RST_STATUS, F.RST_STATUS_sequencing, 1), (R.RST_STATUS, F.RST_STATUS_fail_count, 3)])
    (fun t => inRecovery t && decide (rf t R.RST_STATUS F.RST_STATUS_fail_count = 4) && decide (t.rst.hold = some 4)) = true := by decide +kernel
theorem test_far_perst : sat .farPerstNRelease booted (fun t => t.hst.farPerstHigh) = true := by decide +kernel
theorem test_block_reset : sat (.rstBlock (2 ^ 31 + 0x1F) 7) bootedRun (fun t => decide (t.rst.block = some 0x1F)
    && rb t R.RST_BLOCK F.RST_BLOCK_busy && blockIdle t 0x1F
    && sat (.quiesced 8) t (fun u => u.rst.asserted && decide ((frondOf u 0x1F).eng = {})
      && sat (.resetHoldExpiry 9) u (fun w => decide (w.rst.block = none) && !rb w R.RST_BLOCK F.RST_BLOCK_busy))
    && sat (.quiesceTimeout 100007) t (fun u => u.rst.asserted && decide (reg u R.RST_QTIMEOUT_CNT = 1))
    && sat (.rstBlock (2 ^ 31) 8) t (fun u => rb u R.RST_BLOCK F.RST_BLOCK_err)) = true := by decide +kernel
theorem test_block_unlisted : (!blockListed 0x37 && sat (.rstBlock (2 ^ 31 + 0x37) 7) booted (fun t => rb t R.RST_BLOCK F.RST_BLOCK_err
    && decide (t.rst = booted.rst))) = true := by decide +kernel
theorem test_droop : sat (.droopTrip 0xC 641) booted (fun t => decide (t.rst.halved = 0xC ∧ t.rst.noc = 0xC)
    && decide (rf t R.RST_SUPPLY F.RST_SUPPLY_min_mv = 641) && rb t R.RST_STATUS F.RST_STATUS_droop
    && sat (.droopPause 60000) t (fun u => pausedNow u && decide (reg u R.RST_PAUSE_CNT = 1)
      && sat (.droopRecover 0xC 655) u (fun v => decide (v.rst.halved = 0) && !rb v R.RST_STATUS F.RST_STATUS_droop
        && sat (.pauseEnd 160000) v (fun w => !pausedNow w && decide (reg w R.RST_PAUSE_TIME = 100000))))) = true := by decide +kernel
theorem test_power : sat (.powerSample 1500 1000) booted (fun t => overCap (countThrottle (advance 20000 t))
    && decide (rf t R.RST_PWR F.RST_PWR_peak = 1500)
    && sat (.throttleStep 20000) t (fun u => decide (throttleNow u = 1) && rb u R.RST_FLAGS F.RST_FLAGS_pwr)) = true := by decide +kernel
theorem test_throttle_undone : sat (.throttleStep 200000) (put { booted with rst := { booted.rst with belowSince := some 5 } }
    [(R.RST_STATUS, F.RST_STATUS_throttle, 16)]) (fun t => decide (throttleNow t = 15)) = true := by decide +kernel
theorem test_thermal_sense : sat (.thermalSense 100 [96, 20] 5) booted (fun t => t.rst.hot && rb t R.RST_FLAGS F.RST_FLAGS_therm
    && decide (rf t R.RST_THERM F.RST_THERM_dram = 96) && sat (.thermalSense 94 [94] 6) t (fun u => !u.rst.hot)) = true := by decide +kernel
theorem test_vr_hot : sat .vrHotN booted (fun t => throttleAsked t && sat .vrHotNRelease t (fun u => !u.rst.vrHot)) = true := by decide +kernel

/-- Source 141 is pending on target 32, the management core. -/
def fired : State := evgFire up 141
theorem test_claim : (decide (evgBest fired 32 = some 141) && sat (.evgClaim 32) fired (fun t =>
    t.out.head? = some (.readData (.value 141)) && !evgPend t 141 && inService t 141 32)) = true := by decide +kernel
theorem test_claim_none : (decide (evgBest up 32 = none) && sat (.evgClaim 32) up (fun t =>
    t.out.head? = some (.readData (.value 0x1FF)))) = true := by decide +kernel
/-- Source 141 is in service on target 32. -/
def serving : State := (evgClaimOn fired 32).2
theorem test_complete : (inService serving 141 32 && sat (.evgComplete 32 141) serving (fun t => t.evg.insvc = [])) = true := by decide +kernel
theorem test_complete_error : (!inService up 511 0 && sat (.evgComplete 0 511) up (fun t =>
    rf t R.EVG_ERR F.EVG_ERR_code = 1 && rf t R.EVG_ERR F.EVG_ERR_source = 511)) = true := by decide +kernel
theorem test_pend_write : sat (.evgPend 9 0x8000_0001) up (fun t => evgPend t 319 && evgPend t 288 && !evgPend t 300) = true := by decide +kernel
theorem test_hold : sat (.hold 1) up (fun t => rb t R.EVG_CTL F.EVG_CTL_hold && (evgFire t 141).evg.latched = [141]
    && sat (.hold 0) (evgFire t 141) (fun u => evgPend u 141 && u.evg.latched = [])
    && sat (.holdExpiry 10000) (evgFire t 141) (fun u => evgPend u 141 && rb u R.EVG_CTL F.EVG_CTL_hold_exp)
    && sat (.holdExpiry 9999) t (fun u => u = advance 9999 t)) = true := by decide +kernel
/-- A message to target 32 waits for its interval of 2,000 ticks. -/
def moderated : State := evgFire (evgClaimOn (evgFire (put up [(R.EVG_TGT_MOD 32, F.EVG_TGT_MOD_interval, 20),
  (R.EVG_SRC_CFG 142, F.EVG_SRC_CFG_priority, 9)]) 141) 32).2 142
theorem test_moderation : (decide (moderated.evg.delayed = [32] ∧ evgBest (advance 2000 moderated) 32 = some 142)
    && evgIntervalOver (advance 2000 moderated) 32 && !evgIntervalOver (advance 1999 moderated) 32
    && sat (.moderationExpiry 32 2000) moderated (fun t => reg t R.EVG_MSG_CNT = 2 && t.evg.delayed = []
      && rf t (R.EVG_TGT_LEVEL 32) F.EVG_TGT_LEVEL_signalled = 9)) = true := by decide +kernel
theorem test_event_pin : (sat (.eventIn 7 25) up (fun t => evgPend t 167 && sat (.eventInRelease 7 25) t (fun u =>
      !rb u (R.EVG_PIN_CFG 7) F.EVG_PIN_CFG_state)) && sat (.eventIn 7 24) up (fun t => reg t R.EVG_FILTERED_CNT = 1)) = true := by decide +kernel
theorem test_up_canonical : Memory.wf fired.mem = true ∧ Registers.wf fired.regs = true := by decide +kernel

theorem test_thaw : sat (.thaw 0x80) { put up [(R.CNT_STATUS, F.CNT_STATUS_frozen, 1)] with cnt := { up.cnt with frozen := some [] } } (fun t =>
    t.cnt.frozen.isNone && !rb t R.CNT_STATUS F.CNT_STATUS_frozen) = true := by decide +kernel
/-- A trace in mode STOP that writes every kind. -/
def tracing : State := put { up with cnt := { up.cnt with plan := { up.cnt.plan with mode := 1, kinds := 0x3FE, pages := 1 } } }
  [(R.CNT_STATUS, F.CNT_STATUS_trace_on, 1)]
/-- It has stopped and software has written trace_en 0. -/
def traceOff : State := setReg (put tracing [(R.CNT_STATUS, F.CNT_STATUS_trace_on, 0), (R.CNT_STATUS, F.CNT_STATUS_trace_stopped, 1),
  (R.CNT_CTL, F.CNT_CTL_trace_en, 0)]) R.CNT_TRACE_HEAD 5
theorem test_trace_restarts : sat (.traceEn 0x45) traceOff (fun t => reg t R.CNT_TRACE_HEAD = 0 && rb t R.CNT_STATUS F.CNT_STATUS_trace_on
    && !rb t R.CNT_STATUS F.CNT_STATUS_trace_stopped && rb t R.CNT_CTL F.CNT_CTL_trace_stop_event_en) = true := by decide +kernel
theorem test_trace_goes_on : sat (.traceEn 0x40) (put traceOff [(R.CNT_STATUS, F.CNT_STATUS_trace_stopped, 0)]) (fun t =>
    reg t R.CNT_TRACE_HEAD = 5 && rb t R.CNT_STATUS F.CNT_STATUS_trace_on) = true := by decide +kernel
theorem test_trace_off : sat (.traceEn 0x0F) tracing (fun t => !rb t R.CNT_STATUS F.CNT_STATUS_trace_on
    && rb t R.CNT_CTL F.CNT_CTL_drop_event_en && !rb t R.CNT_CTL F.CNT_CTL_trace_en) = true := by decide +kernel
theorem test_mark : (traceWants tracing 8 && !traceWants up 8 && sat (.cntTraceMark 0xFFFF_FFFF_FFFF_FFFF) tracing (fun t =>
      t.cnt.traceQ = [⟨0, 8, 0xFF, 0xFFFF_FFFF_FFFF_FFFF, 0⟩])
    && sat (.cntTraceMark 1) up (fun t => t = up)
    && sat (.cntTraceMark 1) { tracing with cnt := { tracing.cnt with traceQ := List.replicate 64 ⟨0, 8, 0, 0, 0⟩ } } (fun t =>
      reg t R.CNT_TRACE_DROP = 1 && t.cnt.dropped)) = true := by decide +kernel
theorem test_idle_step : (match step { State.reset with ft := 2 ^ 64 - 2 } with
    | .next t => t.ft = 2 ^ 64 - 1
    | _ => false) = true := by decide +kernel

/-- The management firmware runs. -/
def managed : State := { booted with mgt := { booted.mgt with running := 1 } }
theorem test_get_digests : sat (.getDigests 0 7) (setReg managed (R.THL_STAGED_DIGEST 5) 9) (fun t => match t.out.head? with
    | some (.response 0 0 bs) => decide (bs.length = 204) && decide (fieldAt bs (8 + 88) 8 = 9) && decide (fieldAt bs 4 4 = 7)
    | _ => false) = true := by decide +kernel
theorem test_telemetry : sat (.getTelemetry 1 7) managed (fun t => match t.out.head? with
    | some (.response 1 0 bs) => decide (bs.length = 80) && decide (fieldAt bs 8 8 = (reg managed R.RST_STATUS).toNat)
    | _ => false) = true := by decide +kernel
theorem test_managed_ready : decide (2 ≤ managed.rst.phase ∧ managed.mgt.running = 1 ∧ managed.mgt.margin = none ∧ managed.mgt.waiting = []
    ∧ inRecovery managed = false ∧ attended managed = false ∧ capFused managed 8 = true ∧ capFused managed 0xA = true
    ∧ failed managed = false ∧ levelOf managed 6 = 2 ∧ levelOf managed 7 = 0) = true := by decide +kernel
theorem test_read_frozen : sat (.readCounters 0 7 [1]) (setReg managed (R.CNT_FROZEN 255) 6) (fun t => match t.out.head? with
    | some (.response 0 0 bs) => decide (fieldAt bs (8 + 2040) 8 = 6)
    | _ => false) = true := by decide +kernel
theorem test_no_presence : (sat (.writeFuses 0 7 [] ⟨none, true⟩) managed (fun t => t.out.head? = some (.response 0 3 [8, 3, 0, 0, 7, 0, 0, 0]))
    && sat (.debugUnlock 0 7) managed (fun t => !t.mgt.debugUnlocked)
    && sat (.fwLoad 0 7 [] ⟨none, true⟩) managed (fun t => t.mgt.flash = [])
    && sat (.setCounterPriv 0 7 [1]) managed (fun t => t.cnt.privNext.isNone)) = true := by decide +kernel
/-- The attended state is 1. -/
def present : State := setAttended managed true
theorem test_write_fuses : (sat (.writeFuses 0 7 [1, 0, 0, 0, 0, 3, 0, 0] ⟨none, true⟩) present (fun t => decide (fuseNow t 1 = 0x300)
      && decide (fuseWord t 1 = 0) && decide (t.out.head? = some (.response 0 0 [8, 0, 0, 0, 7, 0, 0, 0])))
    && sat (.writeFuses 0 7 [56, 0, 0, 0, 0, 3, 0, 0] ⟨none, true⟩) present (fun t => decide (t.mgt.fuseSet = []))) = true := by decide +kernel
theorem test_debug_unlock : (sat (.debugUnlock 0 7) present (fun t => t.mgt.debugUnlocked)
    && sat (.debugUnlock 0 7) { present with mgt := { present.mgt with fuseSensed := [(0, 0x20)] } } (fun t => !t.mgt.debugUnlocked
      && t.out.head? = some (.response 0 9 [9, 9, 0, 0, 7, 0, 0, 0]))) = true := by decide +kernel
theorem test_fw_load : sat (.fwLoad 0 7 [2, 0, 0, 0, 0, 0, 0, 0, 0x57, 0x46] ⟨none, true⟩) present (fun t =>
    flashBytes t 2 2 = [0x57, 0x46]) = true := by decide +kernel
theorem test_counter_priv : sat (.setCounterPriv 0 7 [1]) present (fun t => t.cnt.privNext = some true) = true := by decide +kernel
theorem test_raw_window : sat (.rawWindow 0 7 [1]) managed (fun t => rb t R.WIN_CTL F.WIN_CTL_raw_ok) = true := by decide +kernel
theorem test_fail_device : sat (.failDevice 0 7) managed failed = true := by decide +kernel
theorem test_mgt_reset : sat (.reset 0 7) managed (lies 6 2) = true := by decide +kernel
/-- No image is active. -/
def idleStacks : State := put managed [(R.THL_STATUS, F.THL_STATUS_active_valid, 0)]
theorem test_margin : (sat (.margin 0 7 [3, 31, 1]) idleStacks (fun t => rb t (R.STK_MRG_STATUS 3) F.STK_MRG_STATUS_running
      && decide (rf t (R.STK_MRG_STATUS 3) F.STK_MRG_STATUS_channel = 31)
      && sat (.marginRunDone 3 (List.replicate 72 ⟨List.replicate 64 0, List.replicate 32 0 ++ List.replicate 32 1⟩)) t (fun u => u.mgt.margin.isNone
        && rb u (R.STK_MRG_STATUS 3) F.STK_MRG_STATUS_done && decide (reg u (R.STK_MRG_RESULT 3 71) = 3)))
    && sat (.margin 0 7 [3, 31, 1]) managed (fun t => rf t (R.STK_MRG_STATUS 3) F.STK_MRG_STATUS_error = 1)) = true := by decide +kernel
theorem test_endpoint : (sat (.setEndpointId 1 254) managed (fun t => t.mgt.eids = [0, 254] && t.out.length = 1)
    && sat (.getEndpointId 0) managed (fun t => t.out.length = 1)) = true := by decide +kernel
theorem test_mailbox : sat (.mailboxGo (2 ^ 31) ⟨none, true⟩) (setReg managed (R.MGT_REQ 0) 0x500000011) (fun t =>
    rb t R.MGT_STATUS F.MGT_STATUS_done && !rb t R.MGT_STATUS F.MGT_STATUS_busy && decide (reg t (R.MGT_RSP 0) = 0x500000111)) = true := by
  decide +kernel
theorem test_mailbox_busy : sat (.mailboxGo (2 ^ 31) ⟨none, true⟩) (put managed [(R.MGT_STATUS, F.MGT_STATUS_busy, 1)]) (fun t =>
    !rb t R.MGT_STATUS F.MGT_STATUS_done) = true := by decide +kernel
theorem test_watchdog : sat .watchdogExpiry { managed with mgt := { managed.mgt with waiting := [⟨0, 1, 7, [], ⟨none, true⟩⟩] } } (fun t =>
    t.mgt.waiting = [] && rb t R.MGT_STATUS F.MGT_STATUS_reset_seen && (reg t R.RST_CAUSE).toNat.testBit 7) = true := by decide +kernel
theorem test_attend : sat (.attendN true) managed attended = true := by decide +kernel

/-- Nothing waits, no command runs, no PIECE_RD waits, no check runs: nothing resumes. -/
def quiet (s : State) : Bool := decide (NothingWaits s ∧ s.cmd.active = [] ∧ s.recov.waitRd = [] ∧ s.recov.scrub = none)
theorem quiet_nothingResumes {s : State} (h : quiet s = true) : NothingResumes s := by
  obtain ⟨a, b, c, d⟩ := of_decide_eq_true h
  exact ⟨a, (fun x hx => absurd hx (by rw [b]; exact List.not_mem_nil)), c, d⟩

/-! ## Witnesses: states that meet the hypotheses of a statement's clauses -/

theorem wit_save : (let s0 := Machine.started rowLostHere hd (.ckSave 0x5000 0 64) none
    decide (CommandSlot rowLostHere hd) && !(saveMissing (askRows s0 (saveMissing s0))).isEmpty
    && (saveMissing (Machine.started live hd (.ckSave 0x5000 0 64) none)).isEmpty && decide (NothingWaits live)) = true := by decide +kernel
/-- The body of a segment of row 0 of table 5, and the segment as a stream's check gives it. -/
def rowBody : List Byte := List.replicate 8 0 ++ 7 :: List.replicate 127 0
def rowSegment : CkSeg := ⟨3, 0, 5, 1, 0, 0, true, rowBody⟩
theorem wit_row_body : crc64 rowBody = 0x4C01219F60AD8C3D := by
  have h : rowBody = (List.replicate 8 0 ++ 7 :: List.replicate 59 0) ++ List.replicate 68 0 := by decide +kernel
  have a : crc64 (List.replicate 8 0 ++ 7 :: List.replicate 59 0) = 7639896067005242266 := by decide +kernel
  unfold crc64 at a ⊢
  rw [h, List.foldl_append, a]
  decide +kernel
theorem wit_load : ((loadMissing (Machine.started live hd (.ckLoad 0x5000 136 0) (some rowBody)) [rowSegment]).isEmpty
    && (let s1 := Machine.started rowLostHere hd (.ckLoad 0x5000 136 0) (some rowBody)
      !(loadMissing (askRows s1 (loadMissing s1 [rowSegment])) [rowSegment]).isEmpty)) = true := by decide +kernel
theorem wit_restore : (decide (CommandSlot stepping hd ∧ stepping.seq.step.isSome = true ∧ live.seq.step = none)
    && (match ckSegments (ckStream live) with
      | some [g] => decide (g.kind = 1)
      | _ => false)) = true := by decide +kernel
/-- The window over page 3, which lies in stack 1. -/
def overTiers : State := put tiered [(R.WIN_CTL, F.WIN_CTL_en, 1), (R.WIN_BASE, F.WIN_BASE_base, 3)]
theorem wit_window_tiered : (let q := put overTiers [(R.STK_STATUS 1, F.STK_STATUS_init_done, 0)]
    decide (winRegion overTiers 0x3_0010 2 true = .tiered ∧ winRegion overTiers 0x3_0010 2 false = .tiered ∧ hostLink overTiers = true
      ∧ barServed overTiers R.WIN_BASE = true ∧ groupOf overTiers (selfId overTiers) = none
      ∧ partSegs [(0x3_0010, [7, 8])] = [(3, 0x10, [7, 8])] ∧ ptePlace (pte overTiers 3) = some (.t1 1 4096))
    && !readWaits overTiers 0x3_0010 2 && !anyLost overTiers 0x3_0010 2 && !placeWaits overTiers 0x10 2 (.t1 1 4096) && readWaits q 0x3_0010 2
    && sat (.windowRead 0 0x10 ⟨2, .none⟩) q (fun t => decide (t.tier.waitReads = [⟨none, 0x3_0010, 2, 0⟩]))
    && sat (.windowWrite 0 0x10 [7, 8]) overTiers (fun t => decide (bytesAt t (placeKey (.t1 1 4096) + 0x10) 2 = [7, 8]))) = true := by
  decide +kernel
theorem wit_window_hbm : (let s := windowAt 0x1013_FFFF
    let a := 0x1013_FFFF_FFFE - hbmBase 0
    let q := put s [(R.STK_STATUS 0, F.STK_STATUS_init_done, 0)]
    decide (winRegion s 0x1013_FFFF_FFFE 2 false = .hbm 0) && !hbmWaits s 0 a 2 && hbmWaits q 0 a 2
    && sat (.windowRead 0 0xFFFE ⟨2, .none⟩) (modStack s 0 (fun x => { x with poison := [a / 64] })) (fun t => decide (t.out.head? = some (.readData .ca)))
    && sat (.windowWrite 0 0xFFFE [7, 9]) q (fun t => decide (t.tier.waitWrites = [⟨[(0x1013_FFFF_FFFE, [7, 9])], 0⟩]))
    && sat (.windowRead 0 8 ⟨2, .none⟩) (put (windowAt 0x2000_0001) [(R.FRD_STATUS 0, F.FRD_STATUS_init_done, 0)]) (fun t =>
      decide ((frondOf t 0).heldReads = [0]))) = true := by decide +kernel
theorem wit_lookup : (match liveVersion lookupRuns 5 2 with
    | some v => !(aReq 2).rows.any (entryWaits lookupRuns v) && !idleAsked lookupRuns (0x20 + homeOf lookupRuns 5)
        && !mayAnswer { lookupRuns with stepCtr := 9 } v 9
    | none => false) = true := by decide +kernel
/-- A remainder row of the compositional table lies on a lost page of the group's table. -/
def remLost : State :=
  let s := opened { grouped with tier := { tiered.tier with sources := live.tier.sources }, sor := composed.sor }
  setPte s 0 (setBits (setBits 0 40 1 1) 43 2 3)
theorem wit_rem_row : (match rowVersion composed 5 2, rowVersion remLost 5 2 with
    | some v, some w => (readRow composed (readOwner composed v.owners (selfId composed) true) v.desc true 6).isSome
        && (let o := readOwner remLost w.owners (selfId remLost) true
          (readRow (degradedRead remLost o w.desc true 6) o w.desc true 6).isNone)
        && sat (.remRow ⟨2, 5, 9, 0, [(6, List.replicate 32 1, List.replicate 16 1)], 0, true⟩) remLost (fun t => decide (t.sor.inq.length = 1))
    | _, _ => false) = true := by decide +kernel
theorem wit_row_apply : (let s := applying 0x3F800000#32
    s.sor.stage.all (fun x => !rowLost s x.own ⟨x.table, x.rem, x.row⟩ && !rowBlocked s (rowParts s (tableDesc 2) x.rem x.row)
      && commitRoom s x.stack 64 && (rowT2 s (tableDesc 2) x.rem x.row).isEmpty)) = true := by decide +kernel
/-- As applying, the row's page in T2. -/
def applyingT2 (full : Bool) : State :=
  let s := { applying 0x3F800000#32 with tier := tiered.tier }
  let s := setPte s 0x40 (pteAt (setBits 0 40 1 1) 0x40 (.t2 0 3))
  if full then { s with sor := { s.sor with spillSize := 0, pend := [⟨selfId State.reset, 5, 2, 4, false, 0, 0, [], sparseParams updating ((sparseRec updating 5).getD 0), true⟩] } } else s
theorem wit_row_pending : (let x : PendEntry := ⟨selfId State.reset, 5, 2, 3, false, 0, 0, List.replicate 16 0x3F800000#32, sparseParams updating ((sparseRec updating 5).getD 0), false⟩
    decide (rowT2 (applyingT2 false) (tableDesc 2) false 3 ≠ []) && (placePending (applyingT2 false) x).isSome && (placePending (applyingT2 true) x).isNone
    && decide ((applied (applyingT2 false)).sor.pend.length = 1) && rb (applied (applyingT2 true)) (R.SOR_UPD_STATUS 0) F.SOR_UPD_STATUS_bp
    && decide ((applied (applyingT2 true)).sor.stage.length = 1)) = true := by decide +kernel
theorem wit_row_moves : (let s := { applying 0x3F800000#32 with sor := { (applying 0x3F800000#32).sor with commit := [⟨0, 5, 2, 3, false, 0, 4, [(0x40_0000, [1])], none, true, [], none⟩] } }
    s.sor.commit.all (fun c => c.parts.all (fun p => !writeWaits s p.1 p.2.length))
    && !idleAsked grouped (0x20 + sorEngine grouped ⟨21, 4, [⟨0, 5, false, [1, 2, 3]⟩], 7, false⟩)
    && decide (serverOf grouped 21 = some 21) && !isLost grouped 21) = true := by decide +kernel
theorem wit_log : (let s := { merging with sor := { merging.sor with detSteps := [(0, true)], closed := 1, log := [(5, anUpdate)] }, seq := { merging.seq with barrier := 1 } }
    detOf s 0 && !detOf s 1 && (match liveVersion s 5 2 with
      | some v => (mergeVals s anUpdate v).isSome
      | none => false)) = true := by decide +kernel

/-- Page 3 is demoted to make room for the page a DEMAND waits for. -/
def demoting : State := { crowded with tier := { crowded.tier with migs := [⟨3, .demote, some (.t1 1 4096), .t2 0 5, 0, [], [], 0, [], []⟩] } }
theorem wit_demand : (((demoting.tier.demand.filter (fun d => pteTier (pte demoting d.1) = 2)).find? (fun d => mayStart demoting .demand d.1)).isSome
    && (chooseT1 demoting (fun _ => true)).isNone && (demandVictim demoting).isNone && (demandVictim crowded).isSome) = true := by decide +kernel
theorem wit_rebuild : (let full := { relocating with tier := { relocating.tier with policy := some { tierPol with pools := List.replicate 8 (0, 0) }, sources := live.tier.sources } }
    let p := ((lostPages full).filter (mayStart full .rebuild)).find? (pageReady full)
    decide (p = some 0x40) && (choosePlace full 0x40 (pteCovered (pte full 0x40))).isNone
    && decide (((lostPages relocating).filter (mayStart relocating .rebuild)).find? (pageReady relocating) = some 0x40)
    && (choosePlace relocating 0x40 (pteCovered (pte relocating 0x40))).isSome
    && sat .rebuild full (fun t => rb t R.TIER_STATUS F.TIER_STATUS_full && t.tier.migs.isEmpty)) = true := by decide +kernel
theorem wit_fetch_stops : (let q := put tiered [(R.STK_STATUS 1, F.STK_STATUS_init_done, 0)]
    failed (enterFailed tiered 3) && !readWaits tiered 0x50080 64 && decide (tiered.sor.heldReqs = []) && sat (.criticalRowFetch 0x50080 64) (enterFailed tiered 3) (fun t => t = enterFailed tiered 3)
    && readWaits q 0x3_0000 64 && sat (.criticalRowFetch 0x3_0000 64) q (fun t => t = q)) = true := by decide +kernel
theorem wit_frames_apart : FramesApart (.t2 0 2) (.t1 1 4098) := by
  refine ⟨by decide +kernel, ?_⟩
  rintro p (rfl | rfl) <;> decide
theorem wit_migrations : (let m := moving 3 [] [0] []
    let shut := put (moving 0 [0] [] []) [(R.STK_STATUS 1, F.STK_STATUS_init_done, 0)]
    decide (NothingWaits m ∧ failed m = false ∧ ptePlace (pte m 5) = some (.t2 0 2)) && m.tier.sources.all (fun x => decide (x.state ≠ 2))
    && (migOf m 5).any (fun y => !flipWaits m y) && !copyWaits m (.t2 0 2) (.t1 1 4098) && !placeWaits m 0x10 2 (.t1 1 4098) && !placeWaits m 0x10 2 (.t2 0 2)
    && copyWaits shut (.t2 0 2) (.t1 1 4098) && sat (.migrationPassDone 5 0) shut (fun t => decide (t = shut))
    && decide (rangePages m = 64)) = true := by decide +kernel
theorem wit_revoke_done : (let s := { tiered with tier := { tiered.tier with sources := modAt (fun _ => ⟨1, 0x20000, 8, none⟩) tiered.tier.sources 6 } }
    decide (pagesIn s 6 = [] ∧ s.tier.migs = [] ∧ s.tier.waitWrites = [] ∧ attached s = true) && s.tier.sources.all (fun x => decide (x.state ≠ 2))) = true := by
  decide +kernel

theorem wit_stack_reads : (let s := openStack
    let poisoned := modStack s 1 (fun x => { x with poison := [0x2000_0000 / 64] })
    decide (txWaits s 1 (.rd64 9 0x2000_0000 .good) = false ∧ decodeBurst (markedPin s 1 (channelOf 0x2000_0000)) [(4, 1)] = .corrected [4]
      ∧ decodeBurst none fiveBad.read = .uncorrectable ∧ decodeBurst (some 9) ((List.range 4).map (fun j => (j, 1))) = .uncorrectable
      ∧ decodeBurst (some 9) ((9, 5) :: (List.range 3).map (fun j => (j, 1))) = .corrected [0, 1, 2, 9]
      ∧ s.tier.migs = [] ∧ s.tier.waitWrites = [] ∧ offsetOk 0x2000_0000 256 = true ∧ offsetOk 0x2000_0020 64 = false)
    && sat (.rd64 1 9 0x2000_0000 .good) poisoned (fun t => answered t (.data 9 1 []))
    && sat (.wr64 1 9 0x2000_0000 (2 ^ 64 - 1) (List.replicate 64 7) .good) poisoned (fun t => (stackOf t 1).poison.isEmpty)
    && (txWaits (put s [(R.STK_STATUS 1, F.STK_STATUS_init_done, 0)]) 1 (.rd64 9 0x2000_0000 .good))) = true := by decide +kernel
theorem wit_stack_link : (let s := put openStack [(R.STK_STATUS 1, F.STK_STATUS_retraining, 1)]
    training s 1 && sparesFit s 1 false [1, 2] && !sparesFit s 1 false (List.range 17) && decide (NothingWaits s ∧ (stackOf s 1).waiting = [])
    && sat (flitCmd 1 true (List.replicate 72 1)) s (fun t => decide (t = s))
    && decide (readFlit (flitBytes (aFlit 5)) = some (aFlit 5) ∧ readFlit (List.replicate 72 1) = none
      ∧ readFlit (flitBytes ⟨0, 0, 0, 0, []⟩) = some ⟨0, 0, 0, 0, List.replicate 64 0⟩)
    && sat (flitCmd 1 true (flitBytes (controlFlit false 4))) (modLink openStack 1 false (fun l => { l with retry := [aFlit 3, aFlit 4, aFlit 5] })) (fun t =>
      decide ((linkOf (stackOf t 1) false).retry = [aFlit 5]))) = true := by decide +kernel
theorem wit_stack_scrub : (let s := openStack
    let busy := modStack s 1 (fun x => { x with waiting := [⟨.rd64 1 0 .good, 0, true, [], 0⟩] })
    decide (0 < rf s (R.STK_CTL 1) F.STK_CTL_scrub_hours) && !channelBusy s 1 0 && scrubTurn s 1 0 && !scrubTurn busy 1 0
    && sat (.patrolScrub 1 .good) busy (fun t => decide ((stackOf t 1).scrubPos = 0 ∧ (stackOf t 1).scrubSince = some 0))) = true := by decide +kernel
theorem wit_stack_retires : (let s := modStack tiered 1 (fun x => { x with failing := [(3, 4097)], bankSpares := [(3, 4097 % 64, 16)] })
    inPool s 1 4097 && decide ((stackOf s 1).waiting = [] ∧ NothingWaits s ∧ (1, 4097) ∉ s.tier.retired)
    && sat (.rowRepairDone 1 3 4097) s (fun t => decide (t.tier.retired = [(1, 4097)] ∧ (stackOf t 1).failing = []))) = true := by decide +kernel
theorem wit_scheduler : (let tx (k off : Nat) : QueuedTx := ⟨.rd64 k off .good, k, true, [], k⟩
    let s := modStack openStack 1 (fun x => { x with waiting := [tx 0 0, tx 1 0x10_0000], openRows := [(0, bankOf 0x10_0000, rowOf 0x10_0000)] })
    decide (channelOf 0 = 0 ∧ channelOf 0x10_0000 = 0) && decide ((pickBurst s 1 0).map (fun y => y.1.place) = some 1)
    && decide ((pickBurst { s with ft := 300000 } 1 0).map (fun y => y.1.place) = some 0)) = true := by decide +kernel

theorem wit_reduce : (let s := reducing [me0] 0 0
    let e := theBlock s
    let r := redOf s e none
    decide (rauIdle s 0 = false ∧ e.die < 2 ∧ contributors s e = [me0] ∧ e.parts = 1 ∧ otherHolders s e = [] ∧ carryOf s 3 = false ∧ carryOf s 2 = false ∧ s.stepCtr = 4
      ∧ windowPassed s 3 100 = false ∧ windowPassed s 3 500 = true ∧ splitInv s = false ∧ s.recov.lostBlocks = [] ∧ isLost s me0 = false
      ∧ seenState s 0 3 me0 = none ∧ findContribution s 0 3 me0 = none)
    && decide (r.step = 3 ∧ r.next + 1 = 1 ∧ r.cleared = false ∧ r.leaves.map (·.length) = [e.nElem])) = true := by decide +kernel
theorem wit_part : (decide (rauIdle splitting 0 = false ∧ 1 < (theBlock splitting).parts ∧ (blk splitting 0).ready = 3 ∧ findPart splitting 0 3 0 = none)
    && (List.range (theBlock splitting).parts).all (fun j => decide (partLeader splitting (theBlock splitting) j ≠ some (selfId splitting)))) = true := by
  decide +kernel
theorem wit_barrier : (decide (idleAsked (recordDue [me0]) 0x33 = false ∧ (recordDue [me0]).rau.own = none ∧ (recordDue [me0]).seq.barrier ≤ 3)
    && sat (.barrier ⟨9, 3, 2, ⟨true, 0, 0, 700, 5⟩⟩) (recordDue [me0]) (fun t => decide (t.seq = (recordDue [me0]).seq))) = true := by decide +kernel
theorem wit_apply : (let s := applyDue 0 false 4
    let e := theBlock s
    let x := blk s 0
    match resultOf s 3 with
    | some r => isHolder s e && decide (x.applied = 3 ∧ x.applied ≤ x.agreed ∧ s.recov.lostBlocks = [] ∧ 3 ∉ x.skips ∧ r.record.vote = false)
        && (let y := applyBlock s e (denseOpt s e.opt) r.eta (clipFactor s (toF32 (pairVal r.record.s r.record.c))) (logGrad s e 3)
          y.2 && decide (logRecord y.1 e 3 = logRecord s e 3))
    | none => false) = true := by decide +kernel
theorem wit_digest : (let s := digested4
    let e := theBlock s
    decide (liveHolders s e = [selfId s, 200] ∨ liveHolders s e = [200, selfId s]) && isHolder s e
    && decide ((blk s 0).agreed = 3 ∧ (blk s 0).digested = 4 ∧ digestCount s e = 1 ∧ (blk s 0).replayed = false ∧ (blk s 0).replaying = false)) = true := by
  decide +kernel
theorem wit_gather : (gathering.rau.regather.isEmpty && (match resultOf gathering 3 with
      | some r => decide (r.record.vote = false)
      | none => false)
    && gathering.scl.pubs.any (fun p => p.1 = 4) && decide (0 < (theBlock gathering).nElem)
    && sat (.allGather 0) gathering (fun t => decide ((blk t 0).gathered = 4))) = true := by decide +kernel
theorem wit_param : (let m : ParamMsg := ⟨200, 0, 3, 0, [0x38], [], 6, 0, true⟩
    mayPlace mapped m && !mayPlace { mapped with seq := {} } m && mapped.rau.paramGot.isEmpty) = true := by decide +kernel
/-- The flow from device 1 on virtual channel 0 holds a whole message that its unit does not take. -/
def fullLanding : State := setFlowIn linkUp { src := 1, vc := 0, landing := some ⟨0, 2, unitBytes 300 ++ List.replicate 240 5, 50, 0⟩ }
theorem wit_full_landing : ((flowIn fullLanding 1 0).landing.any Landing.whole
    && sat (dataCmd { hdrTo (selfId linkUp) with msgSeq := 1 } (unitBytes 100)) fullLanding (fun t => decide (t.shk.blocked.length = 1))
    && sat (dataCmd (hdrTo (selfId linkUp)) (unitBytes 100)) fullLanding (fun t => decide (reg t (R.SHK_OUTSEQ_CNT 0) = 1))
    && sat (.landingTimeout 1 0 9999999) fullLanding (fun t => decide ((flowIn t 1 0).landing = (flowIn fullLanding 1 0).landing))) = true := by
  decide +kernel
theorem wit_data : (let a := rxFrame linkUp rx3 (.data (hdrTo 0) (unitBytes 100))
    unitTakes a 0 (unitBytes 100) && unitOk 0 ((unitBytes 100).take (prefixLen (unitBytes 100))) && decide (prefixLen (unitBytes 100) ≤ 240)
    && decide (240 < prefixLen (unitBytes 1000)) && decide (a.shk.blocked = []) && decide (flowing.shk.blocked = [])
    && decide (NoMoveSent flowing ∧ (flowOut flowing 2 0).waiting = [])) = true := by decide +kernel
/-- The RAU complex of die 0 has been asked to go idle. -/
def rauAsked : State := { linkUp with rst := { linkUp.rst with block := some 0x33 } }
def reduceBytes : List Byte := leBytes 8 100 ++ leBytes 8 0 ++ [0x31] ++ List.replicate 223 0
theorem wit_unit_idle : (idleAsked rauAsked 0x33 && !unitTakes rauAsked 2 reduceBytes && prefixOk 2 reduceBytes
    && sat (dataCmd { hdrTo (selfId linkUp) with vc := 2 } reduceBytes) rauAsked (fun t => (flowIn t 1 2).landing.any Landing.whole)) = true := by decide +kernel
theorem wit_spare : (let s := rebuilding (rebAt spareRow [17, 25] [17, 25] [25])
    let w := spareAddr s 4 5 false (locate 1 spareRow 4).spare
    quiet s && decide (s.recov.shares = [] ∧ (locate 1 spareRow 4).s = 2 ∧ rawWaits s w (recordSize s (key5 spareRow)) = false
      ∧ hbmStack w = some 0 ∧ w + recordSize s (key5 spareRow) ≤ hbmBase 1 ∧ 0 < recordSize s (key5 spareRow) ∧ rangePages s = 0)
    && !spareTaken s 5 false (spareRow / 20, (locate 1 spareRow 4).h, (locate 1 spareRow 4).s)
    && (s.recov.rebuilds.find? (fun r => r.asked.contains (17, 21, key5 spareRow) && !r.done && !r.stopped.contains (17, 21, key5 spareRow))).isSome) = true := by
  decide +kernel
theorem wit_mem : ((holdingMig tiered ⟨[(0x3_0010, [7, 8])], 0⟩ [3]).isNone && !readWaits tiered 0x3_0010 2
    && (let q := put tiered [(R.STK_STATUS 1, F.STK_STATUS_init_done, 0)]
      readWaits q 0x3_0000 4 && sat (.memRd (hdrTo 0) 0x3_0000 4) q (fun t => decide (t.tier.waitReads = [⟨some (hdrTo 0), 0x3_0000, 4, 0⟩])))) = true := by
  decide +kernel
theorem wit_resets : (let s := { bootedRun with mgt := { bootedRun.mgt with debugUnlocked := true, fuseSensed := [(2, 0x1000)] } }
    decide (NothingWaits s ∧ s.tier.migs = [] ∧ s.rst.block = none ∧ levelOf s 11 = 0 ∧ blockListed 0x30 = true ∧ levelOf s 3 = 1)
    && sat (.debugReset 0x30 7) s (fun t => decide (t.rst.block = some 0x30))) = true := by decide +kernel
theorem wit_invocations : (let s := listed [opHead 2 0 0 0 0 128 ++ List.replicate 128 0] []
    sat (.invoke 0) s (fun t => (nextInvocation t 0).isSome && rb t (R.FRD_STATUS 0) F.FRD_STATUS_init_done && !failed t)) = true := by decide +kernel
theorem wit_host_store : (let s := listed [aMove] []
    decide (s.rau.paramHeld = [] ∧ (frondOf s 0).next = none) && (match chooseOp s 0 with
      | some (o, _) => (List.range (bodyNum s o 6 2)).all (fun r => (moveBad s 0 o r).isNone)
      | none => false)) = true := by decide +kernel
/-- A command that is not a RUN_STEPS runs with nothing out. -/
theorem wit_abort : (let c := cmd 0 (.snapshot 0x5000)
    let s := busy live c
    let r : CommitEntry := ⟨0, 5, 2, 3, false, 0, 4, [], none, false, [], some 0⟩
    decide (NothingOut s c ∧ stands c = false ∧ c.torn = false ∧ s.cmd.atPoint = [] ∧ findCmd s 0 = some c)
    && sat (.abort hd 0) s (fun t => record t 0 1 0 0 && record t 1 0 0 1 && (findCmd t 0).isNone)
    && sat (.abort hd 0) { s with sor := { s.sor with commit := [r] } } (fun t =>
      record t 1 0 0 1 && (findCmd t 0).any (fun d => d.stopped && decide (d.fin = some { status := 1 })))
    && sat (.abort hd 0) (busy live { c with stopped := true, fin := some { status := 1 } }) (fun t => record t 1 0 0 1 && (findCmd t 0).isSome)) = true := by
  decide +kernel
/-- The run of running with the input of step 0 copied. -/
def inputReady : State := { running with seq := { running.seq with supplied := 1, copied := [0] } }
theorem test_step_starts : (mayStartStep inputReady && mayStartStep running && !mayStartStep { running with seq := { running.seq with supplied := 1 } }
    && !rb running (R.FRD_PLAN_STATUS 3) F.FRD_PLAN_STATUS_running && !issuedWork running 3 && decide (inputReady.seq.densePaused = false)
    && sat (.stepStart 5) inputReady (fun t => decide (t.stepCtr = 1 ∧ t.seq.step = some 0 ∧ t.seq.dry = false ∧ (frondOf t 3).step = 0)
      && reg t R.HST_DRY_STEPS = 0)
    && sat (.stepStart 5) running (fun t => t.seq.dry && reg t R.HST_DRY_STEPS = 1 && rb t R.HST_STATUS F.HST_STATUS_input_dry)) = true := by decide +kernel
/-- An image with table 5 at version 1, of which version 2 lies in HBM. -/
def swapping : State :=
  let i := imaged (opened live) [(4, 0, leBytes 2 1 ++ leBytes 14 0 ++ tableDesc 1)]
  let s := setBytes { i with tier := { i.tier with policy := some { tierPol with rangePages := 128 } } } 0x1000_1000_0000 (tableDesc 2)
  { s with sor := { s.sor with tables := [{ id := 5, versions := [⟨tableDesc 1, [1], 0, false, false⟩] }] } }
theorem test_table_swap : (decide (devRead swapping 0x1000_1000_0000 128 = some (tableDesc 2)) && (swapErr swapping 5 (some (tableDesc 2)) 4).isNone
    && sat (.tableSwap hd 5 (2 ^ 62 + 0x1000_1000_0000) 4) swapping (fun t => worked t 0 (.tableSwap 5 (2 ^ 62 + 0x1000_1000_0000) 4) none
      && (tableState t 5).pending.any (fun p => decide (p.cmd = 0 ∧ p.desc = tableDesc 2 ∧ p.step = 4)))) = true := by decide +kernel
theorem wit_retire : (decide (mayRetireCmd (busy up (cmd 0 (.snapshot 0))) (cmd 0 (.snapshot 0)) = false)
    && sat (.retire 0) (busy up (cmd 0 (.snapshot 0))) (fun t => t = busy up (cmd 0 (.snapshot 0)))
    && (let c := { cmd 0 (.snapshot 0) with head := { hd with timeout := 2 } }
      let s := busy up c
      decide (NothingOut s c) && timedOut (advance 2000000 s) c && !timedOut (advance 1999999 s) c
        && sat (.commandTimeout 0 1999999) s (fun t => t = advance 1999999 s))) = true := by decide +kernel
theorem wit_host_link : (linkForm 16 6 && linkForm 1 1 && !linkForm 3 1 && !linkForm 16 7 && decide (NothingWaits up)
    && sat .hostRetrain (put up [(R.HST_STATUS, F.HST_STATUS_attached, 0)]) (fun t => decide (t.cmd.detachReason = up.cmd.detachReason))) = true := by
  decide +kernel
theorem wit_scales : (decide (scalesErr live 0 24 0 0 0 1 = none ∧ live.stepCtr = 0 ∧ live.seq.step = none)
    && sat (.setLoss hd 24 1) live (fun t => worked t 0 (.setScales 0 24 0 0 0 1) (some ⟨0, 0, 0, []⟩) && decide (rf t R.SCL_LOSS F.SCL_LOSS_L = 24))
    && sat (.setInterval hd 100 7) { live with stepCtr := 7 } (fun t => worked t 0 (.setScales 1 0 0 0 100 7) (some ⟨0, 0, 0, []⟩)
      && decide (rf t R.SCL_LOSS F.SCL_LOSS_interval = 100))) = true := by decide +kernel
/-- Frond 0's product has no slot: both slots stand held. -/
def slotsTaken : State := modSlot (modSlot (put (waitSet 4) [(R.FRD_STATUS 0, F.FRD_STATUS_slot0_state, 4), (R.FRD_STATUS 0, F.FRD_STATUS_slot1_state, 4)]) 0 0
  (fun x => { x with op := none })) 0 1 (fun x => { x with op := none })
theorem wit_product_waits : (decide (chooseOp (listed [aProduct 4] []) 0 = none ∧ arrayWaits (listed [aProduct 4] []) 0 = 2
      ∧ chooseOp slotsTaken 0 = none ∧ arrayWaits slotsTaken 0 = 1 ∧ chooseOp live 0 = none ∧ arrayWaits live 0 = 0)
    && sat (.product 0) slotsTaken (fun t => decide (rf t (R.FRD_STATUS 0) F.FRD_STATUS_stall = 1))) = true := by decide +kernel
theorem wit_move : (let s := listed [aMove] []
    match chooseOp s 0 with
    | some (o, _) => decide (NoMemoryErrors s ∧ (localReads s (moveRanges s o)).2 = false ∧ bodyNum s o 0 1 < 2 ∧ o.done % 1024 = 9
        ∧ (List.range 2).all (fun r => decide ((moveRow s 0 o r).length = 64)) = true)
    | none => false) = true := by decide +kernel
/-- As arrayRuns, the product has more columns of A than one pass takes. -/
def longRuns : State :=
  let s := imaged live [(1, 0, planOf [opHead 1 0 1 0x8007 0x8009 64 ++ prodBody 300 128])]
  modSlot (modFrond s 0 (fun x => { x with array := some 0 })) 0 0 (fun x => { x with op := some 0 })
theorem wit_pass : (match productAt (arrayRuns 4 0) 0 0, productAt longRuns 0 0 with
    | some (_, d), some (_, e) => decide ((frondOf longRuns 0).halted = false ∧ pausedNow longRuns = false ∧ dRowsM d ≤ 512 ∧ dColsN d ≤ 128
        ∧ seedReady longRuns 0 0 e = true ∧ fieldAt d 4 4 = 2 ∧ passDepth 3 3 < fieldAt e 4 4)
    | _, _ => false) = true := by decide +kernel
theorem test_pass_more : sat (.pass 0 .none) longRuns (fun t => decide (slotState t 0 0 = 1 ∧ (slotOf t 0 0).passes = 1 ∧ (frondOf t 0).array = some 0)) = true := by
  decide +kernel
theorem wit_drain : (let s := fullSlot 5 0
    let u := put s [(R.FRD_STATUS 0, F.FRD_STATUS_slot1_state, 4)]
    match productAt s 0 0 with
    | some (_, d) => chainTurn s 0 0 d && decide (chainSlot s 0 0 = some 1 ∧ slotState s 0 0 = 2 ∧ chainSlot u 0 0 = none)
        && sat (.drainRow 0 0 .none) u (fun t => decide (rf t (R.FRD_STATUS 0) F.FRD_STATUS_stall = 5 ∧ slotState t 0 0 = 2))
    | none => false) = true := by decide +kernel
/-- Frond 0's engine is at a row instruction on a row of 4 positions of region 0; operand b is 0 or `b`. -/
def rowReads (w : Nat) (b : W32) (vs : List Nat) : State := setBytes (engaged true 1 w b 0) (storeBase 0 + 0x1000) (leAll 4 vs)
def rowWord : EInstr := { d := 0, a := 0, b := 1, aux := 4 }
theorem test_softmax : (let s := rowReads (eWord 0x62 rowWord) 0x3F800000#32 [0, 0xFF800000, 0xFF800000, 0]
    let u := rowReads (eWord 0x62 rowWord) 0x3F800000#32 [0x7F800000, 0, 0x7F800000, 0]
    !eInvalid 0x62 rowWord && (issuing s 0 (eWord 0x62 rowWord)).any (fun x => x.row && decide (x.pc + 1 < x.prog.length ∧ x.fmt 1 = 1)
        && (regionTensor s 0 x 0 1).isNone)
    && sat (.softmax 0 rowWord) u (fun t => decide (numAt t (storeBase 0 + 0x5000) 16 = 0x3F000000 + 2 ^ 64 * 0x3F000000)
      && decide ((engOf t 0).run.map (fun y => (y.pc, y.sweep, y.chunk, y.group)) = some (1, 1, 0, 0)))
    && sat (.softmax 0 rowWord) s (fun t => numAt t (storeBase 0 + 0x5000) 16 == 0x3F000000 + 2 ^ 96 * 0x3F000000 && numAt t (storeBase 0 + 0x5010) 4 == 0)) = true := by decide +kernel
theorem test_softmax_rows : (sat (.softmax 0 rowWord) (rowReads (eWord 0x62 rowWord) 0x3F800000#32 [0x7FC00000, 0, 0, 0]) (fun t =>
      decide (numAt t (storeBase 0 + 0x5000) 4 = 0x7FC00000) && reg t (R.FRD_EE_NANROW_CNT 0) = 1)
    && sat (.softmax 0 rowWord) (rowReads (eWord 0x62 rowWord) 0x3F800000#32 (List.replicate 4 0xFF800000)) (fun t =>
      decide (numAt t (storeBase 0 + 0x5000) 16 = 0) && reg t (R.FRD_EE_EMPTY_CNT 0) = 1)) = true := by decide +kernel
theorem test_lnorm : (let s := rowReads (eWord 0x63 rowWord) 0 [0x40000000, 0, 0x40000000, 0]
    !eInvalid 0x63 rowWord && (issuing s 0 (eWord 0x63 rowWord)).isSome
    && sat (.lnorm 0 rowWord) s (fun t => decide (numAt t (storeBase 0 + 0x5000) 16 = 0x3F800000 + 2 ^ 32 * 0xBF800000 + 2 ^ 64 * 0x3F800000 + 2 ^ 96 * 0xBF800000)
      && numAt t (storeBase 0 + 0x5010) 4 == 0 && decide ((engOf t 0).run.map (fun y => (y.pc, y.sweep, y.chunk, y.group)) = some (1, 1, 0, 0)))
    && sat (.lnorm 0 rowWord) (rowReads (eWord 0x63 rowWord) 0 [0x7F800000, 0, 0, 0]) (fun t => reg t (R.FRD_EE_NANROW_CNT 0) = 1)) = true := by decide +kernel
/-- The row is longer than a chunk. -/
def longRow (op : Nat) (i : EInstr) : State := modEng (engaged true 1 (eWord op i) 0x3F800000#32 0x40000000#32) 0 (fun e => { e with
  run := e.run.map (fun x => { x with call := callBytes 1 300 }) })
theorem wit_reductions : (let m : EInstr := { d := 16, a := 1 }
    let n : EInstr := { d := 16, a := 27 }
    (issuing (longRow 0x60 m) 0 (eWord 0x60 m)).any (fun x => decide (x.chunk + 1 < x.chunks) && x.row && x.best.isNone)
    && sat (.rmax 0 m) (longRow 0x60 m) (fun t => (engOf t 0).run.any (fun y => decide (y.chunk = 1) && y.nan && y.best.isSome))
    && sat (.rsum 0 n) (longRow 0x61 n) (fun t => (engOf t 0).run.any (fun y => decide (y.chunk = 1) && y.any && decide (y.sum = (0x43800000#32, 0#32))))) = true := by
  decide +kernel
theorem test_row_starts : (let s := modFrond (listed [opHead 2 0 0 0 0 128 ++ callBytes 2 4] []) 0 (fun x => { x with engQ := [0] })
    (nextInvocation s 0).any (fun p => decide (p.1.kind = 2 ∧ p.1.idx = 0) && !p.2)
    && sat (.rowInvocation ⟨0, .none⟩) s (fun t => rb t (R.FRD_EE_STATUS 0) F.FRD_EE_STATUS_row_mode && (engOf t 0).run.any (fun x => x.row && decide (x.pc = 0)))) = true := by
  decide +kernel
theorem test_drain_starts : (let s := modFrond (fullSlot 1 0) 0 (fun x => { x with engQ := [0] })
    (nextInvocation s 0).any (fun p => decide (p.1.kind = 1 ∧ p.1.idx = 0) && !p.2)
    && sat (.drainInvocation ⟨0, .none⟩) s (fun t => decide (slotState t 0 0 = 3) && !rb t (R.FRD_EE_STATUS 0) F.FRD_EE_STATUS_row_mode
      && (engOf t 0).run.any (fun x => !x.row && decide (x.slot = 0)))) = true := by decide +kernel
/-- A state whose engine of stack 0 has been asked to go idle. -/
def engineAsked (s : State) : State := { s with rst := { s.rst with block := some 0x20 } }
/-- Stack `k` answers nothing, as while it retrains. -/
def shut (k : Nat) (s : State) : State := put s [(R.STK_STATUS k, F.STK_STATUS_init_done, 0)]
theorem wit_admit_waits : (let s := shut 0 lookupRuns
    mayAdmit s 5 0 && decide (admitStep s = some 1) && decide (admitStep lookupRuns = some 1)
    && (match planEntry s 5, bindVersion s 5 1, planEntry lookupRuns 5 with
      | some p, some v, some q => (localReads s (inputParts s p v.desc 1 0)).2 && !(localReads lookupRuns (inputParts lookupRuns q v.desc 1 0)).2
      | _, _, _ => false)
    && sat (.lookupBatchAdmit 5 0) s (fun t => t.seq.admitted.isEmpty)) = true := by decide +kernel
theorem wit_lookup_idle : (idleAsked (engineAsked waiting) (0x20 + rspEngine waiting 5 1 0)
    && sat (.lookupRsp ⟨2, 5, 0, 0, 1, 0, 0, 1, 0, []⟩) (engineAsked waiting) (fun t => decide (t.sor.inq.length = 1))
    && sat (.lookupEnd 7 1 2) (engineAsked lookupRuns) (fun t => decide (t.sor.inq = [.lookupEnd 7 1 2]) && t.sor.ends.isEmpty)
    && sat (.lookupReq ⟨aReq 2, []⟩) (engineAsked lookupRuns) (fun t => decide (t.sor.heldReqs.length = 1))
    && !idleAsked waiting (0x20 + rspEngine waiting 5 1 0)
    && !mayRetire lookupRuns (tableState lookupRuns 5)) = true := by decide +kernel
/-- As composed, the page of its remainder rows in T2. -/
def composedT2 : State := let s := { composed with tier := tiered.tier }; setPte s 0 (pteAt (setBits 0 40 1 1) 0 (.t2 0 3))
theorem wit_rem : (match rowVersion composed 5 2 with
    | some v =>
      let m : RemGrad := ⟨2, 5, selfId State.reset, 0, [(6, List.replicate 16 (0x3F800000#32, 0))], 0, true⟩
      let got := { composed with sor := { composed.sor with remGrads := composed.sor.remGrads ++ [m] } }
      let r : Nat × List Byte × List Byte := (6, List.replicate 32 1, List.replicate 16 1)
      let copies := (remCopies composed v 9 6).map (fun d => (d, r))
      remGradsIn got v 0 && (remSources got v 0).contains m.source && decide (copies.length = 1)
      && copies.all (fun c => !rowHeld composed c.1 v.desc true 6 2 && (readRow composed c.1 v.desc true 6).isSome
          && rowHeld composedT2 c.1 v.desc true 6 2)
      && sat (.remRow ⟨2, 5, 9, 0, [r], 0, true⟩) composed (fun t => decide (t.sor.commit.length = 1))
      && sat (.remRow ⟨2, 5, 9, 0, [r], 0, true⟩) composedT2 (fun t => decide (t.sor.inq.length = 1) && t.sor.commit.isEmpty)
    | none => false) = true := by decide +kernel
theorem wit_merge_waits : (let s := { merging with sor := { merging.sor with detSteps := [(0, true)], closed := 1, log := [(5, anUpdate)] }, seq := { merging.seq with barrier := 1 } }
    enginesFree s && !enginesFree (engineAsked s) && decide (NoMemoryErrors s)
    && sat (.detOrderMerge 0) (engineAsked s) (fun t => t = engineAsked s)) = true := by decide +kernel
theorem wit_row_ready : (let s := applying 0x3F800000#32
    decide (NoMemoryErrors s) && !rowHeld s (selfId s) (tableDesc 2) false 3 3
    && (match s.sor.pend ++ pending.sor.pend with
      | x :: _ => decide (rowT2 pending (tableDesc 2) x.rem x.row = []) && !idleAsked pending (0x20 + x.stack) && !rowLost pending x.own ⟨x.table, x.rem, x.row⟩
          && decide (NoMemoryErrors pending) && !rowHeld pending x.own (tableDesc 2) x.rem x.row 3 && commitRoom pending x.stack 192
          && (readRow pending x.own (tableDesc 2) x.rem x.row).any (fun old => (newRow x.par 16 (etaStep pending x.step) x.g old).isSome)
          && decide (pendUse pending 0 false + pendBytes x ≤ 0x20_0000)
      | [] => false)) = true := by decide +kernel
/-- The staging entry of row 3 may apply, and `n` bytes of another row stand in the commit buffer of its stack. -/
def commitsOf (n : Nat) : State := let s := applying 0x3F800000#32
  { s with sor := { s.sor with commit := [⟨0, 5, 2, 8, false, 0, 0, [(0x40_0000, List.replicate n 0)], none, false, [], none⟩] } }
theorem commits_room (n k : Nat) : commitRoom (commitsOf n) 0 k = decide (n + k ≤ 0x40_0000) := by simp [commitRoom, commitsOf]
theorem wit_commits_full : commitRoom (commitsOf 0x40_0000) 0 192 = false := by rw [commits_room]; decide
theorem wit_commits_full_applies : ((commitsOf 0x40_0000).sor.stage.any (mayApply (commitsOf 0x40_0000)) && decide (partsLen (commitsOf 0x40_0000) (tableDesc 2) false 3 3 = 192
    ∧ rowT2 (commitsOf 0x40_0000) (tableDesc 2) false 3 = [])) = true := by
  decide +kernel
theorem wit_acks : (let m : Soredium := ⟨21, 4, [⟨0, 5, false, [1, 2, 3]⟩], 7, false⟩
    let s := { updating with sor := { updating.sor with commit := [⟨0, 5, 2, 3, false, 0, 4, [], some (9, 7), false, [], none⟩] } }
    let h := { s with rst := { s.rst with block := some 0x20, asserted := true } }
    !sorWaits grouped m && decide (NoMemoryErrors grouped) && sorWaits (shut 0 (shut 1 grouped)) m
    && sat (.soredium m) (shut 0 (shut 1 grouped)) (fun t => decide (t.sor.inq = [.soredium m]) && t.out.isEmpty)
    && !ackHeld s 4 9 7 && ackHeld h 4 9 7 && sat (.sorediumAck 9 4 7) h (fun t => decide (t.sor.inq = [.sorediumAck 9 4 7]) && !acked t)
    && !engineHeld s 0 && decide (s.cmd.held = [])) = true := by decide +kernel
theorem wit_starts : (let t0 (f : Tier → Tier) : State := { tiered with tier := f tiered.tier }
    let p := t0 (fun x => { x with queue := [5] })
    let d := t0 (fun x => { x with demoting := true, demoteSel := [3] })
    let b := t0 (fun x => { x with poolMoves := [3] })
    let e := t0 (fun x => { x with rebal := [⟨1, 5, [(3, 5)]⟩] })
    let v := t0 (fun x => { x with evacuate := [3] })
    let r := t0 (fun x => { x with sources := modAt (fun _ => ⟨2, 0, 8, some 0⟩) x.sources 0 })
    decide (tierPol.freeLow < freeT1 p ∧ firstStart p .promote (p.tier.queue.filter (fun q => pteTier (pte p q) = 2)) = some 5
      ∧ firstStart d .demote (d.tier.demoteSel.filter (demotable d)) = some 3 ∧ (chooseT2 d 3).isSome = true
      ∧ firstStart b .rebalance b.tier.poolMoves = some 3 ∧ (chooseT1 b (fun m => m ≠ pteStack (pte b 3))).isSome = true
      ∧ ([(3, 5)].find? (fun q => stillOn e 1 q.1 && mayStart e .rebalance q.1)) = some (3, 5) ∧ (chooseT1 e (fun m => m ≠ 1)).isSome = true
      ∧ firstStart v .evacuate (v.tier.evacuate.filter (fun q => (anyPlace v q).isSome)) = some 3
      ∧ firstStart r .revoke (((revoking r).flatMap (pagesIn r)).filter (fun q => (revokePlace r q).isSome)) = some 5
      ∧ firstStart tiered .evacuate [] = none ∧ lostPages tiered = [])) = true := by decide +kernel
theorem wit_lost_asked : (let ps := (lostPages relocating).filter (mayStart relocating .rebuild)
    ps.all (fun p => !pageUnasked relocating p)
    && (pageRows (zeroPlace relocating (.t1 0 4096)) 0x40).all (fun x => decide (x.2.1 = 0x40_0000 ∧ x.2.2.1 + x.2.2.2 ≤ 128 ∧ x.2.2.2 ≤ 0x1_0000))
    && decide ((pageRows (zeroPlace relocating (.t1 0 4096)) 0x40).length = 1)) = true := by decide +kernel
theorem wit_quiet : (let w := { tiered with tier := { tiered.tier with hostDownSince := some 0, sources := modAt (fun _ => ⟨1, 0x10000, 8, none⟩) tiered.tier.sources 6 } }
    let f := { live with hst := { live.hst with farPerstHigh := true }, tier := { live.tier with policy := some tierPol } }
    quiet (advance 40 (moving 3 [] [0] [])) && quiet tiered && quiet w && quiet f && quiet up && quiet booted && decide (NoMemoryErrors (moving 3 [] [0] []))) = true := by
  decide +kernel
theorem wit_stack_quiet : (let s := put openStack [(R.STK_STATUS 1, F.STK_STATUS_retraining, 1)]
    let p := modStack openStack 1 (fun x => { x with failing := [(3, 9)], waiting := [] })
    let b := { live with rst := { live.rst with released := 2 ^ 23 } }
    let e := modStack openStack 1 (fun x => { x with errs := [(7, LineErr.good)] })
    quiet s && quiet p && quiet b && decide (s.rau.landed = [] ∧ p.rau.landed = [] ∧ b.rau.landed = [] ∧ bankUse (stackOf p 1) 3 (9 % 64) < 16)
    && b.rst.released.testBit 23 && !rb b (R.STK_STATUS 1) F.STK_STATUS_init_done && !rb b (R.STK_STATUS 1) F.STK_STATUS_retraining && !(stackOf b 1).lost
    && sat (.refresh 1 ⟨1000, [(3, LineErr.good)]⟩) e (fun t => decide ((stackOf t 1).errs.length = 2 ∧ (stackOf t 1).allBank = rb e (R.STK_CTL 1) F.STK_CTL_ref_allbank))
    && sat (.refresh 8 ⟨1000, []⟩) openStack (fun t => decide (t = openStack))) = true := by decide +kernel
/-- What REFRESH brings stands until a read meets it: corrected and written back, or poison. -/
theorem test_errors_met : (let s := put (setReg openStack (R.STK_CORR_CNT 1) 0) []
    let e := modStack s 1 (fun x => { x with errs := [(0x2000_0000 / 64, ⟨[(4, 1)], []⟩)] })
    sat (.rd64 1 9 0x2000_0000 .good) e (fun t => answered t (.data 9 0 lineBytes) && decide (reg t (R.STK_CORR_CNT 1) = 1 ∧ (stackOf t 1).errs = []))) = true := by decide +kernel
theorem test_retraining : (let s := portAt 6
    let d := modPort s 3 (fun q => { q with discarding := true })
    let r := modPort s 3 (fun q => { q with replayDue := some 2 })
    sat (.data { rxOf (.data (hdrTo 0) (full [])) with num := 7 } (hdrTo 0) (full [])) s (fun t => (portOf t 3).discarding && decide ((portOf t 3).accepted = 7))
    && sat (ctlCmd true false 0 3 3 (List.replicate 12 9)) s (fun t => decide ((portOf t 3).replayDue = some 3 ∧ (portOf t 3).replay.length = 2))
    && sat (.retrainDone 3 100) d (fun t => t.out.contains (.frame 3 (.linkCtl true false 0 7 7 (List.replicate 12 0))))
    && sat (.retrainDone 3 100) r (fun t => (portOf r 3).replay.all (fun f => t.out.contains (.frame 3 f)))) = true := by decide +kernel
theorem test_crc_fails : (let bad (x : Rx) : Rx := { x with crc := x.crc ^^^ 1 }
    sat (.reservedFrame (bad (rxOf .reserved))) linkUp (fun t => decide (reg t (R.SHK_BADFRAME_CNT 0) = 0))
    && sat (.heartbeat (bad (rxOf (.heartbeat (beat 1)))) (beat 1)) linkUp (fun t => portUp t 3)
    && sat (.deviceFailed (bad (rxOf (.deviceFailed 77 4 50))) 77 4 50) linkUp (fun t => t.recov.lost.isEmpty)
    && sat (.linkCtl (bad (rxOf (.linkCtl true false 0 3 3 (List.replicate 12 9)))) true false 0 3 3 (List.replicate 12 9)) linkUp (fun t =>
      decide ((portOf t 3).replay.length = 3))) = true := by decide +kernel
theorem test_refused : (let s := put linkUp [(R.THL_STATUS, F.THL_STATUS_active_valid, 0)]
    let h := { hdrTo (selfId linkUp) with epochTag := 3, digestTag := 7 }
    sat (dataCmd h (unitBytes 100)) s (fun t => decide ((flowIn t 1 0).refused = some (0, 3, 7) ∧ (flowIn t 1 0).landing = none))) = true := by decide +kernel
theorem wit_piece_lost : (match pieceRole sharing 25 21 (key5 dataRow) with
    | some (.data own m) =>
      let other := { withLost sharing [21] with recov := { (withLost sharing [21]).recov with shares := [] } }
      rowThere sharing own (key5 m) && !rowLost sharing own (key5 m) && !rowGoneHere sharing own (key5 m) && !failed sharing
        && decide (NoMemoryErrors sharing) && !rowThere grouped own (key5 m) && !failed other
    | _ => false) = true := by decide +kernel
theorem wit_spare_deputy : (let s := { rebuilding (rebAt 9 [] [] []) with recov := { (rebuilding (rebAt 9 [] [] [])).recov with
      rebuilds := [], rewrites := [], spared := [(21, key5 spareRow, false)] } }
    sparedHere s 21 (key5 spareRow) false && decide (serverOf s 21 = some 21 ∧ NoMemoryErrors s) && !rawWaits s (spareAddr s 4 5 false (locate 1 spareRow 4).spare) 3
    && sat (.fwd 21 21 ⟨spareRow, 5, false, [9, 1, 4]⟩) s (fun t => decide (bytesAt t (spareAddr s 4 5 false (locate 1 spareRow 4).spare) 3 = [9, 1, 4]))) = true := by
  decide +kernel
theorem wit_scrub_ends : ((heldAddr sharing 5 false (.own scrubSlot)).isSome && holdsSlot sharing 5 false (.own scrubSlot)
    && (scrubAsks sharing 5 false (.own scrubSlot)).any (fun a => !a.isEmpty) && (newestVersion sharing 5).any (fun v => !dAlias v.desc)
    && decide (rf sharing R.DEV_REC_CTL F.DEV_REC_CTL_scrub_days ≠ 0) && quiet (rebuilding (rebAt spareRow [17, 25] [17, 25] [25]))
    && decide ((rebuilding (rebAt spareRow [17, 25] [17, 25] [25])).recov.shares = [])) = true := by decide +kernel
theorem wit_slew : (let s (k : Int) : State := { linkUp with shk := { linkUp.shk with slew := k } }
    decide ((advance 5000 (s 5)).ft = 5005 ∧ (advance 5000 (s (-5))).ft = 4995 ∧ (advance 500 (s 5)).ft = 502)) = true := by decide +kernel
/-- The big-endian bytes of a 384-bit number. -/
def be48 (n : Nat) : List Byte := (leBytes 48 n).reverse
/-- A signature made outside the model, by the textbook's formulas over the curve of RFC 5639 section 3.6; r plus `d`. -/
def signedWith (d : Nat) : Bool := ecdsaVerify (be48 0x08e91252f83d8a7f240e67db908d5d24970d84d9f2b665ca48091248d698cf5a7a97e2094cf53e9ceeed3a642c4fb49a)
  (be48 0x2b9516185b7fa117988728bfe096accfdd41eb8d1a34ee9b0fcd8c028939052e1cd361145aa37aeadbd94096dc4afae6)
  (be48 0xcb00753f45a35e8bb5a03d699ac65007272c32ab0eded1631a8b605a43ff5bed8086072ba1e7cc2358baeca134c825a7)
  (be48 (0x731d10536b973a54c68a93e454000d8f0c9f1022fb3098de4bcf326cff1d29598182d3d7429e7fb5aed20cb37efca86c + d))
  (be48 0x29bc453e93bd501628445429baab00263d2a1d1f9aff026eb5c30b08a01b6a3112d0aac69d115c614e84c5fd474a51ac)
theorem test_ecdsa : (signedWith 0 && !signedWith 1) = true := by decide +kernel
def aHdr : Hdr := ⟨40, 5000, 600, 0xABCD, 0x71, true, 2, 1, 12345, 6789⟩
/-- One frame of each type. -/
def someFrames : List Frame := [.idle, .data aHdr (List.replicate 240 3), .heartbeat ⟨3, 77, 19, 8, 5, 6, 2 ^ 60, 7, 8, 9, 10⟩,
  .linkCtl true true 4 70000 80000 (List.range 12), .error aHdr 5 2 600 { aHdr with dst := 1 }, .e2eAck aHdr 3 1023, .deviceFailed 77 0x11 (2 ^ 40), .reserved]
theorem test_frame_bytes : (someFrames.all (fun f => decide (readFrame (frameImage f) = some f))
    && decide (someFrames.map (fun f => fieldAt (frameImage f) 0 1 % 8) = List.range 8)
    && decide (readFrame ((frameImage .idle).set 9 1) = none)) = true := by decide +kernel
/-- R465's places: dst 16:3, src 30:17, vc 32:31, plane 34:33, dateline 35, epoch tag 43:36, digest tag 59:44, msg_seq 69:60, index 82:70,
hops 88:83. -/
theorem test_frame_places : (let w := fieldAt (frameImage (.data aHdr [])) 0 12
    decide (bitsOf w 3 14 = 6789 ∧ bitsOf w 17 14 = 12345 ∧ bitsOf w 31 2 = 1 ∧ bitsOf w 33 2 = 2 ∧ bitOf w 35 = true ∧ bitsOf w 36 8 = 0x71
      ∧ bitsOf w 44 16 = 0xABCD ∧ bitsOf w 60 10 = 600 ∧ bitsOf w 70 13 = 5000 ∧ bitsOf w 83 6 = 40 ∧ bitsOf w 89 7 = 0
      ∧ fieldAt (frameImage (.deviceFailed 77 0x11 9)) 2 2 = 77 ∧ fieldAt (frameImage (.deviceFailed 77 0x11 9)) 8 8 = 9
      ∧ fieldAt (frameImage (.linkCtl true false 4 70000 80000 [1, 2])) 4 4 = 70000 ∧ fieldAt (frameImage (.linkCtl true false 4 70000 80000 [1, 2])) 0xE 2 = 2)) = true := by
  decide +kernel
/-- Sections of the smallest image: type, instance, bytes. -/
def minSections : List (Nat × Nat × List Byte) :=
  let shard : List Byte := leBytes 4 0 ++ leBytes 4 0 ++ leBytes 8 0x1000_1000_0000 ++ leBytes 8 0 ++ leBytes 16 0 ++ leBytes 4 0x40 ++ leBytes 4 0x40 ++ leBytes 16 0
  [(1, 0, leBytes 4 0x110 ++ leBytes 4 0 ++ leBytes 2 1 ++ leBytes 6 0 ++ leBytes 256 0),
   (2, 0, leBytes 16 0)]
  ++ (List.range 8).map (fun n => (5, n, leBytes 2 0 ++ leBytes 2 1 ++ leBytes 2 1 ++ leBytes 2 (if n = 0 then 1 else 0) ++ leBytes 8 0 ++ (if n = 0 then leBytes 16 0 else [])))
  ++ [(6, 0, shard), (6, 1, shard),
   (7, 0, leBytes 2 1 ++ leBytes 2 0 ++ leBytes 4 0x30 ++ leBytes 8 0x1000_2000_0000 ++ leBytes 8 0x1000_3000_0000 ++ leBytes 8 0x1_0000 ++ leBytes 8 0x1000_4000_0000 ++ leBytes 8 0
      ++ ([4, 0] ++ leBytes 2 6 ++ leBytes 4 0 ++ (List.range 6).flatMap (fun k => leBytes 2 (4 * k)) ++ leBytes 4 0)),
   (8, 0, leBytes 4 0 ++ leBytes 4 100 ++ leBytes 4 0 ++ leBytes 4 0x20 ++ leBytes 16 0),
   (9, 0, leBytes 16 0),
   (9, 1, leBytes 2 0 ++ [1, 1, 1, 0, 0, 0, 1, 1, 1] ++ leBytes 21 0),
   (0xA, 0, leBytes 32 0),
   (0xB, 0, leBytes 2560 0),
   (0xD, 0, leBytes 4 1 ++ [1, 0, 0, 0] ++ leBytes 4 64 ++ leBytes 4 65 ++ leBytes 6 0 ++ leBytes 2 0 ++ (List.range 8).flatMap (fun _ => leBytes 8 4096) ++ leBytes 8 0)]
/-- The sections at the offsets they get from `at_` up. -/
def placed (at_ : Nat) : List (Nat × Nat × List Byte) → List (Nat × Nat × Nat × List Byte)
  | [] => []
  | (t, i, b) :: r => (t, i, at_, b) :: placed (up64 (at_ + b.length)) r
/-- Header, section table and sections of an image that has the sections every image has, and no more. -/
def minBody : List Byte :=
  let n := minSections.length
  let t := placed (up64 (64 + 16 * n)) minSections
  let e := t.foldl (fun _ z => z.2.2.1 + z.2.2.2.length) 0
  let head := leBytes 4 0x534C4854 ++ leBytes 2 2 ++ leBytes 2 64 ++ leBytes 4 (e + 48) ++ leBytes 2 n ++ leBytes 2 0 ++ leBytes 2 0x9408 ++ leBytes 2 1
    ++ leBytes 4 0 ++ leBytes 8 1 ++ leBytes 4 64 ++ leBytes 28 0
  t.foldl (fun bs z => bs ++ List.replicate (z.2.2.1 - bs.length) 0 ++ z.2.2.2)
    (head ++ t.flatMap (fun z => leBytes 2 z.1 ++ [1, 0] ++ leBytes 4 z.2.2.1 ++ leBytes 4 z.2.2.2.length ++ leBytes 2 z.2.1 ++ leBytes 2 0))
/-- That image with its closing digest. -/
def minImage : List Byte := minBody ++ sha384 minBody
/-- A load of the image runs. -/
def loadingMin : State := { State.reset with thl := { State.reset.thl with load := some ⟨0, 0x5000, 4496, []⟩ } }
theorem minBody_length : minBody.length = 4448 := by decide +kernel
theorem minDigest_length : (sha384 minBody).length = 48 := by decide +kernel
theorem minImage_fields : [fieldAt minImage 4 2, fieldAt minImage 8 4, fieldAt minImage 0xE 2, fieldAt minImage 0x10 2, fieldAt minImage 0x12 2, fieldAt minImage 0xC 2,
    fieldAt minImage 0x20 4, fieldAt minImage 0x14 4] = [2, 4496, 0, 0x9408, 1, 19, 64, 0] := by decide +kernel
theorem minImage_checks : headerErr minImage = none ∧ zeros minImage 64 0 = none ∧ tableFault (imageSecs minImage) 368 4448 = none := by decide +kernel
theorem minImage_sections : walkSections loadingMin (imageCtx loadingMin minImage) minImage 4448 368 (sortSecs (·.off) (imageSecs minImage)) = none := by decide +kernel
theorem minImage_caps : capsHeld loadingMin 0 = true ∧ bitOf (fuseWord loadingMin 0) 0 = false := by decide +kernel
theorem wit_image : verifyImage loadingMin minImage 4496 = none := by
  obtain ⟨f4, f8, fe, f10, f12, fc, f20, f14, -⟩ : fieldAt minImage 4 2 = 2 ∧ fieldAt minImage 8 4 = 4496 ∧ fieldAt minImage 0xE 2 = 0
      ∧ fieldAt minImage 0x10 2 = 0x9408 ∧ fieldAt minImage 0x12 2 = 1 ∧ fieldAt minImage 0xC 2 = 19 ∧ fieldAt minImage 0x20 4 = 64
      ∧ fieldAt minImage 0x14 4 = 0 ∧ True := by simpa using minImage_fields
  obtain ⟨h1, h2, h3⟩ := minImage_checks
  have hs : (imageCtx loadingMin minImage).secs = imageSecs minImage := rfl
  have ht : minImage.take 4448 = minBody := by
    rw [minImage, ← minBody_length, List.take_left']; rfl
  have hd : (minImage.drop 4448).take 48 = sha384 minBody := by
    rw [minImage, ← minBody_length, List.drop_left', ← minDigest_length, List.take_length]; rfl
  have n0 : bitOf 0 0 = false := rfl
  have n1 : bitOf 1 0 = true := rfl
  simp only [verifyImage, f4, f8, fe, f10, f12, fc, f20, f14, h1, h2, h3, hs, ht, hd, n0, n1, minImage_sections, minImage_caps.1, minImage_caps.2,
    reduceIte, Nat.reduceLT, Nat.reduceSub, Nat.reduceAdd, Nat.reduceMul, Nat.reduceMod, Nat.reducePow, ne_eq, not_true, reduceCtorEq]
  simp
theorem wit_image_load : (decide (minImage.length = 4496) && decide (addrKind 0x5000 = 0 ∧ loadNeed 4496 = 4496)
    && decide (modCmd loadingMin 0 (fun c => { c with fetching := false }) = loadingMin)) = true := by decide +kernel

end Sys2Proof.Tests
end

section
/-! SUPPORT. What every command keeps: the canonical form of memory and of the register file, and the fixed numbers of units. -/

namespace Sys2Proof.Laws

open Sys2Proof.Machine

/-- `s` has kept what the statements about every step ask of `s₀`: memory and register file in canonical form (R12), and the numbers of
fronds, stacks, link ports and peat sources (R2, R267, R459). -/
structure Kept (s₀ s : State) : Prop where
  memory_wf : Memory.wf s₀.mem = true → Memory.wf s.mem = true
  registers_wf : Registers.wf s₀.regs = true → Registers.wf s.regs = true
  fronds_length : s₀.seq.fronds.length = 32 → s.seq.fronds.length = 32
  stacks_length : s₀.stackList.length = 8 → s.stackList.length = 8
  ports_length : s₀.shk.ports.length = 24 → s.shk.ports.length = 24
  sources_length : s₀.tier.sources.length = 16 → s.tier.sources.length = 16

/-- An outcome that, when it is a next state, has kept what `s₀` had. -/
def KeptNext (s₀ : State) (r : Host.Outcome State Fault Refusal) : Prop := ∀ t, r = .next t → Kept s₀ t

theorem KeptNext.next {s₀ s : State} (hs : Kept s₀ s) : KeptNext s₀ (.next s) := by
  rintro t ⟨⟩
  exact hs

theorem KeptNext.fault (s₀ : State) (r : Fault) : KeptNext s₀ (.fault r) := by
  rintro t ⟨⟩

/-- `List.modify` by another name: changing one element keeps the number of them. -/
@[simp] theorem length_modAt {A : Type} (f : A → A) (xs : List A) (i : Nat) : (modAt f xs i).length = xs.length := by
  induction xs generalizing i with
  | nil => rfl
  | cons x xs ih =>
    cases i with
    | zero => rfl
    | succ i => simp only [modAt, List.length_cons, ih]

namespace Kept

variable {s₀ s t : State}

protected theorem refl (s : State) : Kept s s := ⟨id, id, id, id, id, id⟩

/-- A change of the state that leaves memory, the register file and the four lists of units as long as they are. -/
theorem put (hs : Kept s₀ s) (hmem : t.mem = s.mem := by with_reducible rfl) (hregs : t.regs = s.regs := by with_reducible rfl)
    (hfronds : t.seq.fronds.length = s.seq.fronds.length := by with_reducible rfl) (hstacks : t.stackList.length = s.stackList.length := by with_reducible rfl)
    (hports : t.shk.ports.length = s.shk.ports.length := by with_reducible rfl)
    (hsources : t.tier.sources.length = s.tier.sources.length := by with_reducible rfl) : Kept s₀ t where
  memory_wf w := by rw [hmem]; exact hs.memory_wf w
  registers_wf w := by rw [hregs]; exact hs.registers_wf w
  fronds_length w := by rw [hfronds]; exact hs.fronds_length w
  stacks_length w := by rw [hstacks]; exact hs.stacks_length w
  ports_length w := by rw [hports]; exact hs.ports_length w
  sources_length w := by rw [hsources]; exact hs.sources_length w

protected theorem ite {c : Prop} {d : Decidable c} (hs : Kept s₀ s) (ht : Kept s₀ t) : Kept s₀ (if c then s else t) := by
  split
  · exact hs
  · exact ht

protected theorem foldl {A : Type} {f : State → A → State} {xs : List A} (hs : Kept s₀ s)
    (hf : ∀ s a, Kept s₀ s → Kept s₀ (f s a)) : Kept s₀ (xs.foldl f s) := by
  induction xs generalizing s with
  | nil => exact hs
  | cons x xs ih => exact ih (hf s x hs)

protected theorem forEach {A : Type} {f : State → A → State} {xs : List A} (hs : Kept s₀ s)
    (hf : ∀ s a, Kept s₀ s → Kept s₀ (f s a)) : Kept s₀ (forEach f s xs) := hs.foldl hf

/-- The state of a pair whose other part is an answer. -/
protected theorem fst {A : Type} {a : A} (hs : Kept s₀ s) : Kept s₀ (s, a).1 := hs

protected theorem snd {A : Type} {a : A} (hs : Kept s₀ s) : Kept s₀ (a, s).2 := hs

/-- A write that may be refused, by what it leaves when it is not. -/
protected theorem getD {o : Option State} (hs : Kept s₀ s) (ho : ∀ t, o = some t → Kept s₀ t) : Kept s₀ (o.getD s) := by
  cases o with
  | none => exact hs
  | some t => exact ho t rfl

/-- A loop whose state stands first in what it carries along. -/
protected theorem forEachFst {A B : Type} {f : State × B → A → State × B} {x : State × B} {xs : List A} (hx : Kept s₀ x.1)
    (hf : ∀ x a, Kept s₀ x.1 → Kept s₀ (f x a).1) : Kept s₀ (xs.foldl f x).1 := by
  induction xs generalizing x with
  | nil => exact hx
  | cons a xs ih => exact ih (hf x a hx)

theorem of_fst {A : Type} {x : State × A} {a : A} (hx : Kept s₀ x.1) (h : x = (s, a)) : Kept s₀ s := by
  rw [h] at hx
  exact hx

protected theorem setReg {r : Nat} {v : W64} (hs : Kept s₀ s) : Kept s₀ (setReg s r v) :=
  { hs with registers_wf := fun w => setReg_registers_wf s r v (hs.registers_wf w) }

protected theorem resetRegs {lo n : Nat} {keep : Nat → Bool} (hs : Kept s₀ s) : Kept s₀ (resetRegs s lo n keep) :=
  { hs with registers_wf := fun w => resetRegs_registers_wf s lo n keep (hs.registers_wf w) }

protected theorem setBytes {a : Nat} {bs : List Byte} (hs : Kept s₀ s) : Kept s₀ (setBytes s a bs) :=
  { hs with memory_wf := fun w => setBytes_memory_wf s a bs (hs.memory_wf w) }

protected theorem zeroKeys {a n : Nat} (hs : Kept s₀ s) : Kept s₀ (zeroKeys s a n) :=
  { hs with memory_wf := fun w => zeroKeys_memory_wf s a n (hs.memory_wf w) }

protected theorem modStack {n : Nat} {f : Stack → Stack} (hs : Kept s₀ s) : Kept s₀ (modStack s n f) := by
  unfold modStack
  exact hs.put (hstacks := length_modAt f s.stackList n)

end Kept

end Sys2Proof.Laws
end

section
/-! SUPPORT. What the operations of events, memory and links keep: one lemma for each operation, that cites those of the operations it is made of. -/

namespace Sys2Proof.Laws.Kept

-- Thousands of short proofs elaborated at once ask for more threads than Lean's memory limit holds.
set_option Elab.async false

open Sys2Proof.Machine

variable {s₀ s t : State}

/-! ## Named operations over registers, memory bytes, outputs, time and free values -/

protected theorem wf {r : Nat} {f : Field} {x : Nat} (hs : Kept s₀ s) : Kept s₀ (wf s r f x) := hs.setReg

protected theorem bump {r n : Nat} (hs : Kept s₀ s) : Kept s₀ (bump s r n) := by
  unfold bump
  exact hs.setReg.put

protected theorem cntAdd {w n : Nat} (hs : Kept s₀ s) : Kept s₀ (cntAdd s w n) := by
  unfold cntAdd
  exact hs.put

protected theorem raiseTo {r n : Nat} (hs : Kept s₀ s) : Kept s₀ (raiseTo s r n) := hs.setReg

protected theorem emit {o : Out} (hs : Kept s₀ s) : Kept s₀ (emit s o) := by
  unfold emit
  exact hs.put

protected theorem takeFree {w : Nat} (hs : Kept s₀ s) : Kept s₀ (takeFree w s).2 := .snd hs.put

protected theorem setFailPin {high : Bool} (hs : Kept s₀ s) : Kept s₀ (setFailPin s high) := .ite hs hs.put.emit

/-! ## Events: firing, routing and messages of the event gatherer, the trace buffer and the violation log -/

protected theorem setPend {src : Nat} {v : Bool} (hs : Kept s₀ s) : Kept s₀ (setPend s src v) := hs.wf

protected theorem evgRoute {src : Nat} (hs : Kept s₀ s) : Kept s₀ (evgRoute s src) := by
  unfold evgRoute
  split
  · exact hs.wf
  · extract_lets s₁
    have hs₁ : Kept s₀ s₁ := hs.wf
    exact hs₁.put

protected theorem evgSend {t p : Nat} (hs : Kept s₀ s) : Kept s₀ (evgSend s t p) := by
  unfold evgSend
  extract_lets s₁ _ s₂ s₃
  have hs₁ : Kept s₀ s₁ := hs.wf
  have hs₂ : Kept s₀ s₂ := hs₁.put
  have hs₃ : Kept s₀ s₃ := hs₂.bump
  exact .ite hs₃.emit (.ite hs₃.put hs₃.emit)

protected theorem evgNotifyAs {new : Bool} {t : Nat} (hs : Kept s₀ s) : Kept s₀ (evgNotifyAs new s t) := by
  unfold evgNotifyAs
  extract_lets
  split
  · exact hs
  · extract_lets
    exact .ite hs (.ite hs.evgSend (.ite hs hs.put.bump))

protected theorem evgSettle (hs : Kept s₀ s) : Kept s₀ (evgSettle s) := by
  unfold evgSettle
  extract_lets s₁
  have hs₁ : Kept s₀ s₁ := hs.forEach fun _ _ h => .ite h h.evgRoute
  exact hs₁.forEach fun _ _ h => h.evgNotifyAs

protected theorem evgMark {src : Nat} (hs : Kept s₀ s) : Kept s₀ (evgMark s src).1 := by
  unfold evgMark
  extract_lets _ s₂
  have hs₂ : Kept s₀ s₂ := .ite hs.setPend hs.setPend.evgRoute
  split
  · exact .fst hs
  · exact .fst hs₂.evgSettle

protected theorem tracePush {kind unit arg0 arg1 : Nat} (hs : Kept s₀ s) : Kept s₀ (tracePush s kind unit arg0 arg1) := by
  unfold tracePush
  extract_lets _ _ _ r
  have hr : Kept s₀ r.1 := hs.put.bump.wf.evgMark
  exact .ite hs (.ite hs.put (.ite (.ite hr.bump hr) hs.put.bump.wf))

protected theorem evgPendSource {src : Nat} (hs : Kept s₀ s) : Kept s₀ (evgPendSource s src) := .ite hs.evgMark.tracePush hs.evgMark

protected theorem evgFire {src : Nat} (hs : Kept s₀ s) : Kept s₀ (evgFire s src) := .ite hs.put hs.evgPendSource

protected theorem evgFireIf {en : Bool} {src : Nat} (hs : Kept s₀ s) : Kept s₀ (evgFireIf s en src) := .ite hs.evgFire hs

protected theorem flagEvent {r : Nat} {f : Field} {en : Bool} {src : Nat} (hs : Kept s₀ s) : Kept s₀ (flagEvent s r f en src) :=
  .ite hs hs.wf.evgFireIf

protected theorem violation {source addr requester : Nat} {write : Bool} {cause : Nat} (hs : Kept s₀ s) :
    Kept s₀ (violation s source addr requester write cause) :=
  hs.setReg.setReg.wf.bump.cntAdd.evgFireIf

protected theorem violRead {source addr req cause : Nat} {ur : Bool} (hs : Kept s₀ s) : Kept s₀ (violRead s source addr req cause ur) :=
  hs.violation.emit

protected theorem violWrite {source addr req cause : Nat} (hs : Kept s₀ s) : Kept s₀ (violWrite s source addr req cause) :=
  hs.violation.emit

protected theorem hostWrites {req off : Nat} {f : State → State} (hs : Kept s₀ s) (hf : ∀ s, Kept s₀ s → Kept s₀ (f s)) :
    Kept s₀ (hostWrites s req off f) :=
  .ite hs (.ite (hf _ hs) hs.violWrite)

/-! ## The device address space -/

protected theorem lineWritten {k off n : Nat} (hs : Kept s₀ s) : Kept s₀ (lineWritten s k off n) := hs.modStack

protected theorem hbmSet {a : Nat} {bs : List Byte} (hs : Kept s₀ s) : Kept s₀ (hbmSet s a bs) := by
  unfold hbmSet
  split
  · exact hs.setBytes.lineWritten
  · exact hs.setBytes

protected theorem setPte {p v : Nat} (hs : Kept s₀ s) : Kept s₀ (setPte s p v) := hs.setBytes

protected theorem waitWrite {w : HeldWrite} (hs : Kept s₀ s) : Kept s₀ (waitWrite s w) := by
  unfold waitWrite
  exact hs.put

protected theorem waitRead {w : WaitRead} (hs : Kept s₀ s) : Kept s₀ (waitRead s w) := by
  unfold waitRead
  exact hs.put

protected theorem tierPressure (hs : Kept s₀ s) : Kept s₀ (tierPressure s) := by
  unfold tierPressure
  extract_lets _ _ _ _ _ s₃
  have hs₃ : Kept s₀ s₃ := .ite (.ite hs.wf.put hs.wf.put.wf.evgFireIf) hs.wf
  split
  · exact hs
  · exact .ite hs₃.put hs₃

protected theorem tierFull (hs : Kept s₀ s) : Kept s₀ (tierFull s) := .ite hs hs.wf.wf.put.evgFireIf

protected theorem tierUnfull (hs : Kept s₀ s) : Kept s₀ (tierUnfull s) := by
  unfold tierUnfull
  split
  · exact hs
  · extract_lets s₁
    have hs₁ : Kept s₀ s₁ := hs.bump
    exact hs₁.put.wf

protected theorem queuePromotion {p heat : Nat} (hs : Kept s₀ s) : Kept s₀ (queuePromotion s p heat) := by
  unfold queuePromotion
  refine .ite hs ?_
  refine .ite hs.put ?_
  split
  · exact hs
  · exact .ite hs.put hs

protected theorem touch {p : Nat} (hs : Kept s₀ s) : Kept s₀ (touch s p) := by
  unfold touch
  extract_lets _ _ _ _ _ _ _ _ s₃
  have hs₃ : Kept s₀ s₃ := .ite hs.setPte.put.put hs.setPte.put
  refine .ite hs ?_
  split
  · exact hs.setPte.put
  · exact .ite hs₃.queuePromotion hs₃

protected theorem setMig {p : Nat} {f : Migration → Migration} (hs : Kept s₀ s) : Kept s₀ (setMig s p f) := by
  unfold setMig
  exact hs.put

protected theorem countPlaceWrite {pl : Place} {n : Nat} (hs : Kept s₀ s) : Kept s₀ (countPlaceWrite s pl n) := by
  unfold countPlaceWrite
  split
  · exact hs.bump.cntAdd
  · exact hs.cntAdd

protected theorem countPlaceRead {pl : Place} {n : Nat} (hs : Kept s₀ s) : Kept s₀ (countPlaceRead s pl n) := by
  unfold countPlaceRead
  split
  · exact hs.bump.cntAdd
  · exact hs.cntAdd

protected theorem placeWrite {pl : Place} {off : Nat} {bs : List Byte} (hs : Kept s₀ s) : Kept s₀ (placeWrite s pl off bs) := by
  unfold placeWrite
  split
  · exact hs.hbmSet.countPlaceWrite
  · exact hs.setBytes.emit.countPlaceWrite

protected theorem placeRead {pl : Place} {off n : Nat} (hs : Kept s₀ s) : Kept s₀ (placeRead s pl off n) := by
  unfold placeRead
  split
  · exact hs.countPlaceRead
  · exact hs.emit.countPlaceRead

protected theorem countRead {a n : Nat} (hs : Kept s₀ s) : Kept s₀ (countRead s a n) := by
  unfold countRead
  refine .forEach hs fun s a' h => ?_
  split
  · exact h.placeRead
  · exact h

protected theorem readAccess {a n : Nat} (hs : Kept s₀ s) : Kept s₀ (readAccess s a n) := by
  unfold readAccess
  refine .forEach hs fun s a' h => ?_
  split
  · exact h.placeRead.touch
  · exact h.touch

protected theorem pagePut {p off : Nat} {bs : List Byte} (hs : Kept s₀ s) : Kept s₀ (pagePut s p off bs) := by
  unfold pagePut
  split
  · exact hs
  · exact hs.placeWrite.setMig

protected theorem zeroPlace {n : Place} (hs : Kept s₀ s) : Kept s₀ (zeroPlace s n) := by
  unfold zeroPlace
  split
  · exact hs.zeroKeys.lineWritten
  · exact hs.zeroKeys.emit

protected theorem allocPage {p : Nat} (hs : Kept s₀ s) (ht : allocPage s p = some t) : Kept s₀ t := by
  simp only [allocPage, Option.map_eq_some_iff] at ht
  obtain ⟨pl, -, rfl⟩ := ht
  exact hs.setPte.zeroPlace.tierPressure

protected theorem backPages {ps : List Nat} (hs : Kept s₀ s) (ht : backPages s ps = some t) : Kept s₀ t := by
  induction ps generalizing s with
  | nil => cases ht; exact hs
  | cons p ps ih =>
    unfold backPages at ht
    split at ht
    · obtain ⟨s', hp, ht⟩ := Option.bind_eq_some_iff.1 ht
      exact ih (hs.allocPage hp) ht
    · exact ih hs ht

protected theorem tierPutAs {w : HeldWrite} (hs : Kept s₀ s) : Kept s₀ (tierPutAs s w) := by
  unfold tierPutAs
  refine .ite hs.waitWrite ?_
  split
  · exact hs.setMig
  · split
    · exact hs.tierFull.waitWrite
    · rename_i _ s' heq
      refine .forEach ((hs.backPages heq).forEach fun _ _ h => h.pagePut) fun _ _ h => h.touch

protected theorem tierPut {ps : List (Nat × List Byte)} (hs : Kept s₀ s) : Kept s₀ (tierPut s ps) := hs.tierPutAs

protected theorem tierWrite {a : Nat} {bs : List Byte} (hs : Kept s₀ s) : Kept s₀ (tierWrite s a bs) := .ite hs hs.tierPut

protected theorem bumpStacks {r : Nat → Nat} {a n : Nat} (hs : Kept s₀ s) : Kept s₀ (bumpStacks r s a n) :=
  hs.forEach fun _ _ h => .ite h h.bump

protected theorem rawWrite {a : Nat} {bs : List Byte} (hs : Kept s₀ s) : Kept s₀ (rawWrite s a bs) := hs.hbmSet.bumpStacks.cntAdd

protected theorem devWriteAt {seq a : Nat} {bs : List Byte} (hs : Kept s₀ s) (ht : devWriteAt s seq a bs = some t) : Kept s₀ t := by
  unfold devWriteAt at ht
  extract_lets at ht
  split at ht
  · cases ht; exact .ite hs hs.tierPutAs
  · split at ht
    · split at ht
      · split at ht
        · cases ht; exact hs.waitWrite
        · cases ht; exact hs.rawWrite
      · cases ht
    · split at ht
      · cases ht; exact hs.setBytes.cntAdd
      · cases ht

protected theorem devWrite {a : Nat} {bs : List Byte} (hs : Kept s₀ s) (ht : devWrite s a bs = some t) : Kept s₀ t := hs.devWriteAt ht

protected theorem retryWrite {w : HeldWrite} (hs : Kept s₀ s) : Kept s₀ (retryWrite s w) := by
  unfold retryWrite
  extract_lets _ s₁
  have hs₁ : Kept s₀ s₁ := .ite hs hs.tierPutAs
  exact hs₁.forEach fun _ _ h => h.getD fun _ ht => h.devWriteAt ht

protected theorem retryWaits (hs : Kept s₀ s) : Kept s₀ (retryWaits s) := by
  unfold retryWaits
  extract_lets _ _ s₁
  have hs₁ : Kept s₀ s₁ := hs.put.forEach fun _ _ h => h.retryWrite
  exact .ite hs₁ hs₁.tierUnfull

protected theorem framesFreed (hs : Kept s₀ s) : Kept s₀ (framesFreed s) := hs.tierPressure.retryWaits

/-! ## Shurak links: wiring, routing, flows, ports -/

protected theorem setPortState {p st : Nat} (hs : Kept s₀ s) : Kept s₀ (setPortState s p st) := hs.wf

protected theorem modPort {p : Nat} {f : Port → Port} (hs : Kept s₀ s) : Kept s₀ (modPort s p f) := by
  unfold modPort
  exact hs.put (hports := length_modAt f s.shk.ports p)

protected theorem countTx {p : Nat} (hs : Kept s₀ s) : Kept s₀ (countTx s p) := hs.bump.cntAdd.cntAdd

protected theorem countRx {p : Nat} (hs : Kept s₀ s) : Kept s₀ (countRx s p) := hs.bump.cntAdd

protected theorem sendRaw {p : Nat} {f : Frame} (hs : Kept s₀ s) : Kept s₀ (sendRaw s p f) := hs.emit.countTx

protected theorem freeSlot {o : Option (Nat × Nat)} (hs : Kept s₀ s) : Kept s₀ (freeSlot s o) := by
  unfold freeSlot
  split
  · exact hs
  · exact hs.modPort

protected theorem portPump {p k : Nat} (hs : Kept s₀ s) : Kept s₀ (portPump p k s) := by
  induction k generalizing s with
  | zero => exact hs
  | succ k ih =>
    unfold portPump
    extract_lets
    refine .ite hs ?_
    split
    · exact hs
    · exact ih hs.modPort.freeSlot.sendRaw

protected theorem portQueue {p : Nat} {e : QEntry} (hs : Kept s₀ s) : Kept s₀ (portQueue s p e) := hs.modPort.portPump

protected theorem portEnqueue {p pool : Nat} {f : Frame} (hs : Kept s₀ s) : Kept s₀ (portEnqueue s p pool f) := hs.portQueue

protected theorem setFlowOut {f : FlowOut} (hs : Kept s₀ s) : Kept s₀ (setFlowOut s f) := by
  unfold setFlowOut
  exact hs.put

protected theorem refusePlane {f : FlowOut} {ms : List OutMsg} (hs : Kept s₀ s) : Kept s₀ (refusePlane s f ms) :=
  hs.bump.flagEvent.setFlowOut

protected theorem injectMsg {f : FlowOut} {hop : Hop} {port : Nat} {om : OutMsg} (hs : Kept s₀ s) : Kept s₀ (injectMsg s f hop port om) :=
  hs.forEach fun _ _ h => h.portEnqueue

protected theorem unreachable (hs : Kept s₀ s) : Kept s₀ (unreachable s) := hs.flagEvent

protected theorem resendFlow {dst vc k : Nat} (hs : Kept s₀ s) : Kept s₀ (resendFlow dst vc k s) := by
  induction k generalizing s with
  | zero => exact hs.unreachable
  | succ k ih =>
    unfold resendFlow
    extract_lets
    refine .ite hs ?_
    split
    · exact hs.unreachable
    · extract_lets _ _ _ s₂
      have hs₂ : Kept s₀ s₂ := hs.setFlowOut.bump.cntAdd
      split
      · exact ih hs₂.refusePlane
      · exact hs₂.forEach fun _ _ h => h.injectMsg

protected theorem flowResend {dst vc : Nat} (hs : Kept s₀ s) : Kept s₀ (flowResend s dst vc) := hs.resendFlow

protected theorem flowPump {dst vc : Nat} (hs : Kept s₀ s) : Kept s₀ (flowPump s dst vc) := by
  unfold flowPump
  extract_lets _ pick _ _
  clear_value pick
  refine .ite hs ?_
  cases pick with
  | none => exact hs.unreachable
  | some p =>
    refine .ite hs ?_
    extract_lets _ s₁
    have hs₁ : Kept s₀ s₁ := hs.setFlowOut
    split
    · exact hs₁.refusePlane.flowResend
    · exact hs₁.forEach fun _ _ h => h.injectMsg

protected theorem sendFrom {cmd : Option Nat} {op : Option (Nat × Nat)} {port : Option Nat} {dst : Nat} {m : Message} (hs : Kept s₀ s) :
    Kept s₀ (sendFrom s cmd op port dst m) :=
  .ite hs.emit (.ite hs.bump hs.emit.setFlowOut.flowPump)

protected theorem sendMsgFor {cmd : Option Nat} {dst : Nat} {m : Message} (hs : Kept s₀ s) : Kept s₀ (sendMsgFor s cmd dst m) :=
  hs.sendFrom

protected theorem sendMsg {dst : Nat} {m : Message} (hs : Kept s₀ s) : Kept s₀ (sendMsg s dst m) := hs.sendFrom

protected theorem sendBy {p dst : Nat} {m : Message} (hs : Kept s₀ s) : Kept s₀ (sendBy s p dst m) := hs.sendFrom

/-! ## Access to the thallus images in the two slots -/

protected theorem latchOpt {n : Nat} (hs : Kept s₀ s) : Kept s₀ (latchOpt s n) := by
  unfold latchOpt
  refine .forEach hs fun s a h => ?_
  extract_lets
  split
  · exact h
  · extract_lets
    exact h.put

/-! ## Table descriptors, versions, resolution, owners and the places of rows -/

protected theorem setTable {x : TableState} (hs : Kept s₀ s) : Kept s₀ (setTable s x) := by
  unfold setTable
  exact hs.put

/-! ## Soredial groups, deltas and commits -/

protected theorem commitPut {own : Nat} {r : SorediumRec} {ps : List (Nat × List Byte)} (hs : Kept s₀ s) :
    Kept s₀ (commitPut s own r ps) := by
  unfold commitPut
  extract_lets _ s₁ s₂
  have hs₁ : Kept s₀ s₁ := .ite hs hs.tierPut
  have hs₂ : Kept s₀ s₂ := hs₁.forEach fun _ _ h => .ite (h.getD fun _ ht => h.devWrite ht) h
  split
  · exact hs₂.sendMsg
  · exact hs₂

protected theorem sendSoredium {dst step : Nat} {rs : List SorediumRec} {last : Bool} (hs : Kept s₀ s) :
    Kept s₀ (sendSoredium s dst step rs last).1 :=
  .fst hs.put.sendMsg

protected theorem sendDelta {dst : Nat} {r : SorediumRec} {step : Nat} (hs : Kept s₀ s) : Kept s₀ (sendDelta s dst r step).1 :=
  hs.sendSoredium

protected theorem forwardDelta {own : Nat} {r : SorediumRec} (hs : Kept s₀ s) : Kept s₀ (forwardDelta s own r) :=
  hs.forEach fun _ _ h => h.sendMsg

protected theorem ownCommits {i n : Nat} (hs : Kept s₀ s) : Kept s₀ (ownCommits i n s) := by
  unfold ownCommits
  exact hs.put

protected theorem startCommit {own t v row : Nat} {rem : Bool} {step : Nat} {delta : List Byte} {parts : List (Nat × List Byte)}
    (hs : Kept s₀ s) : Kept s₀ (startCommit s own t v row rem step delta parts) := by
  unfold startCommit
  extract_lets _ s₁
  have hs₁ : Kept s₀ s₁ := hs.commitPut
  split
  · exact hs₁.put
  · extract_lets x s₂
    have hx : Kept s₀ x.1 := hs.sendDelta
    have hs₂ : Kept s₀ s₂ := hx.bump.forwardDelta
    exact hs₂.put

protected theorem commitPiece {r : RowAt} {a : Nat} {bs : List Byte} (hs : Kept s₀ s) : Kept s₀ (commitPiece s r a bs) :=
  .ite hs.put (.startCommit (hs.forEach fun _ _ h => h.countRead))

protected theorem tierCommit {a : Nat} {bs : List Byte} (hs : Kept s₀ s) : Kept s₀ (tierCommit s a bs) := by
  unfold tierCommit
  refine .ite hs.tierWrite ?_
  refine .forEach hs fun s a' h => ?_
  split
  · exact h.tierWrite
  · exact h.commitPiece

protected theorem memWriteAs {ck : Bool} {a : Nat} {bs : List Byte} (hs : Kept s₀ s) (ht : memWriteAs s ck a bs = some t) : Kept s₀ t := by
  unfold memWriteAs at ht
  split at ht
  · cases ht
  · split at ht
    · cases ht; exact hs.tierCommit
    · exact hs.devWrite ht

protected theorem memWrite {a : Nat} {bs : List Byte} (hs : Kept s₀ s) (ht : memWrite s a bs = some t) : Kept s₀ t := hs.memWriteAs ht

protected theorem rollbackRecord {kind cause table owner first stride count step lost : Nat} (hs : Kept s₀ s) :
    Kept s₀ (rollbackRecord s kind cause table owner first stride count step lost) := by
  unfold rollbackRecord
  extract_lets _ _ _ _ _ _ s₃
  have hs₃ : Kept s₀ s₃ := .put (.wf (hs.getD fun _ ht => hs.devWrite ht))
  exact .evgFireIf (.wf (.cntAdd (.ite hs₃.wf hs₃)))

/-! ## Time, the trace unit's ring, counter records, latches and the frozen view -/

protected theorem traceStop (hs : Kept s₀ s) : Kept s₀ (traceStop s) := by
  unfold traceStop
  exact hs.wf.wf.put

protected theorem traceWrite {e : TraceEntry} (hs : Kept s₀ s) : Kept s₀ (traceWrite s e) := by
  unfold traceWrite
  extract_lets _ _ _ _ s₂ _ _ s₃
  have hs₂ : Kept s₀ s₂ := hs.tierCommit.put.setReg
  have hs₃ : Kept s₀ s₃ := .ite hs₂.put.flagEvent hs₂
  exact .ite hs (.ite hs₃.traceStop.flagEvent hs₃)

protected theorem traceDrain {n k : Nat} (hs : Kept s₀ s) : Kept s₀ (traceDrain n k s) := by
  induction k generalizing s with
  | zero => exact hs
  | succ k ih =>
    unfold traceDrain
    split
    · exact hs
    · exact .ite (ih (.traceWrite hs.put)) hs

protected theorem advance {t : Nat} (hs : Kept s₀ s) : Kept s₀ (advance t s) := .ite hs.traceDrain.put hs.traceDrain.put

protected theorem traceRestart (hs : Kept s₀ s) : Kept s₀ (traceRestart s) := hs.setReg.setReg.put.wf.wf

protected theorem runningCounts (hs : Kept s₀ s) : Kept s₀ (runningCounts s) := by
  unfold runningCounts
  extract_lets s₁
  have hs₁ : Kept s₀ s₁ := by
    unfold s₁
    split
    · exact hs.setReg
    · exact hs
  exact .ite hs₁ hs₁.setReg

protected theorem latch {kind index : Nat} (hs : Kept s₀ s) : Kept s₀ (latch s kind index).2 := by
  unfold latch
  extract_lets _ _ s₁
  have hs₁ : Kept s₀ s₁ := by
    unfold s₁
    split
    · exact hs
    · exact hs.put.wf
  exact .snd hs₁.put.bump

protected theorem thaw (hs : Kept s₀ s) : Kept s₀ (thaw s) := hs.put.wf

protected theorem applyCounterPlan (hs : Kept s₀ s) : Kept s₀ (applyCounterPlan s) := .ite hs.put.wf.traceRestart hs.put.wf

end Sys2Proof.Laws.Kept
end

section
/-! SUPPORT. What the operations of host commands, failure and scales keep: one lemma for each operation, that cites those of the operations it is made of. -/

namespace Sys2Proof.Laws.Kept

-- Thousands of short proofs elaborated at once ask for more threads than Lean's memory limit holds.
set_option Elab.async false

open Sys2Proof.Machine

variable {s₀ s t : State}

/-! ## Commands in progress, their writes, the retire point and completion records -/

protected theorem syncPage (hs : Kept s₀ s) : Kept s₀ (syncPage s) := .ite hs hs.setBytes

protected theorem modCmd {i : Nat} {f : Cmd → Cmd} (hs : Kept s₀ s) : Kept s₀ (modCmd s i f) := by
  unfold modCmd
  exact hs.put

protected theorem finCmd {i : Nat} {e : CmdEnd} (hs : Kept s₀ s) : Kept s₀ (finCmd s i e) := hs.modCmd

protected theorem flushRead (hs : Kept s₀ s) : Kept s₀ (flushRead s) := hs.put.emit

protected theorem hostPiece {i : Nat} {p : Nat × List Byte} (hs : Kept s₀ s) : Kept s₀ (hostPiece i s p) := by
  unfold hostPiece
  extract_lets _ _ s₂
  have hs₂ : Kept s₀ s₂ := hs.emit.cntAdd.modCmd
  exact .ite hs₂.flushRead hs₂

protected theorem hostWrite {i a : Nat} {bs : List Byte} (hs : Kept s₀ s) : Kept s₀ (hostWrite s i a bs) :=
  .ite (hs.forEach fun _ _ h => h.hostPiece) hs.modCmd

protected theorem localWrite {i a : Nat} {bs : List Byte} (hs : Kept s₀ s) : Kept s₀ (localWrite s i a bs) := by
  unfold localWrite
  split
  · rename_i _ s' heq
    exact (hs.memWriteAs heq).modCmd
  · exact hs.violation

protected theorem cmdWrite {i a : Nat} {bs : List Byte} (hs : Kept s₀ s) : Kept s₀ (cmdWrite s i a bs) := by
  unfold cmdWrite
  split
  · exact hs.hostWrite
  · exact hs.localWrite
  · exact .ite hs.localWrite (hs.forEach fun _ _ h => h.sendMsgFor)

protected theorem startCmd {i : Nat} (hs : Kept s₀ s) : Kept s₀ (startCmd s i) := by
  unfold startCmd
  extract_lets s₁ r
  have hs₁ : Kept s₀ s₁ := hs.modCmd
  have hr : Kept s₀ r.2 := hs₁.latch
  split
  · exact hs
  · extract_lets s₂
    have hs₂ : Kept s₀ s₂ := .ite hr hr.cmdWrite
    exact hs₂.tracePush

protected theorem writeRec {r : CplRec} (hs : Kept s₀ s) : Kept s₀ (writeRec s r) := hs.emit.emit.cntAdd.put.evgFire.flushRead

protected theorem pumpHeld {k : Nat} (hs : Kept s₀ s) : Kept s₀ (pumpHeld k s) := by
  induction k generalizing s with
  | zero => exact hs
  | succ k ih =>
    unfold pumpHeld
    split
    · exact hs
    · exact .ite (ih (.writeRec hs.put)) hs

protected theorem deliver {r : CplRec} (hs : Kept s₀ s) : Kept s₀ (deliver s r) := hs.put.pumpHeld.syncPage

protected theorem arrive {c : Cmd} {e : CmdEnd} (hs : Kept s₀ s) : Kept s₀ (arrive s c e) := by
  unfold arrive
  extract_lets _ _ _ s₂ s₃
  have hs₂ : Kept s₀ s₂ := .modCmd (.ite hs.latch.bump hs.latch)
  have hs₃ : Kept s₀ s₃ := .ite hs₂.cmdWrite hs₂
  exact .put (.ite hs₂ hs₃.cmdWrite)

protected theorem passRetire {c : Cmd} (hs : Kept s₀ s) : Kept s₀ (passRetire s c) := by
  unfold passRetire
  extract_lets _ _ _ _ s₂
  have hs₂ : Kept s₀ s₂ := hs.tracePush.put
  exact .deliver (.ite hs₂.wf hs₂)

protected theorem pumpPoint {k : Nat} (hs : Kept s₀ s) : Kept s₀ (pumpPoint k s) := by
  induction k generalizing s with
  | zero => exact hs
  | succ k ih =>
    unfold pumpPoint
    split
    · exact hs
    · refine .ite ?_ hs
      split
      · exact ih hs.passRetire
      · exact ih hs.put

protected theorem retireAt {i : Nat} {e : CmdEnd} (hs : Kept s₀ s) : Kept s₀ (retireAt s i e) := by
  unfold retireAt
  split
  · exact hs
  · extract_lets s₁
    have hs₁ : Kept s₀ s₁ := hs.arrive
    exact hs₁.pumpPoint

protected theorem pumpAll (hs : Kept s₀ s) : Kept s₀ (pumpAll s) := hs.pumpHeld.pumpPoint.pumpHeld.syncPage

protected theorem pumpRecs (hs : Kept s₀ s) : Kept s₀ (pumpRecs s) := .ite hs hs.pumpAll

protected theorem rejectCmd {i reason : Nat} (hs : Kept s₀ s) : Kept s₀ (rejectCmd s i reason) := hs.retireAt

protected theorem finOk {i : Nat} {result : List Byte} (hs : Kept s₀ s) : Kept s₀ (finOk s i result) := hs.finCmd

protected theorem endLoad (hs : Kept s₀ s) : Kept s₀ (endLoad s) := hs.put.wf

protected theorem cancelSwitch (hs : Kept s₀ s) : Kept s₀ (cancelSwitch s) := hs.put.wf

protected theorem cancelWork {c : Cmd} (hs : Kept s₀ s) : Kept s₀ (cancelWork s c) := by
  unfold cancelWork
  extract_lets
  split
  · exact .ite hs.endLoad hs
  · exact .ite hs.cancelSwitch hs
  · exact hs.put
  · extract_lets
    exact .ite hs.setTable (.ite hs.setTable hs)
  · exact .ite (hs.put (hsources := length_modAt ..)) hs
  · exact .ite hs.put.wf.setReg hs
  · exact .ite hs.put.wf hs
  · exact hs

protected theorem discardUnconfirmed (hs : Kept s₀ s) : Kept s₀ (discardUnconfirmed s) := .ite hs.put.put hs.put.put.wf

protected theorem detach {reason : Nat} (hs : Kept s₀ s) : Kept s₀ (detach s reason) := .syncPage (.evgFireIf (.ite hs.wf.put hs.wf))

/-! ## The device-failed state -/

protected theorem leaveUp {p st : Nat} (hs : Kept s₀ s) : Kept s₀ (leaveUp s p st) :=
  .setPortState (.modPort (hs.forEach fun _ _ h => h.freeSlot))

protected theorem announceFailed {code : Nat} (hs : Kept s₀ s) : Kept s₀ (announceFailed s code) :=
  hs.forEach fun _ _ h => .ite h (.leaveUp (h.forEach fun _ _ h' => h'.sendRaw))

protected theorem stopDataPlane (hs : Kept s₀ s) : Kept s₀ (stopDataPlane s) := by
  unfold stopDataPlane
  extract_lets q
  exact hs.put (hfronds := List.length_map haltFrond)

protected theorem abortRunning (hs : Kept s₀ s) : Kept s₀ (abortRunning s) :=
  .pumpRecs (.put (hs.forEach fun _ _ h => .ite h h.cancelWork.retireAt))

protected theorem enterFailed {code : Nat} (hs : Kept s₀ s) : Kept s₀ (enterFailed s code) :=
  .ite hs hs.stopDataPlane.announceFailed.abortRunning.wf.setFailPin.evgFireIf

protected theorem wordCorrected {f : Nat} {w : Nat × Nat} (hs : Kept s₀ s) : Kept s₀ (wordCorrected s f w) := hs.wf.wf.wf.cntAdd.evgFireIf

protected theorem frondErr {f : Nat} {n : MemErr} (hs : Kept s₀ s) : Kept s₀ (frondErr s f n) := by
  unfold frondErr
  split
  · exact hs
  · exact hs.enterFailed
  · exact hs.forEach fun _ _ h => h.wordCorrected

protected theorem afterRead {f : Nat} {err : MemErr} {go : State → State} (hs : Kept s₀ s) (hgo : ∀ s, Kept s₀ s → Kept s₀ (go s)) :
    Kept s₀ (afterRead s f err go) :=
  .ite hs.frondErr (hgo _ hs.frondErr)

/-! ## Fabric time over the links: the time parent -/

protected theorem relevel (hs : Kept s₀ s) : Kept s₀ (relevel s) := hs.put.forEach fun _ _ h => .ite h.wf.wf.wf.flagEvent h.wf.wf.wf

protected theorem discipline {b : Heartbeat} (hs : Kept s₀ s) : Kept s₀ (discipline s b) := by
  unfold discipline
  extract_lets _ _ s₁
  have hs₁ : Kept s₀ s₁ := hs.forEach fun _ _ h => h.setReg.wf
  exact .ite hs (.ite hs₁.put (.ite hs₁.put.advance hs₁.put))

protected theorem portDown {p : Nat} (hs : Kept s₀ s) : Kept s₀ (portDown s p) := by
  unfold portDown
  extract_lets _ _ s₂
  have hs₂ : Kept s₀ s₂ := hs.leaveUp.wf.modPort
  exact .relevel (.ite hs₂.flagEvent hs₂)

/-! ## The scale unit: overflow bits, loss scale, amax, exponents, their reduction and SET_SCALES -/

protected theorem sclFlag {f en : Field} (hs : Kept s₀ s) : Kept s₀ (sclFlag s f en) := hs.flagEvent

protected theorem sclLate {k : Nat} (hs : Kept s₀ s) : Kept s₀ (sclLate s k) := hs.bump.sclFlag

protected theorem overflowCodes {n : Nat} {codes : List Nat} (hs : Kept s₀ s) : Kept s₀ (overflowCodes s n codes) :=
  .ite hs (.ite hs.sclLate (.ite hs hs.put))

protected theorem lossUpdate {vote : Bool} (hs : Kept s₀ s) : Kept s₀ (lossUpdate s vote) :=
  .ite hs.wf.wf.wf.bump.cntAdd.sclFlag (.ite hs.wf hs.wf.wf)

protected theorem modTensor {t : Nat} {f : Tensor → Tensor} (hs : Kept s₀ s) : Kept s₀ (modTensor s t f) := by
  unfold modTensor
  exact hs.put

protected theorem recordAmax {t n k : Nat} {a : W32} (hs : Kept s₀ s) : Kept s₀ (recordAmax s t n k a) :=
  .ite hs.modTensor.sclLate hs.modTensor

protected theorem publish {n : Nat} (hs : Kept s₀ s) : Kept s₀ (publish s n) := hs.put.wf

protected theorem publishFirst {n : Nat} (hs : Kept s₀ s) : Kept s₀ (publishFirst s n) := .ite hs hs.publish

protected theorem tensorStep {n : Nat} {r : ScaleMsg} {t : Nat} (hs : Kept s₀ s) : Kept s₀ (tensorStep n r s t) := by
  unfold tensorStep
  extract_lets
  split
  · exact hs
  · extract_lets _ _ _ _ s₁
    have hs₁ : Kept s₀ s₁ := .ite hs.bump.sclFlag hs
    exact .ite hs₁.modTensor hs₁.modTensor

protected theorem publishDue {k : Nat} (hs : Kept s₀ s) : Kept s₀ (publishDue k s) := by
  induction k generalizing s with
  | zero => exact hs
  | succ k ih =>
    unfold publishDue
    split
    · exact hs
    · extract_lets next
      have h_next : Kept s₀ (next s) := hs.put
      refine .ite (ih h_next.publish) ?_
      split
      · exact hs
      · exact ih (h_next.forEach fun _ _ h => h.tensorStep).publish

protected theorem tryPublish (hs : Kept s₀ s) : Kept s₀ (tryPublish s) := hs.publishDue

protected theorem scaleSend {r : ScaleMsg} {level : Nat} (hs : Kept s₀ s) : Kept s₀ (scaleSend s r level) :=
  hs.forEach fun _ _ h => h.sendMsg

protected theorem scaleAdvance {n k : Nat} (hs : Kept s₀ s) : Kept s₀ (scaleAdvance n k s) := by
  induction k generalizing s with
  | zero => exact hs
  | succ k ih =>
    unfold scaleAdvance
    split
    · exact hs
    · extract_lets
      split
      · exact hs
      · extract_lets
        exact .ite (Kept.tryPublish hs.put) (ih (Kept.scaleSend hs.put))

protected theorem pumpScales (hs : Kept s₀ s) : Kept s₀ (pumpScales s) := hs.forEach fun _ _ h => h.scaleAdvance

protected theorem restartScale (hs : Kept s₀ s) : Kept s₀ (restartScale s) := hs.put.forEach fun _ _ h => h.scaleSend.scaleAdvance

protected theorem scaleLatch {n : Nat} (hs : Kept s₀ s) : Kept s₀ (scaleLatch s n) := .ite hs hs.put.scaleSend.scaleAdvance

protected theorem scaleAccept {m : ScaleMsg} (hs : Kept s₀ s) : Kept s₀ (scaleAccept s m) := .ite hs hs.put.scaleAdvance

protected theorem takeVote {n : Nat} (hs : Kept s₀ s) : Kept s₀ (takeVote s n).2 := .snd hs.put

protected theorem loseScale (hs : Kept s₀ s) : Kept s₀ (loseScale s) := by
  unfold loseScale
  extract_lets _ _ s₂
  have hs₂ : Kept s₀ s₂ := hs.wf.wf.wf.put
  exact .ite hs₂.wf.sclFlag hs₂

protected theorem applySetScales {p : PendScales} (hs : Kept s₀ s) : Kept s₀ (applySetScales s p) := by
  unfold applySetScales
  extract_lets _ _ s₂
  have hs₂ : Kept s₀ s₂ := by
    unfold s₂
    split
    · exact hs.wf.wf.wf
    · exact hs.wf
    · exact hs.loseScale
    · exact hs.modTensor.put
  exact hs₂.put.wf.finOk

protected theorem scaleBarrier {n : Nat} {vote : Bool} (hs : Kept s₀ s) : Kept s₀ (scaleBarrier s n vote) := by
  unfold scaleBarrier
  extract_lets _ _ s₂
  have hs₂ : Kept s₀ s₂ := hs.lossUpdate.put
  refine .tryPublish ?_
  split
  · exact .ite hs₂.applySetScales hs₂
  · exact hs₂

protected theorem loadScalePlan {jit : Nat → Bool} (hs : Kept s₀ s) : Kept s₀ (loadScalePlan s jit) := hs.put.setReg.wf.wf.setReg.wf.wf.wf

/-! ## The frond plan: ops, scoreboard, stage queues, the choice of the op to issue -/

protected theorem modFrond {f : Nat} {g : FrondState → FrondState} (hs : Kept s₀ s) : Kept s₀ (modFrond s f g) := by
  unfold modFrond
  exact hs.put (hfronds := length_modAt g s.seq.fronds f)

protected theorem setSb {f b : Nat} {v : Bool} (hs : Kept s₀ s) : Kept s₀ (setSb s f b v) := hs.modFrond

protected theorem loadBanks {k b : Nat} (hs : Kept s₀ s) : Kept s₀ (loadBanks s k b) := by
  unfold loadBanks
  exact hs.put (hfronds := by simp)

protected theorem setParamBits {k : Nat} (hs : Kept s₀ s) : Kept s₀ (setParamBits s k) := hs.forEach fun _ _ h => .ite h.setSb h

protected theorem clearParamBits {k : Nat} (hs : Kept s₀ s) : Kept s₀ (clearParamBits s k) := hs.put.forEach fun _ _ h => .ite h.setSb h

protected theorem setSlotState {f k v : Nat} (hs : Kept s₀ s) : Kept s₀ (setSlotState s f k v) := hs.wf

protected theorem modSlot {f k : Nat} {g : Slot → Slot} (hs : Kept s₀ s) : Kept s₀ (modSlot s f k g) := hs.modFrond

protected theorem issueOp {f : Nat} {o : PlanOp} {how : Nat} (hs : Kept s₀ s) : Kept s₀ (issueOp s f o how) := by
  unfold issueOp
  extract_lets _ _ s₃
  have hs₃ : Kept s₀ s₃ := .wf (.modFrond (hs.forEach fun _ _ h => .ite h.setSb h))
  exact .ite hs₃.wf hs₃

end Sys2Proof.Laws.Kept
end

section
/-! SUPPORT. What the operations of the reduction, parameters and rebuilds keep: one lemma for each operation, that cites those of the operations it is made of. -/

namespace Sys2Proof.Laws.Kept

-- Thousands of short proofs elaborated at once ask for more threads than Lean's memory limit holds.
set_option Elab.async false

open Sys2Proof.Machine

variable {s₀ s t : State}

/-! ## Reduce-and-apply: contributions, canonical sums, parts, gradients, the optimiser, digests, replay and the all-gather -/

protected theorem rauFlag {die : Nat} {f en : Field} (hs : Kept s₀ s) : Kept s₀ (rauFlag s die f en) := hs.flagEvent

protected theorem rauSendFor {op : Option (Nat × Nat)} {die dst : Nat} {m : Message} (hs : Kept s₀ s) :
    Kept s₀ (rauSendFor s op die dst m) :=
  hs.bump.sendFrom

protected theorem rauSend {die dst : Nat} {m : Message} (hs : Kept s₀ s) : Kept s₀ (rauSend s die dst m) := hs.rauSendFor

protected theorem setBlk {x : BlockState} (hs : Kept s₀ s) : Kept s₀ (setBlk s x) := by
  unfold setBlk
  exact hs.put

protected theorem setRed {r : Reduction} (hs : Kept s₀ s) : Kept s₀ (setRed s r) := by
  unfold setRed
  exact hs.put

protected theorem setSeen {b n d v : Nat} (hs : Kept s₀ s) : Kept s₀ (setSeen s b n d v) := by
  unfold setSeen
  exact hs.put

protected theorem countDrop {e : BlockEntry} {n d v : Nat} (hs : Kept s₀ s) : Kept s₀ (countDrop s e n d v) := hs.setSeen.bump.cntAdd

protected theorem dropContribution {e : BlockEntry} {n d : Nat} (hs : Kept s₀ s) : Kept s₀ (dropContribution s e n d) := by
  unfold dropContribution
  split
  · exact hs.countDrop
  · exact hs.countDrop
  · exact hs

protected theorem dropCleared {e : BlockEntry} {n d : Nat} (hs : Kept s₀ s) : Kept s₀ (dropCleared s e n d) :=
  .ite hs.countDrop hs.dropContribution

protected theorem setContribution {b : Nat} {c : Contribution} (hs : Kept s₀ s) : Kept s₀ (setContribution s b c) := by
  unfold setContribution
  exact hs.put

protected theorem dropBuffered {b n d : Nat} (hs : Kept s₀ s) : Kept s₀ (dropBuffered s b n d) := by
  unfold dropBuffered
  exact hs.put

protected theorem addContribution {e : BlockEntry} {r : Reduction} {i : Nat} {c : Contribution} (hs : Kept s₀ s) :
    Kept s₀ (addContribution s e r i c).1 := by
  unfold addContribution
  extract_lets _ _ _ s₂
  have hs₂ : Kept s₀ s₂ := hs.dropBuffered.setSeen.bump
  exact .fst (.ite hs₂.bump hs₂)

protected theorem redLoop {e : BlockEntry} {ids : List Nat} {hi k : Nat} {r : Reduction} (hs : Kept s₀ s) :
    Kept s₀ (redLoop e ids hi k s r).1 := by
  induction k generalizing s r with
  | zero => exact hs
  | succ k ih =>
    unfold redLoop
    split
    · exact .fst hs
    · extract_lets
      split
      · exact .fst hs
      · exact .fst hs.addContribution
      · exact .fst hs
      · extract_lets x y
        have hx : Kept s₀ x.1 := by
          unfold x
          split
          · exact hs.addContribution
          · exact .fst (.ite hs.dropContribution hs)
        have hy : Kept s₀ y.1 := by
          unfold y
          split
          · exact hx.addContribution
          · exact .fst (.ite hx.dropContribution hx)
        exact ih hy

protected theorem putGrad {e : BlockEntry} {n off : Nat} {gs : List W32} (hs : Kept s₀ s) : Kept s₀ (putGrad s e n off gs) := hs.setBytes

protected theorem putRecord {e : BlockEntry} {n : Nat} {eta c : W32} {skip nonfin : Bool} (hs : Kept s₀ s) :
    Kept s₀ (putRecord s e n eta c skip nonfin) :=
  hs.setBytes

protected theorem sendGrads {e : BlockEntry} {n : Nat} {gs : List W32} {bitmap : List Nat} {dst : Nat} (hs : Kept s₀ s) :
    Kept s₀ (sendGrads s e n gs bitmap dst) :=
  hs.forEach fun _ _ h => h.rauSend

protected theorem skipBlock {e : BlockEntry} {n : Nat} (hs : Kept s₀ s) : Kept s₀ (skipBlock s e n) :=
  hs.setBlk.forEach fun _ _ h => h.rauSend

protected theorem blockFinal {e : BlockEntry} {n : Nat} {pairs : List (W32 × W32)} {bitmap : List Nat} {k : Nat} (hs : Kept s₀ s) :
    Kept s₀ (blockFinal s e n pairs bitmap k) :=
  hs.putGrad.setBlk.forEach fun _ _ h => h.sendGrads

protected theorem setPart {p : PartIn} (hs : Kept s₀ s) : Kept s₀ (setPart s p) := by
  unfold setPart
  exact hs.put

protected theorem sendPart {e : BlockEntry} {n j : Nat} {pairs : List (W32 × W32)} {bitmap : List Nat} {skip : Bool} (hs : Kept s₀ s) :
    Kept s₀ (sendPart s e n j pairs bitmap skip) := by
  unfold sendPart
  split
  · exact hs
  · exact hs.forEach fun _ _ h => h.rauSend

protected theorem combineParts {e : BlockEntry} (hs : Kept s₀ s) : Kept s₀ (combineParts s e) := by
  unfold combineParts
  extract_lets _ _ _ s₁
  have hs₁ : Kept s₀ s₁ := by
    unfold s₁
    refine .forEach hs fun s a h => ?_
    split
    · exact .ite h.dropCleared h
    · exact h.dropCleared
  refine .ite hs₁.put.skipBlock ?_
  split
  · exact hs
  · extract_lets
    exact hs.put.blockFinal

protected theorem advanceRed {e : BlockEntry} {part : Option Nat} (hs : Kept s₀ s) : Kept s₀ (advanceRed s e part) := by
  unfold advanceRed
  extract_lets _ _ _ _ _ _ _ s₂
  have hs₂ : Kept s₀ s₂ := by
    unfold s₂
    split
    · exact hs.redLoop.blockFinal
    · exact hs.redLoop.sendPart
  exact .ite hs (.ite hs₂.setRed hs.redLoop.setRed)

protected theorem advanceBlock {e : BlockEntry} (hs : Kept s₀ s) : Kept s₀ (advanceBlock s e) := by
  unfold advanceBlock
  extract_lets s₁
  have hs₁ : Kept s₀ s₁ := hs.forEach fun _ _ h => .ite h.advanceRed h
  exact .ite hs (.ite (.ite hs.advanceRed hs) (.ite hs₁.combineParts hs₁))

protected theorem advanceBlocks (hs : Kept s₀ s) : Kept s₀ (advanceBlocks s) := hs.forEach fun _ _ h => h.advanceBlock

protected theorem rauLate {die : Nat} (hs : Kept s₀ s) : Kept s₀ (rauLate s die) := hs.bump.rauFlag

protected theorem rauDup {die n : Nat} (hs : Kept s₀ s) : Kept s₀ (rauDup s die n) := .ite hs hs.bump.rauFlag

protected theorem discardLate {e : BlockEntry} {c : Contribution} (hs : Kept s₀ s) : Kept s₀ (discardLate s e c) :=
  hs.dropBuffered.setSeen

protected theorem contributionArrived {e : BlockEntry} {c : Contribution} {t : Nat} (hs : Kept s₀ s) :
    Kept s₀ (contributionArrived s e c t) :=
  .ite (.ite hs.rauLate.setContribution.advanceBlock hs.rauLate.discardLate) (.ite hs.bump.discardLate hs.setContribution.advanceBlock)

protected theorem acceptReduce {m : ReduceMsg} {t : Nat} (hs : Kept s₀ s) : Kept s₀ (acceptReduce s m t) := by
  unfold acceptReduce
  split
  · exact hs.bump
  · extract_lets s₁ _ _ _ _ s₂
    have hs₁ : Kept s₀ s₁ := hs.bump
    have hs₂ : Kept s₀ s₂ := hs₁.rauDup
    refine .ite hs₁.bump ?_
    refine .ite hs₁ ?_
    split
    · exact hs₁.rauDup
    · exact hs₁.rauDup
    · exact hs₁.rauDup
    · exact .ite hs₁.rauDup (.ite hs₁.bump (.ite hs₂.contributionArrived hs₂.setContribution))

protected theorem acceptPart {m : PartMsg} {t : Nat} (hs : Kept s₀ s) : Kept s₀ (acceptPart s m t) := by
  unfold acceptPart
  split
  · exact hs.bump
  · extract_lets s₁
    have hs₁ : Kept s₀ s₁ := hs.bump
    exact .ite hs₁ (.ite hs₁ hs₁.setPart.advanceBlock)

protected theorem emptyParts {n : Nat} (hs : Kept s₀ s) : Kept s₀ (emptyParts s n) :=
  hs.forEach fun _ _ h => .ite (.advanceBlock (h.forEach fun _ _ h' => .ite h' (.setPart (h'.forEach fun _ _ h'' => h''.dropCleared)))) h

protected theorem closeWindow {n : Nat} (hs : Kept s₀ s) : Kept s₀ (closeWindow s n) := by
  unfold closeWindow
  extract_lets _ _ s₂
  have hs₂ : Kept s₀ s₂ := by
    unfold s₂
    refine .ite ?_ hs.put
    refine .forEach hs.put fun s a h => ?_
    refine .forEach h fun s a' h' => ?_
    refine .ite ?_ h'
    split
    · exact .ite h' h'.dropContribution
    · exact h'.dropContribution
  exact hs₂.advanceBlocks

protected theorem writeMoment {o : OptParams} {enc : List W32 → List Nat × List Nat} {a : Nat} {xs : List W32} (hs : Kept s₀ s) :
    Kept s₀ (writeMoment s o enc a xs) :=
  .ite hs.setBytes.setBytes hs.setBytes

protected theorem applyBlock {e : BlockEntry} {o : OptParams} {etaStep c : W32} {gs : List W32} (hs : Kept s₀ s) :
    Kept s₀ (applyBlock s e o etaStep c gs).1 := by
  unfold applyBlock
  extract_lets _ _ _ _ _ _ _ _ _ _ _ _ s₃
  have hs₃ : Kept s₀ s₃ := hs.setBytes.setBytes.writeMoment
  split
  · exact .fst hs
  · exact .fst (.ite hs₃.writeMoment.setBytes hs₃)

protected theorem blockApply {e : BlockEntry} (hs : Kept s₀ s) : Kept s₀ (blockApply s e) := by
  unfold blockApply
  extract_lets
  split
  · exact hs
  · extract_lets _ _ s₁ s₂
    have hs₁ : Kept s₀ s₁ := hs.applyBlock.putRecord
    have hs₂ : Kept s₀ s₂ := .ite hs₁ hs₁.bump.rauFlag
    exact .ite hs (.ite hs.putRecord.setBlk (.ite hs (.ite hs.putRecord.setBlk hs₂.setBlk)))

protected theorem acceptGrad {m : GradMsg} (hs : Kept s₀ s) : Kept s₀ (acceptGrad s m) := by
  unfold acceptGrad
  split
  · exact hs.bump
  · extract_lets s₁ _ s₂
    have hs₁ : Kept s₀ s₁ := hs.bump
    have hs₂ : Kept s₀ s₂ := hs₁.putGrad
    exact .ite hs₁ (.ite hs₁.setBlk hs₂.setBlk)

protected theorem sendDigests {e : BlockEntry} {n : Nat} (hs : Kept s₀ s) : Kept s₀ (sendDigests s e n) :=
  hs.setBlk.forEach fun _ _ h => h.rauSend

protected theorem settleReports {e : BlockEntry} {n : Nat} {ds : List Nat} (hs : Kept s₀ s) : Kept s₀ (settleReports s e n ds) :=
  hs.setBlk

protected theorem updateRauStep {die : Nat} (hs : Kept s₀ s) : Kept s₀ (updateRauStep s die) := by
  unfold updateRauStep
  split
  · exact hs
  · extract_lets
    exact .ite hs.wf hs

protected theorem agree {e : BlockEntry} {n : Nat} {ds : List Nat} (hs : Kept s₀ s) : Kept s₀ (agree s e n ds) := by
  unfold agree
  extract_lets _ _ s₂
  have hs₂ : Kept s₀ s₂ := hs.setBlk.updateRauStep
  exact .ite hs₂.setBytes.put hs₂

protected theorem lastDiv {e : BlockEntry} {n outcome k : Nat} (hs : Kept s₀ s) : Kept s₀ (lastDiv s e n outcome k) := hs.setReg

protected theorem blockLost {e : BlockEntry} {n : Nat} (hs : Kept s₀ s) : Kept s₀ (blockLost s e n) := by
  unfold blockLost
  extract_lets _ _ _ _ _ s₄
  have hs₄ : Kept s₀ s₄ := hs.bump.rauFlag.lastDiv.setBlk.put.setParamBits
  exact .ite hs₄.rollbackRecord hs₄

protected theorem copyBlocks {e : BlockEntry} {bad : List Nat} {copy : List (Nat × List Byte)} (hs : Kept s₀ s) :
    Kept s₀ (copyBlocks s e bad copy) := by
  unfold copyBlocks
  refine .forEach hs fun s a h => ?_
  extract_lets s₁
  have hs₁ : Kept s₀ s₁ := by
    unfold s₁
    split
    · exact h.setBytes
    · exact h
  exact hs₁.bump.rauFlag

protected theorem judgeDigests {e : BlockEntry} {n : Nat} {ds : List (Nat × List Nat)} {copy : List (Nat × List Byte)} (hs : Kept s₀ s) :
    Kept s₀ (judgeDigests s e n ds copy) :=
  .ite hs.agree <| .ite hs.blockLost <|
  .ite (.ite hs.settleReports (.ite hs hs.settleReports.copyBlocks.lastDiv.sendDigests)) hs.bump.rauFlag.lastDiv.settleReports.setBlk

protected theorem compareLoop {e : BlockEntry} {copy : List (Nat × List Byte)} {k : Nat} (hs : Kept s₀ s) :
    Kept s₀ (compareLoop e copy k s) := by
  induction k generalizing s with
  | zero => exact hs
  | succ k ih =>
    unfold compareLoop
    extract_lets
    refine .ite hs ?_
    split
    · exact hs
    · exact .ite (ih hs.judgeDigests) hs.judgeDigests

protected theorem compareDigests {e : BlockEntry} {copy : List (Nat × List Byte)} (hs : Kept s₀ s) : Kept s₀ (compareDigests s e copy) :=
  hs.compareLoop

protected theorem replayStep {e : BlockEntry} {k : Nat} (hs : Kept s₀ s) : Kept s₀ (replayStep e s k) := .ite hs hs.applyBlock

protected theorem blockReplay {e : BlockEntry} {copy : Option (List Byte)} (hs : Kept s₀ s) : Kept s₀ (blockReplay s e copy) := by
  unfold blockReplay
  extract_lets _ n own finish
  have h_finish : ∀ s, Kept s₀ s → Kept s₀ (finish s) := fun _ h => h.setBlk.sendDigests
  have h_own : ∀ s', own = some s' → Kept s₀ s' := by
    intro s' h
    unfold own at h
    split at h
    · extract_lets at h
      split at h
      · cases h; exact hs.setBytes.forEach fun _ _ h => h.replayStep
      · cases h
    · cases h
  clear_value own
  refine .ite hs ?_
  split
  · exact h_finish _ (h_own _ rfl)
  · exact h_finish _ hs.setBytes.lastDiv
  · exact hs.blockLost

protected theorem sendParams {e : BlockEntry} {n : Nat} (hs : Kept s₀ s) : Kept s₀ (sendParams s e n) := by
  unfold sendParams
  extract_lets _ s₁
  have hs₁ : Kept s₀ s₁ := .ite hs hs.recordAmax
  exact hs₁.forEach fun _ _ h => h.forEach fun _ _ h' => h'.rauSend

protected theorem allGather {e : BlockEntry} (hs : Kept s₀ s) : Kept s₀ (allGather s e) := by
  unfold allGather
  refine .ite hs ?_
  refine .ite (.ite hs hs.put.sendParams) ?_
  split
  · exact hs
  · exact .ite hs (.ite hs.setBlk (.ite hs hs.sendParams.setBlk))

protected theorem promoteBlock {e : BlockEntry} {lostAt : Nat} (hs : Kept s₀ s) : Kept s₀ (promoteBlock s e lostAt) := by
  unfold promoteBlock
  extract_lets _ _ _ _ s₂
  have hs₂ : Kept s₀ s₂ := hs.setBlk.forEach fun _ _ h => .ite (h.forEach fun _ _ h' => h'.rauSend) (h.forEach fun _ _ h' => h'.sendGrads)
  exact hs₂.forEach fun _ _ h => h.skipBlock

protected theorem promoteBlocks {d lostAt : Nat} (hs : Kept s₀ s) : Kept s₀ (promoteBlocks s d lostAt) :=
  hs.forEach fun _ _ h => .ite h.promoteBlock h

protected theorem clearPairs {die : Nat} (hs : Kept s₀ s) : Kept s₀ (clearPairs s die) := by
  unfold clearPairs
  exact .put (hs.forEach fun _ _ h => h.setRed)

protected theorem restartPairs {die : Nat} (hs : Kept s₀ s) : Kept s₀ (restartPairs s die) := by
  unfold restartPairs
  extract_lets s₁ _ _ s₂
  have hs₁ : Kept s₀ s₁ := by
    unfold s₁
    refine .forEach hs fun s a h => ?_
    extract_lets _ _ s₃
    have hs₃ : Kept s₀ s₃ := h.forEach fun _ _ h' => h'.dropCleared
    refine .ite h ?_
    split
    · exact hs₃.skipBlock.setRed
    · exact h.sendPart.setRed
  have hs₂ : Kept s₀ s₂ := by
    unfold s₂
    refine .forEach hs₁.put fun s a h => ?_
    split
    · extract_lets s₃
      have hs₃ : Kept s₀ s₃ := h.forEach fun _ _ h' => h'.dropCleared
      exact .ite h hs₃.put.skipBlock
    · exact h
  exact hs₂.advanceBlocks

protected theorem rewindBlocks {n : Nat} (hs : Kept s₀ s) : Kept s₀ (rewindBlocks s n) := by
  unfold rewindBlocks
  exact hs.put

/-! ## Parameter blocks arriving: where they go, when they may be placed, and the parameter bits -/

protected theorem putParam {m : ParamMsg} {n dest frond addr : Nat} (hs : Kept s₀ s) : Kept s₀ (putParam s m n dest frond addr) := by
  unfold putParam
  extract_lets e arrival store mem
  have h_store : ∀ s a bs, Kept s₀ s → Kept s₀ (store s a bs) := fun _ _ _ h => h.setBytes.cntAdd
  have h_mem : ∀ s a bs, Kept s₀ s → Kept s₀ (mem s a bs) := fun _ _ _ h => .ite h.violation (h.getD fun _ ht => h.devWrite ht)
  have h_arrival : ∀ s put a, (∀ s a bs, Kept s₀ s → Kept s₀ (put s a bs)) → Kept s₀ s → Kept s₀ (arrival s put a) :=
    fun _ _ _ hput h => .ite (hput _ _ _ (hput _ _ _ h)) (hput _ _ _ h)
  split
  · exact h_store _ _ _ hs
  · exact h_arrival _ _ _ h_store hs
  · exact h_arrival _ _ _ h_mem (h_mem _ _ _ hs)

protected theorem placeParam {m : ParamMsg} {n : Nat} (hs : Kept s₀ s) : Kept s₀ (placeParam s m n) := by
  unfold placeParam
  extract_lets _ s₁
  have hs₁ : Kept s₀ s₁ := hs.forEach fun _ _ h => h.putParam
  exact .ite hs₁.put.setParamBits hs₁.put

protected theorem acceptParam {m : ParamMsg} (hs : Kept s₀ s) : Kept s₀ (acceptParam s m) := by
  unfold acceptParam
  split
  · exact hs.bump
  · extract_lets s₁
    have hs₁ : Kept s₀ s₁ := hs.bump
    exact .ite (.ite hs₁.bump hs₁) (.ite hs₁.placeParam hs₁.put)

protected theorem pumpParams (hs : Kept s₀ s) : Kept s₀ (pumpParams s) := by
  unfold pumpParams
  refine .ite hs ?_
  refine .forEach hs.put fun s a h => ?_
  split
  · exact h.placeParam
  · exact h

/-! ## Rebuilding rows and parity slots, degraded reads, lost rows -/

protected theorem modRebuild {subject : Nat} {key : SlotKey} {parity : Bool} {f : Rebuild → Rebuild} (hs : Kept s₀ s) :
    Kept s₀ (modRebuild s subject key parity f) := by
  unfold modRebuild
  exact hs.put

protected theorem askPiece {a : PieceAsk} (hs : Kept s₀ s) : Kept s₀ (askPiece s a) := hs.sendMsg

protected theorem addForward {f : Forward} (hs : Kept s₀ s) : Kept s₀ (addForward s f) := .ite hs hs.put

protected theorem loseRows {own : Nat} {key : SlotKey} {stride count : Nat} (hs : Kept s₀ s) :
    Kept s₀ (loseRows s own key stride count) :=
  .ite hs hs.put.rollbackRecord

protected theorem loseRow {own : Nat} {key : SlotKey} (hs : Kept s₀ s) : Kept s₀ (loseRow s own key) := by
  unfold loseRow
  split
  · exact hs
  · refine .ite hs.loseRows ?_
    split
    · exact hs.sendMsg
    · exact hs

protected theorem startRebuild {subject : Nat} {key : SlotKey} {demand : Bool} (hs : Kept s₀ s) :
    Kept s₀ (startRebuild s subject key demand) := by
  unfold startRebuild
  extract_lets
  split
  · exact .ite hs.modRebuild hs
  · refine .ite hs ?_
    split
    · extract_lets
      exact hs.put.askPiece
    · exact hs.loseRow

protected theorem startParityRebuild {holder table : Nat} {rem : Bool} {q : Nat} (hs : Kept s₀ s) :
    Kept s₀ (startParityRebuild s holder table rem q) := by
  unfold startParityRebuild
  extract_lets
  split
  · exact hs
  · split
    · exact hs
    · extract_lets
      exact .ite hs (hs.put.forEach fun _ _ h => h.askPiece)

protected theorem startPiece {y : Share} (hs : Kept s₀ s) : Kept s₀ (startPiece s y) := by
  unfold startPiece
  split
  · exact hs
  · extract_lets
    exact .ite hs (.ite hs.startParityRebuild hs.startRebuild)

protected theorem shareLoop {k i n fuel : Nat} {x : Share} (hs : Kept s₀ s) : Kept s₀ (shareLoop k i n fuel s x).1 := by
  induction fuel generalizing s x with
  | zero => exact hs
  | succ fuel ih =>
    unfold shareLoop
    split
    · exact .fst hs
    · extract_lets
      split
      · exact .fst hs.startPiece
      · exact ih hs.startPiece

protected theorem runShare {flood : State → Notice → State} {x : Share} (hs : Kept s₀ s)
    (hflood : ∀ s a, Kept s₀ s → Kept s₀ (flood s a)) : Kept s₀ (runShare flood s x) := by
  unfold runShare
  extract_lets drop
  have h_drop : ∀ s, Kept s₀ s → Kept s₀ (drop s) := fun _ h => h.put
  split
  · exact h_drop _ hs
  · split
    · exact h_drop _ hs
    · extract_lets _ s₁
      have hs₁ : Kept s₀ s₁ := h_drop _ hs.shareLoop
      split
      · exact hs₁.put
      · exact hflood _ _ hs₁.put

protected theorem degradedRead {own : Nat} {d : List Byte} {rem : Bool} {l : Nat} (hs : Kept s₀ s) :
    Kept s₀ (degradedRead s own d rem l) := by
  unfold degradedRead
  extract_lets
  split
  · exact hs
  · extract_lets _ _ s₁
    have hs₁ : Kept s₀ s₁ := .ite hs hs.bump
    refine .ite hs₁.startRebuild ?_
    split
    · exact hs₁
    · exact hs₁.put.askPiece

protected theorem startRewrite {own : Nat} {key : SlotKey} {bs : List Byte} (hs : Kept s₀ s) : Kept s₀ (startRewrite s own key bs) := by
  unfold startRewrite
  extract_lets
  split
  · exact hs
  · extract_lets
    exact hs.put.addForward.forEach fun _ _ h => h.askPiece

end Sys2Proof.Laws.Kept
end

section
/-! SUPPORT. What the operations of tiered memory, the stacks and row reads keep: one lemma for each operation, that cites those of the operations it is made of. -/

namespace Sys2Proof.Laws.Kept

-- Thousands of short proofs elaborated at once ask for more threads than Lean's memory limit holds.
set_option Elab.async false

open Sys2Proof.Machine

variable {s₀ s t : State}

/-! ## The migration protocol of the tier manager -/

protected theorem startMig {k : MigKind} {p : Nat} {dst : Place} {first : List Nat} (hs : Kept s₀ s) :
    Kept s₀ (startMig s k p dst first) :=
  hs.setPte.put.tierPressure

protected theorem copyLines {src dst : Place} {ls : List Nat} (hs : Kept s₀ s) : Kept s₀ (copyLines s src dst ls) :=
  hs.forEach fun _ _ h => h.placeRead.placeWrite

protected theorem dropRequests {p : Nat} (hs : Kept s₀ s) : Kept s₀ (dropRequests s p) := by
  unfold dropRequests
  exact hs.put

protected theorem addDemand {p : Nat} {first : List Nat} (hs : Kept s₀ s) : Kept s₀ (addDemand s p first) := .ite hs hs.put

protected theorem dropDemand {p : Nat} (hs : Kept s₀ s) : Kept s₀ (dropDemand s p) := by
  unfold dropDemand
  exact hs.put

protected theorem endMig {p : Nat} (hs : Kept s₀ s) : Kept s₀ (endMig s p) := hs.put.setPte

protected theorem releaseHeld {ws : List HeldWrite} (hs : Kept s₀ s) : Kept s₀ (releaseHeld s ws) := hs.forEach fun _ _ h => h.retryWrite

protected theorem finishRevokes (hs : Kept s₀ s) : Kept s₀ (finishRevokes s) := by
  unfold finishRevokes
  refine .forEach hs fun s a h => ?_
  extract_lets _ _ s₁
  have hs₁ : Kept s₀ s₁ := h.put (hsources := length_modAt ..)
  refine .ite ?_ h
  split
  · exact hs₁.finOk
  · exact hs₁

protected theorem pagesMoved (hs : Kept s₀ s) : Kept s₀ (pagesMoved s) := hs.finishRevokes.framesFreed

protected theorem abandonMig {m : Migration} (hs : Kept s₀ s) : Kept s₀ (abandonMig s m) :=
  hs.endMig.put.bump.flagEvent.releaseHeld.pagesMoved

protected theorem losePage {p : Nat} (hs : Kept s₀ s) : Kept s₀ (losePage s p) := by
  unfold losePage
  extract_lets lose
  have h_lose : ∀ s, Kept s₀ s → Kept s₀ (lose s) := fun _ h => h.setPte.dropRequests
  split
  · exact .releaseHeld (h_lose _ hs.abandonMig)
  · exact h_lose _ hs

protected theorem losePages {ps : List Nat} (hs : Kept s₀ s) : Kept s₀ (losePages s ps) := by
  unfold losePages
  extract_lets _ _ _ s₄
  have hs₄ : Kept s₀ s₄ := .wf (.wf (.bump (hs.forEach fun _ _ h => h.losePage)))
  exact .ite hs hs₄.evgFireIf.pagesMoved

protected theorem abandonPage {p : Nat} (hs : Kept s₀ s) : Kept s₀ (abandonPage s p) := by
  unfold abandonPage
  split
  · exact hs.abandonMig
  · exact hs

protected theorem loseSource {k : Nat} (hs : Kept s₀ s) : Kept s₀ (loseSource s k) := by
  unfold loseSource
  extract_lets _ s₁ _ cmd _ s₂
  have hs₁ : Kept s₀ s₁ := hs.forEach fun _ _ h => h.abandonPage
  have hs₂ : Kept s₀ s₂ := hs₁.put (hsources := length_modAt ..)
  clear_value cmd
  refine .losePages ?_
  cases cmd with
  | none => exact hs₂
  | some i => exact hs₂.finOk

protected theorem loseGrants (hs : Kept s₀ s) : Kept s₀ (loseGrants s) := by
  unfold loseGrants
  extract_lets s₁
  have hs₁ : Kept s₀ s₁ := hs.forEach fun _ _ h => .ite h.loseSource h
  exact hs₁.put.wf.retryWaits

/-! ## Base dies: their reads and writes of lines -/

protected theorem stkFlag {n : Nat} {f en : Field} (hs : Kept s₀ s) : Kept s₀ (stkFlag s n f en) := hs.flagEvent

protected theorem burst {n : Nat} {write : Bool} {off : Nat} (hs : Kept s₀ s) : Kept s₀ (burst n write s off) := by
  unfold burst
  extract_lets _ _ _ s₁
  have hs₁ : Kept s₀ s₁ := .ite hs hs.bump
  exact .modStack (.ite hs₁.bump hs₁)

protected theorem dramBurst {n : Nat} {write : Bool} {off : Nat} (hs : Kept s₀ s) : Kept s₀ (dramBurst n write s off) :=
  .burst (.ite hs.bump.cntAdd hs.bump.cntAdd)

protected theorem logRepair {n kind a b : Nat} (hs : Kept s₀ s) : Kept s₀ (logRepair s n kind a b) := by
  unfold logRepair
  exact hs.put

protected theorem retireFrame {n f : Nat} (hs : Kept s₀ s) : Kept s₀ (retireFrame s n f) :=
  .ite hs (.ite hs.enterFailed hs.put.logRepair.bump.stkFlag.tierPressure)

protected theorem failRow {n c f : Nat} (hs : Kept s₀ s) : Kept s₀ (failRow s n c f) := .ite hs (.ite hs.retireFrame hs.modStack)

protected theorem useSpare {n c f : Nat} (hs : Kept s₀ s) : Kept s₀ (useSpare s n c f) := by
  unfold useSpare
  extract_lets _ _ _ _ s₂
  have hs₂ : Kept s₀ s₂ := hs.modStack.wf.wf
  exact .ite hs₂.stkFlag hs₂

protected theorem repairDone {n c f : Nat} (hs : Kept s₀ s) : Kept s₀ (repairDone s n c f) :=
  .ite hs (.ite hs.modStack.retireFrame hs.modStack.useSpare.logRepair.bump.stkFlag)

protected theorem errAddr {n off : Nat} {uncorr : Bool} {sym : Option Nat} (hs : Kept s₀ s) : Kept s₀ (errAddr s n off uncorr sym) := by
  unfold errAddr
  split
  · exact hs.wf.wf.wf
  · exact hs.wf.wf

protected theorem setMark {n c pin : Nat} (hs : Kept s₀ s) : Kept s₀ (setMark s n c pin) := hs.wf.wf.wf

protected theorem markPin {n c pin : Nat} (hs : Kept s₀ s) : Kept s₀ (markPin s n c pin) :=
  .ite hs.setMark.logRepair.stkFlag (.ite hs hs.wf.wf.stkFlag)

protected theorem countPin {n c f pin : Nat} (hs : Kept s₀ s) : Kept s₀ (countPin n c f s pin) :=
  .ite hs (.ite hs.modStack.markPin hs.modStack)

protected theorem lineUncorrectable {n off : Nat} (hs : Kept s₀ s) : Kept s₀ (lineUncorrectable s n off) := by
  unfold lineUncorrectable
  extract_lets _ _ _ s₃ s₄
  have hs₃ : Kept s₀ s₃ := hs.bump.cntAdd.errAddr.stkFlag.modStack
  have hs₄ : Kept s₀ s₄ := by
    unfold s₄
    split
    · exact hs₃
    · exact .ite hs₃.losePages hs₃.enterFailed
    · exact hs₃.enterFailed
  exact hs₄.failRow

protected theorem lineCorrected {n off : Nat} {symbols : List Nat} {again : List (Nat × Nat)} (hs : Kept s₀ s) :
    Kept s₀ (lineCorrected s n off symbols again) := by
  unfold lineCorrected
  extract_lets _ _ _ s₃ s₄
  have hs₃ : Kept s₀ s₃ := hs.bump.cntAdd.errAddr.stkFlag.forEach fun _ _ h => h.countPin
  have hs₄ : Kept s₀ s₄ := hs₃.dramBurst.dramBurst
  refine .ite hs₃ ?_
  split
  · exact hs₄
  · exact .ite hs₄.failRow hs₄
  · exact hs₄.lineUncorrectable

protected theorem lineRead {n off : Nat} {e : LineErr} (hs : Kept s₀ s) : Kept s₀ (lineRead s n off e).1 := by
  unfold lineRead
  extract_lets _ _ s₁
  have hs₁ : Kept s₀ s₁ := .ite hs hs.modStack
  split
  · exact .fst hs₁
  · exact .fst hs₁.lineCorrected
  · exact .fst hs₁.lineUncorrectable

protected theorem meetLines {k : Nat} {ls : List Nat} (hs : Kept s₀ s) : Kept s₀ (meetLines s k ls).1 :=
  Kept.forEachFst (.fst hs) fun _ _ h => .fst h.lineRead

protected theorem meetErrors {k off n : Nat} (hs : Kept s₀ s) : Kept s₀ (meetErrors s k off n).1 := hs.meetLines

protected theorem meetAt {a n : Nat} (hs : Kept s₀ s) : Kept s₀ (meetAt s a n) := hs.forEach fun _ _ h => h.meetErrors

protected theorem countRaw {a n : Nat} (hs : Kept s₀ s) : Kept s₀ (countRaw s a n) := hs.bumpStacks.cntAdd

protected theorem rawRead {a n : Nat} (hs : Kept s₀ s) : Kept s₀ (rawRead s a n) := hs.meetAt.countRaw

protected theorem modLink {n : Nat} {up : Bool} {f : D2DLink → D2DLink} (hs : Kept s₀ s) : Kept s₀ (modLink s n up f) := hs.modStack

protected theorem emitFlit {n : Nat} {up : Bool} {f : Flit} (hs : Kept s₀ s) : Kept s₀ (emitFlit s n up f) := hs.emit

protected theorem flitPump {n k : Nat} {up : Bool} (hs : Kept s₀ s) : Kept s₀ (flitPump n up k s) := by
  induction k generalizing s with
  | zero => exact hs
  | succ k ih =>
    unfold flitPump
    extract_lets
    split
    · exact hs
    · exact .ite hs (ih hs.modLink.emitFlit)

protected theorem sendFlits {n : Nat} {up : Bool} {fs : List Flit} (hs : Kept s₀ s) : Kept s₀ (sendFlits s n up fs) := hs.modLink.flitPump

protected theorem startRetrain {n : Nat} (hs : Kept s₀ s) : Kept s₀ (startRetrain s n) := hs.wf.wf.bump.emit.stkFlag

protected theorem refuseFlit {n : Nat} {up : Bool} (hs : Kept s₀ s) : Kept s₀ (refuseFlit s n up) := by
  unfold refuseFlit
  extract_lets _ s₁
  have hs₁ : Kept s₀ s₁ := hs.modLink.emitFlit
  exact .ite hs₁.modLink.startRetrain hs₁

protected theorem acceptFlit {n : Nat} {up : Bool} (hs : Kept s₀ s) : Kept s₀ (acceptFlit s n up) := by
  unfold acceptFlit
  extract_lets _ _ _ s₂
  have hs₂ : Kept s₀ s₂ := .modLink (.ite hs.bump.stkFlag hs)
  exact .ite hs₂.emitFlit hs₂

protected theorem reply {n lines : Nat} {r : D2DReply} (hs : Kept s₀ s) : Kept s₀ (reply s n lines r) := hs.emit.sendFlits

protected theorem txBurst {n : Nat} {t : StackTx} {i : Nat} (hs : Kept s₀ s) : Kept s₀ (txBurst n t s i) := by
  unfold txBurst
  extract_lets narrow
  have h_narrow : ∀ s, Kept s₀ s → Kept s₀ (narrow s) := fun _ h => h.bump
  split
  · exact h_narrow _ hs.dramBurst
  · exact hs.dramBurst
  · exact h_narrow _ (.dramBurst (.ite hs (h_narrow _ hs.dramBurst)))
  · exact hs.dramBurst
  · exact hs

protected theorem readLines {n off : Nat} {errs : List LineErr} (hs : Kept s₀ s) : Kept s₀ (readLines n off errs s).1 :=
  Kept.forEachFst (.fst hs) fun _ _ h => .fst h.lineRead

protected theorem finishTx {n : Nat} {x : StackTx} (hs : Kept s₀ s) : Kept s₀ (finishTx s n x) := by
  unfold finishTx
  split
  · refine .ite hs.reply ?_
    split
    · next heq => exact (hs.lineRead.of_fst heq).reply
    · next heq => exact (hs.lineRead.of_fst heq).reply
  · refine .ite hs.reply ?_
    split
    · next heq => exact (hs.readLines.of_fst heq).reply
    · next heq => exact (hs.readLines.of_fst heq).reply
  · refine .ite hs.reply (.ite hs.hbmSet.reply ?_)
    split
    · next heq => exact (hs.lineRead.of_fst heq).hbmSet.reply
    · next heq => exact (hs.lineRead.of_fst heq).reply
  · exact .ite hs.reply hs.hbmSet.reply
  · exact hs.emit

protected theorem runTx {n : Nat} {t : StackTx} (hs : Kept s₀ s) : Kept s₀ (runTx s n t) :=
  .finishTx (hs.forEach fun _ _ h => h.txBurst)

protected theorem queueTx {n : Nat} {q : QueuedTx} (hs : Kept s₀ s) : Kept s₀ (queueTx s n q) := .ite hs.modStack.put hs.modStack

protected theorem takeTx {n : Nat} {t : StackTx} (hs : Kept s₀ s) : Kept s₀ (takeTx s n t) := by
  unfold takeTx
  extract_lets _ _ s₁
  have hs₁ : Kept s₀ s₁ := .ite hs.sendFlits hs
  exact .ite hs₁.runTx hs₁.queueTx

protected theorem issueWaiting {n : Nat} (hs : Kept s₀ s) : Kept s₀ (issueWaiting n s) :=
  hs.modStack.forEach fun _ _ h => .queueTx (.ite h.sendFlits h)

protected theorem completeTx {n place : Nat} (hs : Kept s₀ s) : Kept s₀ (completeTx s n place) := by
  unfold completeTx
  split
  · exact hs
  · exact hs.modStack.finishTx

protected theorem serveChannel {n c : Nat} (hs : Kept s₀ s) : Kept s₀ (serveChannel n s c) := by
  unfold serveChannel
  split
  · exact hs
  · split
    · exact hs
    · extract_lets _ s₁
      have hs₁ : Kept s₀ s₁ := hs.modStack.txBurst
      exact .ite hs₁.completeTx hs₁

protected theorem serveBare {n : Nat} (hs : Kept s₀ s) : Kept s₀ (serveBare n s) := by
  unfold serveBare
  split
  · exact .ite hs.completeTx hs
  · exact hs

protected theorem serveRounds {n k : Nat} (hs : Kept s₀ s) : Kept s₀ (serveRounds n k s) := by
  induction k generalizing s with
  | zero => exact hs
  | succ k ih => exact .ite (ih (hs.serveBare.forEach fun _ _ h => h.serveChannel)) hs

protected theorem serveAll {n : Nat} (hs : Kept s₀ s) : Kept s₀ (serveAll s n) := hs.serveRounds

protected theorem completeAccepted {n : Nat} (hs : Kept s₀ s) : Kept s₀ (completeAccepted s n) :=
  hs.serveAll.modStack.forEach fun _ _ h => h.runTx

protected theorem pumpTx {n : Nat} (hs : Kept s₀ s) : Kept s₀ (pumpTx s n) := .ite hs hs.issueWaiting.serveAll

protected theorem takeControlFlit {n : Nat} {up nak : Bool} {seq : Nat} (hs : Kept s₀ s) : Kept s₀ (takeControlFlit s n up nak seq) := by
  unfold takeControlFlit
  extract_lets
  split
  · exact hs
  · extract_lets
    exact .ite (hs.modLink.forEach fun _ _ h => h.emitFlit) hs.modLink.flitPump.pumpTx

protected theorem takeFlit {n : Nat} {up : Bool} {bytes : List Byte} (hs : Kept s₀ s) : Kept s₀ (takeFlit s n up bytes) := by
  unfold takeFlit
  refine .ite hs ?_
  split
  · exact .ite hs hs.refuseFlit
  · exact .ite hs (.ite (.ite hs.takeControlFlit hs) (.ite hs hs.acceptFlit))

protected theorem resendFlits {n : Nat} {up : Bool} (hs : Kept s₀ s) : Kept s₀ (resendFlits n s up) :=
  .flitPump (hs.forEach fun _ _ h => h.emitFlit)

protected theorem mapOut {n : Nat} {up : Bool} {fs : List Nat} (hs : Kept s₀ s) : Kept s₀ (mapOut s n up fs) := hs.modLink

protected theorem retrainEnd {n : Nat} {good : Bool} {down up : List Nat} (hs : Kept s₀ s) : Kept s₀ (retrainEnd s n good down up) := by
  unfold retrainEnd
  extract_lets _ s₂ s₃
  have hs₂ : Kept s₀ s₂ := hs.mapOut.mapOut.wf.wf
  have hs₃ : Kept s₀ s₃ := .ite hs₂.wf.wf hs₂
  exact .ite hs (.ite hs₃.modStack.resendFlits.resendFlits (.ite hs.modStack.wf.modStack.enterFailed hs.modStack.startRetrain))

protected theorem applyRepair {n : Nat} {e : Nat × Nat × Nat × Nat} (hs : Kept s₀ s) : Kept s₀ (applyRepair n s e) := by
  unfold applyRepair
  refine .ite hs ?_
  split
  · exact hs.useSpare
  · exact hs.setMark
  · exact .ite hs hs.put

protected theorem initDone {n : Nat} (hs : Kept s₀ s) : Kept s₀ (initDone s n) := .wf (.wf (hs.forEach fun _ _ h => h.applyRepair))

protected theorem scrubLine {n : Nat} {e : LineErr} (hs : Kept s₀ s) : Kept s₀ (scrubLine s n e) := by
  unfold scrubLine
  extract_lets _ _ s₁
  have hs₁ : Kept s₀ s₁ := hs.dramBurst.lineRead
  exact .ite hs (.ite hs.modStack (.ite hs₁.modStack hs₁.modStack.bump))

/-! ## Writes of the tiered range by the host's window and by peers, and reads of memory by them: answered, or held until their places serve them and their rows are rebuilt -/

protected theorem commitWrite {a : Nat} {bs : List Byte} (hs : Kept s₀ s) : Kept s₀ (commitWrite s a bs) := by
  unfold commitWrite
  extract_lets meet
  have h_meet : ∀ s c, Kept s₀ s → Kept s₀ (meet s c) := by
    intro s c h
    unfold meet
    split
    · extract_lets
      exact .ite h (h.forEach fun _ _ h' => h'.meetAt)
    · exact h
  exact .tierCommit (.ite hs (hs.forEach h_meet))

protected theorem pumpCommits (hs : Kept s₀ s) : Kept s₀ (pumpCommits s) := hs.put.forEach fun _ _ h => h.commitWrite

protected theorem askPieceRow {c : Option RowAt × Nat × Nat} (hs : Kept s₀ s) : Kept s₀ (askPieceRow s c) := by
  unfold askPieceRow
  split
  · exact hs.degradedRead
  · exact hs

protected theorem answerRead {w : WaitRead} {bs : List Byte} (hs : Kept s₀ s) : Kept s₀ (answerRead s w bs) := by
  unfold answerRead
  split
  · exact hs.sendMsg
  · exact hs.emit

protected theorem poisonRead {w : WaitRead} (hs : Kept s₀ s) : Kept s₀ (poisonRead s w) := by
  unfold poisonRead
  split
  · exact hs.sendMsg
  · exact hs.emit

protected theorem askTiered {a n : Nat} (hs : Kept s₀ s) : Kept s₀ (askTiered s a n) := hs.forEach fun _ _ h => h.askPieceRow

protected theorem askLocal {a n : Nat} (hs : Kept s₀ s) : Kept s₀ (askLocal s a n) := .ite hs.askTiered hs

protected theorem useLocal {a n : Nat} (hs : Kept s₀ s) : Kept s₀ (useLocal s a n) := .ite hs.readAccess (.ite hs.countRaw hs)

protected theorem localReads {rs : List (Nat × Nat)} (hs : Kept s₀ s) : Kept s₀ (localReads s rs).1 := by
  unfold localReads
  extract_lets ask s₁
  have h_ask : ∀ s, Kept s₀ s → Kept s₀ (ask s).1 := fun _ h => h.forEach fun _ _ h => h.askLocal
  have hs₁ : Kept s₀ s₁ := hs.forEach fun _ _ h => h.meetAt
  split
  · exact h_ask s hs
  · split
    · exact h_ask s₁ hs₁
    · exact .fst (hs₁.forEach fun _ _ h => h.useLocal)

protected theorem serveTiered {w : WaitRead} (hs : Kept s₀ s) : Kept s₀ (serveTiered s w).1 := by
  unfold serveTiered
  extract_lets _ s₂
  have hs₂ : Kept s₀ s₂ := hs.meetAt.askTiered
  split
  · exact .fst hs
  · split
    · exact .fst hs.meetAt.readAccess.answerRead
    · split
      · exact .fst hs.meetAt.poisonRead
      · split
        · exact .fst hs₂.readAccess.answerRead
        · exact .fst hs₂

protected theorem serveRaw {k : Nat} {w : WaitRead} (hs : Kept s₀ s) : Kept s₀ (serveRaw s k w).1 := by
  unfold serveRaw
  extract_lets _ r
  have hr : Kept s₀ r.1 := hs.countRaw.meetErrors
  split
  · exact .fst hs
  · exact .fst (.ite hr.poisonRead hr.answerRead)

protected theorem serveRead {w : WaitRead} (hs : Kept s₀ s) : Kept s₀ (serveRead s w).1 := by
  unfold serveRead
  split
  · exact hs.serveTiered
  · split
    · exact hs.serveRaw
    · exact .fst hs.poisonRead

protected theorem takeRead {w : WaitRead} (hs : Kept s₀ s) : Kept s₀ (takeRead s w) := .ite hs.serveRead.waitRead hs.serveRead

protected theorem newRead {hdr : Option Hdr} {a n : Nat} (hs : Kept s₀ s) : Kept s₀ (newRead s hdr a n) := hs.takeRead

protected theorem pumpReads (hs : Kept s₀ s) : Kept s₀ (pumpReads s) := hs.put.forEach fun _ _ h => h.takeRead

/-! ## How a row is read by the device that serves it: where its bytes lie, what its read waits for, what it meets and what it counts -/

protected theorem wantRow {own : Nat} {d : List Byte} {rem : Bool} {l k : Nat} (hs : Kept s₀ s) : Kept s₀ (wantRow s own d rem l k) := by
  unfold wantRow
  exact hs.put

protected theorem meetRow {own : Nat} {d : List Byte} {rem : Bool} {l k : Nat} (hs : Kept s₀ s) : Kept s₀ (meetRow s own d rem l k) := by
  unfold meetRow
  split
  · exact hs.meetAt
  · exact hs.forEach fun _ _ h => h.meetAt

protected theorem useRow {own : Nat} {d : List Byte} {rem : Bool} {l k : Nat} (hs : Kept s₀ s) : Kept s₀ (useRow s own d rem l k) := by
  unfold useRow
  extract_lets _ _ count _ _ s₂
  have h_count : ∀ s g, Kept s₀ s → Kept s₀ (count s g) := by
    intro s g h
    unfold count
    split
    · exact h.placeRead
    · exact h
  have hs₂ : Kept s₀ s₂ := .forEach (hs.put.forEach h_count) fun _ _ h => h.touch
  split
  · exact hs₂.countRaw
  · exact hs₂

protected theorem lookRow {own : Nat} {d : List Byte} {rem : Bool} {l : Nat} (hs : Kept s₀ s) : Kept s₀ (lookRow s own d rem l).1 := by
  unfold lookRow
  extract_lets s₁
  have hs₁ : Kept s₀ s₁ := hs.meetRow
  split
  · exact .fst hs.wantRow
  · split
    · exact .fst hs₁.useRow
    · exact .fst hs₁

protected theorem takeRow {own : Nat} {d : List Byte} {rem : Bool} {l : Nat} (hs : Kept s₀ s) : Kept s₀ (takeRow s own d rem l).1 := by
  unfold takeRow
  extract_lets x
  have hx : Kept s₀ x.1 := hs.lookRow
  split
  · exact .fst hx
  · exact .fst (.ite hx hx.degradedRead)

end Sys2Proof.Laws.Kept
end

section
/-! SUPPORT. What the operations of look-ups, sparse updates and steps keep: one lemma for each operation, that cites those of the operations it is made of. -/

namespace Sys2Proof.Laws.Kept

-- Thousands of short proofs elaborated at once ask for more threads than Lean's memory limit holds.
set_option Elab.async false

open Sys2Proof.Machine

variable {s₀ s t : State}

/-! ## The look-up path: batches at the requester, partial pools at the owner, pooled vectors, staging entries -/

protected theorem lkFlag {k : Nat} {f en : Field} {src : Nat} (hs : Kept s₀ s) : Kept s₀ (lkFlag s k f en src) := hs.flagEvent

protected theorem queueMsg {m : Message} (hs : Kept s₀ s) : Kept s₀ (queueMsg s m) := by
  unfold queueMsg
  exact hs.put

protected theorem countSent {n dst : Nat} (hs : Kept s₀ s) : Kept s₀ (countSent s n dst) := by
  unfold countSent
  exact hs.put

protected theorem sendReq {owner : Nat} {m : BagMsg} (hs : Kept s₀ s) : Kept s₀ (sendReq s owner m) := by
  unfold sendReq
  split
  · exact hs
  · exact hs.countSent.sendMsg

protected theorem sendEnds {n : Nat} (hs : Kept s₀ s) : Kept s₀ (sendEnds s n) := .ite hs (hs.forEach fun _ _ h => .ite h h.put.sendMsg)

protected theorem pumpEnds (hs : Kept s₀ s) : Kept s₀ (pumpEnds s) := hs.forEach fun _ _ h => h.sendEnds

protected theorem endStep {n : Nat} (hs : Kept s₀ s) : Kept s₀ (endStep s n) := hs.put.pumpEnds

protected theorem keepLookups (hs : Kept s₀ s) : Kept s₀ (keepLookups s) := by
  unfold keepLookups
  exact hs.put

protected theorem dropLookups (hs : Kept s₀ s) : Kept s₀ (dropLookups s) := hs.put.forEach fun _ _ h => h.endStep

protected theorem writeBatch {b : Batch} (hs : Kept s₀ s) : Kept s₀ (writeBatch s b) := by
  unfold writeBatch
  split
  · extract_lets _ s₁ s₂
    have hs₁ : Kept s₀ s₁ := hs.forEach fun _ _ h => .ite h.setBytes.cntAdd.wf h.setBytes.cntAdd
    have hs₂ : Kept s₀ s₂ := hs₁.bump
    exact hs₂.put
  · exact hs

protected theorem poolParity {p : Nat} (hs : Kept s₀ s) : Kept s₀ (poolParity s p) := by
  unfold poolParity
  extract_lets s₁
  have hs₁ : Kept s₀ s₁ := hs.forEach fun _ _ h => h.setSb
  split
  · exact hs
  · extract_lets s₂ s₃ s₄
    have hs₂ : Kept s₀ s₂ := .ite hs (.ite hs₁.put hs)
    have hs₃ : Kept s₀ s₃ := hs₂.forEach fun _ _ h => h.writeBatch
    have hs₄ : Kept s₀ s₄ := hs₃.forEach fun _ _ h => h.setSb
    exact .ite hs₂ (.ite hs₄.put hs₃)

protected theorem poolProgress (hs : Kept s₀ s) : Kept s₀ (poolProgress s) := hs.poolParity.poolParity

protected theorem admitBatch {n : Nat} {p : PlanEntry} {v : TableVersion} {k : Nat} (hs : Kept s₀ s) :
    Kept s₀ (admitBatch s n p v k) := by
  unfold admitBatch
  extract_lets _ _ _ _ _ _ _ _ _ _ _ _ _ s₄ _ _ _ _ _ _ _ _ _ _ s₈ s₉
  have hs₄ : Kept s₀ s₄ := .ite hs.bump.wf.wf hs.bump.wf.wf.lkFlag
  have hs₈ : Kept s₀ s₈ := .put (.setTable (.bump (.ite hs₄.lkFlag hs₄)))
  have hs₉ : Kept s₀ s₉ := hs₈.forEach fun _ _ h => h.sendReq
  exact .poolProgress (.ite hs₉.put.endStep hs₉)

protected theorem updFlag {k : Nat} {f en : Field} (hs : Kept s₀ s) : Kept s₀ (updFlag s k f en) := hs.flagEvent

protected theorem stageRow {d : List Byte} {own row : Nat} {rem : Bool} {n : Nat} (hs : Kept s₀ s) :
    Kept s₀ (stageRow s d own row rem n) :=
  .ite hs.put (.ite hs.put hs.put.bump.updFlag)

protected theorem askEntry {v : TableVersion} {e : RowEntry} (hs : Kept s₀ s) : Kept s₀ (askEntry s v e) :=
  hs.forEach fun _ _ h => .ite h.degradedRead h

protected theorem upsetCache {us : List CacheUpset} (hs : Kept s₀ s) : Kept s₀ (upsetCache s us) := hs.forEach fun _ _ h => h.modStack

protected theorem meetEntry {v : TableVersion} {e : RowEntry} (hs : Kept s₀ s) : Kept s₀ (meetEntry v s e) := by
  unfold meetEntry
  extract_lets meet
  have h_meet : ∀ s a n, Kept s₀ s → Kept s₀ (meet s a n) := fun _ _ _ h => h.forEach fun _ _ h' => h'.meetLines
  refine .forEach hs fun s a h => ?_
  split
  · exact h_meet _ _ _ h
  · exact h.forEach fun _ _ h' => h_meet _ _ _ h'

protected theorem gatherLine {k n : Nat} {narrow : Bool} {off : Nat} (hs : Kept s₀ s) : Kept s₀ (gatherLine k n narrow s off) := by
  unfold gatherLine
  extract_lets _ _ _ _ _ s₃ s₄
  have hs₃ : Kept s₀ s₃ := .dramBurst (.bump (.ite hs.modStack hs))
  have hs₄ : Kept s₀ s₄ := .ite hs₃.bump hs₃
  split
  · exact .ite hs.bump.cntAdd.modStack hs.bump.cntAdd
  · exact .ite hs₄.modStack hs₄

protected theorem gatherRow {own : Nat} {d : List Byte} {rem : Bool} {l : Nat} (hs : Kept s₀ s) : Kept s₀ (gatherRow s own d rem l) := by
  unfold gatherRow
  extract_lets _ _ line
  have h_line : ∀ n narrow s off, Kept s₀ s → Kept s₀ (line n narrow s off) := fun _ _ _ _ h => h.gatherLine
  split
  · refine .forEach hs.bump fun s a h => ?_
    split
    · exact .touch (h.forEach fun _ _ h' => h_line _ _ _ _ h')
    · exact h
  · split
    · split
      · exact hs.bump.forEach fun _ _ h => h_line _ _ _ _ h
      · exact hs.bump
    · exact hs.bump

protected theorem countAnswered {d n : Nat} (hs : Kept s₀ s) : Kept s₀ (countAnswered s d n) := by
  unfold countAnswered
  exact hs.put

protected theorem refuseReq {m : BagMsg} (hs : Kept s₀ s) : Kept s₀ (refuseReq s m) := hs.bump.wf.evgFireIf.countAnswered.sendMsg

protected theorem answerReq {m : BagMsg} {v : TableVersion} {rows : List (List (List FV))} (hs : Kept s₀ s) :
    Kept s₀ (answerReq s m v rows) := by
  unfold answerReq
  extract_lets _ _ _ s₁ s₂ _ _ _ s₄ _ s₆ _ s₇ _ s₈
  have hs₁ : Kept s₀ s₁ := hs.overflowCodes
  have hs₂ : Kept s₀ s₂ := .ite hs₁.wf hs₁
  have hs₄ : Kept s₀ s₄ := .put (.ite hs₂.lkFlag hs₂)
  have hs₆ : Kept s₀ s₆ := .bump (hs₄.forEach fun _ _ h => h.forEach fun _ _ h' => h'.gatherRow)
  have hs₇ : Kept s₀ s₇ := hs₆.countAnswered.sendMsg
  have hs₈ : Kept s₀ s₈ := hs₇.forEach fun _ _ h => h.forEach fun _ _ h' => h'.stageRow
  exact .ite hs₇ hs₈.put

protected theorem serveReq {m : BagMsg} (hs : Kept s₀ s) : Kept s₀ (serveReq s m).1 := by
  unfold serveReq
  extract_lets
  split
  · exact .fst hs
  · split
    · split
      · exact .fst hs
      · exact .fst hs.refuseReq
    · extract_lets s₁ s₂
      have hs₁ : Kept s₀ s₁ := hs.forEach fun _ _ h => h.meetEntry
      have hs₂ : Kept s₀ s₂ := hs₁.forEach fun _ _ h => h.askEntry
      split
      · exact .fst hs
      · split
        · exact .fst hs₁.answerReq
        · split
          · exact .fst hs₂.answerReq
          · exact .fst hs₂

protected theorem pumpReqs (hs : Kept s₀ s) : Kept s₀ (pumpReqs s) := hs.put.forEach fun _ _ h => .ite h.serveReq.put h.serveReq

protected theorem resumeOnce (hs : Kept s₀ s) : Kept s₀ (resumeOnce s) :=
  .pumpReads (.pumpReqs (.pumpCommits (.retryWaits (hs.forEach fun _ _ h => h.pumpTx))))

protected theorem resumeLoop {k : Nat} (hs : Kept s₀ s) : Kept s₀ (resumeLoop k s) := by
  induction k generalizing s with
  | zero => exact hs
  | succ k ih => exact .ite (ih hs.resumeOnce) hs.resumeOnce

protected theorem resume (hs : Kept s₀ s) : Kept s₀ (resume s) := hs.resumeLoop.pumpRecs

protected theorem acceptReq {m : BagMsg} (hs : Kept s₀ s) : Kept s₀ (acceptReq s m) := .ite hs.serveReq.put hs.serveReq

protected theorem acceptRsp {m : LookupRsp} (hs : Kept s₀ s) : Kept s₀ (acceptRsp s m) := by
  unfold acceptRsp
  extract_lets
  split
  · exact hs
  · extract_lets
    exact .poolProgress (.ite hs.put hs.put.bump.wf.evgFireIf)

protected theorem offerRsp {m : LookupRsp} (hs : Kept s₀ s) : Kept s₀ (offerRsp s m) := .ite hs.queueMsg hs.acceptRsp

/-! ## Commands of the look-up path -/

protected theorem onData {g : State → State} (hs : Kept s₀ s) (hg : ∀ s, Kept s₀ s → Kept s₀ (g s)) : Kept s₀ (onData g s) :=
  .ite hs (hg _ hs)

protected theorem acceptEnd {source step count : Nat} (hs : Kept s₀ s) : Kept s₀ (acceptEnd s source step count) :=
  .ite hs hs.put.pumpReqs

protected theorem retireVersion {x : TableState} (hs : Kept s₀ s) : Kept s₀ (retireVersion s x) := by
  unfold retireVersion
  split
  · exact hs.setTable.finOk
  · exact hs.setTable

/-! ## The sparse update path: gradients at the requester, merging, closing, applying, remainder rows -/

protected theorem countLateUpd {h n : Nat} (hs : Kept s₀ s) : Kept s₀ (countLateUpd s h n) := .ite hs hs.bump.updFlag

protected theorem sendUpdates {b : Batch} {v : TableVersion} {o : Nat} (hs : Kept s₀ s) : Kept s₀ (sendUpdates s b v o) := by
  unfold sendUpdates
  exact .put (hs.overflowCodes.forEach fun _ _ h => .ite h.countLateUpd h.sendMsg)

protected theorem startUpdate {n f k : Nat} (hs : Kept s₀ s) : Kept s₀ (startUpdate s n f k) := by
  unfold startUpdate
  extract_lets _ s₂
  have hs₂ : Kept s₀ s₂ := by
    unfold s₂
    refine .forEach hs.setSb fun s a h => ?_
    split
    · split
      · exact h.sendUpdates
      · exact h
    · exact h
  exact hs₂.setSb

protected theorem modStage {own t v row : Nat} {rem : Bool} {n : Nat} {f : StageEntry → StageEntry} (hs : Kept s₀ s) :
    Kept s₀ (modStage s own t v row rem n f) := by
  unfold modStage
  exact hs.put

protected theorem addTerms {own t v row : Nat} {rem : Bool} {n : Nat} {ts : List W32} (hs : Kept s₀ s) :
    Kept s₀ (addTerms s own t v row rem n ts) :=
  hs.modStage

protected theorem mergeReq {m : BagMsg} {v : TableVersion} {vals : List (List FV × List FV)} (hs : Kept s₀ s) :
    Kept s₀ (mergeReq s m v vals) := by
  unfold mergeReq
  extract_lets _ _ _ _ _ s₁
  have hs₁ : Kept s₀ s₁ := hs.forEach fun _ _ h => h.forEach fun _ _ h' => .ite h'.addTerms.addTerms h'.addTerms
  exact hs₁.bump.forEach fun _ _ h => .ite h.modStage.modStage h.modStage

protected theorem askMerge {m : BagMsg} {v : TableVersion} (hs : Kept s₀ s) : Kept s₀ (askMerge s m v) := by
  unfold askMerge
  extract_lets s₁
  have hs₁ : Kept s₀ s₁ := hs.forEach fun _ _ h => h.meetRow
  exact .ite (hs.forEach fun _ _ h => h.wantRow) (.ite (hs₁.forEach fun _ _ h => h.askEntry) hs₁)

protected theorem useMerge {m : BagMsg} {v : TableVersion} (hs : Kept s₀ s) : Kept s₀ (useMerge s m v) := hs.forEach fun _ _ h => h.useRow

protected theorem acceptUpdate {m : BagMsg} (hs : Kept s₀ s) : Kept s₀ (acceptUpdate s m) := by
  unfold acceptUpdate
  extract_lets
  split
  · exact hs.bump.updFlag
  · split
    · exact hs
    · extract_lets s₁ _ s₂
      have hs₁ : Kept s₀ s₁ := .ite hs hs.askMerge
      have hs₂ : Kept s₀ s₂ := hs₁.put.bump
      refine .ite hs₂.put ?_
      split
      · exact hs₂.useMerge.mergeReq
      · exact hs₁.queueMsg

protected theorem sendRemGrads {n : Nat} (hs : Kept s₀ s) : Kept s₀ (sendRemGrads s n) :=
  hs.forEach fun _ _ h => .ite h.put (h.put.forEach fun _ _ h' => h'.forEach fun _ _ h'' => h''.sendMsg)

protected theorem cancelExpected {p : Expected → Bool} (hs : Kept s₀ s) : Kept s₀ (cancelExpected s p) :=
  hs.put.forEach fun _ _ h => h.countLateUpd

protected theorem updateUpdStep (hs : Kept s₀ s) : Kept s₀ (updateUpdStep s) := .ite hs (hs.forEach fun _ _ h => .ite h h.wf)

protected theorem endSeries (hs : Kept s₀ s) : Kept s₀ (endSeries s) := hs.forEach fun _ _ h => .ite h h.sendSoredium

protected theorem closeStep {n : Nat} (hs : Kept s₀ s) : Kept s₀ (closeStep s n) := by
  unfold closeStep
  extract_lets _ _ s₂
  have hs₂ : Kept s₀ s₂ := .ite hs.put hs.put.sendRemGrads
  exact hs₂.endSeries.updateUpdStep.pumpReqs

protected theorem detMerge {n : Nat} (hs : Kept s₀ s) : Kept s₀ (detMerge s n) := by
  unfold detMerge
  extract_lets _ _ s₁
  have hs₁ : Kept s₀ s₁ := hs.forEach fun _ _ h => h.askMerge
  split
  · exact hs₁
  · extract_lets s₂ _ s₃
    have hs₂ : Kept s₀ s₂ := hs₁.forEach fun _ _ h => h.useMerge.mergeReq
    have hs₃ : Kept s₀ s₃ := hs₂.put
    exact hs₃.sendRemGrads

protected theorem renewCopy {own : Nat} {key : SlotKey} {new : List Byte} (hs : Kept s₀ s) : Kept s₀ (renewCopy s own key new) :=
  .ite hs (.ite hs.put hs.put)

protected theorem commitRow {own t v row : Nat} {rem : Bool} {n : Nat} {d old new : List Byte} (hs : Kept s₀ s) :
    Kept s₀ (commitRow s own t v row rem n d old new) :=
  hs.renewCopy.startCommit

protected theorem finishRow {x : PendEntry} {v : TableVersion} {old : List Byte} (hs : Kept s₀ s) : Kept s₀ (finishRow s x v old) := by
  unfold finishRow
  extract_lets
  split
  · exact hs.bump.cntAdd.updFlag
  · exact hs.commitRow

protected theorem setBp {k : Nat} {on : Bool} (hs : Kept s₀ s) : Kept s₀ (setBp s k on) := .wf (.ite (.ite hs hs.updFlag) hs)

protected theorem placePending {x : PendEntry} (hs : Kept s₀ s) (ht : placePending s x = some t) : Kept s₀ t := by
  unfold placePending at ht
  extract_lets at ht
  split at ht
  · cases ht; exact Kept.bump hs.put
  · split at ht
    · cases ht; exact .bump (.bump hs.put)
    · cases ht

protected theorem demandPages {ps : List (Nat × List Nat)} (hs : Kept s₀ s) : Kept s₀ (demandPages s ps) :=
  hs.forEach fun _ _ h => h.addDemand

protected theorem sendRemRows (hs : Kept s₀ s) : Kept s₀ (sendRemRows s) := by
  unfold sendRemRows
  refine .forEach hs fun s a h => ?_
  extract_lets
  split
  · exact h
  · extract_lets _ _ _ s₁
    have hs₁ : Kept s₀ s₁ := h.forEach fun _ _ h' => .ite h' (h'.forEach fun _ _ h'' => h''.sendMsg)
    exact .ite h hs₁.put

protected theorem rowLeft (hs : Kept s₀ s) : Kept s₀ (rowLeft s) := hs.sendRemRows.endSeries.updateUpdStep.pumpReqs

protected theorem dropStage {x : StageEntry} (hs : Kept s₀ s) : Kept s₀ (dropStage s x) := hs.put.rowLeft

protected theorem applyEntry {x : StageEntry} (hs : Kept s₀ s) : Kept s₀ (applyEntry s x) := by
  unfold applyEntry
  split
  · refine .ite hs.dropStage.bump ?_
    extract_lets
    refine .ite hs.dropStage.bump.cntAdd.updFlag (.ite (.ite hs ?_) ?_)
    · split
      · next heq => exact (hs.takeRow.of_fst heq).finishRow.dropStage
      · next heq => exact hs.takeRow.of_fst heq
    · split
      · next heq => exact (hs.placePending heq).dropStage.demandPages
      · exact hs.setBp
  · exact hs.dropStage

protected theorem dropPending {x : PendEntry} (hs : Kept s₀ s) : Kept s₀ (dropPending s x) := hs.put.rowLeft

protected theorem completePending {x : PendEntry} (hs : Kept s₀ s) : Kept s₀ (completePending s x) := by
  unfold completePending
  split
  · refine .ite hs (.ite hs.dropPending.bump (.ite hs ?_))
    split
    · next heq => exact (hs.takeRow.of_fst heq).finishRow.dropPending
    · next heq => exact hs.takeRow.of_fst heq
  · exact hs.dropPending

protected theorem mergeRem {v : TableVersion} {n : Nat} (hs : Kept s₀ s) : Kept s₀ (mergeRem s v n) := by
  unfold mergeRem
  exact hs.put

protected theorem acceptRemGrad {m : RemGrad} (hs : Kept s₀ s) : Kept s₀ (acceptRemGrad s m) := by
  unfold acceptRemGrad
  split
  · exact hs
  · exact .ite hs (.ite hs.put.mergeRem.sendRemRows hs.put)

protected theorem acceptRemRow {m : RemRow} (hs : Kept s₀ s) : Kept s₀ (acceptRemRow s m) := by
  unfold acceptRemRow
  split
  · exact hs
  · extract_lets copies gone each held s₁ s₂ s₃ seen
    have hs₁ : Kept s₀ s₁ := .ite (hs.forEach fun _ _ h => h.wantRow) (hs.forEach fun _ _ h => h.meetRow)
    have hs₂ : Kept s₀ s₂ := .ite hs₁ (hs₁.forEach fun _ _ h => h.degradedRead)
    have hs₃ : Kept s₀ s₃ := by
      refine hs₂.forEach fun s r h => ?_
      split
      · exact h.useRow.commitRow
      · exact h
    exact .ite hs₂.queueMsg (.pumpReqs (.endSeries hs₃.put))

protected theorem returnSpilled {k j : Nat} (hs : Kept s₀ s) : Kept s₀ (returnSpilled k j s) := by
  induction j generalizing s with
  | zero => exact hs
  | succ j ih =>
    unfold returnSpilled
    split
    · exact hs
    · exact .ite (ih hs.put) hs

/-! ## The step sequencer: lists, completion of ops, settling, the start of a step -/

protected theorem startList {f n : Nat} (hs : Kept s₀ s) : Kept s₀ (startList s f n) := by
  unfold startList
  extract_lets _ _ _ _ _ s₃
  have hs₃ : Kept s₀ s₃ := hs.modFrond.put.wf.wf
  exact .ite hs₃.wf.wf hs₃.wf.wf

protected theorem returnCredit {f : Nat} {o : PlanOp} (hs : Kept s₀ s) : Kept s₀ (returnCredit s f o) := by
  unfold returnCredit
  refine .ite ?_ hs
  split
  · exact hs
  · exact .ite hs.put hs.emit

protected theorem listGoesOn {f : Nat} (hs : Kept s₀ s) : Kept s₀ (listGoesOn s f) := by
  unfold listGoesOn
  extract_lets s₁
  have hs₁ : Kept s₀ s₁ := hs.pumpParams
  refine .ite hs ?_
  split
  · exact hs₁.startList
  · exact hs₁

protected theorem opDone {f g : Nat} {o : PlanOp} (hs : Kept s₀ s) : Kept s₀ (opDone s f g o) := by
  unfold opDone
  extract_lets _ _ _ s₃ _ _ s₅
  have hs₃ : Kept s₀ s₃ := .modFrond (.returnCredit (.ite hs.setSb hs))
  have hs₅ : Kept s₀ s₅ := .listGoesOn (.ite hs₃.wf.wf hs₃)
  exact .ite hs₅.poolProgress hs₅

protected theorem moveDone {f i : Nat} (hs : Kept s₀ s) : Kept s₀ (moveDone s f i) := by
  unfold moveDone
  extract_lets s₁
  have hs₁ : Kept s₀ s₁ := hs.modFrond
  split
  · exact hs₁.opDone
  · exact hs₁

protected theorem movesArrive (hs : Kept s₀ s) : Kept s₀ (movesArrive s) :=
  hs.forEach fun _ _ h => h.forEach fun _ _ h' => .ite h' h'.moveDone

protected theorem acksIn (hs : Kept s₀ s) : Kept s₀ (acksIn s) := hs.movesArrive.pumpRecs

protected theorem moveLeaves {f : Nat} {o : PlanOp} (hs : Kept s₀ s) : Kept s₀ (moveLeaves s f o) := hs.modFrond.movesArrive

protected theorem completeStops {n : Nat} (hs : Kept s₀ s) : Kept s₀ (completeStops s n) := by
  unfold completeStops
  extract_lets _ _ s₁ s₂
  have hs₁ : Kept s₀ s₁ := hs.forEach fun _ _ h => h.finOk
  have hs₂ : Kept s₀ s₂ := by
    unfold s₂
    split
    · exact hs₁.finOk
    · exact hs₁
  exact .ite hs hs₂.put

protected theorem settleSteps {k : Nat} (hs : Kept s₀ s) : Kept s₀ (settleSteps k s) := by
  induction k generalizing s with
  | zero => exact hs
  | succ k ih =>
    unfold settleSteps
    extract_lets
    exact .ite (ih hs.put) (.ite (ih (.completeStops (.cntAdd hs.put))) hs)

protected theorem settle (hs : Kept s₀ s) : Kept s₀ (settle s) := hs.settleSteps

protected theorem reportOps {f : Nat} {ops : List Nat} (hs : Kept s₀ s) : Kept s₀ (reportOps s f ops) := by
  unfold reportOps
  exact hs.put

protected theorem cancelOps {f : Nat} (hs : Kept s₀ s) : Kept s₀ (cancelOps s f) := hs.reportOps.modFrond

protected theorem haltStep (hs : Kept s₀ s) : Kept s₀ (haltStep s) := .dropLookups (hs.forEach fun _ _ h => h.wf.wf.cancelOps.modFrond)

protected theorem installSwaps {n : Nat} (hs : Kept s₀ s) : Kept s₀ (installSwaps s n) := by
  unfold installSwaps
  refine .forEach hs fun s a h => ?_
  split
  · exact .ite h.setTable h
  · exact h

protected theorem beginRun {r : RunSteps} {n : Nat} (hs : Kept s₀ s) : Kept s₀ (beginRun s r n) := by
  unfold beginRun
  extract_lets _ s₁ _ _ s₂
  have hs₁ : Kept s₀ s₁ := hs.rewindBlocks.dropLookups
  have hs₂ : Kept s₀ s₂ := .ite hs hs₁.put
  exact hs₂.put (hfronds := by simp)

protected theorem openWindow {n : Nat} (hs : Kept s₀ s) : Kept s₀ (openWindow s n) := by
  unfold openWindow
  exact hs.setReg.setReg.put

protected theorem scaleStart {n : Nat} (hs : Kept s₀ s) : Kept s₀ (scaleStart s n) := hs.put.wf.publishFirst

protected theorem countDry (hs : Kept s₀ s) : Kept s₀ (countDry s) := hs.bump.evgFireIf

protected theorem startStep {n : Nat} (hs : Kept s₀ s) : Kept s₀ (startStep s n) := by
  unfold startStep
  extract_lets s₁ _ s₂ _ _ s₃ s₄ s₅ s₆ s₇ s₈ _ _ s₉ s₁₀
  have hs₁ : Kept s₀ s₁ := by
    unfold s₁
    refine .pumpParams ?_
    split
    · exact .ite hs.beginRun hs
    · exact hs
  have hs₂ : Kept s₀ s₂ := hs₁.put.latchOpt
  have hs₃ : Kept s₀ s₃ := hs₂.put
  have hs₄ : Kept s₀ s₄ := hs₃.openWindow.scaleStart.installSwaps
  have hs₅ : Kept s₀ s₅ := hs₄.wf
  have hs₆ : Kept s₀ s₆ := .ite hs₅.countDry hs₅
  have hs₇ : Kept s₀ s₇ := .ite hs₆.bump hs₆
  have hs₈ : Kept s₀ s₈ := hs₇.tracePush
  have hs₉ : Kept s₀ s₉ := hs₈.put.keepLookups
  have hs₁₀ : Kept s₀ s₁₀ := .ite hs₉.endStep (hs₉.forEach fun _ _ h => .ite h.modFrond h.startList)
  exact hs₁₀.pumpReqs

/-! ## Checkpoint streams: what a save writes and what a load places -/

protected theorem askRows {rs : List RowRef} (hs : Kept s₀ s) : Kept s₀ (askRows s rs) := hs.forEach fun _ _ h => h.degradedRead

protected theorem placeGlobal {b : List Byte} (hs : Kept s₀ s) : Kept s₀ (placeGlobal s b) := by
  unfold placeGlobal
  extract_lets _ s₁ s₂ s₃ _ _ s₄
  have hs₁ : Kept s₀ s₁ := hs.wf.wf
  have hs₂ : Kept s₀ s₂ := hs₁.wf.wf
  have hs₃ : Kept s₀ s₃ := hs₂.wf
  have hs₄ : Kept s₀ s₄ := .ite hs₃.put hs.loseScale
  exact hs₄.put

protected theorem placeDense {g : CkSeg} {e : BlockEntry} (hs : Kept s₀ s) : Kept s₀ (placeDense s g e) := by
  unfold placeDense
  extract_lets _ _ _ _ _ s₁ s₂
  have hs₁ : Kept s₀ s₁ := by
    unfold s₁
    refine .forEach hs fun s a h => ?_
    split
    · exact h.setBytes.setBytes
    · exact h
  have hs₂ : Kept s₀ s₂ := hs₁.writeMoment
  exact .put (.zeroKeys (.ite hs₂.writeMoment.setBytes hs₂))

protected theorem placeRow {own : Nat} {v : TableVersion} {rem : Bool} {l : Nat} {home : Bool} {bs : List Byte} (hs : Kept s₀ s) :
    Kept s₀ (placeRow s own v rem l home bs) :=
  hs.commitRow

protected theorem placeRows {want : State → Nat → SlotKey → Bool} {g : CkSeg} {roles : List Nat} (hs : Kept s₀ s) :
    Kept s₀ (placeRows want s g roles).1 := by
  unfold placeRows
  extract_lets
  split
  · exact .fst hs
  · extract_lets
    split
    · exact .fst hs
    · refine .forEachFst (.fst hs) fun x i h => ?_
      extract_lets
      split
      · exact .fst h
      · exact .fst (h.forEach fun _ _ h => h.placeRow)

protected theorem loadSegment {x : State × Nat × Nat × Bool} {g : CkSeg} (hs : Kept s₀ x.1) : Kept s₀ (loadSegment x g).1 := by
  unfold loadSegment
  extract_lets s₁
  split
  · split
    · exact .fst hs
    · exact .fst hs.placeGlobal
  · exact .fst (hs.forEach fun _ _ h => h.placeDense)
  · exact hs.placeRows
  · exact hs.placeRows
  · exact .fst hs

protected theorem ckLoadAll {gs : List CkSeg} (hs : Kept s₀ s) : Kept s₀ (ckLoadAll s gs).1 :=
  Kept.forEachFst (f := loadSegment) (.fst hs) fun _ _ h => h.loadSegment

protected theorem ckClear (hs : Kept s₀ s) : Kept s₀ (ckClear s) := by
  unfold ckClear
  extract_lets _ s₁ s₂ _ s₃ s₄ s₅ _ _ s₆
  have hs₁ : Kept s₀ s₁ := hs.put
  have hs₂ : Kept s₀ s₂ := hs₁.forEach fun _ _ h => h.setPte
  have hs₃ : Kept s₀ s₃ := hs₂.zeroKeys.zeroKeys
  have hs₄ : Kept s₀ s₄ := hs₃.zeroKeys
  have hs₅ : Kept s₀ s₅ := hs₄.forEach fun _ _ h => h.zeroKeys
  have hs₆ : Kept s₀ s₆ := hs₅.put
  exact hs₆.loseScale.pagesMoved

protected theorem markRestored {own : Nat} {v : TableVersion} {rem : Bool} {l : Nat} {bs : List Byte} (hs : Kept s₀ s) :
    Kept s₀ (markRestored s own v rem l bs) :=
  .ite hs hs.put.startRewrite

protected theorem restoreRows {g : CkSeg} (hs : Kept s₀ s) : Kept s₀ (restoreRows s g).1 := by
  unfold restoreRows
  extract_lets _ _ y
  have hy : Kept s₀ y.1 := hs.placeRows
  split
  · exact .fst hs
  · extract_lets _ _ s₁
    have hs₁ : Kept s₀ s₁ := .ite hy (hy.forEach fun _ _ h => h.forEach fun _ _ h' => h'.markRestored)
    exact .fst hs₁

protected theorem restoreBlock {g : CkSeg} {e : BlockEntry} (hs : Kept s₀ s) : Kept s₀ (restoreBlock g s e) :=
  hs.placeDense.setBlk.put.clearParamBits

protected theorem restoreSegment {x : State × Nat × Nat} {g : CkSeg} (hs : Kept s₀ x.1) : Kept s₀ (restoreSegment x g).1 := by
  unfold restoreSegment
  extract_lets s₁
  split
  · exact .fst (hs.forEach fun _ _ h => h.restoreBlock)
  · exact hs.restoreRows
  · exact hs.restoreRows
  · exact .fst hs

protected theorem runRestores (hs : Kept s₀ s) : Kept s₀ (runRestores s) := by
  refine hs.forEach fun s c h => ?_
  split
  · exact (Kept.forEachFst (f := restoreSegment) (.fst h) fun _ _ h => h.restoreSegment).ownCommits.finOk
  · exact h

/-! ## The step barrier -/

protected theorem clearBits {n : Nat} {vote : Bool} (hs : Kept s₀ s) : Kept s₀ (clearBits s n vote) := by
  unfold clearBits
  extract_lets _ s₁
  have hs₁ : Kept s₀ s₁ := .ite hs hs.put
  exact hs₁.put (hfronds := by simp)

protected theorem barrierComplete {n : Nat} {r : BarrierRec} (hs : Kept s₀ s) : Kept s₀ (barrierComplete s n r) := by
  unfold barrierComplete
  extract_lets _ _ _ _ _ _ s₂
  have hs₂ : Kept s₀ s₂ := hs.put.forEach fun _ _ h => .ite h.setReg h.setReg.setReg
  exact hs₂.scaleBarrier.clearBits.tracePush.pumpParams.runRestores.pumpReqs.settle

protected theorem barrierSend {n : Nat} {r : BarrierRec} {level : Nat} (hs : Kept s₀ s) : Kept s₀ (barrierSend s n r level) :=
  hs.forEach fun _ _ h => h.rauSend

protected theorem barrierAdvance {k : Nat} (hs : Kept s₀ s) : Kept s₀ (barrierAdvance k s) := by
  induction k generalizing s with
  | zero => exact hs
  | succ k ih =>
    unfold barrierAdvance
    split
    · exact hs
    · extract_lets
      split
      · exact hs
      · exact .ite hs.barrierComplete (ih (.barrierSend hs.put))

protected theorem formRecord (hs : Kept s₀ s) : Kept s₀ (formRecord s) := by
  unfold formRecord
  extract_lets
  split
  · exact hs
  · extract_lets
    exact hs.takeVote.put.scaleLatch.barrierSend.barrierAdvance

protected theorem acceptBarrier {m : BarrierMsg} (hs : Kept s₀ s) : Kept s₀ (acceptBarrier s m) := .ite hs.bump hs.bump.put.barrierAdvance

/-! ## Commands of the counter block and the trace unit -/

protected theorem cntCtlWrite {v : Nat} (hs : Kept s₀ s) : Kept s₀ (cntCtlWrite s v) := by
  unfold cntCtlWrite
  extract_lets _ _ s₂
  have hs₂ : Kept s₀ s₂ := .ite hs.setReg.thaw hs.setReg
  exact .ite (.ite hs₂ (.ite hs₂.traceRestart hs₂.wf)) hs₂.wf

protected theorem freezeNow {tFreeze : Nat} (hs : Kept s₀ s) : Kept s₀ (freezeNow s tFreeze) := by
  unfold freezeNow
  extract_lets _ _ _ _ _ s₂ _ _ s₄ _ _ _ _ _ s₈
  have hs₂ : Kept s₀ s₂ := hs.latch.forEach fun _ _ h => h.setReg
  have hs₄ : Kept s₀ s₄ := .ite hs₂.traceDrain.traceWrite hs₂.traceDrain
  have hs₈ : Kept s₀ s₈ := .flagEvent (.wf (.put (.ite hs₄.traceStop hs₂)))
  exact .ite hs₈.flagEvent hs₈

end Sys2Proof.Laws.Kept
end

section
/-! SUPPORT. What the operations of the array and the element engine keep: one lemma for each operation, that cites those of the operations it is made of. -/

namespace Sys2Proof.Laws.Kept

-- Thousands of short proofs elaborated at once ask for more threads than Lean's memory limit holds.
set_option Elab.async false

open Sys2Proof.Machine

variable {s₀ s t : State}

/-! ## The frond's array: operands, passes, accumulation, slots, drains, and the MOVE engine -/

protected theorem setAccPair {f k r c : Nat} {p : W32 × W32} (hs : Kept s₀ s) : Kept s₀ (setAccPair s f k r c p) := hs.setBytes

protected theorem storePut {f off : Nat} {bs : List Byte} (hs : Kept s₀ s) : Kept s₀ (storePut s f off bs) := hs.setBytes.cntAdd

protected theorem swapWeights {f : Nat} (hs : Kept s₀ s) : Kept s₀ (swapWeights s f) := hs.modFrond

protected theorem loadPass {f : Nat} {d : List Byte} {i : Nat} (hs : Kept s₀ s) : Kept s₀ (loadPass s f d i) := hs.modFrond

protected theorem setSlotFlags {f k : Nat} {sat inf : Bool} (hs : Kept s₀ s) : Kept s₀ (setSlotFlags s f k sat inf) := by
  unfold setSlotFlags
  extract_lets _ s₁
  have hs₁ : Kept s₀ s₁ := .ite hs.flagEvent hs
  exact .ite hs₁.flagEvent hs₁

protected theorem initSlot {f k : Nat} {d : List Byte} (hs : Kept s₀ s) : Kept s₀ (initSlot s f k d) := by
  unfold initSlot
  split
  · exact hs.zeroKeys
  · exact .cntAdd (hs.forEach fun _ _ h => h.setBytes)
  · exact hs

protected theorem addPass {f k : Nat} {d : List Byte} {scale : ℤ} {i : Nat} (hs : Kept s₀ s) : Kept s₀ (addPass s f k d scale i) := by
  unfold addPass
  extract_lets _ _ _ _ s₁ _ _ s₄
  have hs₁ : Kept s₀ s₁ := hs.forEach fun _ _ h => h.setAccPair
  have hs₄ : Kept s₀ s₄ := .modSlot (.setSlotFlags (.ite hs₁.bump hs₁))
  exact hs₄.bump.bump.cntAdd.cntAdd.cntAdd.cntAdd

protected theorem setStall {f v : Nat} (hs : Kept s₀ s) : Kept s₀ (setStall s f v) := hs.wf

protected theorem runPass {f : Nat} (hs : Kept s₀ s) : Kept s₀ (runPass s f) := by
  unfold runPass
  extract_lets
  split
  · exact hs
  · extract_lets
    split
    · exact hs
    · split
      · exact hs
      · extract_lets s₂ _ s₄
        have hs₂ : Kept s₀ s₂ := .ite hs.setStall.initSlot.setSlotState hs.setStall
        have hs₄ : Kept s₀ s₄ := hs₂.swapWeights.addPass.loadPass.modSlot
        exact .ite hs (.ite hs.setStall (.ite hs₄ (.ite hs₄.modFrond.setSlotState.modSlot.opDone hs₄.modFrond.setSlotState)))

protected theorem issueProduct {f : Nat} {o : PlanOp} {how : Nat} (hs : Kept s₀ s) : Kept s₀ (issueProduct s f o how) := by
  unfold issueProduct
  extract_lets _ s₁
  have hs₁ : Kept s₀ s₁ := hs.issueOp
  split
  · exact hs
  · extract_lets _ s₂ s₃ s₄
    have hs₂ : Kept s₀ s₂ := hs₁.modSlot
    have hs₃ : Kept s₀ s₃ := hs₂.modFrond.loadPass
    have hs₄ : Kept s₀ s₄ := hs₃.setStall.wf
    exact .ite hs₄.bump hs₄

protected theorem drainDone {f k : Nat} {o : PlanOp} (hs : Kept s₀ s) : Kept s₀ (drainDone s f k o) := hs.setSlotState.modSlot.opDone

protected theorem drainRowTo {f k r : Nat} {d : List Byte} (hs : Kept s₀ s) (ht : drainRowTo s f k d r = some t) : Kept s₀ t := by
  revert ht
  unfold drainRowTo
  extract_lets
  split
  · rintro ⟨⟩; exact hs.storePut.overflowCodes
  · rintro ⟨⟩; exact hs.storePut
  · rintro ⟨⟩; exact hs.storePut
  · split
    · rintro ⟨⟩; exact hs
    · split
      · rintro ⟨⟩
      · split
        · rintro ⟨⟩
        · rintro ⟨⟩; exact hs.setBytes.cntAdd.modSlot
  · rintro ⟨⟩

protected theorem drainRow {f k : Nat} (hs : Kept s₀ s) : Kept s₀ (drainRow s f k) := by
  unfold drainRow
  extract_lets
  split
  · exact hs
  · refine .ite hs ?_
    split
    · exact hs.setStall
    · rename_i _ s' heq
      extract_lets _ s₂
      have hs₂ : Kept s₀ s₂ := .modSlot ((hs.drainRowTo heq).setSlotState.cntAdd)
      exact .ite hs₂ hs₂.drainDone

protected theorem chainArrived {f g : Nat} (hs : Kept s₀ s) : Kept s₀ (chainArrived s f g) := by
  unfold chainArrived
  split
  · exact hs
  · exact hs.modSlot

protected theorem moveViolations {f : Nat} {o : PlanOp} (hs : Kept s₀ s) : Kept s₀ (moveViolations s f o) :=
  hs.forEach fun _ _ h => h.violation

protected theorem putRows {g : Nat} {rows : List (Nat × List Byte)} (hs : Kept s₀ s) : Kept s₀ (putRows s g rows) :=
  hs.forEach fun _ _ h => .ite h.violation h.storePut

protected theorem sendRows {op : Option (Nat × Nat)} {dst g stride : Nat} {done : Option Nat} {rows : List (Nat × List Byte)}
    (hs : Kept s₀ s) : Kept s₀ (sendRows s op dst g stride done rows) :=
  hs.forEach fun _ _ h => h.sendFrom

protected theorem sendReduce {f : Nat} {o : PlanOp} (hs : Kept s₀ s) : Kept s₀ (sendReduce s f o) := by
  unfold sendReduce
  extract_lets
  split
  · exact hs
  · extract_lets
    refine .ite hs.bump ?_
    split
    · exact hs
    · exact hs.forEach fun _ _ h => h.rauSendFor

protected theorem moveToQueue {f : Nat} {o : PlanOp} (hs : Kept s₀ s) : Kept s₀ (moveToQueue s f o) :=
  .ite hs.put.modFrond hs.put.sendRows.moveLeaves

protected theorem runMove {f : Nat} {o : PlanOp} (hs : Kept s₀ s) : Kept s₀ (runMove s f o) := by
  unfold runMove
  extract_lets _ s₁ s₂
  have hs₁ : Kept s₀ s₁ := hs.moveViolations
  have hs₂ : Kept s₀ s₂ := .ite hs₁ hs₁.cntAdd
  split
  · exact hs₂.putRows.opDone
  · exact hs₂.putRows.opDone
  · exact hs₂.sendRows.moveLeaves
  · exact hs₂.moveToQueue
  · exact hs₂.sendReduce.moveLeaves

protected theorem queueArrive {q : Nat} (hs : Kept s₀ s) : Kept s₀ (queueArrive s q) := by
  unfold queueArrive
  extract_lets
  split
  · exact hs
  · split
    · exact hs
    · extract_lets
      split
      · exact hs
      · extract_lets
        exact hs.putRows.setSb.modFrond.opDone

protected theorem creditArrive {q : Nat} (hs : Kept s₀ s) : Kept s₀ (creditArrive s q) := .ite hs.put hs

protected theorem planStall {f : Nat} (hs : Kept s₀ s) : Kept s₀ (planStall s f) := .ite hs.flagEvent hs

/-! ## Operand forms of the element engines: instruction words -/

protected theorem modEng {f : Nat} {g : Engine → Engine} (hs : Kept s₀ s) : Kept s₀ (modEng s f g) := hs.modFrond

protected theorem modRun {f : Nat} {g : Invocation → Invocation} (hs : Kept s₀ s) : Kept s₀ (modRun s f g) := hs.modEng

protected theorem setSreg {f i : Nat} {v : W32} (hs : Kept s₀ s) : Kept s₀ (setSreg s f i v) := hs.modEng

protected theorem setVreg {f r : Nat} {vs : List W32} (hs : Kept s₀ s) : Kept s₀ (setVreg s f r vs) := hs.modEng

/-! ## The element engine: invocations, lanes, regions, conversions, row reductions, completion -/

protected theorem regionPut {f : Nat} {x : Invocation} {r row p c : Nat} (hs : Kept s₀ s) : Kept s₀ (regionPut s f x r row p c) :=
  .ite hs.setBytes hs.setBytes

protected theorem eeFlags {f : Nat} {c : CvtFlags} (hs : Kept s₀ s) : Kept s₀ (eeFlags s f c) := by
  unfold eeFlags
  extract_lets _ _ s₁ s₂
  have hs₁ : Kept s₀ s₁ := .ite hs.flagEvent hs
  have hs₂ : Kept s₀ s₂ := .ite hs₁.flagEvent hs₁
  exact .ite hs₂.flagEvent hs₂

protected theorem recordProduce {f : Nat} {x : Invocation} {tensor : Option Nat} {vs : List W32} (hs : Kept s₀ s) :
    Kept s₀ (recordProduce s f x tensor vs) := by
  unfold recordProduce
  split
  · exact hs
  · exact .ite hs (.ite hs.modRun (.ite hs hs.recordAmax))

protected theorem storeBlock {f : Nat} {x : Invocation} {r : Nat} {rnd : Nat → Nat → Rnd} {k : ℤ} {scale : List W32}
    {b : List StoreElem} (hs : Kept s₀ s) : Kept s₀ (storeBlock f x r rnd k scale s b) := by
  unfold storeBlock
  extract_lets _ _ _ sf _ _ s₂
  have hsf : Kept s₀ sf.2 := by
    unfold sf
    split
    · exact .snd hs
    · split
      · exact hs.takeFree
      · exact .snd hs
  have hs₂ : Kept s₀ s₂ := .setBytes (hsf.forEach fun _ _ h => .ite h.regionPut h)
  exact .ite hs hs₂.eeFlags

protected theorem regionStore {f : Nat} {x : Invocation} {r rnd : Nat} {scale : List W32} {es : List StoreElem} (hs : Kept s₀ s) :
    Kept s₀ (regionStore s f x r rnd scale es) := by
  unfold regionStore
  extract_lets _ _ _ _ _ s₁
  have hs₁ : Kept s₀ s₁ := hs.recordProduce
  refine .ite hs₁ ?_
  refine .ite (hs₁.cntAdd.foldl fun _ _ h => h.storeBlock) ?_
  refine .foldl hs₁.cntAdd fun s a h => ?_
  refine .ite h ?_
  split
  · exact h.regionPut
  · extract_lets _ s₃
    have hs₃ : Kept s₀ s₃ := h.regionPut.eeFlags
    exact .ite h.regionPut (.ite h.regionPut (.ite hs₃.overflowCodes hs₃))

protected theorem writeLanesBut {f : Nat} {x : Invocation} {i : EInstr} {skip : Nat → Bool} {res : Nat → W32 × CvtFlags}
    (hs : Kept s₀ s) : Kept s₀ (writeLanesBut s f x i skip res) := by
  unfold writeLanesBut
  exact hs.setVreg.eeFlags

protected theorem writeLanes {f : Nat} {x : Invocation} {i : EInstr} {res : Nat → W32 × CvtFlags} (hs : Kept s₀ s) :
    Kept s₀ (writeLanes s f x i res) :=
  hs.writeLanesBut

protected theorem unary {g : W32 → W32 × CvtFlags} {i : EInstr} {f : Nat} {x : Invocation} (hs : Kept s₀ s) : Kept s₀ (unary g i f x s) :=
  hs.writeLanes

protected theorem binary {g : W32 → W32 → W32 × CvtFlags} {i : EInstr} {f : Nat} {x : Invocation} (hs : Kept s₀ s) :
    Kept s₀ (binary g i f x s) :=
  hs.writeLanes

protected theorem ternary {g : W32 → W32 → W32 → W32 × CvtFlags} {i : EInstr} {f : Nat} {x : Invocation} (hs : Kept s₀ s) :
    Kept s₀ (ternary g i f x s) :=
  hs.writeLanes

protected theorem cvtPlain {f : Nat} {x : Invocation} {i : EInstr} (hs : Kept s₀ s) : Kept s₀ (cvtPlain s f x i) := by
  unfold cvtPlain
  extract_lets _ _ _ _ _ _ s₁
  have hs₁ : Kept s₀ s₁ := hs.writeLanes.recordProduce
  exact .ite hs₁.overflowCodes hs₁

protected theorem cvtBlock {f : Nat} {x : Invocation} {i : EInstr} (hs : Kept s₀ s) : Kept s₀ (cvtBlock s f x i) := by
  unfold cvtBlock
  exact hs.writeLanesBut

protected theorem loadLanes {f : Nat} {x : Invocation} {i : EInstr} (hs : Kept s₀ s) : Kept s₀ (loadLanes s f x i) := hs.cntAdd.writeLanes

protected theorem storeLanes {f : Nat} {x : Invocation} {i : EInstr} (hs : Kept s₀ s) : Kept s₀ (storeLanes s f x i) := hs.regionStore

protected theorem rowFlag {f b : Nat} (hs : Kept s₀ s) : Kept s₀ (rowFlag s f b) := hs.modRun

protected theorem rowSticky {f : Nat} {fl : Field} (hs : Kept s₀ s) : Kept s₀ (rowSticky s f fl) := hs.flagEvent

protected theorem countRow {f b r : Nat} (hs : Kept s₀ s) : Kept s₀ (countRow s f b r) := .rowFlag (.ite hs hs.bump)

protected theorem emptyRow {f : Nat} (hs : Kept s₀ s) : Kept s₀ (emptyRow s f) := hs.countRow.rowSticky

protected theorem nanRow {f : Nat} (hs : Kept s₀ s) : Kept s₀ (nanRow s f) := hs.countRow.rowSticky

protected theorem writeRow {f : Nat} {x : Invocation} {r rnd : Nat} {scale : W32} {vs : List (W32 × Nat)} (hs : Kept s₀ s) :
    Kept s₀ (writeRow s f x r rnd scale vs) :=
  hs.regionStore

protected theorem softmaxRow {f : Nat} {x : Invocation} {i : EInstr} (hs : Kept s₀ s) : Kept s₀ (softmaxRow s f x i) := by
  unfold softmaxRow
  extract_lets _ _ _ _ s₂
  have hs₂ : Kept s₀ s₂ := by
    unfold s₂
    refine .ite hs.eeFlags ?_
    split
    · exact hs.eeFlags.nanRow
    · exact hs.eeFlags.emptyRow
    · exact hs.eeFlags.rowFlag
    · exact hs.eeFlags
  exact hs₂.writeRow

protected theorem lnormRow {f : Nat} {x : Invocation} {i : EInstr} (hs : Kept s₀ s) : Kept s₀ (lnormRow s f x i) := by
  unfold lnormRow
  extract_lets _ _ _ _ _ _ _ _ _ s₂
  have hs₂ : Kept s₀ s₂ := by
    unfold s₂
    refine .ite hs.eeFlags ?_
    split
    · exact hs.eeFlags.nanRow
    · exact hs.eeFlags.emptyRow
    · exact hs.eeFlags
  exact hs₂.writeRow

protected theorem clearLanes {f : Nat} (hs : Kept s₀ s) : Kept s₀ (clearLanes s f) := by
  unfold clearLanes
  split
  · exact hs
  · extract_lets _ s₁
    have hs₁ : Kept s₀ s₁ := .ite hs hs.cntAdd
    exact hs₁.modEng

protected theorem beginRow {f : Nat} (hs : Kept s₀ s) : Kept s₀ (beginRow s f) := by
  unfold beginRow
  extract_lets _ s₂ s₃
  have hs₂ : Kept s₀ s₂ := hs.modRun.rowFlag
  have hs₃ : Kept s₀ s₃ := by
    unfold s₃
    split
    · exact hs.modRun
    · exact .ite (.ite hs₂ hs₂.bump.rowSticky) hs.modRun
  exact hs₃.clearLanes

protected theorem startInvocation {f : Nat} {row : Bool} (hs : Kept s₀ s) : Kept s₀ (startInvocation s f row) := by
  unfold startInvocation
  extract_lets
  refine .ite hs ?_
  split
  · exact hs
  · extract_lets _ _ _ _ _ _ s₄
    have hs₄ : Kept s₀ s₄ := .wf (.wf (.wf (.ite hs.modEng hs.modEng.setSlotState)))
    exact .ite hs (.ite hs (.ite hs₄.wf.wf.wf.beginRow hs₄.wf.wf.wf.clearLanes))

protected theorem setJitExp {t k : Nat} (hs : Kept s₀ s) : Kept s₀ (setJitExp s t k) := by
  unfold setJitExp
  extract_lets
  refine .ite ?_ hs
  split
  · exact hs
  · extract_lets
    exact hs.put

protected theorem finishInvocation {f : Nat} {x : Invocation} (hs : Kept s₀ s) : Kept s₀ (finishInvocation s f x) := by
  unfold finishInvocation
  extract_lets _ s₁ s₂ _ s₃ _ s₄ s₅ s₆
  have hs₁ : Kept s₀ s₁ := hs.wf.wf
  have hs₂ : Kept s₀ s₂ := hs₁.modEng
  have hs₃ : Kept s₀ s₃ := hs₂.bump
  have hs₄ : Kept s₀ s₄ := hs₃.put
  have hs₅ : Kept s₀ s₅ := hs₂.bump
  have hs₆ : Kept s₀ s₆ := hs₅.modFrond
  refine .ite (hs₄.forEach fun _ _ h => h.setJitExp) ?_
  split
  · exact hs₆
  · exact .ite hs₆.opDone hs₆.drainDone

protected theorem stopInvocation {f : Nat} (hs : Kept s₀ s) : Kept s₀ (stopInvocation s f) := by
  unfold stopInvocation
  exact hs.reportOps.wf.wf.modEng

protected theorem nextGroup {f : Nat} {x : Invocation} (hs : Kept s₀ s) : Kept s₀ (nextGroup s f x) :=
  .ite hs.finishInvocation (.ite hs.stopInvocation hs.modRun.clearLanes)

protected theorem nextRow {f : Nat} {x : Invocation} (hs : Kept s₀ s) : Kept s₀ (nextRow s f x) := by
  unfold nextRow
  extract_lets _ s₁
  have hs₁ : Kept s₀ s₁ := .ite hs hs.storePut
  exact .ite hs₁.finishInvocation (.ite hs₁.stopInvocation hs₁.modRun.beginRow)

protected theorem advanceEngine {f : Nat} {x : Invocation} {whole ends : Bool} (hs : Kept s₀ s) :
    Kept s₀ (advanceEngine s f x whole ends) := by
  unfold advanceEngine
  extract_lets _ _ s₁
  have hs₁ : Kept s₀ s₁ :=
    .ite (.ite hs.modRun hs.nextGroup) <| .ite hs.modRun <| .ite hs.modRun.clearLanes <| .ite hs.modRun.clearLanes hs.nextRow
  exact hs₁.wf

protected theorem reduceChunk {f : Nat} {x : Invocation} {i : EInstr} {vs : List W32} {fold : List W32 → Invocation → Invocation}
    {result : Invocation → W32} {fl : CvtFlags} (hs : Kept s₀ s) : Kept s₀ (reduceChunk s f x i vs fold result fl) :=
  .ite hs.eeFlags.modRun hs.eeFlags.modRun.setSreg

protected theorem countCycles {f : Nat} {x : Invocation} {op aux : Nat} (hs : Kept s₀ s) : Kept s₀ (countCycles s f x op aux) :=
  hs.bump.cntAdd

end Sys2Proof.Laws.Kept
end

section
/-! SUPPORT. What the operations of images, the ring of commands, pieces and recovery keep: one lemma for each operation, that cites those of the operations it is made of. -/

namespace Sys2Proof.Laws.Kept

-- Thousands of short proofs elaborated at once ask for more threads than Lean's memory limit holds.
set_option Elab.async false

open Sys2Proof.Machine

variable {s₀ s t : State}

/-! ## Commands of the tier manager -/

protected theorem useExpanders (hs : Kept s₀ s) : Kept s₀ (useExpanders s) := by
  unfold useExpanders
  split
  · exact hs
  · exact hs.forEach fun _ _ h => .ite (.ite (h.put (hsources := length_modAt ..)) h) (.ite (h.put (hsources := length_modAt ..)) h)

protected theorem discardPage {p : Nat} (hs : Kept s₀ s) : Kept s₀ (discardPage s p) := hs.put.dropRequests.dropDemand.setPte

protected theorem applyPolicy {p : TierPolicy} (hs : Kept s₀ s) : Kept s₀ (applyPolicy s p) := by
  unfold applyPolicy
  extract_lets _ s₁ s₂ s₃ s₄ _ _ s₅
  have hs₁ : Kept s₀ s₁ := hs.put
  have hs₂ : Kept s₀ s₂ := hs₁.setReg
  have hs₃ : Kept s₀ s₃ := hs₂.wf
  have hs₄ : Kept s₀ s₄ := hs₃.forEach fun _ _ h => .ite h.discardPage h
  have hs₅ : Kept s₀ s₅ := hs₄.put
  exact hs₅.useExpanders.pagesMoved

protected theorem scanPage {p : Nat} (hs : Kept s₀ s) : Kept s₀ (scanPage s p) := by
  unfold scanPage
  extract_lets _ _ _ _ _ _ s₃
  have hs₃ : Kept s₀ s₃ := .ite hs.setPte.put.addDemand hs.setPte.put
  exact .ite hs₃.put hs₃

protected theorem takeRebuilt {p : Nat} {dst : Place} (hs : Kept s₀ s) : Kept s₀ (takeRebuilt s p dst) := by
  unfold takeRebuilt
  extract_lets _ s₂ s₃
  have hs₂ : Kept s₀ s₂ := by
    unfold s₂
    refine .forEach hs.zeroPlace fun s a h => ?_
    split
    · exact h
    · exact h.setBytes
  have hs₃ : Kept s₀ s₃ := by
    unfold s₃
    split
    · exact hs₂
    · exact hs₂.emit
  exact hs₃.setPte.put.countPlaceWrite.tierPressure

/-! ## The thallus loader: verification of an image, staging, epoch switches -/

protected theorem thlErr {e : LoadErr} (hs : Kept s₀ s) : Kept s₀ (thlErr s e) := hs.wf.wf.wf

protected theorem thlReject {i : Nat} {e : LoadErr} (hs : Kept s₀ s) : Kept s₀ (thlReject s i e) := hs.thlErr.rejectCmd

protected theorem setStructChange (hs : Kept s₀ s) : Kept s₀ (setStructChange s) := hs.wf

protected theorem beginLoad {i src len : Nat} (hs : Kept s₀ s) : Kept s₀ (beginLoad s i src len) := by
  unfold beginLoad
  extract_lets _ _ _ s₃
  have hs₃ : Kept s₀ s₃ := hs.startCmd.wf.wf.put.setStructChange
  exact .ite hs.thlReject (.ite hs₃.modCmd.emit (.ite hs₃ (hs₃.forEach fun _ _ h => h.sendMsgFor)))

protected theorem failLoad {l : LoadRun} {e : LoadErr} (hs : Kept s₀ s) : Kept s₀ (failLoad s l e) := hs.endLoad.thlErr.finCmd

protected theorem failFetch (hs : Kept s₀ s) : Kept s₀ (failFetch s) := by
  unfold failFetch
  split
  · exact hs
  · exact hs.failLoad

protected theorem setDigest {r : Nat → Nat} {d : List Byte} (hs : Kept s₀ s) : Kept s₀ (setDigest s r d) :=
  hs.forEach fun _ _ h => h.setReg

protected theorem stageImage {l : LoadRun} {img : List Byte} (hs : Kept s₀ s) : Kept s₀ (stageImage s l img) :=
  hs.zeroKeys.setBytes.endLoad.put.setDigest.setReg.wf.wf.setStructChange.finOk

protected theorem verifyDone {image : Option (List Byte)} {genChanged : Bool} (hs : Kept s₀ s) :
    Kept s₀ (verifyDone s image genChanged) := by
  unfold verifyDone
  split
  · exact hs
  · extract_lets _ finish
    have h_finish : ∀ img, Kept s₀ (finish img) := by
      intro img
      unfold finish
      split
      · exact hs.modCmd.failLoad
      · exact hs.modCmd.stageImage
    split
    · refine .ite ?_ hs.modCmd.failFetch
      split
      · exact h_finish _
      · exact hs.modCmd.failFetch
    · exact .ite hs (h_finish _)

protected theorem loadData {src addr status : Nat} {bytes : List Byte} (hs : Kept s₀ s) : Kept s₀ (loadData s src addr status bytes) := by
  unfold loadData
  extract_lets
  split
  · exact hs
  · extract_lets
    exact .ite hs (.ite hs.failFetch hs.put)

protected theorem loadPeerLost {d : Nat} (hs : Kept s₀ s) : Kept s₀ (loadPeerLost s d) := by
  unfold loadPeerLost
  split
  · exact hs
  · exact .ite hs.failFetch hs

protected theorem applyRoute (hs : Kept s₀ s) : Kept s₀ (applyRoute s) := by
  unfold applyRoute
  extract_lets _ _ _ _ _ _ _ s₂
  have hs₂ : Kept s₀ s₂ := hs.put.forEach fun _ _ h => h.wf.wf
  exact .relevel (hs₂.forEach fun _ _ h => .ite h h.portDown)

protected theorem applyEventMap (hs : Kept s₀ s) : Kept s₀ (applyEventMap s) := .evgSettle (hs.forEach fun _ _ h => h.wf.wf)

protected theorem applyDesc {x : List Byte × List Nat} (hs : Kept s₀ s) : Kept s₀ (applyDesc s x) := by
  unfold applyDesc
  extract_lets _ s₁
  have hs₁ : Kept s₀ s₁ := by
    unfold s₁
    split
    · exact hs.setTable.rejectCmd
    · exact hs
  exact .ite hs hs₁.setTable

protected theorem remap (hs : Kept s₀ s) : Kept s₀ (remap s) := by
  unfold remap
  extract_lets _ _ s₁
  have hs₁ : Kept s₀ s₁ := hs.forEach fun _ _ h => h.setReg
  exact .put (hs₁.forEach fun _ _ h => h.setReg)

protected theorem newStructure {img : List Byte} (hs : Kept s₀ s) : Kept s₀ (newStructure s img) := by
  unfold newStructure
  exact hs.loadScalePlan.setReg.put

protected theorem applySwitch {epoch t : Nat} (hs : Kept s₀ s) : Kept s₀ (applySwitch s epoch t) := by
  unfold applySwitch
  extract_lets _ _ _ _ _ _ _ _ s₃ _ _ _ _ _ _ s₉ _ _ s₁₀ s₁₁ _ s₁₃
  have hs₃ : Kept s₀ s₃ := .setReg (.setReg (hs.put.forEach fun _ _ h => h.setReg.setReg))
  have hs₉ : Kept s₀ s₉ := hs₃.wf.wf.wf.wf.wf.wf.setStructChange.wf.wf.wf.tracePush
  have hs₁₀ : Kept s₀ s₁₀ := .ite hs₉.newStructure hs₉
  have hs₁₁ : Kept s₀ s₁₁ := .ite hs₁₀.remap hs₁₀
  have hs₁₃ : Kept s₀ s₁₃ := hs₁₁.applyRoute.applyCounterPlan.applyEventMap.forEach fun _ _ h => h.applyDesc
  split
  · exact hs₁₃.put.finOk
  · exact hs₁₃.put

protected theorem switchNow (hs : Kept s₀ s) : Kept s₀ (switchNow s) := .ite hs.applySwitch hs

protected theorem beginSwitch {i epoch t pfx : Nat} (hs : Kept s₀ s) : Kept s₀ (beginSwitch s i epoch t pfx) := by
  unfold beginSwitch
  extract_lets _ _ _ _ s₄
  have hs₄ : Kept s₀ s₄ := hs.startCmd.setReg.wf.wf.put
  split
  · exact hs.thlReject
  · exact .ite hs₄ hs₄.switchNow

protected theorem resetLoader (hs : Kept s₀ s) : Kept s₀ (resetLoader s) := by
  unfold resetLoader
  extract_lets _ _ _ _ _ _ _ _ _ s₆
  have hs₆ : Kept s₀ s₆ := hs.failFetch.zeroKeys.put.setDigest.setReg.wf.wf.setStructChange
  refine .ite ?_ hs₆
  split
  · exact hs₆.cancelSwitch.thlReject
  · exact hs₆.cancelSwitch

/-! ## The commands of the ring: fetch, acceptance, start, abort -/

protected theorem beginRunSteps {i first t0 ring slotBytes slots line inDev : Nat} (hs : Kept s₀ s) :
    Kept s₀ (beginRunSteps s i first t0 ring slotBytes slots line inDev) :=
  .ite hs.rejectCmd (.ite hs.rejectCmd (.ite hs.rejectCmd (.ite hs.rejectCmd hs.startCmd.emit.put)))

protected theorem beginStop {i step : Nat} (hs : Kept s₀ s) : Kept s₀ (beginStop s i step) :=
  .ite hs.rejectCmd (.ite hs.rejectCmd hs.startCmd.put)

protected theorem runCheckpoint {c : Cmd} (hs : Kept s₀ s) : Kept s₀ (runCheckpoint s c) := by
  unfold runCheckpoint
  split
  · exact .ite hs.askRows.cmdWrite.finOk hs.askRows
  · extract_lets _ _ y s₃
    have hy : Kept s₀ y.1 := hs.askRows.ckLoadAll
    have hs₃ : Kept s₀ s₃ := .ite hy hy.publishFirst
    exact .ite hs₃.ownCommits.finOk hs.askRows
  · exact hs

protected theorem ckData {i mode : Nat} {n : Except Nat (List Byte)} (hs : Kept s₀ s) : Kept s₀ (ckData s i mode n) := by
  unfold ckData
  split
  · exact hs.finCmd
  · extract_lets
    exact .ite hs.modCmd (.finCmd (.ite hs.loseScale hs))

protected theorem ckRead {i src len mode : Nat} {data : Option (List Byte)} (hs : Kept s₀ s) :
    Kept s₀ (ckRead s i src len mode data) := by
  unfold ckRead
  extract_lets r
  have hr : Kept s₀ r.1 := by
    unfold r
    split
    · exact hs.localReads
    · exact .fst hs
  exact .ite hr.modCmd (.ite hr.ckData.runRestores hr.ckData)

protected theorem pumpCheckpoints (hs : Kept s₀ s) : Kept s₀ (pumpCheckpoints s) := by
  unfold pumpCheckpoints
  extract_lets s₁
  have hs₁ : Kept s₀ s₁ := by
    unfold s₁
    refine .forEach hs fun s a h => ?_
    split
    · exact h.ckRead
    · exact h
  exact hs₁.forEach fun _ _ h => h.runCheckpoint

protected theorem beginSave {i : Nat} (hs : Kept s₀ s) : Kept s₀ (beginSave s i) := .ite hs.rejectCmd hs.startCmd.pumpCheckpoints

protected theorem beginCkLoad {i src len mode : Nat} {data : Option (List Byte)} (hs : Kept s₀ s) :
    Kept s₀ (beginCkLoad s i src len mode data) := by
  unfold beginCkLoad
  extract_lets _ s₂
  have hs₂ : Kept s₀ s₂ := hs.startCmd.ckRead
  exact .ite hs.rejectCmd (.ite hs.rejectCmd (.ite hs.startCmd.ckClear.resume.finOk (.ite hs₂.pumpCheckpoints hs₂)))

protected theorem beginSwap {i t desc step : Nat} (hs : Kept s₀ s) : Kept s₀ (beginSwap s i t desc step) := by
  unfold beginSwap
  extract_lets _ _ s₁
  have hs₁ : Kept s₀ s₁ := hs.startCmd
  split
  · exact hs.setTable.rejectCmd
  · exact hs
  · extract_lets s₂
    have hs₂ : Kept s₀ s₂ := hs₁.setTable
    split
    · exact hs₂.installSwaps
    · exact hs₂

protected theorem tierReject {i slot r : Nat} (hs : Kept s₀ s) : Kept s₀ (tierReject s i slot r) := hs.wf.wf.rejectCmd

protected theorem beginGrant {i slot addr len : Nat} (hs : Kept s₀ s) : Kept s₀ (beginGrant s i slot addr len) := by
  unfold beginGrant
  extract_lets _ _ _ s₁
  have hs₁ : Kept s₀ s₁ := hs.put (hsources := length_modAt ..)
  exact .ite hs.tierReject (.ite hs.tierReject (.ite hs.tierReject (.ite hs.tierReject hs₁.startCmd.retireAt.retryWaits)))

protected theorem beginRevoke {i slot : Nat} (hs : Kept s₀ s) : Kept s₀ (beginRevoke s i slot) :=
  .ite hs.tierReject (.ite hs.rejectCmd (.ite hs.tierReject (.finishRevokes (hs.startCmd.put (hsources := length_modAt ..)))))

protected theorem beginSnapshot {i dest : Nat} (hs : Kept s₀ s) : Kept s₀ (beginSnapshot s i dest) := hs.startCmd.latch.cmdWrite.finOk

protected theorem beginFreeze {i t : Nat} (hs : Kept s₀ s) : Kept s₀ (beginFreeze s i t) :=
  .ite hs.rejectCmd (.ite hs.rejectCmd hs.startCmd.setReg.wf.put)

protected theorem beginScales {i op l tensor e interval step : Nat} (hs : Kept s₀ s) :
    Kept s₀ (beginScales s i op l tensor e interval step) := by
  unfold beginScales
  extract_lets _ _ s₂
  have hs₂ : Kept s₀ s₂ := hs.startCmd.applySetScales
  split
  · exact hs.wf.rejectCmd
  · exact .ite (.ite hs₂.publish hs₂) hs.startCmd.put.wf

protected theorem abortRun (hs : Kept s₀ s) : Kept s₀ (abortRun s) := by
  unfold abortRun
  extract_lets _ _ s₂
  have hs₂ : Kept s₀ s₂ := by
    unfold s₂
    split
    · exact hs.haltStep
    · exact hs.haltStep.put
  exact hs₂.put

protected theorem abortEffect {c : Cmd} (hs : Kept s₀ s) : Kept s₀ (abortEffect s c) := by
  unfold abortEffect
  split
  · exact .ite hs.abortRun hs
  · exact hs.cancelWork

protected theorem stopCmd {c : Cmd} {status : Nat} (hs : Kept s₀ s) : Kept s₀ (stopCmd s c status) := by
  unfold stopCmd
  extract_lets s₁
  have hs₁ : Kept s₀ s₁ := hs.abortEffect.modCmd
  split
  · exact hs₁
  · exact .ite hs₁.retireAt hs₁

protected theorem beginAbort {i target : Nat} (hs : Kept s₀ s) : Kept s₀ (beginAbort s i target) := by
  unfold beginAbort
  extract_lets _ done
  have h_done : ∀ s o, Kept s₀ s → Kept s₀ (done s o) := fun _ _ h => h.retireAt
  refine .ite (h_done _ _ hs.startCmd) ?_
  split
  · exact h_done _ _ hs.startCmd
  · exact .ite (h_done _ _ hs.startCmd) (.ite (h_done _ _ hs.startCmd) (h_done _ _ hs.startCmd.stopCmd))

protected theorem beginCmd {i : Nat} (hs : Kept s₀ s) : Kept s₀ (beginCmd s i) := by
  unfold beginCmd
  split
  · exact hs
  · split
    · exact hs.rejectCmd
    · refine .ite hs.rejectCmd ?_
      split
      · exact hs.beginLoad
      · extract_lets s₁
        have hs₁ : Kept s₀ s₁ := .ite hs.loadBanks hs
        exact hs₁.beginSwitch
      · exact hs.beginRunSteps
      · exact hs.beginStop
      · exact hs.beginAbort
      · exact hs.beginSave
      · exact hs.beginCkLoad
      · exact hs.beginSwap
      · exact hs.beginGrant
      · exact hs.beginRevoke
      · exact hs.startCmd.finOk
      · exact hs.beginSnapshot
      · exact hs.beginFreeze
      · exact hs.beginScales
      · exact hs

protected theorem startWaiting (hs : Kept s₀ s) : Kept s₀ (startWaiting s) := by
  unfold startWaiting
  refine .forEach hs fun s a h => ?_
  split
  · exact .ite h.beginCmd h
  · exact h

protected theorem fetchCmd {h : CmdHead} {op : CmdOp} {data : Option (List Byte)} (hs : Kept s₀ s) : Kept s₀ (fetchCmd s h op data) :=
  .ite hs (.startWaiting (.ite hs.put.cntAdd.beginCmd hs.put.cntAdd))

protected theorem fetchAll {ds : List Fetched} (hs : Kept s₀ s) : Kept s₀ (fetchAll s ds) := hs.forEach fun _ _ h => h.fetchCmd

protected theorem readLine {produced consumed : Nat} {ds : List Fetched} (hs : Kept s₀ s) : Kept s₀ (readLine s produced consumed ds) :=
  hs.put.cntAdd.pumpAll.fetchAll.startWaiting

protected theorem inputSeen {supplied : Nat} (hs : Kept s₀ s) : Kept s₀ (inputSeen s supplied) := by
  unfold inputSeen
  split
  · exact hs
  · exact .ite hs.put hs

protected theorem inputCopied {n : Nat} {bytes : List Byte} (hs : Kept s₀ s) : Kept s₀ (inputCopied s n bytes) := by
  unfold inputCopied
  split
  · exact hs
  · extract_lets _ _ s₂
    have hs₂ : Kept s₀ s₂ := by
      unfold s₂
      split
      · rename_i _ s' heq
        exact hs.emit.memWrite heq
      · exact hs.emit.violation
    exact .ite hs₂.cntAdd.put.syncPage hs

protected theorem confirmWrites (hs : Kept s₀ s) : Kept s₀ (confirmWrites s) := by
  unfold confirmWrites
  extract_lets
  split
  · exact hs
  · extract_lets
    exact hs.put.syncPage

protected theorem loseHostLink {reason : Nat} (hs : Kept s₀ s) : Kept s₀ (loseHostLink s reason) := by
  unfold loseHostLink
  extract_lets s₁ s₂
  have hs₁ : Kept s₀ s₁ := hs.discardUnconfirmed
  have hs₂ : Kept s₀ s₂ := by
    unfold s₂
    split
    · exact .ite hs₁.failFetch hs₁
    · exact hs₁
  exact hs₂.wf.wf.wf.wf.detach

protected theorem hostLinkUp {width speed : Nat} {cache : Bool} (hs : Kept s₀ s) : Kept s₀ (hostLinkUp s width speed cache) :=
  .ite hs hs.wf.wf.wf.wf.put.wf.resume

protected theorem hostRetrain (hs : Kept s₀ s) : Kept s₀ (hostRetrain s) := by
  unfold hostRetrain
  extract_lets s₁
  have hs₁ : Kept s₀ s₁ := hs.loseHostLink
  exact .ite (.ite hs₁.put.wf hs₁) hs

protected theorem attach {nonce : Nat} (hs : Kept s₀ s) : Kept s₀ (attach s nonce) := by
  unfold attach
  extract_lets _ _ _ _ s₃
  have hs₃ : Kept s₀ s₃ := .syncPage (.put (.ite hs.wf.detach hs.wf))
  exact .ite hs.wf hs₃.wf.wf

protected theorem noteBase {k v : Nat} (hs : Kept s₀ s) : Kept s₀ (noteBase s k v) := by
  unfold noteBase
  exact hs.put

protected theorem cmdCfgWrite {v : Nat} (hs : Kept s₀ s) : Kept s₀ (cmdCfgWrite s v) :=
  .ite hs.wf.wf.wf (.ite hs.wf.wf.wf.wf hs.wf.wf.wf.wf.put.pumpAll)

/-! ## Rebuild pieces, deltas at their holder and the parity scrub -/

protected theorem floodMsg {m : Message} (hs : Kept s₀ s) : Kept s₀ (floodMsg s m) := hs.forEach fun _ _ h => .ite h.sendBy h

protected theorem flood {n : Notice} (hs : Kept s₀ s) : Kept s₀ (flood s n) := hs.floodMsg

protected theorem pieceData {own : Nat} {k : SlotKey} (hs : Kept s₀ s) : Kept s₀ (pieceData s own k).1 := by
  unfold pieceData
  split
  · exact .fst hs
  · split
    · exact .fst hs
    · exact hs.takeRow

protected theorem servePiece {req subject : Nat} {k : SlotKey} (hs : Kept s₀ s) : Kept s₀ (servePiece s req subject k) := by
  unfold servePiece
  extract_lets wait answer nothing _ s₁
  have h_wait : ∀ s, Kept s₀ s → Kept s₀ (wait s) := fun _ h => h.put
  have h_answer : ∀ s bs, Kept s₀ s → Kept s₀ (answer s bs) := fun _ _ h => h.sendMsg
  have h_nothing : ∀ s, Kept s₀ s → Kept s₀ (nothing s) := fun _ h => h.sendMsg
  have hs₁ : Kept s₀ s₁ := hs.startRebuild
  split
  · extract_lets
    exact .ite (h_wait _ hs) (.addForward (h_answer _ _ hs.rawRead))
  · extract_lets
    exact .ite (h_wait _ hs) (.addForward (h_answer _ _ hs.rawRead))
  · extract_lets
    refine .ite (h_answer _ _ hs) ?_
    refine .ite (h_nothing _ hs) ?_
    refine .ite (h_nothing _ hs.loseRow) ?_
    split
    · extract_lets s₂
      have hs₂ : Kept s₀ s₂ := h_answer _ _ hs.pieceData
      exact .ite hs₂ hs₂.addForward
    · exact h_wait _ hs.pieceData
  · extract_lets _ s₂
    have hs₂ : Kept s₀ s₂ := h_answer _ _ hs.rawRead
    refine .ite (.ite (h_wait _ hs) (.ite hs₂ hs₂.addForward)) ?_
    split
    · exact .ite (h_answer _ _ hs) (h_wait _ hs)
    · exact .ite (h_wait _ hs₁) (h_nothing _ hs₁)
  · exact hs

protected theorem serveWaits (hs : Kept s₀ s) : Kept s₀ (serveWaits s) := hs.put.forEach fun _ _ h => h.servePiece

protected theorem acceptStop {subject req : Nat} {k : SlotKey} (hs : Kept s₀ s) : Kept s₀ (acceptStop s subject req k) := hs.put.sendMsg

protected theorem xorSlot {a : Nat} {bs : List Byte} (hs : Kept s₀ s) : Kept s₀ (xorSlot s a bs) := hs.rawRead.rawWrite

protected theorem forwardParity {h : Nat} {slot : SlotKey} {r : SorediumRec} (hs : Kept s₀ s) : Kept s₀ (forwardParity s h slot r) :=
  hs.forEach fun _ _ h' => h'.sendMsg

protected theorem applyDelta {src : Nat} {r : SorediumRec} (hs : Kept s₀ s) : Kept s₀ (applyDelta src s r) := by
  unfold applyDelta
  extract_lets
  split
  · exact hs.xorSlot.forwardParity
  · split
    · exact hs
    · extract_lets
      refine .ite hs ?_
      refine .ite hs.xorSlot.forwardParity ?_
      split
      · exact .ite hs.modRebuild hs
      · exact hs

protected theorem applySoredium {m : Soredium} (hs : Kept s₀ s) : Kept s₀ (applySoredium s m) := by
  unfold applySoredium
  extract_lets s₁
  have hs₁ : Kept s₀ s₁ := hs.foldl fun _ _ h => h.applyDelta
  split
  · exact hs₁.sendMsg
  · exact hs₁

protected theorem acceptSoredium {m : Soredium} (hs : Kept s₀ s) : Kept s₀ (acceptSoredium s m) := .ite hs.put hs.applySoredium

protected theorem takeSoredium {m : Soredium} (hs : Kept s₀ s) : Kept s₀ (takeSoredium s m) := .ite hs.queueMsg hs.acceptSoredium

protected theorem endScrub (hs : Kept s₀ s) : Kept s₀ (endScrub s) := by
  unfold endScrub
  split
  · exact hs
  · extract_lets _ s₁
    have hs₁ : Kept s₀ s₁ := hs.forEach fun _ _ h => .ite h h.sendMsg
    exact hs₁.put.forEach fun _ _ h => h.takeSoredium

protected theorem finishScrub {c : Scrub} (hs : Kept s₀ s) : Kept s₀ (finishScrub s c) := by
  unfold finishScrub
  extract_lets
  split
  · exact hs.endScrub
  · extract_lets
    exact .ite hs (.endScrub (.ite hs.rawRead hs.rawRead.rawWrite.bump.wf))

protected theorem pumpScrub (hs : Kept s₀ s) : Kept s₀ (pumpScrub s) := by
  unfold pumpScrub
  split
  · exact .ite hs.finishScrub hs
  · exact hs

protected theorem beginScrub {table : Nat} {slot : HeldSlot} {rem : Bool} (hs : Kept s₀ s) : Kept s₀ (beginScrub s table slot rem) := by
  unfold beginScrub
  split
  · exact hs
  · exact .ite hs (hs.put.forEach fun _ _ h => h.askPiece)

protected theorem scrubPiece {c : Scrub} {a : PieceAsk} {bs : List Byte} (hs : Kept s₀ s) : Kept s₀ (scrubPiece s c a bs) :=
  .ite hs (.ite hs.put.finishScrub hs.put)

protected theorem spareWrite {subject org : Nat} {d : SorediumRec} (hs : Kept s₀ s) : Kept s₀ (spareWrite s subject org d) := by
  unfold spareWrite
  split
  · extract_lets
    exact .ite hs (.ite hs.queueMsg hs.xorSlot.forwardDelta)
  · exact hs

protected theorem acceptFwd {subject org : Nat} {d : SorediumRec} (hs : Kept s₀ s) : Kept s₀ (acceptFwd s subject org d) :=
  .ite hs.put hs.spareWrite

protected theorem acceptAck {step holder seq : Nat} (hs : Kept s₀ s) : Kept s₀ (acceptAck s step holder seq) :=
  hs.put.forEach fun _ _ h => h.commitPut

protected theorem offerAck {step holder seq : Nat} (hs : Kept s₀ s) : Kept s₀ (offerAck s step holder seq) :=
  .ite hs.queueMsg hs.acceptAck

protected theorem takeInput {m : Message} (hs : Kept s₀ s) : Kept s₀ (takeInput s m) := by
  unfold takeInput
  extract_lets onTable
  have h_onTable : ∀ n g, (∀ s, Kept s₀ s → Kept s₀ (g s)) → Kept s₀ (onTable n g) := fun _ _ hg => .ite hs.queueMsg (hg _ hs)
  split
  · exact h_onTable _ _ fun _ h => h.acceptUpdate
  · exact h_onTable _ _ fun _ h => h.acceptRemGrad
  · exact h_onTable _ _ fun _ h => h.acceptRemRow
  · exact hs.takeSoredium
  · exact hs.offerRsp
  · exact hs.offerAck
  · exact hs.acceptFwd
  · exact .ite hs.queueMsg hs.acceptEnd
  · exact hs

protected theorem pumpInput (hs : Kept s₀ s) : Kept s₀ (pumpInput s) := hs.put.forEach fun _ _ h => h.takeInput

protected theorem resumeAll (hs : Kept s₀ s) : Kept s₀ (resumeAll s) := hs.resume.pumpCheckpoints.serveWaits.pumpScrub.pumpInput

protected theorem runShares (hs : Kept s₀ s) : Kept s₀ (runShares s) := by
  unfold runShares
  refine .forEach hs fun s a h => ?_
  refine .ite (h.runShare fun _ _ h' => h'.flood) ?_
  split
  · exact .ite (h.runShare fun _ _ h' => h'.flood) h
  · exact h.runShare fun _ _ h' => h'.flood

protected theorem finishRebuild {r : Rebuild} (hs : Kept s₀ s) : Kept s₀ (finishRebuild s r) := by
  unfold finishRebuild
  extract_lets keep drop s₁
  have h_keep : ∀ s, Kept s₀ s → Kept s₀ (keep s) := fun _ h => h.modRebuild
  have h_drop : ∀ s, Kept s₀ s → Kept s₀ (drop s) := fun _ h => h.put
  have hs₁ : Kept s₀ s₁ := by
    unfold s₁
    refine .ite (h_keep _ hs) ?_
    split
    · exact h_drop _ hs
    · extract_lets _ _ _ _ _ _ s₂ _ s₃
      have hs₂ : Kept s₀ s₂ := hs.getD fun _ ht => hs.devWrite ht
      have hs₃ : Kept s₀ s₃ := hs₂.put
      exact .ite (h_keep _ hs) (.bump (h_drop _ hs₃))
  exact hs₁.runShares.resumeAll

protected theorem sendStops {as : List PieceAsk} (hs : Kept s₀ s) : Kept s₀ (sendStops s as) := hs.forEach fun _ _ h => h.sendMsg

protected theorem rebuildNext {r : Rebuild} (hs : Kept s₀ s) : Kept s₀ (rebuildNext s r) :=
  .ite hs (.ite hs.sendStops (hs.modRebuild.forEach fun _ _ h => h.askPiece))

protected theorem setRewrite {r r' : Rewrite} (hs : Kept s₀ s) : Kept s₀ (setRewrite s r r') := by
  unfold setRewrite
  exact hs.put

protected theorem dropRewrite {r : Rewrite} (hs : Kept s₀ s) : Kept s₀ (dropRewrite s r) := by
  unfold dropRewrite
  exact hs.put

protected theorem finishRewrite {r : Rewrite} (hs : Kept s₀ s) : Kept s₀ (finishRewrite s r) := by
  unfold finishRewrite
  split
  · exact .ite hs.dropRewrite hs.dropRewrite.sendDelta
  · exact hs.dropRewrite

protected theorem rewritePiece {r : Rewrite} {a : PieceAsk} {bs : List Byte} (hs : Kept s₀ s) : Kept s₀ (rewritePiece s r a bs) :=
  .ite hs.setRewrite.sendStops hs.setRewrite

protected theorem acceptPiece {subject org : Nat} {k : SlotKey} {bs : List Byte} (hs : Kept s₀ s) :
    Kept s₀ (acceptPiece s subject org k bs) := by
  unfold acceptPiece
  extract_lets _ s₁
  have hs₁ : Kept s₀ s₁ := hs.bump
  split
  · extract_lets _ s₂ _ s₃
    have hs₂ : Kept s₀ s₂ := hs₁.modRebuild
    have hs₃ : Kept s₀ s₃ := hs₂.put
    exact .ite hs₃.modRebuild.resumeAll hs₂.rebuildNext
  · exact hs₁.rewritePiece
  · exact .ite hs₁.scrubPiece hs
  · exact hs

protected theorem failRebuild {r : Rebuild} (hs : Kept s₀ s) : Kept s₀ (failRebuild s r) := by
  unfold failRebuild
  extract_lets _ _ _ _ _ s₃
  have hs₃ : Kept s₀ s₃ := hs.put.sendStops.forEach fun _ _ h => h.sendMsg
  exact .resumeAll (.runShares (.ite hs₃ hs₃.loseRow))

protected theorem acceptStopped {subject org : Nat} {k : SlotKey} (hs : Kept s₀ s) : Kept s₀ (acceptStopped s subject org k) := by
  unfold acceptStopped
  extract_lets
  split
  · extract_lets _ s₁
    exact .ite hs.failRebuild (.ite hs (.ite hs.modRebuild.finishRebuild hs.modRebuild))
  · extract_lets _ s₁
    have hs.modRebuild : Kept s₀ s₁ := hs.setRewrite
    exact .ite (.ite hs.rewritePiece hs.dropRewrite) (.ite hs.modRebuild.finishRewrite hs.modRebuild)
  · exact .ite hs.loseRow.resumeAll hs

protected theorem acceptDone {subject org epoch : Nat} (hs : Kept s₀ s) : Kept s₀ (acceptDone s subject org epoch) :=
  .ite hs hs.put.floodMsg.pumpReqs

protected theorem commitDone {c : CommitEntry} (hs : Kept s₀ s) : Kept s₀ (commitDone s c) := by
  unfold commitDone
  extract_lets _ s₁ s₂ _ _ _ s₃
  have hs₁ : Kept s₀ s₁ := hs.put
  have hs₂ : Kept s₀ s₂ := hs₁.bump
  have hs₃ : Kept s₀ s₃ := by
    unfold s₃
    split
    · extract_lets
      exact .ite hs₂.put hs₂
    · exact hs₂
  exact hs₃.sendRemRows.endSeries.updateUpdStep.pumpReqs.serveWaits.settle

/-! ## Notices, declared losses, recovery epochs -/

protected theorem forgetFlows {d : Nat} (hs : Kept s₀ s) : Kept s₀ (forgetFlows s d) := by
  unfold forgetFlows
  extract_lets _ s₂
  have hs₂ : Kept s₀ s₂ := by
    unfold s₂
    refine .forEach (hs.forEach fun _ _ h => h.bump) fun s a h => ?_
    split
    · exact h.countLateUpd
    · exact h
  exact hs₂.put.acksIn

protected theorem resendAround {d : Nat} (hs : Kept s₀ s) : Kept s₀ (resendAround s d) := hs.forEach fun _ _ h => .ite h.flowResend h

protected theorem redirectDeltas {d : Nat} (hs : Kept s₀ s) : Kept s₀ (redirectDeltas s d) := by
  unfold redirectDeltas
  refine .forEach hs fun s a h => ?_
  extract_lets set
  have h_set : ∀ s n, Kept s₀ s → Kept s₀ (set s n) := fun _ _ h => h.put
  split
  · exact .commitPut (h_set _ _ h)
  · extract_lets x
    have hx : Kept s₀ x.1 := h.sendDelta
    exact h_set _ _ hx

protected theorem restartRebuilds {d : Nat} (hs : Kept s₀ s) : Kept s₀ (restartRebuilds s d) := by
  unfold restartRebuilds
  extract_lets _ _ _ _ _ _ s₁ _ s₃
  have hs₁ : Kept s₀ s₁ := hs.put.foldl fun _ _ h => h.dropRewrite
  have hs₃ : Kept s₀ s₃ := by
    unfold s₃
    refine .forEach (hs₁.forEach fun _ _ h => .ite h.startParityRebuild h.startRebuild) fun s a h => ?_
    split
    · exact h.startRewrite
    · exact h
  exact hs₃.runShares

protected theorem dropRequester {d : Nat} (hs : Kept s₀ s) : Kept s₀ (dropRequester s d) := by
  unfold dropRequester
  exact hs.put

protected theorem pauseDense {d : Nat} (hs : Kept s₀ s) : Kept s₀ (pauseDense s d) := by
  unfold pauseDense
  extract_lets s₁
  have hs₁ : Kept s₀ s₁ := .ite hs.haltStep hs
  exact .ite hs hs₁.put

protected theorem pumpRem (hs : Kept s₀ s) : Kept s₀ (pumpRem s) := by
  unfold pumpRem
  refine .forEach hs fun s a h => ?_
  split
  · exact .ite h.mergeRem.sendRemRows h
  · exact h

protected theorem lossActions {d : Nat} (hs : Kept s₀ s) : Kept s₀ (lossActions s d) := by
  unfold lossActions
  extract_lets _ _ s₃ s₄ _ s₆
  have hs₃ : Kept s₀ s₃ := hs.forgetFlows.resendAround.cancelExpected.pauseDense.dropRequester.redirectDeltas
  have hs₄ : Kept s₀ s₄ := by
    unfold s₄
    split
    · exact .ite hs₃.endScrub hs₃
    · exact hs₃
  have hs₆ : Kept s₀ s₆ := hs₄.restartRebuilds.loadPeerLost.advanceBlocks.forEach fun _ _ h => h.compareDigests
  exact hs₆.barrierAdvance.pumpScales.relevel.pumpRem.pumpReqs.settle

protected theorem findLostClass {d k : Nat} {ms : List Nat} {i n : Nat} {key : SlotKey} (hs : Kept s₀ s) :
    Kept s₀ (findLostClass d k ms i n s key) :=
  hs.forEach fun _ _ h => h.loseRows

protected theorem findLostRows {d : Nat} (hs : Kept s₀ s) : Kept s₀ (findLostRows s d) := by
  unfold findLostRows
  split
  · exact hs
  · exact hs.forEach fun _ _ h => .ite h (h.forEach fun _ _ h' => h'.forEach fun _ _ h'' => h''.findLostClass)

protected theorem loseBlocks {d : Nat} (hs : Kept s₀ s) : Kept s₀ (loseBlocks s d) :=
  hs.forEach fun _ _ h => .ite h (.setParamBits (.ite h.put.rollbackRecord h.put))

protected theorem resendLookups {d : Nat} (hs : Kept s₀ s) : Kept s₀ (resendLookups s d) := hs.put.forEach fun _ _ h => h.sendReq

protected theorem commitDevice {l : LostDev} (hs : Kept s₀ s) : Kept s₀ (commitDevice s l) := by
  unfold commitDevice
  extract_lets s₁
  have hs₁ : Kept s₀ s₁ := hs.promoteBlocks.loseBlocks.resendLookups.pumpEnds
  split
  · exact .ite (hs₁.put.runShare fun _ _ h => h.flood) hs₁
  · exact hs₁

protected theorem commitDevices {ds : List LostDev} (hs : Kept s₀ s) : Kept s₀ (commitDevices s ds) := by
  unfold commitDevices
  extract_lets _ _ _ _ s₂ s₃
  have hs₂ : Kept s₀ s₂ := hs.put.forEach fun _ _ h => h.findLostRows
  have hs₃ : Kept s₀ s₃ := hs₂.forEach fun _ _ h => h.commitDevice
  exact hs₃.advanceBlocks.pumpRem.pumpReqs.settle

protected theorem commitEpoch (hs : Kept s₀ s) : Kept s₀ (commitEpoch s) := by
  unfold commitEpoch
  split
  · exact hs
  · exact hs.put.commitDevices

protected theorem commitDue (hs : Kept s₀ s) : Kept s₀ (commitDue s) := by
  unfold commitDue
  split
  · exact .ite hs.commitEpoch hs
  · exact hs

protected theorem setEpoch {n t : Nat} (hs : Kept s₀ s) : Kept s₀ (setEpoch s n t) := hs.put.wf.wf

protected theorem refreshEpoch (hs : Kept s₀ s) : Kept s₀ (refreshEpoch s) := by
  unfold refreshEpoch
  split
  · exact hs.setEpoch
  · exact hs

protected theorem countLate (hs : Kept s₀ s) : Kept s₀ (countLate s) := hs.bump.wf

protected theorem commitBefore {td : Nat} (hs : Kept s₀ s) : Kept s₀ (commitBefore s td) := by
  unfold commitBefore
  split
  · exact .ite hs.commitEpoch hs
  · exact hs

protected theorem declare {d td : Nat} (hs : Kept s₀ s) : Kept s₀ (declare s d td) := by
  unfold declare
  extract_lets _ _ _ _ _ s₄ _ _ s₅ _ s₇
  have hs₄ : Kept s₀ s₄ := hs.commitBefore.put.setReg.flagEvent
  have hs₅ : Kept s₀ s₅ := by
    unfold s₅
    refine .ite hs₄ ?_
    split
    · exact hs₄.setEpoch
    · exact hs₄.refreshEpoch
  have hs₇ : Kept s₀ s₇ := hs₅.cntAdd.tracePush.lossActions
  exact .ite hs₇.countLate.commitDevices hs₇

protected theorem declareDue {k : Nat} (hs : Kept s₀ s) : Kept s₀ (declareDue k s) := by
  induction k generalizing s with
  | zero => exact hs
  | succ k ih =>
    unfold declareDue
    extract_lets due
    clear_value due
    cases due with
    | none => exact hs
    | some x => exact ih hs.declare

protected theorem lowerTd {d : Nat} (hs : Kept s₀ s) : Kept s₀ (lowerTd s d) := hs.put.refreshEpoch

protected theorem acceptNotice {n : Notice} (hs : Kept s₀ s) : Kept s₀ (acceptNotice s n) := by
  unfold acceptNotice
  extract_lets _ _ s₂ s₃
  have hs₂ : Kept s₀ s₂ := hs.put.flood.commitDue
  have hs₃ : Kept s₀ s₃ := .ite hs₂.countLate (.ite hs₂.lowerTd hs₂)
  exact .ite hs (.ite hs (.ite (.ite hs.put.flood.enterFailed hs.put.flood) hs₃.declareDue.commitDue))

protected theorem raiseNotice {kind subject time reason : Nat} (hs : Kept s₀ s) : Kept s₀ (raiseNotice s kind subject time reason) :=
  hs.acceptNotice

end Sys2Proof.Laws.Kept
end

section
/-! SUPPORT. What the operations of received frames, resets and the management controller keep: one lemma for each operation, that cites those of the operations it is made of. -/

namespace Sys2Proof.Laws.Kept

-- Thousands of short proofs elaborated at once ask for more threads than Lean's memory limit holds.
set_option Elab.async false

open Sys2Proof.Machine

variable {s₀ s t : State}

/-! ## Routed frames: forwarding -/

protected theorem countNoRoute {die : Nat} (hs : Kept s₀ s) : Kept s₀ (countNoRoute s die) := hs.bump.flagEvent

protected theorem sendControl {dst : Nat} {mk : Hdr → Frame} (hs : Kept s₀ s) : Kept s₀ (sendControl s dst mk) := by
  unfold sendControl
  extract_lets
  refine .ite hs ?_
  split
  · exact hs.countNoRoute
  · split
    · exact hs.countNoRoute
    · extract_lets
      exact hs.portEnqueue

protected theorem sendError {code : Nat} {h : Hdr} (hs : Kept s₀ s) : Kept s₀ (sendError s code h) := hs.sendControl

protected theorem setFlowIn {f : FlowIn} (hs : Kept s₀ s) : Kept s₀ (setFlowIn s f) := by
  unfold setFlowIn
  exact hs.put

protected theorem sendAck {src vc : Nat} (hs : Kept s₀ s) : Kept s₀ (sendAck s src vc) := by
  unfold sendAck
  exact hs.setFlowIn.sendControl

protected theorem forward {p : Nat} {h : Hdr} {data : Bool} {mk : Hdr → Frame} (hs : Kept s₀ s) : Kept s₀ (forward s p h data mk) := by
  unfold forward
  extract_lets _ s₁
  have hs₁ : Kept s₀ s₁ := hs.countNoRoute.freeSlot
  refine .ite hs.bump.freeSlot ?_
  split
  · exact .ite hs₁ hs₁.put.sendError
  · extract_lets
    exact hs.portQueue

protected theorem setMismatch {bit : Nat} (hs : Kept s₀ s) : Kept s₀ (setMismatch s bit) := .ite hs hs.setReg.evgFire

protected theorem countDelivery {f : FlowIn} (hs : Kept s₀ s) : Kept s₀ (countDelivery s f) := .ite hs.setFlowIn.sendAck hs.setFlowIn

protected theorem landed {f : FlowIn} {h : Hdr} {bytes : List Byte} (hs : Kept s₀ s) : Kept s₀ (landed s f h bytes) :=
  .ite hs.emit.countDelivery hs.sendError.countDelivery

protected theorem landFrame {f : FlowIn} {l : Landing} {h : Hdr} {payload : List Byte} (hs : Kept s₀ s) :
    Kept s₀ (landFrame s f l h payload) :=
  .ite hs.landed hs.setFlowIn

protected theorem outOfSeq {p : Nat} (hs : Kept s₀ s) : Kept s₀ (outOfSeq s p) := hs.bump

protected theorem refuseFrame {f : FlowIn} {code : Nat} {h : Hdr} (hs : Kept s₀ s) : Kept s₀ (refuseFrame s f code h) :=
  .ite hs.setFlowIn hs.setFlowIn.sendError

protected theorem localData {p : Nat} {h : Hdr} {payload : List Byte} (hs : Kept s₀ s) : Kept s₀ (localData s p h payload).1 := by
  unfold localData
  extract_lets f out
  have h_out : ∀ s, Kept s₀ s → Kept s₀ (out s).1 := fun _ h => .fst h.freeSlot
  clear_value out
  split
  · split
    · exact .fst hs
    · exact h_out _ hs.outOfSeq
  · split
    · exact h_out _ hs.outOfSeq
    · split
      · exact h_out _ hs.refuseFrame
      · split
        · exact h_out _ hs.bump.setMismatch.refuseFrame
        · split
          · split
            · exact h_out _ hs.sendError.countDelivery
            · split
              · exact .fst hs
              · exact h_out _ hs.landFrame
          · split
            · split
              · exact h_out _ hs.landFrame
              · exact h_out _ hs.outOfSeq
            · exact h_out _ hs.outOfSeq

protected theorem pumpBlocked {k : Nat} (hs : Kept s₀ s) : Kept s₀ (pumpBlocked k s) := by
  induction k generalizing s with
  | zero => exact hs
  | succ k ih =>
    unfold pumpBlocked
    extract_lets
    split
    · exact hs
    · extract_lets s₁ _ _ r
      have hs₁ : Kept s₀ s₁ := hs.put
      have hr : Kept s₀ r.1 := by
        unfold r
        split
        · exact .fst hs₁
        · split
          · exact hs₁.localData
          · exact .fst hs₁.forward
      exact ih (.ite hr.put hr)

protected theorem pumpLanding (hs : Kept s₀ s) : Kept s₀ (pumpLanding s) := hs.pumpBlocked

protected theorem pumpUnits (hs : Kept s₀ s) : Kept s₀ (pumpUnits s) := by
  unfold pumpUnits
  refine .pumpLanding ?_
  refine .forEach hs fun s a h => ?_
  split
  · exact .ite h.landed h
  · exact h

protected theorem takeData {p : Nat} {h : Hdr} {payload : List Byte} (hs : Kept s₀ s) : Kept s₀ (takeData s p h payload) := by
  unfold takeData
  extract_lets _ wait
  have h_wait : ∀ s, Kept s₀ s → Kept s₀ (wait s) := fun _ h => h.put
  exact .ite (h_wait _ hs) (.ite hs.forward (.ite (h_wait _ hs.localData) hs.localData.pumpLanding))

protected theorem dropOldRoute {dst vc : Nat} (hs : Kept s₀ s) : Kept s₀ (dropOldRoute s dst vc) := by
  unfold dropOldRoute
  exact hs.put

protected theorem takeAck {dst vc next : Nat} (hs : Kept s₀ s) : Kept s₀ (takeAck s dst vc next) := by
  unfold takeAck
  extract_lets _ _ _ s₂
  have hs₂ : Kept s₀ s₂ := .ite hs.setFlowOut.dropOldRoute hs.setFlowOut
  exact .ite hs hs₂.flowPump.acksIn

protected theorem discardFlow {f : FlowOut} {seq : Nat} (hs : Kept s₀ s) : Kept s₀ (discardFlow s f seq) := hs.setFlowOut.dropOldRoute

protected theorem lateMessage {n : Message} (hs : Kept s₀ s) : Kept s₀ (lateMessage s n) := by
  unfold lateMessage
  split
  · split
    · exact hs.rauLate
    · exact hs
  · exact hs.countLateUpd
  · exact hs

protected theorem takeRefusal {dst vc seq : Nat} (hs : Kept s₀ s) : Kept s₀ (takeRefusal s dst vc seq) := by
  unfold takeRefusal
  extract_lets _ _ s₁ s₂
  have hs₁ : Kept s₀ s₁ := hs.discardFlow
  have hs₂ : Kept s₀ s₂ := hs₁.flagEvent
  split
  · exact hs
  · exact .ite hs₂.raiseNotice hs₁.bump.lateMessage.flowPump.acksIn

protected theorem takeNoRoute {dst vc plane : Nat} (hs : Kept s₀ s) : Kept s₀ (takeNoRoute s dst vc plane) := hs.setFlowOut.flowResend

protected theorem takeError {code vc seq : Nat} {copy : Hdr} (hs : Kept s₀ s) : Kept s₀ (takeError s code vc seq copy) := by
  unfold takeError
  split
  · exact hs.takeRefusal
  · exact hs.takeNoRoute
  · exact hs.takeRefusal
  · exact hs

/-! ## Ports: frame numbers and replay -/

protected theorem rxFrame {x : Rx} {f : Frame} (hs : Kept s₀ s) : Kept s₀ (rxFrame s x f) := by
  unfold rxFrame
  extract_lets _ _ s₃
  have hs₃ : Kept s₀ s₃ := hs.advance.bump.bump.cntAdd
  exact .ite hs₃.countRx hs₃

protected theorem sendLinkCtl {p : Nat} {nak laneChange : Bool} {lanes expected : Nat} (hs : Kept s₀ s) :
    Kept s₀ (sendLinkCtl s p nak laneChange lanes expected) :=
  hs.modPort.sendRaw

protected theorem acceptSeq {x : Rx} {f : Frame} (hs : Kept s₀ s) : Kept s₀ (acceptSeq s x f).1 := by
  unfold acceptSeq
  extract_lets _ _ s₂
  have hs₂ : Kept s₀ s₂ := .modPort (.ite hs.bump.cntAdd hs)
  split
  · exact .fst hs.modPort
  · split
    · exact .fst hs
    · split
      · exact .fst hs.modPort.sendLinkCtl
      · exact .fst (.ite hs₂.sendLinkCtl hs₂)

protected theorem takeControl {p : Nat} {h : Hdr} {mk : Hdr → Frame} {mine : State → State} (hs : Kept s₀ s)
    (hmine : ∀ s, Kept s₀ s → Kept s₀ (mine s)) : Kept s₀ (takeControl s p h mk mine) :=
  .ite (hmine _ hs.freeSlot) hs.forward

protected theorem replayFrom {p expected : Nat} (hs : Kept s₀ s) : Kept s₀ (replayFrom s p expected) := hs.forEach fun _ _ h => h.sendRaw

protected theorem setWidth {p w : Nat} (hs : Kept s₀ s) : Kept s₀ (setWidth s p w) := by
  unfold setWidth
  extract_lets _ _ s₂
  have hs₂ : Kept s₀ s₂ := hs.wf.flagEvent
  exact .ite hs₂.setPortState.relevel hs₂

protected theorem laneFault {p good : Nat} (hs : Kept s₀ s) : Kept s₀ (laneFault s p good) := by
  unfold laneFault
  extract_lets _ _ _ _ s₂
  have hs₂ : Kept s₀ s₂ := .ite hs.wf.sendLinkCtl hs.wf
  exact .ite hs (.ite hs.wf.portDown (.ite hs₂.setWidth hs.wf))

protected theorem takeLinkCtl {p : Nat} {nak laneChange : Bool} {lanes acked expected : Nat} {credits : List Nat} (hs : Kept s₀ s) :
    Kept s₀ (takeLinkCtl s p nak laneChange lanes acked expected credits) := by
  unfold takeLinkCtl
  extract_lets _ _ s₃
  have hs₃ : Kept s₀ s₃ := .portPump (.ite hs.modPort.replayFrom hs.modPort)
  exact .ite hs (.ite (.ite hs.modPort.modPort hs.modPort) (.ite hs₃.setWidth hs₃))

protected theorem portUpNow {p : Nat} (hs : Kept s₀ s) : Kept s₀ (portUpNow s p) := by
  unfold portUpNow
  extract_lets _ s₂
  have hs₂ : Kept s₀ s₂ := hs.setPortState.modPort
  split
  · exact hs₂.sendBy
  · exact hs₂

protected theorem retrainDone {p : Nat} (hs : Kept s₀ s) : Kept s₀ (retrainDone s p) := by
  unfold retrainDone
  extract_lets _ s₁ s₂ s₃
  have hs₁ : Kept s₀ s₁ := hs.setPortState.modPort
  have hs₂ : Kept s₀ s₂ := .ite hs₁.sendLinkCtl hs₁
  have hs₃ : Kept s₀ s₃ := by
    unfold s₃
    split
    · exact hs₂.replayFrom
    · exact hs₂
  exact hs₃.portPump.relevel

protected theorem sendHeartbeats (hs : Kept s₀ s) : Kept s₀ (sendHeartbeats s) := .ite hs (hs.forEach fun _ _ h => .ite h.sendRaw h)

protected theorem hbFail {p st : Nat} (hs : Kept s₀ s) : Kept s₀ (hbFail s p st) := .modPort (.ite hs (.ite hs.leaveUp hs.setPortState))

protected theorem hbMiswired {p : Nat} (hs : Kept s₀ s) : Kept s₀ (hbMiswired s p) := .modPort (.hbFail (.ite hs hs.flagEvent))

protected theorem hbMismatch {p nbr : Nat} (hs : Kept s₀ s) : Kept s₀ (hbMismatch s p nbr) := hs.setMismatch.hbFail.modPort

protected theorem hbPass {p : Nat} (hs : Kept s₀ s) : Kept s₀ (hbPass s p) := by
  unfold hbPass
  extract_lets _ _ s₂
  have hs₂ : Kept s₀ s₂ := hs.modPort.modPort
  exact .ite hs.modPort.setPortState.modPort (.ite (.ite hs₂.portUpNow hs₂) hs.modPort)

protected theorem hearAgain {d : Nat} (hs : Kept s₀ s) : Kept s₀ (hearAgain s d) := .ite hs.raiseNotice hs

protected theorem takeHeartbeat {p : Nat} {b : Heartbeat} (hs : Kept s₀ s) : Kept s₀ (takeHeartbeat s p b) := by
  unfold takeHeartbeat
  extract_lets _ _ _ s₃ _ s₅
  have hs₃ : Kept s₀ s₃ := hs.bump.modPort.wf.wf
  have hs₅ : Kept s₀ s₅ := .ite (.hbMiswired (.ite hs₃ hs₃.setMismatch)) (.ite hs₃.hearAgain.hbPass hs₃.hearAgain.hbMismatch)
  exact .ite hs (.ite hs₅.relevel.discipline hs₅.relevel)

protected theorem silencePort {p : Nat} (hs : Kept s₀ s) : Kept s₀ (silencePort s p) := by
  unfold silencePort
  extract_lets _ _ s₂
  have hs₂ : Kept s₀ s₂ := hs.bump.portDown
  exact .ite hs (.ite hs₂.raiseNotice hs₂)

protected theorem mismatchDue {p : Nat} (hs : Kept s₀ s) : Kept s₀ (mismatchDue s p) := by
  unfold mismatchDue
  split
  · exact .ite (.ite hs hs.raiseNotice) hs
  · exact hs

protected theorem takeFailed {p d reason : Nat} (hs : Kept s₀ s) : Kept s₀ (takeFailed s p d reason) := .ite hs hs.raiseNotice

/-! ## The rows of the links and of peer memory accesses -/

protected theorem onSeq {x : Rx} {f : Frame} {g : State → State} (hs : Kept s₀ s) (hg : ∀ s, Kept s₀ s → Kept s₀ (g s)) :
    Kept s₀ (onSeq x f g s) := by
  unfold onSeq
  extract_lets r
  have hr : Kept s₀ r.1 := hs.rxFrame.acceptSeq
  exact .ite (hg _ hr) hr

protected theorem onRaw {x : Rx} {f : Frame} {g : State → State} (hs : Kept s₀ s) (hg : ∀ s, Kept s₀ s → Kept s₀ (g s)) :
    Kept s₀ (onRaw x f g s) :=
  .ite (hg _ hs.rxFrame) hs.rxFrame

protected theorem refuseWrite {h : Hdr} {a : Nat} (hs : Kept s₀ s) : Kept s₀ (refuseWrite s h a) := hs.violation.sendError

/-! ## Messages as the reduce-and-apply units take them -/

protected theorem digestDone {e : BlockEntry} {copy : List (Nat × List Byte)} (hs : Kept s₀ s) : Kept s₀ (digestDone s e copy) :=
  .settle (.compareDigests (.ite hs.sendDigests hs))

protected theorem acceptDigest {m : DigestMsg} {copy : List (Nat × List Byte)} {e : BlockEntry} (hs : Kept s₀ s) :
    Kept s₀ (acceptDigest m copy s e) :=
  .ite hs.bump hs.bump.setBlk.compareDigests.settle

protected theorem takeRau {m : Message} {copy : List (Nat × List Byte)} (hs : Kept s₀ s) : Kept s₀ (takeRau s m copy) := by
  unfold takeRau
  split
  · exact hs.acceptReduce.settle
  · exact hs.acceptPart.settle
  · exact hs.acceptGrad
  · split
    · exact hs.acceptDigest
    · exact hs
  · exact hs.acceptParam
  · exact hs.acceptBarrier
  · exact hs

protected theorem offerRau {m : Message} {copy : List (Nat × List Byte)} (hs : Kept s₀ s) : Kept s₀ (offerRau s m copy) :=
  .ite hs.put hs.takeRau

protected theorem pumpRau (hs : Kept s₀ s) : Kept s₀ (pumpRau s) := hs.put.forEach fun _ _ h => h.offerRau

/-! ## The reset controller: levels and sources -/

protected theorem resetBlockRegs {blk inst : Nat} {keep : Nat → Bool} (hs : Kept s₀ s) : Kept s₀ (resetBlockRegs s blk inst keep) :=
  hs.resetRegs

protected theorem evgHostReset (hs : Kept s₀ s) : Kept s₀ (evgHostReset s) := by
  unfold evgHostReset
  extract_lets _ _ _ s₂
  have hs₂ : Kept s₀ s₂ := hs.put.forEach fun _ _ h => h.setPend
  exact .evgSettle (hs₂.forEach fun _ _ h => h.wf.wf)

protected theorem hostReset {reason : Nat} (hs : Kept s₀ s) : Kept s₀ (hostReset s reason) := by
  unfold hostReset
  extract_lets _ _ _ s₃
  have hs₃ : Kept s₀ s₃ := .wf (hs.loseHostLink.loseGrants.resumeAll.forEach fun _ _ h => h.resetBlockRegs)
  exact hs₃.put.put.evgHostReset.syncPage

/-- A reset leaves as many fronds, ports and sources as a device has, whatever stood there before. -/
protected theorem deviceReset {level : Nat} (hs : Kept s₀ s) : Kept s₀ (deviceReset s level) := by
  unfold deviceReset
  extract_lets aon priv att marks store farWas s₁ s₂ s₃ s₄ s₅ s₆
  have hs₁ : Kept s₀ s₁ := {
    memory_wf := fun w => spWf_spClear (d := fun _ => (0 : Byte)) (fun k => !keepKey store level k) (hs.memory_wf w)
    registers_wf := fun w => spWf_spClear (d := regReset) (fun r => !keepReg level r) (hs.registers_wf w)
    fronds_length := fun _ => List.length_replicate
    stacks_length := fun w => (List.length_map (resetStack level)).trans (hs.stacks_length w)
    ports_length := fun _ => List.length_replicate
    sources_length := fun _ => List.length_replicate }
  have hs₂ : Kept s₀ s₂ := hs₁.setReg
  have hs₃ : Kept s₀ s₃ := hs₂.wf.wf
  have hs₄ : Kept s₀ s₄ := hs₃.forEach fun _ _ h => h.wf
  have hs₅ : Kept s₀ s₅ := hs₄.forEach fun _ _ h => h.wf.wf.wf
  have hs₆ : Kept s₀ s₆ := .ite hs₅.emit hs₅
  exact hs₆.syncPage

protected theorem markSource {src l : Nat} (hs : Kept s₀ s) : Kept s₀ (markSource s src l) := hs.setReg.wf.wf

protected theorem failStart (hs : Kept s₀ s) : Kept s₀ (failStart s) := .ite hs.wf.wf.put.setFailPin hs.wf

protected theorem leaveRecovery (hs : Kept s₀ s) : Kept s₀ (leaveRecovery s) := .ite hs.put.wf.wf hs

protected theorem abandonBlock (hs : Kept s₀ s) : Kept s₀ (abandonBlock s) := hs.wf.wf.put.wf

protected theorem rerunLookups {n : Nat} (hs : Kept s₀ s) : Kept s₀ (rerunLookups s n) :=
  hs.put.forEach fun _ _ h => h.forEach fun _ _ h' => h'.sendReq

protected theorem pumpFlows (hs : Kept s₀ s) : Kept s₀ (pumpFlows s) := hs.forEach fun _ _ h => h.flowPump

protected theorem blockReinit {c : Nat} (hs : Kept s₀ s) : Kept s₀ (blockReinit s c) :=
  .ite (.pumpParams (.ite hs.wf.modFrond hs.wf)) <| .ite hs.rerunLookups.returnSpilled.resumeAll.pumpUnits <| .ite hs.wf.emit <|
  .ite hs.tierPressure.resume <| .ite hs.restartScale <| .ite hs <|
  .ite hs.restartPairs.settle.pumpUnits.pumpRau (.pumpFlows (hs.forEach fun _ _ h => .ite h.setPortState h))

protected theorem endBlock {c : Nat} (hs : Kept s₀ s) : Kept s₀ (endBlock s c) := hs.abandonBlock.blockReinit

protected theorem blockKept {c : Nat} (hs : Kept s₀ s) : Kept s₀ (blockKept s c) :=
  .ite hs.modFrond hs.resumeAll.advanceBlocks.settle.pumpUnits.pumpRau.pumpFlows

protected theorem assertHost {reason : Nat} (hs : Kept s₀ s) : Kept s₀ (assertHost s reason) := by
  unfold assertHost
  extract_lets s₁
  have hs₁ : Kept s₀ s₁ := by
    unfold s₁
    split
    · exact .ite hs.endBlock hs.abandonBlock.blockKept
    · exact hs
  split
  · exact hs
  · exact hs₁.hostReset.put

protected theorem drainStacks (hs : Kept s₀ s) : Kept s₀ (drainStacks s) := hs.forEach fun _ _ h => .ite h.completeAccepted h

protected theorem fallInto {level reason : Nat} {announce : Bool} (hs : Kept s₀ s) : Kept s₀ (fallInto s level reason announce) := by
  unfold fallInto
  extract_lets _ s₂
  have hs₂ : Kept s₀ s₂ := .loseHostLink (.ite hs.enterFailed hs.stopDataPlane.abortRunning)
  exact .deviceReset (.leaveRecovery (.put (.ite hs₂.drainStacks hs₂)))

protected theorem assertDevice {src level reason : Nat} (hs : Kept s₀ s) : Kept s₀ (assertDevice s src level reason) :=
  .ite (.ite hs.put.deviceReset hs.wf) (.ite hs.wf.failStart.fallInto hs.fallInto)

protected theorem assertSource {src reason : Nat} (hs : Kept s₀ s) : Kept s₀ (assertSource s src reason) :=
  .ite hs (.ite hs.bump (.ite hs.markSource (.ite hs.markSource.assertHost hs.markSource.assertDevice)))

protected theorem loseAon (hs : Kept s₀ s) : Kept s₀ (loseAon s) := by
  unfold loseAon
  extract_lets s₁ s₂ s₃ s₄
  have hs₁ : Kept s₀ s₁ := hs.put
  have hs₂ : Kept s₀ s₂ := hs₁.wf.deviceReset
  have hs₃ : Kept s₀ s₃ := hs₂.put
  have hs₄ : Kept s₀ s₄ := hs₃.put
  exact hs₄.setReg.setReg.syncPage

protected theorem onRelease {d : Nat} (hs : Kept s₀ s) : Kept s₀ (onRelease s d) := by
  unfold onRelease
  extract_lets _ s₁
  have hs₁ : Kept s₀ s₁ := .ite hs.wf hs
  exact .ite hs₁.emit (.ite hs.put (.ite (hs.relevel.forEach fun _ _ h => .ite h.setPortState h) hs))

protected theorem releaseDomains (hs : Kept s₀ s) : Kept s₀ (releaseDomains s) := hs.forEach fun _ _ h => .ite h.put.onRelease h

protected theorem releaseDevice (hs : Kept s₀ s) : Kept s₀ (releaseDevice s) := .releaseDomains (.wf (.setReg (.ite hs.put.put hs.put)))

protected theorem sampleStraps {x : Straps} (hs : Kept s₀ s) : Kept s₀ (sampleStraps s x) := by
  unfold sampleStraps
  exact hs.wf.put

protected theorem gainLock {d : Nat} {x : Straps} (hs : Kept s₀ s) : Kept s₀ (gainLock s d x) := by
  unfold gainLock
  extract_lets _ _ _ s₂ _ s₃
  have hs₂ : Kept s₀ s₂ := hs.setReg.put.sampleStraps
  have hs₃ : Kept s₀ s₃ := .ite (.ite hs₂.put hs₂) hs.setReg
  exact .ite hs hs₃.releaseDomains

/-! ## BLOCK resets: the quiesce handshake -/

protected theorem askIdle {c : Nat} (hs : Kept s₀ s) : Kept s₀ (askIdle s c) :=
  .ite hs.modFrond (.ite (hs.forEach fun _ _ h => h.abandonPage) hs)

protected theorem resetFrond {f : Nat} (hs : Kept s₀ s) : Kept s₀ (resetFrond s f) := hs.resetBlockRegs.modFrond

protected theorem resetSorus {n : Nat} (hs : Kept s₀ s) : Kept s₀ (resetSorus s n) := by
  unfold resetSorus
  exact hs.bump.resetBlockRegs.put

protected theorem resetBaseDie {n : Nat} (hs : Kept s₀ s) : Kept s₀ (resetBaseDie s n) := hs.resetBlockRegs.wf.wf.wf.modStack

protected theorem resetTier (hs : Kept s₀ s) : Kept s₀ (resetTier s) := by
  unfold resetTier
  exact .put (.resetBlockRegs (hs.forEach fun _ _ h => h.endMig.releaseHeld))

protected theorem resetLinkDie {die : Nat} (hs : Kept s₀ s) : Kept s₀ (resetLinkDie s die) :=
  .relevel (.put (.resetBlockRegs (hs.forEach fun _ _ h => h.leaveUp.modPort)))

protected theorem assertBlock {c : Nat} (hs : Kept s₀ s) : Kept s₀ (assertBlock s c) :=
  .ite hs.resetFrond <| .ite hs.resetSorus <| .ite hs.resetBaseDie <| .ite hs.resetTier <| .ite hs.resetBlockRegs <|
  .ite hs.resetLoader <| .ite hs.clearPairs.resetBlockRegs hs.resetLinkDie

protected theorem startBlock {c : Nat} {soft : Bool} (hs : Kept s₀ s) : Kept s₀ (startBlock s c soft) :=
  .ite hs hs.wf.wf.wf.wf.wf.wf.put.askIdle

protected theorem reportNotDone {c : Nat} (hs : Kept s₀ s) : Kept s₀ (reportNotDone s c) := by
  unfold reportNotDone
  exact hs.put

protected theorem endWait {c : Nat} {out : Bool} (hs : Kept s₀ s) : Kept s₀ (endWait s c out) := hs.wf.wf.wf.put.reportNotDone.assertBlock

/-! ## The management controller: requests and responses -/

protected theorem respond {r : MgtReq} {status : Nat} {body : List Byte} (hs : Kept s₀ s) : Kept s₀ (respond s r status body) := by
  unfold respond
  extract_lets _ _ _ _ s₃
  have hs₃ : Kept s₀ s₃ := .wf (.wf (.wf (.wf (hs.forEach fun _ _ h => h.setReg))))
  exact .ite hs₃.evgFireIf hs.emit

protected theorem counterBody {frozen : Bool} (hs : Kept s₀ s) : Kept s₀ (counterBody s frozen).2 := by
  unfold counterBody
  split
  · exact .snd hs
  · exact .snd hs.takeFree.takeFree

protected theorem setAttended {b : Bool} (hs : Kept s₀ s) : Kept s₀ (setAttended s b) := hs.wf

protected theorem writePairs {lost : Option Nat} {n : Nat} {ps : List (List Byte)} (hs : Kept s₀ s) :
    Kept s₀ (writePairs lost n ps s).2.2 := by
  induction ps generalizing s n with
  | nil => exact hs
  | cons p ps ih =>
    unfold writePairs
    extract_lets
    split
    · exact hs.setAttended
    · split
      · exact hs
      · exact ih hs.put

protected theorem writeFuses {r : MgtReq} (hs : Kept s₀ s) : Kept s₀ (writeFuses s r) := .ite hs.respond hs.writePairs.respond

protected theorem fwLoad {r : MgtReq} (hs : Kept s₀ s) : Kept s₀ (fwLoad s r) :=
  .ite hs.respond (.ite hs.respond (.ite hs.put.setAttended.respond (.ite (.ite hs.put.put.respond hs.put.respond) hs.put.respond)))

protected theorem beginMargin {r : MgtReq} (hs : Kept s₀ s) : Kept s₀ (beginMargin s r) := by
  unfold beginMargin
  extract_lets _ _ _ refuse _ _ _ s₁ s₂ s₃
  have h_refuse : ∀ e, Kept s₀ (refuse e) := fun _ => hs.wf.respond
  have hs₁ : Kept s₀ s₁ := hs.wf.wf.wf
  have hs₂ : Kept s₀ s₂ := hs₁.wf.wf
  have hs₃ : Kept s₀ s₃ := hs₂.wf
  exact .ite hs.respond (.ite (h_refuse _) (.ite (h_refuse _) (.ite (h_refuse _) hs₃.put)))

protected theorem mgtEffect {r : MgtReq} (hs : Kept s₀ s) : Kept s₀ (mgtEffect s r) := by
  unfold mgtEffect
  split
  · exact hs.respond
  · exact hs.respond
  · exact hs.respond
  · split
    · extract_lets x
      have hx : Kept s₀ x.2 := hs.counterBody
      exact hx.respond
    · exact hs.respond
  · exact hs.respond
  · exact .ite hs.respond hs.respond
  · exact hs.respond
  · exact hs.writeFuses
  · exact .ite hs.respond hs.put.respond
  · exact hs.fwLoad
  · split
    · exact .ite hs.put.respond hs.respond
    · exact hs.respond
  · exact hs.respond.assertSource
  · exact hs.beginMargin
  · split
    · exact hs.wf.respond
    · exact hs.respond
  · exact hs.enterFailed.respond
  · exact .ite hs.respond hs.respond
  · exact hs.respond

protected theorem mgtServe {r : MgtReq} (hs : Kept s₀ s) : Kept s₀ (mgtServe s r) :=
  .ite hs.respond (.ite hs.respond (.ite hs.respond hs.mgtEffect))

protected theorem mgtPump {k : Nat} (hs : Kept s₀ s) : Kept s₀ (mgtPump k s) := by
  induction k generalizing s with
  | zero => exact hs
  | succ k ih =>
    unfold mgtPump
    split
    · exact hs
    · exact .ite (ih (.mgtServe hs.put)) hs

protected theorem mgtArrive {r : MgtReq} (hs : Kept s₀ s) : Kept s₀ (mgtArrive s r) := .ite hs (.ite hs.respond (.ite hs.mgtServe hs.put))

protected theorem mgtCtlWrite {v : Nat} {env : MgtEnv} (hs : Kept s₀ s) : Kept s₀ (mgtCtlWrite s v env) :=
  .ite hs.wf (.ite hs.wf.wf.wf.respond hs.wf.wf.wf.mgtArrive)

end Sys2Proof.Laws.Kept
end

section
/-! SUPPORT. What the operations of what single commands run keep: one lemma for each operation, that cites those of the operations it is made of. -/

namespace Sys2Proof.Laws.Kept

-- Thousands of short proofs elaborated at once ask for more threads than Lean's memory limit holds.
set_option Elab.async false

open Sys2Proof.Machine

variable {s₀ s t : State}

/-! ## The rows of the base dies -/

protected theorem onStack {n : Nat} {g : State → State} (hs : Kept s₀ s) (hg : ∀ s, Kept s₀ s → Kept s₀ (g s)) :
    Kept s₀ (onStack n g s) :=
  .ite (hg _ hs) hs

protected theorem stackGoesOn {n : Nat} (hs : Kept s₀ s) : Kept s₀ (stackGoesOn s n) := hs.pumpTx.resumeAll.pumpRau

protected theorem txsGone {n : Nat} {u : State} (hs : Kept s₀ s) : Kept s₀ (txsGone u s n) := .ite hs.resumeAll hs

/-! ## The rows of the management controller -/

protected theorem mctpAnswer {iface : Nat} {body : List Byte} (hs : Kept s₀ s) : Kept s₀ (mctpAnswer s iface body) := .ite hs hs.emit

/-! ## Commands of the event gatherer -/

protected theorem evgClaimOn {t : Nat} (hs : Kept s₀ s) : Kept s₀ (evgClaimOn s t).2 := by
  unfold evgClaimOn
  extract_lets s₁
  have hs₁ : Kept s₀ s₁ := hs.wf
  split
  · exact .snd hs₁
  · extract_lets _ s₂
    have hs₂ : Kept s₀ s₂ := hs₁.setPend
    exact .snd hs₂.put

protected theorem evgCompleteOn {t src : Nat} (hs : Kept s₀ s) : Kept s₀ (evgCompleteOn s t src) := by
  unfold evgCompleteOn
  extract_lets _ _ s₂ s₃
  have hs₂ : Kept s₀ s₂ := .ite hs.put hs.put.wf
  have hs₃ : Kept s₀ s₃ := hs₂.forEach fun _ _ h => .ite h h.evgRoute
  exact .ite hs₃.evgNotifyAs hs.wf.wf

protected theorem evgPendWrite {w v : Nat} (hs : Kept s₀ s) : Kept s₀ (evgPendWrite s w v) := by
  unfold evgPendWrite
  extract_lets _ s₁
  have hs₁ : Kept s₀ s₁ := hs.forEach fun _ _ h => .ite h.setPend h.setPend.wf
  exact hs₁.forEach fun _ _ h => h.evgPendSource

protected theorem evgRelease (hs : Kept s₀ s) : Kept s₀ (evgRelease s) := hs.put.wf.forEach fun _ _ h => h.evgPendSource

protected theorem evgCtlWrite {v : Nat} (hs : Kept s₀ s) : Kept s₀ (evgCtlWrite s v) := by
  unfold evgCtlWrite
  extract_lets s₁
  have hs₁ : Kept s₀ s₁ := .ite hs.wf hs
  exact .ite (.ite hs₁ hs₁.put.wf) (.ite hs₁.evgRelease hs₁)

/-! ## The rows of the reset controller -/

protected theorem blockWrite {v : Nat} (hs : Kept s₀ s) : Kept s₀ (blockWrite s v) :=
  .ite hs.wf (.ite hs.wf.wf (.ite hs.wf.wf.bump hs.wf.wf.markSource.startBlock))

/-! ## Accesses of the host to BAR0 and the window BAR2: registers -/

protected theorem readReg {h : RegHit} (hs : Kept s₀ s) : Kept s₀ (readReg s h).2 := by
  unfold readReg
  split
  · exact .snd hs.bump.wf
  · split
    · exact hs.evgClaimOn
    · exact .snd (.ite hs.put hs)

protected theorem msixFlush (hs : Kept s₀ s) : Kept s₀ (msixFlush s) := .ite hs (hs.put.forEach fun _ _ h => h.emit)

protected theorem writeReg {h : RegHit} {v : Nat} (hs : Kept s₀ s) : Kept s₀ (writeReg s h v) :=
  .ite hs.evgCtlWrite <| .ite hs.evgPendWrite <| .ite hs.evgCompleteOn <| .ite hs.setReg.evgSettle <| .ite hs.cntCtlWrite <|
  .ite hs.tracePush <| .ite hs.setReg.put <| .ite hs.attach <| .ite hs.setReg.noteBase <| .ite hs.setReg.noteBase <|
  .ite hs.setReg.noteBase <| .ite hs.cmdCfgWrite <| .ite hs.blockWrite <| .ite hs.mgtCtlWrite <| .ite hs.setReg.put <|
  .ite hs.setReg.msixFlush hs.setReg

protected theorem barRead {source addr req off n : Nat} (hs : Kept s₀ s) : Kept s₀ (barRead s source addr req off n) := by
  unfold barRead
  split
  · exact hs.emit
  · extract_lets x
    exact hs.readReg.emit
  · extract_lets x
    have hs.readReg : Kept s₀ x.2 := hs.readReg
    exact hs.readReg.readReg.emit
  · exact hs.violRead

protected theorem barWrite {source addr req off n v : Nat} (hs : Kept s₀ s) : Kept s₀ (barWrite s source addr req off n v) := by
  unfold barWrite
  split
  · exact hs
  · exact hs.writeReg
  · exact hs.writeReg.writeReg
  · exact hs.violWrite

protected theorem winRead {req off n : Nat} {err : MemErr} (hs : Kept s₀ s) : Kept s₀ (winRead s req off n err) := by
  unfold winRead
  extract_lets
  refine .ite hs.violRead ?_
  split
  · exact hs.newRead
  · exact hs.newRead
  · exact hs.afterRead fun _ h => .ite h.cntAdd.emit h.cntAdd.modFrond
  · exact hs.barRead
  · exact hs.violRead

protected theorem winWrite {req off : Nat} {bs : List Byte} (hs : Kept s₀ s) : Kept s₀ (winWrite s req off bs) := by
  unfold winWrite
  extract_lets
  refine .ite hs.violWrite ?_
  split
  · exact hs.commitWrite.settle
  · exact hs.getD fun _ ht => hs.devWrite ht
  · exact hs.getD fun _ ht => hs.devWrite ht
  · exact hs.barWrite
  · exact hs.violWrite

/-! ## Commands of the array, the move engine and the op lists -/

protected theorem frondReady {f : Nat} (hs : Kept s₀ s) : Kept s₀ (frondReady s f) := .modFrond (hs.wf.forEach fun _ _ h => h.emit)

/-! ## Commands of migrations in progress, critical-row fetches and peat sources -/

protected theorem meetCopy {src : Place} {ls : List Nat} (hs : Kept s₀ s) : Kept s₀ (meetCopy s src ls) := by
  unfold meetCopy
  split
  · exact hs.forEach fun _ _ h => h.meetErrors
  · exact hs

protected theorem afterMeeting {p : Nat} {g : State → Migration → State} (hs : Kept s₀ s) (hg : ∀ s a, Kept s₀ s → Kept s₀ (g s a)) :
    Kept s₀ (afterMeeting s p g) := by
  unfold afterMeeting
  split
  · exact .ite hs (hg _ _ hs)
  · exact hs

protected theorem pageArrived {p : Nat} {dst : Place} (hs : Kept s₀ s) : Kept s₀ (pageArrived s p dst) := by
  unfold pageArrived
  extract_lets s₁
  have hs₁ : Kept s₀ s₁ := hs.dropRequests
  split
  · exact .ite hs₁.dropDemand hs₁.dropDemand.put
  · exact .ite hs₁ hs₁.addDemand

protected theorem flipMig {m : Migration} (hs : Kept s₀ s) : Kept s₀ (flipMig s m) := by
  unfold flipMig
  extract_lets s₁ _ _ _ _ s₄ s₅ _ _ _ _ s₈
  have hs₁ : Kept s₀ s₁ := by
    unfold s₁
    split
    · exact hs.copyLines
    · exact hs
  have hs₄ : Kept s₀ s₄ := hs₁.setPte.put.pageArrived.raiseTo
  have hs₅ : Kept s₀ s₅ := by
    unfold s₅
    split
    · exact hs₄.bump
    · exact hs₄
  have hs₈ : Kept s₀ s₈ := .ite hs₅.bump.put.wf hs₅
  exact hs₈.releaseHeld.pagesMoved.resumeAll

protected theorem criticalFetch {a n : Nat} (hs : Kept s₀ s) : Kept s₀ (criticalFetch s a n) := by
  unfold criticalFetch
  extract_lets s₁
  have hs₁ : Kept s₀ s₁ := by
    unfold s₁
    refine .forEach hs fun s a' h => ?_
    split
    · extract_lets s₃
      have hs₃ : Kept s₀ s₃ := h.bump.placeRead
      exact .touch (.ite hs₃.put hs₃)
    · exact h
  exact hs₁.put.pumpReqs.serveWaits.pumpInput

/-! ## Supply dips, the power manager and thermal throttling -/

protected theorem rstFlag {f en : Field} (hs : Kept s₀ s) : Kept s₀ (rstFlag s f en) := hs.flagEvent

protected theorem supplyReading {mv : Nat} (hs : Kept s₀ s) : Kept s₀ (supplyReading s mv) := hs.wf.wf

protected theorem countThrottle (hs : Kept s₀ s) : Kept s₀ (countThrottle s) := by
  unfold countThrottle
  exact .put (.ite hs hs.bump)

protected theorem dramReading {n c : Nat} (hs : Kept s₀ s) : Kept s₀ (dramReading s n c) := by
  unfold dramReading
  extract_lets _ _ _ _ _ _ _ s₃
  have hs₃ : Kept s₀ s₃ := .wf (.ite hs.wf.wf.put (.ite hs.wf.wf.put hs.wf.wf))
  exact .ite hs₃.rstFlag hs₃

/-! ## Commands of the reduce-and-apply units, the step barrier, the scale unit's reduction and the start of a step -/

protected theorem onDataAt {t : Nat} {g : State → State} (hs : Kept s₀ s) (hg : ∀ s, Kept s₀ s → Kept s₀ (g s)) :
    Kept s₀ (onDataAt t g s) :=
  hs.advance.onData hg

protected theorem withBlock {block : Nat} {g : State → BlockEntry → State} (hs : Kept s₀ s) (hg : ∀ s a, Kept s₀ s → Kept s₀ (g s a)) :
    Kept s₀ (withBlock block g s) := by
  unfold withBlock
  split
  · extract_lets _ s₁
    have hs₁ : Kept s₀ s₁ := hs.forEach fun _ _ h => h.meetAt
    exact .ite hs (.ite hs₁ (hg _ _ hs₁))
  · exact hs

protected theorem windowCloseAt (hs : Kept s₀ s) : Kept s₀ (windowCloseAt s) := .ite hs hs.closeWindow.cancelExpected

protected theorem partDeadlineAt (hs : Kept s₀ s) : Kept s₀ (partDeadlineAt s) := .ite hs hs.emptyParts

/-! ## Commands of the sparse update path -/

protected theorem takeUpdate {m : Message} (hs : Kept s₀ s) : Kept s₀ (takeUpdate m s) := hs.onData fun _ h => h.takeInput.settle

end Sys2Proof.Laws.Kept
end

section
/-! SUPPORT. What the commands keep: the next state a command answers has kept what its state had. -/

namespace Sys2Proof.Laws.KeptNext

set_option Elab.async false

open Sys2Proof.Machine

variable {s₀ s : State}

/-! ## Commands of the look-up path -/

protected theorem execLookupBatchAdmit {table mb : Nat} (hs : Kept s₀ s) : KeptNext s₀ (execLookupBatchAdmit table mb s) := by
  unfold execLookupBatchAdmit
  refine .next ?_
  refine .ite ?_ hs
  split
  · split
    · extract_lets r
      have hr : Kept s₀ r.1 := hs.localReads
      exact .ite hr hr.admitBatch
    · exact hs
  · exact hs

protected theorem execLookupReq {r : ReqArrival} (hs : Kept s₀ s) : KeptNext s₀ (execLookupReq r s) :=
  .next (hs.onData fun _ h => h.upsetCache.acceptReq)

protected theorem execLookupRsp {m : LookupRsp} (hs : Kept s₀ s) : KeptNext s₀ (execLookupRsp m s) :=
  .next (hs.onData fun _ h => h.offerRsp)

protected theorem execLookupEnd {source step count : Nat} (hs : Kept s₀ s) : KeptNext s₀ (execLookupEnd source step count s) :=
  .next (hs.onData fun _ h => .ite h.queueMsg h.acceptEnd)

protected theorem execTableVersionRetire {table : Nat} (hs : Kept s₀ s) : KeptNext s₀ (execTableVersionRetire table s) :=
  .next (.ite hs.retireVersion hs)

/-! ## Commands of the counter block and the trace unit -/

protected theorem execThaw {v : Nat} (hs : Kept s₀ s) : KeptNext s₀ (execThaw v s) := .next hs.cntCtlWrite

protected theorem execTraceEn {v : Nat} (hs : Kept s₀ s) : KeptNext s₀ (execTraceEn v s) := .next hs.cntCtlWrite

protected theorem execCntTraceMark {v : Nat} (hs : Kept s₀ s) : KeptNext s₀ (execCntTraceMark v s) := .next hs.tracePush

protected theorem execFreeze {t : Nat} (hs : Kept s₀ s) : KeptNext s₀ (execFreeze t s) := by
  unfold execFreeze
  extract_lets _ _ _ _ s₃
  have hs₃ : Kept s₀ s₃ := hs.advance.freezeNow.wf.setReg
  refine .next ?_
  refine .ite ?_ hs.advance
  split
  · exact hs₃.put.finOk
  · exact hs₃

/-! ## The element engine: invocations, lanes, regions, conversions, row reductions, completion -/

protected theorem elemCmd {op : Nat} {whole ends : Bool} {f : Nat} {i : EInstr} {eff : Nat → Invocation → State → State}
    (hs : Kept s₀ s) (heff : ∀ a a' s, Kept s₀ s → Kept s₀ (eff a a' s)) : KeptNext s₀ (elemCmd op whole ends f i eff s) := by
  unfold elemCmd
  split
  · exact .fault _ _
  · refine .next ?_
    split
    · exact hs.afterRead fun _ h => .advanceEngine (heff _ _ _ h.countCycles)
    · exact hs

/-! ## Commands of the tier manager -/

protected theorem execHeatEpoch {t : Nat} (hs : Kept s₀ s) : KeptNext s₀ (execHeatEpoch t s) := by
  unfold execHeatEpoch
  extract_lets _ _ _ _ _ _ s₄
  have hs₄ : Kept s₀ s₄ := .put (.setReg (hs.advance.forEach fun _ _ h => h.setReg))
  refine .next ?_
  refine .ite hs.advance ?_
  refine .ite ?_ hs₄
  split
  · exact hs₄.applyPolicy
  · exact hs₄

protected theorem execScanVisit (hs : Kept s₀ s) : KeptNext s₀ (execScanVisit s) := by
  unfold execScanVisit
  refine .next ?_
  split
  · exact hs.scanPage
  · exact .scanPage (.ite hs.put hs)
  · exact hs

protected theorem execPromote (hs : Kept s₀ s) : KeptNext s₀ (execPromote s) := by
  unfold execPromote
  refine .next ?_
  split
  · exact hs
  · refine .ite hs ?_
    split
    · exact hs
    · split
      · exact hs
      · exact hs.put.startMig

protected theorem execDemote (hs : Kept s₀ s) : KeptNext s₀ (execDemote s) := by
  unfold execDemote
  refine .next ?_
  split
  · exact hs
  · refine .ite hs ?_
    split
    · exact hs
    · split
      · exact hs
      · exact hs.put.startMig

protected theorem execRebalance (hs : Kept s₀ s) : KeptNext s₀ (execRebalance s) := by
  unfold execRebalance
  refine .next ?_
  split
  · exact hs
  · refine .ite hs ?_
    split
    · split
      · exact hs.put.startMig
      · exact hs
    · split
      · exact hs
      · exact hs.put.put.startMig

protected theorem execDemand (hs : Kept s₀ s) : KeptNext s₀ (execDemand s) := by
  unfold execDemand
  refine .next ?_
  split
  · exact hs
  · split
    · exact hs.startMig
    · split
      · exact hs.startMig
      · exact .ite hs hs.tierFull

protected theorem execEvacuate (hs : Kept s₀ s) : KeptNext s₀ (execEvacuate s) := by
  unfold execEvacuate
  refine .next ?_
  split
  · exact hs
  · split
    · exact hs.startMig
    · exact hs

protected theorem execRevoke (hs : Kept s₀ s) : KeptNext s₀ (execRevoke s) := by
  unfold execRevoke
  refine .next ?_
  split
  · exact hs
  · split
    · exact hs.startMig
    · exact hs

protected theorem execRebuild (hs : Kept s₀ s) : KeptNext s₀ (execRebuild s) := by
  unfold execRebuild
  extract_lets _ s₁
  have hs₁ : Kept s₀ s₁ := .ite hs.tierFull hs
  refine .next ?_
  split
  · exact hs.takeRebuilt
  · split
    · exact hs₁.forEach fun _ _ h => h.startRebuild
    · exact hs₁

/-! ## The recovery rows and the soredium rows -/

protected theorem execSilent {n : Notice} (hs : Kept s₀ s) : KeptNext s₀ (execSilent n s) := .next (hs.onData fun _ h => h.acceptNotice)

protected theorem execHeard {n : Notice} (hs : Kept s₀ s) : KeptNext s₀ (execHeard n s) := .next (hs.onData fun _ h => h.acceptNotice)

protected theorem execLost {n : Notice} (hs : Kept s₀ s) : KeptNext s₀ (execLost n s) := .next (hs.onData fun _ h => h.acceptNotice)

protected theorem execRecoveryCommit {t : Nat} (hs : Kept s₀ s) : KeptNext s₀ (execRecoveryCommit t s) :=
  .next (hs.advance.onData fun _ h => h.commitDue)

protected theorem execPieceRd {subject origin : Nat} {k : SlotKey} (hs : Kept s₀ s) : KeptNext s₀ (execPieceRd subject origin k s) :=
  .next (hs.onData fun _ h => h.servePiece)

protected theorem execPiece {subject origin : Nat} {k : SlotKey} {bytes : List Byte} (hs : Kept s₀ s) :
    KeptNext s₀ (execPiece subject origin k bytes s) :=
  .next (hs.onData fun _ h => h.acceptPiece)

protected theorem execFwd {subject origin : Nat} {r : SorediumRec} (hs : Kept s₀ s) : KeptNext s₀ (execFwd subject origin r s) :=
  .next (hs.onData fun _ h => h.acceptFwd)

protected theorem execStop {subject origin : Nat} {k : SlotKey} (hs : Kept s₀ s) : KeptNext s₀ (execStop subject origin k s) :=
  .next (hs.onData fun _ h => h.acceptStop)

protected theorem execStopped {subject origin : Nat} {k : SlotKey} (hs : Kept s₀ s) : KeptNext s₀ (execStopped subject origin k s) :=
  .next (hs.onData fun _ h => h.acceptStopped)

protected theorem execDone {subject origin epoch : Nat} (hs : Kept s₀ s) : KeptNext s₀ (execDone subject origin epoch s) :=
  .next (hs.onData fun _ h => h.acceptDone)

protected theorem execParityScrub {table : Nat} {slot : HeldSlot} {rem : Bool} (hs : Kept s₀ s) :
    KeptNext s₀ (execParityScrub table slot rem s) :=
  .next (hs.onData fun _ h => h.beginScrub)

protected theorem execSoredium {m : Soredium} (hs : Kept s₀ s) : KeptNext s₀ (execSoredium m s) :=
  .next (hs.onData fun _ h => h.takeSoredium)

protected theorem execSorediumAck {source step seq : Nat} (hs : Kept s₀ s) : KeptNext s₀ (execSorediumAck source step seq s) :=
  .next (hs.onData fun _ h => h.offerAck)

protected theorem execRowCommit {own table row : Nat} {rem : Bool} (hs : Kept s₀ s) :
    KeptNext s₀ (execRowCommit own table row rem s) := by
  unfold execRowCommit
  refine .next ?_
  refine .onData hs fun s h => ?_
  split
  · exact .ite h h.commitDone.pumpRecs
  · exact h

/-! ## The rows of the links and of peer memory accesses -/

protected theorem execData {x : Rx} {h : Hdr} {payload : List Byte} (hs : Kept s₀ s) : KeptNext s₀ (execData x h payload s) :=
  .next (hs.onSeq fun _ h' => h'.takeData)

protected theorem execHeartbeat {x : Rx} {b : Heartbeat} (hs : Kept s₀ s) : KeptNext s₀ (execHeartbeat x b s) :=
  .next (hs.onRaw fun _ h => .ite h h.takeHeartbeat)

protected theorem execLinkCtl {x : Rx} {nak laneChange : Bool} {lanes acked expected : Nat} {credits : List Nat} (hs : Kept s₀ s) :
    KeptNext s₀ (execLinkCtl x nak laneChange lanes acked expected credits s) :=
  .next (hs.onRaw fun _ h => h.takeLinkCtl)

protected theorem execError {x : Rx} {h : Hdr} {code vc msgSeq : Nat} {copy : Hdr} (hs : Kept s₀ s) :
    KeptNext s₀ (execError x h code vc msgSeq copy s) :=
  .next (hs.onSeq fun _ h' => h'.takeControl fun _ h'' => h''.takeError)

protected theorem execE2eAck {x : Rx} {h : Hdr} {vc next : Nat} (hs : Kept s₀ s) : KeptNext s₀ (execE2eAck x h vc next s) :=
  .next (hs.onSeq fun _ h' => h'.takeControl fun _ h'' => h''.takeAck)

protected theorem execDeviceFailed {x : Rx} {device reason time : Nat} (hs : Kept s₀ s) :
    KeptNext s₀ (execDeviceFailed x device reason time s) :=
  .next (hs.onRaw fun _ h => .ite h h.takeFailed)

protected theorem execIdle {port t : Nat} (hs : Kept s₀ s) : KeptNext s₀ (execIdle port t s) := .next hs.advance

protected theorem execReservedFrame {x : Rx} (hs : Kept s₀ s) : KeptNext s₀ (execReservedFrame x s) :=
  .next (hs.onRaw fun _ h => h.bump)

protected theorem execHeartbeatSend {t : Nat} (hs : Kept s₀ s) : KeptNext s₀ (execHeartbeatSend t s) := .next hs.advance.sendHeartbeats

protected theorem execLinkCtlSend {port t : Nat} (hs : Kept s₀ s) : KeptNext s₀ (execLinkCtlSend port t s) :=
  .next (.ite hs.advance.sendLinkCtl hs.advance)

protected theorem execHeartbeatSilence {port t : Nat} (hs : Kept s₀ s) : KeptNext s₀ (execHeartbeatSilence port t s) :=
  .next (.ite hs.advance.silencePort hs.advance)

protected theorem execMismatchTimeout {port t : Nat} (hs : Kept s₀ s) : KeptNext s₀ (execMismatchTimeout port t s) :=
  .next (.ite hs.advance.mismatchDue hs.advance)

protected theorem execLaneFault {port good t : Nat} (hs : Kept s₀ s) : KeptNext s₀ (execLaneFault port good t s) :=
  .next (.ite hs.advance.laneFault hs.advance)

protected theorem execRetrainDone {port t : Nat} (hs : Kept s₀ s) : KeptNext s₀ (execRetrainDone port t s) :=
  .next (.ite hs.advance.retrainDone hs.advance)

protected theorem execPortTrained {port good t : Nat} (hs : Kept s₀ s) : KeptNext s₀ (execPortTrained port good t s) := by
  unfold execPortTrained
  extract_lets _ _ s₂
  have hs₂ : Kept s₀ s₂ := hs.advance.wf.wf
  exact .next (.ite (.ite hs₂.portDown hs₂.setPortState.modPort) hs.advance)

protected theorem execPortTrainRetry {port t : Nat} (hs : Kept s₀ s) : KeptNext s₀ (execPortTrainRetry port t s) :=
  .next (.ite hs.advance.setPortState hs.advance)

protected theorem execE2eTimeout {dst vc t : Nat} (hs : Kept s₀ s) : KeptNext s₀ (execE2eTimeout dst vc t s) :=
  .next (.ite hs.advance hs.advance.flowResend)

protected theorem execLandingTimeout {src vc t : Nat} (hs : Kept s₀ s) : KeptNext s₀ (execLandingTimeout src vc t s) := by
  unfold execLandingTimeout
  refine .next ?_
  split
  · exact .ite hs.advance.setFlowIn.pumpLanding hs.advance
  · exact hs.advance

protected theorem execPlaneInvalidExpiry {dst vc t : Nat} (hs : Kept s₀ s) : KeptNext s₀ (execPlaneInvalidExpiry dst vc t s) := by
  unfold execPlaneInvalidExpiry
  extract_lets _ _ _ _ s₂
  have hs₂ : Kept s₀ s₂ := hs.advance.setFlowOut
  exact .next (.ite hs.advance (.ite hs₂.flowResend.flowPump hs₂))

protected theorem execE2eAckSend {src vc t : Nat} (hs : Kept s₀ s) : KeptNext s₀ (execE2eAckSend src vc t s) :=
  .next (.ite hs.advance.sendAck hs.advance)

protected theorem execMemWr {h : Hdr} {addr : Nat} {bytes : List Byte} (hs : Kept s₀ s) : KeptNext s₀ (execMemWr h addr bytes s) :=
  .next (hs.onData fun _ h' => .ite h'.commitWrite.settle h'.refuseWrite)

protected theorem execMemRd {h : Hdr} {addr len : Nat} (hs : Kept s₀ s) : KeptNext s₀ (execMemRd h addr len s) := by
  unfold execMemRd
  extract_lets cpl
  have h_cpl : ∀ s status bs, Kept s₀ s → Kept s₀ (cpl s status bs) := fun _ _ _ h => h.sendMsg
  exact .next (hs.onData fun _ h' => .ite h'.sendError (.ite h'.newRead (.ite (h_cpl _ _ _ h') (h_cpl _ _ _ h'.violation))))

protected theorem execMemCpl {h : Hdr} {addr status seq : Nat} {bytes : List Byte} (hs : Kept s₀ s) :
    KeptNext s₀ (execMemCpl h addr status seq bytes s) :=
  .next (hs.onData fun _ h' => h'.loadData)

protected theorem execStoreWr {h : Hdr} {offset frond : Nat} {doneBit : Option Nat} {stride rowBytes : Nat} {bytes : List Byte}
    (hs : Kept s₀ s) : KeptNext s₀ (execStoreWr h offset frond doneBit stride rowBytes bytes s) := by
  unfold execStoreWr
  extract_lets
  refine .next ?_
  refine .onData hs fun s h' => ?_
  extract_lets s₁
  have hs₁ : Kept s₀ s₁ := h'.forEach fun _ _ h'' => h''.setBytes.cntAdd
  refine .ite h'.refuseWrite ?_
  split
  · extract_lets
    exact .ite hs₁.setSb.poolProgress hs₁.setSb
  · exact hs₁

/-! ## The rows of the base dies -/

protected theorem execRd64 {stack tag off : Nat} {err : LineErr} (hs : Kept s₀ s) : KeptNext s₀ (execRd64 stack tag off err s) :=
  .next (hs.onStack fun _ h => h.takeTx)

protected theorem execRd256 {stack tag off : Nat} {errs : List LineErr} (hs : Kept s₀ s) : KeptNext s₀ (execRd256 stack tag off errs s) :=
  .next (hs.onStack fun _ h => h.takeTx)

protected theorem execWr64 {stack tag off mask : Nat} {bytes : List Byte} {err : LineErr} (hs : Kept s₀ s) :
    KeptNext s₀ (execWr64 stack tag off mask bytes err s) :=
  .next (hs.onStack fun _ h => h.takeTx)

protected theorem execWr256 {stack tag off : Nat} {bytes : List Byte} (hs : Kept s₀ s) : KeptNext s₀ (execWr256 stack tag off bytes s) :=
  .next (hs.onStack fun _ h => h.takeTx)

protected theorem execMsg {stack : Nat} {m : Message} (hs : Kept s₀ s) : KeptNext s₀ (execMsg stack m s) :=
  .next (hs.onStack fun _ h => h.takeTx)

protected theorem execD2dFlit {stack : Nat} {up : Bool} {header : Nat} {rest : List Byte} (hs : Kept s₀ s) :
    KeptNext s₀ (execD2dFlit stack up header rest s) :=
  .next (hs.onStack fun _ h => h.takeFlit.txsGone)

protected theorem execD2dLinkControl {stack : Nat} {up nak : Bool} {seq : Nat} (hs : Kept s₀ s) :
    KeptNext s₀ (execD2dLinkControl stack up nak seq s) :=
  .next (hs.onStack fun _ h => h.takeControlFlit.txsGone)

protected theorem execD2dRetrainDone {stack : Nat} {r : TrainingEnd} (hs : Kept s₀ s) : KeptNext s₀ (execD2dRetrainDone stack r s) :=
  .next (hs.onStack fun _ h => h.retrainEnd.stackGoesOn)

protected theorem execPatrolScrub {stack : Nat} {err : LineErr} (hs : Kept s₀ s) : KeptNext s₀ (execPatrolScrub stack err s) :=
  .next (hs.onStack fun _ h => h.scrubLine)

protected theorem execRefresh {stack : Nat} {r : RefreshEnd} (hs : Kept s₀ s) : KeptNext s₀ (execRefresh stack r s) :=
  .next (hs.onStack fun _ h => h.modStack.bump)

protected theorem execRowRepairDone {stack channel frame : Nat} (hs : Kept s₀ s) :
    KeptNext s₀ (execRowRepairDone stack channel frame s) :=
  .next (hs.onStack fun _ h => h.repairDone.stackGoesOn)

protected theorem execStackInitDone {stack : Nat} (hs : Kept s₀ s) : KeptNext s₀ (execStackInitDone stack s) :=
  .next (hs.onStack fun _ h => .ite h h.initDone.stackGoesOn)

/-! ## The rows of the management controller -/

protected theorem execSetEndpointId {iface eid : Nat} (hs : Kept s₀ s) : KeptNext s₀ (execSetEndpointId iface eid s) :=
  .next (.ite hs (.ite hs.mctpAnswer hs.put.mctpAnswer))

protected theorem execGetEndpointId {iface : Nat} (hs : Kept s₀ s) : KeptNext s₀ (execGetEndpointId iface s) := .next hs.mctpAnswer

protected theorem execGetMctpVersionSupport {iface ty : Nat} (hs : Kept s₀ s) : KeptNext s₀ (execGetMctpVersionSupport iface ty s) :=
  .next hs.mctpAnswer

protected theorem execGetMessageTypeSupport {iface : Nat} (hs : Kept s₀ s) : KeptNext s₀ (execGetMessageTypeSupport iface s) :=
  .next hs.mctpAnswer

protected theorem execGetVendorDefinedMessageSupport {iface selector : Nat} (hs : Kept s₀ s) :
    KeptNext s₀ (execGetVendorDefinedMessageSupport iface selector s) :=
  .next hs.mctpAnswer

protected theorem execGetInfo {iface tag : Nat} (hs : Kept s₀ s) : KeptNext s₀ (execGetInfo iface tag s) := .next hs.mgtArrive

protected theorem execGetDigests {iface tag : Nat} (hs : Kept s₀ s) : KeptNext s₀ (execGetDigests iface tag s) := .next hs.mgtArrive

protected theorem execGetTelemetry {iface tag : Nat} (hs : Kept s₀ s) : KeptNext s₀ (execGetTelemetry iface tag s) := .next hs.mgtArrive

protected theorem execReadCounters {iface tag : Nat} {body : List Byte} (hs : Kept s₀ s) :
    KeptNext s₀ (execReadCounters iface tag body s) :=
  .next hs.mgtArrive

protected theorem execGetCerts {iface tag : Nat} (hs : Kept s₀ s) : KeptNext s₀ (execGetCerts iface tag s) := .next hs.mgtArrive

protected theorem execChallenge {iface tag : Nat} {body : List Byte} (hs : Kept s₀ s) : KeptNext s₀ (execChallenge iface tag body s) :=
  .next hs.mgtArrive

protected theorem execReadFuses {iface tag : Nat} (hs : Kept s₀ s) : KeptNext s₀ (execReadFuses iface tag s) := .next hs.mgtArrive

protected theorem execWriteFuses {iface tag : Nat} {body : List Byte} {env : MgtEnv} (hs : Kept s₀ s) :
    KeptNext s₀ (execWriteFuses iface tag body env s) :=
  .next hs.mgtArrive

protected theorem execDebugUnlock {iface tag : Nat} (hs : Kept s₀ s) : KeptNext s₀ (execDebugUnlock iface tag s) := .next hs.mgtArrive

protected theorem execFwLoad {iface tag : Nat} {body : List Byte} {env : MgtEnv} (hs : Kept s₀ s) :
    KeptNext s₀ (execFwLoad iface tag body env s) :=
  .next hs.mgtArrive

protected theorem execSetCounterPriv {iface tag : Nat} {body : List Byte} (hs : Kept s₀ s) :
    KeptNext s₀ (execSetCounterPriv iface tag body s) :=
  .next hs.mgtArrive

protected theorem execReset {iface tag : Nat} (hs : Kept s₀ s) : KeptNext s₀ (execReset iface tag s) := .next hs.mgtArrive

protected theorem execMargin {iface tag : Nat} {body : List Byte} (hs : Kept s₀ s) : KeptNext s₀ (execMargin iface tag body s) :=
  .next hs.mgtArrive

protected theorem execMarginRunDone {stack : Nat} {pins : List MarginPin} (hs : Kept s₀ s) :
    KeptNext s₀ (execMarginRunDone stack pins s) := by
  unfold execMarginRunDone
  extract_lets _ _ _ s₃ _ s₄
  have hs₃ : Kept s₀ s₃ := .wf (.wf (.wf (hs.forEach fun _ _ h => h.setReg)))
  have hs₄ : Kept s₀ s₄ := by
    unfold s₄
    split
    · exact .ite hs₃.put.respond hs₃
    · exact hs₃
  exact .next (.ite hs hs₄.stackGoesOn.mgtPump)

protected theorem execRawWindow {iface tag : Nat} {body : List Byte} (hs : Kept s₀ s) : KeptNext s₀ (execRawWindow iface tag body s) :=
  .next hs.mgtArrive

protected theorem execFailDevice {iface tag : Nat} (hs : Kept s₀ s) : KeptNext s₀ (execFailDevice iface tag s) := .next hs.mgtArrive

protected theorem execGetRepairLog {iface tag : Nat} {body : List Byte} (hs : Kept s₀ s) :
    KeptNext s₀ (execGetRepairLog iface tag body s) :=
  .next hs.mgtArrive

protected theorem execMailboxGo {v : Nat} {env : MgtEnv} (hs : Kept s₀ s) : KeptNext s₀ (execMailboxGo v env s) :=
  .next (.ite hs.mgtCtlWrite hs)

protected theorem execWatchdogExpiry (hs : Kept s₀ s) : KeptNext s₀ (execWatchdogExpiry s) := by
  unfold execWatchdogExpiry
  extract_lets _ _ _ s₂
  have hs₂ : Kept s₀ s₂ := .ite hs.markSource.wf hs.markSource
  exact .next (.ite hs (.ite hs₂.put.wf hs.assertSource))

protected theorem execAttendN {low : Bool} (hs : Kept s₀ s) : KeptNext s₀ (execAttendN low s) := .next hs.setAttended

protected theorem execFwBootVerifyDone (hs : Kept s₀ s) : KeptNext s₀ (execFwBootVerifyDone s) := by
  unfold execFwBootVerifyDone
  extract_lets _ _ _ _ _ s₂
  have hs₂ : Kept s₀ s₂ := .ite hs.put.wf.wf.releaseDomains hs.put
  exact .next (.ite hs hs₂.mgtPump)

/-! ## The rows of the command ring and of the host link -/

protected theorem execLoadThallus {h : CmdHead} {src len : Nat} (hs : Kept s₀ s) : KeptNext s₀ (execLoadThallus h src len s) :=
  .next hs.fetchCmd

protected theorem execThallusVerifyDone {image : Option (List Byte)} {genChanged : Bool} (hs : Kept s₀ s) :
    KeptNext s₀ (execThallusVerifyDone image genChanged s) :=
  .next hs.verifyDone

protected theorem execSwitchEpoch {h : CmdHead} {epoch t pfx : Nat} (hs : Kept s₀ s) : KeptNext s₀ (execSwitchEpoch h epoch t pfx s) :=
  .next hs.fetchCmd

protected theorem execEpochSwitch {t : Nat} (hs : Kept s₀ s) : KeptNext s₀ (execEpochSwitch t s) := .next hs.advance.switchNow

protected theorem execRunSteps {h : CmdHead} {first t0 ring slotBytes slots line inDev : Nat} (hs : Kept s₀ s) :
    KeptNext s₀ (execRunSteps h first t0 ring slotBytes slots line inDev s) :=
  .next hs.fetchCmd

protected theorem execStopAtStep {h : CmdHead} {step : Nat} (hs : Kept s₀ s) : KeptNext s₀ (execStopAtStep h step s) := .next hs.fetchCmd

protected theorem execAbort {h : CmdHead} {target : Nat} (hs : Kept s₀ s) : KeptNext s₀ (execAbort h target s) := .next hs.fetchCmd

protected theorem execCheckpointSave {h : CmdHead} {dest offset len : Nat} (hs : Kept s₀ s) :
    KeptNext s₀ (execCheckpointSave h dest offset len s) :=
  .next hs.fetchCmd

protected theorem execCheckpointLoad {h : CmdHead} {src len : Nat} {data : Option (List Byte)} (hs : Kept s₀ s) :
    KeptNext s₀ (execCheckpointLoad h src len data s) :=
  .next hs.fetchCmd

protected theorem execCheckpointClear {h : CmdHead} (hs : Kept s₀ s) : KeptNext s₀ (execCheckpointClear h s) := .next hs.fetchCmd

protected theorem execCheckpointRestore {h : CmdHead} {src len : Nat} {data : Option (List Byte)} (hs : Kept s₀ s) :
    KeptNext s₀ (execCheckpointRestore h src len data s) :=
  .next hs.fetchCmd

protected theorem execTableSwap {h : CmdHead} {table desc step : Nat} (hs : Kept s₀ s) :
    KeptNext s₀ (execTableSwap h table desc step s) :=
  .next hs.fetchCmd

protected theorem execGrantPeat {h : CmdHead} {slot addr len : Nat} (hs : Kept s₀ s) : KeptNext s₀ (execGrantPeat h slot addr len s) :=
  .next hs.fetchCmd

protected theorem execRevokePeat {h : CmdHead} {slot : Nat} (hs : Kept s₀ s) : KeptNext s₀ (execRevokePeat h slot s) := .next hs.fetchCmd

protected theorem execFence {h : CmdHead} (hs : Kept s₀ s) : KeptNext s₀ (execFence h s) := .next hs.fetchCmd

protected theorem execCounterSnapshot {h : CmdHead} {dest : Nat} (hs : Kept s₀ s) : KeptNext s₀ (execCounterSnapshot h dest s) :=
  .next hs.fetchCmd

protected theorem execFreezeAt {h : CmdHead} {t : Nat} (hs : Kept s₀ s) : KeptNext s₀ (execFreezeAt h t s) := .next hs.fetchCmd

protected theorem execSetLoss {h : CmdHead} {l step : Nat} (hs : Kept s₀ s) : KeptNext s₀ (execSetLoss h l step s) := .next hs.fetchCmd

protected theorem execSetInterval {h : CmdHead} {interval step : Nat} (hs : Kept s₀ s) :
    KeptNext s₀ (execSetInterval h interval step s) :=
  .next hs.fetchCmd

protected theorem execLoseHistory {h : CmdHead} {step : Nat} (hs : Kept s₀ s) : KeptNext s₀ (execLoseHistory h step s) :=
  .next hs.fetchCmd

protected theorem execSetTensor {h : CmdHead} {tensor e step : Nat} (hs : Kept s₀ s) : KeptNext s₀ (execSetTensor h tensor e step s) :=
  .next hs.fetchCmd

protected theorem execWatchLineInvalidate {produced consumed : Nat} {ds : List Fetched} (hs : Kept s₀ s) :
    KeptNext s₀ (execWatchLineInvalidate produced consumed ds s) :=
  .next (.ite hs.readLine hs)

protected theorem execControlLinePoll {produced consumed : Nat} {ds : List Fetched} (hs : Kept s₀ s) :
    KeptNext s₀ (execControlLinePoll produced consumed ds s) :=
  .next (.ite hs.readLine hs)

protected theorem execInputLine {supplied : Nat} (hs : Kept s₀ s) : KeptNext s₀ (execInputLine supplied s) := .next hs.inputSeen

protected theorem execInputCopyDone {step : Nat} {bytes : List Byte} (hs : Kept s₀ s) : KeptNext s₀ (execInputCopyDone step bytes s) :=
  .next hs.inputCopied

protected theorem execRetire {index : Nat} (hs : Kept s₀ s) : KeptNext s₀ (execRetire index s) := by
  unfold execRetire
  refine .next ?_
  split
  · exact hs.pumpRecs
  · exact .ite hs.retireAt.startWaiting hs

protected theorem execCommandTimeout {index t : Nat} (hs : Kept s₀ s) : KeptNext s₀ (execCommandTimeout index t s) := by
  unfold execCommandTimeout
  refine .next ?_
  split
  · exact hs.advance
  · exact .ite hs.advance.stopCmd.startWaiting hs.advance

protected theorem execHostWriteConfirm (hs : Kept s₀ s) : KeptNext s₀ (execHostWriteConfirm s) := .next hs.confirmWrites

protected theorem execHostPortLinkUp {width speed : Nat} {cache : Bool} (hs : Kept s₀ s) :
    KeptNext s₀ (execHostPortLinkUp width speed cache s) :=
  .next hs.hostLinkUp.pumpInput

protected theorem execHostRetrain (hs : Kept s₀ s) : KeptNext s₀ (execHostRetrain s) := .next hs.hostRetrain.startWaiting

protected theorem execHstAttach {nonce : Nat} (hs : Kept s₀ s) : KeptNext s₀ (execHstAttach nonce s) :=
  .next (hs.hostWrites fun _ h => h.attach)

protected theorem execCmdCfg {req v : Nat} (hs : Kept s₀ s) : KeptNext s₀ (execCmdCfg req v s) :=
  .next (hs.hostWrites fun _ h => h.cmdCfgWrite)

/-! ## Commands of the event gatherer -/

protected theorem execEvgClaim {t : Nat} (hs : Kept s₀ s) : KeptNext s₀ (execEvgClaim t s) := .next hs.evgClaimOn.emit

protected theorem execEvgComplete {t v : Nat} (hs : Kept s₀ s) : KeptNext s₀ (execEvgComplete t v s) := .next hs.evgCompleteOn

protected theorem execEvgPend {w v : Nat} (hs : Kept s₀ s) : KeptNext s₀ (execEvgPend w v s) := .next hs.evgPendWrite

protected theorem execHold {v : Nat} (hs : Kept s₀ s) : KeptNext s₀ (execHold v s) := .next hs.evgCtlWrite

protected theorem execHoldExpiry {t : Nat} (hs : Kept s₀ s) : KeptNext s₀ (execHoldExpiry t s) :=
  .next (.ite hs.advance.evgRelease.wf hs.advance)

protected theorem execModerationExpiry {target t : Nat} (hs : Kept s₀ s) : KeptNext s₀ (execModerationExpiry target t s) :=
  .next (.ite hs.advance.put.evgNotifyAs hs.advance)

protected theorem execEventIn {i low : Nat} (hs : Kept s₀ s) : KeptNext s₀ (execEventIn i low s) :=
  .next (.ite hs.bump (.ite hs hs.wf.evgFire))

protected theorem execEventInRelease {i high : Nat} (hs : Kept s₀ s) : KeptNext s₀ (execEventInRelease i high s) := .next (.ite hs.wf hs)

/-! ## The rows of the reset controller -/

protected theorem execStartOk (hs : Kept s₀ s) : KeptNext s₀ (execStartOk s) := .next (.ite hs.wf.wf.wf.setFailPin hs)

protected theorem execStartTimeout {t : Nat} (hs : Kept s₀ s) : KeptNext s₀ (execStartTimeout t s) :=
  .next (.ite hs.advance.failStart.fallInto hs.advance)

protected theorem execPwrOkRise (hs : Kept s₀ s) : KeptNext s₀ (execPwrOkRise s) := .next (.ite hs.put.releaseDevice hs.put)

protected theorem execPwrOkFall {ns : Nat} (hs : Kept s₀ s) : KeptNext s₀ (execPwrOkFall ns s) :=
  .next (.ite hs (.ite hs.put hs.put.assertSource))

protected theorem execSupplyReset {rail : Nat} (hs : Kept s₀ s) : KeptNext s₀ (execSupplyReset rail s) :=
  .next (.ite hs.loseAon (.ite hs hs.assertSource))

protected theorem execPllLockLoss {domain : Nat} (hs : Kept s₀ s) : KeptNext s₀ (execPllLockLoss domain s) :=
  .next (.ite hs.setReg.wf.assertSource hs)

protected theorem execPllLock {domain : Nat} {straps : Straps} (hs : Kept s₀ s) : KeptNext s₀ (execPllLock domain straps s) :=
  .next hs.gainLock

protected theorem execPerstN {cycles : Nat} (hs : Kept s₀ s) : KeptNext s₀ (execPerstN cycles s) :=
  .next (.ite hs.bump hs.put.assertSource)

protected theorem execPerstNRelease (hs : Kept s₀ s) : KeptNext s₀ (execPerstNRelease s) := .next hs.put

protected theorem execHotReset (hs : Kept s₀ s) : KeptNext s₀ (execHotReset s) := .next (.ite hs.assertSource hs)

protected theorem execFlr (hs : Kept s₀ s) : KeptNext s₀ (execFlr s) := .next (.ite hs.assertSource hs)

protected theorem execSurpriseLinkDown (hs : Kept s₀ s) : KeptNext s₀ (execSurpriseLinkDown s) :=
  .next (.ite hs.loseHostLink.loseGrants.resumeAll.assertSource hs)

protected theorem execFabricRstN {cycles : Nat} (hs : Kept s₀ s) : KeptNext s₀ (execFabricRstN cycles s) :=
  .next (.ite hs.bump hs.assertSource)

protected theorem execThermalTrip (hs : Kept s₀ s) : KeptNext s₀ (execThermalTrip s) := .next (.ite hs hs.put.emit.assertSource)

protected theorem execDebugReset {block t : Nat} (hs : Kept s₀ s) : KeptNext s₀ (execDebugReset block t s) := by
  unfold execDebugReset
  extract_lets _ s₂
  have hs₂ : Kept s₀ s₂ := hs.advance.assertSource
  exact .next (.ite hs₂.startBlock hs₂)

protected theorem execRstBlock {v t : Nat} (hs : Kept s₀ s) : KeptNext s₀ (execRstBlock v t s) := .next hs.advance.blockWrite

protected theorem execQuiesced {t : Nat} (hs : Kept s₀ s) : KeptNext s₀ (execQuiesced t s) := by
  unfold execQuiesced
  refine .next ?_
  split
  · exact .ite hs.advance.endWait hs.advance
  · exact hs.advance

protected theorem execQuiesceTimeout {t : Nat} (hs : Kept s₀ s) : KeptNext s₀ (execQuiesceTimeout t s) := by
  unfold execQuiesceTimeout
  refine .next ?_
  split
  · exact .ite hs.advance.bump.flagEvent.endWait hs.advance
  · exact hs.advance

protected theorem execResetHoldExpiry {t : Nat} (hs : Kept s₀ s) : KeptNext s₀ (execResetHoldExpiry t s) := by
  unfold execResetHoldExpiry
  extract_lets s₁
  have hs₁ : Kept s₀ s₁ := hs.advance
  refine .next ?_
  split
  · exact .ite (.ite hs hs.releaseDevice) hs₁.put.releaseDomains
  · split
    · exact .ite hs₁.endBlock hs₁
    · exact hs₁

protected theorem execFarPerstNRelease (hs : Kept s₀ s) : KeptNext s₀ (execFarPerstNRelease s) := .next (.ite hs.put.emit hs)

/-! ## The rows of BAR0, BAR2 and configuration accesses -/

protected theorem execWinBase {req v : Nat} (hs : Kept s₀ s) : KeptNext s₀ (execWinBase req v s) :=
  .next (hs.hostWrites fun _ h => h.wf)

protected theorem execWindowRead {req off : Nat} {span : WinSpan} (hs : Kept s₀ s) : KeptNext s₀ (execWindowRead req off span s) :=
  .next (.ite hs.winRead hs)

protected theorem execWindowWrite {req off : Nat} {bytes : List Byte} (hs : Kept s₀ s) : KeptNext s₀ (execWindowWrite req off bytes s) :=
  .next (.ite hs.winWrite hs)

protected theorem execRegisterRead {req off len : Nat} (hs : Kept s₀ s) : KeptNext s₀ (execRegisterRead req off len s) :=
  .next (.ite hs.barRead hs)

protected theorem execRegisterWrite {req off len v : Nat} (hs : Kept s₀ s) : KeptNext s₀ (execRegisterWrite req off len v s) :=
  .next (.ite hs.barWrite hs)

protected theorem execConfigurationRequest {msixEn maskAll : Bool} (hs : Kept s₀ s) :
    KeptNext s₀ (execConfigurationRequest msixEn maskAll s) :=
  .next (.ite hs.put.msixFlush.evgSettle hs)

/-! ## Commands of the array, the move engine and the op lists -/

protected theorem execProduct {f : Nat} (hs : Kept s₀ s) : KeptNext s₀ (execProduct f s) := by
  unfold execProduct
  refine .next ?_
  split
  · exact .ite hs.issueProduct hs
  · exact .ite hs hs.setStall

protected theorem execInvoke {f : Nat} (hs : Kept s₀ s) : KeptNext s₀ (execInvoke f s) := by
  unfold execInvoke
  refine .next ?_
  split
  · exact .ite hs.issueOp.modFrond hs
  · exact hs

protected theorem execMove {w : FrondWork} (hs : Kept s₀ s) : KeptNext s₀ (execMove w s) := by
  unfold execMove
  refine .next ?_
  split
  · extract_lets r
    have hr : Kept s₀ r.1 := hs.localReads
    exact .ite hs (.ite hr (hr.afterRead fun _ h => h.issueOp.runMove))
  · exact hs

protected theorem execPass {f : Nat} {err : MemErr} (hs : Kept s₀ s) : KeptNext s₀ (execPass f err s) := .next hs.frondErr.runPass

protected theorem execDrainRow {f slot : Nat} {err : MemErr} (hs : Kept s₀ s) : KeptNext s₀ (execDrainRow f slot err s) :=
  .next hs.frondErr.drainRow

protected theorem execChainTileArrival {src dst : Nat} (hs : Kept s₀ s) : KeptNext s₀ (execChainTileArrival src dst s) :=
  .next hs.chainArrived

protected theorem execQueueSlotArrival {q : Nat} (hs : Kept s₀ s) : KeptNext s₀ (execQueueSlotArrival q s) := .next hs.queueArrive

protected theorem execCreditReturn {q : Nat} (hs : Kept s₀ s) : KeptNext s₀ (execCreditReturn q s) := .next hs.creditArrive

protected theorem execPlanStall {f t : Nat} (hs : Kept s₀ s) : KeptNext s₀ (execPlanStall f t s) := .next hs.advance.planStall

protected theorem execFrondInitDone {f : Nat} (hs : Kept s₀ s) : KeptNext s₀ (execFrondInitDone f s) := .next hs.frondReady

/-! ## Commands of the element engine: its invocations and its instructions -/

protected theorem execDrainInvocation {w : FrondWork} (hs : Kept s₀ s) : KeptNext s₀ (execDrainInvocation w s) :=
  .next (hs.afterRead fun _ h => h.startInvocation)

protected theorem execRowInvocation {w : FrondWork} (hs : Kept s₀ s) : KeptNext s₀ (execRowInvocation w s) :=
  .next (hs.afterRead fun _ h => h.startInvocation)

protected theorem execAdd {f : Nat} {i : EInstr} (hs : Kept s₀ s) : KeptNext s₀ (execAdd f i s) := .elemCmd hs fun _ _ _ h => h.binary

protected theorem execSub {f : Nat} {i : EInstr} (hs : Kept s₀ s) : KeptNext s₀ (execSub f i s) := .elemCmd hs fun _ _ _ h => h.binary

protected theorem execMul {f : Nat} {i : EInstr} (hs : Kept s₀ s) : KeptNext s₀ (execMul f i s) := .elemCmd hs fun _ _ _ h => h.binary

protected theorem execFma {f : Nat} {i : EInstr} (hs : Kept s₀ s) : KeptNext s₀ (execFma f i s) := .elemCmd hs fun _ _ _ h => h.ternary

protected theorem execMin {f : Nat} {i : EInstr} (hs : Kept s₀ s) : KeptNext s₀ (execMin f i s) := .elemCmd hs fun _ _ _ h => h.binary

protected theorem execMax {f : Nat} {i : EInstr} (hs : Kept s₀ s) : KeptNext s₀ (execMax f i s) := .elemCmd hs fun _ _ _ h => h.binary

protected theorem execClamp {f : Nat} {i : EInstr} (hs : Kept s₀ s) : KeptNext s₀ (execClamp f i s) :=
  .elemCmd hs fun _ _ _ h => h.ternary

protected theorem execAbs {f : Nat} {i : EInstr} (hs : Kept s₀ s) : KeptNext s₀ (execAbs f i s) := .elemCmd hs fun _ _ _ h => h.unary

protected theorem execNeg {f : Nat} {i : EInstr} (hs : Kept s₀ s) : KeptNext s₀ (execNeg f i s) := .elemCmd hs fun _ _ _ h => h.unary

protected theorem execCmpeq {f : Nat} {i : EInstr} (hs : Kept s₀ s) : KeptNext s₀ (execCmpeq f i s) := .elemCmd hs fun _ _ _ h => h.binary

protected theorem execCmplt {f : Nat} {i : EInstr} (hs : Kept s₀ s) : KeptNext s₀ (execCmplt f i s) := .elemCmd hs fun _ _ _ h => h.binary

protected theorem execCmple {f : Nat} {i : EInstr} (hs : Kept s₀ s) : KeptNext s₀ (execCmple f i s) := .elemCmd hs fun _ _ _ h => h.binary

protected theorem execCmpun {f : Nat} {i : EInstr} (hs : Kept s₀ s) : KeptNext s₀ (execCmpun f i s) := .elemCmd hs fun _ _ _ h => h.binary

protected theorem execIcmpltu {f : Nat} {i : EInstr} (hs : Kept s₀ s) : KeptNext s₀ (execIcmpltu f i s) :=
  .elemCmd hs fun _ _ _ h => h.binary

protected theorem execSel {f : Nat} {i : EInstr} (hs : Kept s₀ s) : KeptNext s₀ (execSel f i s) := .elemCmd hs fun _ _ _ h => h.ternary

protected theorem execAnd {f : Nat} {i : EInstr} (hs : Kept s₀ s) : KeptNext s₀ (execAnd f i s) := .elemCmd hs fun _ _ _ h => h.binary

protected theorem execOr {f : Nat} {i : EInstr} (hs : Kept s₀ s) : KeptNext s₀ (execOr f i s) := .elemCmd hs fun _ _ _ h => h.binary

protected theorem execXor {f : Nat} {i : EInstr} (hs : Kept s₀ s) : KeptNext s₀ (execXor f i s) := .elemCmd hs fun _ _ _ h => h.binary

protected theorem execAndn {f : Nat} {i : EInstr} (hs : Kept s₀ s) : KeptNext s₀ (execAndn f i s) := .elemCmd hs fun _ _ _ h => h.binary

protected theorem execShr {f : Nat} {i : EInstr} (hs : Kept s₀ s) : KeptNext s₀ (execShr f i s) := .elemCmd hs fun _ _ _ h => h.unary

protected theorem execShl {f : Nat} {i : EInstr} (hs : Kept s₀ s) : KeptNext s₀ (execShl f i s) := .elemCmd hs fun _ _ _ h => h.unary

protected theorem execIadd {f : Nat} {i : EInstr} (hs : Kept s₀ s) : KeptNext s₀ (execIadd f i s) := .elemCmd hs fun _ _ _ h => h.binary

protected theorem execExp2 {f : Nat} {i : EInstr} (hs : Kept s₀ s) : KeptNext s₀ (execExp2 f i s) := .elemCmd hs fun _ _ _ h => h.unary

protected theorem execLog2 {f : Nat} {i : EInstr} (hs : Kept s₀ s) : KeptNext s₀ (execLog2 f i s) := .elemCmd hs fun _ _ _ h => h.unary

protected theorem execRcp {f : Nat} {i : EInstr} (hs : Kept s₀ s) : KeptNext s₀ (execRcp f i s) := .elemCmd hs fun _ _ _ h => h.unary

protected theorem execRsq {f : Nat} {i : EInstr} (hs : Kept s₀ s) : KeptNext s₀ (execRsq f i s) := .elemCmd hs fun _ _ _ h => h.unary

protected theorem execCvt {f : Nat} {i : EInstr} (hs : Kept s₀ s) : KeptNext s₀ (execCvt f i s) :=
  .elemCmd hs fun _ _ _ h => .ite h.cvtBlock h.cvtPlain

protected theorem execWid {f : Nat} {i : EInstr} (hs : Kept s₀ s) : KeptNext s₀ (execWid f i s) := .elemCmd hs fun _ _ _ h => h.binary

protected theorem execI2f {f : Nat} {i : EInstr} (hs : Kept s₀ s) : KeptNext s₀ (execI2f f i s) := .elemCmd hs fun _ _ _ h => h.unary

protected theorem execF2i {f : Nat} {i : EInstr} (hs : Kept s₀ s) : KeptNext s₀ (execF2i f i s) := .elemCmd hs fun _ _ _ h => h.writeLanes

protected theorem execRnd {f : Nat} {i : EInstr} (hs : Kept s₀ s) : KeptNext s₀ (execRnd f i s) := .elemCmd hs fun _ _ _ h => h.writeLanes

protected theorem execMov {f : Nat} {i : EInstr} (hs : Kept s₀ s) : KeptNext s₀ (execMov f i s) := .elemCmd hs fun _ _ _ h => h.unary

protected theorem execLd {f : Nat} {i : EInstr} (hs : Kept s₀ s) : KeptNext s₀ (execLd f i s) := .elemCmd hs fun _ _ _ h => h.loadLanes

protected theorem execSt {f : Nat} {i : EInstr} (hs : Kept s₀ s) : KeptNext s₀ (execSt f i s) := .elemCmd hs fun _ _ _ h => h.storeLanes

protected theorem execRmax {f : Nat} {i : EInstr} (hs : Kept s₀ s) : KeptNext s₀ (execRmax f i s) :=
  .elemCmd hs fun _ _ _ h => h.reduceChunk

protected theorem execRsum {f : Nat} {i : EInstr} (hs : Kept s₀ s) : KeptNext s₀ (execRsum f i s) :=
  .elemCmd hs fun _ _ _ h => h.reduceChunk

protected theorem execSoftmax {f : Nat} {i : EInstr} (hs : Kept s₀ s) : KeptNext s₀ (execSoftmax f i s) :=
  .elemCmd hs fun _ _ _ h => h.softmaxRow

protected theorem execLnorm {f : Nat} {i : EInstr} (hs : Kept s₀ s) : KeptNext s₀ (execLnorm f i s) :=
  .elemCmd hs fun _ _ _ h => h.lnormRow

protected theorem execLdi {f d : Nat} {v : LdiValue} (hs : Kept s₀ s) : KeptNext s₀ (execLdi f d v s) := by
  unfold execLdi
  split
  · exact .fault _ _
  · refine .next ?_
    split
    · exact hs.afterRead fun _ h => h.countCycles.setSreg.advanceEngine
    · exact hs

/-! ## Commands of migrations in progress, critical-row fetches and peat sources -/

protected theorem execMigrationPassDone {page t : Nat} (hs : Kept s₀ s) : KeptNext s₀ (execMigrationPassDone page t s) := by
  unfold execMigrationPassDone
  refine .next ?_
  split
  · exact hs.advance
  · split
    · exact hs.advance
    · exact .ite hs.advance (hs.advance.meetCopy.afterMeeting fun _ _ h => .ite h.copyLines.setMig h.copyLines.setMig)

protected theorem execFinalPassFlip {page t : Nat} (hs : Kept s₀ s) : KeptNext s₀ (execFinalPassFlip page t s) := by
  unfold execFinalPassFlip
  refine .next ?_
  split
  · refine .ite ?_ hs.advance
    refine .afterMeeting ?_ fun _ _ h => h.flipMig
    split
    · exact hs.advance.meetCopy
    · exact hs.advance
  · exact hs.advance

protected theorem execFinalPassAbandon {page t : Nat} (hs : Kept s₀ s) : KeptNext s₀ (execFinalPassAbandon page t s) := by
  unfold execFinalPassAbandon
  refine .next ?_
  split
  · exact .ite hs.advance.abandonMig.resumeAll.raiseTo hs.advance
  · exact hs.advance

protected theorem execSourceFrameFree {page : Nat} (hs : Kept s₀ s) : KeptNext s₀ (execSourceFrameFree page s) := by
  unfold execSourceFrameFree
  refine .next ?_
  split
  · exact hs
  · exact hs.put.framesFreed.resumeAll

protected theorem execPeatReadError {page : Nat} (hs : Kept s₀ s) : KeptNext s₀ (execPeatReadError page s) :=
  .next (.ite hs.wf.losePages.resumeAll hs)

protected theorem execCriticalRowFetch {addr len : Nat} (hs : Kept s₀ s) : KeptNext s₀ (execCriticalRowFetch addr len s) :=
  .next (.ite hs hs.criticalFetch)

protected theorem execFarLinkUp {x frames : Nat} {type3 : Bool} (hs : Kept s₀ s) : KeptNext s₀ (execFarLinkUp x frames type3 s) :=
  .next (.ite hs (.ite hs.wf hs.put.useExpanders.framesFreed.resumeAll))

protected theorem execExpanderLinkDown {x : Nat} (hs : Kept s₀ s) : KeptNext s₀ (execExpanderLinkDown x s) :=
  .next (.ite hs.loseSource.resumeAll.put hs)

protected theorem execHostWaitExpiry {t : Nat} (hs : Kept s₀ s) : KeptNext s₀ (execHostWaitExpiry t s) := by
  unfold execHostWaitExpiry
  refine .next ?_
  split
  · exact hs.advance
  · exact .ite hs.advance.loseGrants.resumeAll hs.advance

/-! ## Supply dips, the power manager and thermal throttling -/

protected theorem execDroopTrip {quads mv : Nat} (hs : Kept s₀ s) : KeptNext s₀ (execDroopTrip quads mv s) :=
  .next (.ite hs hs.put.supplyReading.bump.wf.rstFlag)

protected theorem execDroopRecover {quads mv : Nat} (hs : Kept s₀ s) : KeptNext s₀ (execDroopRecover quads mv s) :=
  .next (.ite hs hs.put.supplyReading.wf)

protected theorem execDroopPause {t : Nat} (hs : Kept s₀ s) : KeptNext s₀ (execDroopPause t s) :=
  .next (.ite hs.advance hs.advance.put.bump.wf.rstFlag)

protected theorem execPauseEnd {t : Nat} (hs : Kept s₀ s) : KeptNext s₀ (execPauseEnd t s) := .next (.ite hs.advance.bump.wf hs.advance)

protected theorem execPowerSample {watts t : Nat} (hs : Kept s₀ s) : KeptNext s₀ (execPowerSample watts t s) := by
  unfold execPowerSample
  extract_lets s₁ _ s₂ _ s₃ s₄
  have hs₁ : Kept s₀ s₁ := hs.advance.countThrottle
  have hs₂ : Kept s₀ s₂ := hs₁.put
  have hs₃ : Kept s₀ s₃ := hs₂.wf
  have hs₄ : Kept s₀ s₄ := hs₃.wf
  exact .next hs₄.put

protected theorem execThrottleStep {t : Nat} (hs : Kept s₀ s) : KeptNext s₀ (execThrottleStep t s) := by
  unfold execThrottleStep
  extract_lets s₁ _ set s₂
  have hs₁ : Kept s₀ s₁ := hs.advance.countThrottle
  have h_set : ∀ s k, Kept s₀ s → Kept s₀ (set s k) := fun _ _ h => h.put.wf
  have hs₂ : Kept s₀ s₂ := .ite hs₁.rstFlag hs₁
  refine .next ?_
  refine .ite (.ite (h_set _ _ hs₂) hs₂) ?_
  split
  · exact .ite (h_set _ _ hs₁) hs₁
  · exact hs₁

protected theorem execThermalSense {junction : Nat} {drams : List Nat} {t : Nat} (hs : Kept s₀ s) :
    KeptNext s₀ (execThermalSense junction drams t s) := by
  unfold execThermalSense
  extract_lets _ _ _ _ _ s₄ _ s₅
  have hs₄ : Kept s₀ s₄ := hs.advance.wf.wf.wf.forEach fun _ _ h => h.dramReading
  have hs₅ : Kept s₀ s₅ := .ite (.ite hs₄ hs₄.put.rstFlag) (.ite hs₄.put hs₄)
  exact .next (.ite hs₅.put.emit hs₅)

protected theorem execVrHotN (hs : Kept s₀ s) : KeptNext s₀ (execVrHotN s) := .next hs.put.rstFlag

protected theorem execVrHotNRelease (hs : Kept s₀ s) : KeptNext s₀ (execVrHotNRelease s) := .next hs.put

/-! ## Commands of the reduce-and-apply units, the step barrier, the scale unit's reduction and the start of a step -/

protected theorem execStepStart {t : Nat} (hs : Kept s₀ s) : KeptNext s₀ (execStepStart t s) :=
  .next (hs.onDataAt fun _ h => .ite h.startStep.advanceBlocks h)

protected theorem execReduce {m : ReduceMsg} {t : Nat} (hs : Kept s₀ s) : KeptNext s₀ (execReduce m t s) :=
  .next (hs.onDataAt fun _ h => h.offerRau)

protected theorem execPart {m : PartMsg} {t : Nat} (hs : Kept s₀ s) : KeptNext s₀ (execPart m t s) :=
  .next (hs.onDataAt fun _ h => h.offerRau)

protected theorem execWindowClose {t : Nat} (hs : Kept s₀ s) : KeptNext s₀ (execWindowClose t s) :=
  .next (hs.onDataAt fun _ h => h.windowCloseAt)

protected theorem execPartDeadline {t : Nat} (hs : Kept s₀ s) : KeptNext s₀ (execPartDeadline t s) :=
  .next (hs.onDataAt fun _ h => h.partDeadlineAt)

protected theorem execBarrierRecord {t : Nat} (hs : Kept s₀ s) : KeptNext s₀ (execBarrierRecord t s) :=
  .next (hs.onDataAt fun _ h => .ite h.formRecord h)

protected theorem execBarrier {m : BarrierMsg} (hs : Kept s₀ s) : KeptNext s₀ (execBarrier m s) :=
  .next (hs.onData fun _ h => h.offerRau)

protected theorem execScale {m : ScaleMsg} (hs : Kept s₀ s) : KeptNext s₀ (execScale m s) := .next (hs.onData fun _ h => h.scaleAccept)

protected theorem execBlockApply {block : Nat} (hs : Kept s₀ s) : KeptNext s₀ (execBlockApply block s) :=
  .next (hs.onData fun _ h => h.withBlock fun _ _ h' => h'.blockApply)

protected theorem execGrad {m : GradMsg} (hs : Kept s₀ s) : KeptNext s₀ (execGrad m s) := .next (hs.onData fun _ h => h.offerRau)

protected theorem execDigestComputeDone {r : DigestRun} (hs : Kept s₀ s) : KeptNext s₀ (execDigestComputeDone r s) :=
  .next (hs.onData fun _ h => h.withBlock fun _ _ h' => h'.digestDone)

protected theorem execDigest {m : DigestMsg} {copy : List (Nat × List Byte)} (hs : Kept s₀ s) : KeptNext s₀ (execDigest m copy s) :=
  .next (hs.onData fun _ h => h.offerRau)

protected theorem execBlockReplayDone {block : Nat} {copy : Option (List Byte)} (hs : Kept s₀ s) :
    KeptNext s₀ (execBlockReplayDone block copy s) :=
  .next (hs.onData fun _ h => h.withBlock fun _ _ h' => h'.blockReplay.compareDigests.settle)

protected theorem execAllGather {block : Nat} (hs : Kept s₀ s) : KeptNext s₀ (execAllGather block s) :=
  .next (hs.onData fun _ h => h.withBlock fun _ _ h' => h'.allGather.settle)

protected theorem execParam {m : ParamMsg} (hs : Kept s₀ s) : KeptNext s₀ (execParam m s) := .next (hs.onData fun _ h => h.offerRau)

/-! ## Commands of the sparse update path -/

protected theorem execUpdateBatchStart {frond mb : Nat} (hs : Kept s₀ s) : KeptNext s₀ (execUpdateBatchStart frond mb s) := by
  unfold execUpdateBatchStart
  refine .next ?_
  split
  · exact .ite hs.startUpdate hs
  · exact hs

protected theorem execUpdateReq {m : BagMsg} (hs : Kept s₀ s) : KeptNext s₀ (execUpdateReq m s) := .next hs.takeUpdate

protected theorem execOwnerStepClose {step : Nat} (hs : Kept s₀ s) : KeptNext s₀ (execOwnerStepClose step s) :=
  .next (hs.onData fun _ h => .ite h.closeStep.settle h)

protected theorem execDetOrderMerge {step : Nat} (hs : Kept s₀ s) : KeptNext s₀ (execDetOrderMerge step s) :=
  .next (hs.onData fun _ h => .ite h.detMerge.settle h)

protected theorem execRowApply {own table version row : Nat} {rem : Bool} (hs : Kept s₀ s) :
    KeptNext s₀ (execRowApply own table version row rem s) := by
  unfold execRowApply
  refine .next ?_
  refine .onData hs fun s h => ?_
  split
  · exact h.applyEntry.settle
  · exact h

protected theorem execPendingEntryComplete {own table row : Nat} {rem : Bool} (hs : Kept s₀ s) :
    KeptNext s₀ (execPendingEntryComplete own table row rem s) := by
  unfold execPendingEntryComplete
  refine .next ?_
  refine .onData hs fun s h => ?_
  split
  · exact h.completePending.settle
  · exact h

protected theorem execSpillRingReturn {stack : Nat} (hs : Kept s₀ s) : KeptNext s₀ (execSpillRingReturn stack s) :=
  .next (hs.onData fun _ h => .settle (.ite h.returnSpilled.setBp.pumpInput.pumpUnits h.returnSpilled))

protected theorem execRemGrad {m : RemGrad} (hs : Kept s₀ s) : KeptNext s₀ (execRemGrad m s) := .next hs.takeUpdate

protected theorem execRemRow {m : RemRow} (hs : Kept s₀ s) : KeptNext s₀ (execRemRow m s) := .next hs.takeUpdate

end Sys2Proof.Laws.KeptNext
end

section
/-! CERTIFICATES. Every step keeps the canonical form (R12, R536) and the fixed numbers of units (R2, R267, R459). -/

namespace Sys2Proof.Laws

open Sys2Proof.Machine

variable {s₀ s t : State}

protected theorem KeptNext.exec (c : Instr) (hs : Kept s₀ s) : KeptNext s₀ (exec c s) := by
  cases c with dsimp only [exec]
  | loadThallus => exact .execLoadThallus hs
  | thallusVerifyDone => exact .execThallusVerifyDone hs
  | switchEpoch => exact .execSwitchEpoch hs
  | epochSwitch => exact .execEpochSwitch hs
  | runSteps => exact .execRunSteps hs
  | stopAtStep => exact .execStopAtStep hs
  | abort => exact .execAbort hs
  | checkpointSave => exact .execCheckpointSave hs
  | checkpointLoad => exact .execCheckpointLoad hs
  | checkpointClear => exact .execCheckpointClear hs
  | checkpointRestore => exact .execCheckpointRestore hs
  | tableSwap => exact .execTableSwap hs
  | tableVersionRetire => exact .execTableVersionRetire hs
  | grantPeat => exact .execGrantPeat hs
  | revokePeat => exact .execRevokePeat hs
  | fence => exact .execFence hs
  | counterSnapshot => exact .execCounterSnapshot hs
  | freezeAt => exact .execFreezeAt hs
  | freeze => exact .execFreeze hs
  | setLoss => exact .execSetLoss hs
  | setInterval => exact .execSetInterval hs
  | loseHistory => exact .execLoseHistory hs
  | setTensor => exact .execSetTensor hs
  | watchLineInvalidate => exact .execWatchLineInvalidate hs
  | controlLinePoll => exact .execControlLinePoll hs
  | inputLine => exact .execInputLine hs
  | inputCopyDone => exact .execInputCopyDone hs
  | retire => exact .execRetire hs
  | commandTimeout => exact .execCommandTimeout hs
  | hostWriteConfirm => exact .execHostWriteConfirm hs
  | stepStart => exact .execStepStart hs
  | hostPortLinkUp => exact .execHostPortLinkUp hs
  | hostRetrain => exact .execHostRetrain hs
  | hstAttach => exact .execHstAttach hs
  | cmdCfg => exact .execCmdCfg hs
  | winBase => exact .execWinBase hs
  | windowRead => exact .execWindowRead hs
  | windowWrite => exact .execWindowWrite hs
  | registerWrite => exact .execRegisterWrite hs
  | farLinkUp => exact .execFarLinkUp hs
  | expanderLinkDown => exact .execExpanderLinkDown hs
  | hostWaitExpiry => exact .execHostWaitExpiry hs
  | setEndpointId => exact .execSetEndpointId hs
  | getEndpointId => exact .execGetEndpointId hs
  | getMctpVersionSupport => exact .execGetMctpVersionSupport hs
  | getMessageTypeSupport => exact .execGetMessageTypeSupport hs
  | getVendorDefinedMessageSupport => exact .execGetVendorDefinedMessageSupport hs
  | getInfo => exact .execGetInfo hs
  | getDigests => exact .execGetDigests hs
  | getTelemetry => exact .execGetTelemetry hs
  | readCounters => exact .execReadCounters hs
  | getCerts => exact .execGetCerts hs
  | challenge => exact .execChallenge hs
  | readFuses => exact .execReadFuses hs
  | writeFuses => exact .execWriteFuses hs
  | debugUnlock => exact .execDebugUnlock hs
  | fwLoad => exact .execFwLoad hs
  | setCounterPriv => exact .execSetCounterPriv hs
  | reset => exact .execReset hs
  | margin => exact .execMargin hs
  | marginRunDone => exact .execMarginRunDone hs
  | rawWindow => exact .execRawWindow hs
  | failDevice => exact .execFailDevice hs
  | getRepairLog => exact .execGetRepairLog hs
  | mailboxGo => exact .execMailboxGo hs
  | watchdogExpiry => exact .execWatchdogExpiry hs
  | attendN => exact .execAttendN hs
  | fwBootVerifyDone => exact .execFwBootVerifyDone hs
  | startOk => exact .execStartOk hs
  | startTimeout => exact .execStartTimeout hs
  | pwrOkRise => exact .execPwrOkRise hs
  | pwrOkFall => exact .execPwrOkFall hs
  | supplyReset => exact .execSupplyReset hs
  | pllLockLoss => exact .execPllLockLoss hs
  | perstN => exact .execPerstN hs
  | hotReset => exact .execHotReset hs
  | flr => exact .execFlr hs
  | surpriseLinkDown => exact .execSurpriseLinkDown hs
  | fabricRstN => exact .execFabricRstN hs
  | thermalTrip => exact .execThermalTrip hs
  | debugReset => exact .execDebugReset hs
  | rstBlock => exact .execRstBlock hs
  | quiesced => exact .execQuiesced hs
  | quiesceTimeout => exact .execQuiesceTimeout hs
  | resetHoldExpiry => exact .execResetHoldExpiry hs
  | droopTrip => exact .execDroopTrip hs
  | droopRecover => exact .execDroopRecover hs
  | droopPause => exact .execDroopPause hs
  | pauseEnd => exact .execPauseEnd hs
  | powerSample => exact .execPowerSample hs
  | throttleStep => exact .execThrottleStep hs
  | thermalSense => exact .execThermalSense hs
  | vrHotN => exact .execVrHotN hs
  | frondInitDone => exact .execFrondInitDone hs
  | stackInitDone => exact .execStackInitDone hs
  | product => exact .execProduct hs
  | invoke => exact .execInvoke hs
  | move => exact .execMove hs
  | pass => exact .execPass hs
  | drainRow => exact .execDrainRow hs
  | chainTileArrival => exact .execChainTileArrival hs
  | drainInvocation => exact .execDrainInvocation hs
  | rowInvocation => exact .execRowInvocation hs
  | queueSlotArrival => exact .execQueueSlotArrival hs
  | creditReturn => exact .execCreditReturn hs
  | planStall => exact .execPlanStall hs
  | add => exact .execAdd hs
  | sub => exact .execSub hs
  | mul => exact .execMul hs
  | fma => exact .execFma hs
  | min => exact .execMin hs
  | max => exact .execMax hs
  | clamp => exact .execClamp hs
  | abs => exact .execAbs hs
  | neg => exact .execNeg hs
  | cmpeq => exact .execCmpeq hs
  | cmplt => exact .execCmplt hs
  | cmple => exact .execCmple hs
  | cmpun => exact .execCmpun hs
  | icmpltu => exact .execIcmpltu hs
  | sel => exact .execSel hs
  | and => exact .execAnd hs
  | or => exact .execOr hs
  | xor => exact .execXor hs
  | andn => exact .execAndn hs
  | shr => exact .execShr hs
  | shl => exact .execShl hs
  | iadd => exact .execIadd hs
  | exp2 => exact .execExp2 hs
  | log2 => exact .execLog2 hs
  | rcp => exact .execRcp hs
  | rsq => exact .execRsq hs
  | cvt => exact .execCvt hs
  | wid => exact .execWid hs
  | i2f => exact .execI2f hs
  | f2i => exact .execF2i hs
  | rnd => exact .execRnd hs
  | mov => exact .execMov hs
  | ldi => exact .execLdi hs
  | ld => exact .execLd hs
  | st => exact .execSt hs
  | rmax => exact .execRmax hs
  | rsum => exact .execRsum hs
  | softmax => exact .execSoftmax hs
  | lnorm => exact .execLnorm hs
  | lookupBatchAdmit => exact .execLookupBatchAdmit hs
  | lookupReq => exact .execLookupReq hs
  | criticalRowFetch => exact .execCriticalRowFetch hs
  | lookupRsp => exact .execLookupRsp hs
  | lookupEnd => exact .execLookupEnd hs
  | updateBatchStart => exact .execUpdateBatchStart hs
  | updateReq => exact .execUpdateReq hs
  | ownerStepClose => exact .execOwnerStepClose hs
  | detOrderMerge => exact .execDetOrderMerge hs
  | rowApply => exact .execRowApply hs
  | pendingEntryComplete => exact .execPendingEntryComplete hs
  | spillRingReturn => exact .execSpillRingReturn hs
  | remGrad => exact .execRemGrad hs
  | remRow => exact .execRemRow hs
  | soredium => exact .execSoredium hs
  | sorediumAck => exact .execSorediumAck hs
  | rowCommit => exact .execRowCommit hs
  | heatEpoch => exact .execHeatEpoch hs
  | scanVisit => exact .execScanVisit hs
  | promote => exact .execPromote hs
  | demote => exact .execDemote hs
  | rebalance => exact .execRebalance hs
  | demand => exact .execDemand hs
  | evacuate => exact .execEvacuate hs
  | rebuild => exact .execRebuild hs
  | revoke => exact .execRevoke hs
  | migrationPassDone => exact .execMigrationPassDone hs
  | finalPassFlip => exact .execFinalPassFlip hs
  | finalPassAbandon => exact .execFinalPassAbandon hs
  | sourceFrameFree => exact .execSourceFrameFree hs
  | peatReadError => exact .execPeatReadError hs
  | rd64 => exact .execRd64 hs
  | rd256 => exact .execRd256 hs
  | wr64 => exact .execWr64 hs
  | wr256 => exact .execWr256 hs
  | msg => exact .execMsg hs
  | d2dFlit => exact .execD2dFlit hs
  | d2dLinkControl => exact .execD2dLinkControl hs
  | d2dRetrainDone => exact .execD2dRetrainDone hs
  | patrolScrub => exact .execPatrolScrub hs
  | refresh => exact .execRefresh hs
  | rowRepairDone => exact .execRowRepairDone hs
  | data => exact .execData hs
  | heartbeat => exact .execHeartbeat hs
  | linkCtl => exact .execLinkCtl hs
  | error => exact .execError hs
  | e2eAck => exact .execE2eAck hs
  | deviceFailed => exact .execDeviceFailed hs
  | idle => exact .execIdle hs
  | reservedFrame => exact .execReservedFrame hs
  | heartbeatSend => exact .execHeartbeatSend hs
  | linkCtlSend => exact .execLinkCtlSend hs
  | heartbeatSilence => exact .execHeartbeatSilence hs
  | mismatchTimeout => exact .execMismatchTimeout hs
  | laneFault => exact .execLaneFault hs
  | retrainDone => exact .execRetrainDone hs
  | portTrained => exact .execPortTrained hs
  | portTrainRetry => exact .execPortTrainRetry hs
  | e2eTimeout => exact .execE2eTimeout hs
  | landingTimeout => exact .execLandingTimeout hs
  | memWr => exact .execMemWr hs
  | memRd => exact .execMemRd hs
  | memCpl => exact .execMemCpl hs
  | storeWr => exact .execStoreWr hs
  | silent => exact .execSilent hs
  | heard => exact .execHeard hs
  | lost => exact .execLost hs
  | recoveryCommit => exact .execRecoveryCommit hs
  | pieceRd => exact .execPieceRd hs
  | piece => exact .execPiece hs
  | fwd => exact .execFwd hs
  | stop => exact .execStop hs
  | stopped => exact .execStopped hs
  | done => exact .execDone hs
  | parityScrub => exact .execParityScrub hs
  | reduce => exact .execReduce hs
  | part => exact .execPart hs
  | partDeadline => exact .execPartDeadline hs
  | windowClose => exact .execWindowClose hs
  | barrierRecord => exact .execBarrierRecord hs
  | barrier => exact .execBarrier hs
  | scale => exact .execScale hs
  | blockApply => exact .execBlockApply hs
  | grad => exact .execGrad hs
  | digestComputeDone => exact .execDigestComputeDone hs
  | digest => exact .execDigest hs
  | blockReplayDone => exact .execBlockReplayDone hs
  | allGather => exact .execAllGather hs
  | param => exact .execParam hs
  | evgClaim => exact .execEvgClaim hs
  | evgComplete => exact .execEvgComplete hs
  | evgPend => exact .execEvgPend hs
  | hold => exact .execHold hs
  | holdExpiry => exact .execHoldExpiry hs
  | moderationExpiry => exact .execModerationExpiry hs
  | eventIn => exact .execEventIn hs
  | thaw => exact .execThaw hs
  | traceEn => exact .execTraceEn hs
  | cntTraceMark => exact .execCntTraceMark hs
  | planeInvalidExpiry => exact .execPlaneInvalidExpiry hs
  | e2eAckSend => exact .execE2eAckSend hs
  | registerRead => exact .execRegisterRead hs
  | configurationRequest => exact .execConfigurationRequest hs
  | pllLock => exact .execPllLock hs
  | perstNRelease => exact .execPerstNRelease hs
  | vrHotNRelease => exact .execVrHotNRelease hs
  | eventInRelease => exact .execEventInRelease hs
  | farPerstNRelease => exact .execFarPerstNRelease hs

/-- A step keeps what its state had, whether it runs a command or counts a tick of fabric time (R619). -/
theorem step_kept (h : step s = .next t) : Kept s t := by
  unfold step at h
  split at h
  · exact KeptNext.next (Kept.refl s).advance t h
  · exact KeptNext.exec _ (Kept.refl s).put t h

theorem shaped_reset : Shaped State.reset :=
  ⟨List.length_replicate, List.length_replicate, List.length_replicate, List.length_replicate⟩

/-- Settles O3: what a step keeps (`Kept`) holds the canonical form of memory and of the register file. -/
theorem everyStepKeepsTheCanonicalForm : Obligations.EveryStepKeepsTheCanonicalForm := by
  intro s t ⟨hmem, hregs⟩ h
  exact ⟨(step_kept h).memory_wf hmem, (step_kept h).registers_wf hregs⟩

/-- Settles O5: what a step keeps (`Kept`) holds the numbers of units, which the reset state has. -/
theorem everyStepKeepsTheShape : Obligations.EveryStepKeepsTheShape := by
  refine ⟨shaped_reset, fun s t ⟨hfronds, hstacks, hports, hsources⟩ h => ?_⟩
  have kept := step_kept h
  exact ⟨kept.fronds_length hfronds, kept.stacks_length hstacks, kept.ports_length hports, kept.sources_length hsources⟩

end Sys2Proof.Laws
end

section
/-! SUPPORT. What a write leaves in a register, bit by bit (R13), and what the table of BAR0 says of every register (R10, R536). -/

namespace Sys2Proof.Laws

open Sys2Proof.Machine

/-- Numbers without a common bit add up without carries. -/
theorem add_eq_or_of_and_eq_zero {a b : Nat} (h : a &&& b = 0) : a + b = a ||| b := by
  have ha : a < 2 ^ (a + b) := Nat.lt_two_pow_self.trans_le (Nat.pow_le_pow_right (by decide) (Nat.le_add_right a b))
  have hb : b < 2 ^ (a + b) := Nat.lt_two_pow_self.trans_le (Nat.pow_le_pow_right (by decide) (Nat.le_add_left b a))
  have hor := BitVec.add_eq_or_of_and_eq_zero (BitVec.ofNat (a + b) a) (BitVec.ofNat (a + b) b)
    (by rw [← BitVec.ofNat_and, h])
  have hval := congrArg BitVec.toNat hor
  rw [BitVec.toNat_add, BitVec.toNat_or, BitVec.toNat_ofNat, BitVec.toNat_ofNat, Nat.mod_eq_of_lt ha, Nat.mod_eq_of_lt hb,
    Nat.mod_eq_of_lt Nat.lt_two_pow_self] at hval
  exact hval

/-- Subtracting the bits two numbers share clears them. -/
theorem sub_and_eq_ldiff (a b : Nat) : a - (a &&& b) = Nat.ldiff a b := by
  have hdisjoint : (a &&& b) &&& Nat.ldiff a b = 0 := by
    apply Nat.eq_of_testBit_eq
    intro k
    simp only [Nat.testBit_and, Nat.testBit_ldiff, Nat.zero_testBit]
    cases a.testBit k <;> cases b.testBit k <;> rfl
  have hunion : (a &&& b) ||| Nat.ldiff a b = a := by
    apply Nat.eq_of_testBit_eq
    intro k
    simp only [Nat.testBit_or, Nat.testBit_and, Nat.testBit_ldiff]
    cases a.testBit k <;> cases b.testBit k <;> rfl
  have hsum := add_eq_or_of_and_eq_zero hdisjoint
  rw [hunion] at hsum
  omega

/-- A bit after a write: the written one where the mask of RW bits has it, else the old one, cleared where an RW1C bit is written 1 (R13). -/
theorem testBit_writtenValue (row : RegRow) (old v k : Nat) : (writtenValue row old v).testBit k =
    ((old.testBit k && !row.rw.testBit k || v.testBit k && row.rw.testBit k) && !(v.testBit k && row.w1c.testBit k)) := by
  have hdisjoint : Nat.ldiff old row.rw &&& (v &&& row.rw) = 0 := by
    apply Nat.eq_of_testBit_eq
    intro j
    simp only [Nat.testBit_and, Nat.testBit_ldiff, Nat.zero_testBit]
    cases row.rw.testBit j <;> simp
  simp only [writtenValue, sub_and_eq_ldiff, add_eq_or_of_and_eq_zero hdisjoint, Nat.testBit_ldiff, Nat.testBit_or, Nat.testBit_and]

theorem mem_of_rowHit {rows : List RegRow} {o i start : Nat} {r : RegRow} (h : rowHit rows o = some (r, i, start)) : r ∈ rows := by
  induction rows with
  | nil => cases h
  | cons x rows ih =>
    unfold rowHit at h
    generalize (if x.stride = 0 then 0 else (o - x.off) / x.stride) = q at h
    dsimp only at h
    split at h
    · simp only [Option.some.injEq, Prod.mk.injEq] at h
      exact h.1 ▸ List.mem_cons_self
    · exact List.mem_cons_of_mem x (ih h)

theorem mem_of_blockHit {bs : List RegBlock} {b : RegBlock} {n off k i o : Nat} (h : blockHit bs n off = some (b, k, i, o)) : b ∈ bs := by
  induction bs generalizing n with
  | nil => cases h
  | cons x bs ih =>
    unfold blockHit at h
    generalize (if x.n = 1 then 0 else (off - x.base) / x.stride) = q at h
    dsimp only at h
    split at h
    · simp only [Option.some.injEq, Prod.mk.injEq] at h
      exact h.1 ▸ List.mem_cons_self
    · exact List.mem_cons_of_mem x (ih h)

theorem row_mem_of_regHit {off : Nat} {h : RegHit} (hit : regHit off = some h) : ∃ b ∈ regBlocks, h.row ∈ b.rows := by
  unfold regHit at hit
  split at hit
  · cases hit
  · next b _ _ _ hblock =>
    split at hit
    · cases hit
    · next hrow =>
      cases hit
      exact ⟨b, mem_of_blockHit hblock, mem_of_rowHit hrow⟩

/-- No bit of a register of BAR0 is both RW and RW1C, and no register is wider than 64 bits. -/
theorem regBlocks_masks : ∀ b ∈ regBlocks, ∀ r ∈ b.rows, r.rw &&& r.w1c = 0 ∧ r.w ≤ 64 := by decide

end Sys2Proof.Laws
end

section
/-! SUPPORT. What an event and a violation leave unchanged (R570, R603 to R613). -/

namespace Sys2Proof.Laws

open Sys2Proof.Machine

section Registers

variable (s : State)

@[simp] theorem reg_emit (o : Out) (r : Nat) : reg (emit s o) r = reg s r := rfl
@[simp] theorem reg_cntAdd (w n r : Nat) : reg (cntAdd s w n) r = reg s r := rfl

/-- A count register after it counted (R623). -/
@[simp] theorem reg_bump_same (r n : Nat) : reg (bump s r n) r = BitVec.ofNat 64 (satAdd64 (reg s r).toNat n) :=
  reg_setReg_same s r _

theorem reg_bump_ne {r q : Nat} (n : Nat) (h : q ≠ r) : reg (bump s r n) q = reg s q := reg_setReg_ne s _ h

end Registers

/-- From `s₀` to `s` at most events happened: memory, the commands and the registers of the blocks before the event gatherer's are as they
were. -/
structure EventsOnly (s₀ s : State) : Prop where
  mem : s.mem = s₀.mem
  cmd : s.cmd = s₀.cmd
  reg : ∀ r, r < 0x40000 → Machine.reg s r = Machine.reg s₀ r

namespace EventsOnly

variable {s₀ s t : State}

protected theorem refl (s : State) : EventsOnly s s := ⟨rfl, rfl, fun _ _ => rfl⟩

theorem put (hs : EventsOnly s₀ s) (hmem : t.mem = s.mem := by with_reducible rfl) (hcmd : t.cmd = s.cmd := by with_reducible rfl)
    (hregs : t.regs = s.regs := by with_reducible rfl) : EventsOnly s₀ t where
  mem := hmem.trans hs.mem
  cmd := hcmd.trans hs.cmd
  reg r hr := by rw [← hs.reg r hr, Machine.reg, hregs, Machine.reg]

protected theorem ite {c : Prop} {d : Decidable c} (hs : EventsOnly s₀ s) (ht : EventsOnly s₀ t) : EventsOnly s₀ (if c then s else t) := by
  split
  · exact hs
  · exact ht

protected theorem forEach {A : Type} {f : State → A → State} {xs : List A} (hs : EventsOnly s₀ s)
    (hf : ∀ s a, EventsOnly s₀ s → EventsOnly s₀ (f s a)) : EventsOnly s₀ (forEach f s xs) := by
  induction xs generalizing s with
  | nil => exact hs
  | cons x xs ih => exact ih (hf s x hs)

protected theorem emit {o : Out} (hs : EventsOnly s₀ s) : EventsOnly s₀ (emit s o) := ⟨hs.mem, hs.cmd, hs.reg⟩

protected theorem wf {r x : Nat} {f : Field} (hs : EventsOnly s₀ s) (hr : 0x40000 ≤ r) : EventsOnly s₀ (wf s r f x) :=
  ⟨hs.mem, hs.cmd, fun q hq => (reg_wf_ne s f x (by omega)).trans (hs.reg q hq)⟩

protected theorem bump {r n : Nat} (hs : EventsOnly s₀ s) (hr : 0x40000 ≤ r) : EventsOnly s₀ (bump s r n) :=
  ⟨hs.mem, hs.cmd, fun q hq => (reg_bump_ne s n (by omega)).trans (hs.reg q hq)⟩

theorem evgPend_ge (i : Nat) : 0x40000 ≤ R.EVG_PEND i := by unfold R.EVG_PEND; omega
theorem evgSrcCfg_ge (i : Nat) : 0x40000 ≤ R.EVG_SRC_CFG i := by unfold R.EVG_SRC_CFG; omega
theorem evgTgtLevel_ge (i : Nat) : 0x40000 ≤ R.EVG_TGT_LEVEL i := by unfold R.EVG_TGT_LEVEL; omega

protected theorem evgRoute {src : Nat} (hs : EventsOnly s₀ s) : EventsOnly s₀ (evgRoute s src) := by
  unfold evgRoute
  split
  · exact hs.wf (evgSrcCfg_ge src)
  · exact (hs.wf (evgSrcCfg_ge src)).put

protected theorem evgSend {n p : Nat} (hs : EventsOnly s₀ s) : EventsOnly s₀ (evgSend s n p) := by
  unfold evgSend
  extract_lets s₁ _ s₂ s₃
  have hs₁ : EventsOnly s₀ s₁ := hs.wf (evgTgtLevel_ge n)
  have hs₃ : EventsOnly s₀ s₃ := .bump (s := s₂) hs₁.put (by decide)
  exact .ite hs₃.emit (.ite hs₃.put hs₃.emit)

protected theorem evgNotifyAs {new : Bool} {n : Nat} (hs : EventsOnly s₀ s) : EventsOnly s₀ (evgNotifyAs new s n) := by
  unfold evgNotifyAs
  split
  · exact hs
  · exact .ite hs (.ite hs.evgSend (.ite hs (.bump hs.put (by decide))))

protected theorem evgSettle (hs : EventsOnly s₀ s) : EventsOnly s₀ (evgSettle s) :=
  .forEach (hs.forEach fun _ _ h => .ite h h.evgRoute) fun _ _ h => h.evgNotifyAs

protected theorem evgMark {src : Nat} (hs : EventsOnly s₀ s) : EventsOnly s₀ (evgMark s src).1 := by
  unfold evgMark
  split
  · exact hs
  · extract_lets s₁ s₂
    have hs₁ : EventsOnly s₀ s₁ := hs.wf (evgPend_ge (src / 32))
    have hs₂ : EventsOnly s₀ s₂ := .ite hs₁ hs₁.evgRoute
    dsimp only
    exact hs₂.evgSettle

protected theorem tracePush {kind unit arg0 arg1 : Nat} (hs : EventsOnly s₀ s) : EventsOnly s₀ (tracePush s kind unit arg0 arg1) := by
  unfold tracePush
  extract_lets _ s₁ s₂ r
  have hs₁ : EventsOnly s₀ s₁ := .bump hs.put (by decide)
  have hs₂ : EventsOnly s₀ s₂ := hs₁.wf (by decide)
  have hr : EventsOnly s₀ r.1 := hs₂.evgMark
  exact .ite hs (.ite hs.put (.ite (.ite (hr.bump (by decide)) hr) hs₂))

protected theorem evgFire {src : Nat} (hs : EventsOnly s₀ s) : EventsOnly s₀ (evgFire s src) :=
  .ite hs.put (.ite hs.evgMark.tracePush hs.evgMark)

protected theorem evgFireIf {en : Bool} {src : Nat} (hs : EventsOnly s₀ s) : EventsOnly s₀ (evgFireIf s en src) := .ite hs.evgFire hs

end EventsOnly

/-- The count of violations after one more. -/
theorem violation_count {s : State} (source addr requester : Nat) (write : Bool) (cause : Nat)
    (room : (reg s R.HST_VIOL_CNT).toNat + 1 < 2 ^ 64) :
    (reg (violation s source addr requester write cause) R.HST_VIOL_CNT).toNat = (reg s R.HST_VIOL_CNT).toNat + 1 := by
  unfold violation
  extract_lets n s₁ s₂ s₃ s₄
  have hlog : reg s₃ R.HST_VIOL_CNT = reg s R.HST_VIOL_CNT := by
    unfold s₃ s₂ s₁
    rw [reg_wf_ne _ _ _ (by decide), reg_setReg_ne _ _ (by unfold R.HST_VIOL_CNT R.HST_VIOL_LOG_W1; omega),
      reg_setReg_ne _ _ (by unfold R.HST_VIOL_CNT R.HST_VIOL_LOG_W0; omega)]
  have hcount : reg s₄ R.HST_VIOL_CNT = BitVec.ofNat 64 (satAdd64 (reg s₃ R.HST_VIOL_CNT).toNat 1) := reg_bump_same s₃ _ _
  rw [(EventsOnly.refl s₄).evgFireIf.reg _ (by decide), hcount, hlog, satAdd64, BitVec.toNat_ofNat]
  omega

theorem violation_mem {s : State} (source addr requester : Nat) (write : Bool) (cause : Nat) :
    (violation s source addr requester write cause).mem = s.mem := (EventsOnly.refl _).evgFireIf.mem

theorem violation_cmd {s : State} (source addr requester : Nat) (write : Bool) (cause : Nat) :
    (violation s source addr requester write cause).cmd = s.cmd := (EventsOnly.refl _).evgFireIf.cmd

end Sys2Proof.Laws
end

section
/-! CERTIFICATES. Accesses of the host to the registers of BAR0 (R10, R13, R536, R568 to R570). -/

namespace Sys2Proof.Laws

open Sys2Proof.Machine

variable {s : State} {off n : Nat} {h : RegHit}

/-- An access to a whole register that BAR0 serves meets the register. -/
theorem barTarget_reg (served : barServed s off = true) (cap : capWord s off = none) (hit : regHit off = some h) (start : h.start = off)
    (width : h.row.w / 8 = n) : barTarget s off n = .reg h := by
  simp [barTarget, served, cap, hit, start, width]

/-- An access to an offset that names no register meets a violation. -/
theorem barTarget_bad (cap : capWord s off = none) (hit : regHit off = none) : ∃ c, barTarget s off n = .bad c := by
  unfold barTarget
  rw [cap, hit]
  split
  · exact ⟨2, rfl⟩
  · dsimp only
    split
    · exact ⟨1, rfl⟩
    · exact ⟨2, rfl⟩

/-- A read without an effect of its own answers the register's value and takes at most an open value. -/
theorem readReg_value (priv : privReg s h = false) (blk : h.blk ≠ 4) : ∃ k, readReg s h = (regValue s h, { s with free := k }) := by
  unfold readReg
  rw [priv, if_neg (by decide), if_neg (fun c => blk c.1)]
  split
  · exact ⟨_, rfl⟩
  · exact ⟨s.free, rfl⟩

/-- A write to a register without an effect of its own stores the register, and notes in the host port at most that a ring's base is not
aligned. -/
theorem writeReg_plain (hit : regHit off = some h) (start : h.start = off) (evg : h.blk ≠ 4) (cnt : h.blk ≠ 5)
    (effect : off ∉ [R.HST_ATTACH, R.CMD_CFG, R.RST_BLOCK, R.MGT_CTL, R.DEV_RB_TAIL]) (msix : off < R.MSIX_TABLE 0 ∨ R.MSIX_PBA 0 ≤ off)
    (v : Nat) : ∃ x, writeReg s h v = { setReg s off (BitVec.ofNat 64 (writtenValue h.row (reg s off).toNat v)) with hst := x } := by
  have hevg : ∀ r, (regHit r).map (·.blk) = some 4 → off ≠ r := by
    rintro r hr rfl
    simp [hit, evg] at hr
  have hcnt : ∀ r, (regHit r).map (·.blk) = some 5 → off ≠ r := by
    rintro r hr rfl
    simp [hit, cnt] at hr
  have hmsix : ¬ (R.MSIX_TABLE 0 ≤ off ∧ off < R.MSIX_PBA 0) := by omega
  simp only [List.mem_cons, List.not_mem_nil, or_false, not_or] at effect
  obtain ⟨hattach, hcfg, hblock, hmgt, htail⟩ := effect
  simp only [writeReg, start, evg, hevg R.EVG_CTL (by decide), hcnt R.CNT_CTL (by decide), hcnt R.CNT_TRACE_MARK (by decide),
    hcnt R.CNT_TRACE_TAIL (by decide), hattach, hcfg, hblock, hmgt, htail, hmsix, false_and, if_false]
  split
  · exact ⟨_, rfl⟩
  · split
    · exact ⟨_, rfl⟩
    · split
      · exact ⟨_, rfl⟩
      · exact ⟨_, rfl⟩

/-- The bits of the register after such a write (R13): no bit is both RW and RW1C. -/
theorem testBit_written (hit : regHit off = some h) (old v : Nat) {k : Nat} (hk : k < h.row.w) :
    (BitVec.ofNat 64 (writtenValue h.row old v)).toNat.testBit k =
      if h.row.rw.testBit k then v.testBit k else old.testBit k && !(h.row.w1c.testBit k && v.testBit k) := by
  obtain ⟨b, hb, hrow⟩ := row_mem_of_regHit hit
  obtain ⟨hmasks, hw⟩ := regBlocks_masks b hb h.row hrow
  have hone : (h.row.rw.testBit k && h.row.w1c.testBit k) = false := by rw [← Nat.testBit_and, hmasks, Nat.zero_testBit]
  rw [BitVec.toNat_ofNat, Nat.testBit_mod_two_pow, testBit_writtenValue, decide_eq_true (by omega : k < 64), Bool.true_and]
  revert hone
  cases h.row.rw.testBit k <;> cases h.row.w1c.testBit k <;> simp

/-- Settles O15: a read answers the value, a write stores what its masks allow, an access that names no register is a violation. -/
theorem registerAccessesComplete : Obligations.RegisterAccessesComplete := by
  intro s req off n h up
  refine ⟨fun served cap hit start width => ⟨fun priv blk => ?_, fun v hv evg cnt effect msix => ?_⟩,
    fun cap hit room => ⟨?_, fun v => ?_⟩⟩
  · obtain ⟨k, hread⟩ := readReg_value priv blk
    refine ⟨_, rfl, ?_⟩
    simp [up, barRead, barTarget_reg served cap hit start width, hread, emit]
  · obtain ⟨x, hwrite⟩ := writeReg_plain (s := s) hit start evg cnt effect msix v
    refine ⟨_, rfl, ?_⟩
    simp only [up, if_true, barWrite, barTarget_reg served cap hit start width, Nat.mod_eq_of_lt hv, hwrite]
    refine ⟨fun k hk => ?_, fun r hr => ?_, fun _ => rfl, rfl, rfl⟩
    · exact (congrArg (fun w : W64 => w.toNat.testBit k) (reg_setReg_same s off _)).trans (testBit_written hit _ v hk)
    · exact reg_setReg_ne s _ (of_decide_eq_false hr)
  · obtain ⟨c, htarget⟩ := barTarget_bad (s := s) (n := n) cap hit
    refine ⟨_, rfl, ?_⟩
    simp only [up, if_true, barRead, htarget, violRead]
    refine ⟨violation_count 0 off req false c room, fun a => ?_, violation_cmd 0 off req false c, _, rfl, ?_⟩
    · exact congrArg (fun m => spGet 0 m a) (violation_mem 0 off req false c)
    · split
      · exact .inl rfl
      · exact .inr rfl
  · obtain ⟨c, htarget⟩ := barTarget_bad (s := s) (n := n) cap hit
    refine ⟨_, rfl, ?_⟩
    simp only [up, if_true, barWrite, htarget, violWrite]
    exact ⟨violation_count 0 off req true c room, fun a => congrArg (fun m => spGet 0 m a) (violation_mem 0 off req true c),
      violation_cmd 0 off req true c, rfl⟩

end Sys2Proof.Laws
end

section
/-! SUPPORT. The queue of waiting commands (R14, R536) through every operation of the model: one lemma for each operation,
that
cites those of the operations it is made of. -/

namespace Sys2Proof.Laws

set_option Elab.async false

open Sys2Proof.Machine

/-! ## The queue through a choice, a loop and a pair -/

@[simp] theorem ite_pending (c : Prop) [Decidable c] (s t : State) :
    (if c then s else t).pending = if c then s.pending else t.pending :=
  apply_ite State.pending c s t

@[simp] theorem foldl_pending
    {A : Type} {f : State → A → State} (hf : ∀ s a, (f s a).pending = s.pending) (xs : List A) (s : State) :
    (xs.foldl f s).pending = s.pending := by
  induction xs generalizing s with
  | nil => rfl
  | cons x xs ih => exact (ih _).trans (hf s x)

@[simp] theorem forEach_pending
    {A : Type} {f : State → A → State} (hf : ∀ s a, (f s a).pending = s.pending) (xs : List A) (s : State) :
    (forEach f s xs).pending = s.pending :=
  foldl_pending hf xs s

@[simp] theorem foldlFst_pending
    {A B : Type} {f : State × B → A → State × B} (hf : ∀ x a, (f x a).1.pending = x.1.pending) (xs : List A)
    (x : State × B) : (xs.foldl f x).1.pending = x.1.pending := by
  induction xs generalizing x with
  | nil => rfl
  | cons a xs ih => exact (ih _).trans (hf x a)

@[simp] theorem forEachFst_pending
    {A B : Type} {f : State × B → A → State × B} (hf : ∀ x a, (f x a).1.pending = x.1.pending) (xs : List A)
    (x : State × B) : (forEach f x xs).1.pending = x.1.pending :=
  foldlFst_pending hf xs x

theorem getD_pending {s : State} {o : Option State} (h : ∀ t, o = some t → t.pending = s.pending) :
    (o.getD s).pending = s.pending := by
  cases o with
  | none => rfl
  | some t => exact h t rfl

theorem of_fst_pending
    {A : Type} {x : State × A} {t : State} {a : A} {q : List Instr} (h : x = (t, a)) (hx : x.1.pending = q) :
    t.pending = q := by
  rw [h] at hx
  exact hx

variable (s : State)

/-! ## Named operations over registers, memory bytes, outputs, time and free values -/

@[simp] theorem setFailPin_pending (high : Bool) : (setFailPin s high).pending = s.pending := by
  simp [setFailPin]

/-! ## Events: firing, routing and messages of the event gatherer, the trace buffer and the violation log -/

@[simp] theorem setPend_pending (src : Nat) (v : Bool) : (setPend s src v).pending = s.pending := by
  simp [setPend]

@[simp] theorem evgRoute_pending (src : Nat) : (evgRoute s src).pending = s.pending := by
  unfold evgRoute
  split <;> simp

@[simp] theorem evgSend_pending (t p : Nat) : (evgSend s t p).pending = s.pending := by
  simp [evgSend]

@[simp] theorem evgNotifyAs_pending (new : Bool) (t : Nat) : (evgNotifyAs new s t).pending = s.pending := by
  unfold evgNotifyAs
  split <;> simp

@[simp] theorem evgSettle_pending : (evgSettle s).pending = s.pending := by
  simp [evgSettle]

@[simp] theorem evgMark_pending (src : Nat) : (evgMark s src).1.pending = s.pending := by
  unfold evgMark
  split <;> simp

@[simp] theorem tracePush_pending (kind unit arg0 arg1 : Nat) : (tracePush s kind unit arg0 arg1).pending = s.pending := by
  simp [tracePush]

@[simp] theorem evgPendSource_pending (src : Nat) : (evgPendSource s src).pending = s.pending := by
  simp [evgPendSource]

@[simp] theorem evgFire_pending (src : Nat) : (evgFire s src).pending = s.pending := by
  simp [evgFire]

@[simp] theorem evgFireIf_pending (en : Bool) (src : Nat) : (evgFireIf s en src).pending = s.pending := by
  simp [evgFireIf]

@[simp] theorem flagEvent_pending (r : Nat) (f : Field) (en : Bool) (src : Nat) :
    (flagEvent s r f en src).pending = s.pending := by
  simp [flagEvent]

@[simp] theorem violation_pending (source addr requester : Nat) (write : Bool) (cause : Nat) :
    (violation s source addr requester write cause).pending = s.pending := by
  simp [violation]

@[simp] theorem violRead_pending (source addr req cause : Nat) (ur : Bool) :
    (violRead s source addr req cause ur).pending = s.pending := by
  simp [violRead]

@[simp] theorem violWrite_pending (source addr req cause : Nat) :
    (violWrite s source addr req cause).pending = s.pending := by
  simp [violWrite]

@[simp] theorem hostWrites_pending (req off : Nat) (f : State → State) (hf : ∀ s, (f s).pending = s.pending) :
    (hostWrites s req off f).pending = s.pending := by
  simp [hostWrites, hf]

/-! ## The device address space -/

@[simp] theorem lineWritten_pending (k off n : Nat) : (lineWritten s k off n).pending = s.pending := by
  simp [lineWritten]

@[simp] theorem hbmSet_pending (a : Nat) (bs : List Byte) : (hbmSet s a bs).pending = s.pending := by
  unfold hbmSet
  split <;> simp

@[simp] theorem setPte_pending (p v : Nat) : (setPte s p v).pending = s.pending := by
  simp [setPte]

@[simp] theorem waitWrite_pending (w : HeldWrite) : (waitWrite s w).pending = s.pending := by
  simp [waitWrite]

@[simp] theorem tierPressure_pending : (tierPressure s).pending = s.pending := by
  unfold tierPressure
  split <;> simp

@[simp] theorem tierFull_pending : (tierFull s).pending = s.pending := by
  simp [tierFull]

@[simp] theorem tierUnfull_pending : (tierUnfull s).pending = s.pending := by
  unfold tierUnfull
  split <;> simp

@[simp] theorem queuePromotion_pending (p heat : Nat) : (queuePromotion s p heat).pending = s.pending := by
  unfold queuePromotion
  split
  · rfl
  · split
    · rfl
    · split <;> simp

@[simp] theorem touch_pending (p : Nat) : (touch s p).pending = s.pending := by
  unfold touch
  dsimp only
  split
  · rfl
  · split <;> simp

@[simp] theorem setMig_pending (p : Nat) (f : Migration → Migration) : (setMig s p f).pending = s.pending := by
  simp [setMig]

@[simp] theorem countPlaceWrite_pending (pl : Place) (n : Nat) : (countPlaceWrite s pl n).pending = s.pending := by
  unfold countPlaceWrite
  split <;> simp

@[simp] theorem countPlaceRead_pending (pl : Place) (n : Nat) : (countPlaceRead s pl n).pending = s.pending := by
  unfold countPlaceRead
  split <;> simp

@[simp] theorem placeWrite_pending (pl : Place) (off : Nat) (bs : List Byte) :
    (placeWrite s pl off bs).pending = s.pending := by
  unfold placeWrite
  split <;> simp

@[simp] theorem placeRead_pending (pl : Place) (off n : Nat) : (placeRead s pl off n).pending = s.pending := by
  unfold placeRead
  split <;> simp

@[simp] theorem countRead_pending (a n : Nat) : (countRead s a n).pending = s.pending := by
  refine forEach_pending (fun s a => ?_) _ _
  split <;> simp

@[simp] theorem readAccess_pending (a n : Nat) : (readAccess s a n).pending = s.pending := by
  refine forEach_pending (fun s a => ?_) _ _
  split <;> simp

@[simp] theorem pagePut_pending (p off : Nat) (bs : List Byte) : (pagePut s p off bs).pending = s.pending := by
  unfold pagePut
  split <;> simp

@[simp] theorem zeroPlace_pending (n : Place) : (zeroPlace s n).pending = s.pending := by
  unfold zeroPlace
  split
  · exact lineWritten_pending ..
  · rfl

theorem allocPage_pending {s t : State} {p : Nat} (h : allocPage s p = some t) : t.pending = s.pending := by
  simp only [allocPage, Option.map_eq_some_iff] at h
  obtain ⟨pl, -, rfl⟩ := h
  simp

theorem backPages_pending {s t : State} {ps : List Nat} (h : backPages s ps = some t) : t.pending = s.pending := by
  induction ps generalizing s with
  | nil => cases h; rfl
  | cons p ps ih =>
    unfold backPages at h
    split at h
    · obtain ⟨u, hu, h⟩ := Option.bind_eq_some_iff.1 h
      exact (ih h).trans (allocPage_pending hu)
    · exact ih h

@[simp] theorem tierPutAs_pending (w : HeldWrite) : (tierPutAs s w).pending = s.pending := by
  unfold tierPutAs
  extract_lets gs pages
  split
  · simp
  · split
    · simp
    · split
      · simp
      · next hback => simp [backPages_pending hback]

@[simp] theorem tierPut_pending (ps : List (Nat × List Byte)) : (tierPut s ps).pending = s.pending := by
  simp [tierPut]

@[simp] theorem tierWrite_pending (a : Nat) (bs : List Byte) : (tierWrite s a bs).pending = s.pending := by
  simp [tierWrite]

@[simp] theorem bumpStacks_pending (r : Nat → Nat) (a n : Nat) : (bumpStacks r s a n).pending = s.pending := by
  simp [bumpStacks]

@[simp] theorem rawWrite_pending (a : Nat) (bs : List Byte) : (rawWrite s a bs).pending = s.pending := by
  simp [rawWrite]

theorem devWriteAt_pending {s t : State} {seq a : Nat} {bs : List Byte} (h : devWriteAt s seq a bs = some t) :
    t.pending = s.pending := by
  unfold devWriteAt at h
  extract_lets at h
  split at h
  · cases h; simp
  · split at h
    · split at h
      · split at h
        · cases h; rfl
        · cases h; simp
      · cases h
    · split at h
      · cases h; rfl
      · cases h

@[simp] theorem getD_devWriteAt_pending (seq a : Nat) (bs : List Byte) :
    ((devWriteAt s seq a bs).getD s).pending = s.pending :=
  getD_pending fun _ h => devWriteAt_pending h

theorem devWrite_pending {s t : State} {a : Nat} {bs : List Byte} (h : devWrite s a bs = some t) :
    t.pending = s.pending :=
  devWriteAt_pending h

@[simp] theorem getD_devWrite_pending (a : Nat) (bs : List Byte) : ((devWrite s a bs).getD s).pending = s.pending :=
  getD_pending fun _ h => devWrite_pending h

@[simp] theorem retryWrite_pending (w : HeldWrite) : (retryWrite s w).pending = s.pending := by
  unfold retryWrite
  extract_lets near s₁
  have hs₁ : s₁.pending = s.pending := by simp [s₁]
  exact (forEach_pending (fun _ _ => getD_devWriteAt_pending ..) _ _).trans hs₁

@[simp] theorem retryWaits_pending : (retryWaits s).pending = s.pending := by
  simp [retryWaits]

@[simp] theorem framesFreed_pending : (framesFreed s).pending = s.pending := by
  simp [framesFreed]

/-! ## Shurak links: wiring, routing, flows, ports -/

@[simp] theorem setPortState_pending (p st : Nat) : (setPortState s p st).pending = s.pending := by
  simp [setPortState]

@[simp] theorem countTx_pending (p : Nat) : (countTx s p).pending = s.pending := by
  simp [countTx]

@[simp] theorem countRx_pending (p : Nat) : (countRx s p).pending = s.pending := by
  simp [countRx]

@[simp] theorem sendRaw_pending (p : Nat) (f : Frame) : (sendRaw s p f).pending = s.pending := by
  simp [sendRaw]

@[simp] theorem freeSlot_pending (o : Option (Nat × Nat)) : (freeSlot s o).pending = s.pending := by
  unfold freeSlot
  split <;> simp

@[simp] theorem portPump_pending (p k : Nat) : (portPump p k s).pending = s.pending := by
  induction k generalizing s with
  | zero => rfl
  | succ k ih =>
    unfold portPump
    dsimp only
    split
    · rfl
    · split
      · rfl
      · simp [ih]

@[simp] theorem portQueue_pending (p : Nat) (e : QEntry) : (portQueue s p e).pending = s.pending := by
  simp [portQueue]

@[simp] theorem portEnqueue_pending (p pool : Nat) (f : Frame) : (portEnqueue s p pool f).pending = s.pending := by
  simp [portEnqueue]

@[simp] theorem refusePlane_pending (f : FlowOut) (ms : List OutMsg) : (refusePlane s f ms).pending = s.pending := by
  simp [refusePlane]

@[simp] theorem injectMsg_pending (f : FlowOut) (hop : Hop) (port : Nat) (om : OutMsg) :
    (injectMsg s f hop port om).pending = s.pending := by
  simp [injectMsg]

@[simp] theorem unreachable_pending : (unreachable s).pending = s.pending := by
  simp [unreachable]

@[simp] theorem resendFlow_pending (dst vc k : Nat) : (resendFlow dst vc k s).pending = s.pending := by
  induction k generalizing s with
  | zero => simp [resendFlow]
  | succ k ih =>
    unfold resendFlow
    extract_lets f
    split
    · rfl
    · split
      · simp
      · extract_lets f₁ f₂ s₁ s₂
        have hs₂ : s₂.pending = s.pending := rfl
        split
        · exact (ih _).trans ((refusePlane_pending ..).trans hs₂)
        · exact (forEach_pending (fun _ _ => injectMsg_pending ..) _ _).trans hs₂

@[simp] theorem flowResend_pending (dst vc : Nat) : (flowResend s dst vc).pending = s.pending := by
  simp [flowResend]

@[simp] theorem flowPump_pending (dst vc : Nat) : (flowPump s dst vc).pending = s.pending := by
  unfold flowPump
  dsimp only
  split
  · rfl
  · split
    · simp
    · split
      · rfl
      · split <;> simp

@[simp] theorem sendFrom_pending (cmd : Option Nat) (op : Option (Nat × Nat)) (port : Option Nat) (dst : Nat) (m : Message) :
    (sendFrom s cmd op port dst m).pending = s.pending := by
  simp [sendFrom]

@[simp] theorem sendMsgFor_pending (cmd : Option Nat) (dst : Nat) (m : Message) :
    (sendMsgFor s cmd dst m).pending = s.pending := by
  simp [sendMsgFor]

@[simp] theorem sendMsg_pending (dst : Nat) (m : Message) : (sendMsg s dst m).pending = s.pending := by
  simp [sendMsg]

@[simp] theorem sendBy_pending (p dst : Nat) (m : Message) : (sendBy s p dst m).pending = s.pending := by
  simp [sendBy]

/-! ## Access to the thallus images in the two slots -/

@[simp] theorem latchOpt_pending (n : Nat) : (latchOpt s n).pending = s.pending := by
  refine forEach_pending (fun s a => ?_) _ _
  split <;> rfl

/-! ## Table descriptors, versions, resolution, owners and the places of rows -/

/-! ## Soredial groups, deltas and commits -/

@[simp] theorem commitPut_pending (own : Nat) (r : SorediumRec) (ps : List (Nat × List Byte)) :
    (commitPut s own r ps).pending = s.pending := by
  unfold commitPut
  extract_lets near s₁ s₂
  have hs₁ : s₁.pending = s.pending := by simp [s₁]
  have hs₂ : s₂.pending = s.pending := (forEach_pending (fun _ _ => by simp) _ _).trans hs₁
  split
  · simp [hs₂]
  · exact hs₂

@[simp] theorem sendSoredium_pending (dst step : Nat) (rs : List SorediumRec) (last : Bool) :
    (sendSoredium s dst step rs last).1.pending = s.pending := by
  simp [sendSoredium]

@[simp] theorem sendDelta_pending (dst : Nat) (r : SorediumRec) (step : Nat) :
    (sendDelta s dst r step).1.pending = s.pending := by
  simp [sendDelta]

@[simp] theorem forwardDelta_pending (own : Nat) (r : SorediumRec) : (forwardDelta s own r).pending = s.pending := by
  simp [forwardDelta]

@[simp] theorem ownCommits_pending (i n : Nat) : (ownCommits i n s).pending = s.pending := by
  simp [ownCommits]

@[simp] theorem startCommit_pending
    (own t v row : Nat) (rem : Bool) (step : Nat) (delta : List Byte) (parts : List (Nat × List Byte)) :
    (startCommit s own t v row rem step delta parts).pending = s.pending := by
  unfold startCommit
  split
  · split <;> simp
  · split <;> simp

@[simp] theorem commitPiece_pending (r : RowAt) (a : Nat) (bs : List Byte) : (commitPiece s r a bs).pending = s.pending := by
  simp [commitPiece]

@[simp] theorem tierCommit_pending (a : Nat) (bs : List Byte) : (tierCommit s a bs).pending = s.pending := by
  unfold tierCommit
  split
  · simp
  · refine forEach_pending (fun s c => ?_) _ _
    split <;> simp

theorem memWriteAs_pending {s t : State} {ck : Bool} {a : Nat} {bs : List Byte} (h : memWriteAs s ck a bs = some t) :
    t.pending = s.pending := by
  unfold memWriteAs at h
  split at h
  · cases h
  · split at h
    · cases h; simp
    · exact devWrite_pending h

theorem memWrite_pending {s t : State} {a : Nat} {bs : List Byte} (h : memWrite s a bs = some t) :
    t.pending = s.pending :=
  memWriteAs_pending h

@[simp] theorem rollbackRecord_pending (kind cause table owner first stride count step lost : Nat) :
    (rollbackRecord s kind cause table owner first stride count step lost).pending = s.pending := by
  simp -implicitDefEqProofs [rollbackRecord]

/-! ## Time, the trace unit's ring, counter records, latches and the frozen view -/

@[simp] theorem traceStop_pending : (traceStop s).pending = s.pending := by
  simp [traceStop]

@[simp] theorem traceWrite_pending (e : TraceEntry) : (traceWrite s e).pending = s.pending := by
  simp [traceWrite]

@[simp] theorem traceDrain_pending (n k : Nat) : (traceDrain n k s).pending = s.pending := by
  induction k generalizing s with
  | zero => rfl
  | succ k ih =>
    unfold traceDrain
    split
    · rfl
    · simp [ih]

@[simp] theorem advance_pending (t : Nat) : (advance t s).pending = s.pending := by
  simp [advance]

@[simp] theorem traceRestart_pending : (traceRestart s).pending = s.pending := by
  simp [traceRestart]

@[simp] theorem runningCounts_pending : (runningCounts s).pending = s.pending := by
  unfold runningCounts
  split <;> simp

@[simp] theorem latch_pending (kind index : Nat) : (latch s kind index).2.pending = s.pending := by
  unfold latch
  split <;> simp

@[simp] theorem thaw_pending : (thaw s).pending = s.pending := by
  simp [thaw]

@[simp] theorem applyCounterPlan_pending : (applyCounterPlan s).pending = s.pending := by
  simp [applyCounterPlan]

/-! ## Commands in progress, their writes, the retire point and completion records -/

@[simp] theorem syncPage_pending : (syncPage s).pending = s.pending := by
  simp [syncPage]

@[simp] theorem finCmd_pending (i : Nat) (e : CmdEnd) : (finCmd s i e).pending = s.pending := by
  simp [finCmd]

@[simp] theorem flushRead_pending : (flushRead s).pending = s.pending := by
  simp [flushRead]

@[simp] theorem hostPiece_pending (i : Nat) (p : Nat × List Byte) : (hostPiece i s p).pending = s.pending := by
  simp [hostPiece]

@[simp] theorem hostWrite_pending (i a : Nat) (bs : List Byte) : (hostWrite s i a bs).pending = s.pending := by
  simp [hostWrite]

@[simp] theorem localWrite_pending (i a : Nat) (bs : List Byte) : (localWrite s i a bs).pending = s.pending := by
  unfold localWrite
  split
  · next hwrite => simp [memWriteAs_pending hwrite]
  · simp

@[simp] theorem cmdWrite_pending (i a : Nat) (bs : List Byte) : (cmdWrite s i a bs).pending = s.pending := by
  unfold cmdWrite
  split <;> simp

@[simp] theorem startCmd_pending (i : Nat) : (startCmd s i).pending = s.pending := by
  unfold startCmd
  split <;> simp

@[simp] theorem writeRec_pending (r : CplRec) : (writeRec s r).pending = s.pending := by
  simp [writeRec]

@[simp] theorem pumpHeld_pending (k : Nat) : (pumpHeld k s).pending = s.pending := by
  induction k generalizing s with
  | zero => rfl
  | succ k ih =>
    unfold pumpHeld
    split
    · rfl
    · simp [ih]

@[simp] theorem deliver_pending (r : CplRec) : (deliver s r).pending = s.pending := by
  simp [deliver]

@[simp] theorem arrive_pending (c : Cmd) (e : CmdEnd) : (arrive s c e).pending = s.pending := by
  simp [arrive]

@[simp] theorem passRetire_pending (c : Cmd) : (passRetire s c).pending = s.pending := by
  simp [passRetire]

@[simp] theorem pumpPoint_pending (k : Nat) : (pumpPoint k s).pending = s.pending := by
  induction k generalizing s with
  | zero => simp [pumpPoint]
  | succ k ih =>
    unfold pumpPoint
    split
    · rfl
    · split
      · split
        · simp [ih]
        · exact ih ..
      · rfl

@[simp] theorem retireAt_pending (i : Nat) (e : CmdEnd) : (retireAt s i e).pending = s.pending := by
  unfold retireAt
  split <;> simp

@[simp] theorem pumpAll_pending : (pumpAll s).pending = s.pending := by
  simp [pumpAll]

@[simp] theorem pumpRecs_pending : (pumpRecs s).pending = s.pending := by
  simp [pumpRecs]

@[simp] theorem rejectCmd_pending (i reason : Nat) : (rejectCmd s i reason).pending = s.pending := by
  simp [rejectCmd]

@[simp] theorem finOk_pending (i : Nat) (result : List Byte) : (finOk s i result).pending = s.pending := by
  simp [finOk]

@[simp] theorem endLoad_pending : (endLoad s).pending = s.pending := by
  simp [endLoad]

@[simp] theorem cancelSwitch_pending : (cancelSwitch s).pending = s.pending := by
  simp [cancelSwitch]

@[simp] theorem cancelWork_pending (c : Cmd) : (cancelWork s c).pending = s.pending := by
  unfold cancelWork
  split <;> simp

@[simp] theorem discardUnconfirmed_pending : (discardUnconfirmed s).pending = s.pending := by
  simp [discardUnconfirmed]

@[simp] theorem detach_pending (reason : Nat) : (detach s reason).pending = s.pending := by
  simp [detach]

/-! ## The device-failed state -/

@[simp] theorem leaveUp_pending (p st : Nat) : (leaveUp s p st).pending = s.pending := by
  simp [leaveUp]

@[simp] theorem announceFailed_pending (code : Nat) : (announceFailed s code).pending = s.pending := by
  simp [announceFailed]

@[simp] theorem stopDataPlane_pending : (stopDataPlane s).pending = s.pending := by
  simp [stopDataPlane]

@[simp] theorem abortRunning_pending : (abortRunning s).pending = s.pending := by
  simp [abortRunning]

@[simp] theorem enterFailed_pending (code : Nat) : (enterFailed s code).pending = s.pending := by
  simp [enterFailed]

@[simp] theorem wordCorrected_pending (f : Nat) (w : Nat × Nat) : (wordCorrected s f w).pending = s.pending := by
  simp [wordCorrected]

@[simp] theorem frondErr_pending (f : Nat) (n : MemErr) : (frondErr s f n).pending = s.pending := by
  unfold frondErr
  split <;> simp

@[simp] theorem afterRead_pending (f : Nat) (err : MemErr) (go : State → State) (hgo : ∀ s, (go s).pending = s.pending) :
    (afterRead s f err go).pending = s.pending := by
  simp [afterRead, hgo]

/-! ## Fabric time over the links: the time parent -/

@[simp] theorem relevel_pending : (relevel s).pending = s.pending := by
  simp [relevel]

@[simp] theorem discipline_pending (b : Heartbeat) : (discipline s b).pending = s.pending := by
  simp -implicitDefEqProofs [discipline]

@[simp] theorem portDown_pending (p : Nat) : (portDown s p).pending = s.pending := by
  simp [portDown]

/-! ## The scale unit: overflow bits, loss scale, amax, exponents, their reduction and SET_SCALES -/

@[simp] theorem sclFlag_pending (f en : Field) : (sclFlag s f en).pending = s.pending := by
  simp [sclFlag]

@[simp] theorem sclLate_pending (k : Nat) : (sclLate s k).pending = s.pending := by
  simp [sclLate]

@[simp] theorem overflowCodes_pending (n : Nat) (codes : List Nat) : (overflowCodes s n codes).pending = s.pending := by
  simp [overflowCodes]

@[simp] theorem lossUpdate_pending (vote : Bool) : (lossUpdate s vote).pending = s.pending := by
  simp [lossUpdate]

@[simp] theorem modTensor_pending (t : Nat) (f : Tensor → Tensor) : (modTensor s t f).pending = s.pending := by
  simp [modTensor]

@[simp] theorem recordAmax_pending (t n k : Nat) (a : W32) : (recordAmax s t n k a).pending = s.pending := by
  simp [recordAmax]

@[simp] theorem publish_pending (n : Nat) : (publish s n).pending = s.pending := by
  simp [publish]

@[simp] theorem publishFirst_pending (n : Nat) : (publishFirst s n).pending = s.pending := by
  simp [publishFirst]

@[simp] theorem tensorStep_pending (n : Nat) (r : ScaleMsg) (t : Nat) : (tensorStep n r s t).pending = s.pending := by
  unfold tensorStep
  split <;> simp

@[simp] theorem publishDue_pending (k : Nat) : (publishDue k s).pending = s.pending := by
  induction k generalizing s with
  | zero => simp [publishDue]
  | succ k ih =>
    unfold publishDue
    split
    · rfl
    · split
      · exact ih ..
      · split
        · rfl
        · simp [ih]

@[simp] theorem tryPublish_pending : (tryPublish s).pending = s.pending := by
  simp [tryPublish]

@[simp] theorem scaleSend_pending (r : ScaleMsg) (level : Nat) : (scaleSend s r level).pending = s.pending := by
  simp [scaleSend]

@[simp] theorem scaleAdvance_pending (n k : Nat) : (scaleAdvance n k s).pending = s.pending := by
  induction k generalizing s with
  | zero => rfl
  | succ k ih =>
    unfold scaleAdvance
    split
    · rfl
    · split
      · dsimp only
        split <;> simp
      · dsimp only
        split
        · rfl
        · simp [ih]

@[simp] theorem pumpScales_pending : (pumpScales s).pending = s.pending := by
  simp [pumpScales]

@[simp] theorem restartScale_pending : (restartScale s).pending = s.pending := by
  simp [restartScale]

@[simp] theorem scaleLatch_pending (n : Nat) : (scaleLatch s n).pending = s.pending := by
  simp [scaleLatch]

@[simp] theorem scaleAccept_pending (m : ScaleMsg) : (scaleAccept s m).pending = s.pending := by
  simp [scaleAccept]

@[simp] theorem takeVote_pending (n : Nat) : (takeVote s n).2.pending = s.pending := by
  simp [takeVote]

@[simp] theorem loseScale_pending : (loseScale s).pending = s.pending := by
  simp -implicitDefEqProofs [loseScale]

@[simp] theorem applySetScales_pending (p : PendScales) : (applySetScales s p).pending = s.pending := by
  unfold applySetScales
  split <;> simp

@[simp] theorem scaleBarrier_pending (n : Nat) (vote : Bool) : (scaleBarrier s n vote).pending = s.pending := by
  unfold scaleBarrier
  dsimp only
  split <;> simp

@[simp] theorem loadScalePlan_pending (jit : Nat → Bool) : (loadScalePlan s jit).pending = s.pending := by
  simp [loadScalePlan]

/-! ## The frond plan: ops, scoreboard, stage queues, the choice of the op to issue -/

@[simp] theorem setSb_pending (f b : Nat) (v : Bool) : (setSb s f b v).pending = s.pending := by
  simp [setSb]

@[simp] theorem loadBanks_pending (k b : Nat) : (loadBanks s k b).pending = s.pending := by
  simp [loadBanks]

@[simp] theorem setParamBits_pending (k : Nat) : (setParamBits s k).pending = s.pending := by
  simp [setParamBits]

@[simp] theorem clearParamBits_pending (k : Nat) : (clearParamBits s k).pending = s.pending := by
  simp [clearParamBits]

@[simp] theorem setSlotState_pending (f k v : Nat) : (setSlotState s f k v).pending = s.pending := by
  simp [setSlotState]

@[simp] theorem modSlot_pending (f k : Nat) (g : Slot → Slot) : (modSlot s f k g).pending = s.pending := by
  simp [modSlot]

@[simp] theorem issueOp_pending (f : Nat) (o : PlanOp) (how : Nat) : (issueOp s f o how).pending = s.pending := by
  simp [issueOp]

/-! ## Reduce-and-apply: contributions, canonical sums, parts, gradients, the optimiser, digests, replay and the all-gather
-/

@[simp] theorem rauFlag_pending (die : Nat) (f en : Field) : (rauFlag s die f en).pending = s.pending := by
  simp [rauFlag]

@[simp] theorem rauSendFor_pending (op : Option (Nat × Nat)) (die dst : Nat) (m : Message) :
    (rauSendFor s op die dst m).pending = s.pending := by
  simp [rauSendFor]

@[simp] theorem rauSend_pending (die dst : Nat) (m : Message) : (rauSend s die dst m).pending = s.pending := by
  simp [rauSend]

@[simp] theorem setRed_pending (r : Reduction) : (setRed s r).pending = s.pending := by
  simp [setRed]

@[simp] theorem setSeen_pending (b n d v : Nat) : (setSeen s b n d v).pending = s.pending := by
  simp [setSeen]

@[simp] theorem countDrop_pending (e : BlockEntry) (n d v : Nat) : (countDrop s e n d v).pending = s.pending := by
  simp [countDrop]

@[simp] theorem dropContribution_pending (e : BlockEntry) (n d : Nat) : (dropContribution s e n d).pending = s.pending := by
  unfold dropContribution
  split <;> simp

@[simp] theorem dropCleared_pending (e : BlockEntry) (n d : Nat) : (dropCleared s e n d).pending = s.pending := by
  simp [dropCleared]

@[simp] theorem setContribution_pending (b : Nat) (c : Contribution) : (setContribution s b c).pending = s.pending := by
  simp [setContribution]

@[simp] theorem dropBuffered_pending (b n d : Nat) : (dropBuffered s b n d).pending = s.pending := by
  simp [dropBuffered]

@[simp] theorem addContribution_pending (e : BlockEntry) (r : Reduction) (i : Nat) (c : Contribution) :
    (addContribution s e r i c).1.pending = s.pending := by
  simp [addContribution]

@[simp] theorem redLoop_pending (e : BlockEntry) (ids : List Nat) (hi k : Nat) (r : Reduction) :
    (redLoop e ids hi k s r).1.pending = s.pending := by
  induction k generalizing s r with
  | zero => rfl
  | succ k ih =>
    unfold redLoop
    split
    · rfl
    · dsimp only
      split
      · rfl
      · simp
      · rfl
      · split
        · split
          · simp [ih]
          · simp [ih]
        · split
          · simp [ih]
          · simp [ih]

@[simp] theorem putGrad_pending (e : BlockEntry) (n off : Nat) (gs : List W32) :
    (putGrad s e n off gs).pending = s.pending := by
  simp [putGrad]

@[simp] theorem putRecord_pending (e : BlockEntry) (n : Nat) (eta c : W32) (skip nonfin : Bool) :
    (putRecord s e n eta c skip nonfin).pending = s.pending := by
  simp [putRecord]

@[simp] theorem sendGrads_pending (e : BlockEntry) (n : Nat) (gs : List W32) (bitmap : List Nat) (dst : Nat) :
    (sendGrads s e n gs bitmap dst).pending = s.pending := by
  simp [sendGrads]

@[simp] theorem skipBlock_pending (e : BlockEntry) (n : Nat) : (skipBlock s e n).pending = s.pending := by
  simp [skipBlock]

@[simp] theorem blockFinal_pending (e : BlockEntry) (n : Nat) (pairs : List (W32 × W32)) (bitmap : List Nat) (k : Nat) :
    (blockFinal s e n pairs bitmap k).pending = s.pending := by
  simp [blockFinal]

@[simp] theorem setPart_pending (p : PartIn) : (setPart s p).pending = s.pending := by
  simp [setPart]

@[simp] theorem sendPart_pending (e : BlockEntry) (n j : Nat) (pairs : List (W32 × W32)) (bitmap : List Nat) (skip : Bool) :
    (sendPart s e n j pairs bitmap skip).pending = s.pending := by
  unfold sendPart
  split <;> simp

@[simp] theorem combineParts_pending (e : BlockEntry) : (combineParts s e).pending = s.pending := by
  unfold combineParts
  extract_lets n got c s₁
  have hs₁ : s₁.pending = s.pending := by
    refine forEach_pending (fun s i => ?_) _ _
    split <;> simp
  split
  · simp [hs₁]
  · split
    · rfl
    · exact blockFinal_pending ..

@[simp] theorem advanceRed_pending (e : BlockEntry) (part : Option Nat) : (advanceRed s e part).pending = s.pending := by
  unfold advanceRed
  split <;> simp

@[simp] theorem advanceBlock_pending (e : BlockEntry) : (advanceBlock s e).pending = s.pending := by
  simp [advanceBlock]

@[simp] theorem advanceBlocks_pending : (advanceBlocks s).pending = s.pending := by
  simp [advanceBlocks]

@[simp] theorem rauLate_pending (die : Nat) : (rauLate s die).pending = s.pending := by
  simp [rauLate]

@[simp] theorem rauDup_pending (die n : Nat) : (rauDup s die n).pending = s.pending := by
  simp [rauDup]

@[simp] theorem discardLate_pending (e : BlockEntry) (c : Contribution) : (discardLate s e c).pending = s.pending := by
  simp [discardLate]

@[simp] theorem contributionArrived_pending (e : BlockEntry) (c : Contribution) (t : Nat) :
    (contributionArrived s e c t).pending = s.pending := by
  simp [contributionArrived]

@[simp] theorem acceptReduce_pending (m : ReduceMsg) (t : Nat) : (acceptReduce s m t).pending = s.pending := by
  unfold acceptReduce
  split
  · simp
  · dsimp only
    split
    · simp
    · split
      · simp
      · split <;> simp

@[simp] theorem acceptPart_pending (m : PartMsg) (t : Nat) : (acceptPart s m t).pending = s.pending := by
  unfold acceptPart
  split <;> simp

@[simp] theorem emptyParts_pending (n : Nat) : (emptyParts s n).pending = s.pending := by
  refine forEach_pending (fun s a => ?_) _ _
  simp

@[simp] theorem closeWindow_pending (n : Nat) : (closeWindow s n).pending = s.pending := by
  unfold closeWindow
  extract_lets _ s₁ s₂
  have hs₂ : s₂.pending = s.pending := by
    unfold s₂
    split
    · refine forEach_pending (fun s e => forEach_pending (fun s d => ?_) _ _) _ s₁
      split
      · split <;> simp
      · rfl
    · rfl
  simp [hs₂]

@[simp] theorem writeMoment_pending (o : OptParams) (enc : List W32 → List Nat × List Nat) (a : Nat) (xs : List W32) :
    (writeMoment s o enc a xs).pending = s.pending := by
  simp [writeMoment]

@[simp] theorem applyBlock_pending (e : BlockEntry) (o : OptParams) (etaStep c : W32) (gs : List W32) :
    (applyBlock s e o etaStep c gs).1.pending = s.pending := by
  unfold applyBlock
  split
  · dsimp only
    split <;> simp
  · dsimp only
    split <;> simp

@[simp] theorem blockApply_pending (e : BlockEntry) : (blockApply s e).pending = s.pending := by
  unfold blockApply
  dsimp only
  split <;> simp

@[simp] theorem acceptGrad_pending (m : GradMsg) : (acceptGrad s m).pending = s.pending := by
  unfold acceptGrad
  split <;> simp

@[simp] theorem sendDigests_pending (e : BlockEntry) (n : Nat) : (sendDigests s e n).pending = s.pending := by
  simp [sendDigests]

@[simp] theorem settleReports_pending (e : BlockEntry) (n : Nat) (ds : List Nat) :
    (settleReports s e n ds).pending = s.pending := by
  simp [settleReports]

@[simp] theorem updateRauStep_pending (die : Nat) : (updateRauStep s die).pending = s.pending := by
  unfold updateRauStep
  split <;> simp

@[simp] theorem agree_pending (e : BlockEntry) (n : Nat) (ds : List Nat) : (agree s e n ds).pending = s.pending := by
  simp [agree]

@[simp] theorem lastDiv_pending (e : BlockEntry) (n outcome k : Nat) : (lastDiv s e n outcome k).pending = s.pending := by
  simp [lastDiv]

@[simp] theorem blockLost_pending (e : BlockEntry) (n : Nat) : (blockLost s e n).pending = s.pending := by
  simp [blockLost]

@[simp] theorem copyBlocks_pending (e : BlockEntry) (bad : List Nat) (copy : List (Nat × List Byte)) :
    (copyBlocks s e bad copy).pending = s.pending := by
  refine forEach_pending (fun s a => ?_) _ _
  split <;> simp

@[simp] theorem judgeDigests_pending
    (e : BlockEntry) (n : Nat) (ds : List (Nat × List Nat)) (copy : List (Nat × List Byte)) :
    (judgeDigests s e n ds copy).pending = s.pending := by
  simp [judgeDigests]

@[simp] theorem compareLoop_pending (e : BlockEntry) (copy : List (Nat × List Byte)) (k : Nat) :
    (compareLoop e copy k s).pending = s.pending := by
  induction k generalizing s with
  | zero => rfl
  | succ k ih =>
    unfold compareLoop
    dsimp only
    split
    · rfl
    · split
      · rfl
      · simp [ih]

@[simp] theorem compareDigests_pending (e : BlockEntry) (copy : List (Nat × List Byte)) :
    (compareDigests s e copy).pending = s.pending := by
  simp [compareDigests]

@[simp] theorem replayStep_pending (e : BlockEntry) (k : Nat) : (replayStep e s k).pending = s.pending := by
  simp [replayStep]

@[simp] theorem blockReplay_pending (e : BlockEntry) (copy : Option (List Byte)) :
    (blockReplay s e copy).pending = s.pending := by
  unfold blockReplay
  extract_lets x n own finish
  have hown : ∀ t, own = some t → t.pending = s.pending := by
    intro t h
    unfold own at h
    split at h
    · dsimp only at h
      split at h
      · cases h
        exact forEach_pending (fun _ _ => replayStep_pending ..) _ _
      · cases h
    · cases h
  clear_value own
  split
  · rfl
  · split
    · simp [finish, hown _ rfl]
    · simp [finish]
    · simp

@[simp] theorem sendParams_pending (e : BlockEntry) (n : Nat) : (sendParams s e n).pending = s.pending := by
  simp [sendParams]

@[simp] theorem allGather_pending (e : BlockEntry) : (allGather s e).pending = s.pending := by
  unfold allGather
  extract_lets x n
  split
  · rfl
  · split
    · split
      · rfl
      · exact sendParams_pending ..
    · split
      · rfl
      · split
        · rfl
        · split
          · rfl
          · split
            · rfl
            · exact sendParams_pending ..

@[simp] theorem promoteBlock_pending (e : BlockEntry) (lostAt : Nat) : (promoteBlock s e lostAt).pending = s.pending := by
  simp [promoteBlock]

@[simp] theorem promoteBlocks_pending (d lostAt : Nat) : (promoteBlocks s d lostAt).pending = s.pending := by
  simp [promoteBlocks]

@[simp] theorem clearPairs_pending (die : Nat) : (clearPairs s die).pending = s.pending := by
  simp [clearPairs]

@[simp] theorem restartPairs_pending (die : Nat) : (restartPairs s die).pending = s.pending := by
  unfold restartPairs
  extract_lets s₁ cut _ s₂
  have hs₁ : s₁.pending = s.pending := by
    refine forEach_pending (fun s x => ?_) _ _
    dsimp only
    split
    · rfl
    · split <;> simp
  have hs₂ : s₂.pending = s.pending := by
    refine (forEach_pending (fun s x => ?_) _ _).trans hs₁
    split
    · dsimp only
      split <;> simp
    · rfl
  simp [hs₂]

@[simp] theorem rewindBlocks_pending (n : Nat) : (rewindBlocks s n).pending = s.pending := by
  simp [rewindBlocks]

/-! ## Parameter blocks arriving: where they go, when they may be placed, and the parameter bits -/

@[simp] theorem putParam_pending (m : ParamMsg) (n dest frond addr : Nat) :
    (putParam s m n dest frond addr).pending = s.pending := by
  unfold putParam
  extract_lets e arrival store mem
  have hstore : ∀ s a bs, (store s a bs).pending = s.pending := fun _ _ _ => rfl
  have hmem : ∀ s a bs, (mem s a bs).pending = s.pending := fun _ _ _ => by simp [mem]
  have harrival : ∀ s put a, (∀ s a bs, (put s a bs).pending = s.pending) → (arrival s put a).pending = s.pending :=
    fun _ _ _ hput => by simp [arrival, hput]
  split
  · exact hstore ..
  · exact harrival _ _ _ hstore
  · exact (harrival _ _ _ hmem).trans (hmem ..)

@[simp] theorem placeParam_pending (m : ParamMsg) (n : Nat) : (placeParam s m n).pending = s.pending := by
  simp [placeParam]

@[simp] theorem acceptParam_pending (m : ParamMsg) : (acceptParam s m).pending = s.pending := by
  unfold acceptParam
  split <;> simp

@[simp] theorem pumpParams_pending : (pumpParams s).pending = s.pending := by
  unfold pumpParams
  extract_lets go _ s₁
  split
  · rfl
  · refine forEach_pending (fun s m => ?_) _ s₁
    split <;> simp

/-! ## Rebuilding rows and parity slots, degraded reads, lost rows -/

@[simp] theorem modRebuild_pending (subject : Nat) (key : SlotKey) (parity : Bool) (f : Rebuild → Rebuild) :
    (modRebuild s subject key parity f).pending = s.pending := by
  simp [modRebuild]

@[simp] theorem askPiece_pending (a : PieceAsk) : (askPiece s a).pending = s.pending := by
  simp [askPiece]

@[simp] theorem addForward_pending (f : Forward) : (addForward s f).pending = s.pending := by
  simp [addForward]

@[simp] theorem loseRows_pending (own : Nat) (key : SlotKey) (stride count : Nat) :
    (loseRows s own key stride count).pending = s.pending := by
  simp [loseRows]

@[simp] theorem loseRow_pending (own : Nat) (key : SlotKey) : (loseRow s own key).pending = s.pending := by
  unfold loseRow
  split
  · rfl
  · split
    · simp
    · split <;> simp

@[simp] theorem startRebuild_pending (subject : Nat) (key : SlotKey) (demand : Bool) :
    (startRebuild s subject key demand).pending = s.pending := by
  unfold startRebuild
  split
  · simp
  · split
    · rfl
    · split <;> simp

@[simp] theorem startParityRebuild_pending (holder table : Nat) (rem : Bool) (q : Nat) :
    (startParityRebuild s holder table rem q).pending = s.pending := by
  unfold startParityRebuild
  split
  · rfl
  · split <;> simp

@[simp] theorem startPiece_pending (y : Share) : (startPiece s y).pending = s.pending := by
  unfold startPiece
  split <;> simp

@[simp] theorem shareLoop_pending (k i n fuel : Nat) (x : Share) : (shareLoop k i n fuel s x).1.pending = s.pending := by
  induction fuel generalizing s x with
  | zero => rfl
  | succ fuel ih =>
    unfold shareLoop
    split
    · rfl
    · dsimp only
      split
      · simp
      · simp [ih]

@[simp] theorem runShare_pending
    (flood : State → Notice → State) (x : Share) (hflood : ∀ s a, (flood s a).pending = s.pending) :
    (runShare flood s x).pending = s.pending := by
  unfold runShare
  extract_lets drop
  split
  · rfl
  · split
    · rfl
    · extract_lets r s₁
      have hs₁ : s₁.pending = s.pending := shareLoop_pending ..
      split
      · exact hs₁
      · exact (hflood ..).trans hs₁

@[simp] theorem degradedRead_pending (own : Nat) (d : List Byte) (rem : Bool) (l : Nat) :
    (degradedRead s own d rem l).pending = s.pending := by
  unfold degradedRead
  split
  · rfl
  · dsimp only
    split
    · split
      · simp
      · split <;> simp
    · split
      · simp
      · split <;> simp

@[simp] theorem startRewrite_pending (own : Nat) (key : SlotKey) (bs : List Byte) :
    (startRewrite s own key bs).pending = s.pending := by
  unfold startRewrite
  split <;> simp

/-! ## The migration protocol of the tier manager -/

@[simp] theorem startMig_pending (k : MigKind) (p : Nat) (dst : Place) (first : List Nat) :
    (startMig s k p dst first).pending = s.pending := by
  simp [startMig]

@[simp] theorem copyLines_pending (src dst : Place) (ls : List Nat) : (copyLines s src dst ls).pending = s.pending := by
  simp [copyLines]

@[simp] theorem dropRequests_pending (p : Nat) : (dropRequests s p).pending = s.pending := by
  simp [dropRequests]

@[simp] theorem addDemand_pending (p : Nat) (first : List Nat) : (addDemand s p first).pending = s.pending := by
  simp [addDemand]

@[simp] theorem dropDemand_pending (p : Nat) : (dropDemand s p).pending = s.pending := by
  simp [dropDemand]

@[simp] theorem endMig_pending (p : Nat) : (endMig s p).pending = s.pending := by
  simp [endMig]

@[simp] theorem releaseHeld_pending (ws : List HeldWrite) : (releaseHeld s ws).pending = s.pending := by
  simp [releaseHeld]

@[simp] theorem finishRevokes_pending : (finishRevokes s).pending = s.pending := by
  refine forEach_pending (fun s k => ?_) _ _
  dsimp only
  split
  · split <;> simp
  · rfl

@[simp] theorem pagesMoved_pending : (pagesMoved s).pending = s.pending := by
  simp [pagesMoved]

@[simp] theorem abandonMig_pending (m : Migration) : (abandonMig s m).pending = s.pending := by
  simp [abandonMig]

@[simp] theorem losePage_pending (p : Nat) : (losePage s p).pending = s.pending := by
  unfold losePage
  split <;> simp

@[simp] theorem losePages_pending (ps : List Nat) : (losePages s ps).pending = s.pending := by
  simp [losePages]

@[simp] theorem abandonPage_pending (p : Nat) : (abandonPage s p).pending = s.pending := by
  unfold abandonPage
  split <;> simp

@[simp] theorem loseSource_pending (k : Nat) : (loseSource s k).pending = s.pending := by
  unfold loseSource
  dsimp only
  split <;> simp

@[simp] theorem loseGrants_pending : (loseGrants s).pending = s.pending := by
  simp [loseGrants]

/-! ## Base dies: their reads and writes of lines -/

@[simp] theorem stkFlag_pending (n : Nat) (f en : Field) : (stkFlag s n f en).pending = s.pending := by
  simp [stkFlag]

@[simp] theorem burst_pending (n : Nat) (write : Bool) (off : Nat) : (burst n write s off).pending = s.pending := by
  simp [burst]

@[simp] theorem dramBurst_pending (n : Nat) (write : Bool) (off : Nat) : (dramBurst n write s off).pending = s.pending := by
  simp [dramBurst]

@[simp] theorem logRepair_pending (n kind a b : Nat) : (logRepair s n kind a b).pending = s.pending := by
  simp [logRepair]

@[simp] theorem retireFrame_pending (n f : Nat) : (retireFrame s n f).pending = s.pending := by
  simp [retireFrame]

@[simp] theorem failRow_pending (n c f : Nat) : (failRow s n c f).pending = s.pending := by
  simp [failRow]

@[simp] theorem useSpare_pending (n c f : Nat) : (useSpare s n c f).pending = s.pending := by
  simp [useSpare]

@[simp] theorem repairDone_pending (n c f : Nat) : (repairDone s n c f).pending = s.pending := by
  simp [repairDone]

@[simp] theorem errAddr_pending (n off : Nat) (uncorr : Bool) (sym : Option Nat) :
    (errAddr s n off uncorr sym).pending = s.pending := by
  unfold errAddr
  split <;> simp

@[simp] theorem setMark_pending (n c pin : Nat) : (setMark s n c pin).pending = s.pending := by
  simp [setMark]

@[simp] theorem markPin_pending (n c pin : Nat) : (markPin s n c pin).pending = s.pending := by
  simp [markPin]

@[simp] theorem countPin_pending (n c f pin : Nat) : (countPin n c f s pin).pending = s.pending := by
  simp [countPin]

@[simp] theorem lineUncorrectable_pending (n off : Nat) : (lineUncorrectable s n off).pending = s.pending := by
  unfold lineUncorrectable
  dsimp only
  split <;> simp

@[simp] theorem lineCorrected_pending (n off : Nat) (symbols : List Nat) (again : List (Nat × Nat)) :
    (lineCorrected s n off symbols again).pending = s.pending := by
  unfold lineCorrected
  dsimp only
  split
  · simp
  · split <;> simp

@[simp] theorem lineRead_pending (n off : Nat) (e : LineErr) : (lineRead s n off e).1.pending = s.pending := by
  unfold lineRead
  split
  · dsimp only
    split <;> simp
  · dsimp only
    split <;> simp

@[simp] theorem meetLines_pending (k : Nat) (ls : List Nat) : (meetLines s k ls).1.pending = s.pending := by
  simp [meetLines]

@[simp] theorem meetErrors_pending (k off n : Nat) : (meetErrors s k off n).1.pending = s.pending := by
  simp [meetErrors]

@[simp] theorem meetAt_pending (a n : Nat) : (meetAt s a n).pending = s.pending := by
  simp [meetAt]

@[simp] theorem countRaw_pending (a n : Nat) : (countRaw s a n).pending = s.pending := by
  simp [countRaw]

@[simp] theorem rawRead_pending (a n : Nat) : (rawRead s a n).pending = s.pending := by
  simp [rawRead]

@[simp] theorem modLink_pending (n : Nat) (up : Bool) (f : D2DLink → D2DLink) : (modLink s n up f).pending = s.pending := by
  simp [modLink]

@[simp] theorem emitFlit_pending (n : Nat) (up : Bool) (f : Flit) : (emitFlit s n up f).pending = s.pending := by
  simp [emitFlit]

@[simp] theorem flitPump_pending (n k : Nat) (up : Bool) : (flitPump n up k s).pending = s.pending := by
  induction k generalizing s with
  | zero => rfl
  | succ k ih =>
    unfold flitPump
    dsimp only
    split
    · rfl
    · simp [ih]

@[simp] theorem sendFlits_pending (n : Nat) (up : Bool) (fs : List Flit) : (sendFlits s n up fs).pending = s.pending := by
  simp [sendFlits]

@[simp] theorem startRetrain_pending (n : Nat) : (startRetrain s n).pending = s.pending := by
  simp [startRetrain]

@[simp] theorem refuseFlit_pending (n : Nat) (up : Bool) : (refuseFlit s n up).pending = s.pending := by
  simp [refuseFlit]

@[simp] theorem acceptFlit_pending (n : Nat) (up : Bool) : (acceptFlit s n up).pending = s.pending := by
  simp [acceptFlit]

@[simp] theorem reply_pending (n lines : Nat) (r : D2DReply) : (reply s n lines r).pending = s.pending := by
  simp [reply]

@[simp] theorem txBurst_pending (n : Nat) (t : StackTx) (i : Nat) : (txBurst n t s i).pending = s.pending := by
  unfold txBurst
  split <;> simp

@[simp] theorem readLines_pending (n off : Nat) (errs : List LineErr) : (readLines n off errs s).1.pending = s.pending := by
  simp [readLines]

@[simp] theorem finishTx_pending (n : Nat) (x : StackTx) : (finishTx s n x).pending = s.pending := by
  unfold finishTx
  split
  · split
    · simp
    · split
      · next heq => simp [of_fst_pending heq (lineRead_pending ..)]
      · next heq => simp [of_fst_pending heq (lineRead_pending ..)]
  · split
    · simp
    · split
      · next heq => simp [of_fst_pending heq (readLines_pending ..)]
      · next heq => simp [of_fst_pending heq (readLines_pending ..)]
  · extract_lets full
    split
    · exact reply_pending ..
    · split
      · exact (reply_pending ..).trans (hbmSet_pending ..)
      · split
        · next heq => exact (reply_pending ..).trans ((hbmSet_pending ..).trans (of_fst_pending heq (lineRead_pending ..)))
        · next heq => exact (reply_pending ..).trans (of_fst_pending heq (lineRead_pending ..))
  · split
    · exact reply_pending ..
    · exact (reply_pending ..).trans (hbmSet_pending ..)
  · rfl

@[simp] theorem runTx_pending (n : Nat) (t : StackTx) : (runTx s n t).pending = s.pending := by
  simp [runTx]

@[simp] theorem queueTx_pending (n : Nat) (q : QueuedTx) : (queueTx s n q).pending = s.pending := by
  simp [queueTx]

@[simp] theorem takeTx_pending (n : Nat) (t : StackTx) : (takeTx s n t).pending = s.pending := by
  simp [takeTx]

@[simp] theorem issueWaiting_pending (n : Nat) : (issueWaiting n s).pending = s.pending := by
  simp [issueWaiting]

@[simp] theorem completeTx_pending (n place : Nat) : (completeTx s n place).pending = s.pending := by
  unfold completeTx
  split <;> simp

@[simp] theorem serveChannel_pending (n c : Nat) : (serveChannel n s c).pending = s.pending := by
  unfold serveChannel
  split
  · rfl
  · split <;> simp

@[simp] theorem serveBare_pending (n : Nat) : (serveBare n s).pending = s.pending := by
  unfold serveBare
  split <;> simp

@[simp] theorem serveRounds_pending (n k : Nat) : (serveRounds n k s).pending = s.pending := by
  induction k generalizing s with
  | zero => rfl
  | succ k ih =>
    simp [serveRounds, ih]

@[simp] theorem serveAll_pending (n : Nat) : (serveAll s n).pending = s.pending := by
  simp [serveAll]

@[simp] theorem completeAccepted_pending (n : Nat) : (completeAccepted s n).pending = s.pending := by
  simp [completeAccepted]

@[simp] theorem pumpTx_pending (n : Nat) : (pumpTx s n).pending = s.pending := by
  simp [pumpTx]

@[simp] theorem takeControlFlit_pending (n : Nat) (up nak : Bool) (seq : Nat) :
    (takeControlFlit s n up nak seq).pending = s.pending := by
  unfold takeControlFlit
  split
  · dsimp only
    split <;> simp
  · dsimp only
    split <;> simp

@[simp] theorem takeFlit_pending (n : Nat) (up : Bool) (bytes : List Byte) :
    (takeFlit s n up bytes).pending = s.pending := by
  unfold takeFlit
  split
  · rfl
  · split <;> simp

@[simp] theorem resendFlits_pending (n : Nat) (up : Bool) : (resendFlits n s up).pending = s.pending := by
  simp [resendFlits]

@[simp] theorem mapOut_pending (n : Nat) (up : Bool) (fs : List Nat) : (mapOut s n up fs).pending = s.pending := by
  simp [mapOut]

@[simp] theorem retrainEnd_pending (n : Nat) (good : Bool) (down up : List Nat) :
    (retrainEnd s n good down up).pending = s.pending := by
  simp [retrainEnd]

@[simp] theorem applyRepair_pending (n : Nat) (e : Nat × Nat × Nat × Nat) : (applyRepair n s e).pending = s.pending := by
  unfold applyRepair
  split
  · rfl
  · split <;> simp

@[simp] theorem initDone_pending (n : Nat) : (initDone s n).pending = s.pending := by
  simp [initDone]

@[simp] theorem scrubLine_pending (n : Nat) (e : LineErr) : (scrubLine s n e).pending = s.pending := by
  simp [scrubLine]

/-! ## Writes of the tiered range by the host's window and by peers, and reads of memory by them: answered, or held until
their places serve them and their rows are rebuilt -/

@[simp] theorem commitWrite_pending (a : Nat) (bs : List Byte) : (commitWrite s a bs).pending = s.pending := by
  unfold commitWrite
  extract_lets meet
  have hmeet : ∀ s c, (meet s c).pending = s.pending := by
    intro s c
    unfold meet
    split <;> simp
  simp [hmeet]

@[simp] theorem pumpCommits_pending : (pumpCommits s).pending = s.pending := by
  simp [pumpCommits]

@[simp] theorem askPieceRow_pending (c : Option RowAt × Nat × Nat) : (askPieceRow s c).pending = s.pending := by
  unfold askPieceRow
  split <;> simp

@[simp] theorem answerRead_pending (w : WaitRead) (bs : List Byte) : (answerRead s w bs).pending = s.pending := by
  unfold answerRead
  split <;> simp

@[simp] theorem poisonRead_pending (w : WaitRead) : (poisonRead s w).pending = s.pending := by
  unfold poisonRead
  split <;> simp

@[simp] theorem askTiered_pending (a n : Nat) : (askTiered s a n).pending = s.pending := by
  simp [askTiered]

@[simp] theorem askLocal_pending (a n : Nat) : (askLocal s a n).pending = s.pending := by
  simp [askLocal]

@[simp] theorem useLocal_pending (a n : Nat) : (useLocal s a n).pending = s.pending := by
  simp [useLocal]

@[simp] theorem localReads_pending (rs : List (Nat × Nat)) : (localReads s rs).1.pending = s.pending := by
  unfold localReads
  split
  · simp
  · dsimp only
    split <;> simp

@[simp] theorem serveTiered_pending (w : WaitRead) : (serveTiered s w).1.pending = s.pending := by
  unfold serveTiered
  split
  · rfl
  · dsimp only
    split
    · simp
    · split
      · simp
      · split <;> simp

@[simp] theorem serveRaw_pending (k : Nat) (w : WaitRead) : (serveRaw s k w).1.pending = s.pending := by
  unfold serveRaw
  dsimp only
  split <;> simp

@[simp] theorem serveRead_pending (w : WaitRead) : (serveRead s w).1.pending = s.pending := by
  unfold serveRead
  split
  · simp
  · split <;> simp

@[simp] theorem takeRead_pending (w : WaitRead) : (takeRead s w).pending = s.pending := by
  simp [takeRead]

@[simp] theorem newRead_pending (hdr : Option Hdr) (a n : Nat) : (newRead s hdr a n).pending = s.pending := by
  simp [newRead]

@[simp] theorem pumpReads_pending : (pumpReads s).pending = s.pending := by
  simp [pumpReads]

/-! ## How a row is read by the device that serves it: where its bytes lie, what its read waits for, what it meets and what
it counts -/

@[simp] theorem meetRow_pending (own : Nat) (d : List Byte) (rem : Bool) (l k : Nat) :
    (meetRow s own d rem l k).pending = s.pending := by
  unfold meetRow
  split <;> simp

@[simp] theorem useRow_pending (own : Nat) (d : List Byte) (rem : Bool) (l k : Nat) :
    (useRow s own d rem l k).pending = s.pending := by
  unfold useRow
  extract_lets gs t1 count _ s₁ s₂
  have hcount : ∀ s g, (count s g).pending = s.pending := by
    intro s g
    unfold count
    split <;> simp
  have hs₂ : s₂.pending = s.pending := (forEach_pending touch_pending _ _).trans (forEach_pending hcount _ s₁)
  split <;> simp [hs₂]

@[simp] theorem lookRow_pending (own : Nat) (d : List Byte) (rem : Bool) (l : Nat) :
    (lookRow s own d rem l).1.pending = s.pending := by
  unfold lookRow
  split
  · simp
  · dsimp only
    split <;> simp

@[simp] theorem takeRow_pending (own : Nat) (d : List Byte) (rem : Bool) (l : Nat) :
    (takeRow s own d rem l).1.pending = s.pending := by
  unfold takeRow
  split
  · dsimp only
    split <;> simp
  · dsimp only
    split <;> simp

/-! ## The look-up path: batches at the requester, partial pools at the owner, pooled vectors, staging entries -/

@[simp] theorem lkFlag_pending (k : Nat) (f en : Field) (src : Nat) : (lkFlag s k f en src).pending = s.pending := by
  simp [lkFlag]

@[simp] theorem countSent_pending (n dst : Nat) : (countSent s n dst).pending = s.pending := by
  simp [countSent]

@[simp] theorem sendReq_pending (owner : Nat) (m : BagMsg) : (sendReq s owner m).pending = s.pending := by
  unfold sendReq
  split <;> simp

@[simp] theorem sendEnds_pending (n : Nat) : (sendEnds s n).pending = s.pending := by
  simp [sendEnds]

@[simp] theorem pumpEnds_pending : (pumpEnds s).pending = s.pending := by
  simp [pumpEnds]

@[simp] theorem endStep_pending (n : Nat) : (endStep s n).pending = s.pending := by
  simp [endStep]

@[simp] theorem keepLookups_pending : (keepLookups s).pending = s.pending := by
  simp [keepLookups]

@[simp] theorem dropLookups_pending : (dropLookups s).pending = s.pending := by
  simp [dropLookups]

@[simp] theorem writeBatch_pending (b : Batch) : (writeBatch s b).pending = s.pending := by
  unfold writeBatch
  split <;> simp

@[simp] theorem poolParity_pending (p : Nat) : (poolParity s p).pending = s.pending := by
  unfold poolParity
  split <;> simp

@[simp] theorem poolProgress_pending : (poolProgress s).pending = s.pending := by
  simp [poolProgress]

@[simp] theorem admitBatch_pending (n : Nat) (p : PlanEntry) (v : TableVersion) (k : Nat) :
    (admitBatch s n p v k).pending = s.pending := by
  simp [admitBatch]

@[simp] theorem updFlag_pending (k : Nat) (f en : Field) : (updFlag s k f en).pending = s.pending := by
  simp [updFlag]

@[simp] theorem stageRow_pending (d : List Byte) (own row : Nat) (rem : Bool) (n : Nat) :
    (stageRow s d own row rem n).pending = s.pending := by
  simp [stageRow]

@[simp] theorem askEntry_pending (v : TableVersion) (e : RowEntry) : (askEntry s v e).pending = s.pending := by
  simp [askEntry]

@[simp] theorem upsetCache_pending (us : List CacheUpset) : (upsetCache s us).pending = s.pending := by
  refine forEach_pending (fun s a => ?_) _ _
  simp

@[simp] theorem meetEntry_pending (v : TableVersion) (e : RowEntry) : (meetEntry v s e).pending = s.pending := by
  refine forEach_pending (fun s a => ?_) _ _
  split <;> simp

@[simp] theorem gatherLine_pending (k n : Nat) (narrow : Bool) (off : Nat) :
    (gatherLine k n narrow s off).pending = s.pending := by
  unfold gatherLine
  split
  · dsimp only
    split <;> simp
  · dsimp only
    split <;> simp

@[simp] theorem gatherRow_pending (own : Nat) (d : List Byte) (rem : Bool) (l : Nat) :
    (gatherRow s own d rem l).pending = s.pending := by
  unfold gatherRow
  extract_lets p k line narrow s₁
  have hline : ∀ n xs s, (forEach (line n narrow) s xs).pending = s.pending :=
    fun n => forEach_pending fun _ _ => gatherLine_pending ..
  split
  · refine forEach_pending (fun s g => ?_) _ _
    split
    · simp [hline]
    · rfl
  · split
    · split
      · exact hline ..
      · rfl
    · rfl

@[simp] theorem countAnswered_pending (d n : Nat) : (countAnswered s d n).pending = s.pending := by
  simp [countAnswered]

@[simp] theorem refuseReq_pending (m : BagMsg) : (refuseReq s m).pending = s.pending := by
  simp [refuseReq]

@[simp] theorem answerReq_pending (m : BagMsg) (v : TableVersion) (rows : List (List (List FV))) :
    (answerReq s m v rows).pending = s.pending := by
  simp [answerReq]

@[simp] theorem serveReq_pending (m : BagMsg) : (serveReq s m).1.pending = s.pending := by
  unfold serveReq
  split
  · rfl
  · split
    · split
      · dsimp only
        split <;> simp
      · simp
    · split
      · rfl
      · dsimp only
        split
        · simp
        · split <;> simp

@[simp] theorem pumpReqs_pending : (pumpReqs s).pending = s.pending := by
  simp [pumpReqs]

@[simp] theorem resumeOnce_pending : (resumeOnce s).pending = s.pending := by
  simp [resumeOnce]

@[simp] theorem resumeLoop_pending (k : Nat) : (resumeLoop k s).pending = s.pending := by
  induction k generalizing s with
  | zero => rfl
  | succ k ih =>
    simp [resumeLoop, ih]

@[simp] theorem resume_pending : (resume s).pending = s.pending := by
  simp [resume]

@[simp] theorem acceptReq_pending (m : BagMsg) : (acceptReq s m).pending = s.pending := by
  simp [acceptReq]

@[simp] theorem acceptRsp_pending (m : LookupRsp) : (acceptRsp s m).pending = s.pending := by
  unfold acceptRsp
  split
  · dsimp only
    split <;> simp
  · dsimp only
    split <;> simp

@[simp] theorem offerRsp_pending (m : LookupRsp) : (offerRsp s m).pending = s.pending := by
  simp [offerRsp]

/-! ## Commands of the look-up path -/

@[simp] theorem onData_pending (g : State → State) (hg : ∀ s, (g s).pending = s.pending) :
    (onData g s).pending = s.pending := by
  simp [onData, hg]

@[simp] theorem acceptEnd_pending (source step count : Nat) : (acceptEnd s source step count).pending = s.pending := by
  simp [acceptEnd]

@[simp] theorem retireVersion_pending (x : TableState) : (retireVersion s x).pending = s.pending := by
  unfold retireVersion
  split <;> simp

/-! ## The sparse update path: gradients at the requester, merging, closing, applying, remainder rows -/

@[simp] theorem countLateUpd_pending (h n : Nat) : (countLateUpd s h n).pending = s.pending := by
  simp [countLateUpd]

@[simp] theorem sendUpdates_pending (b : Batch) (v : TableVersion) (o : Nat) :
    (sendUpdates s b v o).pending = s.pending := by
  simp [sendUpdates]

@[simp] theorem startUpdate_pending (n f k : Nat) : (startUpdate s n f k).pending = s.pending := by
  unfold startUpdate
  extract_lets s₁ s₂
  have hs₂ : s₂.pending = s.pending := by
    refine (forEach_pending (fun s t => ?_) _ _).trans (setSb_pending ..)
    split
    · split <;> simp
    · rfl
  simp [hs₂]

@[simp] theorem modStage_pending (own t v row : Nat) (rem : Bool) (n : Nat) (f : StageEntry → StageEntry) :
    (modStage s own t v row rem n f).pending = s.pending := by
  simp [modStage]

@[simp] theorem addTerms_pending (own t v row : Nat) (rem : Bool) (n : Nat) (ts : List W32) :
    (addTerms s own t v row rem n ts).pending = s.pending := by
  simp [addTerms]

@[simp] theorem mergeReq_pending (m : BagMsg) (v : TableVersion) (vals : List (List FV × List FV)) :
    (mergeReq s m v vals).pending = s.pending := by
  simp [mergeReq]

@[simp] theorem askMerge_pending (m : BagMsg) (v : TableVersion) : (askMerge s m v).pending = s.pending := by
  simp -implicitDefEqProofs [askMerge]

@[simp] theorem useMerge_pending (m : BagMsg) (v : TableVersion) : (useMerge s m v).pending = s.pending := by
  simp [useMerge]

@[simp] theorem acceptUpdate_pending (m : BagMsg) : (acceptUpdate s m).pending = s.pending := by
  unfold acceptUpdate
  split
  · simp
  · split
    · rfl
    · split
      · dsimp only
        split <;> simp
      · dsimp only
        split
        · simp
        · split <;> simp

@[simp] theorem sendRemGrads_pending (n : Nat) : (sendRemGrads s n).pending = s.pending := by
  refine forEach_pending (fun s a => ?_) _ _
  simp

@[simp] theorem cancelExpected_pending (p : Expected → Bool) : (cancelExpected s p).pending = s.pending := by
  simp [cancelExpected]

@[simp] theorem updateUpdStep_pending : (updateUpdStep s).pending = s.pending := by
  simp [updateUpdStep]

@[simp] theorem endSeries_pending : (endSeries s).pending = s.pending := by
  simp [endSeries]

@[simp] theorem closeStep_pending (n : Nat) : (closeStep s n).pending = s.pending := by
  simp [closeStep]

@[simp] theorem detMerge_pending (n : Nat) : (detMerge s n).pending = s.pending := by
  unfold detMerge
  dsimp only
  split <;> simp

@[simp] theorem renewCopy_pending (own : Nat) (key : SlotKey) (new : List Byte) :
    (renewCopy s own key new).pending = s.pending := by
  simp [renewCopy]

@[simp] theorem commitRow_pending (own t v row : Nat) (rem : Bool) (n : Nat) (d old new : List Byte) :
    (commitRow s own t v row rem n d old new).pending = s.pending := by
  simp [commitRow]

@[simp] theorem finishRow_pending (x : PendEntry) (v : TableVersion) (old : List Byte) :
    (finishRow s x v old).pending = s.pending := by
  unfold finishRow
  dsimp only
  split <;> simp

@[simp] theorem setBp_pending (k : Nat) (on : Bool) : (setBp s k on).pending = s.pending := by
  simp [setBp]

theorem placePending_pending {s t : State} {x : PendEntry} (h : placePending s x = some t) : t.pending = s.pending := by
  unfold placePending at h
  extract_lets at h
  split at h
  · cases h; rfl
  · split at h
    · cases h; rfl
    · cases h

@[simp] theorem demandPages_pending (ps : List (Nat × List Nat)) : (demandPages s ps).pending = s.pending := by
  simp [demandPages]

@[simp] theorem sendRemRows_pending : (sendRemRows s).pending = s.pending := by
  refine forEach_pending (fun s a => ?_) _ _
  split <;> simp

@[simp] theorem rowLeft_pending : (rowLeft s).pending = s.pending := by
  simp [rowLeft]

@[simp] theorem dropStage_pending (x : StageEntry) : (dropStage s x).pending = s.pending := by
  simp [dropStage]

@[simp] theorem applyEntry_pending (x : StageEntry) : (applyEntry s x).pending = s.pending := by
  unfold applyEntry
  split
  · split
    · simp
    · extract_lets scale g e far
      split
      · simp
      · split
        · split
          · rfl
          · split
            · next heq => simp [of_fst_pending heq (takeRow_pending ..)]
            · next heq => exact of_fst_pending heq (takeRow_pending ..)
        · split
          · next hplace => simp [placePending_pending hplace]
          · simp
  · simp

@[simp] theorem dropPending_pending (x : PendEntry) : (dropPending s x).pending = s.pending := by
  simp [dropPending]

@[simp] theorem completePending_pending (x : PendEntry) : (completePending s x).pending = s.pending := by
  unfold completePending
  split
  · split
    · rfl
    · split
      · simp
      · split
        · rfl
        · split
          · next heq => simp [of_fst_pending heq (takeRow_pending ..)]
          · next heq => exact of_fst_pending heq (takeRow_pending ..)
  · simp

@[simp] theorem mergeRem_pending (v : TableVersion) (n : Nat) : (mergeRem s v n).pending = s.pending := by
  simp [mergeRem]

@[simp] theorem acceptRemGrad_pending (m : RemGrad) : (acceptRemGrad s m).pending = s.pending := by
  unfold acceptRemGrad
  split <;> simp

@[simp] theorem acceptRemRow_pending (m : RemRow) : (acceptRemRow s m).pending = s.pending := by
  unfold acceptRemRow
  split
  · rfl
  · extract_lets copies gone each held s₁ s₂ s₃ seen
    have hs₁ : s₁.pending = s.pending := by
      unfold s₁
      split
      · exact forEach_pending (fun _ _ => wantRow_pending ..) _ _
      · exact forEach_pending (fun _ _ => meetRow_pending ..) _ _
    have hs₂ : s₂.pending = s.pending := by
      unfold s₂
      split
      · exact hs₁
      · exact (forEach_pending (fun _ _ => degradedRead_pending ..) _ _).trans hs₁
    have hs₃ : s₃.pending = s.pending := by
      refine (forEach_pending (fun s r => ?_) _ _).trans hs₂
      split <;> simp
    split
    · exact hs₂
    · simp [hs₃]

@[simp] theorem returnSpilled_pending (k j : Nat) : (returnSpilled k j s).pending = s.pending := by
  induction j generalizing s with
  | zero => rfl
  | succ j ih =>
    unfold returnSpilled
    split
    · rfl
    · simp [ih]

/-! ## The step sequencer: lists, completion of ops, settling, the start of a step -/

@[simp] theorem startList_pending (f n : Nat) : (startList s f n).pending = s.pending := by
  simp [startList]

@[simp] theorem returnCredit_pending (f : Nat) (o : PlanOp) : (returnCredit s f o).pending = s.pending := by
  unfold returnCredit
  dsimp only
  split
  · split <;> simp
  · rfl

@[simp] theorem listGoesOn_pending (f : Nat) : (listGoesOn s f).pending = s.pending := by
  unfold listGoesOn
  split
  · rfl
  · dsimp only
    split <;> simp

@[simp] theorem opDone_pending (f g : Nat) (o : PlanOp) : (opDone s f g o).pending = s.pending := by
  simp [opDone]

@[simp] theorem moveDone_pending (f i : Nat) : (moveDone s f i).pending = s.pending := by
  unfold moveDone
  dsimp only
  split <;> simp

@[simp] theorem movesArrive_pending : (movesArrive s).pending = s.pending := by
  simp [movesArrive]

@[simp] theorem acksIn_pending : (acksIn s).pending = s.pending := by
  simp [acksIn]

@[simp] theorem moveLeaves_pending (f : Nat) (o : PlanOp) : (moveLeaves s f o).pending = s.pending := by
  simp [moveLeaves]

@[simp] theorem completeStops_pending (n : Nat) : (completeStops s n).pending = s.pending := by
  unfold completeStops
  dsimp only
  split
  · rfl
  · split <;> simp

@[simp] theorem settleSteps_pending (k : Nat) : (settleSteps k s).pending = s.pending := by
  induction k generalizing s with
  | zero => rfl
  | succ k ih =>
    simp [settleSteps, ih]

@[simp] theorem settle_pending : (settle s).pending = s.pending := by
  simp [settle]

@[simp] theorem reportOps_pending (f : Nat) (ops : List Nat) : (reportOps s f ops).pending = s.pending := by
  simp [reportOps]

@[simp] theorem cancelOps_pending (f : Nat) : (cancelOps s f).pending = s.pending := by
  simp [cancelOps]

@[simp] theorem haltStep_pending : (haltStep s).pending = s.pending := by
  simp [haltStep]

@[simp] theorem installSwaps_pending (n : Nat) : (installSwaps s n).pending = s.pending := by
  refine forEach_pending (fun s a => ?_) _ _
  split <;> simp

@[simp] theorem beginRun_pending (r : RunSteps) (n : Nat) : (beginRun s r n).pending = s.pending := by
  simp [beginRun]

@[simp] theorem openWindow_pending (n : Nat) : (openWindow s n).pending = s.pending := by
  simp [openWindow]

@[simp] theorem scaleStart_pending (n : Nat) : (scaleStart s n).pending = s.pending := by
  simp [scaleStart]

@[simp] theorem countDry_pending : (countDry s).pending = s.pending := by
  simp [countDry]

@[simp] theorem startStep_pending (n : Nat) : (startStep s n).pending = s.pending := by
  unfold startStep
  split <;> simp

/-! ## Checkpoint streams: what a save writes and what a load places -/

@[simp] theorem askRows_pending (rs : List RowRef) : (askRows s rs).pending = s.pending := by
  simp [askRows]

@[simp] theorem placeGlobal_pending (b : List Byte) : (placeGlobal s b).pending = s.pending := by
  simp [placeGlobal]

@[simp] theorem placeDense_pending (g : CkSeg) (e : BlockEntry) : (placeDense s g e).pending = s.pending := by
  unfold placeDense
  extract_lets o a hit mv pick s₁ s₂ t s₃ z s₄
  have hs₁ : s₁.pending = s.pending := by
    refine forEach_pending (fun s i => ?_) _ _
    split <;> rfl
  simp [s₄, s₃, s₂, hs₁]

@[simp] theorem placeRow_pending (own : Nat) (v : TableVersion) (rem : Bool) (l : Nat) (home : Bool) (bs : List Byte) :
    (placeRow s own v rem l home bs).pending = s.pending := by
  simp [placeRow]

@[simp] theorem placeRows_pending (want : State → Nat → SlotKey → Bool) (g : CkSeg) (roles : List Nat) :
    (placeRows want s g roles).1.pending = s.pending := by
  unfold placeRows
  extract_lets rem
  split
  · rfl
  · extract_lets size
    split
    · rfl
    · refine forEachFst_pending (fun x i => ?_) _ _
      dsimp only
      split
      · rfl
      · exact forEach_pending (fun _ _ => placeRow_pending ..) _ _

@[simp] theorem loadSegment_pending (x : State × Nat × Nat × Bool) (g : CkSeg) :
    (loadSegment x g).1.pending = x.1.pending := by
  unfold loadSegment
  split
  · split <;> simp
  · simp
  · simp
  · simp
  · rfl

@[simp] theorem ckLoadAll_pending (gs : List CkSeg) : (ckLoadAll s gs).1.pending = s.pending := by
  simp [ckLoadAll]

@[simp] theorem ckClear_pending : (ckClear s).pending = s.pending := by
  unfold ckClear
  extract_lets _ s₁ s₂ n s₃ s₄ s₅ _ _ s₆
  have hs₂ : s₂.pending = s.pending := forEach_pending (fun _ _ => setPte_pending ..) _ s₁
  have hs₄ : s₄.pending = s.pending := by simp only [s₄, s₃, zeroKeys_pending, hs₂]
  have hs₅ : s₅.pending = s₄.pending := forEach_pending (fun _ _ => zeroKeys_pending ..) _ _
  simp only [pagesMoved_pending, loseScale_pending, s₆, hs₅, hs₄]

@[simp] theorem markRestored_pending (own : Nat) (v : TableVersion) (rem : Bool) (l : Nat) (bs : List Byte) :
    (markRestored s own v rem l bs).pending = s.pending := by
  simp [markRestored]

@[simp] theorem restoreRows_pending (g : CkSeg) : (restoreRows s g).1.pending = s.pending := by
  unfold restoreRows
  split <;> simp

@[simp] theorem restoreBlock_pending (g : CkSeg) (e : BlockEntry) : (restoreBlock g s e).pending = s.pending := by
  simp [restoreBlock]

@[simp] theorem restoreSegment_pending (x : State × Nat × Nat) (g : CkSeg) :
    (restoreSegment x g).1.pending = x.1.pending := by
  unfold restoreSegment
  split <;> simp

@[simp] theorem runRestores_pending : (runRestores s).pending = s.pending := by
  refine forEach_pending (fun s a => ?_) _ _
  split <;> simp

/-! ## The step barrier -/

@[simp] theorem clearBits_pending (n : Nat) (vote : Bool) : (clearBits s n vote).pending = s.pending := by
  simp [clearBits]

@[simp] theorem barrierComplete_pending (n : Nat) (r : BarrierRec) : (barrierComplete s n r).pending = s.pending := by
  simp [barrierComplete]

@[simp] theorem barrierSend_pending (n : Nat) (r : BarrierRec) (level : Nat) :
    (barrierSend s n r level).pending = s.pending := by
  simp [barrierSend]

@[simp] theorem barrierAdvance_pending (k : Nat) : (barrierAdvance k s).pending = s.pending := by
  induction k generalizing s with
  | zero => rfl
  | succ k ih =>
    unfold barrierAdvance
    split
    · rfl
    · dsimp only
      split
      · rfl
      · simp [ih]

@[simp] theorem formRecord_pending : (formRecord s).pending = s.pending := by
  unfold formRecord
  split <;> simp

@[simp] theorem acceptBarrier_pending (m : BarrierMsg) : (acceptBarrier s m).pending = s.pending := by
  unfold acceptBarrier
  dsimp only
  split <;> simp

/-! ## Commands of the counter block and the trace unit -/

@[simp] theorem cntCtlWrite_pending (v : Nat) : (cntCtlWrite s v).pending = s.pending := by
  simp [cntCtlWrite]

@[simp] theorem freezeNow_pending (tFreeze : Nat) : (freezeNow s tFreeze).pending = s.pending := by
  simp -implicitDefEqProofs [freezeNow]

/-! ## The frond's array: operands, passes, accumulation, slots, drains, and the MOVE engine -/

@[simp] theorem setAccPair_pending (f k r c : Nat) (p : W32 × W32) : (setAccPair s f k r c p).pending = s.pending := by
  simp [setAccPair]

@[simp] theorem storePut_pending (f off : Nat) (bs : List Byte) : (storePut s f off bs).pending = s.pending := by
  simp [storePut]

@[simp] theorem swapWeights_pending (f : Nat) : (swapWeights s f).pending = s.pending := by
  simp [swapWeights]

@[simp] theorem loadPass_pending (f : Nat) (d : List Byte) (i : Nat) : (loadPass s f d i).pending = s.pending := by
  simp [loadPass]

@[simp] theorem setSlotFlags_pending (f k : Nat) (sat inf : Bool) : (setSlotFlags s f k sat inf).pending = s.pending := by
  simp [setSlotFlags]

@[simp] theorem initSlot_pending (f k : Nat) (d : List Byte) : (initSlot s f k d).pending = s.pending := by
  unfold initSlot
  split
  · rfl
  · extract_lets s₁
    have hs₁ : s₁.pending = s.pending := forEach_pending (by intros; rfl) _ _
    exact (cntAdd_pending ..).trans hs₁
  · rfl

@[simp] theorem addPass_pending (f k : Nat) (d : List Byte) (scale : ℤ) (i : Nat) :
    (addPass s f k d scale i).pending = s.pending := by
  simp [addPass]

@[simp] theorem setStall_pending (f v : Nat) : (setStall s f v).pending = s.pending := by
  simp [setStall]

@[simp] theorem runPass_pending (f : Nat) : (runPass s f).pending = s.pending := by
  unfold runPass
  split
  · rfl
  · split
    · dsimp only
      split
      · rfl
      · split <;> rfl
    · dsimp only
      split
      · rfl
      · split <;> simp

@[simp] theorem issueProduct_pending (f : Nat) (o : PlanOp) (how : Nat) : (issueProduct s f o how).pending = s.pending := by
  unfold issueProduct
  split
  · dsimp only
    split <;> simp
  · dsimp only
    split <;> simp

@[simp] theorem drainDone_pending (f k : Nat) (o : PlanOp) : (drainDone s f k o).pending = s.pending := by
  simp [drainDone]

theorem drainRowTo_pending {s t : State} {f k r : Nat} {d : List Byte} (h : drainRowTo s f k d r = some t) :
    t.pending = s.pending := by
  revert h
  unfold drainRowTo
  extract_lets
  split
  · rintro ⟨⟩; simp
  · rintro ⟨⟩; simp
  · rintro ⟨⟩; simp
  · dsimp only
    split
    · rintro ⟨⟩; rfl
    · split
      · rintro ⟨⟩
      · split
        · rintro ⟨⟩
        · rintro ⟨⟩; simp
  · rintro ⟨⟩

@[simp] theorem drainRow_pending (f k : Nat) : (drainRow s f k).pending = s.pending := by
  unfold drainRow
  extract_lets x
  split
  · rfl
  · dsimp only
    split
    · rfl
    · split
      · simp
      · next hdrain => simp [drainRowTo_pending hdrain]

@[simp] theorem chainArrived_pending (f g : Nat) : (chainArrived s f g).pending = s.pending := by
  unfold chainArrived
  split <;> simp

@[simp] theorem moveViolations_pending (f : Nat) (o : PlanOp) : (moveViolations s f o).pending = s.pending := by
  simp [moveViolations]

@[simp] theorem putRows_pending (g : Nat) (rows : List (Nat × List Byte)) : (putRows s g rows).pending = s.pending := by
  simp [putRows]

@[simp] theorem sendRows_pending
    (op : Option (Nat × Nat)) (dst g stride : Nat) (done : Option Nat) (rows : List (Nat × List Byte)) :
    (sendRows s op dst g stride done rows).pending = s.pending := by
  simp [sendRows]

@[simp] theorem sendReduce_pending (f : Nat) (o : PlanOp) : (sendReduce s f o).pending = s.pending := by
  unfold sendReduce
  dsimp only
  split
  · rfl
  · split
    · simp
    · split <;> simp

@[simp] theorem moveToQueue_pending (f : Nat) (o : PlanOp) : (moveToQueue s f o).pending = s.pending := by
  simp [moveToQueue]

@[simp] theorem runMove_pending (f : Nat) (o : PlanOp) : (runMove s f o).pending = s.pending := by
  unfold runMove
  split
  · dsimp only
    split <;> simp
  · dsimp only
    split <;> simp

@[simp] theorem queueArrive_pending (q : Nat) : (queueArrive s q).pending = s.pending := by
  unfold queueArrive
  split
  · rfl
  · split
    · rfl
    · split <;> simp

@[simp] theorem creditArrive_pending (q : Nat) : (creditArrive s q).pending = s.pending := by
  simp [creditArrive]

@[simp] theorem planStall_pending (f : Nat) : (planStall s f).pending = s.pending := by
  simp [planStall]

/-! ## Operand forms of the element engines: instruction words -/

@[simp] theorem modEng_pending (f : Nat) (g : Engine → Engine) : (modEng s f g).pending = s.pending := by
  simp [modEng]

@[simp] theorem modRun_pending (f : Nat) (g : Invocation → Invocation) : (modRun s f g).pending = s.pending := by
  simp [modRun]

@[simp] theorem setSreg_pending (f i : Nat) (v : W32) : (setSreg s f i v).pending = s.pending := by
  simp [setSreg]

@[simp] theorem setVreg_pending (f r : Nat) (vs : List W32) : (setVreg s f r vs).pending = s.pending := by
  simp [setVreg]

/-! ## The element engine: invocations, lanes, regions, conversions, row reductions, completion -/

@[simp] theorem regionPut_pending (f : Nat) (x : Invocation) (r row p c : Nat) :
    (regionPut s f x r row p c).pending = s.pending := by
  simp [regionPut]

@[simp] theorem eeFlags_pending (f : Nat) (c : CvtFlags) : (eeFlags s f c).pending = s.pending := by
  simp [eeFlags]

@[simp] theorem recordProduce_pending (f : Nat) (x : Invocation) (tensor : Option Nat) (vs : List W32) :
    (recordProduce s f x tensor vs).pending = s.pending := by
  unfold recordProduce
  split <;> simp

@[simp] theorem storeBlock_pending
    (f : Nat) (x : Invocation) (r : Nat) (rnd : Nat → Nat → Rnd) (k : ℤ) (scale : List W32) (b : List StoreElem) :
    (storeBlock f x r rnd k scale s b).pending = s.pending := by
  unfold storeBlock
  split
  · rfl
  · split
    · simp
    · dsimp only
      split <;> simp

@[simp] theorem regionStore_pending (f : Nat) (x : Invocation) (r rnd : Nat) (scale : List W32) (es : List StoreElem) :
    (regionStore s f x r rnd scale es).pending = s.pending := by
  unfold regionStore
  extract_lets fmt rnd' tensor pre k s₁ s₂
  have hs₁ : s₁.pending = s.pending := recordProduce_pending ..
  have hs₂ : s₂.pending = s.pending := hs₁
  split
  · exact hs₁
  · split
    · exact (foldl_pending (fun _ _ => storeBlock_pending ..) _ _).trans hs₂
    · refine (foldl_pending (fun s e => ?_) _ _).trans hs₂
      split
      · rfl
      · split <;> simp

@[simp] theorem writeLanesBut_pending
    (f : Nat) (x : Invocation) (i : EInstr) (skip : Nat → Bool) (res : Nat → W32 × CvtFlags) :
    (writeLanesBut s f x i skip res).pending = s.pending := by
  simp [writeLanesBut]

@[simp] theorem writeLanes_pending (f : Nat) (x : Invocation) (i : EInstr) (res : Nat → W32 × CvtFlags) :
    (writeLanes s f x i res).pending = s.pending := by
  simp [writeLanes]

@[simp] theorem unary_pending (g : W32 → W32 × CvtFlags) (i : EInstr) (f : Nat) (x : Invocation) :
    (unary g i f x s).pending = s.pending := by
  simp [unary]

@[simp] theorem binary_pending (g : W32 → W32 → W32 × CvtFlags) (i : EInstr) (f : Nat) (x : Invocation) :
    (binary g i f x s).pending = s.pending := by
  simp [binary]

@[simp] theorem ternary_pending (g : W32 → W32 → W32 → W32 × CvtFlags) (i : EInstr) (f : Nat) (x : Invocation) :
    (ternary g i f x s).pending = s.pending := by
  simp [ternary]

@[simp] theorem cvtPlain_pending (f : Nat) (x : Invocation) (i : EInstr) : (cvtPlain s f x i).pending = s.pending := by
  simp [cvtPlain]

@[simp] theorem cvtBlock_pending (f : Nat) (x : Invocation) (i : EInstr) : (cvtBlock s f x i).pending = s.pending := by
  simp [cvtBlock]

@[simp] theorem loadLanes_pending (f : Nat) (x : Invocation) (i : EInstr) : (loadLanes s f x i).pending = s.pending := by
  simp [loadLanes]

@[simp] theorem storeLanes_pending (f : Nat) (x : Invocation) (i : EInstr) : (storeLanes s f x i).pending = s.pending := by
  simp [storeLanes]

@[simp] theorem rowFlag_pending (f b : Nat) : (rowFlag s f b).pending = s.pending := by
  simp [rowFlag]

@[simp] theorem rowSticky_pending (f : Nat) (fl : Field) : (rowSticky s f fl).pending = s.pending := by
  simp [rowSticky]

@[simp] theorem countRow_pending (f b r : Nat) : (countRow s f b r).pending = s.pending := by
  simp [countRow]

@[simp] theorem emptyRow_pending (f : Nat) : (emptyRow s f).pending = s.pending := by
  simp [emptyRow]

@[simp] theorem nanRow_pending (f : Nat) : (nanRow s f).pending = s.pending := by
  simp [nanRow]

@[simp] theorem writeRow_pending (f : Nat) (x : Invocation) (r rnd : Nat) (scale : W32) (vs : List (W32 × Nat)) :
    (writeRow s f x r rnd scale vs).pending = s.pending := by
  simp [writeRow]

@[simp] theorem softmaxRow_pending (f : Nat) (x : Invocation) (i : EInstr) : (softmaxRow s f x i).pending = s.pending := by
  unfold softmaxRow
  split
  · simp
  · dsimp only
    split <;> simp

@[simp] theorem lnormRow_pending (f : Nat) (x : Invocation) (i : EInstr) : (lnormRow s f x i).pending = s.pending := by
  unfold lnormRow
  split
  · simp
  · dsimp only
    split <;> simp

@[simp] theorem clearLanes_pending (f : Nat) : (clearLanes s f).pending = s.pending := by
  unfold clearLanes
  split <;> simp

@[simp] theorem beginRow_pending (f : Nat) : (beginRow s f).pending = s.pending := by
  unfold beginRow
  dsimp only
  split <;> simp

@[simp] theorem startInvocation_pending (f : Nat) (row : Bool) : (startInvocation s f row).pending = s.pending := by
  unfold startInvocation
  split
  · rfl
  · split <;> simp

@[simp] theorem setJitExp_pending (t k : Nat) : (setJitExp s t k).pending = s.pending := by
  unfold setJitExp
  split <;> simp

@[simp] theorem finishInvocation_pending (f : Nat) (x : Invocation) : (finishInvocation s f x).pending = s.pending := by
  unfold finishInvocation
  split
  · simp
  · split
    · dsimp only
      split <;> simp
    · dsimp only
      split <;> simp

@[simp] theorem stopInvocation_pending (f : Nat) : (stopInvocation s f).pending = s.pending := by
  simp [stopInvocation]

@[simp] theorem nextGroup_pending (f : Nat) (x : Invocation) : (nextGroup s f x).pending = s.pending := by
  simp [nextGroup]

@[simp] theorem nextRow_pending (f : Nat) (x : Invocation) : (nextRow s f x).pending = s.pending := by
  simp [nextRow]

@[simp] theorem advanceEngine_pending (f : Nat) (x : Invocation) (whole ends : Bool) :
    (advanceEngine s f x whole ends).pending = s.pending := by
  simp [advanceEngine]

@[simp] theorem reduceChunk_pending
    (f : Nat) (x : Invocation) (i : EInstr) (vs : List W32) (fold : List W32 → Invocation → Invocation) (result :
    Invocation → W32) (fl : CvtFlags) : (reduceChunk s f x i vs fold result fl).pending = s.pending := by
  simp [reduceChunk]

@[simp] theorem countCycles_pending (f : Nat) (x : Invocation) (op aux : Nat) :
    (countCycles s f x op aux).pending = s.pending := by
  simp [countCycles]

/-! ## Commands of the tier manager -/

@[simp] theorem useExpanders_pending : (useExpanders s).pending = s.pending := by
  unfold useExpanders
  split <;> simp

@[simp] theorem discardPage_pending (p : Nat) : (discardPage s p).pending = s.pending := by
  simp [discardPage]

@[simp] theorem applyPolicy_pending (p : TierPolicy) : (applyPolicy s p).pending = s.pending := by
  simp [applyPolicy]

@[simp] theorem scanPage_pending (p : Nat) : (scanPage s p).pending = s.pending := by
  simp [scanPage]

@[simp] theorem takeRebuilt_pending (p : Nat) (dst : Place) : (takeRebuilt s p dst).pending = s.pending := by
  unfold takeRebuilt
  extract_lets s₁ s₂ s₃ m s₄
  have hs₂ : s₂.pending = s.pending := by
    refine (forEach_pending (fun s x => ?_) _ _).trans (zeroPlace_pending ..)
    split <;> rfl
  have hs₃ : s₃.pending = s.pending := by
    unfold s₃
    split
    · exact hs₂
    · exact hs₂
  simp only [tierPressure_pending, countPlaceWrite_pending, s₄, setPte_pending, hs₃]

/-! ## The thallus loader: verification of an image, staging, epoch switches -/

@[simp] theorem thlErr_pending (e : LoadErr) : (thlErr s e).pending = s.pending := by
  simp [thlErr]

@[simp] theorem thlReject_pending (i : Nat) (e : LoadErr) : (thlReject s i e).pending = s.pending := by
  simp [thlReject]

@[simp] theorem setStructChange_pending : (setStructChange s).pending = s.pending := by
  simp [setStructChange]

@[simp] theorem beginLoad_pending (i src len : Nat) : (beginLoad s i src len).pending = s.pending := by
  unfold beginLoad
  split
  · simp
  · extract_lets s₁ s₂ _ s₃ dst n
    have hs₃ : s₃.pending = s.pending := (setStructChange_pending _).trans (startCmd_pending ..)
    split
    · exact hs₃
    · split
      · exact hs₃
      · exact (forEach_pending (fun _ _ => sendMsgFor_pending ..) _ _).trans hs₃

@[simp] theorem failLoad_pending (l : LoadRun) (e : LoadErr) : (failLoad s l e).pending = s.pending := by
  simp [failLoad]

@[simp] theorem failFetch_pending : (failFetch s).pending = s.pending := by
  unfold failFetch
  split <;> simp

@[simp] theorem setDigest_pending (r : Nat → Nat) (d : List Byte) : (setDigest s r d).pending = s.pending := by
  refine forEach_pending (fun s a => ?_) _ _
  simp

@[simp] theorem stageImage_pending (l : LoadRun) (img : List Byte) : (stageImage s l img).pending = s.pending := by
  simp [stageImage]

@[simp] theorem verifyDone_pending (image : Option (List Byte)) (genChanged : Bool) :
    (verifyDone s image genChanged).pending = s.pending := by
  unfold verifyDone
  split
  · rfl
  · split
    · split
      · split
        · dsimp only
          split <;> simp
        · simp
      · simp
    · split
      · rfl
      · dsimp only
        split <;> simp

@[simp] theorem loadData_pending (src addr status : Nat) (bytes : List Byte) :
    (loadData s src addr status bytes).pending = s.pending := by
  unfold loadData
  split <;> simp

@[simp] theorem loadPeerLost_pending (d : Nat) : (loadPeerLost s d).pending = s.pending := by
  unfold loadPeerLost
  split <;> simp

@[simp] theorem applyRoute_pending : (applyRoute s).pending = s.pending := by
  simp -implicitDefEqProofs [applyRoute]

@[simp] theorem applyEventMap_pending : (applyEventMap s).pending = s.pending := by
  unfold applyEventMap
  exact (evgSettle_pending _).trans (forEach_pending (by intros; rfl) _ _)

@[simp] theorem applyDesc_pending (x : List Byte × List Nat) : (applyDesc s x).pending = s.pending := by
  unfold applyDesc
  dsimp only
  split
  · rfl
  · split <;> simp

@[simp] theorem remap_pending : (remap s).pending = s.pending := by
  unfold remap
  extract_lets left stays s₁ s₂
  have hs₁ : s₁.pending = s.pending := forEach_pending (by intros; rfl) _ _
  exact (forEach_pending (by intros; rfl) _ _ : s₂.pending = s₁.pending).trans hs₁

@[simp] theorem newStructure_pending (img : List Byte) : (newStructure s img).pending = s.pending := by
  simp [newStructure]

@[simp] theorem applySwitch_pending (epoch t : Nat) : (applySwitch s epoch t).pending = s.pending := by
  unfold applySwitch
  extract_lets fresh h st prev oldA s₁ s₂ os s₃ s₄ s₅ s₆ s₇ sg s₈ s₉ img again s₁₀ s₁₁ s₁₂ s₁₃ _ s₁₄
  have hs₂ : s₂.pending = s.pending := by
    refine forEach_pending (fun s k => ?_) _ s₁
    rw [setReg_pending, setReg_pending]
  have hs₉ : s₉.pending = s.pending := by
    simp -implicitDefEqProofs only
      [s₉, tracePush_pending, s₈, s₇, wf_pending, setStructChange_pending, s₆, s₅, s₄, s₃, setReg_pending, hs₂]
  have hs₁₂ : s₁₂.pending = s.pending := by
    simp -implicitDefEqProofs only
      [s₁₂, applyEventMap_pending, applyCounterPlan_pending, applyRoute_pending, s₁₁, s₁₀, ite_pending,
      remap_pending, newStructure_pending, hs₉, ite_self]
  have hs₁₃ : s₁₃.pending = s.pending := (forEach_pending (fun _ _ => applyDesc_pending ..) _ _).trans hs₁₂
  have hs₁₄ : s₁₄.pending = s.pending := by
    dsimp only [s₁₄]
    exact hs₁₃
  split
  · exact (finOk_pending s₁₄ ..).trans hs₁₄
  · exact hs₁₄

@[simp] theorem switchNow_pending : (switchNow s).pending = s.pending := by
  simp [switchNow]

@[simp] theorem beginSwitch_pending (i epoch t pfx : Nat) : (beginSwitch s i epoch t pfx).pending = s.pending := by
  unfold beginSwitch
  split <;> simp

@[simp] theorem resetLoader_pending : (resetLoader s).pending = s.pending := by
  unfold resetLoader
  dsimp only
  split
  · split <;> simp
  · simp

/-! ## The commands of the ring: fetch, acceptance, start, abort -/

@[simp] theorem beginRunSteps_pending (i first t0 ring slotBytes slots line inDev : Nat) :
    (beginRunSteps s i first t0 ring slotBytes slots line inDev).pending = s.pending := by
  simp [beginRunSteps]

@[simp] theorem beginStop_pending (i step : Nat) : (beginStop s i step).pending = s.pending := by
  simp [beginStop]

@[simp] theorem runCheckpoint_pending (c : Cmd) : (runCheckpoint s c).pending = s.pending := by
  unfold runCheckpoint
  split <;> simp

@[simp] theorem ckData_pending (i mode : Nat) (n : Except Nat (List Byte)) : (ckData s i mode n).pending = s.pending := by
  unfold ckData
  split <;> simp

@[simp] theorem ckRead_pending (i src len mode : Nat) (data : Option (List Byte)) :
    (ckRead s i src len mode data).pending = s.pending := by
  unfold ckRead
  split <;> simp

@[simp] theorem pumpCheckpoints_pending : (pumpCheckpoints s).pending = s.pending := by
  unfold pumpCheckpoints
  refine (forEach_pending (fun _ _ => runCheckpoint_pending ..) _ _).trans (forEach_pending (fun s c => ?_) _ _)
  split <;> simp

@[simp] theorem beginSave_pending (i : Nat) : (beginSave s i).pending = s.pending := by
  simp [beginSave]

@[simp] theorem beginCkLoad_pending (i src len mode : Nat) (data : Option (List Byte)) :
    (beginCkLoad s i src len mode data).pending = s.pending := by
  simp [beginCkLoad]

@[simp] theorem beginSwap_pending (i t desc step : Nat) : (beginSwap s i t desc step).pending = s.pending := by
  unfold beginSwap
  dsimp only
  split
  · exact (rejectCmd_pending ..).trans (setTable_pending ..)
  · rfl
  · split
    · exact (installSwaps_pending ..).trans ((setTable_pending ..).trans (startCmd_pending ..))
    · exact (setTable_pending ..).trans (startCmd_pending ..)

@[simp] theorem tierReject_pending (i slot r : Nat) : (tierReject s i slot r).pending = s.pending := by
  simp [tierReject]

@[simp] theorem beginGrant_pending (i slot addr len : Nat) : (beginGrant s i slot addr len).pending = s.pending := by
  simp [beginGrant]

@[simp] theorem beginRevoke_pending (i slot : Nat) : (beginRevoke s i slot).pending = s.pending := by
  simp [beginRevoke]

@[simp] theorem beginSnapshot_pending (i dest : Nat) : (beginSnapshot s i dest).pending = s.pending := by
  simp [beginSnapshot]

@[simp] theorem beginFreeze_pending (i t : Nat) : (beginFreeze s i t).pending = s.pending := by
  simp [beginFreeze]

@[simp] theorem beginScales_pending (i op l tensor e interval step : Nat) :
    (beginScales s i op l tensor e interval step).pending = s.pending := by
  unfold beginScales
  split <;> simp

@[simp] theorem abortRun_pending : (abortRun s).pending = s.pending := by
  unfold abortRun
  dsimp only
  split <;> simp

@[simp] theorem abortEffect_pending (c : Cmd) : (abortEffect s c).pending = s.pending := by
  unfold abortEffect
  split <;> simp

@[simp] theorem stopCmd_pending (c : Cmd) (status : Nat) : (stopCmd s c status).pending = s.pending := by
  unfold stopCmd
  dsimp only
  split <;> simp

@[simp] theorem beginAbort_pending (i target : Nat) : (beginAbort s i target).pending = s.pending := by
  unfold beginAbort
  dsimp only
  split
  · simp
  · split <;> simp

@[simp] theorem beginCmd_pending (i : Nat) : (beginCmd s i).pending = s.pending := by
  unfold beginCmd
  split
  · rfl
  · split
    · simp
    · split
      · simp
      · split <;> simp

@[simp] theorem startWaiting_pending : (startWaiting s).pending = s.pending := by
  refine forEach_pending (fun s a => ?_) _ _
  split <;> simp

@[simp] theorem fetchCmd_pending (h : CmdHead) (op : CmdOp) (data : Option (List Byte)) :
    (fetchCmd s h op data).pending = s.pending := by
  simp [fetchCmd]

@[simp] theorem fetchAll_pending (ds : List Fetched) : (fetchAll s ds).pending = s.pending := by
  simp [fetchAll]

@[simp] theorem readLine_pending (produced consumed : Nat) (ds : List Fetched) :
    (readLine s produced consumed ds).pending = s.pending := by
  simp [readLine]

@[simp] theorem inputSeen_pending (supplied : Nat) : (inputSeen s supplied).pending = s.pending := by
  unfold inputSeen
  split <;> simp

@[simp] theorem inputCopied_pending (n : Nat) (bytes : List Byte) : (inputCopied s n bytes).pending = s.pending := by
  unfold inputCopied
  split
  · rfl
  · extract_lets s₁ a s₂ s₃
    have hs₂ : s₂.pending = s.pending := by
      unfold s₂
      split
      · next hwrite => exact (memWrite_pending hwrite).trans (emit_pending ..)
      · exact (violation_pending ..).trans (emit_pending ..)
    have hs₃ : s₃.pending = s.pending := hs₂
    split
    · exact (syncPage_pending _).trans hs₃
    · rfl

@[simp] theorem confirmWrites_pending : (confirmWrites s).pending = s.pending := by
  unfold confirmWrites
  split <;> simp

@[simp] theorem loseHostLink_pending (reason : Nat) : (loseHostLink s reason).pending = s.pending := by
  unfold loseHostLink
  dsimp only
  split <;> simp

@[simp] theorem hostLinkUp_pending (width speed : Nat) (cache : Bool) :
    (hostLinkUp s width speed cache).pending = s.pending := by
  simp [hostLinkUp]

@[simp] theorem hostRetrain_pending : (hostRetrain s).pending = s.pending := by
  simp [hostRetrain]

@[simp] theorem attach_pending (nonce : Nat) : (attach s nonce).pending = s.pending := by
  simp [attach]

@[simp] theorem noteBase_pending (k v : Nat) : (noteBase s k v).pending = s.pending := by
  simp [noteBase]

@[simp] theorem cmdCfgWrite_pending (v : Nat) : (cmdCfgWrite s v).pending = s.pending := by
  simp [cmdCfgWrite]

/-! ## Rebuild pieces, deltas at their holder and the parity scrub -/

@[simp] theorem floodMsg_pending (m : Message) : (floodMsg s m).pending = s.pending := by
  simp [floodMsg]

@[simp] theorem flood_pending (n : Notice) : (flood s n).pending = s.pending := by
  simp [flood]

@[simp] theorem pieceData_pending (own : Nat) (k : SlotKey) : (pieceData s own k).1.pending = s.pending := by
  unfold pieceData
  split
  · rfl
  · split <;> simp

@[simp] theorem servePiece_pending (req subject : Nat) (k : SlotKey) : (servePiece s req subject k).pending = s.pending := by
  unfold servePiece
  split
  · simp
  · simp
  · dsimp only
    split
    · simp
    · split
      · simp
      · split
        · simp
        · split <;> simp
  · split
    · simp
    · split <;> simp
  · rfl

@[simp] theorem serveWaits_pending : (serveWaits s).pending = s.pending := by
  simp [serveWaits]

@[simp] theorem acceptStop_pending (subject req : Nat) (k : SlotKey) : (acceptStop s subject req k).pending = s.pending := by
  simp [acceptStop]

@[simp] theorem xorSlot_pending (a : Nat) (bs : List Byte) : (xorSlot s a bs).pending = s.pending := by
  simp [xorSlot]

@[simp] theorem forwardParity_pending (h : Nat) (slot : SlotKey) (r : SorediumRec) :
    (forwardParity s h slot r).pending = s.pending := by
  simp [forwardParity]

@[simp] theorem applyDelta_pending (src : Nat) (r : SorediumRec) : (applyDelta src s r).pending = s.pending := by
  unfold applyDelta
  dsimp only
  split
  · simp
  · split
    · rfl
    · split
      · rfl
      · split
        · simp
        · split <;> simp

@[simp] theorem applySoredium_pending (m : Soredium) : (applySoredium s m).pending = s.pending := by
  unfold applySoredium
  dsimp only
  split <;> simp

@[simp] theorem acceptSoredium_pending (m : Soredium) : (acceptSoredium s m).pending = s.pending := by
  simp [acceptSoredium]

@[simp] theorem takeSoredium_pending (m : Soredium) : (takeSoredium s m).pending = s.pending := by
  simp [takeSoredium]

@[simp] theorem endScrub_pending : (endScrub s).pending = s.pending := by
  unfold endScrub
  split <;> simp

@[simp] theorem finishScrub_pending (c : Scrub) : (finishScrub s c).pending = s.pending := by
  unfold finishScrub
  split <;> simp

@[simp] theorem pumpScrub_pending : (pumpScrub s).pending = s.pending := by
  unfold pumpScrub
  split <;> simp

@[simp] theorem beginScrub_pending (table : Nat) (slot : HeldSlot) (rem : Bool) :
    (beginScrub s table slot rem).pending = s.pending := by
  unfold beginScrub
  split <;> simp

@[simp] theorem scrubPiece_pending (c : Scrub) (a : PieceAsk) (bs : List Byte) :
    (scrubPiece s c a bs).pending = s.pending := by
  simp [scrubPiece]

@[simp] theorem spareWrite_pending (subject org : Nat) (d : SorediumRec) :
    (spareWrite s subject org d).pending = s.pending := by
  unfold spareWrite
  split <;> simp

@[simp] theorem acceptFwd_pending (subject org : Nat) (d : SorediumRec) :
    (acceptFwd s subject org d).pending = s.pending := by
  simp [acceptFwd]

@[simp] theorem acceptAck_pending (step holder seq : Nat) : (acceptAck s step holder seq).pending = s.pending := by
  simp [acceptAck]

@[simp] theorem offerAck_pending (step holder seq : Nat) : (offerAck s step holder seq).pending = s.pending := by
  simp [offerAck]

@[simp] theorem takeInput_pending (m : Message) : (takeInput s m).pending = s.pending := by
  unfold takeInput
  split <;> simp

@[simp] theorem pumpInput_pending : (pumpInput s).pending = s.pending := by
  simp [pumpInput]

@[simp] theorem resumeAll_pending : (resumeAll s).pending = s.pending := by
  simp [resumeAll]

@[simp] theorem runShares_pending : (runShares s).pending = s.pending := by
  refine forEach_pending (fun s a => ?_) _ _
  split
  · simp
  · split <;> simp

@[simp] theorem finishRebuild_pending (r : Rebuild) : (finishRebuild s r).pending = s.pending := by
  unfold finishRebuild
  extract_lets keep drop s₁
  have hkeep : ∀ s, (keep s).pending = s.pending := fun _ => modRebuild_pending ..
  have hdrop : ∀ s, (drop s).pending = s.pending := fun _ => rfl
  have hs₁ : s₁.pending = s.pending := by
    unfold s₁
    split
    · exact hkeep s
    · split
      · rfl
      · extract_lets
        split
        · exact hkeep s
        · exact (bump_pending ..).trans ((hdrop _).trans (getD_devWrite_pending ..))
  simp [hs₁]

@[simp] theorem sendStops_pending (as : List PieceAsk) : (sendStops s as).pending = s.pending := by
  simp [sendStops]

@[simp] theorem rebuildNext_pending (r : Rebuild) : (rebuildNext s r).pending = s.pending := by
  simp [rebuildNext]

@[simp] theorem setRewrite_pending (r r' : Rewrite) : (setRewrite s r r').pending = s.pending := by
  simp [setRewrite]

@[simp] theorem dropRewrite_pending (r : Rewrite) : (dropRewrite s r).pending = s.pending := by
  simp [dropRewrite]

@[simp] theorem finishRewrite_pending (r : Rewrite) : (finishRewrite s r).pending = s.pending := by
  unfold finishRewrite
  split <;> simp

@[simp] theorem rewritePiece_pending (r : Rewrite) (a : PieceAsk) (bs : List Byte) :
    (rewritePiece s r a bs).pending = s.pending := by
  simp [rewritePiece]

@[simp] theorem acceptPiece_pending (subject org : Nat) (k : SlotKey) (bs : List Byte) :
    (acceptPiece s subject org k bs).pending = s.pending := by
  unfold acceptPiece
  dsimp only
  split <;> simp

@[simp] theorem failRebuild_pending (r : Rebuild) : (failRebuild s r).pending = s.pending := by
  simp [failRebuild]

@[simp] theorem acceptStopped_pending (subject org : Nat) (k : SlotKey) :
    (acceptStopped s subject org k).pending = s.pending := by
  unfold acceptStopped
  split
  · dsimp only
    split <;> simp
  · dsimp only
    split <;> simp

@[simp] theorem acceptDone_pending (subject org epoch : Nat) : (acceptDone s subject org epoch).pending = s.pending := by
  simp [acceptDone]

@[simp] theorem commitDone_pending (c : CommitEntry) : (commitDone s c).pending = s.pending := by
  unfold commitDone
  dsimp only
  split <;> simp

/-! ## Notices, declared losses, recovery epochs -/

@[simp] theorem forgetFlows_pending (d : Nat) : (forgetFlows s d).pending = s.pending := by
  unfold forgetFlows
  extract_lets s₁ s₂
  have hs₁ : s₁.pending = s.pending := forEach_pending (by intros; rfl) _ _
  have hs₂ : s₂.pending = s.pending := by
    refine (forEach_pending (fun s m => ?_) _ _).trans hs₁
    split <;> simp
  exact (acksIn_pending _).trans hs₂

@[simp] theorem resendAround_pending (d : Nat) : (resendAround s d).pending = s.pending := by
  simp [resendAround]

@[simp] theorem redirectDeltas_pending (d : Nat) : (redirectDeltas s d).pending = s.pending := by
  refine forEach_pending (fun s a => ?_) _ _
  split <;> simp

@[simp] theorem restartRebuilds_pending (d : Nat) : (restartRebuilds s d).pending = s.pending := by
  unfold restartRebuilds
  extract_lets needs hit hitW rs ws _ s₁ s₂ s₃
  have hs₁ : s₁.pending = s.pending := foldl_pending (fun _ _ => dropRewrite_pending ..) _ _
  have hs₂ : s₂.pending = s.pending := (forEach_pending (fun _ _ => by simp) _ _).trans hs₁
  have hs₃ : s₃.pending = s.pending := by
    refine (forEach_pending (fun s r => ?_) _ _).trans hs₂
    split <;> simp
  exact (runShares_pending _).trans hs₃

@[simp] theorem dropRequester_pending (d : Nat) : (dropRequester s d).pending = s.pending := by
  simp [dropRequester]

@[simp] theorem pauseDense_pending (d : Nat) : (pauseDense s d).pending = s.pending := by
  simp [pauseDense]

@[simp] theorem pumpRem_pending : (pumpRem s).pending = s.pending := by
  refine forEach_pending (fun s a => ?_) _ _
  split <;> simp

@[simp] theorem lossActions_pending (d : Nat) : (lossActions s d).pending = s.pending := by
  unfold lossActions
  dsimp only
  split <;> simp

@[simp] theorem findLostClass_pending (d k : Nat) (ms : List Nat) (i n : Nat) (key : SlotKey) :
    (findLostClass d k ms i n s key).pending = s.pending := by
  simp [findLostClass]

@[simp] theorem findLostRows_pending (d : Nat) : (findLostRows s d).pending = s.pending := by
  unfold findLostRows
  split
  · rfl
  · refine forEach_pending (fun s t => ?_) _ _
    split
    · rfl
    · exact forEach_pending (fun _ _ => forEach_pending (fun _ _ => findLostClass_pending ..) _ _) _ _

@[simp] theorem loseBlocks_pending (d : Nat) : (loseBlocks s d).pending = s.pending := by
  simp [loseBlocks]

@[simp] theorem resendLookups_pending (d : Nat) : (resendLookups s d).pending = s.pending := by
  simp [resendLookups]

@[simp] theorem commitDevice_pending (l : LostDev) : (commitDevice s l).pending = s.pending := by
  unfold commitDevice
  dsimp only
  split <;> simp

@[simp] theorem commitDevices_pending (ds : List LostDev) : (commitDevices s ds).pending = s.pending := by
  simp [commitDevices]

@[simp] theorem commitEpoch_pending : (commitEpoch s).pending = s.pending := by
  unfold commitEpoch
  split <;> simp

@[simp] theorem commitDue_pending : (commitDue s).pending = s.pending := by
  unfold commitDue
  split <;> simp

@[simp] theorem setEpoch_pending (n t : Nat) : (setEpoch s n t).pending = s.pending := by
  simp [setEpoch]

@[simp] theorem refreshEpoch_pending : (refreshEpoch s).pending = s.pending := by
  unfold refreshEpoch
  split <;> simp

@[simp] theorem countLate_pending : (countLate s).pending = s.pending := by
  simp [countLate]

@[simp] theorem commitBefore_pending (td : Nat) : (commitBefore s td).pending = s.pending := by
  unfold commitBefore
  split <;> simp

@[simp] theorem declare_pending (d td : Nat) : (declare s d td).pending = s.pending := by
  unfold declare
  dsimp only
  split
  · simp -implicitDefEqProofs
  · split <;> simp -implicitDefEqProofs

@[simp] theorem declareDue_pending (k : Nat) : (declareDue k s).pending = s.pending := by
  induction k generalizing s with
  | zero => rfl
  | succ k ih =>
    unfold declareDue
    dsimp only
    split
    · rfl
    · simp [ih]

@[simp] theorem lowerTd_pending (d : Nat) : (lowerTd s d).pending = s.pending := by
  simp [lowerTd]

@[simp] theorem acceptNotice_pending (n : Notice) : (acceptNotice s n).pending = s.pending := by
  simp [acceptNotice]

@[simp] theorem raiseNotice_pending (kind subject time reason : Nat) :
    (raiseNotice s kind subject time reason).pending = s.pending := by
  simp [raiseNotice]

/-! ## Routed frames: forwarding -/

@[simp] theorem countNoRoute_pending (die : Nat) : (countNoRoute s die).pending = s.pending := by
  simp [countNoRoute]

@[simp] theorem sendControl_pending (dst : Nat) (mk : Hdr → Frame) : (sendControl s dst mk).pending = s.pending := by
  unfold sendControl
  split
  · rfl
  · split
    · simp
    · split <;> simp

@[simp] theorem sendError_pending (code : Nat) (h : Hdr) : (sendError s code h).pending = s.pending := by
  simp [sendError]

@[simp] theorem sendAck_pending (src vc : Nat) : (sendAck s src vc).pending = s.pending := by
  simp [sendAck]

@[simp] theorem forward_pending (p : Nat) (h : Hdr) (data : Bool) (mk : Hdr → Frame) :
    (forward s p h data mk).pending = s.pending := by
  unfold forward
  split
  · simp
  · split <;> simp

@[simp] theorem setMismatch_pending (bit : Nat) : (setMismatch s bit).pending = s.pending := by
  simp [setMismatch]

@[simp] theorem countDelivery_pending (f : FlowIn) : (countDelivery s f).pending = s.pending := by
  simp [countDelivery]

@[simp] theorem landed_pending (f : FlowIn) (h : Hdr) (bytes : List Byte) : (landed s f h bytes).pending = s.pending := by
  simp [landed]

@[simp] theorem landFrame_pending (f : FlowIn) (l : Landing) (h : Hdr) (payload : List Byte) :
    (landFrame s f l h payload).pending = s.pending := by
  simp [landFrame]

@[simp] theorem outOfSeq_pending (p : Nat) : (outOfSeq s p).pending = s.pending := by
  simp [outOfSeq]

@[simp] theorem refuseFrame_pending (f : FlowIn) (code : Nat) (h : Hdr) : (refuseFrame s f code h).pending = s.pending := by
  simp [refuseFrame]

@[simp] theorem localData_pending (p : Nat) (h : Hdr) (payload : List Byte) :
    (localData s p h payload).1.pending = s.pending := by
  unfold localData
  split
  · dsimp only
    split
    · split <;> simp
    · split <;> simp
  · split
    · dsimp only
      split
      · split <;> simp
      · split <;> simp
    · split
      · split
        · dsimp only
          split
          · split <;> simp
          · split <;> simp
        · dsimp only
          split
          · split <;> simp
          · split
            · simp
            · split <;> simp
      · dsimp only
        split
        · split <;> simp
        · split
          · simp
          · split
            · split <;> simp
            · simp

@[simp] theorem pumpBlocked_pending (k : Nat) : (pumpBlocked k s).pending = s.pending := by
  induction k generalizing s with
  | zero => rfl
  | succ k ih =>
    unfold pumpBlocked
    split
    · rfl
    · dsimp only
      split
      · exact ih ..
      · split
        · simp [ih]
        · simp [ih]

@[simp] theorem pumpLanding_pending : (pumpLanding s).pending = s.pending := by
  simp [pumpLanding]

@[simp] theorem pumpUnits_pending : (pumpUnits s).pending = s.pending := by
  refine (pumpLanding_pending _).trans (forEach_pending (fun s f => ?_) _ _)
  split <;> simp

@[simp] theorem takeData_pending (p : Nat) (h : Hdr) (payload : List Byte) :
    (takeData s p h payload).pending = s.pending := by
  simp [takeData]

@[simp] theorem dropOldRoute_pending (dst vc : Nat) : (dropOldRoute s dst vc).pending = s.pending := by
  simp [dropOldRoute]

@[simp] theorem takeAck_pending (dst vc next : Nat) : (takeAck s dst vc next).pending = s.pending := by
  simp [takeAck]

@[simp] theorem discardFlow_pending (f : FlowOut) (seq : Nat) : (discardFlow s f seq).pending = s.pending := by
  simp [discardFlow]

@[simp] theorem lateMessage_pending (n : Message) : (lateMessage s n).pending = s.pending := by
  unfold lateMessage
  split
  · split <;> simp
  · simp
  · rfl

@[simp] theorem takeRefusal_pending (dst vc seq : Nat) : (takeRefusal s dst vc seq).pending = s.pending := by
  unfold takeRefusal
  dsimp only
  split <;> simp

@[simp] theorem takeNoRoute_pending (dst vc plane : Nat) : (takeNoRoute s dst vc plane).pending = s.pending := by
  simp [takeNoRoute]

@[simp] theorem takeError_pending (code vc seq : Nat) (copy : Hdr) : (takeError s code vc seq copy).pending = s.pending := by
  unfold takeError
  split <;> simp

/-! ## Ports: frame numbers and replay -/

@[simp] theorem rxFrame_pending (x : Rx) (f : Frame) : (rxFrame s x f).pending = s.pending := by
  simp [rxFrame]

@[simp] theorem sendLinkCtl_pending (p : Nat) (nak laneChange : Bool) (lanes expected : Nat) :
    (sendLinkCtl s p nak laneChange lanes expected).pending = s.pending := by
  simp [sendLinkCtl]

@[simp] theorem acceptSeq_pending (x : Rx) (f : Frame) : (acceptSeq s x f).1.pending = s.pending := by
  unfold acceptSeq
  split
  · dsimp only
    split
    · simp
    · split <;> simp
  · dsimp only
    split
    · simp
    · split <;> simp

@[simp] theorem takeControl_pending
    (p : Nat) (h : Hdr) (mk : Hdr → Frame) (mine : State → State) (hmine : ∀ s, (mine s).pending = s.pending) :
    (takeControl s p h mk mine).pending = s.pending := by
  simp [takeControl, hmine]

@[simp] theorem replayFrom_pending (p expected : Nat) : (replayFrom s p expected).pending = s.pending := by
  simp [replayFrom]

@[simp] theorem setWidth_pending (p w : Nat) : (setWidth s p w).pending = s.pending := by
  simp [setWidth]

@[simp] theorem laneFault_pending (p good : Nat) : (laneFault s p good).pending = s.pending := by
  simp [laneFault]

@[simp] theorem takeLinkCtl_pending (p : Nat) (nak laneChange : Bool) (lanes acked expected : Nat) (credits : List Nat) :
    (takeLinkCtl s p nak laneChange lanes acked expected credits).pending = s.pending := by
  simp [takeLinkCtl]

@[simp] theorem portUpNow_pending (p : Nat) : (portUpNow s p).pending = s.pending := by
  unfold portUpNow
  dsimp only
  split <;> simp

@[simp] theorem retrainDone_pending (p : Nat) : (retrainDone s p).pending = s.pending := by
  unfold retrainDone
  dsimp only
  split <;> simp

@[simp] theorem sendHeartbeats_pending : (sendHeartbeats s).pending = s.pending := by
  simp [sendHeartbeats]

@[simp] theorem hbFail_pending (p st : Nat) : (hbFail s p st).pending = s.pending := by
  simp [hbFail]

@[simp] theorem hbMiswired_pending (p : Nat) : (hbMiswired s p).pending = s.pending := by
  simp [hbMiswired]

@[simp] theorem hbMismatch_pending (p nbr : Nat) : (hbMismatch s p nbr).pending = s.pending := by
  simp [hbMismatch]

@[simp] theorem hbPass_pending (p : Nat) : (hbPass s p).pending = s.pending := by
  simp [hbPass]

@[simp] theorem hearAgain_pending (d : Nat) : (hearAgain s d).pending = s.pending := by
  simp [hearAgain]

@[simp] theorem takeHeartbeat_pending (p : Nat) (b : Heartbeat) : (takeHeartbeat s p b).pending = s.pending := by
  simp -implicitDefEqProofs [takeHeartbeat]

@[simp] theorem silencePort_pending (p : Nat) : (silencePort s p).pending = s.pending := by
  simp [silencePort]

@[simp] theorem mismatchDue_pending (p : Nat) : (mismatchDue s p).pending = s.pending := by
  unfold mismatchDue
  split <;> simp

@[simp] theorem takeFailed_pending (p d reason : Nat) : (takeFailed s p d reason).pending = s.pending := by
  simp [takeFailed]

/-! ## The rows of the links and of peer memory accesses -/

@[simp] theorem onSeq_pending (x : Rx) (f : Frame) (g : State → State) (hg : ∀ s, (g s).pending = s.pending) :
    (onSeq x f g s).pending = s.pending := by
  simp [onSeq, hg]

@[simp] theorem onRaw_pending (x : Rx) (f : Frame) (g : State → State) (hg : ∀ s, (g s).pending = s.pending) :
    (onRaw x f g s).pending = s.pending := by
  simp [onRaw, hg]

@[simp] theorem refuseWrite_pending (h : Hdr) (a : Nat) : (refuseWrite s h a).pending = s.pending := by
  simp [refuseWrite]

/-! ## Messages as the reduce-and-apply units take them -/

@[simp] theorem digestDone_pending (e : BlockEntry) (copy : List (Nat × List Byte)) :
    (digestDone s e copy).pending = s.pending := by
  simp [digestDone]

@[simp] theorem acceptDigest_pending (m : DigestMsg) (copy : List (Nat × List Byte)) (e : BlockEntry) :
    (acceptDigest m copy s e).pending = s.pending := by
  simp [acceptDigest]

@[simp] theorem takeRau_pending (m : Message) (copy : List (Nat × List Byte)) : (takeRau s m copy).pending = s.pending := by
  unfold takeRau
  split
  · simp
  · simp
  · simp
  · split <;> simp
  · simp
  · simp
  · rfl

@[simp] theorem offerRau_pending (m : Message) (copy : List (Nat × List Byte)) :
    (offerRau s m copy).pending = s.pending := by
  simp [offerRau]

@[simp] theorem pumpRau_pending : (pumpRau s).pending = s.pending := by
  simp [pumpRau]

/-! ## The reset controller: levels and sources -/

@[simp] theorem resetBlockRegs_pending (blk inst : Nat) (keep : Nat → Bool) :
    (resetBlockRegs s blk inst keep).pending = s.pending := by
  simp [resetBlockRegs]

@[simp] theorem evgHostReset_pending : (evgHostReset s).pending = s.pending := by
  unfold evgHostReset
  extract_lets gone _ s₁ s₂ s₃
  have hs₂ : s₂.pending = s.pending := forEach_pending (fun _ _ => setPend_pending ..) _ s₁
  have hs₃ : s₃.pending = s₂.pending := forEach_pending (by intros; rfl) _ _
  exact (evgSettle_pending s₃).trans (hs₃.trans hs₂)

@[simp] theorem hostReset_pending (reason : Nat) : (hostReset s reason).pending = s.pending := by
  simp [hostReset]

@[simp] theorem deviceReset_pending (level : Nat) : (deviceReset s level).pending = s.pending := by
  simp -implicitDefEqProofs [deviceReset]

@[simp] theorem markSource_pending (src l : Nat) : (markSource s src l).pending = s.pending := by
  simp [markSource]

@[simp] theorem failStart_pending : (failStart s).pending = s.pending := by
  simp [failStart]

@[simp] theorem leaveRecovery_pending : (leaveRecovery s).pending = s.pending := by
  simp [leaveRecovery]

@[simp] theorem abandonBlock_pending : (abandonBlock s).pending = s.pending := by
  simp [abandonBlock]

@[simp] theorem rerunLookups_pending (n : Nat) : (rerunLookups s n).pending = s.pending := by
  simp [rerunLookups]

@[simp] theorem pumpFlows_pending : (pumpFlows s).pending = s.pending := by
  simp [pumpFlows]

@[simp] theorem blockReinit_pending (c : Nat) : (blockReinit s c).pending = s.pending := by
  simp [blockReinit]

@[simp] theorem endBlock_pending (c : Nat) : (endBlock s c).pending = s.pending := by
  simp [endBlock]

@[simp] theorem blockKept_pending (c : Nat) : (blockKept s c).pending = s.pending := by
  simp [blockKept]

@[simp] theorem assertHost_pending (reason : Nat) : (assertHost s reason).pending = s.pending := by
  unfold assertHost
  split
  · rfl
  · split <;> simp

@[simp] theorem drainStacks_pending : (drainStacks s).pending = s.pending := by
  simp [drainStacks]

@[simp] theorem fallInto_pending (level reason : Nat) (announce : Bool) :
    (fallInto s level reason announce).pending = s.pending := by
  simp [fallInto]

@[simp] theorem assertDevice_pending (src level reason : Nat) : (assertDevice s src level reason).pending = s.pending := by
  simp [assertDevice]

@[simp] theorem assertSource_pending (src reason : Nat) : (assertSource s src reason).pending = s.pending := by
  simp [assertSource]

@[simp] theorem loseAon_pending : (loseAon s).pending = s.pending := by
  simp [loseAon]

@[simp] theorem onRelease_pending (d : Nat) : (onRelease s d).pending = s.pending := by
  simp [onRelease]

@[simp] theorem releaseDomains_pending : (releaseDomains s).pending = s.pending := by
  simp [releaseDomains]

@[simp] theorem releaseDevice_pending : (releaseDevice s).pending = s.pending := by
  simp [releaseDevice]

@[simp] theorem sampleStraps_pending (x : Straps) : (sampleStraps s x).pending = s.pending := by
  simp [sampleStraps]

@[simp] theorem gainLock_pending (d : Nat) (x : Straps) : (gainLock s d x).pending = s.pending := by
  simp [gainLock]

/-! ## BLOCK resets: the quiesce handshake -/

@[simp] theorem askIdle_pending (c : Nat) : (askIdle s c).pending = s.pending := by
  simp [askIdle]

@[simp] theorem resetFrond_pending (f : Nat) : (resetFrond s f).pending = s.pending := by
  simp [resetFrond]

@[simp] theorem resetSorus_pending (n : Nat) : (resetSorus s n).pending = s.pending := by
  simp [resetSorus]

@[simp] theorem resetBaseDie_pending (n : Nat) : (resetBaseDie s n).pending = s.pending := by
  simp [resetBaseDie]

@[simp] theorem resetTier_pending : (resetTier s).pending = s.pending := by
  simp [resetTier]

@[simp] theorem resetLinkDie_pending (die : Nat) : (resetLinkDie s die).pending = s.pending := by
  simp [resetLinkDie]

@[simp] theorem assertBlock_pending (c : Nat) : (assertBlock s c).pending = s.pending := by
  simp [assertBlock]

@[simp] theorem startBlock_pending (c : Nat) (soft : Bool) : (startBlock s c soft).pending = s.pending := by
  simp [startBlock]

@[simp] theorem reportNotDone_pending (c : Nat) : (reportNotDone s c).pending = s.pending := by
  simp [reportNotDone]

@[simp] theorem endWait_pending (c : Nat) (out : Bool) : (endWait s c out).pending = s.pending := by
  simp [endWait]

/-! ## The management controller: requests and responses -/

@[simp] theorem respond_pending (r : MgtReq) (status : Nat) (body : List Byte) :
    (respond s r status body).pending = s.pending := by
  simp -implicitDefEqProofs [respond]

@[simp] theorem counterBody_pending (frozen : Bool) : (counterBody s frozen).2.pending = s.pending := by
  unfold counterBody
  split <;> simp

@[simp] theorem setAttended_pending (b : Bool) : (setAttended s b).pending = s.pending := by
  simp [setAttended]

@[simp] theorem writePairs_pending (lost : Option Nat) (n : Nat) (ps : List (List Byte)) :
    (writePairs lost n ps s).2.2.pending = s.pending := by
  induction ps generalizing s n with
  | nil => rfl
  | cons p ps ih =>
    unfold writePairs
    dsimp only
    split
    · simp
    · split
      · rfl
      · exact ih ..

@[simp] theorem writeFuses_pending (r : MgtReq) : (writeFuses s r).pending = s.pending := by
  simp [writeFuses]

@[simp] theorem fwLoad_pending (r : MgtReq) : (fwLoad s r).pending = s.pending := by
  simp [fwLoad]

@[simp] theorem beginMargin_pending (r : MgtReq) : (beginMargin s r).pending = s.pending := by
  simp [beginMargin]

@[simp] theorem mgtEffect_pending (r : MgtReq) : (mgtEffect s r).pending = s.pending := by
  unfold mgtEffect
  split <;> (try split) <;> simp

@[simp] theorem mgtServe_pending (r : MgtReq) : (mgtServe s r).pending = s.pending := by
  simp [mgtServe]

@[simp] theorem mgtPump_pending (k : Nat) : (mgtPump k s).pending = s.pending := by
  induction k generalizing s with
  | zero => rfl
  | succ k ih =>
    unfold mgtPump
    split
    · rfl
    · simp [ih]

@[simp] theorem mgtArrive_pending (r : MgtReq) : (mgtArrive s r).pending = s.pending := by
  simp [mgtArrive]

@[simp] theorem mgtCtlWrite_pending (v : Nat) (env : MgtEnv) : (mgtCtlWrite s v env).pending = s.pending := by
  simp [mgtCtlWrite]

/-! ## The rows of the base dies -/

@[simp] theorem onStack_pending (n : Nat) (g : State → State) (hg : ∀ s, (g s).pending = s.pending) :
    (onStack n g s).pending = s.pending := by
  simp [onStack, hg]

@[simp] theorem stackGoesOn_pending (n : Nat) : (stackGoesOn s n).pending = s.pending := by
  simp [stackGoesOn]

@[simp] theorem txsGone_pending (n : Nat) (u : State) : (txsGone u s n).pending = s.pending := by
  simp [txsGone]

/-! ## The rows of the management controller -/

@[simp] theorem mctpAnswer_pending (iface : Nat) (body : List Byte) : (mctpAnswer s iface body).pending = s.pending := by
  simp [mctpAnswer]

/-! ## Commands of the event gatherer -/

@[simp] theorem evgClaimOn_pending (t : Nat) : (evgClaimOn s t).2.pending = s.pending := by
  unfold evgClaimOn
  dsimp only
  split <;> simp

@[simp] theorem evgCompleteOn_pending (t src : Nat) : (evgCompleteOn s t src).pending = s.pending := by
  simp [evgCompleteOn]

@[simp] theorem evgPendWrite_pending (w v : Nat) : (evgPendWrite s w v).pending = s.pending := by
  unfold evgPendWrite
  extract_lets old s₁
  have hs₁ : s₁.pending = s.pending := by
    refine forEach_pending (fun s b => ?_) _ _
    dsimp only
    split
    · exact setPend_pending ..
    · exact (wf_pending ..).trans (setPend_pending ..)
  exact (forEach_pending (fun _ _ => evgPendSource_pending ..) _ _).trans hs₁

@[simp] theorem evgRelease_pending : (evgRelease s).pending = s.pending := by
  simp [evgRelease]

@[simp] theorem evgCtlWrite_pending (v : Nat) : (evgCtlWrite s v).pending = s.pending := by
  simp [evgCtlWrite]

/-! ## The rows of the reset controller -/

@[simp] theorem blockWrite_pending (v : Nat) : (blockWrite s v).pending = s.pending := by
  simp [blockWrite]

/-! ## Accesses of the host to BAR0 and the window BAR2: registers -/

@[simp] theorem readReg_pending (h : RegHit) : (readReg s h).2.pending = s.pending := by
  unfold readReg
  split
  · simp
  · split <;> simp

@[simp] theorem msixFlush_pending : (msixFlush s).pending = s.pending := by
  simp -implicitDefEqProofs [msixFlush]

@[simp] theorem writeReg_pending (h : RegHit) (v : Nat) : (writeReg s h v).pending = s.pending := by
  simp -implicitDefEqProofs [writeReg]

@[simp] theorem barRead_pending (source addr req off n : Nat) : (barRead s source addr req off n).pending = s.pending := by
  unfold barRead
  split <;> simp

@[simp] theorem barWrite_pending (source addr req off n v : Nat) :
    (barWrite s source addr req off n v).pending = s.pending := by
  unfold barWrite
  split <;> simp

@[simp] theorem winRead_pending (req off n : Nat) (err : MemErr) : (winRead s req off n err).pending = s.pending := by
  unfold winRead
  extract_lets a
  split
  · simp
  · split <;> simp -implicitDefEqProofs

@[simp] theorem winWrite_pending (req off : Nat) (bs : List Byte) : (winWrite s req off bs).pending = s.pending := by
  unfold winWrite
  extract_lets a
  split
  · simp
  · split <;> simp

/-! ## Commands of the array, the move engine and the op lists -/

@[simp] theorem frondReady_pending (f : Nat) : (frondReady s f).pending = s.pending := by
  refine forEach_pending (fun s a => ?_) _ _
  simp

/-! ## Commands of migrations in progress, critical-row fetches and peat sources -/

@[simp] theorem meetCopy_pending (src : Place) (ls : List Nat) : (meetCopy s src ls).pending = s.pending := by
  unfold meetCopy
  split <;> simp

@[simp] theorem afterMeeting_pending (p : Nat) (g : State → Migration → State) (hg : ∀ s a, (g s a).pending = s.pending) :
    (afterMeeting s p g).pending = s.pending := by
  unfold afterMeeting
  split <;> simp [hg]

@[simp] theorem pageArrived_pending (p : Nat) (dst : Place) : (pageArrived s p dst).pending = s.pending := by
  unfold pageArrived
  split <;> simp

@[simp] theorem flipMig_pending (m : Migration) : (flipMig s m).pending = s.pending := by
  unfold flipMig
  extract_lets s₁ e s₂ _ s₃ s₄ s₅ s₆ keys _ s₇ s₈
  have hs₁ : s₁.pending = s.pending := by
    unfold s₁
    split <;> simp
  have hs₄ : s₄.pending = s.pending := (pageArrived_pending s₃ ..).trans hs₁
  have hs₅ : s₅.pending = s.pending := by
    unfold s₅
    split
    · exact hs₄
    · exact hs₄
  have hs₈ : s₈.pending = s.pending := by
    unfold s₈
    split
    · exact hs₅
    · exact hs₅
  simp [hs₈]

@[simp] theorem criticalFetch_pending (a n : Nat) : (criticalFetch s a n).pending = s.pending := by
  unfold criticalFetch
  extract_lets s₁ _ s₂
  have hs₁ : s₁.pending = s.pending := by
    refine forEach_pending (fun s g => ?_) _ _
    split <;> simp
  exact (pumpInput_pending _).trans ((serveWaits_pending _).trans ((pumpReqs_pending s₂).trans hs₁))

/-! ## Supply dips, the power manager and thermal throttling -/

@[simp] theorem rstFlag_pending (f en : Field) : (rstFlag s f en).pending = s.pending := by
  simp [rstFlag]

@[simp] theorem supplyReading_pending (mv : Nat) : (supplyReading s mv).pending = s.pending := by
  simp [supplyReading]

@[simp] theorem countThrottle_pending : (countThrottle s).pending = s.pending := by
  simp [countThrottle]

@[simp] theorem dramReading_pending (n c : Nat) : (dramReading s n c).pending = s.pending := by
  simp [dramReading]

/-! ## Commands of the reduce-and-apply units, the step barrier, the scale unit's reduction and the start of a step -/

@[simp] theorem onDataAt_pending (t : Nat) (g : State → State) (hg : ∀ s, (g s).pending = s.pending) :
    (onDataAt t g s).pending = s.pending := by
  simp [onDataAt, hg]

@[simp] theorem withBlock_pending (block : Nat) (g : State → BlockEntry → State) (hg : ∀ s a, (g s a).pending = s.pending) :
    (withBlock block g s).pending = s.pending := by
  unfold withBlock
  split
  · extract_lets rs s₁
    have hs₁ : s₁.pending = s.pending := forEach_pending (fun _ _ => meetAt_pending ..) _ _
    split
    · rfl
    · split
      · exact hs₁
      · exact (hg ..).trans hs₁
  · rfl

@[simp] theorem windowCloseAt_pending : (windowCloseAt s).pending = s.pending := by
  simp [windowCloseAt]

@[simp] theorem partDeadlineAt_pending : (partDeadlineAt s).pending = s.pending := by
  simp [partDeadlineAt]

/-! ## Commands of the sparse update path -/

@[simp] theorem takeUpdate_pending (m : Message) : (takeUpdate m s).pending = s.pending := by
  simp [takeUpdate]

end Sys2Proof.Laws
end

section
/-! CERTIFICATES. Every command answers a next state with the queue it was given, unless the element
engine refuses its word. -/

namespace Sys2Proof.Laws

set_option Elab.async false

open Sys2Proof.Machine

/-- What exec answers is a next state whose queue of waiting commands is that of s. -/
def KeepsQueue (s : State) (r : Host.Outcome State Fault Refusal) : Prop := ∃ t, r = .next t ∧ t.pending = s.pending

theorem KeepsQueue.next {s t : State} (h : t.pending = s.pending) : KeepsQueue s (.next t) := ⟨t, rfl, h⟩

theorem KeepsQueue.pending {s t : State} {r : Host.Outcome State Fault Refusal} (h : KeepsQueue s r) (hr : r = .next t) :
    t.pending = s.pending := by
  obtain ⟨u, hu, hq⟩ := h
  cases hu.symm.trans hr
  exact hq

/-- If the command is an instruction of the element engine, its word is not invalid. -/
def ValidWord (c : Instr) : Prop :=
  (∀ op i, elemWordOf c = some (op, i) → eInvalid op i = false)
    ∧ ∀ f d imm e, c = .ldi f d ⟨imm, e⟩ → ldiInvalid d imm = false

variable (s : State)

theorem elemCmd_keepsQueue {op : Nat} {whole ends : Bool} {f : Nat} {i : EInstr} {eff : Nat → Invocation → State → State}
    (valid : eInvalid op i = false) (heff : ∀ f x s, (eff f x s).pending = s.pending) :
    KeepsQueue s (elemCmd op whole ends f i eff s) := by
  rw [elemCmd, if_neg (by simp [valid])]
  refine .next ?_
  split
  · exact afterRead_pending _ _ _ _ fun s => (advanceEngine_pending ..).trans ((heff ..).trans (countCycles_pending ..))
  · rfl

theorem execLdi_keepsQueue {f d : Nat} {v : LdiValue} (valid : ldiInvalid d v.imm = false) :
    KeepsQueue s (execLdi f d v s) := by
  rw [execLdi, if_neg (by simp [valid])]
  refine .next ?_
  split
  · exact afterRead_pending _ _ _ _ fun s => by simp
  · rfl

theorem elemCmd_valid
    {op : Nat} {whole ends : Bool} {f : Nat} {i : EInstr} {eff : Nat → Invocation → State → State} {s t : State}
    (h : elemCmd op whole ends f i eff s = .next t) : eInvalid op i = false := by
  by_contra hi
  rw [elemCmd, if_pos (by simpa using hi)] at h
  cases h

theorem execLdi_valid {f d : Nat} {v : LdiValue} {s t : State} (h : execLdi f d v s = .next t) :
    ldiInvalid d v.imm = false := by
  by_contra hi
  rw [execLdi, if_pos (by simpa using hi)] at h
  cases h

theorem execFreeze_keepsQueue {t : Nat} : KeepsQueue s (execFreeze t s) := by
  refine .next ?_
  split
  · dsimp only
    split <;> simp
  · simp

theorem execRetire_keepsQueue {index : Nat} : KeepsQueue s (execRetire index s) := by
  refine .next ?_
  split <;> simp

theorem execCommandTimeout_keepsQueue {index t : Nat} : KeepsQueue s (execCommandTimeout index t s) := by
  refine .next ?_
  split <;> simp

theorem execWinBase_keepsQueue {req v : Nat} : KeepsQueue s (execWinBase req v s) := by
  refine .next (hostWrites_pending _ _ _ _ fun s => ?_)
  simp

theorem execHostWaitExpiry_keepsQueue {t : Nat} : KeepsQueue s (execHostWaitExpiry t s) := by
  refine .next ?_
  split <;> simp

theorem execMarginRunDone_keepsQueue {stack : Nat} {pins : List MarginPin} :
    KeepsQueue s (execMarginRunDone stack pins s) := by
  refine .next ?_
  split
  · rfl
  · have results : ∀ xs, (forEach (fun s (x : MarginPin × Nat) =>
        setReg s (R.STK_MRG_RESULT stack x.2) (BitVec.ofNat 64 (marginWord x.1))) s xs).pending = s.pending :=
      fun xs => forEach_pending (by intros; rfl) xs s
    dsimp only
    split
    · split <;> simp [results]
    · simp [results]

theorem execQuiesced_keepsQueue {t : Nat} : KeepsQueue s (execQuiesced t s) := by
  refine .next ?_
  split <;> simp

theorem execQuiesceTimeout_keepsQueue {t : Nat} : KeepsQueue s (execQuiesceTimeout t s) := by
  refine .next ?_
  split <;> simp

theorem execResetHoldExpiry_keepsQueue {t : Nat} : KeepsQueue s (execResetHoldExpiry t s) := by
  refine .next ?_
  split
  · split <;> simp
  · dsimp only
    split <;> simp

theorem execThrottleStep_keepsQueue {t : Nat} : KeepsQueue s (execThrottleStep t s) := by
  refine .next ?_
  split <;> (try split) <;> simp

theorem execProduct_keepsQueue {f : Nat} : KeepsQueue s (execProduct f s) := by
  refine .next ?_
  split <;> simp

theorem execInvoke_keepsQueue {f : Nat} : KeepsQueue s (execInvoke f s) := by
  refine .next ?_
  split <;> simp

theorem execMove_keepsQueue {w : FrondWork} : KeepsQueue s (execMove w s) := by
  refine .next ?_
  split <;> simp

theorem execLookupBatchAdmit_keepsQueue {table mb : Nat} : KeepsQueue s (execLookupBatchAdmit table mb s) := by
  refine .next ?_
  repeat' split
  all_goals simp

theorem execUpdateBatchStart_keepsQueue {frond mb : Nat} : KeepsQueue s (execUpdateBatchStart frond mb s) := by
  refine .next ?_
  split <;> simp

theorem execRowApply_keepsQueue {own table version row : Nat} {rem : Bool} :
    KeepsQueue s (execRowApply own table version row rem s) := by
  refine .next (onData_pending _ _ fun s => ?_)
  split <;> simp

theorem execPendingEntryComplete_keepsQueue {own table row : Nat} {rem : Bool} :
    KeepsQueue s (execPendingEntryComplete own table row rem s) := by
  refine .next (onData_pending _ _ fun s => ?_)
  split <;> simp

theorem execRowCommit_keepsQueue {own table row : Nat} {rem : Bool} : KeepsQueue s (execRowCommit own table row rem s) := by
  refine .next (onData_pending _ _ fun s => ?_)
  split <;> simp

theorem execHeatEpoch_keepsQueue {t : Nat} : KeepsQueue s (execHeatEpoch t s) := by
  refine .next ?_
  split
  · simp
  · have touches : ∀ s : State, ∀ xs, (forEach (fun s n =>
        setReg s (R.TIER_STK_TOUCH n) (BitVec.ofNat 64 (s.tier.touches[n]?.getD 0))) s xs).pending = s.pending :=
      fun s xs => forEach_pending (by intros; rfl) xs s
    dsimp only
    split
    · split <;> simp [touches]
    · simp [touches]

theorem execScanVisit_keepsQueue : KeepsQueue s (execScanVisit s) := by
  refine .next ?_
  split <;> simp

theorem execPromote_keepsQueue : KeepsQueue s (execPromote s) := by
  refine .next ?_
  repeat' split
  all_goals simp

theorem execDemote_keepsQueue : KeepsQueue s (execDemote s) := by
  refine .next ?_
  repeat' split
  all_goals simp

theorem execRebalance_keepsQueue : KeepsQueue s (execRebalance s) := by
  refine .next ?_
  repeat' split
  all_goals simp

theorem execDemand_keepsQueue : KeepsQueue s (execDemand s) := by
  refine .next ?_
  repeat' split
  all_goals simp

theorem execEvacuate_keepsQueue : KeepsQueue s (execEvacuate s) := by
  refine .next ?_
  split <;> (try split) <;> simp

theorem execRebuild_keepsQueue : KeepsQueue s (execRebuild s) := by
  refine .next ?_
  split
  · simp
  · dsimp only
    split <;> split <;> simp

theorem execRevoke_keepsQueue : KeepsQueue s (execRevoke s) := by
  refine .next ?_
  split <;> (try split) <;> simp

theorem execMigrationPassDone_keepsQueue {page t : Nat} : KeepsQueue s (execMigrationPassDone page t s) := by
  refine .next ?_
  split <;> (try split) <;> simp

theorem execFinalPassFlip_keepsQueue {page t : Nat} : KeepsQueue s (execFinalPassFlip page t s) := by
  refine .next ?_
  repeat' split
  all_goals simp

theorem execFinalPassAbandon_keepsQueue {page t : Nat} : KeepsQueue s (execFinalPassAbandon page t s) := by
  refine .next ?_
  split <;> simp

theorem execSourceFrameFree_keepsQueue {page : Nat} : KeepsQueue s (execSourceFrameFree page s) := by
  refine .next ?_
  split <;> simp

theorem execRefresh_keepsQueue {stack : Nat} {r : RefreshEnd} : KeepsQueue s (execRefresh stack r s) := by
  refine .next (onStack_pending _ _ _ fun s => ?_)
  simp

theorem execReservedFrame_keepsQueue {x : Rx} : KeepsQueue s (execReservedFrame x s) := by
  refine .next (onRaw_pending _ _ _ _ fun s => ?_)
  simp

theorem execLandingTimeout_keepsQueue {src vc t : Nat} : KeepsQueue s (execLandingTimeout src vc t s) := by
  refine .next ?_
  split <;> simp

theorem execStoreWr_keepsQueue
    {h : Hdr} {offset frond : Nat} {doneBit : Option Nat} {stride rowBytes : Nat} {bytes : List Byte} :
    KeepsQueue s (execStoreWr h offset frond doneBit stride rowBytes bytes s) := by
  refine .next (onData_pending _ _ fun s => ?_)
  extract_lets rows fits s₁
  split
  · simp
  · have stored : s₁.pending = s.pending := forEach_pending (by intros; rfl) _ _
    split
    · split <;> simp [stored]
    · exact stored

/-- Every command with a valid word answers a next state with the queue it was given. -/
theorem exec_keepsQueue (c : Instr) (valid : ValidWord c) : KeepsQueue s (exec c s) := by
  cases c with dsimp only [exec]
  | loadThallus => exact .next (fetchCmd_pending ..)
  | thallusVerifyDone => exact .next (verifyDone_pending ..)
  | switchEpoch => exact .next (fetchCmd_pending ..)
  | epochSwitch => exact .next (by simp)
  | runSteps => exact .next (fetchCmd_pending ..)
  | stopAtStep => exact .next (fetchCmd_pending ..)
  | abort => exact .next (fetchCmd_pending ..)
  | checkpointSave => exact .next (fetchCmd_pending ..)
  | checkpointLoad => exact .next (fetchCmd_pending ..)
  | checkpointClear => exact .next (fetchCmd_pending ..)
  | checkpointRestore => exact .next (fetchCmd_pending ..)
  | tableSwap => exact .next (fetchCmd_pending ..)
  | tableVersionRetire => exact .next (by simp)
  | grantPeat => exact .next (fetchCmd_pending ..)
  | revokePeat => exact .next (fetchCmd_pending ..)
  | fence => exact .next (fetchCmd_pending ..)
  | counterSnapshot => exact .next (fetchCmd_pending ..)
  | freezeAt => exact .next (fetchCmd_pending ..)
  | freeze => exact execFreeze_keepsQueue s
  | setLoss => exact .next (fetchCmd_pending ..)
  | setInterval => exact .next (fetchCmd_pending ..)
  | loseHistory => exact .next (fetchCmd_pending ..)
  | setTensor => exact .next (fetchCmd_pending ..)
  | watchLineInvalidate => exact .next (by simp)
  | controlLinePoll => exact .next (by simp)
  | inputLine => exact .next (inputSeen_pending ..)
  | inputCopyDone => exact .next (inputCopied_pending ..)
  | retire => exact execRetire_keepsQueue s
  | commandTimeout => exact execCommandTimeout_keepsQueue s
  | hostWriteConfirm => exact .next (confirmWrites_pending ..)
  | stepStart => exact .next (by simp)
  | hostPortLinkUp => exact .next (by simp)
  | hostRetrain => exact .next (by simp)
  | hstAttach => exact .next (by simp)
  | cmdCfg => exact .next (by simp)
  | winBase => exact execWinBase_keepsQueue s
  | windowRead => exact .next (by simp)
  | windowWrite => exact .next (by simp)
  | registerWrite => exact .next (by simp)
  | farLinkUp => exact .next (by simp)
  | expanderLinkDown => exact .next (by simp)
  | hostWaitExpiry => exact execHostWaitExpiry_keepsQueue s
  | setEndpointId => exact .next (by simp)
  | getEndpointId => exact .next (mctpAnswer_pending ..)
  | getMctpVersionSupport => exact .next (mctpAnswer_pending ..)
  | getMessageTypeSupport => exact .next (mctpAnswer_pending ..)
  | getVendorDefinedMessageSupport => exact .next (mctpAnswer_pending ..)
  | getInfo => exact .next (mgtArrive_pending ..)
  | getDigests => exact .next (mgtArrive_pending ..)
  | getTelemetry => exact .next (mgtArrive_pending ..)
  | readCounters => exact .next (mgtArrive_pending ..)
  | getCerts => exact .next (mgtArrive_pending ..)
  | challenge => exact .next (mgtArrive_pending ..)
  | readFuses => exact .next (mgtArrive_pending ..)
  | writeFuses => exact .next (mgtArrive_pending ..)
  | debugUnlock => exact .next (mgtArrive_pending ..)
  | fwLoad => exact .next (mgtArrive_pending ..)
  | setCounterPriv => exact .next (mgtArrive_pending ..)
  | reset => exact .next (mgtArrive_pending ..)
  | margin => exact .next (mgtArrive_pending ..)
  | marginRunDone => exact execMarginRunDone_keepsQueue s
  | rawWindow => exact .next (mgtArrive_pending ..)
  | failDevice => exact .next (mgtArrive_pending ..)
  | getRepairLog => exact .next (mgtArrive_pending ..)
  | mailboxGo => exact .next (by simp)
  | watchdogExpiry => exact .next (by simp)
  | attendN => exact .next (setAttended_pending ..)
  | fwBootVerifyDone => exact .next (by simp)
  | startOk => exact .next (by simp)
  | startTimeout => exact .next (by simp)
  | pwrOkRise => exact .next (by simp)
  | pwrOkFall => exact .next (by simp)
  | supplyReset => exact .next (by simp)
  | pllLockLoss => exact .next (by simp)
  | perstN => exact .next (by simp)
  | hotReset => exact .next (by simp)
  | flr => exact .next (by simp)
  | surpriseLinkDown => exact .next (by simp)
  | fabricRstN => exact .next (by simp)
  | thermalTrip => exact .next (by simp)
  | debugReset => exact .next (by simp)
  | rstBlock => exact .next (by simp)
  | quiesced => exact execQuiesced_keepsQueue s
  | quiesceTimeout => exact execQuiesceTimeout_keepsQueue s
  | resetHoldExpiry => exact execResetHoldExpiry_keepsQueue s
  | droopTrip => exact .next (by simp)
  | droopRecover => exact .next (by simp)
  | droopPause => exact .next (by simp)
  | pauseEnd => exact .next (by simp)
  | powerSample => exact .next (by simp)
  | throttleStep => exact execThrottleStep_keepsQueue s
  | thermalSense => exact .next (by simp)
  | vrHotN => exact .next (rstFlag_pending ..)
  | frondInitDone => exact .next (frondReady_pending ..)
  | stackInitDone => exact .next (by simp)
  | product => exact execProduct_keepsQueue s
  | invoke => exact execInvoke_keepsQueue s
  | move => exact execMove_keepsQueue s
  | pass => exact .next (by simp)
  | drainRow => exact .next (by simp)
  | chainTileArrival => exact .next (chainArrived_pending ..)
  | drainInvocation => exact .next (by simp)
  | rowInvocation => exact .next (by simp)
  | queueSlotArrival => exact .next (queueArrive_pending ..)
  | creditReturn => exact .next (creditArrive_pending ..)
  | planStall => exact .next (by simp)
  | add => exact elemCmd_keepsQueue s (valid.1 _ _ rfl) fun _ _ s => binary_pending s ..
  | sub => exact elemCmd_keepsQueue s (valid.1 _ _ rfl) fun _ _ s => binary_pending s ..
  | mul => exact elemCmd_keepsQueue s (valid.1 _ _ rfl) fun _ _ s => binary_pending s ..
  | fma => exact elemCmd_keepsQueue s (valid.1 _ _ rfl) fun _ _ s => ternary_pending s ..
  | min => exact elemCmd_keepsQueue s (valid.1 _ _ rfl) fun _ _ s => binary_pending s ..
  | max => exact elemCmd_keepsQueue s (valid.1 _ _ rfl) fun _ _ s => binary_pending s ..
  | clamp => exact elemCmd_keepsQueue s (valid.1 _ _ rfl) fun _ _ s => ternary_pending s ..
  | abs => exact elemCmd_keepsQueue s (valid.1 _ _ rfl) fun _ _ s => unary_pending s ..
  | neg => exact elemCmd_keepsQueue s (valid.1 _ _ rfl) fun _ _ s => unary_pending s ..
  | cmpeq => exact elemCmd_keepsQueue s (valid.1 _ _ rfl) fun _ _ s => binary_pending s ..
  | cmplt => exact elemCmd_keepsQueue s (valid.1 _ _ rfl) fun _ _ s => binary_pending s ..
  | cmple => exact elemCmd_keepsQueue s (valid.1 _ _ rfl) fun _ _ s => binary_pending s ..
  | cmpun => exact elemCmd_keepsQueue s (valid.1 _ _ rfl) fun _ _ s => binary_pending s ..
  | icmpltu => exact elemCmd_keepsQueue s (valid.1 _ _ rfl) fun _ _ s => binary_pending s ..
  | sel => exact elemCmd_keepsQueue s (valid.1 _ _ rfl) fun _ _ s => ternary_pending s ..
  | and => exact elemCmd_keepsQueue s (valid.1 _ _ rfl) fun _ _ s => binary_pending s ..
  | or => exact elemCmd_keepsQueue s (valid.1 _ _ rfl) fun _ _ s => binary_pending s ..
  | xor => exact elemCmd_keepsQueue s (valid.1 _ _ rfl) fun _ _ s => binary_pending s ..
  | andn => exact elemCmd_keepsQueue s (valid.1 _ _ rfl) fun _ _ s => binary_pending s ..
  | shr => exact elemCmd_keepsQueue s (valid.1 _ _ rfl) fun _ _ s => unary_pending s ..
  | shl => exact elemCmd_keepsQueue s (valid.1 _ _ rfl) fun _ _ s => unary_pending s ..
  | iadd => exact elemCmd_keepsQueue s (valid.1 _ _ rfl) fun _ _ s => binary_pending s ..
  | exp2 => exact elemCmd_keepsQueue s (valid.1 _ _ rfl) fun _ _ s => unary_pending s ..
  | log2 => exact elemCmd_keepsQueue s (valid.1 _ _ rfl) fun _ _ s => unary_pending s ..
  | rcp => exact elemCmd_keepsQueue s (valid.1 _ _ rfl) fun _ _ s => unary_pending s ..
  | rsq => exact elemCmd_keepsQueue s (valid.1 _ _ rfl) fun _ _ s => unary_pending s ..
  | cvt => exact elemCmd_keepsQueue s (valid.1 _ _ rfl) fun _ _ _ => by simp
  | wid => exact elemCmd_keepsQueue s (valid.1 _ _ rfl) fun _ _ s => binary_pending s ..
  | i2f => exact elemCmd_keepsQueue s (valid.1 _ _ rfl) fun _ _ s => unary_pending s ..
  | f2i => exact elemCmd_keepsQueue s (valid.1 _ _ rfl) fun _ _ _ => by simp
  | rnd => exact elemCmd_keepsQueue s (valid.1 _ _ rfl) fun _ _ _ => by simp
  | mov => exact elemCmd_keepsQueue s (valid.1 _ _ rfl) fun _ _ s => unary_pending s ..
  | ldi => exact execLdi_keepsQueue s (valid.2 _ _ _ _ rfl)
  | ld => exact elemCmd_keepsQueue s (valid.1 _ _ rfl) fun _ _ _ => by simp
  | st => exact elemCmd_keepsQueue s (valid.1 _ _ rfl) fun _ _ _ => by simp
  | rmax => exact elemCmd_keepsQueue s (valid.1 _ _ rfl) fun _ _ _ => by simp
  | rsum => exact elemCmd_keepsQueue s (valid.1 _ _ rfl) fun _ _ _ => by simp
  | softmax => exact elemCmd_keepsQueue s (valid.1 _ _ rfl) fun _ _ _ => by simp
  | lnorm => exact elemCmd_keepsQueue s (valid.1 _ _ rfl) fun _ _ _ => by simp
  | lookupBatchAdmit => exact execLookupBatchAdmit_keepsQueue s
  | lookupReq => exact .next (by simp)
  | criticalRowFetch => exact .next (by simp)
  | lookupRsp => exact .next (by simp)
  | lookupEnd => exact .next (by simp)
  | updateBatchStart => exact execUpdateBatchStart_keepsQueue s
  | updateReq => exact .next (takeUpdate_pending ..)
  | ownerStepClose => exact .next (by simp)
  | detOrderMerge => exact .next (by simp)
  | rowApply => exact execRowApply_keepsQueue s
  | pendingEntryComplete => exact execPendingEntryComplete_keepsQueue s
  | spillRingReturn => exact .next (by simp)
  | remGrad => exact .next (takeUpdate_pending ..)
  | remRow => exact .next (takeUpdate_pending ..)
  | soredium => exact .next (by simp)
  | sorediumAck => exact .next (by simp)
  | rowCommit => exact execRowCommit_keepsQueue s
  | heatEpoch => exact execHeatEpoch_keepsQueue s
  | scanVisit => exact execScanVisit_keepsQueue s
  | promote => exact execPromote_keepsQueue s
  | demote => exact execDemote_keepsQueue s
  | rebalance => exact execRebalance_keepsQueue s
  | demand => exact execDemand_keepsQueue s
  | evacuate => exact execEvacuate_keepsQueue s
  | rebuild => exact execRebuild_keepsQueue s
  | revoke => exact execRevoke_keepsQueue s
  | migrationPassDone => exact execMigrationPassDone_keepsQueue s
  | finalPassFlip => exact execFinalPassFlip_keepsQueue s
  | finalPassAbandon => exact execFinalPassAbandon_keepsQueue s
  | sourceFrameFree => exact execSourceFrameFree_keepsQueue s
  | peatReadError => exact .next (by simp)
  | rd64 => exact .next (by simp)
  | rd256 => exact .next (by simp)
  | wr64 => exact .next (by simp)
  | wr256 => exact .next (by simp)
  | msg => exact .next (by simp)
  | d2dFlit => exact .next (by simp)
  | d2dLinkControl => exact .next (by simp)
  | d2dRetrainDone => exact .next (by simp)
  | patrolScrub => exact .next (by simp)
  | refresh => exact execRefresh_keepsQueue s
  | rowRepairDone => exact .next (by simp)
  | data => exact .next (by simp)
  | heartbeat => exact .next (by simp)
  | linkCtl => exact .next (by simp)
  | error => exact .next (by simp)
  | e2eAck => exact .next (by simp)
  | deviceFailed => exact .next (by simp)
  | idle => exact .next (by simp)
  | reservedFrame => exact execReservedFrame_keepsQueue s
  | heartbeatSend => exact .next (by simp)
  | linkCtlSend => exact .next (by simp)
  | heartbeatSilence => exact .next (by simp)
  | mismatchTimeout => exact .next (by simp)
  | laneFault => exact .next (by simp)
  | retrainDone => exact .next (by simp)
  | portTrained => exact .next (by simp)
  | portTrainRetry => exact .next (by simp)
  | e2eTimeout => exact .next (by simp)
  | landingTimeout => exact execLandingTimeout_keepsQueue s
  | memWr => exact .next (by simp)
  | memRd => exact .next (by simp)
  | memCpl => exact .next (by simp)
  | storeWr => exact execStoreWr_keepsQueue s
  | silent => exact .next (by simp)
  | heard => exact .next (by simp)
  | lost => exact .next (by simp)
  | recoveryCommit => exact .next (by simp)
  | pieceRd => exact .next (by simp)
  | piece => exact .next (by simp)
  | fwd => exact .next (by simp)
  | stop => exact .next (by simp)
  | stopped => exact .next (by simp)
  | done => exact .next (by simp)
  | parityScrub => exact .next (by simp)
  | reduce => exact .next (by simp)
  | part => exact .next (by simp)
  | partDeadline => exact .next (by simp)
  | windowClose => exact .next (by simp)
  | barrierRecord => exact .next (by simp)
  | barrier => exact .next (by simp)
  | scale => exact .next (by simp)
  | blockApply => exact .next (by simp)
  | grad => exact .next (by simp)
  | digestComputeDone => exact .next (by simp)
  | digest => exact .next (by simp)
  | blockReplayDone => exact .next (by simp)
  | allGather => exact .next (by simp)
  | param => exact .next (by simp)
  | evgClaim => exact .next (by simp)
  | evgComplete => exact .next (evgCompleteOn_pending ..)
  | evgPend => exact .next (evgPendWrite_pending ..)
  | hold => exact .next (evgCtlWrite_pending ..)
  | holdExpiry => exact .next (by simp)
  | moderationExpiry => exact .next (by simp)
  | eventIn => exact .next (by simp)
  | thaw => exact .next (cntCtlWrite_pending ..)
  | traceEn => exact .next (cntCtlWrite_pending ..)
  | cntTraceMark => exact .next (tracePush_pending ..)
  | planeInvalidExpiry => exact .next (by simp)
  | e2eAckSend => exact .next (by simp)
  | registerRead => exact .next (by simp)
  | configurationRequest => exact .next (by simp)
  | pllLock => exact .next (gainLock_pending ..)
  | perstNRelease => exact .next (by simp)
  | vrHotNRelease => exact .next (by simp)
  | eventInRelease => exact .next (by simp)
  | farPerstNRelease => exact .next (by simp)

/-- A command that answers a next state has a valid word: only the element engine refuses a word, by a fault. -/
theorem validWord_of_next {c : Instr} {t : State} (h : exec c s = .next t) : ValidWord c := by
  constructor
  · intro op i hc
    unfold elemWordOf at hc
    split at hc
    all_goals cases hc
    all_goals
      dsimp only [exec] at h
      exact elemCmd_valid h
  · intro f d imm e hc
    subst hc
    exact execLdi_valid h

theorem exec_pending {c : Instr} {s t : State} (h : exec c s = .next t) : t.pending = s.pending :=
  (exec_keepsQueue s c (validWord_of_next s h)).pending h

/-- A step takes exactly the front of the queue; on an empty queue only time passes. -/
theorem step_pending {s t : State} (h : step s = .next t) : t.pending = s.pending.tail := by
  unfold step at h
  split at h
  case h_1 hq =>
    cases h
    rw [advance_pending, hq, List.tail_nil]
  case h_2 c rest hq => rw [exec_pending h, hq, List.tail_cons]

/-- Settles O4: exec keeps the queue it was given, by the lemma of each operation, and only a word that the element engine
refuses ends in a fault. -/
theorem commandsLeaveTheQueueAlone : Obligations.CommandsLeaveTheQueueAlone := by
  unfold Obligations.CommandsLeaveTheQueueAlone
  exact ⟨fun _ _ _ => exec_pending, fun _ _ => step_pending, fun c s word ldi => exec_keepsQueue s c ⟨word, ldi⟩⟩

/-- Settles O1, by the definition of step on a queue with a front. -/
theorem stepRunsTheFrontCommand : Obligations.StepRunsTheFrontCommand := by
  unfold Obligations.StepRunsTheFrontCommand
  intro s c rest
  rfl

end Sys2Proof.Laws
end

section
/-! CERTIFICATES. A step whose start fails the device: a look-up request that waits for the swap the step installs (R216) reads a row
with a poisoned line outside the page pool (R337), so the device fails (R498, R499) and no step is in progress. -/

namespace Sys2Proof.Laws

set_option Elab.async false

open Sys2Proof.Machine

/-- Descriptor of table 0, version 0, with one row of 32 elements at the start of stack 0 and one owner. -/
def poisonedTable : List Byte :=
  List.replicate 4 0 ++ leBytes 2 32 ++ List.replicate 4 0 ++ leBytes 2 1 ++ List.replicate 12 0 ++ leBytes 8 1 ++ List.replicate 16 0
    ++ leBytes 8 (hbmBase 0) ++ List.replicate 72 0

/-- A look-up request for that row, in step 0. -/
def poisonedRequest : BagMsg :=
  { version := 0, table := 0, requester := 0, mb := 0, step := 0, rows := [{ row := 0 }], bags := [], seq := 0, last := true }

/-- A RUN_STEPS is in progress and step 0 may start; the swap of table 0 is due at it, the request waits for that swap, and the row's
line holds poison. -/
def poisonedStart : State :=
  { regs := [(R.THL_STATUS, 1)]
    seq := { run := some { cmd := 0, t0 := 0, ring := 0, slotBytes := 4096, slots := 1, line := 0, inDev := 0 }, first := 1 }
    sor := { heldReqs := [(0, poisonedRequest)]
             tables := [{ id := 0, pending := some { cmd := 1, desc := poisonedTable, owners := [0], step := 0 } }] }
    stackList := { poison := [0] } :: List.replicate 7 {} }

theorem poisonedStart_mayStart : mayStartStep (advance 0 poisonedStart) = true := by decide

theorem exec_stepStart (time : Nat) (s : State) : exec (.stepStart time) s =
    .next (onDataAt time (fun s => if mayStartStep s then advanceBlocks (startStep s s.stepCtr) else s) s) := rfl

/-- The start of the step fails the device, which then has no step in progress. -/
theorem poisonedStart_fails :
    (onDataAt 0 (fun s => if mayStartStep s then advanceBlocks (startStep s s.stepCtr) else s) poisonedStart).seq.step = none := by
  decide +kernel

/-- Refutes O8: a STEP_START of a step that may start does not always leave that step in progress, for serving the look-up requests that
waited for it can fail the device. -/
theorem not_sequencerCommandsComplete : ¬ Obligations.SequencerCommandsComplete := by
  unfold Obligations.SequencerCommandsComplete
  rintro ⟨-, -, -, starts, -⟩
  obtain ⟨t, next, -, inProgress, -⟩ := (starts poisonedStart 0).1 (by decide) poisonedStart_mayStart (by decide)
  rw [exec_stepStart] at next
  rw [← Host.Outcome.next.inj next, poisonedStart_fails] at inProgress
  cases inProgress

end Sys2Proof.Laws
end

section
/-! SUPPORT. Fields of byte strings: what they spell, in one piece of an append and in a row of pieces of one length (R9). -/

namespace Sys2Proof.Laws

open Sys2Proof.Machine

theorem leVal_leBytes (n x : Nat) : leVal (leBytes n x) = x % 256 ^ n := by
  induction n generalizing x with
  | zero => simp [leBytes, leVal, Nat.mod_one]
  | succ n ih =>
    rw [leBytes, leVal, ih, BitVec.toNat_ofNat, Nat.shiftRight_eq_div_pow, pow_succ' 256 n, Nat.mod_mul]

theorem fieldAt_append_left {as : List Byte} (bs : List Byte) {o n : Nat} (h : o + n ≤ as.length) :
    fieldAt (as ++ bs) o n = fieldAt as o n := by
  unfold fieldAt
  rw [List.drop_append_of_le_length (by omega), List.take_append_of_le_length (by rw [List.length_drop]; omega)]

theorem fieldAt_append_right {as : List Byte} (bs : List Byte) {o n : Nat} (h : as.length ≤ o) :
    fieldAt (as ++ bs) o n = fieldAt bs (o - as.length) n := by
  unfold fieldAt
  rw [List.drop_append, List.drop_of_length_le h, List.nil_append]

/-- In a row of pieces of one length, the bytes of the `k`th. -/
theorem flatMap_piece {A : Type} {f : A → List Byte} {w : Nat} (hf : ∀ a, (f a).length = w) (xs : List A) {k : Nat} (hk : k < xs.length) :
    ((xs.flatMap f).drop (w * k)).take w = f xs[k] := by
  induction xs generalizing k with
  | nil => cases hk
  | cons x xs ih =>
    cases k with
    | zero => simp [← hf x]
    | succ k =>
      have hd : (f x ++ xs.flatMap f).drop (w * (k + 1)) = (xs.flatMap f).drop (w * k) := by
        rw [List.drop_append, List.drop_of_length_le (by rw [hf, Nat.mul_succ]; omega), List.nil_append, hf, Nat.mul_succ, Nat.add_sub_cancel]
      rw [List.flatMap_cons, hd, ih (by simpa using hk), List.getElem_cons_succ]

end Sys2Proof.Laws
end

section
/-! CERTIFICATES. The checks an image passes before it is staged (R27 to R44). -/

namespace Sys2Proof.Laws

open Sys2Proof.Machine

/-- A check that fails answers; one that passes leaves the answer to the checks behind it. -/
theorem ite_some_eq_none {A : Type} {c : Prop} [Decidable c] {a : A} {o : Option A} : (if c then some a else o) = none ↔ ¬ c ∧ o = none := by
  by_cases hc : c <;> simp [hc]

/-- What the checks of R40 have established of an image that passes them all, from the length of the body on. -/
theorem verifyImage_passed {s : State} {img : List Byte} {len : Nat} (h : verifyImage s img len = none) :
    fieldAt img 8 4 + (if bitOf (fieldAt img 0xE 2) 0 then 208 else 0) = len ∧ len ≤ 2 ^ 28
    ∧ fieldAt img 0x10 2 = 0x9408
    ∧ sha384 (img.take (fieldAt img 8 4 - 48)) = (img.drop (fieldAt img 8 4 - 48)).take 48
    ∧ (bitOf (fuseWord s 0) 0 && !bitOf (fieldAt img 0xE 2) 0) = false
    ∧ (if bitOf (fieldAt img 0xE 2) 0 then
        trailerErr s ((img.drop (fieldAt img 8 4)).take 208) ((img.drop (fieldAt img 8 4 - 48)).take 48) else none) = none
    ∧ capsHeld s (fieldAt img 0x14 4) = true := by
  simp only [verifyImage, ite_some_eq_none] at h
  obtain ⟨-, h⟩ := h
  split at h
  · cases h
  simp only [ite_some_eq_none] at h
  obtain ⟨-, -, size, part, -, -, -, h⟩ := h
  split at h
  · cases h
  split at h
  · cases h
  · cases h
  split at h
  · cases h
  simp only [ite_some_eq_none] at h
  obtain ⟨digest, need, h⟩ := h
  split at h
  · cases h
  rename_i trailer
  simp only [ite_eq_left_iff, reduceCtorEq, imp_false, Bool.not_eq_true, Bool.not_eq_false] at h
  rw [not_or, not_lt, not_not] at size
  exact ⟨size.1, size.2, of_not_not part, of_not_not digest, Bool.eq_false_of_not_eq_true need, trailer, h⟩

/-- Settles O7: each conclusion is one of the checks of R40 that a staged image has passed. -/
theorem verifiedImagesAreAuthentic : Obligations.VerifiedImagesAreAuthentic := by
  unfold Obligations.VerifiedImagesAreAuthentic
  intro s img len h body signed
  obtain ⟨length, bound, part, digest, need, trailer, caps⟩ := verifyImage_passed h
  refine ⟨length.symm, bound, digest, fun fuse => ?_, fun hs => ?_, caps, part⟩
  · simpa [fuse] using need
  · rw [if_pos hs, ← digest] at trailer
    exact trailer

end Sys2Proof.Laws
end

section
/-! CERTIFICATES. The digests the management controller reports (R63, R647 to R649). -/

namespace Sys2Proof.Laws

open Sys2Proof.Machine

@[simp] theorem pad48_length (bs : List Byte) : (pad48 bs).length = 48 := by simp [pad48]

theorem getD_pad48 (bs : List Byte) {k : Nat} (hk : k < 48) : (pad48 bs).getD k 0 = bs.getD k 0 := by
  simp only [pad48, List.getD_eq_getElem?_getD, List.getElem?_take_of_lt hk, List.getElem?_append]
  split
  · rfl
  · rename_i h
    rw [List.getElem?_eq_none (Nat.le_of_not_lt h), List.getElem?_replicate]
    split <;> rfl

@[simp] theorem digestBytes_length (s : State) (r : Nat → Nat) : (digestBytes s r).length = 48 := by
  simp [digestBytes, List.length_flatMap]

theorem fieldAt_digestBytes (s : State) (r : Nat → Nat) {k : Nat} (hk : k < 6) :
    fieldAt (digestBytes s r) (8 * k) 8 = (reg s (r k)).toNat := by
  unfold fieldAt digestBytes
  rw [flatMap_piece (w := 8) (fun _ => leBytes_length 8 _) _ (by simpa using hk), leVal_leBytes, List.getElem_range]
  exact Nat.mod_eq_of_lt (reg s (r k)).isLt

/-! ## A request that executes at once (R647 to R649) -/

/-- A request that the controller has room for on a free MCTP interface executes at once. -/
theorem mgtArrive_of_ready {s : State} {r : MgtReq} (ready : MgtReady s r.iface) : mgtArrive s r = mgtServe s r := by
  obtain ⟨phase, running, margin, waiting, -⟩ := ready
  have busy : ifaceBusy s r.iface = false := by simp [ifaceBusy, waiting, margin]
  have free : mgtFree s = true := by simp [mgtFree, phase, running, margin]
  rw [mgtArrive, if_neg (by omega), if_neg (by simp [busy]), if_pos ⟨free, waiting⟩]

theorem respond_mctp {s : State} {r : MgtReq} (h : r.iface < 2) (status : Nat) (body : List Byte) :
    respond s r status body = emit s (.response r.iface status (mgtBytes r status body)) := by
  rw [respond, if_neg (by omega)]

/-- GET_DIGESTS is served in every mode and without presence. -/
theorem mgtServe_getDigests (s : State) (iface tag : Nat) :
    mgtServe s { iface := iface, opcode := 2, tag := tag, body := [] }
      = respond s { iface := iface, opcode := 2, tag := tag, body := [] } 0 (digestBody s) := by
  simp [mgtServe, mgtEffect, servedInRecovery, needsPresence]

theorem exec_getDigests (iface tag : Nat) (s : State) :
    exec (.getDigests iface tag) s = .next (mgtArrive s { iface := iface, opcode := 2, tag := tag, body := [] }) := rfl

/-! ## The body of the answer (R63) -/

theorem digestBody_length (s : State) : (digestBody s).length = 196 := by simp [digestBody]

theorem fieldAt_digestBody_active (s : State) {k : Nat} (hk : k < 6) :
    fieldAt (digestBody s) (8 * k) 8 = (reg s (R.THL_ACTIVE_DIGEST k)).toNat := by
  simp only [digestBody, List.append_assoc]
  rw [fieldAt_append_left _ (by rw [digestBytes_length]; omega), fieldAt_digestBytes s _ hk]

theorem fieldAt_digestBody_staged (s : State) {k : Nat} (hk : k < 6) :
    fieldAt (digestBody s) (48 + 8 * k) 8 = (reg s (R.THL_STAGED_DIGEST k)).toNat := by
  simp only [digestBody, List.append_assoc]
  rw [fieldAt_append_right _ (by simp), fieldAt_append_left _ (by simp; omega), digestBytes_length, Nat.add_sub_cancel_left,
    fieldAt_digestBytes s _ hk]

theorem getD_digestBody_active (s : State) {k : Nat} (hk : k < 48) :
    (digestBody s).getD (96 + k) 0 = s.thl.activeStruct.getD k 0 := by
  have hd : 96 + k = (digestBytes s R.THL_ACTIVE_DIGEST ++ digestBytes s R.THL_STAGED_DIGEST).length + k := by simp
  rw [digestBody, List.append_assoc, List.append_assoc, hd, List.getD_append_right _ _ _ _ (Nat.le_add_right ..), Nat.add_sub_cancel_left,
    List.getD_append _ _ _ _ (by simpa using hk), getD_pad48 _ hk]

theorem getD_digestBody_staged (s : State) {k : Nat} (hk : k < 48) :
    (digestBody s).getD (144 + k) 0 = s.thl.stagedStruct.getD k 0 := by
  have hd : 144 + k = (digestBytes s R.THL_ACTIVE_DIGEST ++ digestBytes s R.THL_STAGED_DIGEST ++ pad48 s.thl.activeStruct).length + k := by simp
  rw [digestBody, List.append_assoc, hd, List.getD_append_right _ _ _ _ (Nat.le_add_right ..), Nat.add_sub_cancel_left,
    List.getD_append _ _ _ _ (by simpa using hk), getD_pad48 _ hk]

theorem fieldAt_digestBody_epoch (s : State) : fieldAt (digestBody s) 192 4 = rf s R.THL_EPOCH F.THL_EPOCH_epoch := by
  rw [digestBody, fieldAt_append_right _ (by simp)]
  simp only [List.length_append, digestBytes_length, pad48_length, fieldAt]
  rw [Nat.sub_self, List.drop_zero, List.take_of_length_le (by simp), leVal_leBytes]
  exact Nat.mod_mod _ _

/-- Settles O56: a ready controller serves the request at once, with the bytes of the registers and of the loader in their order. -/
theorem digestsAreReported : Obligations.DigestsAreReported := by
  unfold Obligations.DigestsAreReported
  intro s iface tag ready
  have hi : iface < 2 := ready.2.2.2.2
  refine ⟨_, exec_getDigests iface tag s, digestBody s, ?_⟩
  rw [mgtArrive_of_ready ready, mgtServe_getDigests, respond_mctp hi]
  exact ⟨rfl, digestBody_length s, fun k hk => ⟨fieldAt_digestBody_active s hk, fieldAt_digestBody_staged s hk⟩,
    fun k hk => ⟨getD_digestBody_active s hk, getD_digestBody_staged s hk⟩, fieldAt_digestBody_epoch s, rfl⟩

end Sys2Proof.Laws
end

section
/-! CERTIFICATES. Registers that hold what no work of the device writes there, and what the switch and the resets make of them. Each state
meets every hypothesis of its statement. -/

namespace Sys2Proof.Laws

set_option Elab.async false

open Sys2Proof.Machine

/-! ## The clear of the slots at a WARM reset (R48) -/

/-- Bits [47:0] of THL_STORE_BASE, where the slots lie, hold its reset value; bit 48 is set. A byte stands at the first address of slot 0. -/
def highBaseBit : State := { regs := [(R.THL_STORE_BASE, 0x1109FC0000000)], mem := [(0x109FC0000000, 1)] }

/-- A WARM reset keeps stack memory but for the slots at the whole value of the register, which lies above the device space here. -/
theorem highBaseBit_keeps_slot : byteAt (deviceReset highBaseBit 2) 0x109FC0000000 = 1 := by decide +kernel

/-- Refutes O43: THL_STORE_BASE may hold more than the 48 bits of the slots' address, and then a WARM reset leaves the slots as they are. -/
theorem not_resetsClearTheImages : ¬ Obligations.ResetsClearTheImages := by
  unfold Obligations.ResetsClearTheImages
  rintro ⟨clears, -⟩
  have cleared := (clears highBaseBit 2 (by decide) (by decide)).1 0x109FC0000000 (by decide +kernel) (by decide +kernel)
    (by decide +kernel) (by decide +kernel)
  exact absurd (highBaseBit_keeps_slot.symm.trans cleared) (by decide)

/-! ## The map of lost devices at a switch (R56, R505, R532) -/

/-- A switch is pending for time 0, and the lost set names a device past the 256 words of DEV_REC_LOSTMAP: the word of its number would be
THL_STATUS, its bit switch_pending. -/
def strayLost : State :=
  { regs := [(R.THL_STATUS, 8)]
    recov := { lost := [{ device := 64 * 80769 + 3, td := 0, reason := 0, step := 0, committed := true }] } }

theorem exec_epochSwitch (time : Nat) (s : State) : exec (.epochSwitch time) s = .next (switchNow (advance time s)) := rfl

/-- The re-mapping keeps the device in the lost set, which no image names, and sets its bit again. -/
theorem strayLost_stays_pending : switchPending (switchNow (advance 0 strayLost)) = true := by decide +kernel

/-- Refutes O6: an EPOCH_SWITCH whose time has come does not end switch_pending in every state, for the number of a lost device can lead
the write of DEV_REC_LOSTMAP to THL_STATUS. -/
theorem not_imageCommandsComplete : ¬ Obligations.ImageCommandsComplete := by
  unfold Obligations.ImageCommandsComplete
  rintro ⟨-, -, -, -, switch⟩
  obtain ⟨t, next, -, -, -, -, -, -, -, -, ended, -⟩ := (switch strayLost 0 (by decide +kernel)).1 (by decide +kernel)
  rw [exec_epochSwitch] at next
  rw [← Host.Outcome.next.inj next] at ended
  exact absurd (strayLost_stays_pending.symm.trans ended) (by decide)

/-! ## What a lost link lets go on before its reset (R303, R590, R603) -/

/-- The link is up and SURPRISE_LINK_DOWN is mapped to COLD. In the input queue waits a look-up answer with VERSION_UNKNOWN for a batch of a
home beyond the eight stacks: the pending bit of the event of that home would be RST_STATUS.sequencing. -/
def strayBatch : State :=
  { regs := [(R.HST_STATUS, 1), (R.SOR_CTL 2620376, 2)]
    rst := { hold := none, powerOn := false }
    mgt := { fuseSensed := [(1, 4 <<< 20)] }
    sor := {
      inq := [.lookupRsp { version := 0, table := 0, owner := 0, mb := 0, step := 0, ownerIndex := 0, seq := 0, nBags := 0, status := 1, recs := [] }]
      batches := [{
        table := 0, step := 0, mb := 0, version := 0, home := 2620376, bags := []
        reqs := [{
          k := 0, dst := 0
          msg := { version := 0, table := 0, requester := 0, mb := 0, step := 0, rows := [], bags := [], seq := 0, last := true } }] }] } }

theorem exec_surpriseLinkDown (s : State) : exec .surpriseLinkDown s =
    .next (if hostUp s then assertSource (resumeAll (loseGrants (loseHostLink s 4))) 5 4 else s) := rfl

theorem strayBatch_up : hostUp strayBatch = true := by decide +kernel

theorem strayBatch_level : levelOf strayBatch 5 = 3 := by decide +kernel

/-- The answer is taken in as the link goes, and its event makes the device seem to be in its bring-up: a reset has then the level of the
one that began the bring-up, if that is higher (R590). -/
theorem strayBatch_lies_in_full : (assertSource (resumeAll (loseGrants (loseHostLink strayBatch 4))) 5 4).rst.hold = some 4 := by
  decide +kernel

/-- Refutes O42: SURPRISE_LINK_DOWN at COLD puts a device that has finished its bring-up into a reset of level FULL, when what goes on as
the link goes sets RST_STATUS.sequencing. -/
theorem not_deviceResetSourcesAssert : ¬ Obligations.DeviceResetSourcesAssert := by
  unfold Obligations.DeviceResetSourcesAssert
  intro h
  obtain ⟨-, -, -, -, -, -, link⟩ := h strayBatch rfl (by decide +kernel) (by decide)
  obtain ⟨-, -, down⟩ := link strayBatch_up
  obtain ⟨t, next, held, -⟩ := down (by decide +kernel) (by decide +kernel)
  rw [exec_surpriseLinkDown, if_pos strayBatch_up] at next
  rw [← Host.Outcome.next.inj next, strayBatch_lies_in_full, strayBatch_level] at held
  exact absurd held (by decide)

end Sys2Proof.Laws
end

section
/-! SUPPORT. What a message that leaves changes: the links, their counts and the events of a missing route, and nothing that the memory,
the groups and the rebuilds are (R466 to R485, R603 to R613). -/

namespace Sys2Proof.Laws

set_option Elab.async false

open Sys2Proof.Machine

/-- The registers that sending a message writes: those of the event gatherer, of the counters and of the links, but not the states of the
ports. -/
def sendReg (r : Nat) : Prop :=
  (0x40000 ≤ r ∧ r < 0x60000) ∨ (0x800000 ≤ r ∧ ∀ p, r ≠ R.SHK_PORT_STATUS (p / 12) (p % 12))

/-- From `s₀` to `s` at most messages left: what memory, the tables, the tier, the image and the rebuilds hold is as it was, the outputs
have only grown. -/
structure Sent (s₀ s : State) : Prop where
  mem : s.mem = s₀.mem
  recov : s.recov = s₀.recov
  sor : s.sor = s₀.sor
  tier : s.tier = s₀.tier
  thl : s.thl = s₀.thl
  route : s.shk.route = s₀.shk.route
  reg : ∀ r, ¬ sendReg r → Machine.reg s r = Machine.reg s₀ r
  out : ∀ o ∈ s₀.out, o ∈ s.out

namespace Sent

variable {s₀ s t : State}

protected theorem refl (s : State) : Sent s s := ⟨rfl, rfl, rfl, rfl, rfl, rfl, fun _ _ => rfl, fun _ h => h⟩

protected theorem trans (hs : Sent s₀ s) (ht : Sent s t) : Sent s₀ t where
  mem := ht.mem.trans hs.mem
  recov := ht.recov.trans hs.recov
  sor := ht.sor.trans hs.sor
  tier := ht.tier.trans hs.tier
  thl := ht.thl.trans hs.thl
  route := ht.route.trans hs.route
  reg r hr := (ht.reg r hr).trans (hs.reg r hr)
  out o ho := ht.out o (hs.out o ho)

/-- A change of the links, of the event gatherer or of the counters that stores no register. -/
theorem put (hs : Sent s₀ s) (hmem : t.mem = s.mem := by with_reducible rfl) (hrecov : t.recov = s.recov := by with_reducible rfl)
    (hsor : t.sor = s.sor := by with_reducible rfl) (htier : t.tier = s.tier := by with_reducible rfl)
    (hthl : t.thl = s.thl := by with_reducible rfl) (hroute : t.shk.route = s.shk.route := by with_reducible rfl)
    (hregs : t.regs = s.regs := by with_reducible rfl) (hout : t.out = s.out := by with_reducible rfl) : Sent s₀ t where
  mem := hmem.trans hs.mem
  recov := hrecov.trans hs.recov
  sor := hsor.trans hs.sor
  tier := htier.trans hs.tier
  thl := hthl.trans hs.thl
  route := hroute.trans hs.route
  reg r hr := by rw [← hs.reg r hr, Machine.reg, hregs, Machine.reg]
  out o ho := by rw [hout]; exact hs.out o ho

protected theorem ite {c : Prop} {d : Decidable c} (hs : Sent s₀ s) (ht : Sent s₀ t) : Sent s₀ (if c then s else t) := by
  split
  · exact hs
  · exact ht

protected theorem forEach {A : Type} {f : State → A → State} {xs : List A} (hs : Sent s₀ s)
    (hf : ∀ a ∈ xs, ∀ s, Sent s₀ s → Sent s₀ (f s a)) : Sent s₀ (forEach f s xs) := by
  induction xs generalizing s with
  | nil => exact hs
  | cons x xs ih => exact ih (hf x (by simp) s hs) fun a ha => hf a (by simp [ha])

protected theorem emit {o : Out} (hs : Sent s₀ s) : Sent s₀ (emit s o) :=
  { hs with out := fun x hx => List.mem_cons_of_mem o (hs.out x hx) }

protected theorem setReg {r : Nat} {v : W64} (hs : Sent s₀ s) (hr : sendReg r) : Sent s₀ (setReg s r v) :=
  { hs with reg := fun q hq => (reg_setReg_ne s v (by rintro rfl; exact hq hr)).trans (hs.reg q hq) }

protected theorem wf {r x : Nat} {f : Field} (hs : Sent s₀ s) (hr : sendReg r) : Sent s₀ (wf s r f x) := hs.setReg hr

protected theorem bump {r n : Nat} (hs : Sent s₀ s) (hr : sendReg r) : Sent s₀ (bump s r n) := by
  unfold bump
  exact (hs.setReg hr).put

protected theorem cntAdd {w n : Nat} (hs : Sent s₀ s) : Sent s₀ (cntAdd s w n) := by
  unfold cntAdd
  exact hs.put

/-! ## Events -/

theorem sendReg_evgPend {src : Nat} (h : src < 320) : sendReg (R.EVG_PEND (src / 32)) := by
  unfold R.EVG_PEND
  exact .inl ⟨by omega, by omega⟩

theorem sendReg_evgSrcCfg {src : Nat} (h : src < 320) : sendReg (R.EVG_SRC_CFG src) := by
  unfold R.EVG_SRC_CFG
  exact .inl ⟨by omega, by omega⟩

theorem sendReg_evgTgtLevel {n : Nat} (h : n < 33) : sendReg (R.EVG_TGT_LEVEL n) := by
  unfold R.EVG_TGT_LEVEL
  exact .inl ⟨by omega, by omega⟩

theorem sendReg_events {r : Nat} (lo : 0x40000 ≤ r := by decide) (hi : r < 0x60000 := by decide) : sendReg r := .inl ⟨lo, hi⟩

theorem lt_of_mem_setBitsOf {n x b : Nat} (h : b ∈ setBitsOf n x) : b < n := by
  unfold setBitsOf at h
  simp at h
  omega

theorem pendingSources_lt {src : Nat} (h : src ∈ pendingSources s) : src < 320 := by
  unfold pendingSources at h
  simp only [List.mem_flatMap, List.mem_range, List.mem_map] at h
  obtain ⟨w, hw, b, hb, rfl⟩ := h
  have := lt_of_mem_setBitsOf hb
  omega

protected theorem evgRoute {src : Nat} (hs : Sent s₀ s) (h : src < 320) : Sent s₀ (evgRoute s src) := by
  unfold evgRoute
  split
  · exact hs.wf (sendReg_evgSrcCfg h)
  · exact (hs.wf (sendReg_evgSrcCfg h)).put

protected theorem evgSend {n p : Nat} (hs : Sent s₀ s) (h : n < 33) : Sent s₀ (evgSend s n p) := by
  unfold evgSend
  extract_lets s₁ _ s₂ s₃
  have hs₁ : Sent s₀ s₁ := hs.wf (sendReg_evgTgtLevel h)
  have hs₃ : Sent s₀ s₃ := .bump (s := s₂) hs₁.put sendReg_events
  exact .ite hs₃.emit (.ite hs₃.put hs₃.emit)

protected theorem evgNotifyAs {new : Bool} {n : Nat} (hs : Sent s₀ s) (h : n < 33) : Sent s₀ (evgNotifyAs new s n) := by
  unfold evgNotifyAs
  split
  · exact hs
  · exact .ite hs (.ite (hs.evgSend h) (.ite hs (.bump hs.put sendReg_events)))

protected theorem evgSettle (hs : Sent s₀ s) : Sent s₀ (evgSettle s) := by
  unfold evgSettle
  refine .forEach (hs.forEach fun src hsrc _ h => .ite h (h.evgRoute (pendingSources_lt hsrc))) fun n hn _ h => h.evgNotifyAs ?_
  simp only [List.mem_filter, decide_eq_true_eq] at hn
  exact hn.2

protected theorem evgMark {src : Nat} (hs : Sent s₀ s) (h : src < 320) : Sent s₀ (evgMark s src).1 := by
  unfold evgMark
  split
  · exact hs
  · extract_lets s₁ s₂
    have hs₁ : Sent s₀ s₁ := hs.wf (sendReg_evgPend h)
    have hs₂ : Sent s₀ s₂ := .ite hs₁ (hs₁.evgRoute h)
    dsimp only
    exact hs₂.evgSettle

protected theorem tracePush {kind unit arg0 arg1 : Nat} (hs : Sent s₀ s) : Sent s₀ (tracePush s kind unit arg0 arg1) := by
  unfold tracePush
  extract_lets _ s₁ s₂ r
  have hs₁ : Sent s₀ s₁ := .bump hs.put sendReg_events
  have hs₂ : Sent s₀ s₂ := hs₁.wf sendReg_events
  have hr : Sent s₀ r.1 := hs₂.evgMark (by decide)
  exact .ite hs (.ite hs.put (.ite (.ite (hr.bump sendReg_events) hr) hs₂))

protected theorem evgFire {src : Nat} (hs : Sent s₀ s) (h : src < 320) : Sent s₀ (evgFire s src) :=
  .ite hs.put (.ite (hs.evgMark h).tracePush (hs.evgMark h))

protected theorem evgFireIf {en : Bool} {src : Nat} (hs : Sent s₀ s) (h : src < 320) : Sent s₀ (evgFireIf s en src) := .ite (hs.evgFire h) hs

protected theorem flagEvent {r : Nat} {f : Field} {en : Bool} {src : Nat} (hs : Sent s₀ s) (hr : sendReg r) (h : src < 320) :
    Sent s₀ (flagEvent s r f en src) :=
  .ite hs ((hs.wf hr).evgFireIf h)

/-! ## Ports and flows -/

theorem sendReg_txBytes (n i : Nat) : sendReg (R.SHK_PORT_TX_BYTES n i) := by
  unfold sendReg R.SHK_PORT_TX_BYTES R.SHK_PORT_STATUS
  exact .inr ⟨by omega, fun p => by omega⟩

theorem sendReg_resendCnt (die : Nat) : sendReg (R.SHK_RESEND_CNT die) := by
  unfold sendReg R.SHK_RESEND_CNT R.SHK_PORT_STATUS
  exact .inr ⟨by omega, fun p => by omega⟩

theorem sendReg_norouteCnt (die : Nat) : sendReg (R.SHK_NOROUTE_CNT die) := by
  unfold sendReg R.SHK_NOROUTE_CNT R.SHK_PORT_STATUS
  exact .inr ⟨by omega, fun p => by omega⟩

theorem sendReg_abandonCnt (die : Nat) : sendReg (R.SHK_ABANDON_CNT die) := by
  unfold sendReg R.SHK_ABANDON_CNT R.SHK_PORT_STATUS
  exact .inr ⟨by omega, fun p => by omega⟩

theorem sendReg_flags (die : Nat) : sendReg (R.SHK_FLAGS die) := by
  unfold sendReg R.SHK_FLAGS R.SHK_PORT_STATUS
  exact .inr ⟨by omega, fun p => by omega⟩

protected theorem modPort {p : Nat} {f : Port → Port} (hs : Sent s₀ s) : Sent s₀ (modPort s p f) := by
  unfold modPort
  exact hs.put

protected theorem sendRaw {p : Nat} {f : Frame} (hs : Sent s₀ s) : Sent s₀ (sendRaw s p f) :=
  (hs.emit.bump (sendReg_txBytes _ _)).cntAdd.cntAdd

protected theorem freeSlot {o : Option (Nat × Nat)} (hs : Sent s₀ s) : Sent s₀ (freeSlot s o) := by
  unfold freeSlot
  split
  · exact hs
  · exact hs.modPort

protected theorem portPump {p k : Nat} (hs : Sent s₀ s) : Sent s₀ (portPump p k s) := by
  induction k generalizing s with
  | zero => exact hs
  | succ k ih =>
    unfold portPump
    extract_lets
    refine .ite hs ?_
    split
    · exact hs
    · exact ih hs.modPort.freeSlot.sendRaw

protected theorem portEnqueue {p pool : Nat} {f : Frame} (hs : Sent s₀ s) : Sent s₀ (portEnqueue s p pool f) := hs.modPort.portPump

protected theorem setFlowOut {f : FlowOut} (hs : Sent s₀ s) : Sent s₀ (setFlowOut s f) := by
  unfold setFlowOut
  exact hs.put

protected theorem refusePlane {f : FlowOut} {ms : List OutMsg} (hs : Sent s₀ s) : Sent s₀ (refusePlane s f ms) :=
  ((hs.bump (sendReg_norouteCnt 0)).flagEvent (sendReg_flags 0) (by decide)).setFlowOut

protected theorem injectMsg {f : FlowOut} {hop : Hop} {port : Nat} {om : OutMsg} (hs : Sent s₀ s) : Sent s₀ (injectMsg s f hop port om) :=
  hs.forEach fun _ _ _ h => h.portEnqueue

protected theorem unreachable (hs : Sent s₀ s) : Sent s₀ (unreachable s) := hs.flagEvent (sendReg_flags 0) (by decide)

protected theorem resendFlow {dst vc k : Nat} (hs : Sent s₀ s) : Sent s₀ (resendFlow dst vc k s) := by
  induction k generalizing s with
  | zero => exact hs.unreachable
  | succ k ih =>
    unfold resendFlow
    extract_lets
    refine .ite hs ?_
    split
    · exact hs.unreachable
    · extract_lets _ _ _ s₂
      have hs₂ : Sent s₀ s₂ := (hs.setFlowOut.bump (sendReg_resendCnt _)).cntAdd
      split
      · exact ih hs₂.refusePlane
      · exact hs₂.forEach fun _ _ _ h => h.injectMsg

protected theorem flowPump {dst vc : Nat} (hs : Sent s₀ s) : Sent s₀ (flowPump s dst vc) := by
  unfold flowPump
  extract_lets _ pick _ _
  clear_value pick
  refine .ite hs ?_
  cases pick with
  | none => exact hs.unreachable
  | some p =>
    refine .ite hs ?_
    extract_lets _ s₁
    have hs₁ : Sent s₀ s₁ := hs.setFlowOut
    split
    · exact hs₁.refusePlane.resendFlow
    · exact hs₁.forEach fun _ _ _ h => h.injectMsg

protected theorem sendFrom {cmd : Option Nat} {op : Option (Nat × Nat)} {port : Option Nat} {dst : Nat} {m : Message} (hs : Sent s₀ s) :
    Sent s₀ (sendFrom s cmd op port dst m) :=
  .ite hs.emit (.ite (hs.bump (sendReg_abandonCnt 0)) hs.emit.setFlowOut.flowPump)

protected theorem sendMsg {dst : Nat} {m : Message} (hs : Sent s₀ s) : Sent s₀ (sendMsg s dst m) := hs.sendFrom

protected theorem countNoRoute {die : Nat} (hs : Sent s₀ s) (h : die < 2) : Sent s₀ (countNoRoute s die) :=
  (hs.bump (sendReg_norouteCnt die)).flagEvent (sendReg_flags die) (by omega)

protected theorem sendError {code : Nat} {h : Hdr} (hs : Sent s₀ s) : Sent s₀ (sendError s code h) := by
  unfold sendError sendControl
  refine .ite hs ?_
  split
  · exact hs.countNoRoute (by decide)
  · split
    · exact hs.countNoRoute (by decide)
    · exact hs.portEnqueue

/-! ## What stands behind a message -/

theorem not_sendReg_low {r : Nat} (h : r < 0x40000) : ¬ sendReg r := by
  unfold sendReg
  omega

theorem not_sendReg_mid {r : Nat} (lo : 0x60000 ≤ r) (hi : r < 0x800000) : ¬ sendReg r := by
  unfold sendReg
  omega

theorem memSame (hs : Sent s₀ s) : MemSame s₀ s := fun a => by rw [byteAt, hs.mem, byteAt]

theorem selfId (hs : Sent s₀ s) : Machine.selfId s = Machine.selfId s₀ := by
  rw [Machine.selfId, hs.reg _ (not_sendReg_low (by decide)), Machine.selfId]

theorem portUp (hs : Sent s₀ s) (p : Nat) : Machine.portUp s p = Machine.portUp s₀ p := by
  have status : ¬ sendReg (R.SHK_PORT_STATUS (p / 12) (p % 12)) := by
    rintro (⟨-, hi⟩ | ⟨-, ne⟩)
    · unfold R.SHK_PORT_STATUS at hi
      omega
    · exact ne p rfl
  rw [Machine.portUp, portState, rf, hs.reg _ status, Machine.portUp, portState, rf]

theorem wiredTo (hs : Sent s₀ s) (p : Nat) : Machine.wiredTo s p = Machine.wiredTo s₀ p := by
  rw [Machine.wiredTo, hs.selfId, hs.route, Machine.wiredTo]

end Sent

/-! ## Messages that leave -/

variable {s t : State}

/-- A RECOVERY message, or one to a device that is not lost, leaves. -/
theorem message_mem_sendFrom {cmd : Option Nat} {op : Option (Nat × Nat)} {port : Option Nat} {dst : Nat} {m : Message}
    (go : (isLost s dst && !msgIsRecovery m) = false) : .message dst m ∈ (sendFrom s cmd op port dst m).out := by
  unfold sendFrom
  rw [go]
  split
  · exact List.mem_cons_self
  · exact (Sent.refl (emit s (.message dst m))).setFlowOut.flowPump.out _ List.mem_cons_self

theorem message_mem_sendMsg {dst : Nat} {m : Message} (rec : msgIsRecovery m = true) : .message dst m ∈ (sendMsg s dst m).out :=
  message_mem_sendFrom (by simp [rec])

theorem msgIsRecovery_piece (subject origin : Nat) (k : SlotKey) (bs : List Byte) : msgIsRecovery (.piece subject origin k bs) = true := rfl
theorem msgIsRecovery_pieceRd (subject origin : Nat) (k : SlotKey) : msgIsRecovery (.pieceRd subject origin k) = true := rfl
theorem msgIsRecovery_stop (subject origin : Nat) (k : SlotKey) : msgIsRecovery (.stop subject origin k) = true := rfl
theorem msgIsRecovery_stopped (subject origin : Nat) (k : SlotKey) : msgIsRecovery (.stopped subject origin k) = true := rfl
theorem msgIsRecovery_done (subject origin epoch : Nat) : msgIsRecovery (.done subject origin epoch) = true := rfl

/-- What one round of a loop of sends puts out stands among the outputs at its end. -/
theorem out_mem_forEach {A : Type} {f : State → A → State} {o : Out} (keeps : ∀ t a, Sent t (f t a)) {a : A} :
    ∀ {xs : List A} {s : State}, a ∈ xs → (∀ t, Sent s t → o ∈ (f t a).out) → o ∈ (forEach f s xs).out := by
  intro xs
  induction xs with
  | nil => intro s ha; cases ha
  | cons x xs ih =>
    intro s ha tells
    rcases List.mem_cons.mp ha with rfl | ha
    · exact ((Sent.refl (f s a)).forEach fun b _ t ht => ht.trans (keeps t b)).out _ (tells s (.refl s))
    · exact ih ha fun t ht => tells t ((keeps s x).trans ht)

end Sys2Proof.Laws
end

section
/-! SUPPORT. What the places of tables, groups and slots depend on: memory, the image, the tables, the lost devices and the rebuilt
pieces, and three registers (R6, R48, R507 to R511, R518). -/

namespace Sys2Proof.Laws

set_option Elab.async false

open Sys2Proof.Machine

/-- `s` names the places of groups, rows and slots as `s₀` does. -/
structure SamePlaces (s₀ s : State) : Prop where
  mem : s.mem = s₀.mem
  thl : s.thl = s₀.thl
  sor : s.sor = s₀.sor
  lost : s.recov.lost = s₀.recov.lost
  spared : s.recov.spared = s₀.recov.spared
  device : reg s R.DEV_FABRIC_ID = reg s₀ R.DEV_FABRIC_ID
  image : reg s R.THL_STATUS = reg s₀ R.THL_STATUS
  store : reg s R.THL_STORE_BASE = reg s₀ R.THL_STORE_BASE

theorem Sent.places {s₀ s : State} (hs : Sent s₀ s) : SamePlaces s₀ s where
  mem := hs.mem
  thl := hs.thl
  sor := hs.sor
  lost := by rw [hs.recov]
  spared := by rw [hs.recov]
  device := hs.reg _ (Sent.not_sendReg_low (by decide))
  image := hs.reg _ (Sent.not_sendReg_mid (by decide) (by decide))
  store := hs.reg _ (Sent.not_sendReg_mid (by decide) (by decide))

namespace SamePlaces

variable {s₀ s t : State}

protected theorem refl (s : State) : SamePlaces s s := ⟨rfl, rfl, rfl, rfl, rfl, rfl, rfl, rfl⟩

protected theorem trans (hs : SamePlaces s₀ s) (ht : SamePlaces s t) : SamePlaces s₀ t where
  mem := ht.mem.trans hs.mem
  thl := ht.thl.trans hs.thl
  sor := ht.sor.trans hs.sor
  lost := ht.lost.trans hs.lost
  spared := ht.spared.trans hs.spared
  device := ht.device.trans hs.device
  image := ht.image.trans hs.image
  store := ht.store.trans hs.store

/-- A count register is none of the three. -/
protected theorem bump (s : State) {r n : Nat} (device : R.DEV_FABRIC_ID ≠ r) (image : R.THL_STATUS ≠ r) (store : R.THL_STORE_BASE ≠ r) :
    SamePlaces s (bump s r n) :=
  ⟨rfl, rfl, rfl, rfl, rfl, reg_bump_ne s n device, reg_bump_ne s n image, reg_bump_ne s n store⟩

section

variable (h : SamePlaces s₀ s)

include h

theorem selfId : Machine.selfId s = Machine.selfId s₀ := by simp only [Machine.selfId, h.device]

theorem byteAt (a : Nat) : Machine.byteAt s a = Machine.byteAt s₀ a := by simp only [Machine.byteAt, h.mem]

theorem numAt (a n : Nat) : Machine.numAt s a n = Machine.numAt s₀ a n := by simp only [Machine.numAt, bytesAt, h.byteAt]

/-! ## The image -/

theorem findSec (k ty inst : Nat) : Machine.findSec s k ty inst = Machine.findSec s₀ k ty inst := by
  simp only [Machine.findSec, sectionTable, slotBase, h.store, h.numAt]

theorem imageActive : Machine.imageActive s = Machine.imageActive s₀ := by
  rw [Machine.imageActive, rb, rf, h.image, Machine.imageActive, rb, rf]

theorem actSec (ty inst : Nat) : Machine.actSec s ty inst = Machine.actSec s₀ ty inst := by
  simp only [Machine.actSec, h.imageActive, h.thl, h.findSec]

theorem secNum (x : Option Sec) (off n : Nat) : Machine.secNum s x off n = Machine.secNum s₀ x off n := by
  cases x with
  | none => rfl
  | some c => exact h.numAt _ _

theorem groupsFrom (x : Option Sec) (n o : Nat) : Machine.groupsFrom s x n o = Machine.groupsFrom s₀ x n o := by
  induction n generalizing o with
  | zero => rfl
  | succ n ih => simp only [Machine.groupsFrom, h.secNum, ih]

theorem groupOf (d : Nat) : Machine.groupOf s d = Machine.groupOf s₀ d := by
  simp only [Machine.groupOf, groups, h.actSec, h.secNum, h.groupsFrom]

theorem optNow (inst off k : Nat) : Machine.optNow s inst off k = Machine.optNow s₀ inst off k := by
  simp only [Machine.optNow, h.actSec, h.secNum]

/-! ## Tables and slots -/

theorem newestVersion (t : Nat) : Machine.newestVersion s t = Machine.newestVersion s₀ t := by
  simp only [Machine.newestVersion, tableState, h.sor]

theorem rowSize (d : List Byte) (rem : Bool) : Machine.rowSize s d rem = Machine.rowSize s₀ d rem := by
  simp only [Machine.rowSize, rowZ, sparseRec, recNum, h.optNow]

theorem recordSize (k : SlotKey) : Machine.recordSize s k = Machine.recordSize s₀ k := by
  simp only [Machine.recordSize, h.newestVersion, h.rowSize]

theorem slotOffset (k t : Nat) (rem : Bool) (x : Nat) : Machine.slotOffset s k t rem x = Machine.slotOffset s₀ k t rem x := by
  simp only [Machine.slotOffset, storageTables, regionSize, h.sor, h.newestVersion, h.rowSize]

theorem parityAddr (k t : Nat) (rem : Bool) (x : Nat) : Machine.parityAddr s k t rem x = Machine.parityAddr s₀ k t rem x := by
  simp only [Machine.parityAddr, parBase, h.actSec, h.secNum, h.slotOffset]

theorem spareAddr (k t : Nat) (rem : Bool) (x : Nat) : Machine.spareAddr s k t rem x = Machine.spareAddr s₀ k t rem x := by
  simp only [Machine.spareAddr, spareBase, h.actSec, h.secNum, h.slotOffset]

theorem rowThere (dev : Nat) (key : SlotKey) : Machine.rowThere s dev key = Machine.rowThere s₀ dev key := by
  simp only [Machine.rowThere, h.newestVersion]

/-! ## Lost devices and those that serve for them -/

theorem isLost (d : Nat) : Machine.isLost s d = Machine.isLost s₀ d := by simp only [Machine.isLost, h.lost]

theorem lostCommitted (d : Nat) : Machine.lostCommitted s d = Machine.lostCommitted s₀ d := by
  simp only [Machine.lostCommitted, h.lost]

theorem deputyOf (d : Nat) : Machine.deputyOf s d = Machine.deputyOf s₀ d := by simp only [Machine.deputyOf, h.isLost, h.groupOf]

theorem serverOf (d : Nat) : Machine.serverOf s d = Machine.serverOf s₀ d := by
  simp only [Machine.serverOf, h.isLost, h.lostCommitted, h.deputyOf]

theorem sparedHere (d : Nat) (key : SlotKey) (parity : Bool) : Machine.sparedHere s d key parity = Machine.sparedHere s₀ d key parity := by
  simp only [Machine.sparedHere, h.spared]

theorem dataPieces (subject : Nat) (key : SlotKey) : Machine.dataPieces s subject key = Machine.dataPieces s₀ subject key := by
  simp only [Machine.dataPieces, parityAtDev, rowAtDev, h.groupOf, h.rowThere, h.isLost, h.selfId, h.sparedHere, h.serverOf]

theorem spareTaken (table : Nat) (rem : Bool) (stripe : Nat × Nat × Nat) :
    Machine.spareTaken s table rem stripe = Machine.spareTaken s₀ table rem stripe := by
  simp only [Machine.spareTaken, sparedStripe, h.spared, h.groupOf, h.selfId]

theorem readsTarget (r : Rebuild) : Machine.readsTarget s r = Machine.readsTarget s₀ r := by
  simp only [Machine.readsTarget, spareOf, h.isLost, h.groupOf, h.selfId]

theorem scrubRead (req subject : Nat) (k : SlotKey) : Machine.scrubRead s req subject k = Machine.scrubRead s₀ req subject k := by
  simp only [Machine.scrubRead, h.selfId, h.groupOf]

theorem heldAddr (table : Nat) (rem : Bool) (slot : HeldSlot) : Machine.heldAddr s table rem slot = Machine.heldAddr s₀ table rem slot := by
  simp only [Machine.heldAddr, slotGeometry, h.selfId, h.groupOf, h.parityAddr, h.spareAddr]

end

end SamePlaces

end Sys2Proof.Laws
end

section
/-! SUPPORT. Reads and writes of raw HBM by a unit of the device: what is counted, what is met, the bytes that stand afterwards (R267, R334,
R337, R627). -/

namespace Sys2Proof.Laws

set_option Elab.async false

open Sys2Proof.Machine

variable {s₀ s t : State}

/-! ## Bytes in memory -/

@[simp] theorem length_bytesAt (s : State) (a n : Nat) : (bytesAt s a n).length = n := by simp [bytesAt]

/-- Bytes read where they were stored. -/
theorem bytesAt_of_mem {a : Nat} {bs : List Byte} (hmem : t.mem = (setBytes s a bs).mem) : bytesAt t a bs.length = bs := by
  refine List.ext_getElem (by simp) fun i _ hi => ?_
  have stored : byteAt t (a + i) = bs.getD i 0 := by rw [byteAt, hmem]; exact byteAt_setBytes_inside s hi
  simp [bytesAt, stored, hi]

/-- A store leaves every byte outside it. -/
theorem memSameOutside_of_mem {a : Nat} {bs : List Byte} (hmem : t.mem = (setBytes s a bs).mem) : MemSameOutside a bs.length s t :=
  fun b hb => by rw [byteAt, hmem]; exact byteAt_setBytes_outside s hb

theorem bytesAt_congr (hmem : t.mem = s.mem) (a n : Nat) : bytesAt t a n = bytesAt s a n := by simp only [bytesAt, byteAt, hmem]

theorem memSame_of_mem (hmem : t.mem = s.mem) : MemSame s t := fun a => by rw [byteAt, hmem, byteAt]

/-! ## Counting -/

/-- From `s₀` to `s` at most counts of the stacks and of the record have changed. -/
structure Counted (s₀ s : State) : Prop where
  same : s = { s₀ with regs := s.regs, cnt := s.cnt }
  reg : ∀ r, r < 0x400000 → Machine.reg s r = Machine.reg s₀ r

namespace Counted

protected theorem refl (s : State) : Counted s s := ⟨rfl, fun _ _ => rfl⟩

protected theorem bump {r n : Nat} (hs : Counted s₀ s) (hr : 0x400000 ≤ r) : Counted s₀ (bump s r n) where
  same := by
    have := hs.same
    generalize s.regs = x, s.cnt = y at this
    subst this
    rfl
  reg q hq := (reg_bump_ne s n (by omega)).trans (hs.reg q hq)

protected theorem cntAdd {w n : Nat} (hs : Counted s₀ s) : Counted s₀ (cntAdd s w n) where
  same := by
    have := hs.same
    generalize s.regs = x, s.cnt = y at this
    subst this
    rfl
  reg := hs.reg

protected theorem bumpStacks {r : Nat → Nat} {a n : Nat} (hs : Counted s₀ s) (hr : ∀ k, 0x400000 ≤ r k) : Counted s₀ (bumpStacks r s a n) := by
  unfold bumpStacks
  generalize List.range 8 = ks
  induction ks generalizing s with
  | nil => exact hs
  | cons k ks ih =>
    refine ih ?_
    dsimp only
    split
    · exact hs
    · exact hs.bump (hr k)

theorem rdBytes_ge (k : Nat) : 0x400000 ≤ R.STK_RD_BYTES k := by unfold R.STK_RD_BYTES; omega
theorem wrBytes_ge (k : Nat) : 0x400000 ≤ R.STK_WR_BYTES k := by unfold R.STK_WR_BYTES; omega

protected theorem countRaw {a n : Nat} (hs : Counted s₀ s) : Counted s₀ (countRaw s a n) := (hs.bumpStacks rdBytes_ge).cntAdd

/-- What is no register and no count is as before. -/
theorem field {B : Type} (hs : Counted s₀ s) (f : State → B) (hf : ∀ x y, f { s₀ with regs := x, cnt := y } = f s₀) : f s = f s₀ := by
  rw [hs.same]
  exact hf _ _

theorem mem (hs : Counted s₀ s) : s.mem = s₀.mem := hs.field State.mem fun _ _ => rfl
theorem recov (hs : Counted s₀ s) : s.recov = s₀.recov := hs.field State.recov fun _ _ => rfl

theorem places (hs : Counted s₀ s) : SamePlaces s₀ s where
  mem := hs.mem
  thl := hs.field State.thl fun _ _ => rfl
  sor := hs.field State.sor fun _ _ => rfl
  lost := by rw [hs.recov]
  spared := by rw [hs.recov]
  device := hs.reg _ (by decide)
  image := hs.reg _ (by decide)
  store := hs.reg _ (by decide)

end Counted

/-! ## Reads that meet no error -/

theorem stackOf_clean (clean : NoMemoryErrors s) (k : Nat) : (stackOf s k).errs = [] ∧ (stackOf s k).poison = [] := by
  unfold stackOf
  rw [List.getD_eq_getElem?_getD]
  cases hx : s.stackList[k]? with
  | none => exact ⟨rfl, rfl⟩
  | some x => exact clean x (List.mem_of_getElem? hx)

theorem meetErrors_of_clean (clean : NoMemoryErrors s) (k off n : Nat) : meetErrors s k off n = (s, false) := by
  obtain ⟨errs, poison⟩ := stackOf_clean clean k
  simp [meetErrors, badLines, errs, poison, meetLines]

theorem meetAt_of_clean (clean : NoMemoryErrors s) (a n : Nat) : meetAt s a n = s := by
  unfold meetAt
  generalize rawSegs s a n = gs
  induction gs with
  | nil => rfl
  | cons g gs ih =>
    refine Eq.trans (congrArg (fun s => forEach _ s gs) ?_) ih
    exact congrArg Prod.fst (meetErrors_of_clean clean g.1 g.2.1 g.2.2)

theorem rawRead_counted (clean : NoMemoryErrors s) (a n : Nat) : Counted s (rawRead s a n) := by
  rw [rawRead, meetAt_of_clean clean]
  exact (Counted.refl s).countRaw

/-! ## Writes -/

theorem mem_modAt {A : Type} {f : A → A} {x : A} : ∀ {xs : List A} {i : Nat}, x ∈ modAt f xs i → x ∈ xs ∨ ∃ y ∈ xs, x = f y := by
  intro xs
  induction xs with
  | nil => intro i h; exact .inl h
  | cons y ys ih =>
    intro i h
    cases i with
    | zero => rcases List.mem_cons.mp h with h | h <;> simp [h]
    | succ i =>
      rcases List.mem_cons.mp h with h | h
      · simp [h]
      · rcases ih h with h | ⟨z, hz, h⟩
        · simp [h]
        · exact .inr ⟨z, by simp [hz], h⟩

section

variable (s) (a : Nat) (bs : List Byte)

/-- A write of raw HBM changes memory, the stack it lies in, and counts. -/
theorem hbmSet_eq : ∃ l, hbmSet s a bs = { setBytes s a bs with stackList := l } ∧ ∀ x ∈ l, ∃ y ∈ s.stackList, x.waiting = y.waiting := by
  unfold hbmSet
  split
  · refine ⟨_, rfl, fun x hx => ?_⟩
    rcases mem_modAt hx with h | ⟨y, hy, rfl⟩
    · exact ⟨x, h, rfl⟩
    · exact ⟨y, hy, rfl⟩
  · exact ⟨s.stackList, rfl, fun x hx => ⟨x, hx, rfl⟩⟩

theorem rawWrite_counted : Counted (hbmSet s a bs) (rawWrite s a bs) := ((Counted.refl _).bumpStacks Counted.wrBytes_ge).cntAdd

theorem rawWrite_mem : (rawWrite s a bs).mem = (setBytes s a bs).mem := by
  obtain ⟨l, hl, -⟩ := hbmSet_eq s a bs
  rw [(rawWrite_counted s a bs).mem, hl]

theorem rawWrite_recov : (rawWrite s a bs).recov = s.recov := by
  obtain ⟨l, hl, -⟩ := hbmSet_eq s a bs
  rw [(rawWrite_counted s a bs).recov, hl]
  rfl

theorem rawWrite_reg {r : Nat} (hr : r < 0x400000) : reg (rawWrite s a bs) r = reg s r := by
  obtain ⟨l, hl, -⟩ := hbmSet_eq s a bs
  rw [(rawWrite_counted s a bs).reg r hr, hl]
  rfl

end

end Sys2Proof.Laws
end

section
/-! SUPPORT. PIECE_RD, STOP and the pieces they are answered with (R521 to R524). -/

namespace Sys2Proof.Laws

set_option Elab.async false

open Sys2Proof.Machine

variable {s : State} {subject origin : Nat} {k : SlotKey}

theorem onData_of_up {g : State → State} (up : failed s = false) : onData g s = g s := by simp [onData, up]

theorem exec_pieceRd (up : failed s = false) : exec (.pieceRd subject origin k) s = .next (servePiece s origin subject k) :=
  congrArg Host.Outcome.next (onData_of_up up)

theorem exec_stop (up : failed s = false) : exec (.stop subject origin k) s = .next (acceptStop s subject origin k) :=
  congrArg Host.Outcome.next (onData_of_up up)

/-! ## FWD copies -/

@[simp] theorem addForward_out (s : State) (f : Forward) : (addForward s f).out = s.out := by
  unfold addForward
  split <;> rfl

@[simp] theorem addForward_mem (s : State) (f : Forward) : (addForward s f).mem = s.mem := by
  unfold addForward
  split <;> rfl

theorem mem_addForward (s : State) (f : Forward) : f ∈ (addForward s f).recov.forwards := by
  unfold addForward
  split
  · next h => exact List.contains_iff_mem.mp h
  · simp

/-! ## A slot of this device's own memory -/

/-- The bytes of a slot are sent once the slot has been read. -/
def slotSent (s : State) (subject origin : Nat) (k : SlotKey) (a n : Nat) : State :=
  sendMsg (rawRead s a n) origin (.piece subject (selfId (rawRead s a n)) k (bytesAt s a n))

theorem slotSent_sent (a n : Nat) : Sent (rawRead s a n) (slotSent s subject origin k a n) := (Sent.refl _).sendMsg

theorem slotSent_out (clean : NoMemoryErrors s) (a n : Nat) :
    .message origin (.piece subject (selfId s) k (bytesAt s a n)) ∈ (slotSent s subject origin k a n).out := by
  rw [← (rawRead_counted clean a n).places.selfId]
  exact message_mem_sendMsg rfl

theorem slotSent_places (clean : NoMemoryErrors s) (a n : Nat) : SamePlaces s (slotSent s subject origin k a n) :=
  (rawRead_counted clean a n).places.trans (slotSent_sent a n).places

/-- A PIECE_RD answered from a slot, with its FWD copies. -/
theorem completes_slotSent {c : Instr} {a n : Nat} {f : Forward} (clean : NoMemoryErrors s)
    (next : exec c s = .next (addForward (slotSent s subject origin k a n) f)) :
    Completes c s (fun t => .message origin (.piece subject (selfId s) k (bytesAt s a n)) ∈ t.out ∧ f ∈ t.recov.forwards ∧ MemSame s t) := by
  refine ⟨_, next, ?_, mem_addForward _ f, memSame_of_mem ?_⟩
  · rw [addForward_out]
    exact slotSent_out clean a n
  · rw [addForward_mem]
    exact (slotSent_places clean a n).mem

/-- A PIECE_RD waits. -/
def waitRd (s : State) (origin subject : Nat) (k : SlotKey) : State :=
  { s with recov := { s.recov with waitRd := s.recov.waitRd ++ [(origin, subject, k)] } }

section

variable {g i : Nat} {ms : List Nat}

theorem servePiece_parity (group : groupOf s subject = some (g, ms, i)) {x : Nat} (role : pieceRole s origin subject k = some (.parity x)) :
    servePiece s origin subject k =
      if rawWaits s (parityAddr s g k.table k.rem x) (recordSize s k) then waitRd s origin subject k
      else addForward (slotSent s subject origin k (parityAddr s g k.table k.rem x) (recordSize s k))
        ⟨selfId s, subject, origin, k, { k with row := x }, true⟩ := by
  simp only [servePiece, group, role]
  rfl

theorem servePiece_standIn (group : groupOf s subject = some (g, ms, i)) {h q x : Nat}
    (role : pieceRole s origin subject k = some (.standIn h q x)) (spared : sparedHere s h { k with row := q } true = true) :
    servePiece s origin subject k =
      if rawWaits s (spareAddr s g k.table k.rem x) (recordSize s k) then waitRd s origin subject k
      else addForward (slotSent s subject origin k (spareAddr s g k.table k.rem x) (recordSize s k))
        ⟨h, subject, origin, k, { k with row := q }, true⟩ := by
  simp only [servePiece, group, role, spared, Bool.not_true, Bool.false_or]
  rfl

theorem servePiece_target (clean : NoMemoryErrors s) (group : groupOf s subject = some (g, ms, i))
    (role : pieceRole s origin subject k = some .target) (spared : sparedHere s subject k false = true) (other : serverOf s subject ≠ some origin)
    (open_ : rawWaits s (spareAddr s g k.table k.rem (locate i k.row g).spare) (recordSize s k) = false) :
    servePiece s origin subject k =
      addForward (slotSent s subject origin k (spareAddr s g k.table k.rem (locate i k.row g).spare) (recordSize s k))
        ⟨subject, subject, origin, k, k, false⟩ := by
  have server : serverOf (slotSent s subject origin k (spareAddr s g k.table k.rem (locate i k.row g).spare) (recordSize s k)) subject ≠
      some origin := by rwa [(slotSent_places clean _ _).serverOf]
  simp only [servePiece, group, role, spared, open_, if_true, Bool.false_eq_true, if_false]
  exact if_neg server

theorem servePiece_target_waits (group : groupOf s subject = some (g, ms, i))
    (role : pieceRole s origin subject k = some .target) (spared : sparedHere s subject k false = true)
    (waits : rawWaits s (spareAddr s g k.table k.rem (locate i k.row g).spare) (recordSize s k) = true) :
    servePiece s origin subject k = waitRd s origin subject k := by
  simp only [servePiece, group, role, spared, waits, if_true]
  rfl

end

/-! ## A row this device serves -/

section

variable {own l : Nat} (role : pieceRole s origin subject k = some (.data own l))

include role

theorem servePiece_noRow (there : rowThere s own { k with row := l } = false) :
    servePiece s origin subject k = sendMsg s origin (.piece subject (selfId s) k (List.replicate (recordSize s k) 0)) := by
  simp only [servePiece, role, there, Bool.not_false, if_true]

theorem servePiece_lost (there : rowThere s own { k with row := l } = true) (other : own ≠ selfId s)
    (lost : rowLost s own { k with row := l } = true) :
    servePiece s origin subject k = sendMsg s origin (.stopped subject (selfId s) k) := by
  simp only [servePiece, role, there, Bool.not_true, Bool.false_eq_true, if_false]
  exact if_pos ⟨other, lost⟩

theorem servePiece_row (there : rowThere s own { k with row := l } = true)
    (mine : own = selfId s ∨ rowLost s own { k with row := l } = false)
    (here : rowGoneHere s own { k with row := l } = false ∨ scrubRead s origin subject k = true ∨ rowLost s own { k with row := l } = true) :
    servePiece s origin subject k =
      match (pieceData s own { k with row := l }).2 with
      | some bs =>
        let t := sendMsg (pieceData s own { k with row := l }).1 origin
          (.piece subject (selfId (pieceData s own { k with row := l }).1) k bs)
        if scrubRead t origin subject k then t else addForward t ⟨own, subject, origin, k, { k with row := l }, false⟩
      | none => waitRd (pieceData s own { k with row := l }).1 origin subject k := by
  have notLost : ¬ (own ≠ selfId s ∧ rowLost s own { k with row := l } = true) := by
    rintro ⟨ne, lost⟩
    rcases mine with rfl | no
    · exact ne rfl
    · simp [no] at lost
  have notGone : (rowGoneHere s own { k with row := l } && !scrubRead s origin subject k && !rowLost s own { k with row := l }) = false := by
    rcases here with h | h | h <;> simp [h]
  simp only [servePiece, role, there, Bool.not_true, Bool.false_eq_true, if_false, if_neg notLost, notGone]
  rfl

end

/-- The copies of the stopped reader alone end, and it hears STOPPED. -/
theorem stop_completes (up : failed s = false) : Completes (.stop subject origin k) s (fun t =>
    (∀ f, f ∈ t.recov.forwards ↔ f ∈ s.recov.forwards ∧ ¬(f.subject = subject ∧ f.target = origin ∧ f.named = k))
    ∧ .message origin (.stopped subject (selfId s) k) ∈ t.out ∧ MemSame s t) := by
  refine ⟨_, exec_stop up, ?_⟩
  unfold acceptStop
  extract_lets mine _ u
  have sent : Sent u (sendMsg u origin (.stopped subject (selfId u) k)) := (Sent.refl u).sendMsg
  refine ⟨fun f => ?_, message_mem_sendMsg (msgIsRecovery_stopped subject (selfId u) k), memSame_of_mem sent.mem⟩
  rw [sent.recov]
  simp [u, mine, or_assoc, imp_iff_not_or]

end Sys2Proof.Laws
end

section
/-! SUPPORT. The registers of the device's identity (R6) through what the read of a row can meet: lines that err, lost pages, a device that
fails, its commands and their records. -/

namespace Sys2Proof.Laws

set_option Elab.async false

open Sys2Proof.Machine

/-- The registers below those of recovery, the device's identity among them, read in `s` as in `s₀`. -/
def SameIdentity (s₀ s : State) : Prop := ∀ r, r < 0x2000 → reg s r = reg s₀ r

namespace SameIdentity

variable {s₀ s t : State}

theorem selfId (hs : SameIdentity s₀ s) : Machine.selfId s = Machine.selfId s₀ := by rw [Machine.selfId, hs _ (by decide), Machine.selfId]

protected theorem refl (s : State) : SameIdentity s s := fun _ _ => rfl

/-- A change of anything but the register file. -/
theorem put (hs : SameIdentity s₀ s) (hregs : t.regs = s.regs := by rfl) : SameIdentity s₀ t :=
  fun r hr => by rw [← hs r hr, reg, hregs, reg]

theorem sent (hs : SameIdentity s₀ s) (ht : Sent s t) : SameIdentity s₀ t :=
  fun r hr => (ht.reg r (Sent.not_sendReg_low (by omega))).trans (hs r hr)

theorem events (hs : SameIdentity s₀ s) (ht : EventsOnly s t) : SameIdentity s₀ t := fun r hr => (ht.reg r (by omega)).trans (hs r hr)

theorem counted (hs : SameIdentity s₀ s) (ht : Counted s t) : SameIdentity s₀ t := fun r hr => (ht.reg r (by omega)).trans (hs r hr)

protected theorem ite {c : Prop} {d : Decidable c} (hs : SameIdentity s₀ s) (ht : SameIdentity s₀ t) : SameIdentity s₀ (if c then s else t) := by
  split
  · exact hs
  · exact ht

protected theorem forEach {A : Type} {f : State → A → State} {xs : List A} (hs : SameIdentity s₀ s)
    (hf : ∀ s a, SameIdentity s₀ s → SameIdentity s₀ (f s a)) : SameIdentity s₀ (forEach f s xs) := by
  induction xs generalizing s with
  | nil => exact hs
  | cons x xs ih => exact ih (hf s x hs)

protected theorem getD {o : Option State} (hs : SameIdentity s₀ s) (ho : ∀ t, o = some t → SameIdentity s₀ t) : SameIdentity s₀ (o.getD s) := by
  cases o with
  | none => exact hs
  | some t => exact ho t rfl

protected theorem setReg {r : Nat} {v : W64} (hs : SameIdentity s₀ s) (hr : 0x2000 ≤ r := by decide) : SameIdentity s₀ (setReg s r v) :=
  fun q hq => (reg_setReg_ne s v (by omega)).trans (hs q hq)

protected theorem wf {r x : Nat} {f : Field} (hs : SameIdentity s₀ s) (hr : 0x2000 ≤ r := by decide) : SameIdentity s₀ (wf s r f x) :=
  hs.setReg hr

protected theorem bump {r n : Nat} (hs : SameIdentity s₀ s) (hr : 0x2000 ≤ r := by decide) : SameIdentity s₀ (bump s r n) := hs.setReg hr

protected theorem evgFireIf {en : Bool} {src : Nat} (hs : SameIdentity s₀ s) : SameIdentity s₀ (evgFireIf s en src) :=
  hs.events (EventsOnly.refl s).evgFireIf

protected theorem flagEvent {r : Nat} {f : Field} {en : Bool} {src : Nat} (hs : SameIdentity s₀ s) (hr : 0x2000 ≤ r := by decide) :
    SameIdentity s₀ (flagEvent s r f en src) :=
  .ite hs (hs.wf hr).evgFireIf

theorem le_violLogW0 (i : Nat) : 0x2000 ≤ R.HST_VIOL_LOG_W0 i := by unfold R.HST_VIOL_LOG_W0; omega
theorem le_violLogW1 (i : Nat) : 0x2000 ≤ R.HST_VIOL_LOG_W1 i := by unfold R.HST_VIOL_LOG_W1; omega

protected theorem violation {source addr requester : Nat} {write : Bool} {cause : Nat} (hs : SameIdentity s₀ s) :
    SameIdentity s₀ (violation s source addr requester write cause) :=
  .evgFireIf (.put (.bump (r := R.HST_VIOL_CNT) (.wf (r := R.HST_VIOL_HEAD) (.setReg (hs.setReg (le_violLogW0 _)) (le_violLogW1 _)))))

/-! ## The tiered range -/

protected theorem hbmSet {a : Nat} {bs : List Byte} (hs : SameIdentity s₀ s) : SameIdentity s₀ (hbmSet s a bs) := by
  obtain ⟨l, hl, -⟩ := hbmSet_eq s a bs
  rw [hl]
  exact hs.put

protected theorem rawWrite {a : Nat} {bs : List Byte} (hs : SameIdentity s₀ s) : SameIdentity s₀ (rawWrite s a bs) :=
  hs.hbmSet.counted (rawWrite_counted s a bs)

protected theorem tierPressure (hs : SameIdentity s₀ s) : SameIdentity s₀ (tierPressure s) := by
  unfold tierPressure
  extract_lets _ _ _ _ _ s₃
  have low : SameIdentity s₀ (Machine.wf s R.TIER_STATUS F.TIER_STATUS_low 1) := hs.wf
  have hs₃ : SameIdentity s₀ s₃ := .ite (.ite low.put (.evgFireIf (.wf low.put))) hs.wf
  split
  · exact hs
  · exact .ite hs₃.put hs₃

protected theorem tierFull (hs : SameIdentity s₀ s) : SameIdentity s₀ (tierFull s) :=
  .ite hs (.evgFireIf (.put ((hs.wf (r := R.TIER_STATUS)).wf (r := R.TIER_FLAGS))))

protected theorem tierUnfull (hs : SameIdentity s₀ s) : SameIdentity s₀ (tierUnfull s) := by
  unfold tierUnfull
  split
  · exact hs
  · exact .wf (.put (hs.bump (r := R.TIER_FULL_TIME)))

protected theorem queuePromotion {p heat : Nat} (hs : SameIdentity s₀ s) : SameIdentity s₀ (queuePromotion s p heat) := by
  unfold queuePromotion
  refine .ite hs (.ite hs.put ?_)
  split
  · exact hs
  · exact .ite hs.put hs

protected theorem touch {p : Nat} (hs : SameIdentity s₀ s) : SameIdentity s₀ (touch s p) := by
  unfold touch
  extract_lets _ _ _ _ _ _ s₂ _ s₃
  have hs₂ : SameIdentity s₀ s₂ := hs.put
  have hs₃ : SameIdentity s₀ s₃ := .ite hs₂.put hs₂
  refine .ite hs ?_
  split
  · exact hs₂
  · exact .ite hs₃.queuePromotion hs₃

protected theorem countPlaceWrite {pl : Place} {n : Nat} (hs : SameIdentity s₀ s) : SameIdentity s₀ (countPlaceWrite s pl n) := by
  unfold countPlaceWrite
  split
  · exact .put (hs.bump (Nat.le_trans (by decide) (Counted.wrBytes_ge _)))
  · exact hs.put

protected theorem countPlaceRead {pl : Place} {n : Nat} (hs : SameIdentity s₀ s) : SameIdentity s₀ (countPlaceRead s pl n) := by
  unfold countPlaceRead
  split
  · exact .put (hs.bump (Nat.le_trans (by decide) (Counted.rdBytes_ge _)))
  · exact hs.put

protected theorem placeWrite {pl : Place} {off : Nat} {bs : List Byte} (hs : SameIdentity s₀ s) : SameIdentity s₀ (placeWrite s pl off bs) := by
  unfold placeWrite
  split
  · exact hs.hbmSet.countPlaceWrite
  · exact .countPlaceWrite hs.put

protected theorem placeRead {pl : Place} {off n : Nat} (hs : SameIdentity s₀ s) : SameIdentity s₀ (placeRead s pl off n) := by
  unfold placeRead
  split
  · exact hs.countPlaceRead
  · exact .countPlaceRead hs.put

protected theorem countRead {a n : Nat} (hs : SameIdentity s₀ s) : SameIdentity s₀ (countRead s a n) := by
  unfold countRead
  refine .forEach hs fun s g h => ?_
  split
  · exact h.placeRead
  · exact h

protected theorem pagePut {p off : Nat} {bs : List Byte} (hs : SameIdentity s₀ s) : SameIdentity s₀ (pagePut s p off bs) := by
  unfold pagePut
  split
  · exact hs
  · exact hs.placeWrite.put

protected theorem zeroPlace {pl : Place} (hs : SameIdentity s₀ s) : SameIdentity s₀ (zeroPlace s pl) := by
  unfold zeroPlace
  split
  · exact hs.put
  · exact hs.put

protected theorem allocPage {p : Nat} (hs : SameIdentity s₀ s) (ht : allocPage s p = some t) : SameIdentity s₀ t := by
  simp only [allocPage, Option.map_eq_some_iff] at ht
  obtain ⟨pl, -, rfl⟩ := ht
  exact .tierPressure (.zeroPlace hs.put)

protected theorem backPages {ps : List Nat} (hs : SameIdentity s₀ s) (ht : backPages s ps = some t) : SameIdentity s₀ t := by
  induction ps generalizing s with
  | nil => cases ht; exact hs
  | cons p ps ih =>
    unfold backPages at ht
    split at ht
    · obtain ⟨s', hp, ht⟩ := Option.bind_eq_some_iff.1 ht
      exact ih (hs.allocPage hp) ht
    · exact ih hs ht

protected theorem tierPutAs {w : HeldWrite} (hs : SameIdentity s₀ s) : SameIdentity s₀ (tierPutAs s w) := by
  unfold tierPutAs
  refine .ite hs.put ?_
  split
  · exact hs.put
  · split
    · exact hs.tierFull.put
    · rename_i _ s' heq
      exact .forEach ((hs.backPages heq).forEach fun _ _ h => h.pagePut) fun _ _ h => h.touch

protected theorem tierWrite {a : Nat} {bs : List Byte} (hs : SameIdentity s₀ s) : SameIdentity s₀ (tierWrite s a bs) := .ite hs hs.tierPutAs

protected theorem devWriteAt {seq a : Nat} {bs : List Byte} (hs : SameIdentity s₀ s) (ht : devWriteAt s seq a bs = some t) :
    SameIdentity s₀ t := by
  unfold devWriteAt at ht
  extract_lets at ht
  split at ht
  · cases ht; exact .ite hs hs.tierPutAs
  · split at ht
    · split at ht
      · split at ht
        · cases ht; exact hs.put
        · cases ht; exact hs.rawWrite
      · cases ht
    · split at ht
      · cases ht; exact hs.put
      · cases ht

protected theorem retryWrite {w : HeldWrite} (hs : SameIdentity s₀ s) : SameIdentity s₀ (retryWrite s w) := by
  unfold retryWrite
  extract_lets _ s₁
  have hs₁ : SameIdentity s₀ s₁ := .ite hs hs.tierPutAs
  exact hs₁.forEach fun _ _ h => h.getD fun _ ht => h.devWriteAt ht

protected theorem retryWaits (hs : SameIdentity s₀ s) : SameIdentity s₀ (retryWaits s) := by
  unfold retryWaits
  extract_lets _ _ s₁
  have hs₁ : SameIdentity s₀ s₁ := .forEach hs.put fun _ _ h => h.retryWrite
  exact .ite hs₁ hs₁.tierUnfull

/-! ## Commits of rows -/

theorem le_deltaCnt (n : Nat) : 0x2000 ≤ R.SOR_UPD_DELTA_CNT n := by unfold R.SOR_UPD_DELTA_CNT; omega

protected theorem sendMsg {dst : Nat} {m : Message} (hs : SameIdentity s₀ s) : SameIdentity s₀ (sendMsg s dst m) := hs.sent (Sent.refl s).sendMsg

protected theorem commitPut {own : Nat} {r : SorediumRec} {ps : List (Nat × List Byte)} (hs : SameIdentity s₀ s) :
    SameIdentity s₀ (commitPut s own r ps) := by
  unfold commitPut
  extract_lets _ s₁ s₂
  have hs₁ : SameIdentity s₀ s₁ := .ite hs hs.tierPutAs
  have hs₂ : SameIdentity s₀ s₂ := hs₁.forEach fun _ _ h => .ite (h.getD fun _ ht => h.devWriteAt ht) h
  split
  · exact hs₂.sendMsg
  · exact hs₂

protected theorem startCommit {own t v row : Nat} {rem : Bool} {step : Nat} {delta : List Byte} {parts : List (Nat × List Byte)}
    (hs : SameIdentity s₀ s) : SameIdentity s₀ (startCommit s own t v row rem step delta parts) := by
  unfold startCommit
  extract_lets _ s₁
  have hs₁ : SameIdentity s₀ s₁ := hs.commitPut
  split
  · exact hs₁.put
  · extract_lets x s₂
    have hx : SameIdentity s₀ x.1 := .sendMsg hs.put
    have hs₂ : SameIdentity s₀ s₂ := (hx.bump (le_deltaCnt _)).forEach fun _ _ h => h.sendMsg
    exact hs₂.put

protected theorem tierCommit {a : Nat} {bs : List Byte} (hs : SameIdentity s₀ s) : SameIdentity s₀ (tierCommit s a bs) := by
  unfold tierCommit
  refine .ite hs.tierWrite (.forEach hs fun s c h => ?_)
  split
  · exact h.tierWrite
  · exact .ite h.put (.startCommit (h.forEach fun _ _ h => h.countRead))

protected theorem memWriteAs {ck : Bool} {a : Nat} {bs : List Byte} (hs : SameIdentity s₀ s) (ht : memWriteAs s ck a bs = some t) :
    SameIdentity s₀ t := by
  unfold memWriteAs at ht
  split at ht
  · cases ht
  · split at ht
    · cases ht; exact hs.tierCommit
    · exact hs.devWriteAt ht

/-! ## Commands and their records -/

protected theorem latch {kind index : Nat} (hs : SameIdentity s₀ s) : SameIdentity s₀ (latch s kind index).2 := by
  unfold latch
  extract_lets _ _ s₁
  have hs₁ : SameIdentity s₀ s₁ := by
    unfold s₁
    split
    · exact hs
    · exact .wf hs.put
  exact .bump hs₁.put

protected theorem syncPage (hs : SameIdentity s₀ s) : SameIdentity s₀ (syncPage s) := .ite hs hs.put

protected theorem hostPiece {i : Nat} {p : Nat × List Byte} (hs : SameIdentity s₀ s) : SameIdentity s₀ (hostPiece i s p) := .ite hs.put hs.put

protected theorem localWrite {i a : Nat} {bs : List Byte} (hs : SameIdentity s₀ s) : SameIdentity s₀ (localWrite s i a bs) := by
  unfold localWrite
  split
  · rename_i _ s' heq
    exact (hs.memWriteAs heq).put
  · exact hs.violation

protected theorem cmdWrite {i a : Nat} {bs : List Byte} (hs : SameIdentity s₀ s) : SameIdentity s₀ (cmdWrite s i a bs) := by
  unfold cmdWrite
  split
  · exact .ite (hs.forEach fun _ _ h => h.hostPiece) hs.put
  · exact hs.localWrite
  · exact .ite hs.localWrite (hs.forEach fun s _ h => h.sent (Sent.refl s).sendFrom)

protected theorem writeRec {r : CplRec} (hs : SameIdentity s₀ s) : SameIdentity s₀ (writeRec s r) := by
  unfold writeRec
  extract_lets _ _ _ _ _ s₁
  have hs₁ : SameIdentity s₀ s₁ := hs.put
  exact (hs₁.events (EventsOnly.refl s₁).evgFire).put

protected theorem pumpHeld {k : Nat} (hs : SameIdentity s₀ s) : SameIdentity s₀ (pumpHeld k s) := by
  induction k generalizing s with
  | zero => exact hs
  | succ k ih =>
    unfold pumpHeld
    split
    · exact hs
    · exact .ite (ih (.writeRec hs.put)) hs

protected theorem arrive {c : Cmd} {e : CmdEnd} (hs : SameIdentity s₀ s) : SameIdentity s₀ (arrive s c e) := by
  unfold arrive
  extract_lets _ _ s₁ s₂ s₃ s₄
  have hs₁ : SameIdentity s₀ s₁ := .ite hs.latch.bump hs.latch
  have hs₂ : SameIdentity s₀ s₂ := hs₁.put
  have hs₃ : SameIdentity s₀ s₃ := .ite hs₂.cmdWrite hs₂
  have hs₄ : SameIdentity s₀ s₄ := .ite hs₂ hs₃.cmdWrite
  exact hs₄.put

protected theorem passRetire {c : Cmd} (hs : SameIdentity s₀ s) : SameIdentity s₀ (passRetire s c) := by
  unfold passRetire
  extract_lets _ _ s₁ _ s₂ s₃
  have hs₁ : SameIdentity s₀ s₁ := hs.events (EventsOnly.refl s).tracePush
  have hs₂ : SameIdentity s₀ s₂ := hs₁.put
  have hs₃ : SameIdentity s₀ s₃ := .ite hs₂.wf hs₂
  exact .syncPage (.pumpHeld hs₃.put)

protected theorem pumpPoint {k : Nat} (hs : SameIdentity s₀ s) : SameIdentity s₀ (pumpPoint k s) := by
  induction k generalizing s with
  | zero => exact hs
  | succ k ih =>
    unfold pumpPoint
    split
    · exact hs
    · refine .ite ?_ hs
      split
      · exact ih hs.passRetire
      · exact ih hs.put

protected theorem retireAt {i : Nat} {e : CmdEnd} (hs : SameIdentity s₀ s) : SameIdentity s₀ (retireAt s i e) := by
  unfold retireAt
  split
  · exact hs
  · exact .pumpPoint hs.arrive

protected theorem pumpRecs (hs : SameIdentity s₀ s) : SameIdentity s₀ (pumpRecs s) := .ite hs (.syncPage (.pumpHeld (.pumpPoint (.pumpHeld hs))))

protected theorem cancelWork {c : Cmd} (hs : SameIdentity s₀ s) : SameIdentity s₀ (cancelWork s c) := by
  unfold cancelWork
  extract_lets
  split
  · exact .ite (.wf hs.put) hs
  · exact .ite (.wf hs.put) hs
  · exact hs.put
  · exact .ite hs.put (.ite hs.put hs)
  · exact .ite hs.put hs
  · exact .ite (.setReg (.wf hs.put)) hs
  · exact .ite (.wf hs.put) hs
  · exact hs

/-! ## The device fails -/

theorem le_portStatus (n i : Nat) : 0x2000 ≤ R.SHK_PORT_STATUS n i := by unfold R.SHK_PORT_STATUS; omega

protected theorem leaveUp {p st : Nat} (hs : SameIdentity s₀ s) : SameIdentity s₀ (leaveUp s p st) := by
  unfold leaveUp
  extract_lets s₁
  have hs₁ : SameIdentity s₀ s₁ := hs.forEach fun s _ h => h.sent (Sent.refl s).freeSlot
  exact .wf hs₁.put (le_portStatus _ _)

protected theorem announceFailed {code : Nat} (hs : SameIdentity s₀ s) : SameIdentity s₀ (announceFailed s code) :=
  hs.forEach fun _ _ h => .ite h (.leaveUp (h.forEach fun s _ h => h.sent (Sent.refl s).sendRaw))

protected theorem abortRunning (hs : SameIdentity s₀ s) : SameIdentity s₀ (abortRunning s) := by
  unfold abortRunning
  extract_lets s₁
  have hs₁ : SameIdentity s₀ s₁ := hs.forEach fun _ _ h => .ite h h.cancelWork.retireAt
  exact .pumpRecs hs₁.put

protected theorem setFailPin {high : Bool} (hs : SameIdentity s₀ s) : SameIdentity s₀ (setFailPin s high) := .ite hs hs.put

protected theorem enterFailed {code : Nat} (hs : SameIdentity s₀ s) : SameIdentity s₀ (enterFailed s code) :=
  .ite hs (.evgFireIf (.setFailPin (.wf (.abortRunning (.announceFailed hs.put)))))

/-! ## Pages are lost -/

protected theorem releaseHeld {ws : List HeldWrite} (hs : SameIdentity s₀ s) : SameIdentity s₀ (releaseHeld s ws) :=
  hs.forEach fun _ _ h => h.retryWrite

protected theorem finishRevokes (hs : SameIdentity s₀ s) : SameIdentity s₀ (finishRevokes s) := by
  unfold finishRevokes
  refine .forEach hs fun s k h => ?_
  extract_lets _ _ s₁
  have hs₁ : SameIdentity s₀ s₁ := h.put
  refine .ite ?_ h
  split
  · exact hs₁.put
  · exact hs₁

protected theorem pagesMoved (hs : SameIdentity s₀ s) : SameIdentity s₀ (pagesMoved s) := hs.finishRevokes.tierPressure.retryWaits

protected theorem abandonMig {m : Migration} (hs : SameIdentity s₀ s) : SameIdentity s₀ (abandonMig s m) :=
  .pagesMoved (.releaseHeld (.flagEvent (.bump hs.put)))

protected theorem losePage {p : Nat} (hs : SameIdentity s₀ s) : SameIdentity s₀ (losePage s p) := by
  unfold losePage
  extract_lets lose
  have loses : ∀ s, SameIdentity s₀ s → SameIdentity s₀ (lose s) := fun _ h => h.put
  split
  · exact .releaseHeld (loses _ hs.abandonMig)
  · exact loses _ hs

protected theorem losePages {ps : List Nat} (hs : SameIdentity s₀ s) : SameIdentity s₀ (losePages s ps) :=
  .ite hs (.pagesMoved (.evgFireIf (.wf (.wf (.bump (hs.forEach fun _ _ h => h.losePage))))))

/-! ## Lines that err -/

theorem le_stk {base : Nat} (n : Nat) (h : 0x2000 ≤ base := by decide) : 0x2000 ≤ base + n * 0x40000 := by omega

protected theorem stkFlag {n : Nat} {f en : Field} (hs : SameIdentity s₀ s) : SameIdentity s₀ (stkFlag s n f en) := hs.flagEvent (le_stk n)

protected theorem burst {n : Nat} {write : Bool} {off : Nat} (hs : SameIdentity s₀ s) : SameIdentity s₀ (burst n write s off) := by
  unfold burst
  extract_lets _ _ _ s₁ _ s₂
  have hs₁ : SameIdentity s₀ s₁ := .ite hs (hs.bump (le_stk n))
  have hs₂ : SameIdentity s₀ s₂ := .ite (hs₁.bump (le_stk n)) hs₁
  exact hs₂.put

protected theorem dramBurst {n : Nat} {write : Bool} {off : Nat} (hs : SameIdentity s₀ s) : SameIdentity s₀ (dramBurst n write s off) :=
  .burst (.ite (.put (hs.bump (r := R.STK_WR_BYTES n) (le_stk n))) (.put (hs.bump (r := R.STK_RD_BYTES n) (le_stk n))))

protected theorem retireFrame {n f : Nat} (hs : SameIdentity s₀ s) : SameIdentity s₀ (retireFrame s n f) :=
  .ite hs (.ite hs.enterFailed (.tierPressure (.stkFlag (.bump hs.put (le_stk n)))))

protected theorem failRow {n c f : Nat} (hs : SameIdentity s₀ s) : SameIdentity s₀ (failRow s n c f) := .ite hs (.ite hs.retireFrame hs.put)

protected theorem errAddr {n off : Nat} {uncorr : Bool} {sym : Option Nat} (hs : SameIdentity s₀ s) :
    SameIdentity s₀ (errAddr s n off uncorr sym) := by
  unfold errAddr
  split
  · exact ((hs.wf (le_stk n)).wf (le_stk n)).wf (le_stk n)
  · exact (hs.wf (le_stk n)).wf (le_stk n)

theorem le_pinMark (n c : Nat) : 0x2000 ≤ R.STK_PIN_MARK n c := by unfold R.STK_PIN_MARK; omega

protected theorem markPin {n c pin : Nat} (hs : SameIdentity s₀ s) : SameIdentity s₀ (markPin s n c pin) :=
  .ite (.stkFlag (.put (((hs.wf (r := R.STK_PIN_MARK n c) (le_pinMark n c)).wf (r := R.STK_PIN_MARK n c) (le_pinMark n c)).wf
      (r := R.STK_STATUS n) (le_stk n))))
    (.ite hs (.stkFlag ((hs.wf (le_pinMark n c)).wf (le_stk n))))

protected theorem countPin {n c f pin : Nat} (hs : SameIdentity s₀ s) : SameIdentity s₀ (countPin n c f s pin) :=
  .ite hs (.ite (.markPin hs.put) hs.put)

protected theorem lineUncorrectable {n off : Nat} (hs : SameIdentity s₀ s) : SameIdentity s₀ (lineUncorrectable s n off) := by
  unfold lineUncorrectable
  extract_lets _ s₁ s₂ s₃ s₄
  have hs₁ : SameIdentity s₀ s₁ := .put (hs.bump (r := R.STK_UNCORR_CNT n) (le_stk n))
  have hs₃ : SameIdentity s₀ s₃ := hs₁.errAddr.stkFlag.put
  have hs₄ : SameIdentity s₀ s₄ := by
    unfold s₄
    split
    · exact hs₃
    · exact .ite hs₃.losePages hs₃.enterFailed
    · exact hs₃.enterFailed
  exact hs₄.failRow

protected theorem lineCorrected {n off : Nat} {symbols : List Nat} {again : List (Nat × Nat)} (hs : SameIdentity s₀ s) :
    SameIdentity s₀ (lineCorrected s n off symbols again) := by
  unfold lineCorrected
  extract_lets _ s₁ _ s₃ s₄
  have hs₁ : SameIdentity s₀ s₁ := .put (hs.bump (r := R.STK_CORR_CNT n) (le_stk n))
  have hs₃ : SameIdentity s₀ s₃ := hs₁.errAddr.stkFlag.forEach fun _ _ h => h.countPin
  have hs₄ : SameIdentity s₀ s₄ := hs₃.dramBurst.dramBurst
  refine .ite hs₃ ?_
  split
  · exact hs₄
  · exact .ite hs₄.failRow hs₄
  · exact hs₄.lineUncorrectable

protected theorem lineRead {n off : Nat} {e : LineErr} (hs : SameIdentity s₀ s) : SameIdentity s₀ (lineRead s n off e).1 := by
  unfold lineRead
  extract_lets _ _ s₁
  have hs₁ : SameIdentity s₀ s₁ := .ite hs hs.put
  split
  · exact hs₁
  · exact hs₁.lineCorrected
  · exact hs₁.lineUncorrectable

protected theorem meetLines {k : Nat} {ls : List Nat} (hs : SameIdentity s₀ s) : SameIdentity s₀ (meetLines s k ls).1 := by
  unfold meetLines
  generalize false = b
  induction ls generalizing s b with
  | nil => exact hs
  | cons l ls ih => exact ih hs.lineRead _

protected theorem meetAt {a n : Nat} (hs : SameIdentity s₀ s) : SameIdentity s₀ (meetAt s a n) := hs.forEach fun _ _ h => h.meetLines

/-! ## Rows -/

protected theorem meetRow {own : Nat} {d : List Byte} {rem : Bool} {l k : Nat} (hs : SameIdentity s₀ s) :
    SameIdentity s₀ (meetRow s own d rem l k) := by
  unfold meetRow
  split
  · exact hs.meetAt
  · exact hs.forEach fun _ _ h => h.meetAt

protected theorem useRow {own : Nat} {d : List Byte} {rem : Bool} {l k : Nat} (hs : SameIdentity s₀ s) :
    SameIdentity s₀ (useRow s own d rem l k) := by
  unfold useRow
  extract_lets _ _ count _ s₁ s₂
  have counts : ∀ s g, SameIdentity s₀ s → SameIdentity s₀ (count s g) := by
    intro s g h
    unfold count
    split
    · exact h.placeRead
    · exact h
  have hs₁ : SameIdentity s₀ s₁ := hs.put
  have hs₂ : SameIdentity s₀ s₂ := .forEach (hs₁.forEach counts) fun _ _ h => h.touch
  split
  · exact hs₂.counted (Counted.refl s₂).countRaw
  · exact hs₂

end SameIdentity

/-- A row that could be read was read by the same device. -/
theorem lookRow_selfId {s u : State} {own l : Nat} {d : List Byte} {rem : Bool} {bs : List Byte} (read : lookRow s own d rem l = (u, some bs)) :
    selfId u = selfId s := by
  unfold lookRow at read
  split at read
  · cases read
  · dsimp only at read
    split at read
    · cases read
      exact SameIdentity.selfId (.useRow (.meetRow (.refl s)))
    · cases read

theorem pieceData_selfId {s u : State} {own : Nat} {k : SlotKey} {bs : List Byte} (read : pieceData s own k = (u, some bs)) :
    selfId u = selfId s := by
  unfold pieceData at read
  split at read
  · cases read
  · split at read
    · cases read
    · next v _ _ =>
      unfold takeRow at read
      dsimp only at read
      split at read
      · next bs' look =>
        exact lookRow_selfId (Prod.ext (Prod.mk.inj read).1 look)
      · cases read

end Sys2Proof.Laws
end

section
/-! SUPPORT. PIECE and FWD at a rebuild, and the pieces of a rebuild that are asked or stopped (R521, R522). -/

namespace Sys2Proof.Laws

set_option Elab.async false

open Sys2Proof.Machine

variable {s t : State} {subject org : Nat} {k : SlotKey} {bs : List Byte}

theorem exec_piece (up : failed s = false) : exec (.piece subject org k bs) s = .next (acceptPiece s subject org k bs) :=
  congrArg Host.Outcome.next (onData_of_up up)

/-- A PIECE_RD of a row this device serves, once the row has been read: its bytes go out, and FWD copies begin but for a scrub's. -/
theorem pieceRd_row {origin own l : Nat} (up : failed s = false) (role : pieceRole s origin subject k = some (.data own l))
    (there : rowThere s own { k with row := l } = true) (mine : own = selfId s ∨ rowLost s own { k with row := l } = false)
    (here : rowGoneHere s own { k with row := l } = false ∨ scrubRead s origin subject k = true ∨ rowLost s own { k with row := l } = true)
    {u : State} (read : pieceData s own { k with row := l } = (u, some bs)) :
    Completes (.pieceRd subject origin k) s (fun t => .message origin (.piece subject (selfId s) k bs) ∈ t.out
      ∧ (scrubRead u origin subject k = false → ⟨own, subject, origin, k, { k with row := l }, false⟩ ∈ t.recov.forwards) ∧ MemSame u t) := by
  refine ⟨_, (exec_pieceRd up).trans (congrArg _ (servePiece_row role there mine here)), ?_⟩
  rw [read, ← pieceData_selfId read]
  dsimp only
  generalize hv : sendMsg u origin (.piece subject (selfId u) k bs) = v
  have sent : Sent u v := hv ▸ (Sent.refl u).sendMsg
  have out : .message origin (.piece subject (selfId u) k bs) ∈ v.out := hv ▸ message_mem_sendMsg (msgIsRecovery_piece ..)
  rw [← sent.places.scrubRead]
  split
  · next h => exact ⟨out, fun no => absurd h (by simp [no]), sent.memSame⟩
  · exact ⟨by rwa [addForward_out], fun _ => mem_addForward v _, memSame_of_mem ((addForward_mem v _).trans sent.mem)⟩

/-! ## Counts -/

theorem toNat_reg_bump {r n : Nat} (room : (reg s r).toNat + n < 2 ^ 64) : (reg (bump s r n) r).toNat = (reg s r).toNat + n := by
  rw [reg_bump_same, satAdd64, BitVec.toNat_ofNat]
  omega

/-! ## The rebuild a piece goes to -/

theorem modRebuild_places (s : State) (d : Nat) (key : SlotKey) (parity : Bool) (f : Rebuild → Rebuild) :
    SamePlaces s (modRebuild s d key parity f) := ⟨rfl, rfl, rfl, rfl, rfl, rfl, rfl, rfl⟩

/-- A rebuild that is in progress is found as it was replaced. -/
theorem findRebuild_modRebuild {r r' : Rebuild} (known : r ∈ s.recov.rebuilds) (subj : r'.subject = r.subject) (key : r'.key = r.key)
    (par : r'.parity = r.parity) :
    findRebuild (modRebuild s r.subject r.key r.parity fun _ => r') r.subject r.key r.parity = some r' := by
  unfold findRebuild modRebuild
  dsimp only
  generalize s.recov.rebuilds = rs at known
  induction rs with
  | nil => cases known
  | cons x xs ih =>
    rw [List.map_cons, List.find?_cons]
    by_cases hx : x.subject = r.subject ∧ x.key = r.key ∧ x.parity = r.parity
    · simp [hx, subj, key, par]
    · rw [if_neg hx]
      have miss : (decide (x.subject = r.subject) && decide (x.key = r.key) && decide (x.parity = r.parity)) = false := by
        simpa [and_assoc] using hx
      simp only [miss]
      refine ih ((List.mem_cons.mp known).resolve_left ?_)
      rintro rfl
      exact hx ⟨rfl, rfl, rfl⟩

/-- A rebuild with a piece XORed into it. -/
def withPiece (r : Rebuild) (a : PieceAsk) (bs : List Byte) : Rebuild := { r with received := r.received ++ [a], acc := xorBytes r.acc bs }

/-- The state in which a piece has been counted and XORed into its rebuild `r`. -/
def pieceTaken (s : State) (r : Rebuild) (a : PieceAsk) (bs : List Byte) : State :=
  modRebuild (bump s R.DEV_REC_PIECE_BYTES bs.length) r.subject r.key r.parity fun _ => withPiece r a bs

theorem pieceTaken_places (s : State) (r : Rebuild) (a : PieceAsk) (bs : List Byte) : SamePlaces s (pieceTaken s r a bs) :=
  (SamePlaces.bump s (by decide) (by decide) (by decide)).trans (modRebuild_places _ _ _ _ _)

theorem pieceTaken_count {r : Rebuild} {a : PieceAsk} (room : (reg s R.DEV_REC_PIECE_BYTES).toNat + bs.length < 2 ^ 64) :
    (reg (pieceTaken s r a bs) R.DEV_REC_PIECE_BYTES).toNat = (reg s R.DEV_REC_PIECE_BYTES).toNat + bs.length := toNat_reg_bump room

section

variable {r : Rebuild}
  (found : s.recov.rebuilds.find? (fun r => r.asked.contains (org, subject, k) && !r.received.contains (org, subject, k) && !r.done) = some r)
  (own : readsTarget s r = false)

include found

theorem findRebuild_pieceTaken : findRebuild (pieceTaken s r (org, subject, k) bs) r.subject r.key r.parity =
    some (withPiece r (org, subject, k) bs) :=
  findRebuild_modRebuild (s := bump s _ _) (List.mem_of_find?_eq_some found) rfl rfl rfl

include own

theorem acceptPiece_rebuild : acceptPiece s subject org k bs =
    rebuildNext (pieceTaken s r (org, subject, k) bs) (withPiece r (org, subject, k) bs) := by
  have reads : readsTarget (pieceTaken s r (org, subject, k) bs) r = false := by rw [(pieceTaken_places s r _ bs).readsTarget, own]
  unfold acceptPiece
  simp only [found]
  exact if_neg (by rw [Bool.not_eq_true]; exact reads)

end

/-! ## STOPs and PIECE_RDs that go out -/

theorem sendStops_sent (s : State) (as : List PieceAsk) : Sent s (sendStops s as) :=
  (Sent.refl s).forEach fun _ _ _ h => h.sendMsg

theorem stop_mem_sendStops {as : List PieceAsk} : ∀ a ∈ as, .message a.1 (.stop a.2.1 (selfId s) a.2.2) ∈ (sendStops s as).out := by
  intro a ha
  refine out_mem_forEach (fun t _ => (Sent.refl t).sendMsg) ha fun t ht => ?_
  rw [← ht.selfId]
  exact message_mem_sendMsg (msgIsRecovery_stop ..)

theorem askPieces_sent (s : State) (as : List PieceAsk) : Sent s (forEach askPiece s as) := (Sent.refl s).forEach fun _ _ _ h => h.sendMsg

theorem pieceRd_mem_askPieces {as : List PieceAsk} : ∀ a ∈ as, .message a.1 (.pieceRd a.2.1 (selfId s) a.2.2) ∈ (forEach askPiece s as).out := by
  intro a ha
  refine out_mem_forEach (fun t _ => (Sent.refl t).sendMsg) ha fun t ht => ?_
  rw [← ht.selfId]
  exact message_mem_sendMsg (msgIsRecovery_pieceRd ..)

/-! ## What a rebuild does next -/

theorem all_received_iff {r : Rebuild} : (r.asked.all (r.received.contains ·) = true) ↔ ∀ d ∈ r.asked, d ∈ r.received := by simp

theorem rebuildNext_of_missing {r : Rebuild} (missing : ∃ d ∈ r.asked, d ∉ r.received) : rebuildNext s r = s := by
  have : ¬ (r.asked.all (r.received.contains ·) = true) := by
    rw [all_received_iff]
    obtain ⟨d, hd, hn⟩ := missing
    exact fun h => hn (h d hd)
  simp only [rebuildNext, this, Bool.not_false, if_true]

theorem rebuildNext_of_parity {r : Rebuild} (all : ∀ d ∈ r.asked, d ∈ r.received) (par : r.parity = true) :
    rebuildNext s r = sendStops s r.asked := by
  simp only [rebuildNext, all_received_iff.mpr all, par, Bool.not_true, Bool.false_eq_true, if_false, if_true, List.isEmpty_nil]

theorem rebuildNext_of_data {r : Rebuild} {p : PieceAsk} {ds : List PieceAsk} (all : ∀ d ∈ r.asked, d ∈ r.received) (par : r.parity = false)
    (pieces : dataPieces s r.subject r.key = some (p, ds)) :
    rebuildNext s r = if (ds.filter (fun d => !r.asked.contains d)).isEmpty then sendStops s r.asked
      else forEach askPiece (modRebuild s r.subject r.key r.parity (fun x => { x with asked := x.asked ++ ds.filter (fun d => !r.asked.contains d) }))
        (ds.filter (fun d => !r.asked.contains d)) := by
  simp only [rebuildNext, all_received_iff.mpr all, par, pieces, Bool.not_true, Bool.false_eq_true, if_false]

/-- The pieces not asked for yet are, or every piece asked for is stopped. -/
theorem rebuildNext_asks {r : Rebuild} {p : PieceAsk} {ds : List PieceAsk} (all : ∀ d ∈ r.asked, d ∈ r.received) (par : r.parity = false)
    (pieces : dataPieces s r.subject r.key = some (p, ds)) :
    (∃ u, SamePlaces s u ∧ u.regs = s.regs ∧ Sent u (rebuildNext s r))
    ∧ (∀ d ∈ ds, d ∉ r.asked → .message d.1 (.pieceRd d.2.1 (selfId s) d.2.2) ∈ (rebuildNext s r).out)
    ∧ ((∀ d ∈ ds, d ∈ r.asked) → ∀ d ∈ r.asked, .message d.1 (.stop d.2.1 (selfId s) d.2.2) ∈ (rebuildNext s r).out) := by
  rw [rebuildNext_of_data all par pieces]
  generalize hmore : ds.filter (fun d => !r.asked.contains d) = more
  have mem_more : ∀ d, d ∈ more ↔ d ∈ ds ∧ d ∉ r.asked := fun d => by simp [← hmore]
  split
  · next none =>
    rw [List.isEmpty_iff] at none
    refine ⟨⟨s, .refl s, rfl, sendStops_sent s _⟩, fun d hd hn => ?_, fun _ => stop_mem_sendStops⟩
    have := (mem_more d).mpr ⟨hd, hn⟩
    simp [none] at this
  · next some =>
    refine ⟨⟨_, modRebuild_places s _ _ _ _, rfl, askPieces_sent _ _⟩, fun d hd hn => ?_, fun asked => ?_⟩
    · exact pieceRd_mem_askPieces d ((mem_more d).mpr ⟨hd, hn⟩)
    · refine absurd (List.isEmpty_iff.mpr (List.eq_nil_iff_forall_not_mem.mpr fun d hd => ?_)) some
      exact ((mem_more d).mp hd).2 (asked d ((mem_more d).mp hd).1)

end Sys2Proof.Laws
end

section
/-! SUPPORT. PIECE as the statement has it, and the parity scrub (R521, R522, R526). -/

namespace Sys2Proof.Laws

set_option Elab.async false

open Sys2Proof.Machine

variable {s t : State} {subject org : Nat} {k : SlotKey} {bs : List Byte}

/-! ## A piece of a rebuild -/

section

variable {r : Rebuild} (up : failed s = false)
  (found : s.recov.rebuilds.find? (fun r => r.asked.contains (org, subject, k) && !r.received.contains (org, subject, k) && !r.done) = some r)
  (own : readsTarget s r = false)

include up found own

theorem piece_next : exec (.piece subject org k bs) s = .next (rebuildNext (pieceTaken s r (org, subject, k) bs)
    (withPiece r (org, subject, k) bs)) :=
  (exec_piece up).trans (congrArg _ (acceptPiece_rebuild found own))

theorem piece_counted (missing : ∃ d ∈ r.asked, d ∉ r.received ++ [(org, subject, k)]) :
    Completes (.piece subject org k bs) s (fun t =>
      findRebuild t r.subject r.key r.parity = some (withPiece r (org, subject, k) bs)
      ∧ ((reg s R.DEV_REC_PIECE_BYTES).toNat + bs.length < 2 ^ 64 →
          (reg t R.DEV_REC_PIECE_BYTES).toNat = (reg s R.DEV_REC_PIECE_BYTES).toNat + bs.length)
      ∧ MemSame s t) := by
  refine ⟨_, piece_next up found own, ?_⟩
  rw [rebuildNext_of_missing (r := withPiece r (org, subject, k) bs) missing]
  exact ⟨findRebuild_pieceTaken found, pieceTaken_count, memSame_of_mem rfl⟩

theorem piece_parity (par : r.parity = true) (all : ∀ d ∈ r.asked, d ∈ r.received ++ [(org, subject, k)]) :
    Completes (.piece subject org k bs) s (fun t =>
      findRebuild t r.subject r.key r.parity = some (withPiece r (org, subject, k) bs)
      ∧ MemSame s t ∧ ∀ d ∈ r.asked, .message d.1 (.stop d.2.1 (selfId s) d.2.2) ∈ t.out) := by
  refine ⟨_, piece_next up found own, ?_⟩
  rw [rebuildNext_of_parity (r := withPiece r (org, subject, k) bs) all par]
  have sent := sendStops_sent (pieceTaken s r (org, subject, k) bs) r.asked
  refine ⟨?_, memSame_of_mem sent.mem, ?_⟩
  · exact (congrArg (fun x : Rec => x.rebuilds.find? _) sent.recov).trans (findRebuild_pieceTaken found)
  · rw [← (pieceTaken_places s r (org, subject, k) bs).selfId]
    exact stop_mem_sendStops

theorem piece_data (par : r.parity = false) (all : ∀ d ∈ r.asked, d ∈ r.received ++ [(org, subject, k)]) {p : PieceAsk} {ds : List PieceAsk}
    (pieces : dataPieces s r.subject r.key = some (p, ds)) :
    Completes (.piece subject org k bs) s (fun t =>
      ((reg s R.DEV_REC_PIECE_BYTES).toNat + bs.length < 2 ^ 64 →
          (reg t R.DEV_REC_PIECE_BYTES).toNat = (reg s R.DEV_REC_PIECE_BYTES).toNat + bs.length)
      ∧ MemSame s t
      ∧ (∀ d ∈ ds, d ∉ r.asked → .message d.1 (.pieceRd d.2.1 (selfId s) d.2.2) ∈ t.out)
      ∧ ((∀ d ∈ ds, d ∈ r.asked) → ∀ d ∈ r.asked, .message d.1 (.stop d.2.1 (selfId s) d.2.2) ∈ t.out)) := by
  refine ⟨_, piece_next up found own, ?_⟩
  have places := pieceTaken_places s r (org, subject, k) bs
  obtain ⟨⟨u, same, regs, sent⟩, asks, stops⟩ := rebuildNext_asks (s := pieceTaken s r (org, subject, k) bs)
    (r := withPiece r (org, subject, k) bs) (ds := ds) all par ((places.dataPieces _ _).trans pieces)
  rw [places.selfId] at asks stops
  refine ⟨fun room => ?_, memSame_of_mem (sent.mem.trans (same.mem.trans places.mem)), asks, stops⟩
  rw [sent.reg _ (Sent.not_sendReg_low (by decide)), reg, regs]
  exact pieceTaken_count room

end

/-! ## The check of a parity slot -/

/-- A check ends with its STOPs: no check runs, and otherwise at most messages have left. -/
theorem endScrub_eq {c : Scrub} (runs : s.recov.scrub = some c) (held : c.held = []) :
    ∃ u, Sent s u ∧ endScrub s = { u with recov := { u.recov with scrub := none } } := by
  refine ⟨_, ?_, by simp only [endScrub, runs, held]; rfl⟩
  exact (Sent.refl s).forEach fun _ _ _ h => .ite h h.sendMsg

/-- The accesses that wait do so whatever registers of other blocks hold, and whatever the rebuilds are. -/
theorem rawWaits_congr (mem : t.mem = s.mem) (tier : t.tier = s.tier) (sameStacks : t.stackList = s.stackList) (rst : t.rst = s.rst)
    (high : ∀ r, 0x400000 ≤ r → reg t r = reg s r) (a n : Nat) : rawWaits t a n = rawWaits s a n := by
  have entry : ∀ p, pte t p = pte s p := fun p => by simp only [pte, numAt, bytesAt, byteAt, mem]
  have range : rangePages t = rangePages s := by rw [rangePages, tier, rangePages]
  have segs : ∀ a n, rawSegs t a n = rawSegs s a n := fun a n => by rw [rawSegs, rawSegs, range]; simp only [entry]
  have placed : ∀ w : HeldWrite, w.placed t = w.placed s := fun w => by simp only [HeldWrite.placed, entry]
  have before : ∀ seq k off n, waitsBefore t seq k off n = waitsBefore s seq k off n := fun seq k off n => by
    simp only [waitsBefore, tier, segs, placed]
  have stack : ∀ k, stackOf t k = stackOf s k := fun k => by simp only [stackOf, sameStacks]
  have status : ∀ k f, rb t (R.STK_STATUS k) f = rb s (R.STK_STATUS k) f := fun k f => by
    rw [rb, rf, high _ (by unfold R.STK_STATUS; omega), rb, rf]
  have margin : ∀ k, rf t (R.STK_MRG_STATUS k) F.STK_MRG_STATUS_channel = rf s (R.STK_MRG_STATUS k) F.STK_MRG_STATUS_channel := fun k => by
    rw [rf, high _ (by unfold R.STK_MRG_STATUS; omega), rf]
  have opens : ∀ k, stackOpen t k = stackOpen s k := fun k => by simp only [stackOpen, stackServes, idleAsked, status, stack, rst]
  have waits : ∀ k off n, hbmWaits t k off n = hbmWaits s k off n := fun k off n => by
    simp only [hbmWaits, hbmWaitsAt, tier, opens, stack, status, margin, before]
  simp only [rawWaits, segs, waits]

/-- The state in which a piece has been counted and XORed into the check `c` that runs. -/
def scrubTaken (s : State) (c : Scrub) (a : PieceAsk) (bs : List Byte) : State :=
  { bump s R.DEV_REC_PIECE_BYTES bs.length with
    recov := { s.recov with scrub := some { c with received := c.received ++ [a], acc := xorBytes c.acc bs } } }

theorem scrubTaken_places (s : State) (c : Scrub) (a : PieceAsk) (bs : List Byte) : SamePlaces s (scrubTaken s c a bs) :=
  (SamePlaces.bump s (by decide) (by decide) (by decide)).trans ⟨rfl, rfl, rfl, rfl, rfl, rfl, rfl, rfl⟩

theorem scrubTaken_waits (s : State) (c : Scrub) (x : PieceAsk) (bs : List Byte) (a n : Nat) :
    rawWaits (scrubTaken s c x bs) a n = rawWaits s a n :=
  rawWaits_congr (t := scrubTaken s c x bs) (s := s) rfl rfl rfl rfl
    (fun r hr => reg_bump_ne s _ (by unfold R.DEV_REC_PIECE_BYTES; omega)) a n

section

variable {c : Scrub} (noRebuild : ∀ r ∈ s.recov.rebuilds, (org, subject, k) ∉ r.asked)
  (noRewrite : ∀ r ∈ s.recov.rewrites, (org, subject, k) ∉ r.asked) (runs : s.recov.scrub = some c) (asked : (org, subject, k) ∈ c.asked)
  (fresh : (org, subject, k) ∉ c.received) (all : ∀ d ∈ c.asked, d ∈ c.received ++ [(org, subject, k)])

include noRebuild noRewrite runs asked fresh all

/-- The last piece of a check ends it. -/
theorem acceptPiece_scrub : acceptPiece s subject org k bs = finishScrub (scrubTaken s c (org, subject, k) bs)
    { c with received := c.received ++ [(org, subject, k)], acc := xorBytes c.acc bs } := by
  have rebuilds : s.recov.rebuilds.find? (fun r => r.asked.contains (org, subject, k) && !r.received.contains (org, subject, k) && !r.done) =
      none := by
    rw [List.find?_eq_none]
    intro r hr
    simp [noRebuild r hr]
  have rewrites : s.recov.rewrites.find? (fun r => r.asked.contains (org, subject, k) && !r.received.contains (org, subject, k)) = none := by
    rw [List.find?_eq_none]
    intro r hr
    simp [noRewrite r hr]
  have full : c.asked.all ((c.received ++ [(org, subject, k)]).contains ·) = true := by simpa using all
  unfold acceptPiece
  simp only [rebuilds, rewrites, runs, scrubPiece, List.contains_iff_mem.mpr asked, List.contains_iff_mem, fresh, full, if_true, if_false]
  rfl

end

/-- The bit of a flag that has been set. -/
theorem rb_wf_scrub_fix (s : State) : rb (wf s R.DEV_REC_FLAGS F.DEV_REC_FLAGS_scrub_fix 1) R.DEV_REC_FLAGS F.DEV_REC_FLAGS_scrub_fix = true := by
  rw [rb, rf, reg_wf_same, decide_eq_true_eq]
  generalize reg s R.DEV_REC_FLAGS = v
  have lt := v.isLt
  simp only [fget, fset, bitsOf, setBits, F.DEV_REC_FLAGS_scrub_fix, BitVec.toNat_ofNat, Nat.shiftRight_eq_div_pow, Nat.shiftLeft_eq]
  omega

end Sys2Proof.Laws
end

section
/-! SUPPORT. The end of a parity scrub, its start, FWD and DONE (R504, R521, R523, R525, R526). -/

namespace Sys2Proof.Laws

set_option Elab.async false

open Sys2Proof.Machine

variable {s t : State} {subject org : Nat} {k : SlotKey} {bs : List Byte}

/-! ## The end of a check -/

/-- The bytes a slot of `n` bytes should hold. -/
def slotBytes (bs : List Byte) (n : Nat) : List Byte := (bs ++ List.replicate n 0).take n

@[simp] theorem length_slotBytes (bs : List Byte) (n : Nat) : (slotBytes bs n).length = n := by simp [slotBytes]

/-- A slot that does not hold the XOR of its rows is rewritten, counted and flagged (R526). -/
def scrubFixed (s : State) (w n : Nat) (want : List Byte) : State :=
  if bytesAt s w n = want then s else wf (bump (rawWrite s w want) R.DEV_REC_SCRUB_FIX_CNT 1) R.DEV_REC_FLAGS F.DEV_REC_FLAGS_scrub_fix 1

theorem scrubFixed_recov (s : State) (w n : Nat) (want : List Byte) : (scrubFixed s w n want).recov = s.recov := by
  unfold scrubFixed
  split
  · rfl
  · exact rawWrite_recov s w want

theorem scrubFixed_bytes (s : State) (w : Nat) {n : Nat} {want : List Byte} (len : want.length = n) :
    bytesAt (scrubFixed s w n want) w n = want := by
  unfold scrubFixed
  split
  · assumption
  · subst len
    exact bytesAt_of_mem (rawWrite_mem s w want)

theorem scrubFixed_outside (s : State) (w : Nat) {n : Nat} {want : List Byte} (len : want.length = n) :
    MemSameOutside w n s (scrubFixed s w n want) := by
  unfold scrubFixed
  split
  · exact fun _ _ => rfl
  · subst len
    exact memSameOutside_of_mem (rawWrite_mem s w want)

theorem scrubFixed_counts {w n : Nat} {want : List Byte} (differs : bytesAt s w n ≠ want) :
    ((reg s R.DEV_REC_SCRUB_FIX_CNT).toNat + 1 < 2 ^ 64 →
      (reg (scrubFixed s w n want) R.DEV_REC_SCRUB_FIX_CNT).toNat = (reg s R.DEV_REC_SCRUB_FIX_CNT).toNat + 1)
    ∧ rb (scrubFixed s w n want) R.DEV_REC_FLAGS F.DEV_REC_FLAGS_scrub_fix = true := by
  unfold scrubFixed
  rw [if_neg differs]
  refine ⟨fun room => ?_, rb_wf_scrub_fix _⟩
  have kept : reg (rawWrite s w want) R.DEV_REC_SCRUB_FIX_CNT = reg s R.DEV_REC_SCRUB_FIX_CNT := rawWrite_reg s w want (by decide)
  rw [reg_wf_ne _ _ _ (by decide), toNat_reg_bump (by rwa [kept]), kept]

theorem finishScrub_eq {c : Scrub} {w : Nat} (place : heldAddr s c.table c.rem c.slot = some w)
    (open_ : rawWaits s w (recordSize s ⟨c.table, c.rem, 0⟩) = false) :
    finishScrub s c = endScrub (scrubFixed (rawRead s w (recordSize s ⟨c.table, c.rem, 0⟩)) w (recordSize s ⟨c.table, c.rem, 0⟩)
      (slotBytes c.acc (recordSize s ⟨c.table, c.rem, 0⟩))) := by
  simp only [finishScrub, place, open_]
  rfl

theorem scrub_completes {c : Scrub} {w : Nat} (up : failed s = false) (noRebuild : ∀ r ∈ s.recov.rebuilds, (org, subject, k) ∉ r.asked)
    (noRewrite : ∀ r ∈ s.recov.rewrites, (org, subject, k) ∉ r.asked) (runs : s.recov.scrub = some c) (asked : (org, subject, k) ∈ c.asked)
    (fresh : (org, subject, k) ∉ c.received) (all : ∀ d ∈ c.asked, d ∈ c.received ++ [(org, subject, k)]) (held : c.held = [])
    (place : heldAddr s c.table c.rem c.slot = some w) (clean : NoMemoryErrors s)
    (open_ : rawWaits s w (recordSize s ⟨c.table, c.rem, 0⟩) = false) :
    Completes (.piece subject org k bs) s (fun t => t.recov.scrub = none
      ∧ bytesAt t w (recordSize s ⟨c.table, c.rem, 0⟩) = slotBytes (xorBytes c.acc bs) (recordSize s ⟨c.table, c.rem, 0⟩)
      ∧ MemSameOutside w (recordSize s ⟨c.table, c.rem, 0⟩) s t
      ∧ (bytesAt s w (recordSize s ⟨c.table, c.rem, 0⟩) ≠ slotBytes (xorBytes c.acc bs) (recordSize s ⟨c.table, c.rem, 0⟩) →
          ((reg s R.DEV_REC_SCRUB_FIX_CNT).toNat + 1 < 2 ^ 64 →
            (reg t R.DEV_REC_SCRUB_FIX_CNT).toNat = (reg s R.DEV_REC_SCRUB_FIX_CNT).toNat + 1)
          ∧ rb t R.DEV_REC_FLAGS F.DEV_REC_FLAGS_scrub_fix = true)) := by
  have places := scrubTaken_places s c (org, subject, k) bs
  refine ⟨_, (exec_piece up).trans (congrArg _ ((acceptPiece_scrub noRebuild noRewrite runs asked fresh all).trans
    (finishScrub_eq ((places.heldAddr _ _ _).trans place) ?_))), ?_⟩
  · rw [places.recordSize, scrubTaken_waits]
    exact open_
  · rw [places.recordSize]
    generalize recordSize s ⟨c.table, c.rem, 0⟩ = n
    generalize hwant : slotBytes (xorBytes c.acc bs) n = want
    have len : want.length = n := by rw [← hwant, length_slotBytes]
    generalize hv : rawRead (scrubTaken s c (org, subject, k) bs) w n = v
    have read : Counted (scrubTaken s c (org, subject, k) bs) v := hv ▸ rawRead_counted (s := scrubTaken s c _ bs) clean w n
    have mem : v.mem = s.mem := read.mem
    have count : reg v R.DEV_REC_SCRUB_FIX_CNT = reg s R.DEV_REC_SCRUB_FIX_CNT :=
      (read.reg _ (by decide)).trans (reg_bump_ne s _ (by decide))
    obtain ⟨y, sent, ended⟩ := endScrub_eq (s := scrubFixed v w n want)
      (c := { c with received := c.received ++ [(org, subject, k)], acc := xorBytes c.acc bs })
      (by rw [scrubFixed_recov, read.recov]; rfl) held
    rw [ended]
    refine ⟨rfl, ?_, fun a ha => ?_, fun differs => ?_⟩
    · exact (bytesAt_congr sent.mem w n).trans (scrubFixed_bytes v w len)
    · exact (sent.memSame a).trans ((scrubFixed_outside v w len a ha).trans (by rw [byteAt, mem, byteAt]))
    · obtain ⟨counts, flag⟩ := scrubFixed_counts (s := v) (w := w) (n := n) (want := want) (by rwa [bytesAt_congr mem])
      refine ⟨fun room => ?_, ?_⟩
      · rw [← count] at room ⊢
        exact (congrArg BitVec.toNat (sent.reg R.DEV_REC_SCRUB_FIX_CNT (Sent.not_sendReg_low (by decide)))).trans (counts room)
      · exact (congrArg (fun x => decide (fget _ x = 1)) (sent.reg R.DEV_REC_FLAGS (Sent.not_sendReg_low (by decide)))).trans flag

/-! ## The start of a check -/

theorem exec_parityScrub {table : Nat} {slot : HeldSlot} {rem : Bool} (up : failed s = false) :
    exec (.parityScrub table slot rem) s = .next (beginScrub s table slot rem) := congrArg Host.Outcome.next (onData_of_up up)

section

variable {table : Nat} {slot : HeldSlot} {rem : Bool}

theorem parityScrub_idle (up : failed s = false) (idle : rf s R.DEV_REC_CTL F.DEV_REC_CTL_scrub_days = 0 ∨ s.recov.scrub.isSome = true ∨
    scrubAsks s table rem slot = none) : exec (.parityScrub table slot rem) s = .next s := by
  rw [exec_parityScrub up, beginScrub]
  cases hasks : scrubAsks s table rem slot with
  | none => rfl
  | some asks =>
    rw [hasks] at idle
    rcases idle with off | run | none
    · simp [off]
    · simp [run]
    · cases none

theorem parityScrub_begins (up : failed s = false) {v : TableVersion} {asks : List PieceAsk}
    (on : rf s R.DEV_REC_CTL F.DEV_REC_CTL_scrub_days ≠ 0) (rests : s.recov.scrub = none) (newest : newestVersion s table = some v)
    (alias_ : dAlias v.desc = false) (hasks : scrubAsks s table rem slot = some asks) (nonempty : asks ≠ [])
    (holds : holdsSlot s table rem slot = true) :
    Completes (.parityScrub table slot rem) s (fun t => t.recov.scrub = some ⟨table, rem, slot, asks, [], [], []⟩
      ∧ MemSame s t ∧ ∀ a ∈ asks, .message a.1 (.pieceRd a.2.1 (selfId s) a.2.2) ∈ t.out) := by
  refine ⟨_, exec_parityScrub up, ?_⟩
  have go : beginScrub s table slot rem =
      forEach askPiece { s with recov := { s.recov with scrub := some ⟨table, rem, slot, asks, [], [], []⟩ } } asks := by
    simp [beginScrub, hasks, on, rests, newest, alias_, nonempty, holds]
  rw [go]
  have sent := askPieces_sent { s with recov := { s.recov with scrub := some ⟨table, rem, slot, asks, [], [], []⟩ } } asks
  exact ⟨by rw [sent.recov], memSame_of_mem sent.mem, pieceRd_mem_askPieces⟩

end

/-! ## FWD -/

theorem exec_fwd {d : SorediumRec} (up : failed s = false) : exec (.fwd subject org d) s = .next (acceptFwd s subject org d) :=
  congrArg Host.Outcome.next (onData_of_up up)

/-- The rebuild takes the deltas of a piece of its own: the sender's piece is in, and no STOP was answered. -/
def takesDelta (a : PieceAsk) (r : Rebuild) : Bool := !r.parity && r.received.contains a && !r.done && !r.stopped.contains a

theorem takesDelta_iff {a : PieceAsk} {r : Rebuild} :
    takesDelta a r = true ↔ r.parity = false ∧ a ∈ r.received ∧ r.done = false ∧ a ∉ r.stopped := by
  simp [takesDelta, and_assoc]

@[simp] theorem length_xorBytes : ∀ as bs : List Byte, (xorBytes as bs).length = max as.length bs.length
  | [], bs => by simp [xorBytes]
  | a :: as, [] => by simp [xorBytes]
  | a :: as, b :: bs => by simp [xorBytes, length_xorBytes as bs]

/-- A delta XORed into a slot changes the slot alone. -/
theorem xorSlot_writes (clean : NoMemoryErrors s) (w : Nat) (delta : List Byte) :
    bytesAt (xorSlot s w delta) w delta.length = xorBytes (bytesAt s w delta.length) delta
    ∧ MemSameOutside w delta.length s (xorSlot s w delta) := by
  have mem : (rawRead s w delta.length).mem = s.mem := (rawRead_counted clean w delta.length).mem
  have len : (xorBytes (bytesAt s w delta.length) delta).length = delta.length := by simp
  have eq : xorSlot s w delta = rawWrite (rawRead s w delta.length) w (xorBytes (bytesAt s w delta.length) delta) := by
    rw [xorSlot, bytesAt_congr mem]
  rw [eq]
  generalize xorBytes (bytesAt s w delta.length) delta = new at len
  rw [← len]
  have wrote := rawWrite_mem (rawRead s w new.length) w new
  refine ⟨bytesAt_of_mem wrote, fun a ha => (memSameOutside_of_mem wrote a ha).trans ?_⟩
  rw [byteAt, len, mem, byteAt]

theorem fwd_rebuild {d : SorediumRec} (up : failed s = false)
    (takes : ∃ r ∈ s.recov.rebuilds, takesDelta (org, subject, ⟨d.table, d.rem, d.row⟩) r = true) :
    Completes (.fwd subject org d) s (fun t => t = { s with recov := t.recov }
      ∧ t.recov.rebuilds = s.recov.rebuilds.map (fun r =>
          if takesDelta (org, subject, ⟨d.table, d.rem, d.row⟩) r then { r with acc := xorBytes r.acc d.delta } else r)) := by
  refine ⟨_, exec_fwd up, ?_⟩
  have any : s.recov.rebuilds.any (takesDelta (org, subject, ⟨d.table, d.rem, d.row⟩)) = true := List.any_eq_true.mpr takes
  unfold acceptFwd
  extract_lets a mineR mineW
  rw [if_pos (by simp only [Bool.or_eq_true]; exact .inl any)]
  exact ⟨rfl, rfl⟩

section

variable {d : SorediumRec} (up : failed s = false)
  (untaken : ∀ r ∈ s.recov.rebuilds, ¬ takesDelta (org, subject, ⟨d.table, d.rem, d.row⟩) r = true) (noRewrite : s.recov.rewrites = [])

include up untaken noRewrite

theorem fwd_spare : exec (.fwd subject org d) s = .next (spareWrite s subject org d) := by
  rw [exec_fwd up]
  have any : s.recov.rebuilds.any (takesDelta (org, subject, ⟨d.table, d.rem, d.row⟩)) = false := by
    simpa using untaken
  unfold acceptFwd
  extract_lets a mineR mineW
  rw [if_neg (by simp only [noRewrite, List.any_nil, Bool.or_false, Bool.not_eq_true]; exact any)]

theorem fwd_nothing (unspared : sparedHere s subject ⟨d.table, d.rem, d.row⟩ false = false) : exec (.fwd subject org d) s = .next s := by
  rw [fwd_spare up untaken noRewrite]
  unfold spareWrite
  split
  · simp [unspared]
  · rfl

theorem fwd_deputy {g i : Nat} {ms : List Nat} (group : groupOf s subject = some (g, ms, i))
    (spared : sparedHere s subject ⟨d.table, d.rem, d.row⟩ false = true) (server : serverOf s subject = some org) (clean : NoMemoryErrors s)
    (open_ : rawWaits s (spareAddr s g d.table d.rem (locate i d.row g).spare) d.delta.length = false) :
    Completes (.fwd subject org d) s (fun t =>
      bytesAt t (spareAddr s g d.table d.rem (locate i d.row g).spare) d.delta.length =
        xorBytes (bytesAt s (spareAddr s g d.table d.rem (locate i d.row g).spare) d.delta.length) d.delta
      ∧ MemSameOutside (spareAddr s g d.table d.rem (locate i d.row g).spare) d.delta.length s t) := by
  generalize hw : spareAddr s g d.table d.rem (locate i d.row g).spare = w at open_
  have write : spareWrite s subject org d = forwardDelta (xorSlot s w d.delta) subject d := by
    simp [spareWrite, group, spared, server, hw, open_]
  refine ⟨_, (fwd_spare up untaken noRewrite).trans (congrArg _ write), ?_⟩
  have sent : Sent (xorSlot s w d.delta) (forwardDelta (xorSlot s w d.delta) subject d) := (Sent.refl _).forEach fun _ _ _ h => h.sendMsg
  obtain ⟨bytes, outside⟩ := xorSlot_writes clean w d.delta
  exact ⟨(bytesAt_congr sent.mem _ _).trans bytes, fun a ha => (sent.memSame a).trans (outside a ha)⟩

end

end Sys2Proof.Laws
end

section
/-! SUPPORT. DONE, STORE_WR and MEM_CPL (R45, R46, R139, R365, R489, R504, R525). -/

namespace Sys2Proof.Laws

set_option Elab.async false

open Sys2Proof.Machine

variable {s t : State}

/-! ## DONE -/

theorem exec_done {subject org epoch : Nat} (up : failed s = false) :
    exec (.done subject org epoch) s = .next (acceptDone s subject org epoch) := congrArg Host.Outcome.next (onData_of_up up)

theorem floodMsg_sent (s : State) (m : Message) : Sent s (floodMsg s m) :=
  (Sent.refl s).forEach fun _ _ _ h => .ite h.sendFrom h

/-- A flooded RECOVERY message leaves on every port that is UP. -/
theorem message_mem_floodMsg {m : Message} (rec : msgIsRecovery m = true) {p : Nat} (hp : p < 24) (isUp : portUp s p = true) :
    .message (wiredTo s p).1 m ∈ (floodMsg s m).out := by
  refine out_mem_forEach (fun t p => .ite (Sent.refl t).sendFrom (.refl t)) (List.mem_range.mpr hp) fun t ht => ?_
  rw [ht.portUp, if_pos isUp, ht.wiredTo]
  exact message_mem_sendFrom (by simp [rec])

theorem pumpReqs_of_none (noReqs : s.sor.heldReqs = []) : pumpReqs s = { s with sor := { s.sor with heldReqs := [] } } := by
  unfold pumpReqs
  rw [noReqs]
  rfl

theorem done_known {subject org epoch : Nat} (up : failed s = false) (known : (subject, org) ∈ s.recov.dones) :
    exec (.done subject org epoch) s = .next s := by
  rw [exec_done up, acceptDone, if_pos (List.contains_iff_mem.mpr known)]

theorem done_completes {subject org epoch : Nat} (up : failed s = false) (fresh : (subject, org) ∉ s.recov.dones) (noReqs : s.sor.heldReqs = []) :
    Completes (.done subject org epoch) s (fun t => t.recov.dones = s.recov.dones ++ [(subject, org)] ∧ MemSame s t
      ∧ ∀ p, p < 24 → portUp s p = true → .message (wiredTo s p).1 (.done subject org epoch) ∈ t.out) := by
  let u : State := { s with recov := { s.recov with dones := s.recov.dones ++ [(subject, org)] } }
  have next : acceptDone s subject org epoch = pumpReqs (floodMsg u (.done subject org epoch)) :=
    if_neg (by rwa [List.contains_iff_mem])
  have sent : Sent u (floodMsg u (.done subject org epoch)) := floodMsg_sent u _
  have floods : ∀ p, p < 24 → portUp s p = true →
      .message (wiredTo s p).1 (.done subject org epoch) ∈ (floodMsg u (.done subject org epoch)).out :=
    fun p hp isUp => message_mem_floodMsg (s := u) (msgIsRecovery_done ..) hp isUp
  generalize floodMsg u (.done subject org epoch) = v at next sent floods
  rw [pumpReqs_of_none (by rw [sent.sor]; exact noReqs)] at next
  refine ⟨_, (exec_done up).trans (congrArg _ next), ?_, memSame_of_mem sent.mem, floods⟩
  exact congrArg Rec.dones sent.recov

/-! ## MEM_CPL -/

theorem exec_memCpl {h : Hdr} {addr status seq : Nat} {bs : List Byte} (up : failed s = false) :
    exec (.memCpl h addr status seq bs) s = .next (loadData s h.src addr status bs) := congrArg Host.Outcome.next (onData_of_up up)

theorem loadData_none {src addr status : Nat} {bs : List Byte} (idle : s.thl.load = none) : loadData s src addr status bs = s := by
  simp [loadData, idle]

theorem loadData_of_load {src addr status : Nat} {bs : List Byte} {l : LoadRun} (runs : s.thl.load = some l) (peer : addrKind l.src = 2)
    (from_ : addrVal l.src / 2 ^ 48 = src) (lo : addrVal l.src % 2 ^ 48 ≤ addr) (hi : addr < addrVal l.src % 2 ^ 48 + loadNeed l.len) :
    loadData s src addr status bs = if status ≠ 0 then failFetch s
      else { s with thl := { s.thl with load := some { l with got := (addr - addrVal l.src % 2 ^ 48, bs) :: l.got } } } := by
  have answers : ¬ (addrKind l.src ≠ 2 ∨ addrVal l.src / 2 ^ 48 ≠ src ∨ addr < addrVal l.src % 2 ^ 48 ∨
      addrVal l.src % 2 ^ 48 + loadNeed l.len ≤ addr) := by
    simp only [peer, from_, ne_eq, not_true_eq_false, false_or]
    omega
  simp only [loadData, runs]
  exact if_neg answers

/-! ## What is refused -/

/-- A refused write enters the log and changes no byte. -/
theorem refuseWrite_completes {c : Instr} {h : Hdr} {a : Nat} (next : exec c s = .next (refuseWrite s h a)) :
    Completes c s (fun t => ((reg s R.HST_VIOL_CNT).toNat + 1 < 2 ^ 64 → (reg t R.HST_VIOL_CNT).toNat = (reg s R.HST_VIOL_CNT).toNat + 1)
      ∧ MemSame s t) := by
  have sent : Sent (violation s 2 a h.src true 8) (refuseWrite s h a) := (Sent.refl _).sendError
  refine ⟨_, next, fun room => ?_, memSame_of_mem (sent.mem.trans (violation_mem ..))⟩
  rw [sent.reg _ (Sent.not_sendReg_low (by decide))]
  exact violation_count 2 a h.src true 8 room

/-! ## STORE_WR -/

theorem exec_storeWr_refused {h : Hdr} {offset frond stride rowBytes : Nat} {done : Option Nat} {bs : List Byte} (up : failed s = false)
    (far : cliqueOf h.src ≠ cliqueOf (selfId s)) :
    exec (.storeWr h offset frond done stride rowBytes bs) s =
      .next (refuseWrite s h (0x2000_0000_0000 + frond * 0x100_0000 + offset)) := by
  refine congrArg Host.Outcome.next ((onData_of_up up).trans ?_)
  exact if_pos (.inl far)

/-- The rows of a store write. -/
def storeRows (s : State) (frond offset stride : Nat) (rows : List (List Byte × Nat)) : State :=
  forEach (fun s (r : List Byte × Nat) => cntAdd (setBytes s (storeBase frond + offset + r.2 * stride * 64) r.1) 25 r.1.length) s rows

theorem storeRows_regs (s : State) (frond offset stride : Nat) (rows : List (List Byte × Nat)) :
    (storeRows s frond offset stride rows).regs = s.regs ∧ (storeRows s frond offset stride rows).seq = s.seq := by
  induction rows generalizing s with
  | nil => exact ⟨rfl, rfl⟩
  | cons r rows ih => exact ih _

end Sys2Proof.Laws
end

section
/-! SUPPORT. STORE_WR of a clique peer: its rows stand at their stride, and the done bit is set (R139, R365, R489). -/

namespace Sys2Proof.Laws

set_option Elab.async false

open Sys2Proof.Machine

variable {s : State}

/-! ## Pieces of a list -/

theorem length_chunks {A : Type} (n : Nat) : ∀ (k : Nat) (xs : List A), (chunks n k xs).length = k
  | 0, _ => rfl
  | k + 1, xs => congrArg (· + 1) (length_chunks n k (xs.drop n))

theorem length_of_mem_chunks {A : Type} {n : Nat} {x : List A} : ∀ {k : Nat} {xs : List A}, x ∈ chunks n k xs → x.length ≤ n
  | k + 1, xs, h => by
    rcases List.mem_cons.mp h with rfl | h
    · exact List.length_take_le n xs
    · exact length_of_mem_chunks h

/-- A list of whole pieces is cut into them. -/
theorem chunksOf_of_length {A : Type} {n k : Nat} {xs : List A} (pos : 0 < n) (len : xs.length = k * n) : chunksOf n xs = chunks n k xs := by
  have count : (k * n + n - 1) / n = k := by
    rw [Nat.add_sub_assoc pos, Nat.mul_comm, Nat.mul_add_div pos, Nat.div_eq_of_lt (by omega), Nat.add_zero]
  rw [chunksOf, len, count]

/-! ## The rows -/

/-- Rows of `n` bytes stored from `a` on, `d` bytes apart. -/
theorem storeRows_bytes {frond offset stride n : Nat} (apart : n ≤ stride * 64) : ∀ (k j : Nat) (bs : List Byte) (s : State),
    bs.length = k * n →
    (∀ i, i < k → bytesAt (storeRows s frond offset stride ((chunks n k bs).zipIdx j)) (storeBase frond + offset + (j + i) * stride * 64) n =
      (bs.drop (i * n)).take n)
    ∧ ∀ a, (a < storeBase frond + offset + j * stride * 64 ∨ storeBase frond + offset + (j + k) * stride * 64 ≤ a) →
      byteAt (storeRows s frond offset stride ((chunks n k bs).zipIdx j)) a = byteAt s a := by
  intro k
  induction k with
  | zero => exact fun j bs s _ => ⟨fun i hi => absurd hi (Nat.not_lt_zero i), fun _ _ => rfl⟩
  | succ k ih =>
    intro j bs s len
    rw [Nat.succ_mul] at len
    have first : (bs.take n).length = n := by rw [List.length_take]; omega
    generalize hu : cntAdd (setBytes s (storeBase frond + offset + j * stride * 64) (bs.take n)) 25 (bs.take n).length = u
    have mem : u.mem = (setBytes s (storeBase frond + offset + j * stride * 64) (bs.take n)).mem := by rw [← hu]; rfl
    have step : storeRows s frond offset stride ((chunks n (k + 1) bs).zipIdx j) =
        storeRows u frond offset stride ((chunks n k (bs.drop n)).zipIdx (j + 1)) := by rw [← hu]; rfl
    obtain ⟨rows, rest⟩ := ih (j + 1) (bs.drop n) u (by rw [List.length_drop]; omega)
    have next : (j + 1) * stride * 64 = j * stride * 64 + stride * 64 := by ring
    have last : (j + (k + 1)) * stride * 64 = j * stride * 64 + stride * 64 + k * stride * 64 := by ring
    have last' : (j + 1 + k) * stride * 64 = j * stride * 64 + stride * 64 + k * stride * 64 := by ring
    rw [step]
    refine ⟨fun i hi => ?_, fun a ha => ?_⟩
    · cases i with
      | zero =>
        have kept : ∀ x, x < n → byteAt (storeRows u frond offset stride ((chunks n k (bs.drop n)).zipIdx (j + 1)))
            (storeBase frond + offset + j * stride * 64 + x) = byteAt u (storeBase frond + offset + j * stride * 64 + x) :=
          fun x hx => rest _ (.inl (by omega))
        have stored := bytesAt_of_mem mem
        rw [first] at stored
        rw [Nat.add_zero, Nat.zero_mul, List.drop_zero, ← stored, bytesAt, bytesAt]
        exact List.map_congr_left fun x hx => kept x (List.mem_range.mp hx)
      | succ i =>
        have := rows i (by omega)
        rw [List.drop_drop, show n + i * n = (i + 1) * n by ring, show j + 1 + i = j + (i + 1) by omega] at this
        exact this
    · rw [rest a (by omega)]
      exact memSameOutside_of_mem mem a (by rw [first]; omega)

/-! ## The done bit -/

theorem getD_modAt {A : Type} (f : A → A) (d : A) : ∀ (xs : List A) (i : Nat), i < xs.length → (modAt f xs i).getD i d = f (xs.getD i d)
  | _ :: _, 0, _ => rfl
  | _ :: xs, i + 1, h => getD_modAt f d xs i (Nat.lt_of_succ_lt_succ h)

theorem testBit_setBits_one (v b : Nat) : (setBits v b 1 1).testBit b = true := by
  have hb : bitsOf v b 1 <<< b = v / 2 ^ b % 2 * 2 ^ b := by simp [bitsOf, Nat.shiftRight_eq_div_pow, Nat.shiftLeft_eq]
  have pos := Nat.two_pow_pos b
  have split : v = v / 2 ^ b / 2 * 2 * 2 ^ b + v / 2 ^ b % 2 * 2 ^ b + v % 2 ^ b := by
    have h1 := Nat.div_add_mod v (2 ^ b)
    have h2 := Nat.div_add_mod (v / 2 ^ b) 2
    calc v = 2 ^ b * (2 * (v / 2 ^ b / 2) + v / 2 ^ b % 2) + v % 2 ^ b := by rw [h2, h1]
      _ = _ := by ring
  have set : setBits v b 1 1 = 2 ^ b * (2 * (v / 2 ^ b / 2) + 1) + v % 2 ^ b := by
    rw [setBits, hb, Nat.shiftLeft_eq]
    have : v - v / 2 ^ b % 2 * 2 ^ b = v / 2 ^ b / 2 * 2 * 2 ^ b + v % 2 ^ b := by omega
    rw [this]
    ring
  rw [set, Nat.testBit_eq_decide_div_mod_eq, Nat.mul_add_div pos, Nat.div_eq_of_lt (Nat.mod_lt v pos)]
  simp

theorem sbBit_setSb {f : Nat} (known : f < s.seq.fronds.length) (b : Nat) : sbBit (setSb s f b true) f b = true := by
  have : frondOf (setSb s f b true) f = { frondOf s f with sb := setBits (frondOf s f).sb b 1 1 } := getD_modAt _ _ _ _ known
  rw [sbBit, this]
  exact testBit_setBits_one _ _

/-! ## STORE_WR -/

section

variable {h : Hdr} {offset frond stride rowBytes rows : Nat} {done : Option Nat} {bs : List Byte}

/-- The rows fit the store. -/
theorem storeRows_fit (len : bs.length = rows * rowBytes) (pos : 0 < rowBytes) (apart : rowBytes ≤ stride * 64)
    (fits : offset + rows * stride * 64 ≤ storeSize) :
    (chunksOf rowBytes bs).zipIdx.all (fun r => decide (offset + r.2 * stride * 64 + r.1.length ≤ storeSize)) = true := by
  rw [chunksOf_of_length pos len, List.all_eq_true]
  intro r hr
  have hlt : r.2 < rows := by
    have := List.snd_lt_of_mem_zipIdx hr
    rwa [length_chunks, Nat.add_zero] at this
  have hlen : r.1.length ≤ rowBytes := length_of_mem_chunks (List.fst_mem_of_mem_zipIdx hr)
  have span : (r.2 + 1) * stride * 64 ≤ rows * stride * 64 := Nat.mul_le_mul_right _ (Nat.mul_le_mul_right _ hlt)
  have next : (r.2 + 1) * stride * 64 = r.2 * stride * 64 + stride * 64 := by ring
  rw [decide_eq_true_eq]
  omega

/-- The state after a store write, which sets the done bit when there is one. -/
def storeDone (s : State) (frond : Nat) : Option Nat → State
  | some b => setSb s frond b true
  | none => s

theorem storeDone_fields (s : State) (frond : Nat) (done : Option Nat) :
    (storeDone s frond done).mem = s.mem ∧ (storeDone s frond done).regs = s.regs := by
  cases done <;> exact ⟨rfl, rfl⟩

theorem exec_storeWr (up : failed s = false) (len : bs.length = rows * rowBytes) (pos : 0 < rowBytes) (apart : rowBytes ≤ stride * 64)
    (near : cliqueOf h.src = cliqueOf (selfId s)) (other : h.src ≠ selfId s) (known : frond < 32)
    (fits : offset + rows * stride * 64 ≤ storeSize) (low : ∀ b, done = some b → b < 1018) :
    exec (.storeWr h offset frond done stride rowBytes bs) s =
      .next (storeDone (storeRows s frond offset stride (chunks rowBytes rows bs).zipIdx) frond done) := by
  refine congrArg Host.Outcome.next ((onData_of_up up).trans ?_)
  have fit := storeRows_fit (offset := offset) len pos apart fits
  dsimp only
  rw [if_neg (Nat.ne_of_gt pos), if_neg (by simp [near, other, fit, known]), chunksOf_of_length pos len]
  cases done with
  | none => rfl
  | some b =>
    have hb := low b rfl
    have : b % 1024 = b := Nat.mod_eq_of_lt (by omega)
    dsimp only
    rw [this, if_neg (by omega)]
    rfl

theorem storeWr_completes (up : failed s = false) (len : bs.length = rows * rowBytes) (pos : 0 < rowBytes) (apart : rowBytes ≤ stride * 64)
    (near : cliqueOf h.src = cliqueOf (selfId s)) (other : h.src ≠ selfId s) (known : frond < 32) (fronds : s.seq.fronds.length = 32)
    (fits : offset + rows * stride * 64 ≤ storeSize) (low : ∀ b, done = some b → b < 1018) :
    Completes (.storeWr h offset frond done stride rowBytes bs) s (fun t =>
      (∀ j, j < rows → bytesAt t (storeBase frond + offset + j * stride * 64) rowBytes = (bs.drop (j * rowBytes)).take rowBytes)
      ∧ MemSameOutside (storeBase frond + offset) (rows * stride * 64) s t ∧ (∀ b, done = some b → sbBit t frond b = true)
      ∧ t.regs = s.regs) := by
  refine ⟨_, exec_storeWr up len pos apart near other known fits low, ?_⟩
  obtain ⟨stored, outside⟩ := storeRows_bytes (frond := frond) (offset := offset) apart rows 0 bs s len
  obtain ⟨regs, seq⟩ := storeRows_regs s frond offset stride (chunks rowBytes rows bs).zipIdx
  generalize storeRows s frond offset stride (chunks rowBytes rows bs).zipIdx = u at *
  obtain ⟨mem, regs'⟩ := storeDone_fields u frond done
  refine ⟨fun j hj => ?_, fun a ha => ?_, fun b hb => ?_, regs'.trans regs⟩
  · rw [bytesAt_congr mem, ← stored j hj, Nat.zero_add]
  · rw [byteAt, mem]
    exact outside a (by rwa [Nat.zero_mul, Nat.zero_mul, Nat.add_zero, Nat.zero_add])
  · subst hb
    exact sbBit_setSb (by rw [seq, fronds]; exact known) b

end

end Sys2Proof.Laws
end

section
/-! SUPPORT. STOPPED: the last one completes a rebuild into its spare slot, and nothing that waited goes on when nothing waits (R521,
R523). -/

namespace Sys2Proof.Laws

set_option Elab.async false

open Sys2Proof.Machine

/-! ## When nothing waits -/

/-- From `s₀` to `s` at most the tier manager's full state has ended: memory, the rebuilds, the tables, the commands and whatever waits are
as they were. -/
structure Rested (s₀ s : State) : Prop where
  mem : s.mem = s₀.mem
  recov : s.recov = s₀.recov
  sor : s.sor = s₀.sor
  cmd : s.cmd = s₀.cmd
  stackList : s.stackList = s₀.stackList
  waitWrites : s.tier.waitWrites = s₀.tier.waitWrites
  waitCommits : s.tier.waitCommits = s₀.tier.waitCommits
  waitReads : s.tier.waitReads = s₀.tier.waitReads
  reg : ∀ r, r < 0xb0000 → Machine.reg s r = Machine.reg s₀ r

/-- A loop whose rounds change nothing. -/
theorem forEach_eq_self {A : Type} {f : State → A → State} {s : State} {xs : List A} (h : ∀ a ∈ xs, f s a = s) : forEach f s xs = s := by
  induction xs with
  | nil => rfl
  | cons x xs ih => exact (congrArg (fun t => forEach f t xs) (h x (by simp))).trans (ih fun a ha => h a (by simp [ha]))

namespace Rested

variable {s₀ s : State}

protected theorem refl (s : State) : Rested s s := ⟨rfl, rfl, rfl, rfl, rfl, rfl, rfl, rfl, fun _ _ => rfl⟩

protected theorem tierUnfull (hs : Rested s₀ s) : Rested s₀ (tierUnfull s) := by
  unfold tierUnfull
  split
  · exact hs
  · refine { hs with reg := fun r hr => ?_ }
    exact (reg_wf_ne _ _ _ (by unfold R.TIER_STATUS; omega)).trans
      ((reg_bump_ne _ _ (by unfold R.TIER_FULL_TIME; omega)).trans (hs.reg r hr))

section

variable (rest : NothingResumes s₀)

include rest

protected theorem pumpTx (hs : Rested s₀ s) (n : Nat) : Rested s₀ (pumpTx s n) := by
  obtain ⟨⟨-, -, -, -, -, -, waiting⟩, -⟩ := rest
  have idle : (stackOf s n).waiting = [] := by
    rw [stackOf, hs.stackList, List.getD_eq_getElem?_getD]
    cases hx : s₀.stackList[n]? with
    | none => rfl
    | some x => exact waiting x (List.mem_of_getElem? hx)
  rw [pumpTx, idle]
  exact hs

protected theorem retryWaits (hs : Rested s₀ s) : Rested s₀ (retryWaits s) := by
  obtain ⟨⟨writes, -⟩, -⟩ := rest
  have cleared : Rested s₀ { s with tier := { s.tier with waitWrites := [] } } := { hs with waitWrites := writes.symm }
  have quiet : forEach retryWrite { s with tier := { s.tier with waitWrites := [] } } (sortBy (·.seq) s.tier.waitWrites) =
      { s with tier := { s.tier with waitWrites := [] } } := by rw [hs.waitWrites, writes]; rfl
  unfold retryWaits
  dsimp only
  rw [quiet]
  split
  · exact cleared
  · exact cleared.tierUnfull

protected theorem pumpCommits (hs : Rested s₀ s) : Rested s₀ (pumpCommits s) := by
  obtain ⟨⟨-, commits, -⟩, -⟩ := rest
  rw [pumpCommits, hs.waitCommits, commits]
  exact { hs with waitCommits := commits.symm }

protected theorem pumpReqs (hs : Rested s₀ s) : Rested s₀ (pumpReqs s) := by
  obtain ⟨⟨-, -, -, reqs, -⟩, -⟩ := rest
  have held : s.sor.heldReqs = [] := by rw [hs.sor, reqs]
  rw [pumpReqs_of_none held, ← held]
  exact hs

protected theorem pumpReads (hs : Rested s₀ s) : Rested s₀ (pumpReads s) := by
  obtain ⟨⟨-, -, reads, -⟩, -⟩ := rest
  rw [pumpReads, hs.waitReads, reads]
  exact { hs with waitReads := reads.symm }

protected theorem resumeOnce (hs : Rested s₀ s) : Rested s₀ (resumeOnce s) := by
  refine .pumpReads rest (.pumpReqs rest (.pumpCommits rest (.retryWaits rest ?_)))
  generalize List.range 8 = ns
  induction ns generalizing s with
  | nil => exact hs
  | cons n ns ih => exact ih (hs.pumpTx rest n)

protected theorem resume (hs : Rested s₀ s) : Rested s₀ (resume s) := by
  have loop : ∀ k s, Rested s₀ s → Rested s₀ (resumeLoop k s) := by
    intro k
    induction k with
    | zero => exact fun s h => h
    | succ k ih =>
      intro s h
      rw [resumeLoop]
      split
      · exact ih _ (h.resumeOnce rest)
      · exact h.resumeOnce rest
  have rested := loop (1 + waitCount s) s hs
  obtain ⟨⟨-, -, -, -, -, held, -⟩, -⟩ := rest
  rw [resume, pumpRecs, rested.cmd, held]
  exact rested

protected theorem pumpCheckpoints (hs : Rested s₀ s) : Rested s₀ (pumpCheckpoints s) := by
  obtain ⟨-, runs, -⟩ := rest
  unfold NoCheckpointRuns at runs
  rw [← hs.cmd] at runs
  have checks : forEach runCheckpoint s s.cmd.active = s := by
    refine forEach_eq_self fun c hc => ?_
    unfold runCheckpoint
    split
    · next d o n op phase fin => exact absurd op ((runs c hc phase fin).1 d o n)
    · next a n data op phase fin _ => exact absurd ((runs c hc phase fin).2 a n 0 op).1 (by decide)
    · rfl
  have rests : pumpCheckpoints s = s := by
    unfold pumpCheckpoints
    refine Eq.trans (congrArg (fun t : State => forEach runCheckpoint t t.cmd.active) ?_) checks
    refine forEach_eq_self fun c hc => ?_
    split
    · next src len mode op phase fin data =>
      have kept := ((runs c hc phase fin).2 src len mode op).2
      simp [data] at kept
    · rfl
  rw [rests]
  exact hs

protected theorem serveWaits (hs : Rested s₀ s) : Rested s₀ (serveWaits s) := by
  obtain ⟨-, -, waits, -⟩ := rest
  have held : s.recov.waitRd = [] := by rw [hs.recov, waits]
  rw [serveWaits, held]
  show Rested s₀ { s with recov := { s.recov with waitRd := [] } }
  rw [← held]
  exact hs

protected theorem pumpScrub (hs : Rested s₀ s) : Rested s₀ (pumpScrub s) := by
  obtain ⟨-, -, -, scrub⟩ := rest
  rw [pumpScrub, hs.recov, scrub]
  exact hs

protected theorem pumpInput (hs : Rested s₀ s) : Rested s₀ (pumpInput s) := by
  obtain ⟨⟨-, -, -, -, inq, -⟩, -⟩ := rest
  have held : s.sor.inq = [] := by rw [hs.sor, inq]
  rw [pumpInput, held]
  show Rested s₀ { s with sor := { s.sor with inq := [] } }
  rw [← held]
  exact hs

end

end Rested

/-- When nothing waits, nothing goes on. -/
theorem resumeAll_rested {s : State} (rest : NothingResumes s) : Rested s (resumeAll s) :=
  .pumpInput rest (.pumpScrub rest (.serveWaits rest (.pumpCheckpoints rest (.resume rest (.refl s)))))

end Sys2Proof.Laws
end

section
/-! SUPPORT. STOPPED: the last one writes a rebuilt row into its free spare slot (R521, R523). -/

namespace Sys2Proof.Laws

set_option Elab.async false

open Sys2Proof.Machine

variable {s u : State} {subject org : Nat} {k : SlotKey} {r : Rebuild}

/-! ## A write of raw HBM outside the tiered range -/

/-- What neither a write of raw HBM nor its counts touch is as before. -/
theorem rawWrite_field {B : Type} (s : State) (a : Nat) (bs : List Byte) (f : State → B)
    (hf : ∀ m l x y, f { s with mem := m, stackList := l, regs := x, cnt := y } = f s) : f (rawWrite s a bs) = f s := by
  obtain ⟨l, hl, -⟩ := hbmSet_eq s a bs
  rw [(rawWrite_counted s a bs).same, hl]
  exact hf _ _ _ _

theorem rawWrite_waiting (s : State) (a : Nat) (bs : List Byte) :
    ∀ x ∈ (rawWrite s a bs).stackList, ∃ y ∈ s.stackList, x.waiting = y.waiting := by
  obtain ⟨l, hl, kept⟩ := hbmSet_eq s a bs
  rw [(rawWrite_counted s a bs).same, hl]
  exact kept

/-- A write of raw HBM lets nothing wait that did not. -/
theorem rawWrite_nothingResumes (rest : NothingResumes s) (a : Nat) (bs : List Byte) : NothingResumes (rawWrite s a bs) := by
  obtain ⟨⟨writes, commits, reads, reqs, inq, held, waiting⟩, runs, rd, scrub⟩ := rest
  have tier : (rawWrite s a bs).tier = s.tier := rawWrite_field s a bs State.tier fun _ _ _ _ => rfl
  have sor : (rawWrite s a bs).sor = s.sor := rawWrite_field s a bs State.sor fun _ _ _ _ => rfl
  have cmd : (rawWrite s a bs).cmd = s.cmd := rawWrite_field s a bs State.cmd fun _ _ _ _ => rfl
  have recov := rawWrite_recov s a bs
  refine ⟨⟨by rwa [tier], by rwa [tier], by rwa [tier], by rwa [sor], by rwa [sor], by rwa [cmd], fun x hx => ?_⟩, ?_,
    by rwa [recov], by rwa [recov]⟩
  · obtain ⟨y, hy, eq⟩ := rawWrite_waiting s a bs x hx
    exact eq.trans (waiting y hy)
  · unfold NoCheckpointRuns
    rwa [cmd]

/-- A write of a place of the stacks that nothing holds up is made at once. -/
theorem devWrite_raw {w : Nat} {bs : List Byte} (low : rangePages s * 0x1_0000 ≤ hbmBase 0) (base : hbmBase 0 ≤ w)
    (fits : w + bs.length ≤ hbmBase 8) (filled : 0 < bs.length) (open_ : rawWaits s w bs.length = false) :
    devWrite s w bs = some (rawWrite s w bs) := by
  have past : ¬ w + bs.length ≤ rangePages s * 0x1_0000 := by omega
  have stack : hbmStack w = some ((w - 0x1000_0000_0000) / 0x14_0000_0000) := by
    unfold hbmBase at base fits
    exact if_pos (by omega)
  have waits : hbmWaitsAt s s.tier.arrivals ((w - 0x1000_0000_0000) / 0x14_0000_0000)
      (w - hbmBase ((w - 0x1000_0000_0000) / 0x14_0000_0000)) bs.length = false := by
    rw [rawWaits, rawSegs, if_neg past, stack] at open_
    simpa [hbmWaits] using open_
  rw [devWrite, devWriteAt]
  simp only [if_neg past, stack, if_pos fits, waits]
  rfl

/-! ## A rebuilt row -/

/-- The row of the rebuild `r` has been written into its spare slot at `w`, the rebuild is over and counted. -/
def spareFilled (s : State) (r : Rebuild) (w : Nat) : State :=
  let t := rawWrite s w (slotBytes r.acc (recordSize s r.key))
  bump { t with recov := { t.recov with
    spared := t.recov.spared ++ [(r.subject, r.key, r.parity)]
    rebuilds := t.recov.rebuilds.filter (fun x => !(x.subject = r.subject && x.key = r.key && x.parity = r.parity)) } } R.DEV_REC_REBUILT_CNT 1

theorem spareFilled_nothingResumes (rest : NothingResumes s) (r : Rebuild) (w : Nat) : NothingResumes (spareFilled s r w) :=
  rawWrite_nothingResumes (s := s) rest w _

/-- This device holds the free spare slot of the data row that `r` rebuilds: it lies at `w`. -/
structure SpareFree (s : State) (r : Rebuild) (w : Nat) : Prop where
  data : r.parity = false
  other : r.subject ≠ selfId s
  slot : ∃ g ms i, groupOf s r.subject = some (g, ms, i)
    ∧ (locate i r.key.row g).s = (ms.findIdx? (fun d => d = selfId s)).getD 0
    ∧ spareTaken s r.key.table r.key.rem (r.key.row / (g * (g + 1)), (locate i r.key.row g).h, (locate i r.key.row g).s) = false
    ∧ spareAddr s g r.key.table r.key.rem (locate i r.key.row g).spare = w

theorem SpareFree.congr {w : Nat} (h : SpareFree s r w) (places : SamePlaces s u) : SpareFree u r w := by
  obtain ⟨data, other, slot⟩ := h
  refine ⟨data, by rwa [places.selfId], ?_⟩
  simpa only [places.groupOf, places.selfId, places.spareTaken, places.spareAddr] using slot

/-- A rebuild whose spare slot is free writes its row there. -/
theorem finishRebuild_fills {w : Nat} (free : SpareFree s r w) (noShares : s.recov.shares = [])
    (write : devWrite s w (slotBytes r.acc (recordSize s r.key)) = some (rawWrite s w (slotBytes r.acc (recordSize s r.key)))) :
    finishRebuild s r = resumeAll (spareFilled s r w) := by
  obtain ⟨data, other, g, ms, i, group, holder, untaken, rfl⟩ := free
  have noShares' : (spareFilled s r (spareAddr s g r.key.table r.key.rem (locate i r.key.row g).spare)).recov.shares = [] := by
    simp only [spareFilled, bump_recov, rawWrite_recov, noShares]
  have quiet : runShares (spareFilled s r (spareAddr s g r.key.table r.key.rem (locate i r.key.row g).spare)) =
      spareFilled s r (spareAddr s g r.key.table r.key.rem (locate i r.key.row g).spare) := by
    rw [runShares, noShares']
    rfl
  refine Eq.trans ?_ (congrArg resumeAll quiet)
  rw [slotBytes] at write
  rw [holder] at untaken
  simp only [finishRebuild, if_neg other, group, data, holder, untaken, write, Bool.not_false, ne_eq, not_true, decide_false, Bool.and_false,
    Bool.or_false, Bool.false_eq_true, if_false, Option.getD_some]
  simp only [spareFilled, slotBytes, data]

/-! ## STOPPED -/

theorem exec_stopped (up : failed s = false) : exec (.stopped subject org k) s = .next (acceptStopped s subject org k) :=
  congrArg Host.Outcome.next (onData_of_up up)

section

variable (up : failed s = false)
  (found : s.recov.rebuilds.find? (fun r => r.asked.contains (org, subject, k) && !r.done && !r.stopped.contains (org, subject, k)) = some r)
  (received : ∀ d ∈ r.asked, d ∈ r.received)

/-- The state in which a STOPPED has been entered in its rebuild `r`. -/
def stopTaken (s : State) (r : Rebuild) (a : PieceAsk) : State :=
  modRebuild s r.subject r.key r.parity fun _ => { r with stopped := r.stopped ++ [a] }

include up found received

theorem stopped_next : exec (.stopped subject org k) s = .next
    (if r.asked.all ((r.stopped ++ [(org, subject, k)]).contains ·) then
      finishRebuild (stopTaken s r (org, subject, k)) { r with stopped := r.stopped ++ [(org, subject, k)] }
    else stopTaken s r (org, subject, k)) := by
  have asked : (org, subject, k) ∈ r.asked := by
    have := List.find?_some found
    simp only [Bool.and_eq_true, List.contains_iff_mem] at this
    exact this.1.1
  have got : r.received.contains (org, subject, k) = true := List.contains_iff_mem.mpr (received _ asked)
  have all : r.asked.all (r.received.contains ·) = true := by simpa using received
  rw [exec_stopped up, acceptStopped]
  simp only [found, got, all]
  rfl

theorem stopped_counted (missing : ∃ d ∈ r.asked, d ∉ r.stopped ++ [(org, subject, k)]) :
    Completes (.stopped subject org k) s (fun t =>
      findRebuild t r.subject r.key r.parity = some { r with stopped := r.stopped ++ [(org, subject, k)] } ∧ t = { s with recov := t.recov }) := by
  refine ⟨_, stopped_next up found received, ?_⟩
  rw [if_neg (by simpa using missing)]
  exact ⟨findRebuild_modRebuild (List.mem_of_find?_eq_some found) rfl rfl rfl, rfl⟩

theorem stopped_fills {w : Nat} (all : ∀ d ∈ r.asked, d ∈ r.stopped ++ [(org, subject, k)]) (free : SpareFree s r w)
    (noShares : s.recov.shares = []) (rest : NothingResumes s) (low : rangePages s * 0x1_0000 ≤ hbmBase 0) (base : hbmBase 0 ≤ w)
    (fits : w + recordSize s r.key ≤ hbmBase 8) (filled : 0 < recordSize s r.key) (open_ : rawWaits s w (recordSize s r.key) = false) :
    Completes (.stopped subject org k) s (fun t =>
      bytesAt t w (recordSize s r.key) = slotBytes r.acc (recordSize s r.key) ∧ MemSameOutside w (recordSize s r.key) s t
      ∧ ((reg s R.DEV_REC_REBUILT_CNT).toNat + 1 < 2 ^ 64 → (reg t R.DEV_REC_REBUILT_CNT).toNat = (reg s R.DEV_REC_REBUILT_CNT).toNat + 1)
      ∧ (r.subject, r.key, false) ∈ t.recov.spared) := by
  refine ⟨_, stopped_next up found received, ?_⟩
  rw [if_pos (by simpa using all)]
  have places : SamePlaces s (stopTaken s r (org, subject, k)) := modRebuild_places _ _ _ _ _
  have size : recordSize (stopTaken s r (org, subject, k)) r.key = recordSize s r.key := places.recordSize _
  have len : (slotBytes r.acc (recordSize s r.key)).length = recordSize s r.key := length_slotBytes _ _
  have write : devWrite (stopTaken s r (org, subject, k)) w (slotBytes r.acc (recordSize s r.key)) =
      some (rawWrite (stopTaken s r (org, subject, k)) w (slotBytes r.acc (recordSize s r.key))) := by
    refine devWrite_raw low base (by rwa [len]) (by rwa [len]) ?_
    rw [len]
    exact (rawWaits_congr (t := stopTaken s r (org, subject, k)) (s := s) rfl rfl rfl rfl (fun _ _ => rfl) _ _).trans open_
  rw [finishRebuild_fills (s := stopTaken s r (org, subject, k)) (r := { r with stopped := r.stopped ++ [(org, subject, k)] }) (w := w) ?_
    noShares (by rwa [size])]
  · have rested := resumeAll_rested (spareFilled_nothingResumes (s := stopTaken s r (org, subject, k)) rest
      { r with stopped := r.stopped ++ [(org, subject, k)] } w)
    have mem : (resumeAll (spareFilled (stopTaken s r (org, subject, k)) { r with stopped := r.stopped ++ [(org, subject, k)] } w)).mem =
        (setBytes s w (slotBytes r.acc (recordSize s r.key))).mem := by
      rw [rested.mem]
      exact (congrArg (fun n => (rawWrite (stopTaken s r (org, subject, k)) w (slotBytes r.acc n)).mem) size).trans (rawWrite_mem _ _ _)
    refine ⟨?_, ?_, fun room => ?_, ?_⟩
    · exact (congrArg (bytesAt _ w) len.symm).trans (bytesAt_of_mem mem)
    · have outside := memSameOutside_of_mem mem
      rwa [len] at outside
    · have kept : ∀ bs, reg (rawWrite (stopTaken s r (org, subject, k)) w bs) R.DEV_REC_REBUILT_CNT = reg s R.DEV_REC_REBUILT_CNT :=
        fun bs => rawWrite_reg _ w bs (by decide)
      rw [rested.reg _ (by decide), spareFilled]
      refine (toNat_reg_bump ?_).trans ?_
      · exact (congrArg (fun x : BitVec 64 => x.toNat + 1 < 2 ^ 64) (kept _)).mpr room
      · exact congrArg (fun x : BitVec 64 => x.toNat + 1) (kept _)
    · rw [rested.recov]
      simp [spareFilled, free.data]
  · obtain ⟨data, other, slot⟩ := free.congr places
    exact ⟨data, other, slot⟩

end

end Sys2Proof.Laws
end

section
/-! SUPPORT. MEM_WR: a peer's write into the tiered range (R489, R513). -/

namespace Sys2Proof.Laws

set_option Elab.async false

open Sys2Proof.Machine

variable {s : State}

/-! ## What an access of a page leaves as it was -/

theorem queuePromotion_same (s : State) (p heat : Nat) :
    (queuePromotion s p heat).mem = s.mem ∧ (queuePromotion s p heat).recov = s.recov := by
  unfold queuePromotion
  split
  · exact ⟨rfl, rfl⟩
  · split
    · exact ⟨rfl, rfl⟩
    · split
      · exact ⟨rfl, rfl⟩
      · split
        · exact ⟨rfl, rfl⟩
        · exact ⟨rfl, rfl⟩

/-- An access of a page changes its page-table entry at most. -/
theorem touch_same (s : State) (p : Nat) : MemSameOutside (pteAddr p) 8 s (touch s p) ∧ (touch s p).recov = s.recov := by
  unfold touch
  extract_lets e₀ ep heat e s₁ tier s₂ tier₂ s₃
  have entry : MemSameOutside (pteAddr p) 8 s s₂ := by
    have outside := memSameOutside_of_mem (s := s) (t := s₂) (a := pteAddr p) (bs := leBytes 8 e) rfl
    rwa [leBytes_length] at outside
  have same₃ : s₃.mem = s₂.mem ∧ s₃.recov = s.recov := by
    unfold s₃
    split
    · exact ⟨rfl, rfl⟩
    · exact ⟨rfl, rfl⟩
  split
  · exact ⟨fun _ _ => rfl, rfl⟩
  · split
    · exact ⟨entry, rfl⟩
    · split
      · obtain ⟨mem, recov⟩ := queuePromotion_same s₃ p heat
        exact ⟨fun a ha => by rw [byteAt, mem, same₃.1]; exact entry a ha, recov.trans same₃.2⟩
      · exact ⟨fun a ha => by rw [byteAt, same₃.1]; exact entry a ha, same₃.2⟩

theorem countPlaceWrite_mem (s : State) (pl : Place) (n : Nat) : (countPlaceWrite s pl n).mem = s.mem := by
  cases pl with
  | t1 => rfl
  | t2 => rfl

theorem placeWrite_mem (s : State) (pl : Place) (off : Nat) (bs : List Byte) :
    (placeWrite s pl off bs).mem = (setBytes s (placeKey pl + off) bs).mem := by
  cases pl with
  | t1 k f =>
    obtain ⟨l, hl, -⟩ := hbmSet_eq s (hbmBase k + f * 0x1_0000 + off) bs
    refine (countPlaceWrite_mem ..).trans ?_
    rw [hl]
    rfl
  | t2 k f => exact countPlaceWrite_mem ..

theorem pagePut_mem {p off : Nat} {bs : List Byte} {pl : Place} (place : ptePlace (pte s p) = some pl) :
    (pagePut s p off bs).mem = (setBytes s (placeKey pl + off) bs).mem := by
  rw [pagePut, place]
  exact placeWrite_mem s pl off bs

/-! ## A write within one page -/

/-- Bytes within one page are one segment. -/
theorem pageSegs_within {a n : Nat} (pos : 0 < n) (within : a % 0x1_0000 + n ≤ 0x1_0000) :
    pageSegs a n = [(a / 0x1_0000, a % 0x1_0000, n)] := by
  have one : (a + n - 1) / 0x1_0000 - a / 0x1_0000 + 1 = 1 := by omega
  have lo : max a (a / 0x1_0000 * 0x1_0000) - a / 0x1_0000 * 0x1_0000 = a % 0x1_0000 := by omega
  have len : min (a + n) ((a / 0x1_0000 + 1) * 0x1_0000) - max a (a / 0x1_0000 * 0x1_0000) = n := by omega
  rw [pageSegs, if_neg (by omega), one]
  simp [lo, len]

theorem partSegs_within {a : Nat} {bs : List Byte} (filled : bs ≠ []) (within : a % 0x1_0000 + bs.length ≤ 0x1_0000) :
    partSegs [(a, bs)] = [(a / 0x1_0000, a % 0x1_0000, bs)] := by
  have start : a / 0x1_0000 * 0x1_0000 + a % 0x1_0000 - a = 0 := by omega
  simp [partSegs, pageSegs_within (List.length_pos_iff.mpr filled) within, start]

theorem pteTier_of_place {e : Nat} {pl : Place} (place : ptePlace e = some pl) : pteTier e = 1 ∨ pteTier e = 2 := by
  unfold ptePlace at place
  split at place
  · next h => exact .inl h
  · next h => exact .inr h
  · cases place

section

variable {addr : Nat} {bs : List Byte} {pl : Place} (filled : bs ≠ []) (within : addr % 0x1_0000 + bs.length ≤ 0x1_0000)
  (place : ptePlace (pte s (addr / 0x1_0000)) = some pl)
  (free : holdingMig s ⟨[(addr, bs)], s.tier.arrivals⟩ [addr / 0x1_0000] = none) (noWrites : s.tier.waitWrites = [])
  (noReads : s.tier.waitReads = []) (open_ : readWaits s addr bs.length = false)

include filled within place

theorem placeOpen (open_ : readWaits s addr bs.length = false) : placeWaitsAt s s.tier.arrivals (addr % 0x1_0000) bs.length pl = false := by
  rw [readWaits, readWaitsAt, pageSegs_within (List.length_pos_iff.mpr filled) within] at open_
  simpa [place] using open_

include free noWrites noReads open_

/-- A write within a backed page that nothing holds up is made at the page's place. -/
theorem tierWrite_placed : tierWrite s addr bs = touch (pagePut s (addr / 0x1_0000) (addr % 0x1_0000) bs) (addr / 0x1_0000) := by
  have waits := placeOpen filled within place open_
  have backed : pteTier (pte s (addr / 0x1_0000)) ≠ 0 ∧ pteTier (pte s (addr / 0x1_0000)) ≠ 3 := by
    have := pteTier_of_place place
    omega
  have target : writePlace s (addr / 0x1_0000) = some pl := by rw [writePlace, if_neg backed.1, place]
  have pages : ([(addr / 0x1_0000, addr % 0x1_0000, bs)].map (·.1)).eraseDups = [addr / 0x1_0000] := by simp [List.eraseDups_cons]
  have back : backPages s [addr / 0x1_0000] = some s := by simp [backPages, backed.1]
  rw [tierWrite, if_neg (by simpa using filled), tierPut, tierPutAs]
  simp only [partSegs_within filled within, pages, free, back]
  rw [if_neg (by simp [backed.2, noWrites, noReads, target, waits])]
  rfl

theorem tierWrite_bytes (apart : pteAddr (addr / 0x1_0000) + 8 ≤ placeKey pl + addr % 0x1_0000 ∨
      placeKey pl + addr % 0x1_0000 + bs.length ≤ pteAddr (addr / 0x1_0000)) :
    bytesAt (tierWrite s addr bs) (placeKey pl + addr % 0x1_0000) bs.length = bs
    ∧ ∀ q, (q < placeKey pl + addr % 0x1_0000 ∨ placeKey pl + addr % 0x1_0000 + bs.length ≤ q) →
        (q < pteAddr (addr / 0x1_0000) ∨ pteAddr (addr / 0x1_0000) + 8 ≤ q) → byteAt (tierWrite s addr bs) q = byteAt s q := by
  rw [tierWrite_placed filled within place free noWrites noReads open_]
  have put := pagePut_mem (off := addr % 0x1_0000) (bs := bs) place
  obtain ⟨entry, -⟩ := touch_same (pagePut s (addr / 0x1_0000) (addr % 0x1_0000) bs) (addr / 0x1_0000)
  refine ⟨?_, fun q out outE => (entry q outE).trans (memSameOutside_of_mem put q out)⟩
  refine Eq.trans ?_ (bytesAt_of_mem put)
  refine List.map_congr_left fun i hi => entry _ ?_
  rw [List.mem_range] at hi
  omega

/-- A peer's write into a backed page outside the groups' rows is stored there. -/
theorem memWr_stores {h : Hdr} (up : failed s = false) (tiered : tieredRange s addr bs.length = true) (alone : groupOf s (selfId s) = none)
    (apart : pteAddr (addr / 0x1_0000) + 8 ≤ placeKey pl + addr % 0x1_0000 ∨
      placeKey pl + addr % 0x1_0000 + bs.length ≤ pteAddr (addr / 0x1_0000)) :
    Completes (.memWr h addr bs) s (fun t => ∃ u, t = settle u ∧ bytesAt u (placeKey pl + addr % 0x1_0000) bs.length = bs
      ∧ ∀ q, (q < placeKey pl + addr % 0x1_0000 ∨ placeKey pl + addr % 0x1_0000 + bs.length ≤ q) →
        (q < pteAddr (addr / 0x1_0000) ∨ pteAddr (addr / 0x1_0000) + 8 ≤ q) → byteAt u q = byteAt s q) := by
  have commits : commitWrite s addr bs = tierWrite s addr bs := by simp [commitWrite, tierCommit, alone]
  refine ⟨settle (tierWrite s addr bs), congrArg Host.Outcome.next ((onData_of_up up).trans ?_), _, rfl,
    tierWrite_bytes filled within place free noWrites noReads open_ apart⟩
  rw [if_pos tiered, commits]

end

theorem exec_memWr_refused {h : Hdr} {addr : Nat} {bs : List Byte} (up : failed s = false) (past : tieredRange s addr bs.length = false) :
    exec (.memWr h addr bs) s = .next (refuseWrite s h addr) :=
  congrArg Host.Outcome.next ((onData_of_up up).trans (if_neg (by simp [past])))

end Sys2Proof.Laws
end

section
/-! SUPPORT. MEM_RD: a peer's read (R46, R489, R491). -/

namespace Sys2Proof.Laws

set_option Elab.async false

open Sys2Proof.Machine

variable {s : State} {h : Hdr} {addr len : Nat}

/-! ## Which devices are lost is known to a read as to its answer -/

theorem isLost_of_recov {t : State} (recov : t.recov = s.recov) (d : Nat) : isLost t d = isLost s d := by rw [isLost, recov, isLost]

theorem placeRead_recov (s : State) (pl : Place) (off n : Nat) : (placeRead s pl off n).recov = s.recov := by
  cases pl with
  | t1 => rfl
  | t2 => rfl

theorem readAccess_recov (s : State) (a n : Nat) : (readAccess s a n).recov = s.recov := by
  unfold readAccess
  generalize pageSegs a n = gs
  induction gs generalizing s with
  | nil => rfl
  | cons g gs ih =>
    refine (ih _).trans ?_
    dsimp only
    split
    · exact (touch_same _ _).2.trans (placeRead_recov ..)
    · exact (touch_same _ _).2

theorem violation_recov (source requester : Nat) (write : Bool) (cause : Nat) :
    (violation s source addr requester write cause).recov = s.recov := ((Sent.refl _).evgFireIf (by decide)).recov

/-- An answer to a device that is not lost leaves. -/
theorem memCpl_mem_sendMsg {t : State} (recov : t.recov = s.recov) (alive : isLost s h.src = false) (status : Nat) (bs : List Byte) :
    .message h.src (.memCpl addr status h.msgSeq bs) ∈ (sendMsg t h.src (.memCpl addr status h.msgSeq bs)).out :=
  message_mem_sendFrom (by rw [isLost_of_recov recov, alive]; rfl)

/-! ## The four ends of a read -/

section

variable (up : failed s = false)

include up

theorem memRd_badLength (bad : len = 0 ∨ 1048576 < len) :
    Completes (.memRd h addr len) s (fun t => MemSame s t ∧ t.recov = s.recov ∧ t.tier = s.tier) := by
  have sent : Sent s (sendError s 4 h) := (Sent.refl s).sendError
  refine ⟨_, congrArg Host.Outcome.next ((onData_of_up up).trans (if_pos bad)), memSame_of_mem sent.mem, sent.recov, sent.tier⟩

variable (pos : 0 < len) (max : len ≤ 1048576)

include pos max

theorem exec_memRd_tiered (tiered : tieredRange s addr len = true) :
    exec (.memRd h addr len) s = .next (newRead s (some h) addr len) :=
  congrArg Host.Outcome.next ((onData_of_up up).trans ((if_neg (by omega)).trans (if_pos tiered)))

theorem memRd_waits (tiered : tieredRange s addr len = true) (waits : readWaits s addr len = true) :
    exec (.memRd h addr len) s = .next (waitRead s ⟨some h, addr, len, s.tier.arrivals⟩) := by
  have range : addr + len ≤ rangePages s * 0x1_0000 := of_decide_eq_true tiered
  have late : readWaitsAt s s.tier.arrivals addr len = true := waits
  rw [exec_memRd_tiered up pos max tiered, newRead, takeRead, serveRead, if_pos range, serveTiered]
  simp only [late]
  rfl

theorem memRd_reads (tiered : tieredRange s addr len = true) (open_ : readWaits s addr len = false) (whole : anyLost s addr len = false)
    (clean : NoMemoryErrors s) (alive : isLost s h.src = false) :
    Completes (.memRd h addr len) s (fun t => .message h.src (.memCpl addr 0 h.msgSeq (tierRead s addr len)) ∈ t.out) := by
  have range : addr + len ≤ rangePages s * 0x1_0000 := of_decide_eq_true tiered
  have soon : readWaitsAt s s.tier.arrivals addr len = false := open_
  have bytes : tieredBytes s addr len = some (tierRead s addr len) := by
    simp [tieredBytes, readCuts, whole, pieceBytes]
  have serves : serveRead s ⟨some h, addr, len, s.tier.arrivals⟩ =
      (sendMsg (readAccess s addr len) h.src (.memCpl addr 0 h.msgSeq (tierRead s addr len)), false) := by
    rw [serveRead, if_pos range, serveTiered]
    simp only [soon, meetAt_of_clean clean, bytes]
    rfl
  refine ⟨_, exec_memRd_tiered up pos max tiered, ?_⟩
  rw [newRead, takeRead, serves]
  exact memCpl_mem_sendMsg (readAccess_recov s addr len) alive 0 _

variable (past : tieredRange s addr len = false)

include past

theorem memRd_image (image : imageSlotRange s addr len = true) (alive : isLost s h.src = false) :
    Completes (.memRd h addr len) s (fun t => .message h.src (.memCpl addr 0 h.msgSeq (bytesAt s addr len)) ∈ t.out ∧ MemSame s t) :=
  ⟨_, congrArg Host.Outcome.next ((onData_of_up up).trans ((if_neg (by omega)).trans ((if_neg (by simp [past])).trans (if_pos image)))),
    memCpl_mem_sendMsg rfl alive 0 _, (Sent.refl s).sendMsg.memSame⟩

theorem memRd_refused (image : imageSlotRange s addr len = false) (alive : isLost s h.src = false) :
    Completes (.memRd h addr len) s (fun t => .message h.src (.memCpl addr 1 h.msgSeq []) ∈ t.out
      ∧ ((reg s R.HST_VIOL_CNT).toNat + 1 < 2 ^ 64 → (reg t R.HST_VIOL_CNT).toNat = (reg s R.HST_VIOL_CNT).toNat + 1) ∧ MemSame s t) := by
  refine ⟨_, congrArg Host.Outcome.next ((onData_of_up up).trans ((if_neg (by omega)).trans ((if_neg (by simp [past])).trans
    (if_neg (by simp [image]))))), memCpl_mem_sendMsg (violation_recov 2 h.src false 8) alive 1 [], fun room => ?_, ?_⟩
  · exact (congrArg BitVec.toNat ((Sent.refl _).sendMsg.reg _ (Sent.not_sendReg_low (by decide)))).trans
      (violation_count 2 addr h.src false 8 room)
  · exact memSame_of_mem ((Sent.refl _).sendMsg.mem.trans (violation_mem ..))

end

end Sys2Proof.Laws
end

section
/-! CERTIFICATES. Rebuild traffic and the accesses of peers to this device's memory (R45, R46, R488 to R491, R506, R521 to R526). -/

namespace Sys2Proof.Laws

set_option Elab.async false

open Sys2Proof.Machine

variable {s : State} {subject origin : Nat} {k : SlotKey}

/-- A PIECE_RD served from a slot at `a` is answered with FWD copies, or waits while the slot serves no access. -/
theorem pieceRd_slot (up : failed s = false) {a n : Nat} {f : Forward}
    (serves : rawWaits s a n = false → NoMemoryErrors s → servePiece s origin subject k = addForward (slotSent s subject origin k a n) f)
    (waits : rawWaits s a n = true → servePiece s origin subject k = waitRd s origin subject k) :
    (rawWaits s a n = false → NoMemoryErrors s → Completes (.pieceRd subject origin k) s (fun t =>
      .message origin (.piece subject (selfId s) k (bytesAt s a n)) ∈ t.out ∧ f ∈ t.recov.forwards ∧ MemSame s t))
    ∧ (rawWaits s a n = true → exec (.pieceRd subject origin k) s = .next (waitRd s origin subject k)) :=
  ⟨fun open_ clean => completes_slotSent clean ((exec_pieceRd up).trans (congrArg _ (serves open_ clean))),
    fun late => (exec_pieceRd up).trans (congrArg _ (waits late))⟩

/-- A PIECE_RD whose answer is one message and nothing else. -/
theorem pieceRd_answers (up : failed s = false) {m : Message} (rec : msgIsRecovery m = true)
    (serves : servePiece s origin subject k = sendMsg s origin m) :
    Completes (.pieceRd subject origin k) s (fun t => .message origin m ∈ t.out ∧ t.recov = s.recov ∧ MemSame s t) := by
  have sent : Sent s (sendMsg s origin m) := (Sent.refl s).sendMsg
  exact ⟨_, (exec_pieceRd up).trans (congrArg _ serves), message_mem_sendMsg rec, sent.recov, sent.memSame⟩

/-- The rebuilds that take a delta take it, the others stay. -/
theorem fwd_each {org : Nat} {d : SorediumRec} (up : failed s = false)
    (takes : ∃ r ∈ s.recov.rebuilds, takesDelta (org, subject, ⟨d.table, d.rem, d.row⟩) r = true) :
    Completes (.fwd subject org d) s (fun t => t = { s with recov := t.recov }
      ∧ ∀ r ∈ s.recov.rebuilds,
        (takesDelta (org, subject, ⟨d.table, d.rem, d.row⟩) r = true → { r with acc := xorBytes r.acc d.delta } ∈ t.recov.rebuilds)
        ∧ (¬ takesDelta (org, subject, ⟨d.table, d.rem, d.row⟩) r = true → r ∈ t.recov.rebuilds)) := by
  obtain ⟨t, next, same, rebuilds⟩ := fwd_rebuild up takes
  refine ⟨t, next, same, fun r hr => ?_⟩
  rw [rebuilds]
  exact ⟨fun mine => List.mem_map.mpr ⟨r, hr, if_pos mine⟩, fun other => List.mem_map.mpr ⟨r, hr, if_neg other⟩⟩

/-- A MEM_CPL of status OK joins the fetch it answers. -/
theorem memCpl_joins {h : Hdr} {addr seq : Nat} {bs : List Byte} {l : LoadRun} (up : failed s = false) (runs : s.thl.load = some l)
    (peer : addrKind l.src = 2) (from_ : addrVal l.src / 2 ^ 48 = h.src) (lo : addrVal l.src % 2 ^ 48 ≤ addr)
    (hi : addr < addrVal l.src % 2 ^ 48 + loadNeed l.len) :
    Completes (.memCpl h addr 0 seq bs) s (fun t => t = { s with thl := t.thl }
      ∧ t.thl.load = some { l with got := (addr - addrVal l.src % 2 ^ 48, bs) :: l.got }) :=
  ⟨_, (exec_memCpl up).trans (congrArg _ (loadData_of_load runs peer from_ lo hi)), rfl, rfl⟩

/-- Settles O41: each message of a rebuild is answered as `servePiece`, `acceptPiece` and their like answer it, and a peer's access reaches
the bytes its range allows. -/
theorem piecesRebuildAndPeersReachMemory : Obligations.PiecesRebuildAndPeersReachMemory := by
  unfold Obligations.PiecesRebuildAndPeersReachMemory
  intro s up me counted
  refine ⟨?pieceRd, ?piece, ?fwd, ?stop, ?stopped, ?done, ?scrub, ?scrubPiece, ?memWr, ?memRd, ?storeWr, ?memCpl⟩
  case pieceRd =>
    intro subject origin k g i ms group n sends
    refine ⟨fun x role => ?_, fun h q x role spared => ?_, fun role spared other => ?_, fun own l role => ⟨fun absent => ?_, ?_, ?_⟩⟩
    · have serve := servePiece_parity group role
      exact pieceRd_slot up (fun open_ _ => serve.trans (if_neg (by simp [n, open_]))) fun late => serve.trans (if_pos late)
    · have serve := servePiece_standIn group role spared
      exact pieceRd_slot up (fun open_ _ => serve.trans (if_neg (by simp [n, open_]))) fun late => serve.trans (if_pos late)
    · exact pieceRd_slot up (fun open_ clean => servePiece_target clean group role spared other open_) (servePiece_target_waits group role spared)
    · exact pieceRd_answers up rfl (servePiece_noRow role absent)
    · exact fun there other lost => pieceRd_answers up rfl (servePiece_lost role there other lost)
    · refine fun there mine here => ⟨fun u bs read => pieceRd_row up role there mine here read, fun u read => ?_⟩
      rw [exec_pieceRd up, servePiece_row role there mine here, read]
      rfl
  case piece =>
    intro subject org k bs r a found own r'
    exact ⟨piece_counted up found own, piece_parity up found own, fun p ds par all pieces => piece_data up found own par all pieces⟩
  case fwd =>
    intro subject org d a mine
    refine ⟨fun takes => ?_, fun others noRewrite => ?_⟩
    · simpa only [takesDelta_iff] using fwd_each up (by simpa only [takesDelta_iff] using takes)
    · have untaken : ∀ r ∈ s.recov.rebuilds, ¬ takesDelta a r = true := by simpa only [takesDelta_iff] using others
      refine ⟨fwd_nothing up untaken noRewrite, ?_⟩
      intro g ms i group spared server clean w open_
      exact fwd_deputy up untaken noRewrite group spared server clean open_
  case stop => exact fun subject origin k => stop_completes up
  case stopped =>
    intro subject org k r a found received
    refine ⟨stopped_counted up found received, ?_⟩
    intro g ms i all data other group holder untaken noShares rest w n low base fits filled open_ _
    exact stopped_fills up found received all ⟨data, other, g, ms, i, group, holder, untaken, rfl⟩ noShares rest low base fits filled open_
  case done => exact fun subject origin epoch => ⟨done_known up, done_completes up⟩
  case scrub =>
    intro table slot rem
    exact ⟨parityScrub_idle up, fun v asks on rests newest alias_ hasks nonempty holds =>
      parityScrub_begins up on rests newest alias_ hasks nonempty holds⟩
  case scrubPiece =>
    intro subject org k bs c w a noRebuild noRewrite runs asked fresh all held place clean n want open_
    exact scrub_completes up noRebuild noRewrite runs asked fresh all held place clean open_
  case memWr =>
    intro h addr bs
    refine ⟨?_, fun past => refuseWrite_completes (exec_memWr_refused up past)⟩
    intro pl tiered alone filled within place free noWrites noReads open_ a e apart
    exact memWr_stores filled within place free noWrites noReads open_ up tiered alone apart
  case memRd =>
    intro h addr len _ alive
    refine ⟨memRd_badLength up, fun pos max tiered => ⟨fun open_ whole clean => ?_, memRd_waits up pos max tiered⟩, ?_, ?_⟩
    · exact memRd_reads up pos max tiered open_ whole clean alive
    · exact fun pos max past image => memRd_image up pos max past image alive
    · exact fun pos max past image => memRd_refused up pos max past image alive
  case storeWr =>
    intro h offset frond stride rowBytes rows done bs pos len apart
    refine ⟨?_, fun far => refuseWrite_completes (exec_storeWr_refused up far)⟩
    exact fun near other known fronds fits low => storeWr_completes up len pos apart near other known fronds fits low
  case memCpl =>
    intro h addr seq bs
    refine ⟨fun idle status => (exec_memCpl up).trans (congrArg _ (loadData_none idle)), fun l runs peer from_ lo hi => ?_⟩
    refine ⟨memCpl_joins up runs peer from_ lo hi, fun status bad => ?_⟩
    rw [exec_memCpl up, loadData_of_load runs peer from_ lo hi, if_pos bad]

end Sys2Proof.Laws
end

section
/-! CERTIFICATES. A pass of a product whose B lies, row by row, far past the frond's store: the weights of the next pass then load from the
accumulators that the pass has just written (R106, R111, R123, R131). The loader rejects such a descriptor (R133); the statement asks of the
image in the slot only that it holds the product. -/

namespace Sys2Proof.Laws

open Sys2Proof.Machine

/-- A product of 1 x 1 elements in BF16, CLEAR and drain STORE_PAIR, with K = 15 * 2^24 + 1 and B rows 2^21 bytes apart from store offset 2: row
15 * 2^24 of B is where the model keeps bytes 2 and 3 of element (0, 0) of slot 0. -/
def farProduct : List Byte :=
  leBytes 2 1 ++ leBytes 2 1 ++ leBytes 4 0xF000001 ++ [3, 3, 0, 0] ++ leBytes 2 0x80 ++ leBytes 2 0 ++ leBytes 4 0 ++ leBytes 4 2 ++ leBytes 4 0
    ++ leBytes 8 0 ++ leBytes 2 1 ++ leBytes 2 0x8000 ++ leBytes 2 1 ++ List.replicate 22 0

/-- The op of that product in the list of frond 0. -/
def farOp : PlanOp := { idx := 0, kind := 1, cls := 0, flags := 0, waits := [0, 0, 0], done := 0, body := 0x28 }

/-- An image of one section, a FROND_PLAN that gives frond 0 the product alone. -/
def farImage : List Byte :=
  List.replicate 12 0 ++ leBytes 2 1 ++ List.replicate 18 0 ++ leBytes 4 0x24
    ++ leBytes 4 1 ++ leBytes 4 0x34 ++ leBytes 4 0x68 ++ leBytes 4 0
    ++ List.replicate 16 0 ++ leBytes 4 0x18 ++ leBytes 4 1
    ++ leBytes 4 1 ++ List.replicate 8 0 ++ leBytes 2 64 ++ leBytes 2 0 ++ farProduct

/-- Frond 0 with the product in slot 0 after pass 1966078: the weight that pass 1966079 takes is 1, and so is its element of A, which the
crozier holds; every accumulator is 0. -/
def farFrond : FrondState :=
  { array := some 0, slots := [{ op := some 0, passes := 1966079 }, {}], shadow := [[(0x3F80, 0)]], crozier := [⟨0, false, [[0x3F80]]⟩] }

/-- The image is active in slot 0 of the loader, the frond's slot 0 is FILLING. -/
def farState : State :=
  setSlotState { regs := [(R.THL_STATUS, 1)], mem := putBytes [] 0x109FC0000000 farImage, seq := { fronds := farFrond :: List.replicate 31 {} } } 0 0 1

theorem farState_product : productAt farState 0 0 = some (farOp, farProduct) := by decide +kernel

theorem exec_pass_noErr (f : Nat) (s : State) : exec (.pass f .none) s = .next (runPass s f) := rfl

/-- Before the pass, the row of B for the pass after it reads 0. -/
theorem farState_nextTile : weightTile farState 0 farProduct 1966080 = [[(0, 0)]] := by decide +kernel

/-- The pass leaves 1 in the element, and the row then reads the upper half of its FP32 bits. -/
theorem farState_loads : (frondOf (runPass farState 0) 0).shadow = [[(0x3F80, 0)]] := by decide +kernel

/-- Refutes O19: the descriptor may put a row of B past the end of the store, where the slot's elements are kept, and then a pass changes the
weights that load for the next one: they are not those of the state before the pass. -/
theorem not_passesAccumulate : ¬ Obligations.PassesAccumulate := by
  unfold Obligations.PassesAccumulate
  intro h
  obtain ⟨t, next, -, -, loaded, -⟩ := h farState 0 0 0 farOp farProduct (by decide) (by decide) rfl rfl rfl rfl farState_product rfl
    (by decide +kernel) (by decide +kernel) (by decide +kernel) (by decide +kernel) (fun first => absurd first (by decide))
    (fun _ => by decide +kernel) (by decide +kernel)
  rw [exec_pass_noErr] at next
  rw [← Host.Outcome.next.inj next, farState_loads] at loaded
  exact absurd (loaded.trans farState_nextTile) (by decide)

end Sys2Proof.Laws
end

section
/-! SUPPORT. What flags, counts, events and scale records leave unchanged: memory, the sequencer and every other block (R177, R434, R438,
R603 to R613). -/

namespace Sys2Proof.Laws

set_option Elab.async false

open Sys2Proof.Machine

/-- From `s₀` to `s` at most registers, counts, events, outputs, scale records and free values have changed. -/
structure Reported (s₀ s : State) : Prop where
  same : s = { s₀ with regs := s.regs, evg := s.evg, cnt := s.cnt, out := s.out, scl := s.scl, free := s.free }

namespace Reported

variable {s₀ s t : State}

protected theorem refl (s : State) : Reported s s := ⟨rfl⟩

protected theorem trans (hs : Reported s₀ s) (ht : Reported s t) : Reported s₀ t where
  same := by
    have first := hs.same
    have second := ht.same
    generalize s.regs = r, s.evg = e, s.cnt = c, s.out = o, s.scl = x, s.free = n at first
    subst first
    exact second

/-- A change of those parts alone. -/
theorem put (hs : Reported s₀ s)
    (same : t = { s with regs := t.regs, evg := t.evg, cnt := t.cnt, out := t.out, scl := t.scl, free := t.free } := by rfl) : Reported s₀ t :=
  hs.trans ⟨same⟩

/-- What is none of those parts is as before. -/
theorem field {B : Type} (hs : Reported s₀ s) (f : State → B)
    (hf : ∀ r e c o x n, f { s₀ with regs := r, evg := e, cnt := c, out := o, scl := x, free := n } = f s₀ := by intros; rfl) : f s = f s₀ := by
  rw [hs.same]
  exact hf _ _ _ _ _ _

theorem mem (hs : Reported s₀ s) : s.mem = s₀.mem := hs.field State.mem
theorem seq (hs : Reported s₀ s) : s.seq = s₀.seq := hs.field State.seq

protected theorem ite {c : Prop} {d : Decidable c} (hs : Reported s₀ s) (ht : Reported s₀ t) : Reported s₀ (if c then s else t) := by
  split
  · exact hs
  · exact ht

protected theorem forEach {A : Type} {f : State → A → State} {xs : List A} (hs : Reported s₀ s)
    (hf : ∀ s a, Reported s₀ s → Reported s₀ (f s a)) : Reported s₀ (forEach f s xs) := by
  induction xs generalizing s with
  | nil => exact hs
  | cons x xs ih => exact ih (hf s x hs)

protected theorem wf {r x : Nat} {f : Field} (hs : Reported s₀ s) : Reported s₀ (wf s r f x) := hs.put
protected theorem bump {r n : Nat} (hs : Reported s₀ s) : Reported s₀ (bump s r n) := hs.put
protected theorem cntAdd {w n : Nat} (hs : Reported s₀ s) : Reported s₀ (cntAdd s w n) := hs.put
protected theorem emit {o : Out} (hs : Reported s₀ s) : Reported s₀ (emit s o) := hs.put
protected theorem takeFree {w : Nat} (hs : Reported s₀ s) : Reported s₀ (takeFree w s).2 := hs.put

protected theorem evgRoute {src : Nat} (hs : Reported s₀ s) : Reported s₀ (evgRoute s src) := by
  unfold evgRoute
  split
  · exact hs.wf
  · exact hs.put

protected theorem evgSend {n p : Nat} (hs : Reported s₀ s) : Reported s₀ (evgSend s n p) := by
  unfold evgSend
  extract_lets s₁ _ s₂ s₃
  have hs₁ : Reported s₀ s₁ := hs.wf
  have hs₂ : Reported s₀ s₂ := hs₁.put
  have hs₃ : Reported s₀ s₃ := hs₂.bump
  exact .ite hs₃.emit (.ite hs₃.put hs₃.emit)

protected theorem evgNotifyAs {new : Bool} {n : Nat} (hs : Reported s₀ s) : Reported s₀ (evgNotifyAs new s n) := by
  unfold evgNotifyAs
  split
  · exact hs
  · exact .ite hs (.ite hs.evgSend (.ite hs hs.put))

protected theorem evgSettle (hs : Reported s₀ s) : Reported s₀ (evgSettle s) :=
  .forEach (hs.forEach fun _ _ h => .ite h h.evgRoute) fun _ _ h => h.evgNotifyAs

protected theorem evgMark {src : Nat} (hs : Reported s₀ s) : Reported s₀ (evgMark s src).1 := by
  unfold evgMark
  split
  · exact hs
  · extract_lets s₁ s₂
    have hs₁ : Reported s₀ s₁ := hs.wf
    have hs₂ : Reported s₀ s₂ := .ite hs₁ hs₁.evgRoute
    dsimp only
    exact hs₂.evgSettle

protected theorem tracePush {kind unit arg0 arg1 : Nat} (hs : Reported s₀ s) : Reported s₀ (tracePush s kind unit arg0 arg1) := by
  unfold tracePush
  extract_lets _ s₁ s₂ r
  have hs₁ : Reported s₀ s₁ := hs.put
  have hs₂ : Reported s₀ s₂ := hs₁.wf
  have hr : Reported s₀ r.1 := hs₂.evgMark
  exact .ite hs (.ite hs.put (.ite (.ite hr.bump hr) hs₂))

protected theorem evgFireIf {en : Bool} {src : Nat} (hs : Reported s₀ s) : Reported s₀ (evgFireIf s en src) :=
  .ite (.ite hs.put (.ite hs.evgMark.tracePush hs.evgMark)) hs

protected theorem flagEvent {r : Nat} {f : Field} {en : Bool} {src : Nat} (hs : Reported s₀ s) : Reported s₀ (flagEvent s r f en src) :=
  .ite hs hs.wf.evgFireIf

protected theorem eeFlags {f : Nat} {c : CvtFlags} (hs : Reported s₀ s) : Reported s₀ (eeFlags s f c) := by
  unfold eeFlags
  extract_lets _ _ s₁ s₂
  have hs₁ : Reported s₀ s₁ := .ite hs.flagEvent hs
  have hs₂ : Reported s₀ s₂ := .ite hs₁.flagEvent hs₁
  exact .ite hs₂.flagEvent hs₂

protected theorem rowSticky {f : Nat} {fl : Field} (hs : Reported s₀ s) : Reported s₀ (rowSticky s f fl) := hs.flagEvent

protected theorem sclLate {k : Nat} (hs : Reported s₀ s) : Reported s₀ (sclLate s k) := hs.bump.flagEvent

protected theorem overflowCodes {n : Nat} {codes : List Nat} (hs : Reported s₀ s) : Reported s₀ (overflowCodes s n codes) :=
  .ite hs (.ite hs.sclLate (.ite hs hs.put))

protected theorem recordAmax {t n k : Nat} {a : W32} (hs : Reported s₀ s) : Reported s₀ (recordAmax s t n k a) := by
  unfold recordAmax
  extract_lets s₁
  have hs₁ : Reported s₀ s₁ := hs.put
  exact .ite hs₁.sclLate hs₁

protected theorem countCycles {f op aux : Nat} {x : Invocation} (hs : Reported s₀ s) : Reported s₀ (countCycles s f x op aux) := hs.put

end Reported

end Sys2Proof.Laws
end

section
/-! SUPPORT. The element engine: what its run, its v and its s registers hold after each operation on them, and how an instruction of the
running program is carried out (R151 to R160). -/

namespace Sys2Proof.Laws

set_option Elab.async false

open Sys2Proof.Machine

variable {s t : State} {f : Nat} {x : Invocation} {i : EInstr}

/-! ## The engine of a frond -/

theorem engOf_congr (seq : t.seq = s.seq) (f : Nat) : engOf t f = engOf s f := by rw [engOf, frondOf, seq, engOf, frondOf]

theorem Reported.eng (h : Reported s t) (f : Nat) : engOf t f = engOf s f := engOf_congr h.seq f

/-- A frond whose engine runs is one of the device's. -/
theorem known_of_run (run : (engOf s f).run = some x) : f < s.seq.fronds.length := by
  refine Nat.lt_of_not_le fun h => ?_
  rw [engOf, frondOf, List.getD_eq_default _ _ h] at run
  cases run

theorem engOf_modEng (known : f < s.seq.fronds.length) (g : Engine → Engine) : engOf (modEng s f g) f = g (engOf s f) :=
  congrArg FrondState.eng (getD_modAt _ _ _ _ known)

@[simp] theorem length_fronds_modEng (g : Engine → Engine) : (modEng s f g).seq.fronds.length = s.seq.fronds.length := length_modAt _ _ _

theorem engOf_modRun (known : f < s.seq.fronds.length) (g : Invocation → Invocation) :
    engOf (modRun s f g) f = { engOf s f with run := (engOf s f).run.map g } := engOf_modEng known _

@[simp] theorem modEng_mem (g : Engine → Engine) : (modEng s f g).mem = s.mem := rfl
@[simp] theorem modRun_mem (g : Invocation → Invocation) : (modRun s f g).mem = s.mem := rfl
@[simp] theorem engOf_countCycles (op aux : Nat) : engOf (countCycles s f x op aux) f = engOf s f := rfl
@[simp] theorem countCycles_mem (op aux : Nat) : (countCycles s f x op aux).mem = s.mem := rfl
@[simp] theorem countCycles_seq (op aux : Nat) : (countCycles s f x op aux).seq = s.seq := rfl
@[simp] theorem engOf_wf (r n : Nat) (g : Field) : engOf (wf s r g n) f = engOf s f := rfl

/-! ## Registers of the engine -/

/-- The engine with other lanes in v register `r`. -/
def withVreg (e : Engine) (r : Nat) (vs : List W32) : Engine :=
  { e with v := (List.range 16).map (fun k => if k = r then vs else e.v.getD k []) }

/-- The engine with another value in s register `r`. -/
def withSreg (e : Engine) (r : Nat) (v : W32) : Engine := { e with sr := (List.range 8).map (fun k => if k = r then v else sReg e k) }

theorem engOf_setVreg (known : f < s.seq.fronds.length) (r : Nat) (vs : List W32) :
    engOf (setVreg s f r vs) f = withVreg (engOf s f) r vs := engOf_modEng known _

theorem engOf_setSreg (known : f < s.seq.fronds.length) (r : Nat) (v : W32) :
    engOf (setSreg s f r v) f = withSreg (engOf s f) r v := engOf_modEng known _

theorem vLane_withVreg_same {e : Engine} {r : Nat} {vs : List W32} (hr : r < 16) (l : Nat) : vLane (withVreg e r vs) r l = vs.getD l 0 := by
  simp [vLane, withVreg, hr]

theorem vLane_withVreg_ne {e : Engine} {r q : Nat} {vs : List W32} (hq : q < 16) (ne : q ≠ r) (l : Nat) :
    vLane (withVreg e r vs) q l = vLane e q l := by
  simp [vLane, withVreg, hq, ne]

theorem sReg_withSreg_same {e : Engine} {r : Nat} {v : W32} (hr : r < 8) : sReg (withSreg e r v) r = v := by
  simp [sReg, withSreg, hr]

theorem sReg_withSreg_ne {e : Engine} {r q : Nat} {v : W32} (hq : q < 8) (ne : q ≠ r) : sReg (withSreg e r v) q = sReg e q := by
  simp [sReg, withSreg, hq, ne]

/-! ## Carrying out an instruction -/

theorem issuing_eq_some {w : Nat} (h : issuing s f w = some x) :
    (engOf s f).run = some x ∧ x.prog[x.pc]? = some w ∧ failed s = false := by
  unfold issuing at h
  split at h
  · cases h
  · next y run =>
    split at h
    · next c =>
      cases h
      exact ⟨run, c.1, c.2.1⟩
    · cases h

theorem afterRead_of_up (up : failed s = false) (go : State → State) : afterRead s f .none go = go s :=
  if_neg (by rw [show frondErr s f .none = s from rfl, up]; decide)

theorem elemCmd_issues {op : Nat} {whole ends : Bool} {eff : Nat → Invocation → State → State} (valid : eInvalid op i = false)
    (err : i.err = .none) (next : issuing s f (eWord op i) = some x) :
    elemCmd op whole ends f i eff s = .next (advanceEngine (eff f x (countCycles s f x op i.aux)) f x whole ends) := by
  obtain ⟨-, -, up⟩ := issuing_eq_some next
  rw [elemCmd, valid, if_neg (by decide), next, err]
  exact congrArg Host.Outcome.next (afterRead_of_up up _)

/-- The state whose engine stands at word `n` of its program, and FRD_EE_STATUS shows it. -/
def atWord (s : State) (f n : Nat) : State :=
  let u := modRun s f (fun y => { y with pc := n })
  wf u (R.FRD_EE_STATUS f) F.FRD_EE_STATUS_pc (((engOf u f).run.map (·.pc)).getD 0)

theorem atWord_mem (n : Nat) : (atWord s f n).mem = s.mem := rfl

theorem engOf_atWord (known : f < s.seq.fronds.length) (n : Nat) :
    engOf (atWord s f n) f = { engOf s f with run := (engOf s f).run.map (fun y => { y with pc := n }) } := engOf_modRun known _

theorem v_atWord (known : f < s.seq.fronds.length) (n : Nat) : (engOf (atWord s f n) f).v = (engOf s f).v := by rw [engOf_atWord known]

theorem vLane_atWord (known : f < s.seq.fronds.length) (n r l : Nat) : vLane (engOf (atWord s f n) f) r l = vLane (engOf s f) r l := by
  rw [vLane, v_atWord known, vLane]

theorem sr_atWord (known : f < s.seq.fronds.length) (n : Nat) : (engOf (atWord s f n) f).sr = (engOf s f).sr := by rw [engOf_atWord known]

theorem run_atWord (known : f < s.seq.fronds.length) (n : Nat) (run : (engOf s f).run = some x) :
    (engOf (atWord s f n) f).run = some { x with pc := n } := by rw [engOf_atWord known, run]; rfl

/-- Behind an instruction that is no whole-row one and ends no sweep, the next word issues in the same group or chunk, unless it is a whole-row
instruction. -/
theorem advanceEngine_next (more : x.pc + 1 < x.prog.length)
    (same : x.row = true → ∀ w, x.prog[x.pc + 1]? = some w → bitsOf w 56 8 ≠ 0x62 ∧ bitsOf w 56 8 ≠ 0x63) :
    advanceEngine s f x false false = atWord s f (x.pc + 1) := by
  unfold advanceEngine atWord
  cases row : x.row with
  | false => simp [more]
  | true =>
    have plain := same row _ (List.getElem?_eq_getElem more)
    simp [more, plain]

theorem elemCmd_next {op : Nat} {eff : Nat → Invocation → State → State} (h : IssuesNext s f op i x) :
    elemCmd op false false f i eff s = .next (atWord (eff f x (countCycles s f x op i.aux)) f (x.pc + 1)) := by
  obtain ⟨valid, err, next, more, same⟩ := h
  rw [elemCmd_issues valid err next, advanceEngine_next more same]

/-! ## Lanes -/

/-- What a lane of d holds after an instruction (R160); the lanes that `skip` names keep their value when they are inactive. -/
def laneWritten (e : Engine) (x : Invocation) (i : EInstr) (skip : Nat → Bool) (l : Nat) (v : W32) : W32 :=
  if laneActive e x i l then v else if x.inside l && i.maskEn && i.zero && !skip l then 0 else vLane e i.d l

theorem laneWritten_unskipped (s : State) (l : Nat) (v : W32) :
    laneWritten (engOf s f) x i (fun _ => false) l v = laneAfter s f x i l v := by simp [laneWritten, laneAfter]

theorem laneWritten_active {e : Engine} {skip : Nat → Bool} {l : Nat} (active : laneActive e x i l = true) (v : W32) :
    laneWritten e x i skip l v = v := if_pos active

section

variable (skip : Nat → Bool) (res : Nat → W32 × CvtFlags)

theorem writeLanesBut_reported : ∃ vs, Reported (setVreg s f i.d vs) (writeLanesBut s f x i skip res)
    ∧ ∀ l, l < 256 → vs.getD l 0 = laneWritten (engOf s f) x i skip l (res l).1 := by
  unfold writeLanesBut
  refine ⟨_, (Reported.refl _).eeFlags, fun l hl => ?_⟩
  simp only [lanes, List.map_map, List.getD_eq_getElem?_getD, List.getElem?_map, List.getElem?_range hl, Option.map_some, Option.getD_some,
    Function.comp_apply, laneWritten]
  split
  · rfl
  · split <;> rfl

theorem writeLanesBut_mem : (writeLanesBut s f x i skip res).mem = s.mem := by
  obtain ⟨_, reported, -⟩ := writeLanesBut_reported (s := s) (f := f) (x := x) (i := i) skip res
  exact reported.mem

/-- Writing lanes changes register d of the engine alone. -/
theorem engOf_writeLanesBut (known : f < s.seq.fronds.length) (dest : i.d < 16) :
    let e := engOf (writeLanesBut s f x i skip res) f
    (∀ l, l < 256 → vLane e i.d l = laneWritten (engOf s f) x i skip l (res l).1)
    ∧ (∀ r l, r < 16 → r ≠ i.d → vLane e r l = vLane (engOf s f) r l) ∧ e.sr = (engOf s f).sr ∧ e.run = (engOf s f).run := by
  obtain ⟨vs, reported, lane⟩ := writeLanesBut_reported (s := s) (f := f) (x := x) (i := i) skip res
  dsimp only
  rw [reported.eng, engOf_setVreg known]
  exact ⟨fun l hl => (vLane_withVreg_same dest l).trans (lane l hl), fun r l hr ne => vLane_withVreg_ne hr ne l, rfl, rfl⟩

end

theorem length_fronds_writeLanesBut (skip : Nat → Bool) (res : Nat → W32 × CvtFlags) :
    (writeLanesBut s f x i skip res).seq.fronds.length = s.seq.fronds.length := by
  obtain ⟨_, reported, -⟩ := writeLanesBut_reported (s := s) (f := f) (x := x) (i := i) skip res
  rw [reported.seq]
  exact length_fronds_modEng _

/-- A valid instruction that writes a v register names one of the sixteen (R153). -/
theorem dest_lt {op : Nat} (writes : op ≠ 0x52 ∧ op < 0x60) (valid : eInvalid op i = false) : i.d < 16 := by
  have dest : eBadDest op i.d = false := by
    simp only [eInvalid, Bool.or_eq_false_iff] at valid
    tauto
  unfold eBadDest at dest
  rw [if_neg (by omega), if_neg (by omega)] at dest
  simpa using dest

/-- What stands in the engine and in memory when the lanes of d have been written and the next word issues. -/
theorem writeLanes_next {c : State} (reported : Reported s c) (run : (engOf s f).run = some x) (dest : i.d < 16) (res : Nat → W32 × CvtFlags)
    (n : Nat) :
    let t := atWord (writeLanes c f x i res) f n
    (∀ l, l < 256 → vLane (engOf t f) i.d l = laneAfter s f x i l (res l).1)
    ∧ (∀ r l, r < 16 → r ≠ i.d → vLane (engOf t f) r l = vLane (engOf s f) r l)
    ∧ (engOf t f).sr = (engOf s f).sr ∧ (engOf t f).run = some { x with pc := n } ∧ MemSame s t := by
  have known : f < c.seq.fronds.length := by rw [reported.seq]; exact known_of_run run
  obtain ⟨lane, others, sregs, keeps⟩ := engOf_writeLanesBut (s := c) (x := x) (i := i) (fun _ => false) res known dest
  rw [reported.eng] at lane others sregs keeps
  have knownT : f < (writeLanesBut c f x i (fun _ => false) res).seq.fronds.length := by rwa [length_fronds_writeLanesBut]
  dsimp only [writeLanes]
  simp only [vLane_atWord knownT, sr_atWord knownT]
  refine ⟨fun l hl => ?_, others, sregs, run_atWord knownT _ (keeps.trans run), memSame_of_mem ?_⟩
  · rw [lane l hl, laneWritten_unskipped]
  · rw [atWord_mem, writeLanesBut_mem, reported.mem]

/-- An instruction that counts, writes the lanes of d and does nothing else completes. -/
theorem laneOpIf_of_writes {mk : Nat → EInstr → Instr} {op : Nat} {eff : EInstr → Nat → Invocation → State → State}
    {count : State → Invocation → EInstr → State} {res : State → Nat → Invocation → EInstr → Nat → W32 × CvtFlags}
    {ok : Invocation → EInstr → Prop} {g : State → Nat → Invocation → EInstr → Nat → W32}
    (runs : ∀ f i s, exec (mk f i) s = elemCmd op false false f i (eff i) s)
    (writes : ∀ s f x i, eff i f x s = writeLanes (count s x i) f x i (res s f x i)) (counts : ∀ s x i, Reported s (count s x i))
    (dest : op ≠ 0x52 ∧ op < 0x60) (value : ∀ s f x i l, ok x i → (res (countCycles s f x op i.aux) f x i l).1 = g s f x i l) :
    LaneOpIf ok mk op g := by
  intro s f i x h allowed
  obtain ⟨valid, -, next, -, -⟩ := id h
  refine ⟨_, (runs f i s).trans (elemCmd_next h), ?_⟩
  rw [writes]
  obtain ⟨lane, rest⟩ := writeLanes_next ((Reported.refl s).countCycles.trans (counts _ x i)) (issuing_eq_some next).1 (dest_lt dest valid)
    (res (countCycles s f x op i.aux) f x i) (x.pc + 1)
  exact ⟨fun l hl => (lane l hl).trans (by rw [value s f x i l allowed]), rest⟩

theorem laneOp_of_writes {mk : Nat → EInstr → Instr} {op : Nat} {eff : EInstr → Nat → Invocation → State → State}
    {res : State → Nat → Invocation → EInstr → Nat → W32 × CvtFlags} {g : State → Nat → Invocation → EInstr → Nat → W32}
    (runs : ∀ f i s, exec (mk f i) s = elemCmd op false false f i (eff i) s)
    (writes : ∀ s f x i, eff i f x s = writeLanes s f x i (res s f x i)) (dest : op ≠ 0x52 ∧ op < 0x60)
    (value : ∀ s f x i l, (res (countCycles s f x op i.aux) f x i l).1 = g s f x i l) : LaneOp mk op g :=
  fun s f i x h => laneOpIf_of_writes (count := fun s _ _ => s) (ok := fun _ _ => True) runs writes (fun s _ _ => .refl s) dest
    (fun s f x i l _ => value s f x i l) s f i x h trivial

section

variable {mk : Nat → EInstr → Instr} {op : Nat} (dest : op ≠ 0x52 ∧ op < 0x60)

include dest

theorem lane1_of_unary {g : W32 → W32 × CvtFlags} {r : W32 → W32}
    (runs : ∀ f i s, exec (mk f i) s = elemCmd op false false f i (unary g i) s) (value : ∀ a, (g a).1 = r a) : Lane1 mk op r :=
  laneOp_of_writes (eff := unary g) (res := fun s f x i l => g (operand (engOf s f) x i.a l)) runs (fun _ _ _ _ => rfl) dest
    fun _ _ _ _ _ => value _

theorem lane2_of_binary {g : W32 → W32 → W32 × CvtFlags} {r : W32 → W32 → W32}
    (runs : ∀ f i s, exec (mk f i) s = elemCmd op false false f i (binary g i) s) (value : ∀ a b, (g a b).1 = r a b) : Lane2 mk op r :=
  laneOp_of_writes (eff := binary g) (res := fun s f x i l => g (operand (engOf s f) x i.a l) (operand (engOf s f) x i.b l)) runs
    (fun _ _ _ _ => rfl) dest fun _ _ _ _ _ => value _ _

theorem lane3_of_ternary {g : W32 → W32 → W32 → W32 × CvtFlags} {r : W32 → W32 → W32 → W32}
    (runs : ∀ f i s, exec (mk f i) s = elemCmd op false false f i (ternary g i) s) (value : ∀ a b c, (g a b c).1 = r a b c) :
    Lane3 mk op r :=
  laneOp_of_writes (eff := ternary g)
    (res := fun s f x i l => g (operand (engOf s f) x i.a l) (operand (engOf s f) x i.b l) (operand (engOf s f) x i.c l)) runs
    (fun _ _ _ _ => rfl) dest fun _ _ _ _ _ => value _ _ _

end

end Sys2Proof.Laws
end

section
/-! CERTIFICATES. Arithmetic, selection and bitwise instructions lane by lane (R156 to R160). -/

namespace Sys2Proof.Laws

set_option Elab.async false

open Sys2Proof.Machine

/-- Settles O21: each of the four instructions writes the lanes of d alone, and its result rounds the exact value once. -/
theorem elementArithmeticWritesLanes : Obligations.ElementArithmeticWritesLanes := by
  unfold Obligations.ElementArithmeticWritesLanes
  refine ⟨?_, ?_, ?_, ?_⟩
  · exact lane2_of_binary (g := withArith f32add) (by decide) (fun _ _ _ => rfl) fun _ _ => rfl
  · exact lane2_of_binary (g := withArith f32sub) (by decide) (fun _ _ _ => rfl) fun _ _ => rfl
  · exact lane2_of_binary (g := withArith f32mul) (by decide) (fun _ _ _ => rfl) fun _ _ => rfl
  · exact lane3_of_ternary (by decide) (fun _ _ _ => rfl) fun _ _ _ => rfl

end Sys2Proof.Laws
end

section
/-! SUPPORT. The order of FP32 values (R68, R69): words other than NaN compare as signed integers do. -/

namespace Sys2Proof.Laws

set_option Elab.async false

open Sys2Proof.Machine

/-- The magnitude of the FP32 code `c` without its sign, in units of the least positive value; the code of infinity goes on as if it were
finite. -/
def mag32 (c : Nat) : Nat := if c / 2 ^ 23 = 0 then c % 2 ^ 23 else (c % 2 ^ 23 + 2 ^ 23) * 2 ^ (c / 2 ^ 23 - 1)

/-- The place of a word other than NaN in the order of FP32 values. -/
def key32 (a : W32) : Int := if neg32 a then -(mag32 (a.toNat % 2 ^ 31) : Int) else mag32 (a.toNat % 2 ^ 31)

theorem mag32_lt_two_pow (c : Nat) : mag32 c < 2 ^ (23 + c / 2 ^ 23) := by
  have fr : c % 2 ^ 23 < 2 ^ 23 := Nat.mod_lt _ (by decide)
  unfold mag32
  split
  · next h => rwa [h]
  · next h =>
    obtain ⟨e, he⟩ := Nat.exists_eq_succ_of_ne_zero h
    rw [he, Nat.succ_sub_one, show 23 + e.succ = 24 + e by omega, pow_add]
    exact Nat.mul_lt_mul_of_pos_right (by omega) (Nat.two_pow_pos e)

theorem two_pow_le_mag32 {c : Nat} (h : c / 2 ^ 23 ≠ 0) : 2 ^ (23 + (c / 2 ^ 23 - 1)) ≤ mag32 c := by
  rw [mag32, if_neg h, pow_add]
  exact Nat.mul_le_mul_right _ (by omega)

theorem mag32_lt {c d : Nat} (h : c < d) : mag32 c < mag32 d := by
  rcases Nat.lt_or_ge (c / 2 ^ 23) (d / 2 ^ 23) with hex | hex
  · calc mag32 c < 2 ^ (23 + c / 2 ^ 23) := mag32_lt_two_pow c
      _ ≤ 2 ^ (23 + (d / 2 ^ 23 - 1)) := Nat.pow_le_pow_right (by decide) (by omega)
      _ ≤ mag32 d := two_pow_le_mag32 (by omega)
  · have ex : c / 2 ^ 23 = d / 2 ^ 23 := Nat.le_antisymm (Nat.div_le_div_right (Nat.le_of_lt h)) hex
    have fr : c % 2 ^ 23 < d % 2 ^ 23 := by omega
    unfold mag32
    rw [ex]
    split
    · exact fr
    · exact Nat.mul_lt_mul_of_pos_right (by omega) (Nat.two_pow_pos _)

theorem mag32_inj {c d : Nat} (h : mag32 c = mag32 d) : c = d := by
  rcases Nat.lt_trichotomy c d with lt | eq | gt
  · exact absurd h (Nat.ne_of_lt (mag32_lt lt))
  · exact eq
  · exact absurd h (Nat.ne_of_gt (mag32_lt gt))

/-- A word is NaN, an infinity or finite. -/
theorem f32v_cases (a : W32) : isNaN32 a = true
    ∨ (f32v a = .inf (neg32 a) ∧ a.toNat % 2 ^ 31 = 255 * 2 ^ 23)
    ∨ (f32v a = .fin (neg32 a) (codeMag lFP32 (a.toNat % 2 ^ 31)).1 (codeMag lFP32 (a.toNat % 2 ^ 31)).2 ∧ a.toNat % 2 ^ 31 < 255 * 2 ^ 23) := by
  have hlt : a.toNat % 2 ^ 31 < 2 ^ 31 := Nat.mod_lt _ (by decide)
  have value : f32v a = if (a.toNat % 2 ^ 31) / 2 ^ 23 = 255 then (if a.toNat % 2 ^ 31 % 2 ^ 23 = 0 then .inf (neg32 a) else .nan)
      else .fin (neg32 a) (codeMag lFP32 (a.toNat % 2 ^ 31)).1 (codeMag lFP32 (a.toNat % 2 ^ 31)).2 := by
    rw [← Nat.shiftRight_eq_div_pow]
    rfl
  by_cases ex : (a.toNat % 2 ^ 31) / 2 ^ 23 = 255
  · rw [if_pos ex] at value
    by_cases fr : a.toNat % 2 ^ 31 % 2 ^ 23 = 0
    · rw [if_pos fr] at value
      exact .inr (.inl ⟨value, by omega⟩)
    · rw [if_neg fr] at value
      exact .inl (by rw [isNaN32, value]; rfl)
  · rw [if_neg ex] at value
    exact .inr (.inr ⟨value, by omega⟩)

/-- A finite value aligned to an exponent its own is not below, times what is left to the least exponent, is its place in the order. -/
theorem alignTo_codeMag (neg : Bool) {c : Nat} {e : Int} (lo : lFP32.qmin ≤ e) (hi : e ≤ (codeMag lFP32 c).2) :
    alignTo neg (codeMag lFP32 c).1 (codeMag lFP32 c).2 e * (2 ^ (e - lFP32.qmin).toNat : Nat) = if neg then -(mag32 c : Int) else mag32 c := by
  have size : (codeMag lFP32 c).1 * 2 ^ ((codeMag lFP32 c).2 - lFP32.qmin).toNat = mag32 c := by
    simp only [codeMag, mag32, Nat.shiftRight_eq_div_pow, show lFP32.fb = 23 from rfl]
    split
    · simp
    · next h =>
      congr 2
      have : 0 < c / 2 ^ 23 := Nat.pos_of_ne_zero h
      omega
  have whole : ((codeMag lFP32 c).2 - lFP32.qmin).toNat = ((codeMag lFP32 c).2 - e).toNat + (e - lFP32.qmin).toNat := by omega
  rw [whole, pow_add, ← Nat.mul_assoc] at size
  rw [← size, alignTo, Nat.shiftLeft_eq]
  cases neg with
  | false => exact (Int.natCast_mul _ _).symm
  | true =>
    rw [if_pos rfl, if_pos rfl, Int.neg_mul, ← Int.natCast_mul]

theorem qmin_le_codeMag (c : Nat) : lFP32.qmin ≤ (codeMag lFP32 c).2 := by
  simp only [codeMag]
  split
  · exact le_rfl
  · next h =>
    have : 0 < c >>> lFP32.fb := Nat.pos_of_ne_zero h
    dsimp only
    omega

theorem mag32_infinity_pos : 0 < mag32 (255 * 2 ^ 23) := by decide +kernel

/-- Comparing two finite values compares their places in the order. -/
theorem align_compare (a b : Bool) (c d : Nat) :
    let e := min (codeMag lFP32 c).2 (codeMag lFP32 d).2
    let x := alignTo a (codeMag lFP32 c).1 (codeMag lFP32 c).2 e
    let y := alignTo b (codeMag lFP32 d).1 (codeMag lFP32 d).2 e
    let k (n : Bool) (m : Nat) : Int := if n then -(mag32 m : Int) else mag32 m
    (x < y ↔ k a c < k b d) ∧ (x = y ↔ k a c = k b d) := by
  intro e x y k
  have lo : lFP32.qmin ≤ e := le_min (qmin_le_codeMag c) (qmin_le_codeMag d)
  have hx : x * (2 ^ (e - lFP32.qmin).toNat : Nat) = k a c := alignTo_codeMag a lo (min_le_left _ _)
  have hy : y * (2 ^ (e - lFP32.qmin).toNat : Nat) = k b d := alignTo_codeMag b lo (min_le_right _ _)
  have pos : (0 : Int) < (2 ^ (e - lFP32.qmin).toNat : Nat) := Int.natCast_pos.mpr (Nat.two_pow_pos _)
  rw [← hx, ← hy]
  exact ⟨(Int.mul_lt_mul_right pos).symm, (Int.mul_eq_mul_right_iff (Int.ne_of_gt pos)).symm⟩

/-- Two words other than NaN compare as their places in the order do. -/
theorem compare_key32 {a b : W32} (ha : isNaN32 a = false) (hb : isNaN32 b = false) :
    fvLt (f32v a) (f32v b) = decide (key32 a < key32 b) ∧ fvEq (f32v a) (f32v b) = decide (key32 a = key32 b) := by
  unfold key32
  have inf := mag32_infinity_pos
  rcases f32v_cases a with h | ⟨va, ca⟩ | ⟨va, ca⟩
  · rw [ha] at h
    cases h
  · rcases f32v_cases b with h | ⟨vb, cb⟩ | ⟨vb, cb⟩
    · rw [hb] at h
      cases h
    · rw [va, vb, ca, cb]
      generalize mag32 (255 * 2 ^ 23) = m at *
      cases neg32 a <;> cases neg32 b <;> simp [fvLt, fvEq] <;> omega
    · have small := mag32_lt cb
      rw [va, vb, ca]
      generalize mag32 (255 * 2 ^ 23) = m, mag32 (b.toNat % 2 ^ 31) = n at *
      cases neg32 a <;> cases neg32 b <;> simp [fvLt, fvEq] <;> omega
  · have small := mag32_lt ca
    rcases f32v_cases b with h | ⟨vb, cb⟩ | ⟨vb, cb⟩
    · rw [hb] at h
      cases h
    · rw [va, vb, cb]
      generalize mag32 (255 * 2 ^ 23) = m, mag32 (a.toNat % 2 ^ 31) = n at *
      cases neg32 a <;> cases neg32 b <;> simp [fvLt, fvEq] <;> omega
    · rw [va, vb]
      obtain ⟨lt, eq⟩ := align_compare (neg32 a) (neg32 b) (a.toNat % 2 ^ 31) (b.toNat % 2 ^ 31)
      exact ⟨decide_eq_decide.mpr lt, decide_eq_decide.mpr eq⟩

theorem fvLt_key32 {a b : W32} (ha : isNaN32 a = false) (hb : isNaN32 b = false) : fvLt (f32v a) (f32v b) = decide (key32 a < key32 b) :=
  (compare_key32 ha hb).1

theorem fvEq_key32 {a b : W32} (ha : isNaN32 a = false) (hb : isNaN32 b = false) : fvEq (f32v a) (f32v b) = decide (key32 a = key32 b) :=
  (compare_key32 ha hb).2

/-- Two words of one sign at one place in the order are the same. -/
theorem eq_of_key32 {a b : W32} (sign : neg32 a = neg32 b) (key : key32 a = key32 b) : a = b := by
  have size : a.toNat % 2 ^ 31 = b.toNat % 2 ^ 31 := by
    unfold key32 at key
    rw [sign] at key
    refine mag32_inj ?_
    split at key
    · exact Int.ofNat.inj (Int.neg_inj.mp key)
    · exact Int.ofNat.inj key
  have top : a.toNat / 2 ^ 31 % 2 = b.toNat / 2 ^ 31 % 2 := by
    simp only [neg32, Nat.testBit_eq_decide_div_mod_eq, decide_eq_decide] at sign
    omega
  have la := a.isLt
  have lb := b.isLt
  exact BitVec.eq_of_toNat_eq (by omega)

end Sys2Proof.Laws
end

section
/-! CERTIFICATES. Selection, comparison, bits and the function circuits lane by lane (R156 to R160). -/

namespace Sys2Proof.Laws

set_option Elab.async false

open Sys2Proof.Machine

/-- Of two words none of which is the smaller, each with the other's sign is the other: MIN and MAX choose by sign between zeros alone. -/
theorem eq_of_not_lt {a b : W32} (ha : isNaN32 a = false) (hb : isNaN32 b = false) (hab : fvLt (f32v a) (f32v b) = false)
    (hba : fvLt (f32v b) (f32v a) = false) : fvEq (f32v b) (f32v a) = true ∧ (neg32 a = neg32 b → a = b) := by
  rw [fvLt_key32 ha hb, decide_eq_false_iff_not] at hab
  rw [fvLt_key32 hb ha, decide_eq_false_iff_not] at hba
  have key : key32 a = key32 b := by omega
  exact ⟨by rw [fvEq_key32 hb ha, decide_eq_true_eq, key], fun sign => eq_of_key32 sign key⟩

/-- A smaller word is neither larger nor equal. -/
theorem not_lt_eq_of_lt {a b : W32} (ha : isNaN32 a = false) (hb : isNaN32 b = false) (hab : fvLt (f32v a) (f32v b) = true) :
    fvLt (f32v b) (f32v a) = false ∧ fvEq (f32v a) (f32v b) = false ∧ fvEq (f32v b) (f32v a) = false := by
  rw [fvLt_key32 ha hb, decide_eq_true_eq] at hab
  rw [fvLt_key32 hb ha, fvEq_key32 ha hb, fvEq_key32 hb ha, decide_eq_false_iff_not, decide_eq_false_iff_not, decide_eq_false_iff_not]
  exact ⟨by omega, by omega, by omega⟩

theorem minW_eq (a b : W32) : minW a b = if isNaN32 a || isNaN32 b then 0x7FC00000#32
    else if fvLt (f32v b) (f32v a) || (fvEq (f32v b) (f32v a) && neg32 b) then b else a := by
  unfold minW
  by_cases nan : (isNaN32 a || isNaN32 b) = true
  · rw [if_pos nan, if_pos nan]
    rfl
  rw [if_neg nan, if_neg nan]
  obtain ⟨ha, hb⟩ := Bool.or_eq_false_iff.mp (Bool.eq_false_of_not_eq_true nan)
  cases hab : fvLt (f32v a) (f32v b) with
  | true =>
    obtain ⟨hba, -, heq⟩ := not_lt_eq_of_lt ha hb hab
    simp [hba, heq]
  | false =>
    cases hba : fvLt (f32v b) (f32v a) with
    | true => simp
    | false =>
      obtain ⟨heq, same⟩ := eq_of_not_lt ha hb hab hba
      rw [heq]
      cases na : neg32 a <;> cases nb : neg32 b <;> simp [na, nb] at same ⊢ <;> rw [same]

theorem maxFW_eq (a b : W32) : maxFW a b = if isNaN32 a || isNaN32 b then 0x7FC00000#32
    else if fvLt (f32v a) (f32v b) || (fvEq (f32v b) (f32v a) && neg32 a) then b else a := by
  unfold maxFW
  by_cases nan : (isNaN32 a || isNaN32 b) = true
  · rw [if_pos nan, if_pos nan]
    rfl
  rw [if_neg nan, if_neg nan]
  obtain ⟨ha, hb⟩ := Bool.or_eq_false_iff.mp (Bool.eq_false_of_not_eq_true nan)
  cases hab : fvLt (f32v a) (f32v b) with
  | true => simp
  | false =>
    cases hba : fvLt (f32v b) (f32v a) with
    | true => simp [(not_lt_eq_of_lt hb ha hba).2.1]
    | false => simp [(eq_of_not_lt ha hb hab hba).1]

theorem laneBool_eq (b : Bool) : laneBool b = onesIf (b = true) := by cases b <;> rfl

theorem and_low31 (a : W32) : a &&& 0x7FFFFFFF#32 = BitVec.ofNat 32 (a.toNat % 2 ^ 31) := by
  apply BitVec.eq_of_toNat_eq
  rw [BitVec.toNat_and, BitVec.toNat_ofNat, BitVec.toNat_ofNat, show 0x7FFFFFFF % 2 ^ 32 = 2 ^ 31 - 1 from rfl, Nat.and_two_pow_sub_one_eq_mod]
  omega

theorem xor_bit31 (a : W32) : a ^^^ 0x80000000#32 = BitVec.ofNat 32 (a.toNat % 2 ^ 31 + (if a.toNat < 2 ^ 31 then 2 ^ 31 else 0)) := by
  apply BitVec.eq_of_toNat_eq
  rw [BitVec.toNat_xor, BitVec.toNat_ofNat, BitVec.toNat_ofNat, show 0x80000000 % 2 ^ 32 = 2 ^ 31 from rfl]
  have low : (a.toNat ^^^ 2 ^ 31) % 2 ^ 31 = a.toNat % 2 ^ 31 := by rw [Nat.xor_mod_two_pow, Nat.mod_self, Nat.xor_zero]
  have high : (a.toNat ^^^ 2 ^ 31) / 2 ^ 31 = a.toNat / 2 ^ 31 ^^^ 1 := by rw [Nat.xor_div_two_pow, Nat.div_self (by decide)]
  have la := a.isLt
  rcases (by omega : a.toNat / 2 ^ 31 = 0 ∨ a.toNat / 2 ^ 31 = 1) with top | top <;> rw [top] at high
  · rw [if_pos (by omega)]
    have : 0 ^^^ 1 = 1 := rfl
    omega
  · rw [if_neg (by omega)]
    have : 1 ^^^ 1 = 0 := rfl
    omega

theorem shr_eq (a : W32) (n : Nat) : a >>> (n % 32) = BitVec.ofNat 32 (a.toNat / 2 ^ bitsOf n 0 5) := by
  apply BitVec.eq_of_toNat_eq
  rw [BitVec.toNat_ushiftRight, Nat.shiftRight_eq_div_pow, BitVec.toNat_ofNat, show bitsOf n 0 5 = n % 32 from rfl]
  exact (Nat.mod_eq_of_lt (Nat.lt_of_le_of_lt (Nat.div_le_self _ _) a.isLt)).symm

theorem shl_eq (a : W32) (n : Nat) : a <<< (n % 32) = BitVec.ofNat 32 (a.toNat * 2 ^ bitsOf n 0 5) := by
  apply BitVec.eq_of_toNat_eq
  rw [BitVec.toNat_shiftLeft, Nat.shiftLeft_eq, BitVec.toNat_ofNat, show bitsOf n 0 5 = n % 32 from rfl]

/-- Settles O22: MIN and MAX of the model, which choose by sign where neither operand is the smaller, are the table's. -/
theorem elementSelectionWritesLanes : Obligations.ElementSelectionWritesLanes := by
  unfold Obligations.ElementSelectionWritesLanes
  intro lo hi
  refine ⟨?_, ?_, ?_, ?_, ?_, ?_, ?_, ?_, ?_⟩
  · exact lane2_of_binary (by decide) (fun _ _ _ => rfl) minW_eq
  · exact lane2_of_binary (by decide) (fun _ _ _ => rfl) maxFW_eq
  · exact lane3_of_ternary (by decide) (fun _ _ _ => rfl) fun a b c => by rw [minW_eq, maxFW_eq]
  · exact lane2_of_binary (g := withCmp _) (by decide) (fun _ _ _ => rfl) fun _ _ => laneBool_eq _
  · exact lane2_of_binary (g := withCmp _) (by decide) (fun _ _ _ => rfl) fun _ _ => laneBool_eq _
  · refine lane2_of_binary (g := withCmp _) (by decide) (fun _ _ _ => rfl) fun _ _ => (laneBool_eq _).trans ?_
    simp only [Bool.or_eq_true]
  · refine lane2_of_binary (g := withCmp _) (by decide) (fun _ _ _ => rfl) fun _ _ => (laneBool_eq _).trans ?_
    simp only [Bool.or_eq_true]
  · refine lane2_of_binary (g := bitwise _) (by decide) (fun _ _ _ => rfl) fun _ _ => (laneBool_eq _).trans ?_
    simp only [decide_eq_true_eq]
  · exact lane3_of_ternary (by decide) (fun _ _ _ => rfl) fun _ _ _ => rfl

/-- Settles O23: each result as a number, bit by bit where the model masks or shifts. -/
theorem elementBitwiseWritesLanes : Obligations.ElementBitwiseWritesLanes := by
  unfold Obligations.ElementBitwiseWritesLanes
  refine ⟨?_, ?_, ?_, ?_, ?_, ?_, ?_, ?_, ?_, ?_⟩
  · exact lane1_of_unary (by decide) (fun _ _ _ => rfl) and_low31
  · exact lane1_of_unary (by decide) (fun _ _ _ => rfl) xor_bit31
  · exact lane2_of_binary (g := bitwise _) (by decide) (fun _ _ _ => rfl) fun _ _ => rfl
  · exact lane2_of_binary (g := bitwise _) (by decide) (fun _ _ _ => rfl) fun _ _ => rfl
  · exact lane2_of_binary (g := bitwise _) (by decide) (fun _ _ _ => rfl) fun _ _ => rfl
  · exact lane2_of_binary (g := bitwise _) (by decide) (fun _ _ _ => rfl) fun _ _ => rfl
  · exact laneOp_of_writes (eff := fun i => unary _ i) (fun _ _ _ => rfl) (fun _ _ _ _ => rfl) (by decide) fun _ _ _ _ _ => shr_eq _ _
  · exact laneOp_of_writes (eff := fun i => unary _ i) (fun _ _ _ => rfl) (fun _ _ _ _ => rfl) (by decide) fun _ _ _ _ _ => shl_eq _ _
  · exact lane2_of_binary (g := bitwise _) (by decide) (fun _ _ _ => rfl) fun a b => by
      rw [BitVec.ofNat_add, BitVec.ofNat_toNat, BitVec.ofNat_toNat, BitVec.setWidth_eq, BitVec.setWidth_eq]; rfl
  · exact lane1_of_unary (by decide) (fun _ _ _ => rfl) fun _ => rfl

end Sys2Proof.Laws
end

section
/-! CERTIFICATES. The function circuits lane by lane, with what R158 says of special operands. -/

namespace Sys2Proof.Laws

set_option Elab.async false

open Sys2Proof.Machine

/-- The circuits answer NaN for a NaN. -/
theorem circuits_nan {a : W32} (nan : isNaN32 a = true) :
    exp2W a = 0x7FC00000#32 ∧ log2W a = 0x7FC00000#32 ∧ rcpW a = 0x7FC00000#32 ∧ rsqW a = 0x7FC00000#32 := by
  have value : f32v a = .nan := by simpa [isNaN32] using nan
  simp [exp2W, log2W, rcpW, rsqW, exp2C, log2C, rcpC, rsqC, value, f32nan]

/-- LOG2 and RSQ answer NaN for a finite value below zero. -/
theorem circuits_negative {a : W32} (fin : isFin32 a = true) (neg : neg32 a = true) (ne : a ≠ 0x80000000#32) :
    log2W a = 0x7FC00000#32 ∧ rsqW a = 0x7FC00000#32 := by
  rcases f32v_cases a with nan | ⟨value, -⟩ | ⟨value, -⟩
  · rw [isNaN32, decide_eq_true_eq] at nan
    simp [isFin32, nan] at fin
  · simp [isFin32, value] at fin
  · have size : (codeMag lFP32 (a.toNat % 2 ^ 31)).1 ≠ 0 := by
      intro zero
      refine ne (eq_of_key32 (neg.trans rfl) ?_)
      have mag : mag32 (a.toNat % 2 ^ 31) = 0 := by
        have aligned := alignTo_codeMag false (qmin_le_codeMag (a.toNat % 2 ^ 31)) le_rfl
        rw [zero] at aligned
        simpa [alignTo] using aligned.symm
      rw [key32, if_pos neg, mag]
      rfl
    rw [neg] at value
    generalize codeMag lFP32 (a.toNat % 2 ^ 31) = p at value size
    simp [log2W, rsqW, log2C, rsqC, value, size, f32nan]

/-- Settles O24: the functions are those of the circuits, evaluated on the operands listed. -/
theorem elementFunctionsWriteLanes : Obligations.ElementFunctionsWriteLanes := by
  unfold Obligations.ElementFunctionsWriteLanes
  refine ⟨exp2W, log2W, rcpW, rsqW, ?_, ?_, ?_, ?_, ?_⟩
  · exact lane1_of_unary (by decide) (fun _ _ _ => rfl) fun _ => rfl
  · exact lane1_of_unary (by decide) (fun _ _ _ => rfl) fun _ => rfl
  · exact lane1_of_unary (by decide) (fun _ _ _ => rfl) fun _ => rfl
  · exact lane1_of_unary (by decide) (fun _ _ _ => rfl) fun _ => rfl
  have specials : exp2W 0#32 = 0x3F800000#32 ∧ exp2W 0x80000000#32 = 0x3F800000#32 ∧ exp2W 0x7F800000#32 = 0x7F800000#32 ∧ exp2W 0xFF800000#32 = 0#32
      ∧ log2W 0#32 = 0xFF800000#32 ∧ log2W 0x80000000#32 = 0xFF800000#32 ∧ log2W 0x7F800000#32 = 0x7F800000#32 ∧ log2W 0xFF800000#32 = 0x7FC00000#32 := by
    decide +kernel
  have inverses : rcpW 0#32 = 0x7F800000#32 ∧ rcpW 0x80000000#32 = 0xFF800000#32 ∧ rcpW 0x7F800000#32 = 0#32 ∧ rcpW 0xFF800000#32 = 0x80000000#32
      ∧ rsqW 0#32 = 0x7F800000#32 ∧ rsqW 0x80000000#32 = 0xFF800000#32 ∧ rsqW 0x7F800000#32 = 0#32 ∧ rsqW 0xFF800000#32 = 0x7FC00000#32 := by
    decide +kernel
  have powers : exp2W 0x40000000#32 = 0x40800000#32 ∧ log2W 0x41000000#32 = 0x40400000#32 ∧ rcpW 0x40800000#32 = 0x3E800000#32
      ∧ rsqW 0x40800000#32 = 0x3F000000#32 := by decide +kernel
  obtain ⟨e0, e1, e2, e3, l0, l1, l2, l3⟩ := specials
  obtain ⟨c0, c1, c2, c3, r0, r1, r2, r3⟩ := inverses
  exact ⟨e0, e1, e2, e3, l0, l1, l2, l3, c0, c1, c2, c3, r0, r1, r2, r3, fun _ nan => circuits_nan nan, fun _ fin neg ne => circuits_negative fin neg ne, powers⟩

end Sys2Proof.Laws
end

section
/-! SUPPORT. What the element engine reads beside its registers: random values, regions and bindings (R161, R165, R438). -/

namespace Sys2Proof.Laws

set_option Elab.async false

open Sys2Proof.Machine

variable {s t : State}

/-- Exponents are the scale unit's. -/
theorem bindExp_congr (scl : t.scl = s.scl) (k n m : Nat) : bindExp t k n m = bindExp s k n m := by
  unfold bindExp jitTensor expOf tensorOf
  rw [scl]

theorem produceShift_congr (scl : t.scl = s.scl) (x : Invocation) (tensor : Option Nat) : produceShift t x tensor = produceShift s x tensor := by
  cases tensor with
  | none => rfl
  | some k => exact congrArg (- ·) (bindExp_congr scl _ _ _)

namespace SamePlaces

variable (h : SamePlaces s t)

include h

theorem jobSeed : Machine.jobSeed t = Machine.jobSeed s := by simp only [Machine.jobSeed, slotBase, h.numAt, h.thl, h.store]

theorem laneRandom (x : Invocation) (st r p : Nat) : Machine.laneRandom t x st r p = Machine.laneRandom s x st r p := by
  simp only [Machine.laneRandom, h.jobSeed]

theorem storeNum (f o n : Nat) : Machine.storeNum t f o n = Machine.storeNum s f o n := h.numAt _ _

theorem accPair (f k r c : Nat) : Machine.accPair t f k r c = Machine.accPair s f k r c := by simp only [Machine.accPair, h.numAt]

theorem regionCode (f : Nat) (x : Invocation) (r row p : Nat) : Machine.regionCode t f x r row p = Machine.regionCode s f x r row p := by
  simp only [Machine.regionCode, h.storeNum]

theorem regionTensor (f : Nat) (x : Invocation) (kind r : Nat) : Machine.regionTensor t f x kind r = Machine.regionTensor s f x kind r := by
  simp only [Machine.regionTensor, opBindings, bindings, planNum, h.actSec, h.secNum]

theorem cvtTensor (f : Nat) (x : Invocation) (i : EInstr) : Machine.cvtTensor t f x i = Machine.cvtTensor s f x i := by
  simp only [Machine.cvtTensor, funext (h.regionTensor f x 0)]

theorem regionRead (scl : t.scl = s.scl) (f : Nat) (x : Invocation) (r row p : Nat) :
    Machine.regionRead t f x r row p = Machine.regionRead s f x r row p := by
  simp only [Machine.regionRead, h.regionCode, h.storeNum, h.regionTensor, bindExp_congr scl]

end SamePlaces

protected theorem SamePlaces.cntAdd {w n : Nat} (h : SamePlaces s t) : SamePlaces s (cntAdd t w n) :=
  ⟨h.mem, h.thl, h.sor, h.lost, h.spared, h.device, h.image, h.store⟩

theorem countCycles_places (s : State) (f : Nat) (x : Invocation) (op aux : Nat) : SamePlaces s (countCycles s f x op aux) :=
  .cntAdd (SamePlaces.bump s (by unfold R.DEV_FABRIC_ID R.FRD_EE_BUSY_CNT; omega) (by unfold R.THL_STATUS R.FRD_EE_BUSY_CNT; omega)
    (by unfold R.THL_STORE_BASE R.FRD_EE_BUSY_CNT; omega))

end Sys2Proof.Laws
end

section
/-! SUPPORT. CVT: into a plain format with the recorded magnitudes of a PRODUCE binding, into a block format with one scale per block (R162 to
R165, R438). -/

namespace Sys2Proof.Laws

set_option Elab.async false

open Sys2Proof.Machine

variable {s : State} {f : Nat} {x : Invocation} {i : EInstr}

/-- Recording magnitudes changes the run's own record in a pre-pass, else the scale unit. -/
theorem recordProduce_cases (s : State) (f : Nat) (x : Invocation) (tensor : Option Nat) (vs : List W32) :
    Reported s (recordProduce s f x tensor vs)
    ∨ x.pre = true ∧ ∃ g : List (Nat × W32) → List (Nat × W32), recordProduce s f x tensor vs = modRun s f (fun y => { y with amax := g y.amax }) := by
  unfold recordProduce
  cases tensor with
  | none => exact .inl (.refl s)
  | some t =>
    dsimp only
    split
    · exact .inl (.refl s)
    · split
      · next c =>
        refine .inr ⟨?_, fun am => alSet am t (maxW (alGet 0 am t) (vs.foldl (fun a v => maxW a (amaxWord v)) 0)), rfl⟩
        rw [prePass, Bool.and_eq_true] at c
        exact c.1
      · split
        · exact .inl (.refl s)
        · exact .inl (Reported.refl s).recordAmax

theorem recordProduce_mem (tensor : Option Nat) (vs : List W32) : (recordProduce s f x tensor vs).mem = s.mem := by
  rcases recordProduce_cases s f x tensor vs with reported | ⟨-, g, eq⟩
  · exact reported.mem
  · rw [eq, modRun_mem]

theorem recordProduce_known (known : f < s.seq.fronds.length) (tensor : Option Nat) (vs : List W32) :
    f < (recordProduce s f x tensor vs).seq.fronds.length := by
  rcases recordProduce_cases s f x tensor vs with reported | ⟨-, g, eq⟩
  · rwa [reported.seq]
  · rw [eq]
    exact (length_fronds_modEng _).symm ▸ known

/-- The engine after recording: in a pre-pass its run's own record may be another. -/
theorem engOf_recordProduce (known : f < s.seq.fronds.length) {y : Invocation} (run : (engOf s f).run = some y) (tensor : Option Nat)
    (vs : List W32) : ∃ m, engOf (recordProduce s f x tensor vs) f = ⟨(engOf s f).v, (engOf s f).sr, some { y with amax := m }⟩
      ∧ (x.pre = false → m = y.amax) := by
  rcases recordProduce_cases s f x tensor vs with reported | ⟨pre, g, eq⟩
  · refine ⟨y.amax, ?_, fun _ => rfl⟩
    rw [reported.eng, ← run]
  · refine ⟨g y.amax, ?_, fun no => by rw [pre] at no; cases no⟩
    rw [eq, engOf_modRun known, run, Option.map_some]

/-- The lane result of a CVT into a plain format. -/
def cvtLane (s : State) (f : Nat) (x : Invocation) (i : EInstr) (l : Nat) : W32 × CvtFlags :=
  if i.fmt = 12 then
    let w := if i.a = 28 then toF32 (cvtSource s f x i l) else operand (engOf s f) x i.a l
    (w, { ovf := fvFinite (cvtSource s f x i l) && isInf32 w, nanIn := fvIsNaN (cvtSource s f x i l) })
  else
    let c := fmtCode i.fmt (!x.nonsat)
      (if cvtStochastic x i then Rnd.sr (laneRandom s x (i.aux % 2 ^ 20) (x.laneRow l) (x.lanePos l)) else .ne)
      (fvScale (produceShift s x (cvtTensor s f x i)) (cvtSource s f x i l))
    (BitVec.ofNat 32 c.1, c.2)

/-- CVT into a plain format writes its lanes, then records magnitudes and overflows. -/
theorem cvtPlain_reported (s : State) (f : Nat) (x : Invocation) (i : EInstr) : ∃ vs,
    Reported (recordProduce (writeLanes s f x i (cvtLane s f x i)) f x (cvtTensor s f x i) vs) (cvtPlain s f x i) := by
  refine ⟨(lanes.filter (laneActive (engOf s f) x i)).map (fun l => toF32 (cvtSource s f x i l)), ?_⟩
  unfold cvtPlain
  dsimp only
  split
  · exact (Reported.refl _).overflowCodes
  · exact .refl _

theorem cvtSource_congr {t : State} (h : SamePlaces s t) (seq : t.seq = s.seq) (l : Nat) : cvtSource t f x i l = cvtSource s f x i l := by
  simp only [cvtSource, h.accPair, engOf_congr seq]

theorem cvtLane_congr {t : State} (h : SamePlaces s t) (scl : t.scl = s.scl) (seq : t.seq = s.seq) (l : Nat) :
    cvtLane t f x i l = cvtLane s f x i l := by
  simp only [cvtLane, cvtSource_congr h seq, engOf_congr seq, h.laneRandom, h.cvtTensor, produceShift_congr scl]

theorem exec_cvt (f : Nat) (i : EInstr) (s : State) : exec (.cvt f i) s =
    elemCmd 0x38 false false f i (fun f x s => if isBlockFmt i.fmt then cvtBlock s f x i else cvtPlain s f x i) s := rfl

/-- CVT into a plain format completes. -/
theorem cvt_plain_completes (h : IssuesNext s f 0x38 i x) (plain : isBlockFmt i.fmt = false) :
    Completes (.cvt f i) s (fun t =>
      (∀ l, l < 256 → vLane (engOf t f) i.d l = laneAfter s f x i l (cvtLane s f x i l).1)
      ∧ (∀ r l, r < 16 → r ≠ i.d → vLane (engOf t f) r l = vLane (engOf s f) r l)
      ∧ (engOf t f).sr = (engOf s f).sr
      ∧ (∃ m, (engOf t f).run = some { x with pc := x.pc + 1, amax := m } ∧ (x.pre = false → m = x.amax))
      ∧ MemSame s t) := by
  obtain ⟨valid, -, next, -, -⟩ := id h
  obtain ⟨run, -, -⟩ := issuing_eq_some next
  have known := known_of_run run
  refine ⟨_, (exec_cvt f i s).trans (elemCmd_next h), ?_⟩
  simp only [plain, Bool.false_eq_true, if_false]
  generalize hc : countCycles s f x 0x38 i.aux = c
  have places : SamePlaces s c := hc ▸ countCycles_places s f x 0x38 i.aux
  have eng : engOf c f = engOf s f := hc ▸ engOf_countCycles 0x38 i.aux
  have seq : c.seq = s.seq := hc ▸ countCycles_seq 0x38 i.aux
  have scl : c.scl = s.scl := by rw [← hc]; rfl
  obtain ⟨vs, reported⟩ := cvtPlain_reported c f x i
  have knownC : f < (writeLanesBut c f x i (fun _ => false) (cvtLane c f x i)).seq.fronds.length := by rwa [length_fronds_writeLanesBut, seq]
  obtain ⟨lane, others, sregs, keeps⟩ := engOf_writeLanesBut (x := x) (i := i) (fun _ => false) (cvtLane c f x i) (seq ▸ known) (dest_lt (by decide) valid)
  rw [eng] at lane others sregs keeps
  obtain ⟨m, recorded, same⟩ := engOf_recordProduce (x := x) knownC (keeps.trans run) (cvtTensor c f x i) vs
  have result : engOf (cvtPlain c f x i) f = _ := (reported.eng f).trans recorded
  have knownT : f < (cvtPlain c f x i).seq.fronds.length := by
    rw [reported.seq]
    exact recordProduce_known knownC _ _
  have v : ∀ r l, vLane (engOf (cvtPlain c f x i) f) r l = vLane (engOf (writeLanesBut c f x i (fun _ => false) (cvtLane c f x i)) f) r l :=
    fun r l => by rw [vLane, result, vLane]
  simp only [vLane_atWord knownT, sr_atWord knownT, v]
  have sr : (engOf (cvtPlain c f x i) f).sr = (engOf s f).sr := by simpa only [result] using sregs
  refine ⟨fun l hl => ?_, others, sr, ⟨m, run_atWord knownT _ (by rw [result]), same⟩, memSame_of_mem ?_⟩
  · rw [lane l hl, laneWritten_unskipped, cvtLane_congr places scl seq]
  · rw [atWord_mem, reported.mem, recordProduce_mem, writeLanes, writeLanesBut_mem, places.mem]

/-! ## Block formats -/

theorem ofSigned_lt (w : Nat) (k : Int) : ofSigned w k < 2 ^ w := by
  have := Int.emod_lt_of_pos k (Int.natCast_pos.mpr (Nat.two_pow_pos w))
  have := Int.emod_nonneg k (Int.ne_of_gt (Int.natCast_pos.mpr (Nat.two_pow_pos w)))
  unfold ofSigned
  omega

/-- Codes of at most eight bits. -/
def ByteCodes (es : List (Nat × CvtFlags)) : Prop := ∀ e ∈ es, e.1 < 256

theorem byteCodes_map {A : Type} {g : A → Nat × CvtFlags} {xs : List A} (h : ∀ a, (g a).1 < 256) : ByteCodes (xs.map g) := by
  intro e he
  obtain ⟨a, -, rfl⟩ := List.mem_map.mp he
  exact h a

theorem nanElem_code (v : FV) : (nanElem v).1 < 256 := by cases v <;> exact Nat.zero_lt_succ _

theorem toInt8_code (r : Rnd) (scale : Nat) (x : FV) : (toInt8 r scale x).1 < 256 := by
  unfold toInt8
  split
  · split
    · exact Nat.zero_lt_succ _
    · dsimp only
      split
      · exact Nat.zero_lt_succ _
      · exact ofSigned_lt 8 _
  · exact Nat.zero_lt_succ _

theorem momentCode_range {lo hi : Int} (t : W32) (hlo : lo ≤ 0) (hhi : 0 ≤ hi) : (momentCode lo hi t).1 ≤ hi := by
  unfold momentCode
  split
  · exact hhi
  · dsimp only
    omega

theorem b2n_le_one (b : Bool) : b2n b ≤ 1 := by cases b <;> decide

theorem toE2M1_codes (r : Nat → Rnd) (xs : List FV) : ByteCodes (toE2M1 r xs).elems := by
  unfold toE2M1
  split
  · exact byteCodes_map nanElem_code
  · refine byteCodes_map fun v => ?_
    split
    · next n _ _ _ =>
      have := b2n_le_one n
      dsimp only
      omega
    · exact Nat.zero_lt_succ _

theorem toQ8B_codes (xs : List FV) : ByteCodes (toQ8B xs).elems := by
  unfold toQ8B
  dsimp only
  split
  · exact byteCodes_map nanElem_code
  · split
    · exact byteCodes_map fun _ => Nat.zero_lt_succ _
    · exact byteCodes_map fun _ => ofSigned_lt 8 _

theorem toU8B_codes (xs : List FV) : ByteCodes (toU8B xs).elems := by
  unfold toU8B
  dsimp only
  split
  · exact byteCodes_map nanElem_code
  · refine byteCodes_map fun v => ?_
    split
    · exact Nat.zero_lt_succ _
    · split
      · exact Nat.zero_lt_succ _
      · have := momentCode_range (lo := 0) (hi := 255)
          (f32mul (f32sqrt (timesF32 v (f32div (toF32 (fvInt 1)) (toF32 (bf16Val (blockScale (amaxOf xs))))))) (toF32 (fvInt 255))) le_rfl (by decide)
        dsimp only
        omega

theorem blockCodes_codes (fmt sc : Nat) (r : Nat → Rnd) (vs : List FV) : ByteCodes (blockCodes fmt sc r vs).elems := by
  unfold blockCodes
  split
  · exact toE2M1_codes r vs
  · exact byteCodes_map fun _ => toInt8_code _ _ _
  · exact toQ8B_codes vs
  · exact toU8B_codes vs

/-- The converted blocks of a CVT, one for each 32 lanes; a block without an active lane has no codes. -/
def cvtBlocks (s : State) (f : Nat) (x : Invocation) (i : EInstr) : List BlockCodes :=
  (List.range 8).map (fun k =>
    let ls := (List.range 32).map (fun j => 32 * k + j)
    match ls.find? (laneActive (engOf s f) x i) with
    | none => (⟨0, []⟩ : BlockCodes)
    | some l0 =>
      let rnd (j : Nat) : Rnd := if cvtStochastic x i then
        .sr (laneRandom s x (i.aux % 2 ^ 20) (x.laneRow (32 * k + j)) (x.lanePos (32 * k + j))) else .ne
      blockCodes i.fmt (scaleBf16 (operand (engOf s f) x i.b l0)) rnd
        (ls.map (fun l => if laneActive (engOf s f) x i l then cvtSource s f x i l else .fin false 0 0)))

/-- The lane result of a CVT into a block format: the code below, the scale of the lane's block above. -/
def cvtBlockLane (bs : List BlockCodes) (l : Nat) : W32 × CvtFlags :=
  let b := bs.getD (l / 32) ⟨0, []⟩
  let c := b.elems.getD (l % 32) (0, {})
  (BitVec.ofNat 32 (c.1 + b.scale * 65536), c.2)

theorem cvtBlock_eq (s : State) (f : Nat) (x : Invocation) (i : EInstr) : cvtBlock s f x i =
    writeLanesBut s f x i (fun l => ((cvtBlocks s f x i).getD (l / 32) ⟨0, []⟩).elems.isEmpty) (cvtBlockLane (cvtBlocks s f x i)) := rfl

theorem cvtBlocks_codes (s : State) (f : Nat) (x : Invocation) (i : EInstr) (k : Nat) :
    ByteCodes ((cvtBlocks s f x i).getD k ⟨0, []⟩).elems := by
  have none_ : ByteCodes (⟨0, []⟩ : BlockCodes).elems := fun _ h => by cases h
  rw [cvtBlocks, List.getD_eq_getElem?_getD, List.getElem?_map]
  cases (List.range 8)[k]? with
  | none => exact none_
  | some k =>
    dsimp only [Option.map_some, Option.getD_some]
    split
    · exact none_
    · exact blockCodes_codes _ _ _ _

theorem getD_code_lt {es : List (Nat × CvtFlags)} (h : ByteCodes es) (k : Nat) : (es.getD k (0, {})).1 < 256 := by
  rw [List.getD_eq_getElem?_getD]
  cases hk : es[k]? with
  | none => exact Nat.zero_lt_succ _
  | some e => exact h e (List.mem_of_getElem? hk)

/-- Bits [15:8] of a lane of a converted block are 0. -/
theorem cvtBlockLane_middle {bs : List BlockCodes} {l : Nat} (codes : ByteCodes (bs.getD (l / 32) ⟨0, []⟩).elems) :
    bitsOf (cvtBlockLane bs l).1.toNat 8 8 = 0 := by
  have code := getD_code_lt codes (l % 32)
  simp only [cvtBlockLane, bitsOf, BitVec.toNat_ofNat, Nat.shiftRight_eq_div_pow]
  omega

/-- Bits [31:16] of a lane of a converted block are its block's scale. -/
theorem cvtBlockLane_scale {bs : List BlockCodes} {l : Nat} (codes : ByteCodes (bs.getD (l / 32) ⟨0, []⟩).elems) :
    (cvtBlockLane bs l).1.toNat / 65536 = (bs.getD (l / 32) ⟨0, []⟩).scale % 65536 := by
  have code := getD_code_lt codes (l % 32)
  simp only [cvtBlockLane, BitVec.toNat_ofNat]
  omega

/-- CVT into a block format completes. -/
theorem cvt_block_completes (h : IssuesNext s f 0x38 i x) (block : isBlockFmt i.fmt = true) :
    Completes (.cvt f i) s (fun t =>
      (∀ l, l < 256 → laneActive (engOf s f) x i l = true → bitsOf (vLane (engOf t f) i.d l).toNat 8 8 = 0)
      ∧ (∀ l m, l < 256 → m < 256 → l / 32 = m / 32 → laneActive (engOf s f) x i l = true → laneActive (engOf s f) x i m = true →
          (vLane (engOf t f) i.d l).toNat / 65536 = (vLane (engOf t f) i.d m).toNat / 65536)
      ∧ (∀ r l, r < 16 → r ≠ i.d → vLane (engOf t f) r l = vLane (engOf s f) r l)
      ∧ (engOf t f).sr = (engOf s f).sr ∧ MemSame s t) := by
  obtain ⟨valid, -, next, -, -⟩ := id h
  obtain ⟨run, -, -⟩ := issuing_eq_some next
  have known := known_of_run run
  refine ⟨_, (exec_cvt f i s).trans (elemCmd_next h), ?_⟩
  simp only [block, if_true, cvtBlock_eq]
  have codes := cvtBlocks_codes (countCycles s f x 0x38 i.aux) f x i
  generalize cvtBlocks (countCycles s f x 0x38 i.aux) f x i = bs at codes
  obtain ⟨lane, others, sregs, -⟩ := engOf_writeLanesBut (s := countCycles s f x 0x38 i.aux) (x := x) (i := i)
    (fun l => (bs.getD (l / 32) ⟨0, []⟩).elems.isEmpty) (cvtBlockLane bs) known (dest_lt (by decide) valid)
  have known' : f < (writeLanesBut (countCycles s f x 0x38 i.aux) f x i (fun l => (bs.getD (l / 32) ⟨0, []⟩).elems.isEmpty)
      (cvtBlockLane bs)).seq.fronds.length := by rwa [length_fronds_writeLanesBut, countCycles_seq]
  simp only [engOf_countCycles] at lane others sregs
  simp only [vLane_atWord known', sr_atWord known']
  refine ⟨fun l hl active => ?_, fun l m hl hm same activeL activeM => ?_, others, sregs, memSame_of_mem ?_⟩
  · rw [lane l hl, laneWritten_active active]
    exact cvtBlockLane_middle (codes _)
  · rw [lane l hl, lane m hm, laneWritten_active activeL, laneWritten_active activeM, cvtBlockLane_scale (codes _), cvtBlockLane_scale (codes _),
      same]
  · rw [atWord_mem, writeLanesBut_mem, countCycles_mem]

end Sys2Proof.Laws
end

section
/-! CERTIFICATES. Conversions, random bits and loads lane by lane (R156, R161 to R165, R438). -/

namespace Sys2Proof.Laws

set_option Elab.async false

open Sys2Proof.Machine

theorem fvScale_zero (v : FV) : fvScale 0 v = v := by
  cases v with
  | nan => rfl
  | inf n => rfl
  | fin n m e => rw [fvScale, Int.add_zero]

theorem widLane_fst (fmt : Nat) (a b : W32) : (widLane fmt a b).1 =
    if fmt = 12 then a else toF32 (codeVal fmt (a.toNat % 2 ^ fmtBits fmt) (b.toNat / 65536)) := by
  unfold widLane
  split
  · rfl
  · rw [widenFlags, fvScale_zero]
    rfl

theorem toSigned_eq_toInt (a : W32) : toSigned 32 a.toNat = a.toInt := by
  have := a.isLt
  rw [BitVec.toInt, toSigned]
  split <;> split <;> omega

/-- The integer that F2I writes, rounded to nearest even. -/
theorem f2iLane_fst (a : W32) : (f2iLane .ne a).1 = match f32v a with
    | .nan => 0
    | .inf n => if n then 0x80000000#32 else 0x7FFFFFFF#32
    | v => match fvToInt .ne (-(2 ^ 31)) (2 ^ 31 - 1) v with
      | some k => BitVec.ofInt 32 k
      | none => 0 := by
  unfold f2iLane
  cases f32v a with
  | nan => rfl
  | inf n => cases n <;> rfl
  | fin n m e =>
    simp only [fvToInt]
    congr 1
    omega

/-- The lane results of F2I, RND and LD. -/
def f2iResult (s : State) (f : Nat) (x : Invocation) (i : EInstr) (l : Nat) : W32 × CvtFlags :=
  f2iLane (if i.rnd = 1 then .sr (laneRandom s x (i.aux % 2 ^ 20) (x.laneRow l) (x.lanePos l)) else .ne) (operand (engOf s f) x i.a l)

def rndResult (s : State) (_f : Nat) (x : Invocation) (i : EInstr) (l : Nat) : W32 × CvtFlags :=
  (BitVec.ofNat 32 (laneRandom s x (i.aux % 2 ^ 20) (x.laneRow l) (x.lanePos l)), {})

def loadResult (s : State) (f : Nat) (x : Invocation) (i : EInstr) (l : Nat) : W32 × CvtFlags :=
  regionRead s f x (i.aux % 4) (if bitsOf i.aux 2 2 = 1 then 0 else x.laneRow l) (if bitsOf i.aux 2 2 = 2 then 0 else x.lanePos l)

/-- Settles O25: CVT by its own two lemmas, the others by the lane they write. -/
theorem elementConversionsWriteLanes : Obligations.ElementConversionsWriteLanes := by
  unfold Obligations.ElementConversionsWriteLanes
  refine ⟨fun s f i x h plain => ?_, fun s f i x h block => cvt_block_completes h block, ?_, ?_, ?_, ?_, ?_⟩
  · obtain ⟨t, next, lane, rest⟩ := cvt_plain_completes h plain
    refine ⟨t, next, fun l hl => (lane l hl).trans (congrArg (laneAfter s f x i l) ?_), rest⟩
    unfold cvtLane
    split <;> rfl
  · exact laneOp_of_writes (eff := fun i => binary (widLane i.fmt) i) (fun _ _ _ => rfl) (fun _ _ _ _ => rfl) (by decide)
      fun _ _ _ _ _ => widLane_fst _ _ _
  · exact lane1_of_unary (by decide) (fun _ _ _ => rfl) fun a => by rw [i2fLane, toSigned_eq_toInt]
  · refine laneOpIf_of_writes (eff := fun i f x s => writeLanes s f x i (f2iResult s f x i)) (count := fun s _ _ => s)
      (res := f2iResult) (fun _ _ _ => rfl) (fun _ _ _ _ => rfl) (fun s _ _ => .refl s) (by decide) fun s f x i l rnd => ?_
    rw [f2iResult, if_neg (by omega)]
    exact f2iLane_fst _
  · exact laneOp_of_writes (eff := fun i f x s => writeLanes s f x i (rndResult s f x i)) (res := rndResult) (fun _ _ _ => rfl)
      (fun _ _ _ _ => rfl) (by decide)
      fun s f x i l => congrArg (BitVec.ofNat 32) ((countCycles_places s f x 0x40 i.aux).laneRandom x _ _ _)
  · exact fun s f i x h => laneOpIf_of_writes (ok := fun _ _ => True) (eff := fun i f x s => loadLanes s f x i)
      (count := fun s x i => cntAdd s 24 (256 * fmtBits (x.fmt (i.aux % 4)) / 8))
      (res := fun s f x i => loadResult (cntAdd s 24 (256 * fmtBits (x.fmt (i.aux % 4)) / 8)) f x i) (fun _ _ _ => rfl) (fun _ _ _ _ => rfl)
      (fun s _ _ => (Reported.refl s).cntAdd) (by decide)
      (fun s f x i l _ => congrArg Prod.fst ((countCycles_places s f x 0x50 i.aux).cntAdd.regionRead rfl f x _ _ _)) s f i x h trivial

end Sys2Proof.Laws
end

section
/-! SUPPORT. Several stores of bytes one behind the other: what stands afterwards when they do not overlap, and elsewhere (R73). -/

namespace Sys2Proof.Laws

set_option Elab.async false

open Sys2Proof.Machine

/-- Stores of bytes at their addresses, in order. -/
def putAll (m : Sparse Byte) (ws : List (Nat × List Byte)) : Sparse Byte := ws.foldl (fun m w => putBytes m w.1 w.2) m

/-- Two stores share no byte. -/
def StoresApart (w v : Nat × List Byte) : Prop := w.1 + w.2.length ≤ v.1 ∨ v.1 + v.2.length ≤ w.1

theorem spGet_putAll_outside {a : Nat} : ∀ {ws : List (Nat × List Byte)} {m : Sparse Byte},
    (∀ w ∈ ws, a < w.1 ∨ w.1 + w.2.length ≤ a) → spGet 0 (putAll m ws) a = spGet 0 m a
  | [], _, _ => rfl
  | w :: ws, m, h =>
    (spGet_putAll_outside (ws := ws) (m := putBytes m w.1 w.2) fun v hv => h v (List.mem_cons_of_mem w hv)).trans
      (spGet_putBytes_outside w.2 (h w List.mem_cons_self))

theorem spGet_putAll_inside {w : Nat × List Byte} {k : Nat} (hk : k < w.2.length) : ∀ {ws : List (Nat × List Byte)} {m : Sparse Byte},
    ws.Pairwise StoresApart → w ∈ ws → spGet 0 (putAll m ws) (w.1 + k) = w.2.getD k 0 := by
  intro ws
  induction ws with
  | nil => intro m _ hw; cases hw
  | cons v ws ih =>
    intro m apart hw
    obtain ⟨first, rest⟩ := List.pairwise_cons.mp apart
    rcases List.mem_cons.mp hw with rfl | hw
    · refine (spGet_putAll_outside (m := putBytes m w.1 w.2) fun u hu => ?_).trans (spGet_putBytes_inside w.2 hk)
      rcases first u hu with h | h
      · exact .inl (by omega)
      · exact .inr (by omega)
    · exact ih rest hw

variable {s t : State} {ws : List (Nat × List Byte)}

/-- The number that stands where it was stored. -/
theorem numAt_putAll {a w c : Nat} (mem : t.mem = putAll s.mem ws) (apart : ws.Pairwise StoresApart) (stored : (a, leBytes w c) ∈ ws) :
    numAt t a w = c % 2 ^ (8 * w) := by
  have bytes : bytesAt t a w = leBytes w c := by
    refine List.ext_getElem (by simp) fun k hk _ => ?_
    have hk' : k < w := by simpa using hk
    have byte := spGet_putAll_inside (m := s.mem) (w := (a, leBytes w c)) (k := k) (by simpa using hk') apart stored
    rw [← mem] at byte
    simpa [bytesAt, byteAt, List.getD_eq_getElem?_getD, hk'] using byte
  rw [numAt, bytes, leVal_leBytes, Nat.pow_mul]

theorem byteAt_putAll {a : Nat} (mem : t.mem = putAll s.mem ws) (outside : ∀ w ∈ ws, a < w.1 ∨ w.1 + w.2.length ≤ a) :
    byteAt t a = byteAt s a := by rw [byteAt, mem, spGet_putAll_outside outside, byteAt]

end Sys2Proof.Laws
end

section
/-! SUPPORT. Stores of the element engine into a region of a plain format: the elements written, nothing else (R146, R160, R162). -/

namespace Sys2Proof.Laws

set_option Elab.async false

open Sys2Proof.Machine

variable {s t u : State} {f r rnd : Nat} {x : Invocation} {i : EInstr}

/-- A region of a format that is neither a block format nor BIT, in whole bytes. -/
structure PlainRegion (s : State) (f : Nat) (x : Invocation) (r : Nat) : Prop where
  plain : isBlockFmt (x.fmt r) = false
  notBit : x.fmt r ≠ 0
  free : regionTensor s f x 0 r = none

/-- Address of the element at (row, p) of a region of whole bytes. -/
def elemAddr (f : Nat) (x : Invocation) (r row p : Nat) : Nat :=
  storeBase f + ((x.region r).1 + row * (x.region r).2.1 + p * (fmtBits (x.fmt r) / 8))

/-- The code that a store writes for an element. -/
def elemCode (s : State) (x : Invocation) (r rnd : Nat) (e : StoreElem) : Nat :=
  match e.val with
  | none => 0
  | some v => exactCode s x r rnd e.row e.p v (e.exact v)

/-- The bytes that a store writes for an element, with their address. -/
def elemWrite (s : State) (f : Nat) (x : Invocation) (r rnd : Nat) (e : StoreElem) : Nat × List Byte :=
  (elemAddr f x r e.row e.p, leBytes (fmtBits (x.fmt r) / 8) (elemCode s x r rnd e))

theorem fmtBits_cases (fmt : Nat) : fmtBits fmt = 1 ∧ fmt = 0 ∨ fmtBits fmt = 4 ∧ fmt = 8 ∨ fmtBits fmt = 8 ∨ fmtBits fmt = 16 ∨ fmtBits fmt = 32 := by
  unfold fmtBits
  split <;> simp

theorem PlainRegion.bits (h : PlainRegion s f x r) : fmtBits (x.fmt r) = 8 ∨ fmtBits (x.fmt r) = 16 ∨ fmtBits (x.fmt r) = 32 := by
  rcases fmtBits_cases (x.fmt r) with ⟨-, bit⟩ | ⟨-, e2m1⟩ | rest
  · exact absurd bit h.notBit
  · have := h.plain
    rw [e2m1] at this
    cases this
  · exact rest

/-- One element of a plain store. -/
def storeElem (s : State) (f : Nat) (x : Invocation) (r rnd : Nat) (u : State) (e : StoreElem) : State :=
  if !e.wr then u
  else match e.val with
    | none => regionPut u f x r e.row e.p 0
    | some v =>
      if x.fmt r = 0 then regionPut u f x r e.row e.p (b2n (decide (v ≠ 0)))
      else if x.fmt r = 12 then regionPut u f x r e.row e.p v.toNat
      else
        let c := fmtCode (x.fmt r) (!x.nonsat) (if rnd = 1 ∨ x.grad r = true then .sr (laneRandom s x 0 e.row e.p) else .ne) (fvScale 0 (e.exact v))
        let u := eeFlags (regionPut u f x r e.row e.p c.1) f c.2
        if x.fmt r = 5 then overflowCodes u x.step [c.1] else u

theorem regionStore_plain (h : PlainRegion s f x r) (scale : List W32) (es : List StoreElem) : ∃ n,
    regionStore s f x r rnd scale es = es.foldl (storeElem s f x r rnd) (cntAdd s 25 n) := by
  refine ⟨(es.filter (·.wr)).length * fmtBits (x.fmt r) / 8, ?_⟩
  unfold regionStore
  rw [h.free]
  simp only [recordProduce, prePass, Bool.and_false, h.plain, Bool.false_eq_true, if_false]
  rfl

theorem regionPut_plain (h : PlainRegion s f x r) (u : State) (row p c : Nat) :
    regionPut u f x r row p c = setBytes u (elemAddr f x r row p) (leBytes (fmtBits (x.fmt r) / 8) c) := by
  have bits := h.bits
  rw [regionPut, if_neg (by omega), elemAddr]
  simp only [Nat.add_assoc]

/-- A written element changes its own bytes; flags and overflows are reported. -/
theorem storeElem_reported (h : PlainRegion s f x r) (u : State) {e : StoreElem} (wr : e.wr = true) :
    Reported (setBytes u (elemWrite s f x r rnd e).1 (elemWrite s f x r rnd e).2) (storeElem s f x r rnd u e) := by
  unfold storeElem elemWrite elemCode
  rw [wr]
  cases e.val with
  | none => exact (regionPut_plain h u _ _ _) ▸ .refl _
  | some v =>
    simp only [Bool.not_true, Bool.false_eq_true, if_false, if_neg h.notBit, exactCode, fvScale_zero, regionPut_plain h]
    generalize (if rnd = 1 ∨ x.grad r = true then Rnd.sr (laneRandom s x 0 e.row e.p) else Rnd.ne) = mode
    split
    · exact .refl _
    · split
      · exact (Reported.refl _).eeFlags.overflowCodes
      · exact (Reported.refl _).eeFlags

theorem storeElem_skipped {e : StoreElem} (wr : e.wr = false) : storeElem s f x r rnd u e = u := by
  rw [storeElem, wr]
  rfl

/-- Memory written, then flags and counts reported. -/
def Wrote (s : State) (ws : List (Nat × List Byte)) (t : State) : Prop := Reported { s with mem := putAll s.mem ws } t

theorem Wrote.mem {ws : List (Nat × List Byte)} (h : Wrote s ws t) : t.mem = putAll s.mem ws := Reported.mem h
theorem Wrote.eng {ws : List (Nat × List Byte)} (h : Wrote s ws t) (f : Nat) : engOf t f = engOf s f := (Reported.eng h f).trans rfl
theorem Wrote.seq {ws : List (Nat × List Byte)} (h : Wrote s ws t) : t.seq = s.seq := by
  have reported : Reported { s with mem := putAll s.mem ws } t := h
  exact reported.seq

theorem Wrote.snoc {ws : List (Nat × List Byte)} {w : Nat × List Byte} (h : Wrote s ws u) (next : Reported (setBytes u w.1 w.2) t) :
    Wrote s (ws ++ [w]) t := by
  have first := Reported.same h
  refine Reported.trans ⟨?_⟩ next
  have mem : putAll s.mem (ws ++ [w]) = putBytes (putAll s.mem ws) w.1 w.2 := by rw [putAll, List.foldl_append]; rfl
  rw [mem]
  generalize u.regs = a, u.evg = b, u.cnt = c, u.out = d, u.scl = e, u.free = n at first
  subst first
  rfl

theorem storeElems_wrote (h : PlainRegion s f x r) (es : List StoreElem) : ∀ {ws : List (Nat × List Byte)} {u : State}, Wrote s ws u →
    Wrote s (ws ++ (es.filter (·.wr)).map (elemWrite s f x r rnd)) (es.foldl (storeElem s f x r rnd) u) := by
  induction es with
  | nil => intro ws u hu; simpa using hu
  | cons e es ih =>
    intro ws u hu
    cases wr : e.wr with
    | false =>
      simpa [List.filter_cons, wr, storeElem_skipped wr] using ih hu
    | true =>
      have rest := ih (hu.snoc (storeElem_reported (rnd := rnd) h u wr))
      simpa [List.filter_cons, wr] using rest

/-- A plain store writes the bytes of its elements, in order. -/
theorem regionStore_wrote (h : PlainRegion s f x r) (scale : List W32) (es : List StoreElem) :
    Wrote s ((es.filter (·.wr)).map (elemWrite s f x r rnd)) (regionStore s f x r rnd scale es) := by
  obtain ⟨n, eq⟩ := regionStore_plain (rnd := rnd) h scale es
  rw [eq]
  exact storeElems_wrote h es (ws := []) (Reported.refl s).cntAdd

end Sys2Proof.Laws
end

section
/-! SUPPORT. ST into a region of a plain format (R146, R160, R162). -/

namespace Sys2Proof.Laws

set_option Elab.async false

open Sys2Proof.Machine

variable {s c : State} {f : Nat} {x : Invocation} {i : EInstr}

/-- The element that a lane stores. -/
def laneElem (e : Engine) (x : Invocation) (i : EInstr) (l : Nat) : StoreElem where
  row := x.laneRow l
  p := x.lanePos l
  val := if laneActive e x i l then some (operand e x i.a l) else none
  wr := laneActive e x i l || (x.inside l && i.maskEn && i.zero)

theorem storeLanes_eq (s : State) (f : Nat) (x : Invocation) (i : EInstr) : storeLanes s f x i =
    regionStore s f x (i.aux % 4) i.rnd (lanes.map (operand (engOf s f) x i.b)) (lanes.map (laneElem (engOf s f) x i)) := rfl

theorem exec_st (f : Nat) (i : EInstr) (s : State) :
    exec (.st f i) s = elemCmd 0x52 false false f i (fun f x s => storeLanes s f x i) s := rfl

/-- Without zeroing, the elements written are those of the active lanes. -/
theorem filter_laneElem (keeps : (i.maskEn && i.zero) = false) (e : Engine) :
    (lanes.map (laneElem e x i)).filter (·.wr) = (lanes.filter (laneActive e x i)).map (laneElem e x i) := by
  rw [List.filter_map]
  refine congrArg _ (List.filter_congr fun l _ => ?_)
  simp [laneElem, Bool.and_assoc, keeps]

/-- The address and the bytes that an active lane stores. -/
theorem elemWrite_laneElem {e : Engine} {r l : Nat} (active : laneActive e x i l = true) :
    elemWrite s f x r i.rnd (laneElem e x i l)
      = (storeBase f + storeOffset x r (fmtBits (x.fmt r) / 8) l,
          leBytes (fmtBits (x.fmt r) / 8) (plainCode s x r i.rnd (x.laneRow l) (x.lanePos l) (operand e x i.a l))) := by
  simp [elemWrite, laneElem, elemCode, active, elemAddr, storeOffset, plainCode, StoreElem.exact]

theorem plainCode_congr (places : SamePlaces s c) (r rnd row p : Nat) (v : W32) :
    plainCode c x r rnd row p v = plainCode s x r rnd row p v := by
  simp only [plainCode, exactCode, places.laneRandom]

/-- The lanes that the instruction stores. -/
def activeLanes (e : Engine) (x : Invocation) (i : EInstr) : List Nat := lanes.filter (laneActive e x i)

theorem mem_activeLanes {e : Engine} {l : Nat} : l ∈ activeLanes e x i ↔ l < 256 ∧ laneActive e x i l = true := by
  simp [activeLanes, lanes]

/-- The address and the bytes that lane `l` stores into region `r`. -/
def laneWrite (s : State) (f : Nat) (x : Invocation) (i : EInstr) (r l : Nat) : Nat × List Byte :=
  (storeBase f + storeOffset x r (fmtBits (x.fmt r) / 8) l,
    leBytes (fmtBits (x.fmt r) / 8) (plainCode s x r i.rnd (x.laneRow l) (x.lanePos l) (opA s f x i l)))

theorem laneWrites_apart {r : Nat} {ls : List Nat} (increasing : ls.Pairwise (· < ·))
    (apart : ∀ l ∈ ls, ∀ m ∈ ls, l ≠ m → storeOffset x r (fmtBits (x.fmt r) / 8) l + fmtBits (x.fmt r) / 8 ≤ storeOffset x r (fmtBits (x.fmt r) / 8) m
      ∨ storeOffset x r (fmtBits (x.fmt r) / 8) m + fmtBits (x.fmt r) / 8 ≤ storeOffset x r (fmtBits (x.fmt r) / 8) l) :
    (ls.map (laneWrite s f x i r)).Pairwise StoresApart := by
  refine List.pairwise_map.mpr (increasing.imp_of_mem fun {l m} hl hm lt => ?_)
  have := apart l hl m hm (Nat.ne_of_lt lt)
  simp only [StoresApart, laneWrite, leBytes_length]
  omega

/-- What ST writes: the bytes of its active lanes, in order. -/
theorem storeLanes_wrote (reported : Reported s c) (places : SamePlaces s c) (region : PlainRegion s f x (bitsOf i.aux 0 2))
    (keeps : (i.maskEn && i.zero) = false) :
    Wrote c ((activeLanes (engOf s f) x i).map (laneWrite s f x i (bitsOf i.aux 0 2))) (storeLanes c f x i) := by
  have regionC : PlainRegion c f x (bitsOf i.aux 0 2) := ⟨region.plain, region.notBit, (places.regionTensor ..).trans region.free⟩
  have wrote := regionStore_wrote (rnd := i.rnd) regionC (lanes.map (operand (engOf c f) x i.b)) (lanes.map (laneElem (engOf c f) x i))
  rw [filter_laneElem keeps, List.map_map, reported.eng] at wrote
  rw [storeLanes_eq, reported.eng]
  refine (List.map_congr_left fun l hl => ?_) ▸ wrote
  rw [Function.comp_apply, elemWrite_laneElem (mem_activeLanes.mp hl).2, plainCode_congr places]
  rfl

theorem st_plain_completes (h : IssuesNext s f 0x52 i x) (plain : isBlockFmt (x.fmt (bitsOf i.aux 0 2)) = false)
    (notBit : x.fmt (bitsOf i.aux 0 2) ≠ 0) (free : regionTensor s f x 0 (bitsOf i.aux 0 2) = none) (keeps : (i.maskEn && i.zero) = false)
    (apart : ∀ l m, l < 256 → m < 256 → l ≠ m → laneActive (engOf s f) x i l = true → laneActive (engOf s f) x i m = true →
      let r := bitsOf i.aux 0 2
      let w := fmtBits (x.fmt r) / 8
      storeOffset x r w l + w ≤ storeOffset x r w m ∨ storeOffset x r w m + w ≤ storeOffset x r w l) :
    let r := bitsOf i.aux 0 2
    let w := fmtBits (x.fmt r) / 8
    Completes (.st f i) s (fun t =>
      (∀ l, l < 256 → laneActive (engOf s f) x i l = true →
        numAt t (storeBase f + storeOffset x r w l) w = plainCode s x r i.rnd (x.laneRow l) (x.lanePos l) (opA s f x i l) % 2 ^ (8 * w))
      ∧ (∀ a, (∀ l, l < 256 → laneActive (engOf s f) x i l = true →
            a < storeBase f + storeOffset x r w l ∨ storeBase f + storeOffset x r w l + w ≤ a) → byteAt t a = byteAt s a)
      ∧ (engOf t f).v = (engOf s f).v ∧ (engOf t f).sr = (engOf s f).sr ∧ (engOf t f).run = some { x with pc := x.pc + 1 }) := by
  obtain ⟨-, -, next, -, -⟩ := id h
  obtain ⟨run, -, -⟩ := issuing_eq_some next
  have reported : Reported s (countCycles s f x 0x52 i.aux) := (Reported.refl s).countCycles
  have wrote := storeLanes_wrote reported (countCycles_places s f x 0x52 i.aux) ⟨plain, notBit, free⟩ keeps
  have eng := (wrote.eng f).trans (reported.eng f)
  have known : f < (storeLanes (countCycles s f x 0x52 i.aux) f x i).seq.fronds.length := by
    rw [wrote.seq, reported.seq]
    exact known_of_run run
  have writes : (activeLanes (engOf s f) x i).map (laneWrite s f x i (bitsOf i.aux 0 2)) |>.Pairwise StoresApart :=
    laneWrites_apart (List.pairwise_lt_range.filter _) fun l hl m hm ne =>
      apart l m (mem_activeLanes.mp hl).1 (mem_activeLanes.mp hm).1 ne (mem_activeLanes.mp hl).2 (mem_activeLanes.mp hm).2
  have mem : (atWord (storeLanes (countCycles s f x 0x52 i.aux) f x i) f (x.pc + 1)).mem = putAll s.mem _ :=
    (atWord_mem _).trans (wrote.mem.trans (by rw [reported.mem]))
  refine ⟨_, (exec_st f i s).trans (elemCmd_next h), fun l hl active => ?_, fun a outside => ?_, ?_, ?_, ?_⟩
  · exact numAt_putAll mem writes (List.mem_map_of_mem (mem_activeLanes.mpr ⟨hl, active⟩))
  · refine byteAt_putAll mem fun w hw => ?_
    obtain ⟨l, hl, rfl⟩ := List.mem_map.mp hw
    obtain ⟨lt, active⟩ := mem_activeLanes.mp hl
    simpa [laneWrite] using outside l lt active
  · rw [v_atWord known, eng]
  · rw [sr_atWord known, eng]
  · exact run_atWord known _ ((congrArg Engine.run eng).trans run)

end Sys2Proof.Laws
end

section
/-! SUPPORT. What the end of an invocation leaves unchanged on its frond: the s registers and the counts of empty and NaN rows, through the
op's completion, what parameters it lets be placed, and the next list (R178, R365, R374, R362). -/

namespace Sys2Proof.Laws

set_option Elab.async false

open Sys2Proof.Machine

/-! ## Fronds -/

theorem getD_modAt_of_eq {A B : Type} {g : A → A} (read : A → B) (same : ∀ x, read (g x) = read x) (d : A) :
    ∀ (xs : List A) (k i : Nat), read ((modAt g xs k).getD i d) = read (xs.getD i d)
  | [], _, _ => rfl
  | _ :: _, 0, 0 => same _
  | _ :: _, 0, _ + 1 => rfl
  | _ :: _, _ + 1, 0 => rfl
  | _ :: xs, k + 1, i + 1 => getD_modAt_of_eq read same d xs k i

/-- What a change of an engine leaves as it was. -/
theorem engOf_modEng_of_eq {B : Type} {s : State} {f g : Nat} {h : Engine → Engine} (read : Engine → B) (same : ∀ e, read (h e) = read e) :
    read (engOf (modEng s g h) f) = read (engOf s f) :=
  getD_modAt_of_eq (g := fun x : FrondState => { x with eng := h x.eng }) (fun x => read x.eng) (fun x => same x.eng) _ _ _ _

/-- The registers of frond `f` that count empty and NaN rows. -/
def rowCount (f r : Nat) : Prop := r = R.FRD_EE_EMPTY_CNT f ∨ r = R.FRD_EE_NANROW_CNT f

theorem rowCount_lt {f r : Nat} (h : rowCount f r) (hf : f < 32) : 0x100000 ≤ r ∧ r < 0x400000 := by
  unfold rowCount R.FRD_EE_EMPTY_CNT R.FRD_EE_NANROW_CNT at h
  omega

theorem rowCount_not_sent {f r : Nat} (h : rowCount f r) (hf : f < 32) : ¬ sendReg r :=
  Sent.not_sendReg_mid (by have := rowCount_lt h hf; omega) (by have := rowCount_lt h hf; omega)

/-- From `s₀` to `s` the s registers of frond `f` and its counts of empty and NaN rows are as they were; a frond beyond the device's 32 has no
such counts of its own. -/
structure RowsKept (f : Nat) (s₀ s : State) : Prop where
  sr : (engOf s f).sr = (engOf s₀ f).sr
  counts : f < 32 → ∀ r, rowCount f r → reg s r = reg s₀ r

namespace RowsKept

variable {f : Nat} {s₀ s t : State}

protected theorem refl (s : State) : RowsKept f s s := ⟨rfl, fun _ _ _ => rfl⟩

protected theorem trans (hs : RowsKept f s₀ s) (ht : RowsKept f s t) : RowsKept f s₀ t :=
  ⟨ht.sr.trans hs.sr, fun hf r hr => (ht.counts hf r hr).trans (hs.counts hf r hr)⟩

/-- A change of neither fronds nor registers. -/
theorem put (hs : RowsKept f s₀ s) (hseq : t.seq.fronds = s.seq.fronds := by rfl) (hregs : t.regs = s.regs := by rfl) : RowsKept f s₀ t :=
  hs.trans ⟨by rw [engOf, frondOf, hseq, engOf, frondOf], fun _ r _ => by rw [reg, hregs, reg]⟩

protected theorem ite {c : Prop} {d : Decidable c} (hs : RowsKept f s₀ s) (ht : RowsKept f s₀ t) : RowsKept f s₀ (if c then s else t) := by
  split
  · exact hs
  · exact ht

protected theorem forEach {A : Type} {g : State → A → State} {xs : List A} (hs : RowsKept f s₀ s)
    (hg : ∀ s a, RowsKept f s₀ s → RowsKept f s₀ (g s a)) : RowsKept f s₀ (forEach g s xs) := by
  induction xs generalizing s with
  | nil => exact hs
  | cons x xs ih => exact ih (hg s x hs)

protected theorem getD {o : Option State} (hs : RowsKept f s₀ s) (ho : ∀ t, o = some t → RowsKept f s₀ t) : RowsKept f s₀ (o.getD s) := by
  cases o with
  | none => exact hs
  | some t => exact ho t rfl

/-- A register below or above those of the fronds. -/
def Far (r : Nat) : Prop := r < 0x100000 ∨ 0x400000 ≤ r

theorem ne_of_far {r q : Nat} (far : Far r) (h : rowCount f q) (hf : f < 32) : q ≠ r := by
  have := rowCount_lt h hf
  unfold Far at far
  omega

/-- A register of a frond at another offset than the two counts. -/
theorem ne_of_offset {g o q : Nat} (h : rowCount f q) (low : o < 0x10000 := by decide) (ne : o ≠ 0x128 ∧ o ≠ 0x130 := by decide) :
    q ≠ 0x100000 + o + g * 0x10000 := by
  unfold rowCount R.FRD_EE_EMPTY_CNT R.FRD_EE_NANROW_CNT at h
  omega

protected theorem setReg {r : Nat} {v : W64} (hs : RowsKept f s₀ s) (hr : f < 32 → ∀ q, rowCount f q → q ≠ r) : RowsKept f s₀ (setReg s r v) :=
  hs.trans ⟨rfl, fun hf q hq => reg_setReg_ne s v (hr hf q hq)⟩

protected theorem wf {r x : Nat} {g : Field} (hs : RowsKept f s₀ s) (hr : Far r := by exact .inl (by decide)) : RowsKept f s₀ (wf s r g x) :=
  hs.setReg fun hf _ hq => ne_of_far hr hq hf

protected theorem bump {r n : Nat} (hs : RowsKept f s₀ s) (hr : Far r := by exact .inl (by decide)) : RowsKept f s₀ (bump s r n) :=
  (hs.setReg (r := r) fun hf _ hq => ne_of_far hr hq hf).put

protected theorem modFrond {g : Nat} {h : FrondState → FrondState} (hs : RowsKept f s₀ s)
    (same : ∀ x, (h x).eng.sr = x.eng.sr := by intro; rfl) : RowsKept f s₀ (modFrond s g h) :=
  hs.trans ⟨getD_modAt_of_eq (fun x : FrondState => x.eng.sr) same _ _ _ _, fun _ _ _ => rfl⟩

theorem reported (hs : RowsKept f s₀ s) (ht : Reported s t) (hr : f < 32 → ∀ r, rowCount f r → reg t r = reg s r) : RowsKept f s₀ t :=
  hs.trans ⟨congrArg Engine.sr (ht.eng f), hr⟩

protected theorem evgFireIf {en : Bool} {src : Nat} (hs : RowsKept f s₀ s) (h : f < 32 → src < 320 := by intro; decide) :
    RowsKept f s₀ (evgFireIf s en src) :=
  hs.reported (Reported.refl s).evgFireIf fun hf _ hr => ((Sent.refl s).evgFireIf (h hf)).reg _ (rowCount_not_sent hr hf)

protected theorem counted (hs : RowsKept f s₀ s) (ht : Counted s t) : RowsKept f s₀ t :=
  hs.reported ⟨by rw [ht.same]⟩ fun hf _ hr => ht.reg _ (rowCount_lt hr hf).2

protected theorem flagEvent {r src : Nat} {fl : Field} {en : Bool} (hs : RowsKept f s₀ s) (hr : f < 32 → ∀ q, rowCount f q → q ≠ r)
    (h : f < 32 → src < 320) : RowsKept f s₀ (flagEvent s r fl en src) :=
  .ite hs (.evgFireIf (hs.setReg hr) h)

/-- A flag of the frond's FRD_EE_FLAGS, with its event. -/
theorem eeFlag {fl : Field} {en : Bool} (hs : RowsKept f s₀ s) : RowsKept f s₀ (Machine.flagEvent s (R.FRD_EE_FLAGS f) fl en (32 + f)) :=
  hs.flagEvent (fun _ _ hq => ne_of_offset (o := 0x110) hq) fun _ => by omega

protected theorem eeFlags {c : CvtFlags} (hs : RowsKept f s₀ s) : RowsKept f s₀ (eeFlags s f c) := by
  unfold eeFlags
  extract_lets _ _ s₁ s₂
  have hs₁ : RowsKept f s₀ s₁ := .ite hs.eeFlag hs
  have hs₂ : RowsKept f s₀ s₂ := .ite hs₁.eeFlag hs₁
  exact .ite hs₂.eeFlag hs₂

protected theorem rowSticky {fl : Field} (hs : RowsKept f s₀ s) : RowsKept f s₀ (rowSticky s f fl) := hs.eeFlag

protected theorem sclLate {k : Nat} (hs : RowsKept f s₀ s) : RowsKept f s₀ (sclLate s k) :=
  .flagEvent (hs.bump (r := R.SCL_LATE_CNT)) (fun hf _ hq => ne_of_far (.inl (by decide)) hq hf) fun _ => by decide

protected theorem overflowCodes {n : Nat} {codes : List Nat} (hs : RowsKept f s₀ s) : RowsKept f s₀ (overflowCodes s n codes) :=
  .ite hs (.ite hs.sclLate (.ite hs hs.put))

protected theorem recordAmax {t n k : Nat} {a : W32} (hs : RowsKept f s₀ s) : RowsKept f s₀ (recordAmax s t n k a) :=
  .ite (.sclLate hs.put) hs.put

/-! ## Writes of memory -/

protected theorem violation {source addr requester : Nat} {write : Bool} {cause : Nat} (hs : RowsKept f s₀ s) :
    RowsKept f s₀ (violation s source addr requester write cause) := by
  unfold violation
  have head : rf s R.HST_VIOL_HEAD F.HST_VIOL_HEAD_head < 16 := Nat.mod_lt _ (by decide)
  have w0 : Far (R.HST_VIOL_LOG_W0 (rf s R.HST_VIOL_HEAD F.HST_VIOL_HEAD_head)) := .inl (by unfold R.HST_VIOL_LOG_W0; omega)
  have w1 : Far (R.HST_VIOL_LOG_W1 (rf s R.HST_VIOL_HEAD F.HST_VIOL_HEAD_head)) := .inl (by unfold R.HST_VIOL_LOG_W1; omega)
  exact .evgFireIf (.put (.bump (r := R.HST_VIOL_CNT) (.wf (r := R.HST_VIOL_HEAD)
    (.setReg (.setReg hs fun hf _ hq => ne_of_far w0 hq hf) fun hf _ hq => ne_of_far w1 hq hf))))

protected theorem hbmSet {a : Nat} {bs : List Byte} (hs : RowsKept f s₀ s) : RowsKept f s₀ (hbmSet s a bs) := by
  obtain ⟨l, hl, -⟩ := hbmSet_eq s a bs
  rw [hl]
  exact hs.put

protected theorem rawWrite {a : Nat} {bs : List Byte} (hs : RowsKept f s₀ s) : RowsKept f s₀ (rawWrite s a bs) :=
  hs.hbmSet.counted (rawWrite_counted s a bs)

protected theorem tierPressure (hs : RowsKept f s₀ s) : RowsKept f s₀ (tierPressure s) := by
  unfold tierPressure
  extract_lets _ _ _ _ _ s₃
  have low : RowsKept f s₀ (Machine.wf s R.TIER_STATUS F.TIER_STATUS_low 1) := hs.wf
  have hs₃ : RowsKept f s₀ s₃ := .ite (.ite low.put (.evgFireIf (.wf low.put))) hs.wf
  split
  · exact hs
  · exact .ite hs₃.put hs₃

protected theorem tierFull (hs : RowsKept f s₀ s) : RowsKept f s₀ (tierFull s) :=
  .ite hs (.evgFireIf (.put ((hs.wf (r := R.TIER_STATUS)).wf (r := R.TIER_FLAGS))))

protected theorem queuePromotion {p heat : Nat} (hs : RowsKept f s₀ s) : RowsKept f s₀ (queuePromotion s p heat) := by
  unfold queuePromotion
  refine .ite hs (.ite hs.put ?_)
  split
  · exact hs
  · exact .ite hs.put hs

protected theorem touch {p : Nat} (hs : RowsKept f s₀ s) : RowsKept f s₀ (touch s p) := by
  unfold touch
  extract_lets _ _ _ _ _ _ s₂ _ s₃
  have hs₂ : RowsKept f s₀ s₂ := hs.put
  have hs₃ : RowsKept f s₀ s₃ := .ite hs₂.put hs₂
  refine .ite hs ?_
  split
  · exact hs₂
  · exact .ite hs₃.queuePromotion hs₃

theorem far_wrBytes (k : Nat) : Far (R.STK_WR_BYTES k) := .inr (by unfold R.STK_WR_BYTES; omega)

protected theorem countPlaceWrite {pl : Place} {n : Nat} (hs : RowsKept f s₀ s) : RowsKept f s₀ (countPlaceWrite s pl n) := by
  unfold countPlaceWrite
  split
  · exact (hs.bump (far_wrBytes _)).put
  · exact hs.put

protected theorem placeWrite {pl : Place} {off : Nat} {bs : List Byte} (hs : RowsKept f s₀ s) : RowsKept f s₀ (placeWrite s pl off bs) := by
  unfold placeWrite
  split
  · exact hs.hbmSet.countPlaceWrite
  · exact .countPlaceWrite hs.put

protected theorem pagePut {p off : Nat} {bs : List Byte} (hs : RowsKept f s₀ s) : RowsKept f s₀ (pagePut s p off bs) := by
  unfold pagePut
  split
  · exact hs
  · exact hs.placeWrite.put

protected theorem zeroPlace {pl : Place} (hs : RowsKept f s₀ s) : RowsKept f s₀ (zeroPlace s pl) := by
  unfold zeroPlace
  split
  · exact hs.put
  · exact hs.put

protected theorem allocPage {p : Nat} (hs : RowsKept f s₀ s) (ht : allocPage s p = some t) : RowsKept f s₀ t := by
  simp only [allocPage, Option.map_eq_some_iff] at ht
  obtain ⟨pl, -, rfl⟩ := ht
  exact .tierPressure (.zeroPlace hs.put)

protected theorem backPages {ps : List Nat} (hs : RowsKept f s₀ s) (ht : backPages s ps = some t) : RowsKept f s₀ t := by
  induction ps generalizing s with
  | nil => cases ht; exact hs
  | cons p ps ih =>
    unfold backPages at ht
    split at ht
    · obtain ⟨s', hp, ht⟩ := Option.bind_eq_some_iff.1 ht
      exact ih (hs.allocPage hp) ht
    · exact ih hs ht

protected theorem tierPutAs {w : HeldWrite} (hs : RowsKept f s₀ s) : RowsKept f s₀ (tierPutAs s w) := by
  unfold tierPutAs
  refine .ite hs.put ?_
  split
  · exact hs.put
  · split
    · exact hs.tierFull.put
    · next backed => exact .forEach ((hs.backPages backed).forEach fun _ _ h => h.pagePut) fun _ _ h => h.touch

protected theorem devWrite {a : Nat} {bs : List Byte} (hs : RowsKept f s₀ s) (ht : devWrite s a bs = some t) : RowsKept f s₀ t := by
  unfold devWrite devWriteAt at ht
  extract_lets at ht
  split at ht
  · cases ht; exact .ite hs hs.tierPutAs
  · split at ht
    · split at ht
      · split at ht
        · cases ht; exact hs.put
        · cases ht; exact hs.rawWrite
      · cases ht
    · split at ht
      · cases ht; exact hs.put
      · cases ht

/-! ## Parameters, lists and lookups -/

protected theorem setSb {g b : Nat} {v : Bool} (hs : RowsKept f s₀ s) : RowsKept f s₀ (setSb s g b v) := hs.modFrond

protected theorem putParam {m : ParamMsg} {n dest frond addr : Nat} (hs : RowsKept f s₀ s) : RowsKept f s₀ (putParam s m n dest frond addr) := by
  unfold putParam
  extract_lets e arrival store mem
  have h_store : ∀ s a bs, RowsKept f s₀ s → RowsKept f s₀ (store s a bs) := fun _ _ _ h => h.put
  have h_mem : ∀ s a bs, RowsKept f s₀ s → RowsKept f s₀ (mem s a bs) := fun _ _ _ h => .ite h.violation (h.getD fun _ ht => h.devWrite ht)
  have h_arrival : ∀ s put a, (∀ s a bs, RowsKept f s₀ s → RowsKept f s₀ (put s a bs)) → RowsKept f s₀ s → RowsKept f s₀ (arrival s put a) :=
    fun _ _ _ hput h => .ite (hput _ _ _ (hput _ _ _ h)) (hput _ _ _ h)
  split
  · exact h_store _ _ _ hs
  · exact h_arrival _ _ _ h_store hs
  · exact h_arrival _ _ _ h_mem (h_mem _ _ _ hs)

protected theorem setParamBits {k : Nat} (hs : RowsKept f s₀ s) : RowsKept f s₀ (setParamBits s k) :=
  hs.forEach fun _ _ h => .ite h.setSb h

protected theorem placeParam {m : ParamMsg} {n : Nat} (hs : RowsKept f s₀ s) : RowsKept f s₀ (placeParam s m n) := by
  unfold placeParam
  extract_lets _ s₁
  have hs₁ : RowsKept f s₀ s₁ := hs.forEach fun _ _ h => h.putParam
  exact .ite (.setParamBits hs₁.put) hs₁.put

protected theorem pumpParams (hs : RowsKept f s₀ s) : RowsKept f s₀ (pumpParams s) := by
  unfold pumpParams
  refine .ite hs (.forEach hs.put fun s a h => ?_)
  split
  · exact h.placeParam
  · exact h

/-- A field of a frond's FRD_PLAN_STATUS. -/
theorem planStatus {g x : Nat} {fl : Field} (hs : RowsKept f s₀ s) : RowsKept f s₀ (Machine.wf s (R.FRD_PLAN_STATUS g) fl x) :=
  hs.setReg fun _ _ hq => ne_of_offset (o := 0x180) hq

/-- A field of a frond's FRD_EE_STATUS. -/
theorem eeStatus {g x : Nat} {fl : Field} (hs : RowsKept f s₀ s) : RowsKept f s₀ (Machine.wf s (R.FRD_EE_STATUS g) fl x) :=
  hs.setReg fun _ _ hq => ne_of_offset (o := 0x100) hq

protected theorem startList {g n : Nat} (hs : RowsKept f s₀ s) : RowsKept f s₀ (startList s g n) := by
  unfold startList
  extract_lets s₁ _ s₂ _ _ s₃
  have hs₁ : RowsKept f s₀ s₁ := hs.modFrond
  have hs₃ : RowsKept f s₀ s₃ := .planStatus (.planStatus hs₁.put)
  exact .ite hs₃.planStatus.planStatus hs₃.planStatus.planStatus

protected theorem listGoesOn {g : Nat} (hs : RowsKept f s₀ s) : RowsKept f s₀ (listGoesOn s g) := by
  unfold listGoesOn
  extract_lets s₁
  have hs₁ : RowsKept f s₀ s₁ := hs.pumpParams
  refine .ite hs ?_
  split
  · exact hs₁.startList
  · exact hs₁

protected theorem writeBatch {b : Batch} (hs : RowsKept f s₀ s) : RowsKept f s₀ (writeBatch s b) := by
  unfold writeBatch
  split
  · extract_lets _ s₁ s₂
    have hs₁ : RowsKept f s₀ s₁ := hs.forEach fun _ _ h => by
      refine .ite (.wf (.put h) (.inr ?_)) h.put
      unfold R.SOR_LK_FLAGS
      omega
    have hs₂ : RowsKept f s₀ s₂ := hs₁.bump (.inr (by unfold R.SOR_LK_BAG_CNT; omega))
    exact hs₂.put
  · exact hs

protected theorem poolParity {p : Nat} (hs : RowsKept f s₀ s) : RowsKept f s₀ (poolParity s p) := by
  unfold poolParity
  extract_lets s₁
  have hs₁ : RowsKept f s₀ s₁ := hs.forEach fun _ _ h => h.setSb
  split
  · exact hs
  · extract_lets s₂ s₃ s₄
    have hs₂ : RowsKept f s₀ s₂ := .ite hs (.ite hs₁.put hs)
    have hs₃ : RowsKept f s₀ s₃ := hs₂.forEach fun _ _ h => h.writeBatch
    have hs₄ : RowsKept f s₀ s₄ := hs₃.forEach fun _ _ h => h.setSb
    exact .ite hs₂ (.ite hs₄.put hs₃)

protected theorem returnCredit {g : Nat} {o : PlanOp} (hs : RowsKept f s₀ s) : RowsKept f s₀ (returnCredit s g o) := by
  unfold returnCredit
  refine .ite ?_ hs
  split
  · exact hs
  · exact .ite hs.put hs.put

protected theorem opDone {g h : Nat} {o : PlanOp} (hs : RowsKept f s₀ s) : RowsKept f s₀ (opDone s g h o) := by
  unfold opDone
  extract_lets _ _ _ s₃ _ _ s₅
  have hs₃ : RowsKept f s₀ s₃ := .modFrond (.returnCredit (.ite hs.setSb hs))
  have hs₅ : RowsKept f s₀ s₅ := .listGoesOn (.ite hs₃.planStatus.planStatus hs₃)
  exact .ite hs₅.poolParity.poolParity hs₅

protected theorem drainDone {g k : Nat} {o : PlanOp} (hs : RowsKept f s₀ s) : RowsKept f s₀ (drainDone s g k o) :=
  .opDone (.modFrond (hs.setReg fun _ _ hq => ne_of_offset (o := 0x8) hq))

/-! ## The engine -/

protected theorem modEng {g : Nat} {h : Engine → Engine} (hs : RowsKept f s₀ s) (same : ∀ e, (h e).sr = e.sr := by intro; rfl) :
    RowsKept f s₀ (modEng s g h) := hs.modFrond fun _ => same _

protected theorem modRun {g : Nat} {h : Invocation → Invocation} (hs : RowsKept f s₀ s) : RowsKept f s₀ (modRun s g h) := hs.modEng

protected theorem setJitExp {t k : Nat} (hs : RowsKept f s₀ s) : RowsKept f s₀ (setJitExp s t k) := by
  unfold setJitExp
  extract_lets
  refine .ite ?_ hs
  split
  · exact hs
  · exact hs.put

protected theorem finishInvocation {g : Nat} {x : Invocation} (hs : RowsKept f s₀ s) : RowsKept f s₀ (finishInvocation s g x) := by
  unfold finishInvocation
  extract_lets _ s₁ s₂ _ s₃ _ s₄ s₅ s₆
  have hs₂ : RowsKept f s₀ s₂ := hs.eeStatus.eeStatus.modEng
  have hs₃ : RowsKept f s₀ s₃ := hs₂.bump
  have hs₄ : RowsKept f s₀ s₄ := hs₃.put
  have hs₅ : RowsKept f s₀ s₅ := .put (hs₂.setReg (r := R.FRD_EE_INVOKE_CNT g) fun _ _ hq => ne_of_offset (o := 0x120) hq)
  have hs₆ : RowsKept f s₀ s₆ := hs₅.modFrond
  refine .ite (hs₄.forEach fun _ _ h => h.setJitExp) ?_
  split
  · exact hs₆
  · exact .ite hs₆.opDone hs₆.drainDone

protected theorem stopInvocation {g : Nat} (hs : RowsKept f s₀ s) : RowsKept f s₀ (stopInvocation s g) := by
  unfold stopInvocation reportOps
  exact .modEng (.eeStatus (.eeStatus hs.put))

protected theorem clearLanes {g : Nat} (hs : RowsKept f s₀ s) : RowsKept f s₀ (clearLanes s g) := by
  unfold clearLanes
  split
  · exact hs
  · exact .modEng (.ite hs hs.put)

protected theorem beginRow (hs : RowsKept f s₀ s) : RowsKept f s₀ (beginRow s f) := by
  unfold beginRow
  extract_lets s₁ s₂ s₃
  have hs₁ : RowsKept f s₀ s₁ := hs.modRun
  refine .clearLanes ?_
  unfold s₃
  split
  · exact hs₁
  · refine .ite (.ite hs₁.modRun (.rowSticky (.put (hs₁.modRun.setReg (r := R.FRD_EE_CLAMP_CNT f) ?_)))) hs₁
    exact fun _ _ hq => ne_of_offset (o := 0x138) hq

protected theorem nextGroup {x : Invocation} (hs : RowsKept f s₀ s) : RowsKept f s₀ (nextGroup s f x) :=
  .ite hs.finishInvocation (.ite hs.stopInvocation hs.modRun.clearLanes)

protected theorem nextRow {x : Invocation} (hs : RowsKept f s₀ s) : RowsKept f s₀ (nextRow s f x) := by
  unfold nextRow
  extract_lets _ s₁
  have hs₁ : RowsKept f s₀ s₁ := .ite hs hs.put
  exact .ite hs₁.finishInvocation (.ite hs₁.stopInvocation hs₁.modRun.beginRow)

/-- What follows an instruction keeps the s registers and the counts. -/
protected theorem advanceEngine {x : Invocation} {whole ends : Bool} (hs : RowsKept f s₀ s) : RowsKept f s₀ (advanceEngine s f x whole ends) := by
  unfold advanceEngine
  extract_lets _ _ s₁
  have hs₁ : RowsKept f s₀ s₁ :=
    .ite (.ite hs.modRun hs.nextGroup) <| .ite hs.modRun <| .ite hs.modRun.clearLanes <| .ite hs.modRun.clearLanes hs.nextRow
  exact hs₁.eeStatus

protected theorem countCycles {x : Invocation} {op aux : Nat} (hs : RowsKept f s₀ s) : RowsKept f s₀ (countCycles s f x op aux) :=
  .put (.put (hs.setReg (r := R.FRD_EE_BUSY_CNT f) fun _ _ hq => ne_of_offset (o := 0x118) hq))

protected theorem recordProduce {x : Invocation} {tensor : Option Nat} {vs : List W32} (hs : RowsKept f s₀ s) :
    RowsKept f s₀ (recordProduce s f x tensor vs) := by
  unfold recordProduce
  split
  · exact hs
  · exact .ite hs (.ite hs.modRun (.ite hs hs.recordAmax))

end RowsKept

end Sys2Proof.Laws
end

section
/-! SUPPORT. ST into a region of any format: no byte outside its lanes' elements and block scales changes (R146, R160, R163). -/

namespace Sys2Proof.Laws

set_option Elab.async false

open Sys2Proof.Machine

variable {P : Nat → Prop} {s₀ s t : State} {f r : Nat} {x : Invocation} {i : EInstr}

/-! ## Pieces of consecutive lanes -/

theorem mem_of_mem_chunks {A : Type} {n : Nat} {e : A} : ∀ {k : Nat} {xs b : List A}, b ∈ chunks n k xs → e ∈ b → e ∈ xs
  | _ + 1, _, _, h, he => by
    rcases List.mem_cons.mp h with rfl | h
    · exact List.mem_of_mem_take he
    · exact List.mem_of_mem_drop (mem_of_mem_chunks h he)

theorem mem_chunks_range' {A : Type} (g : Nat → A) (n : Nat) : ∀ {k m : Nat} {b : List A}, b ∈ chunks n k ((List.range' m (k * n)).map g) →
    ∃ j, j < k ∧ b = (List.range' (m + j * n) n).map g
  | k + 1, m, b, h => by
    have cut : (List.range' m ((k + 1) * n)).map g = (List.range' m n).map g ++ (List.range' (m + n) (k * n)).map g := by
      rw [← List.map_append, List.range'_append_1, Nat.succ_mul, Nat.add_comm (k * n)]
    rw [chunks, cut, List.take_left' (by simp), List.drop_left' (by simp)] at h
    rcases List.mem_cons.mp h with rfl | h
    · exact ⟨0, by omega, by simp⟩
    · obtain ⟨j, hj, eq⟩ := mem_chunks_range' g n h
      exact ⟨j + 1, by omega, by rw [eq, Nat.succ_mul, Nat.add_assoc, Nat.add_comm n]⟩

/-- The pieces of 32 lanes. -/
theorem mem_blocks {A : Type} (g : Nat → A) {b : List A} (h : b ∈ chunksOf 32 (lanes.map g)) :
    ∃ j, j < 8 ∧ b = (List.range' (32 * j) 32).map g := by
  rw [chunksOf_of_length (k := 8) (by decide) (by simp [lanes]), lanes, List.range_eq_range'] at h
  obtain ⟨j, hj, eq⟩ := mem_chunks_range' g 32 (k := 8) h
  exact ⟨j, hj, by rw [eq, Nat.zero_add, Nat.mul_comm]⟩

/-! ## Bytes that a store leaves alone -/

/-- From `s₀` to `s` the bytes that `P` names, the v and s registers of frond `f`, its counts of rows and the group that it runs are as before. -/
structure StoreKeeps (P : Nat → Prop) (f : Nat) (s₀ s : State) : Prop extends RowsKept f s₀ s where
  byte : ∀ a, P a → byteAt s a = byteAt s₀ a
  v : (engOf s f).v = (engOf s₀ f).v
  group : (engOf s f).run.map (·.group) = (engOf s₀ f).run.map (·.group)

namespace StoreKeeps

protected theorem refl (s : State) : StoreKeeps P f s s := ⟨.refl s, fun _ _ => rfl, rfl, rfl⟩

protected theorem trans (hs : StoreKeeps P f s₀ s) (ht : StoreKeeps P f s t) : StoreKeeps P f s₀ t :=
  ⟨hs.toRowsKept.trans ht.toRowsKept, fun a ha => (ht.byte a ha).trans (hs.byte a ha), ht.v.trans hs.v, ht.group.trans hs.group⟩

theorem reported (hs : StoreKeeps P f s₀ s) (ht : Reported s t) (rows : RowsKept f s t) : StoreKeeps P f s₀ t :=
  hs.trans ⟨rows, fun a _ => memSame_of_mem ht.mem a, congrArg Engine.v (ht.eng f), by rw [ht.eng]⟩

theorem setBytes {o : Nat} {bs : List Byte} (hs : StoreKeeps P f s₀ s) (outside : ∀ a, P a → a < o ∨ o + bs.length ≤ a) :
    StoreKeeps P f s₀ (setBytes s o bs) :=
  hs.trans ⟨(RowsKept.refl s).put, fun a ha => byteAt_setBytes_outside (s := s) (outside a ha), rfl, rfl⟩

theorem modRun {g : Invocation → Invocation} (hs : StoreKeeps P f s₀ s) (same : ∀ y, (g y).group = y.group := by intro; rfl) :
    StoreKeeps P f s₀ (modRun s f g) := by
  refine hs.trans ⟨(RowsKept.refl s).modRun, fun _ _ => rfl, engOf_modEng_of_eq Engine.v fun _ => rfl,
    engOf_modEng_of_eq (fun e => e.run.map (·.group)) fun e => ?_⟩
  rw [Option.map_map]
  exact congrArg (Option.map · e.run) (funext same)

theorem atWord {n : Nat} (hs : StoreKeeps P f s₀ s) : StoreKeeps P f s₀ (atWord s f n) :=
  (hs.modRun (g := fun y => { y with pc := n })).reported (Reported.refl _).wf (RowsKept.refl _).eeStatus

theorem cntAdd {w n : Nat} (hs : StoreKeeps P f s₀ s) : StoreKeeps P f s₀ (cntAdd s w n) := hs.reported (Reported.refl s).cntAdd (RowsKept.refl s).put

theorem takeFree {w : Nat} (hs : StoreKeeps P f s₀ s) : StoreKeeps P f s₀ (takeFree w s).2 :=
  hs.reported (Reported.refl s).takeFree (RowsKept.refl s).put

theorem eeFlags {c : CvtFlags} (hs : StoreKeeps P f s₀ s) : StoreKeeps P f s₀ (eeFlags s f c) :=
  hs.reported (Reported.refl s).eeFlags (RowsKept.refl s).eeFlags

theorem overflowCodes {n : Nat} {codes : List Nat} (hs : StoreKeeps P f s₀ s) : StoreKeeps P f s₀ (overflowCodes s n codes) :=
  hs.reported (Reported.refl s).overflowCodes (RowsKept.refl s).overflowCodes

theorem recordProduce {tensor : Option Nat} {vs : List W32} (hs : StoreKeeps P f s₀ s) :
    StoreKeeps P f s₀ (recordProduce s f x tensor vs) := by
  rcases recordProduce_cases s f x tensor vs with reported | ⟨-, g, eq⟩
  · exact hs.reported reported (RowsKept.refl s).recordProduce
  · exact eq ▸ hs.modRun

protected theorem forEach {A : Type} {g : State → A → State} {xs : List A} (hs : StoreKeeps P f s₀ s)
    (hg : ∀ s, ∀ y ∈ xs, StoreKeeps P f s₀ s → StoreKeeps P f s₀ (g s y)) : StoreKeeps P f s₀ (forEach g s xs) := by
  induction xs generalizing s with
  | nil => exact hs
  | cons y ys ih => exact ih (hg s y List.mem_cons_self hs) fun s z hz => hg s z (List.mem_cons_of_mem y hz)

end StoreKeeps

/-! ## Elements and blocks -/

/-- No byte of `P` is one of the element (row, p) of a region. -/
def OffElement (P : Nat → Prop) (f : Nat) (x : Invocation) (r row p : Nat) : Prop :=
  let o := storeBase f + (x.region r).1 + row * (x.region r).2.1 + p * fmtBits (x.fmt r) / 8
  ∀ a, P a → a < o ∨ o + (fmtBits (x.fmt r) + 7) / 8 ≤ a

/-- No byte of `P` is one of the scale of the block of (row, p). -/
def OffScale (P : Nat → Prop) (f : Nat) (x : Invocation) (r row p : Nat) : Prop :=
  ∀ a, P a → a < storeBase f + regionScale x r row p ∨ storeBase f + regionScale x r row p + 2 ≤ a

theorem StoreKeeps.regionPut {row p c : Nat} (hs : StoreKeeps P f s₀ s) (off : OffElement P f x r row p) :
    StoreKeeps P f s₀ (regionPut s f x r row p c) := by
  unfold OffElement at off
  unfold Machine.regionPut
  rcases fmtBits_cases (x.fmt r) with ⟨bits, -⟩ | ⟨bits, -⟩ | bits | bits | bits <;> rw [bits] at off ⊢
  all_goals
    refine hs.setBytes fun a ha => ?_
    have := off a ha
    simp only [leBytes_length]
    omega

theorem StoreKeeps.storeBlock {rnd : Nat → Nat → Rnd} {k : Int} {scale : List W32} {b : List StoreElem} (hs : StoreKeeps P f s₀ s)
    (elems : ∀ e ∈ b, e.wr = true → OffElement P f x r e.row e.p)
    (scales : b.any (·.wr) = true → OffScale P f x r ((b.head?.map (·.row)).getD 0) ((b.head?.map (·.p)).getD 0)) :
    StoreKeeps P f s₀ (storeBlock f x r rnd k scale s b) := by
  unfold Machine.storeBlock
  split
  · exact hs
  · next some =>
    have any : b.any (·.wr) = true := by simpa using some
    extract_lets fmt r₀ p₀ sf c s₁ s₂
    have hsf : StoreKeeps P f s₀ sf.2 := by
      simp only [sf]
      split
      · exact hs
      · split
        · exact hs.takeFree
        · exact hs
    have hs₁ : StoreKeeps P f s₀ s₁ := hsf.forEach fun s e he h => by
      split
      · next wr => exact h.regionPut (elems e.1 (List.of_mem_zip he).1 wr)
      · exact h
    have hs₂ : StoreKeeps P f s₀ s₂ := hs₁.setBytes fun a ha => by
      have : a < storeBase f + regionScale x r r₀ p₀ ∨ storeBase f + regionScale x r r₀ p₀ + 2 ≤ a := scales any a ha
      have len : (leBytes (if fmt = 8 then 1 else 2) c.scale).length ≤ 2 := by
        rw [leBytes_length]
        split <;> omega
      omega
    exact hs₂.eeFlags

theorem StoreKeeps.regionStore {rnd : Nat} {scale : List W32} {es : List StoreElem} (hs : StoreKeeps P f s₀ s)
    (elems : ∀ e ∈ es, e.wr = true → OffElement P f x r e.row e.p)
    (scales : isBlockFmt (x.fmt r) = true → ∀ b ∈ chunksOf 32 es, b.any (·.wr) = true →
      OffScale P f x r ((b.head?.map (·.row)).getD 0) ((b.head?.map (·.p)).getD 0)) :
    StoreKeeps P f s₀ (regionStore s f x r rnd scale es) := by
  unfold Machine.regionStore
  extract_lets fmt mode tensor pre k s₁ s₂
  have hs₁ : StoreKeeps P f s₀ s₁ := hs.recordProduce
  have hs₂ : StoreKeeps P f s₀ s₂ := hs₁.cntAdd
  split
  · exact hs₁
  · split
    · next block =>
      refine hs₂.forEach fun s b hb h => ?_
      have piece := (List.of_mem_zip hb).1
      exact h.storeBlock (fun e he => elems e (mem_of_mem_chunks piece he)) (scales block b.1 piece)
    · refine hs₂.forEach fun s e he h => ?_
      cases wr : e.wr with
      | false => exact h
      | true =>
        have put : ∀ c, StoreKeeps P f s₀ (Machine.regionPut s f x r e.row e.p c) := fun _ => h.regionPut (elems e he wr)
        simp only [Bool.not_true, Bool.false_eq_true, if_false]
        split
        · exact put _
        · split
          · exact put _
          · split
            · exact put _
            · have flags := fun c g => (put c).eeFlags (c := g)
              split
              · exact (flags _ _).overflowCodes
              · exact flags _ _

/-! ## The lanes of ST -/

/-- The byte is none of an element or a block scale of the lanes inside the tile or row. -/
def OffStore (f : Nat) (x : Invocation) (r a : Nat) : Prop :=
  ∀ l, l < 256 → x.inside l = true →
    let o := storeBase f + (x.region r).1 + x.laneRow l * (x.region r).2.1 + x.lanePos l * fmtBits (x.fmt r) / 8
    let c := storeBase f + regionScale x r (x.laneRow l) (x.lanePos l)
    (a < o ∨ o + (fmtBits (x.fmt r) + 7) / 8 ≤ a) ∧ (isBlockFmt (x.fmt r) = true → a < c ∨ c + 2 ≤ a)

theorem inside_of_laneElem {e : Engine} {l : Nat} (wr : (laneElem e x i l).wr = true) : x.inside l = true := by
  simp only [laneElem, laneActive, Bool.or_eq_true, Bool.and_eq_true] at wr
  tauto

/-- A block's first lane lies inside when any of its lanes does. -/
theorem inside_first {j l : Nat} (low : 32 * j ≤ l) (high : l < 32 * j + 32) (inside : x.inside l = true) : x.inside (32 * j) = true := by
  unfold Invocation.inside Invocation.laneRow Invocation.lanePos at inside ⊢
  rw [Bool.and_eq_true, decide_eq_true_eq, decide_eq_true_eq] at inside ⊢
  split_ifs at inside ⊢
  · omega
  · omega

/-- The lanes of a store touch no byte outside their elements and block scales. -/
theorem storeLanes_keeps (hs : StoreKeeps (OffStore f x (bitsOf i.aux 0 2)) f s₀ s) :
    StoreKeeps (OffStore f x (bitsOf i.aux 0 2)) f s₀ (storeLanes s f x i) := by
  have region : bitsOf i.aux 0 2 = i.aux % 4 := rfl
  rw [region] at hs ⊢
  rw [storeLanes_eq]
  refine hs.regionStore (fun e he wr => ?_) fun block b hb any => ?_
  · obtain ⟨l, hl, rfl⟩ := List.mem_map.mp he
    exact fun a ha => (ha l (List.mem_range.mp hl) (inside_of_laneElem wr)).1
  · obtain ⟨j, hj, rfl⟩ := mem_blocks _ hb
    obtain ⟨e, he, wr⟩ := List.any_eq_true.mp any
    obtain ⟨l, hl, rfl⟩ := List.mem_map.mp he
    obtain ⟨low, high⟩ := List.mem_range'_1.mp hl
    exact fun a ha => (ha (32 * j) (by omega) (inside_first low high (inside_of_laneElem wr))).2 block

end Sys2Proof.Laws
end

section
/-! CERTIFICATES. Stores of lanes (R146, R160, R162). -/

namespace Sys2Proof.Laws

set_option Elab.async false

open Sys2Proof.Machine

/-- Settles O26: a plain store is the stores of its active lanes, which do not overlap; any store keeps a byte off its elements and scales. -/
theorem elementStoreWritesItsElements : Obligations.ElementStoreWritesItsElements := by
  unfold Obligations.ElementStoreWritesItsElements
  refine ⟨fun s f i x h => ?_, fun s f i x h => ?_⟩
  · exact st_plain_completes h
  · have leaves : StoreKeeps (OffStore f x (bitsOf i.aux 0 2)) f s (atWord (storeLanes (countCycles s f x 0x52 i.aux) f x i) f (x.pc + 1)) :=
      (storeLanes_keeps ((StoreKeeps.refl s).reported (Reported.refl s).countCycles (RowsKept.refl s).countCycles)).atWord
    exact ⟨_, (exec_st f i s).trans (elemCmd_next h), leaves.byte, leaves.v, leaves.sr⟩

end Sys2Proof.Laws
end

section
/-! SUPPORT. Fields of registers: what a field reads after it or another field of the register was written (R1, R13). -/

namespace Sys2Proof.Laws

set_option Elab.async false

open Sys2Proof.Machine

/-- The bits of a number after a field of it was replaced. -/
theorem testBit_setBits (v lo w x b : Nat) :
    (setBits v lo w x).testBit b = if b < lo then v.testBit b else if b < lo + w then x.testBit (b - lo) else v.testBit b := by
  have low : v % 2 ^ lo < 2 ^ lo := Nat.mod_lt _ (Nat.two_pow_pos lo)
  have high : x % 2 ^ w < 2 ^ w := Nat.mod_lt _ (Nat.two_pow_pos w)
  have cut : v = 2 ^ lo * (v / 2 ^ lo) + v % 2 ^ lo := (Nat.div_add_mod v _).symm
  have field : v / 2 ^ lo = 2 ^ w * (v / 2 ^ lo / 2 ^ w) + v / 2 ^ lo % 2 ^ w := (Nat.div_add_mod _ _).symm
  have parts : setBits v lo w x = 2 ^ lo * (2 ^ w * (v / 2 ^ lo / 2 ^ w) + x % 2 ^ w) + v % 2 ^ lo := by
    have whole : v = 2 ^ lo * (2 ^ w * (v / 2 ^ lo / 2 ^ w)) + (v / 2 ^ lo % 2 ^ w) * 2 ^ lo + v % 2 ^ lo := by
      rw [Nat.mul_comm _ (2 ^ lo), ← Nat.mul_add, ← field]
      exact cut
    rw [setBits, bitsOf, Nat.shiftRight_eq_div_pow, Nat.shiftLeft_eq, Nat.shiftLeft_eq, Nat.mul_add, Nat.mul_comm (x % 2 ^ w)]
    omega
  rw [parts, Nat.testBit_two_pow_mul_add _ low]
  split
  · next below => rw [Nat.testBit_mod_two_pow, decide_eq_true below, Bool.true_and]
  · rw [Nat.testBit_two_pow_mul_add _ high]
    split
    · next inside => rw [Nat.testBit_mod_two_pow, decide_eq_true inside, Bool.true_and, if_pos (by omega)]
    · rw [Nat.testBit_div_two_pow, Nat.testBit_div_two_pow, if_neg (by omega)]
      congr 1
      omega

/-- The bits of a field. -/
theorem testBit_fget (f : Field) (v : W64) (b : Nat) : (fget f v).testBit b = (decide (b < f.w) && v.toNat.testBit (f.lo + b)) := by
  rw [fget, bitsOf, Nat.testBit_mod_two_pow, Nat.testBit_shiftRight]

/-- The bits of a register's value after a field of it was replaced. -/
theorem testBit_fset (f : Field) (v : W64) (x b : Nat) : (fset f v x).toNat.testBit b =
    (decide (b < 64) && (if b < f.lo then v.toNat.testBit b else if b < f.lo + f.w then x.testBit (b - f.lo) else v.toNat.testBit b)) := by
  rw [fset, BitVec.toNat_ofNat, Nat.testBit_mod_two_pow, testBit_setBits]

theorem fget_fset_same (f : Field) (v : W64) (x : Nat) (fits : f.lo + f.w ≤ 64) : fget f (fset f v x) = x % 2 ^ f.w := by
  refine Nat.eq_of_testBit_eq fun b => ?_
  rw [testBit_fget, testBit_fset, Nat.testBit_mod_two_pow]
  by_cases inside : b < f.w
  · rw [if_neg (by omega), if_pos (by omega), decide_eq_true (p := f.lo + b < 64) (by omega), Nat.add_sub_cancel_left, Bool.true_and]
  · simp [inside]

theorem fget_fset_other {f g : Field} (v : W64) (x : Nat) (fits : f.lo + f.w ≤ 64) (apart : f.lo + f.w ≤ g.lo ∨ g.lo + g.w ≤ f.lo) :
    fget f (fset g v x) = fget f v := by
  refine Nat.eq_of_testBit_eq fun b => ?_
  rw [testBit_fget, testBit_fget, testBit_fset]
  by_cases inside : b < f.w
  · have keeps : (if f.lo + b < g.lo then v.toNat.testBit (f.lo + b) else if f.lo + b < g.lo + g.w then x.testBit (f.lo + b - g.lo)
        else v.toNat.testBit (f.lo + b)) = v.toNat.testBit (f.lo + b) := by
      split
      · rfl
      · rw [if_neg (by omega)]
    rw [keeps, decide_eq_true (p := f.lo + b < 64) (by omega), Bool.true_and]
  · simp [inside]

theorem rf_wf_same {s : State} (r : Nat) (f : Field) (x : Nat) (fits : f.lo + f.w ≤ 64) : rf (wf s r f x) r f = x % 2 ^ f.w := by
  rw [rf, reg_wf_same, fget_fset_same f _ _ fits]

theorem rf_wf_other {s : State} (r : Nat) {f g : Field} (x : Nat) (fits : f.lo + f.w ≤ 64)
    (apart : f.lo + f.w ≤ g.lo ∨ g.lo + g.w ≤ f.lo) : rf (wf s r g x) r f = rf s r f := by
  rw [rf, reg_wf_same, fget_fset_other _ _ fits apart, rf]

end Sys2Proof.Laws
end

section
/-! SUPPORT. A group, a chunk or a row begins: lanes cleared, flags reset, the length checked (R149, R151, R169, R178). -/

namespace Sys2Proof.Laws

set_option Elab.async false

open Sys2Proof.Machine

variable {s : State} {f : Nat} {x : Invocation}

theorem clearLanes_mem : (clearLanes s f).mem = s.mem := by
  unfold clearLanes
  split
  · rfl
  · split
    · rfl
    · rfl

theorem clearLanes_reg (r : Nat) : reg (clearLanes s f) r = reg s r := by
  unfold clearLanes
  split
  · rfl
  · split
    · rfl
    · rfl

/-- Clearing the lanes keeps the run. -/
theorem run_clearLanes (known : f < s.seq.fronds.length) : (engOf (clearLanes s f) f).run = (engOf s f).run := by
  unfold clearLanes
  split
  · rfl
  · split
    · rw [engOf_modEng known]
    · rw [engOf_modEng (s := cntAdd s 26 _) known]
      rfl

/-- The row's length check: what it raises is reported, and it may set the row's own flag. -/
def checkLength (s : State) (f : Nat) (x : Invocation) : State :=
  if x.maxLen < (lengthWord s f x).getD 0 then
    if x.pre then rowFlag s f 3 else rowSticky (bump (rowFlag s f 3) (R.FRD_EE_CLAMP_CNT f) 1) f F.FRD_EE_FLAGS_len_clamp
  else s

/-- A row at its beginning. -/
def rowStart (x : Invocation) : Invocation := { x with rowFlags := 0, chunk := 0, sweep := 0, pc := 0 }

theorem beginRow_eq (known : f < s.seq.fronds.length) (run : (engOf s f).run = some x) :
    beginRow s f = clearLanes (checkLength (modRun s f rowStart) f (rowStart x)) f := by
  have first : (engOf (modRun s f rowStart) f).run = some (rowStart x) := by rw [engOf_modRun known, run]; rfl
  change clearLanes (match (engOf (modRun s f rowStart) f).run with
    | none => modRun s f rowStart
    | some x => checkLength (modRun s f rowStart) f x) f = _
  rw [first]

/-- The length check keeps the run but its row flags. -/
theorem checkLength_run (known : f < s.seq.fronds.length) (run : (engOf s f).run = some x) (y : Invocation) :
    (∃ fl, (engOf (checkLength s f y) f).run = some { x with rowFlags := fl }) ∧ (checkLength s f y).mem = s.mem
      ∧ (checkLength s f y).seq.fronds.length = s.seq.fronds.length := by
  have flagged : (engOf (rowFlag s f 3) f).run = some { x with rowFlags := setBits x.rowFlags 3 1 1 } := by
    rw [rowFlag, engOf_modRun known, run]
    rfl
  unfold checkLength
  split
  · split
    · exact ⟨⟨_, flagged⟩, rfl, length_fronds_modEng _⟩
    · have reported : Reported (rowFlag s f 3) (rowSticky (bump (rowFlag s f 3) (R.FRD_EE_CLAMP_CNT f) 1) f F.FRD_EE_FLAGS_len_clamp) :=
        (Reported.refl _).bump.rowSticky
      refine ⟨⟨_, (congrArg Engine.run (reported.eng f)).trans flagged⟩, reported.mem, ?_⟩
      rw [reported.seq]
      exact length_fronds_modEng _
  · exact ⟨⟨x.rowFlags, run⟩, rfl, rfl⟩

/-- A register that the length check does not write. -/
theorem checkLength_reg {r : Nat} (hf : f < 32) (unsent : ¬ sendReg r) (flags : r ≠ R.FRD_EE_FLAGS f) (clamps : r ≠ R.FRD_EE_CLAMP_CNT f)
    (y : Invocation) : reg (checkLength s f y) r = reg s r := by
  unfold checkLength
  split
  · split
    · rfl
    · have bumped : reg (bump (rowFlag s f 3) (R.FRD_EE_CLAMP_CNT f) 1) r = reg s r := reg_bump_ne (s := rowFlag s f 3) 1 clamps
      unfold rowSticky flagEvent
      split
      · exact bumped
      · rw [((Sent.refl _).evgFireIf (by omega)).reg r unsent, reg_wf_ne (s := bump _ _ _) _ _ flags, bumped]
  · rfl

/-- A row begins in the run: at its first word, in its first chunk. -/
theorem beginRow_run (known : f < s.seq.fronds.length) (run : (engOf s f).run = some x) :
    ∃ fl, (engOf (beginRow s f) f).run = some { rowStart x with rowFlags := fl } := by
  have first : (engOf (modRun s f rowStart) f).run = some (rowStart x) := by rw [engOf_modRun known, run]; rfl
  have length : (modRun s f rowStart).seq.fronds.length = s.seq.fronds.length := length_fronds_modEng _
  obtain ⟨⟨fl, run'⟩, -, length'⟩ := checkLength_run (by rwa [length]) first (rowStart x)
  rw [beginRow_eq known run, run_clearLanes (by omega)]
  exact ⟨fl, run'⟩

theorem beginRow_mem (known : f < s.seq.fronds.length) (run : (engOf s f).run = some x) : (beginRow s f).mem = s.mem := by
  have first : (engOf (modRun s f rowStart) f).run = some (rowStart x) := by rw [engOf_modRun known, run]; rfl
  have length : (modRun s f rowStart).seq.fronds.length = s.seq.fronds.length := length_fronds_modEng _
  rw [beginRow_eq known run, clearLanes_mem, (checkLength_run (by rwa [length]) first (rowStart x)).2.1]
  rfl

theorem beginRow_reg {r : Nat} (hf : f < 32) (unsent : ¬ sendReg r) (flags : r ≠ R.FRD_EE_FLAGS f) (clamps : r ≠ R.FRD_EE_CLAMP_CNT f)
    (known : f < s.seq.fronds.length) (run : (engOf s f).run = some x) : reg (beginRow s f) r = reg s r := by
  rw [beginRow_eq known run, clearLanes_reg, checkLength_reg hf unsent flags clamps]
  rfl

end Sys2Proof.Laws
end

section
/-! SUPPORT. An invocation starts: its run and what FRD_EE_STATUS shows (R144, R151, R181). -/

namespace Sys2Proof.Laws

set_option Elab.async false

open Sys2Proof.Machine

variable {s : State} {f k prog bank : Nat} {o : PlanOp} {row : Bool}

/-- FRD_EE_STATUS of an invocation that starts. -/
def statusStarted (s : State) (f idx prog bank : Nat) (row : Bool) : State :=
  let r := R.FRD_EE_STATUS f
  let s := wf (wf s r F.FRD_EE_STATUS_cur_invoke idx) r F.FRD_EE_STATUS_pc 0
  let s := wf s r F.FRD_EE_STATUS_program prog
  wf (wf (wf s r F.FRD_EE_STATUS_busy 1) r F.FRD_EE_STATUS_row_mode (b2n row)) r F.FRD_EE_STATUS_bank bank

theorem statusStarted_busy (idx prog bank : Nat) : rf (statusStarted s f idx prog bank row) (R.FRD_EE_STATUS f) F.FRD_EE_STATUS_busy = 1 := by
  rw [statusStarted, rf_wf_other, rf_wf_other, rf_wf_same]
  all_goals decide

theorem statusStarted_rowMode (idx prog bank : Nat) :
    rf (statusStarted s f idx prog bank row) (R.FRD_EE_STATUS f) F.FRD_EE_STATUS_row_mode = b2n row := by
  rw [statusStarted, rf_wf_other, rf_wf_same]
  · exact Nat.mod_eq_of_lt (Nat.lt_succ_of_le (b2n_le_one row))
  all_goals decide

theorem statusStarted_invoke {idx : Nat} (prog bank : Nat) (small : idx < 65536) :
    rf (statusStarted s f idx prog bank row) (R.FRD_EE_STATUS f) F.FRD_EE_STATUS_cur_invoke = idx := by
  rw [statusStarted, rf_wf_other, rf_wf_other, rf_wf_other, rf_wf_other, rf_wf_other, rf_wf_same]
  · exact Nat.mod_eq_of_lt small
  all_goals decide

/-- The invocation of op `o` stands in the engine, its tile's slot drains, and FRD_EE_STATUS shows it. -/
def started (s : State) (f k : Nat) (o : PlanOp) (prog bank : Nat) (row : Bool) : State :=
  let xs := invocationOf s f o k false
  let u := modEng s f (fun _ => { v := [], sr := xs.2, run := some xs.1 })
  statusStarted (if row then u else setSlotState u f k 3) f o.idx prog bank row

theorem engOf_started (known : f < s.seq.fronds.length) :
    engOf (started s f k o prog bank row) f = ⟨[], (invocationOf s f o k false).2, some (invocationOf s f o k false).1⟩ := by
  have written : engOf (modEng s f (fun _ => ⟨[], (invocationOf s f o k false).2, some (invocationOf s f o k false).1⟩)) f = _ :=
    engOf_modEng known _
  cases row
  · exact written
  · exact written

theorem length_fronds_started : (started s f k o prog bank row).seq.fronds.length = s.seq.fronds.length := by
  have written := length_fronds_modEng (s := s) (f := f) (fun _ => ⟨[], (invocationOf s f o k false).2, some (invocationOf s f o k false).1⟩)
  cases row
  · exact written
  · exact written

theorem started_mem : (started s f k o prog bank row).mem = s.mem := by
  cases row
  · rfl
  · rfl

/-- The slot of a DRAIN that starts. -/
theorem slotState_started : slotState (started s f k o prog bank false) f k = 3 := by
  have apart : R.FRD_STATUS f ≠ R.FRD_EE_STATUS f := by unfold R.FRD_STATUS R.FRD_EE_STATUS; omega
  have status (u : State) (idx : Nat) : slotState (statusStarted u f idx prog bank false) f k = slotState u f k := by
    unfold statusStarted slotState rf
    simp only [reg_wf_ne _ _ _ apart]
  rw [started, status, if_neg (by decide), slotState, setSlotState]
  split
  · rw [rf_wf_same]
    all_goals decide
  · rw [rf_wf_same]
    all_goals decide

/-- Nothing keeps the frond's engine from starting its next invocation. -/
structure MayStart (s : State) (f : Nat) (o : PlanOp) : Prop where
  running : (frondOf s f).halted = false
  up : failed s = false
  resumed : pausedNow s = false
  idle : (engOf s f).run = none
  ready : rb s (R.FRD_STATUS f) F.FRD_STATUS_init_done = true
  next : nextInvocation s f = some (o, false)

/-- The slot that holds the tile of op `o`, full. -/
def fullSlot (s : State) (f : Nat) (o : PlanOp) : Option Nat :=
  [0, 1].find? (fun k => (slotOf s f k).op = some o.idx && decide (slotState s f k = 2))

theorem startInvocation_row (h : MayStart s f o) (kind : o.kind = 2) :
    ∃ prog bank, startInvocation s f true = beginRow (started s f ((fullSlot s f o).getD 0) o prog bank true) f := by
  unfold startInvocation
  rw [h.running, h.up, h.resumed, h.idle, h.ready, if_neg (by decide), h.next]
  dsimp only
  rw [if_neg (by simp [kind]), if_neg (by simp)]
  simp only [true_or, if_true]
  exact ⟨_, _, rfl⟩

theorem startInvocation_drain (h : MayStart s f o) (kind : o.kind ≠ 2) (slot : fullSlot s f o = some k) :
    ∃ prog bank, startInvocation s f false = clearLanes (started s f k o prog bank false) f := by
  unfold startInvocation
  rw [h.running, h.up, h.resumed, h.idle, h.ready, if_neg (by decide), h.next]
  unfold fullSlot at slot
  dsimp only
  rw [if_neg (by simp [kind]), slot, if_neg (by simp)]
  simp only [Bool.false_eq_true, or_self, if_false, Option.getD_some]
  exact ⟨_, _, rfl⟩

theorem fullSlot_eq (hk : k < 2) (op : (slotOf s f k).op = some o.idx) (full : slotState s f k = 2)
    (first : k = 1 → (slotOf s f 0).op ≠ some o.idx) : fullSlot s f o = some k := by
  have cases_k : k = 0 ∨ k = 1 := by omega
  rcases cases_k with rfl | rfl
  · simp [fullSlot, op, full]
  · simp [fullSlot, op, full, first rfl]

theorem exec_rowInvocation (up : failed s = false) : exec (.rowInvocation ⟨f, .none⟩) s = .next (startInvocation s f true) :=
  congrArg Host.Outcome.next (afterRead_of_up up _)

theorem exec_drainInvocation (up : failed s = false) : exec (.drainInvocation ⟨f, .none⟩) s = .next (startInvocation s f false) :=
  congrArg Host.Outcome.next (afterRead_of_up up _)

theorem row_starts (hf : f < 32) (known : f < s.seq.fronds.length) (h : MayStart s f o) (small : o.idx < 65536) (kind : o.kind = 2) :
    Completes (.rowInvocation ⟨f, .none⟩) s (fun t =>
      (∃ x, (engOf t f).run = some x ∧ x.op = o.idx ∧ x.row = true ∧ x.group = 0 ∧ x.pc = 0)
      ∧ rb t (R.FRD_EE_STATUS f) F.FRD_EE_STATUS_busy = true ∧ rb t (R.FRD_EE_STATUS f) F.FRD_EE_STATUS_row_mode = true
      ∧ rf t (R.FRD_EE_STATUS f) F.FRD_EE_STATUS_cur_invoke = o.idx ∧ MemSame s t) := by
  obtain ⟨prog, bank, eq⟩ := startInvocation_row h kind
  have known' := known.trans_eq (length_fronds_started (s := s) (f := f) (k := (fullSlot s f o).getD 0) (prog := prog) (bank := bank) (o := o)
    (row := true)).symm
  have run := congrArg Engine.run (engOf_started (k := (fullSlot s f o).getD 0) (prog := prog) (bank := bank) (o := o) (row := true) known)
  obtain ⟨fl, run'⟩ := beginRow_run known' run
  have status : reg (beginRow (started s f ((fullSlot s f o).getD 0) o prog bank true) f) (R.FRD_EE_STATUS f) = _ :=
    beginRow_reg hf (Sent.not_sendReg_mid (by unfold R.FRD_EE_STATUS; omega) (by unfold R.FRD_EE_STATUS; omega))
      (by unfold R.FRD_EE_STATUS R.FRD_EE_FLAGS; omega) (by unfold R.FRD_EE_STATUS R.FRD_EE_CLAMP_CNT; omega) known' run
  refine ⟨_, exec_rowInvocation h.up, ?_⟩
  rw [eq]
  simp only [rb, rf, status]
  refine ⟨⟨_, run', rfl, decide_eq_true kind, rfl, rfl⟩, ?_, ?_, ?_, memSame_of_mem ((beginRow_mem known' run).trans started_mem)⟩
  · exact decide_eq_true (statusStarted_busy ..)
  · exact decide_eq_true (statusStarted_rowMode ..)
  · exact statusStarted_invoke _ _ small

theorem drain_starts (known : f < s.seq.fronds.length) (h : MayStart s f o) (small : o.idx < 65536) (kind : o.kind ≠ 2)
    (slot : fullSlot s f o = some k) :
    Completes (.drainInvocation ⟨f, .none⟩) s (fun t =>
      (∃ x, (engOf t f).run = some x ∧ x.op = o.idx ∧ x.row = false ∧ x.group = 0 ∧ x.pc = 0 ∧ x.slot = k)
      ∧ slotState t f k = 3
      ∧ rb t (R.FRD_EE_STATUS f) F.FRD_EE_STATUS_busy = true ∧ rb t (R.FRD_EE_STATUS f) F.FRD_EE_STATUS_row_mode = false
      ∧ rf t (R.FRD_EE_STATUS f) F.FRD_EE_STATUS_cur_invoke = o.idx ∧ MemSame s t) := by
  obtain ⟨prog, bank, eq⟩ := startInvocation_drain h kind slot
  have known' := known.trans_eq (length_fronds_started (s := s) (f := f) (k := k) (prog := prog) (bank := bank) (o := o) (row := false)).symm
  have run := congrArg Engine.run (engOf_started (k := k) (prog := prog) (bank := bank) (o := o) (row := false) known)
  refine ⟨_, exec_drainInvocation h.up, ?_⟩
  rw [eq]
  refine ⟨⟨_, (run_clearLanes known').trans run, rfl, decide_eq_false kind, rfl, rfl, rfl⟩, ?_, ?_, ?_, ?_,
    memSame_of_mem (clearLanes_mem.trans started_mem)⟩
  · rw [slotState, rf, clearLanes_reg]
    exact slotState_started
  · rw [rb, rf, clearLanes_reg]
    exact decide_eq_true (statusStarted_busy ..)
  · rw [rb, rf, clearLanes_reg]
    exact decide_eq_false fun on => by cases (statusStarted_rowMode ..).symm.trans on
  · rw [rf, clearLanes_reg]
    exact statusStarted_invoke _ _ small

end Sys2Proof.Laws
end

section
/-! CERTIFICATES. Invocations start (R144, R151, R181). -/

namespace Sys2Proof.Laws

set_option Elab.async false

open Sys2Proof.Machine

/-- Settles O29: the op's invocation enters the idle engine, and FRD_EE_STATUS keeps what was written through the row's beginning. -/
theorem invocationsStart : Obligations.InvocationsStart := by
  unfold Obligations.InvocationsStart
  intro s f o hf fronds running up resumed idle ready next small
  have known : f < s.seq.fronds.length := hf.trans_eq fronds.symm
  have may : MayStart s f o := ⟨running, up, resumed, idle, ready, next⟩
  refine ⟨row_starts hf known may small, fun k kind hk op full first => ?_⟩
  exact drain_starts known may small kind (fullSlot_eq hk op full first)

end Sys2Proof.Laws
end

section
/-! SUPPORT. LDI and the reductions: the s register written, and the chunk or sweep that goes on (R154, R167, R171 to R173). -/

namespace Sys2Proof.Laws

set_option Elab.async false

open Sys2Proof.Machine

variable {s c t : State} {f : Nat} {x : Invocation} {i : EInstr}

theorem advanceEngine_mem_of_more {ends : Bool} {whole : Bool} (row : x.row = true) (more : x.pc + 1 < x.prog.length) :
    (advanceEngine s f x whole ends).mem = s.mem := by
  unfold advanceEngine
  extract_lets n nextWhole u
  have mem : u.mem = s.mem := by
    simp only [u, n, row, more, Bool.not_true, Bool.false_eq_true, if_false, if_true]
    split
    · rfl
    · split
      · exact clearLanes_mem
      · exact clearLanes_mem
  exact mem

/-- The s registers of an engine that the instruction's end leaves alone. -/
theorem sReg_of_kept (kept : RowsKept f s t) (k : Nat) : sReg (engOf t f) k = sReg (engOf s f) k := by rw [sReg, kept.sr, sReg]

/-! ## LDI -/

theorem exec_ldi {d imm : Nat} (valid : ldiInvalid d imm = false) (next : issuing s f (ldiWord d imm) = some x) :
    exec (.ldi f d ⟨imm, .none⟩) s
      = .next (advanceEngine (setSreg (countCycles s f x 0x49 0) f (d - 16) (BitVec.ofNat 32 imm)) f x false false) := by
  obtain ⟨-, -, up⟩ := issuing_eq_some next
  change execLdi f d ⟨imm, .none⟩ s = _
  rw [execLdi, valid, if_neg (by decide), next]
  exact congrArg Host.Outcome.next (afterRead_of_up up _)

theorem ldi_completes {d imm : Nat} (valid : ldiInvalid d imm = false) (next : issuing s f (ldiWord d imm) = some x) :
    Completes (.ldi f d ⟨imm, .none⟩) s (fun t =>
      sReg (engOf t f) (d - 16) = BitVec.ofNat 32 imm
      ∧ (∀ k, k < 8 → k ≠ d - 16 → sReg (engOf t f) k = sReg (engOf s f) k)
      ∧ (x.pc + 1 < x.prog.length → (x.row = true → ∀ w, x.prog[x.pc + 1]? = some w → bitsOf w 56 8 ≠ 0x62 ∧ bitsOf w 56 8 ≠ 0x63) →
          (engOf t f).v = (engOf s f).v ∧ (engOf t f).run = some { x with pc := x.pc + 1 } ∧ MemSame s t)) := by
  obtain ⟨run, -, -⟩ := issuing_eq_some next
  have known : f < (countCycles s f x 0x49 0).seq.fronds.length := known_of_run run
  have written := engOf_setSreg known (d - 16) (BitVec.ofNat 32 imm)
  rw [engOf_countCycles] at written
  have dest : d - 16 < 8 := by
    simp only [ldiInvalid, Bool.or_eq_false_iff, decide_eq_false_iff_not] at valid
    omega
  have kept := (RowsKept.refl (f := f) (setSreg (countCycles s f x 0x49 0) f (d - 16) (BitVec.ofNat 32 imm))).advanceEngine (x := x)
    (whole := false) (ends := false)
  refine ⟨_, exec_ldi valid next, ?_, fun k hk ne => ?_, fun more same => ?_⟩
  · rw [sReg_of_kept kept, written, sReg_withSreg_same dest]
  · rw [sReg_of_kept kept, written, sReg_withSreg_ne hk ne]
  · rw [advanceEngine_next more same]
    have known' : f < (setSreg (countCycles s f x 0x49 0) f (d - 16) (BitVec.ofNat 32 imm)).seq.fronds.length :=
      known.trans_eq (length_fronds_modEng _).symm
    refine ⟨?_, run_atWord known' _ ?_, memSame_of_mem rfl⟩
    · rw [v_atWord known', written]
      rfl
    · rw [written]
      exact run

/-! ## Reductions -/

variable {vs : List W32} {fold : List W32 → Invocation → Invocation} {result : Invocation → W32} {fl : CvtFlags}

/-- The run with nothing folded, and with what `y` has folded. -/
def unfolded (z : Invocation) : Invocation := { z with best := none, nan := false, sum := (0, 0), any := false }
def foldedAs (y z : Invocation) : Invocation := { z with best := y.best, nan := y.nan, sum := y.sum, any := y.any }

theorem reduceChunk_last (last : x.chunks ≤ x.chunk + 1) : reduceChunk c f x i vs fold result fl
    = setSreg (modRun (eeFlags c f fl) f unfolded) f (i.d - 16) (result (fold vs x)) := by
  unfold reduceChunk
  rw [if_neg (by omega)]
  rfl

theorem reduceChunk_more (more : x.chunk + 1 < x.chunks) : reduceChunk c f x i vs fold result fl
    = modRun (eeFlags c f fl) f (foldedAs (fold vs x)) := by
  unfold reduceChunk
  rw [if_pos more]
  rfl

/-- In the row's last chunk the reduction's result goes into its s register. -/
theorem reduce_last (run : (engOf c f).run = some x) (row : x.row = true) (dest : i.d - 16 < 8) (last : x.chunks ≤ x.chunk + 1) :
    let t := advanceEngine (reduceChunk c f x i vs fold result fl) f x false true
    sReg (engOf t f) (i.d - 16) = result (fold vs x)
    ∧ (∀ k, k < 8 → k ≠ i.d - 16 → sReg (engOf t f) k = sReg (engOf c f) k) ∧ (x.pc + 1 < x.prog.length → MemSame c t) := by
  have flags : Reported c (eeFlags c f fl) := (Reported.refl c).eeFlags
  have known : f < (eeFlags c f fl).seq.fronds.length := by rw [flags.seq]; exact known_of_run run
  have known' : f < (modRun (eeFlags c f fl) f unfolded).seq.fronds.length := known.trans_eq (length_fronds_modEng _).symm
  have written := engOf_setSreg known' (i.d - 16) (result (fold vs x))
  rw [engOf_modRun known, flags.eng] at written
  dsimp only
  rw [reduceChunk_last last]
  have kept := (RowsKept.refl (f := f) (setSreg (modRun (eeFlags c f fl) f unfolded) f (i.d - 16) (result (fold vs x)))).advanceEngine (x := x)
    (whole := false) (ends := true)
  refine ⟨?_, fun k hk ne => ?_, fun more => memSame_of_mem ((advanceEngine_mem_of_more row more).trans flags.mem)⟩
  · rw [sReg_of_kept kept, written, sReg_withSreg_same dest]
  · rw [sReg_of_kept kept, written, sReg_withSreg_ne hk ne]
    rfl

/-- The run at the beginning of the sweep's next chunk. -/
def nextChunk (z : Invocation) : Invocation := { z with chunk := z.chunk + 1, pc := z.sweep }

theorem advanceEngine_nextChunk (row : x.row = true) (more : x.chunk + 1 < x.chunks) : advanceEngine s f x false true
    = wf (clearLanes (modRun s f nextChunk) f) (R.FRD_EE_STATUS f) F.FRD_EE_STATUS_pc
        (((engOf (clearLanes (modRun s f nextChunk) f) f).run.map (·.pc)).getD 0) := by
  unfold advanceEngine
  simp only [row, more, Bool.not_true, Bool.not_false, Bool.false_eq_true, Bool.and_false, Bool.false_and, Bool.true_and, decide_true, if_false, if_true]
  rfl

/-- In an earlier chunk what has been folded stays in the run, and the sweep's next chunk begins at its first word. -/
theorem reduce_more (run : (engOf c f).run = some x) (row : x.row = true) (more : x.chunk + 1 < x.chunks) :
    let t := advanceEngine (reduceChunk c f x i vs fold result fl) f x false true
    (engOf t f).run = some (nextChunk (foldedAs (fold vs x) x)) ∧ (engOf t f).sr = (engOf c f).sr ∧ MemSame c t := by
  have flags : Reported c (eeFlags c f fl) := (Reported.refl c).eeFlags
  have known : f < (eeFlags c f fl).seq.fronds.length := by rw [flags.seq]; exact known_of_run run
  have known' : f < (modRun (eeFlags c f fl) f (foldedAs (fold vs x))).seq.fronds.length := known.trans_eq (length_fronds_modEng _).symm
  have known'' : f < (modRun (modRun (eeFlags c f fl) f (foldedAs (fold vs x))) f nextChunk).seq.fronds.length :=
    known'.trans_eq (length_fronds_modEng _).symm
  dsimp only
  rw [reduceChunk_more more]
  refine ⟨?_, ?_, memSame_of_mem ?_⟩
  · rw [advanceEngine_nextChunk row more, engOf_wf, run_clearLanes known'', engOf_modRun known', engOf_modRun known, flags.eng, run]
    rfl
  · rw [(RowsKept.refl _).advanceEngine.sr, engOf_modRun known, flags.eng]
  · rw [advanceEngine_nextChunk row more]
    exact clearLanes_mem.trans flags.mem

/-! ## RMAX -/

/-- `m` is no smaller than `v`, +0 counting above −0 (R172). -/
def AtLeast (m v : W32) : Prop := key32 v ≤ key32 m ∧ (key32 m = key32 v → neg32 m = true → neg32 v = true)

theorem AtLeast.refl (m : W32) : AtLeast m m := ⟨le_rfl, fun _ h => h⟩

theorem AtLeast.trans {a b c : W32} (hab : AtLeast a b) (hbc : AtLeast b c) : AtLeast a c := by
  obtain ⟨low, sign⟩ := hab
  obtain ⟨low', sign'⟩ := hbc
  refine ⟨low'.trans low, fun eq neg => sign' ?_ (sign ?_ neg)⟩
  · omega
  · omega

theorem atLeast_iff {m v : W32} (hm : isNaN32 m = false) (hv : isNaN32 v = false) :
    (fvLt (f32v m) (f32v v) = false ∧ (fvEq (f32v m) (f32v v) = true → neg32 m = true → neg32 v = true)) ↔ AtLeast m v := by
  rw [fvLt_key32 hm hv, fvEq_key32 hm hv, decide_eq_false_iff_not, decide_eq_true_eq, not_lt, AtLeast]

/-- MAX of two values is one of them and no smaller than either. -/
theorem maxFW_atLeast {a b : W32} (ha : isNaN32 a = false) (hb : isNaN32 b = false) :
    (maxFW a b = a ∨ maxFW a b = b) ∧ AtLeast (maxFW a b) a ∧ AtLeast (maxFW a b) b := by
  rw [maxFW, ha, hb, if_neg (by decide), fvLt_key32 ha hb, fvLt_key32 hb ha]
  simp only [decide_eq_true_eq]
  split
  · next lt => exact ⟨.inr rfl, ⟨lt.le, fun eq => by omega⟩, .refl b⟩
  · split
    · next lt => exact ⟨.inl rfl, .refl a, ⟨lt.le, fun eq => by omega⟩⟩
    · split
      · next neg => exact ⟨.inr rfl, ⟨by omega, fun _ _ => neg⟩, .refl b⟩
      · next pos => exact ⟨.inl rfl, .refl a, ⟨by omega, fun _ neg => absurd neg pos⟩⟩

/-- The fold's next best value. -/
def better (best : Option W32) (v : W32) : W32 :=
  match best with
  | some b => maxFW b v
  | none => v

theorem foldMax_cons (v : W32) (vs : List W32) (x : Invocation) :
    foldMax (v :: vs) x = foldMax vs { x with nan := x.nan || isNaN32 v, any := true, best := some (better x.best v) } := rfl

theorem foldMax_nan (vs : List W32) (x : Invocation) : (foldMax vs x).nan = (x.nan || vs.any isNaN32) := by
  induction vs generalizing x with
  | nil => simp [foldMax]
  | cons v vs ih => rw [foldMax_cons, ih, List.any_cons, Bool.or_assoc]

theorem foldMax_isSome (vs : List W32) (x : Invocation) : (foldMax vs x).best.isSome = !(x.best.toList ++ vs).isEmpty := by
  induction vs generalizing x with
  | nil => cases h : x.best <;> simp [foldMax, h]
  | cons v vs ih => rw [foldMax_cons, ih]; simp

theorem better_atLeast {best : Option W32} {v : W32} (clean : ∀ u ∈ best.toList ++ [v], isNaN32 u = false) :
    better best v ∈ best.toList ++ [v] ∧ ∀ u ∈ best.toList ++ [v], AtLeast (better best v) u := by
  cases best with
  | none => simp [better, AtLeast.refl]
  | some b =>
    obtain ⟨one, first, second⟩ := maxFW_atLeast (clean b (by simp)) (clean v (by simp))
    simp [better, one, first, second]

/-- The largest of the values folded. -/
theorem foldMax_best {vs : List W32} {x : Invocation} {m : W32} (clean : ∀ v ∈ x.best.toList ++ vs, isNaN32 v = false)
    (best : (foldMax vs x).best = some m) : m ∈ x.best.toList ++ vs ∧ ∀ v ∈ x.best.toList ++ vs, AtLeast m v := by
  induction vs generalizing x with
  | nil =>
    have same : x.best = some m := best
    simp [same, AtLeast.refl]
  | cons v vs ih =>
    rw [foldMax_cons] at best
    obtain ⟨one, above⟩ := better_atLeast (best := x.best) (v := v) fun u hu => clean u (by
      simp only [List.mem_append, List.mem_cons, List.not_mem_nil] at hu ⊢
      tauto)
    have clean' : ∀ u ∈ better x.best v :: vs, isNaN32 u = false := fun u hu => clean u (by
      simp only [List.mem_append, List.mem_cons, List.not_mem_nil] at hu one ⊢
      rcases hu with rfl | hu
      · tauto
      · tauto)
    obtain ⟨found, largest⟩ := ih (by simpa using clean') best
    simp only [Option.toList_some, List.cons_append, List.nil_append, List.mem_append, List.mem_cons, List.not_mem_nil, or_false] at found largest one above ⊢
    refine ⟨?_, fun u hu => ?_⟩
    · rcases found with rfl | found
      · tauto
      · tauto
    · rcases hu with hu | rfl | hu
      · exact (largest _ (.inl rfl)).trans (above u (.inl hu))
      · exact (largest _ (.inl rfl)).trans (above u (.inr rfl))
      · exact largest u (.inr hu)

/-- The largest value folded meets what R172 says of it. -/
theorem maxResult_spec {vs : List W32} {x : Invocation} (clean : ∀ b, x.best = some b → isNaN32 b = false) :
    let all := x.best.toList ++ vs
    let nan := x.nan || vs.any isNaN32
    let m := maxResult (foldMax vs x)
    (nan = true → m = 0x7FC00000#32) ∧ (nan = false → all = [] → m = 0xFF800000#32)
      ∧ (nan = false → all ≠ [] → m ∈ all ∧ ∀ v ∈ all, fvLt (f32v m) (f32v v) = false
        ∧ (fvEq (f32v m) (f32v v) = true → neg32 m = true → neg32 v = true)) := by
  dsimp only
  rw [maxResult, foldMax_nan]
  have some_iff := foldMax_isSome vs x
  refine ⟨fun nan => by rw [if_pos nan]; rfl, fun nan none => ?_, fun nan some => ?_⟩
  · rw [none] at some_iff
    rw [nan, if_neg (by decide), Option.isSome_eq_false_iff.mp some_iff |> Option.isNone_iff_eq_none.mp]
    rfl
  · obtain ⟨m, best⟩ := Option.isSome_iff_exists.mp (some_iff.trans (by simpa using some))
    have none : ∀ v ∈ x.best.toList ++ vs, isNaN32 v = false := fun v hv => by
      rcases List.mem_append.mp hv with hv | hv
      · exact clean v (Option.mem_toList.mp hv)
      · rw [Bool.or_eq_false_iff] at nan
        exact Bool.eq_false_of_not_eq_true (List.any_eq_false.mp nan.2 v hv)
    obtain ⟨found, largest⟩ := foldMax_best none best
    rw [nan, if_neg (by decide), best, Option.getD_some]
    exact ⟨found, fun v hv => (atLeast_iff (none m found) (none v hv)).mpr (largest v hv)⟩

/-! ## RSUM -/

theorem foldSum_sum (vs : List W32) (x : Invocation) : (foldSum vs x).sum = vs.foldl (fun a v => pairAdd a (f32v v)) x.sum := by
  induction vs generalizing x with
  | nil => rfl
  | cons v vs ih => exact ih _

theorem foldSum_any (vs : List W32) (x : Invocation) : (foldSum vs x).any = (x.any || !vs.isEmpty) := by
  induction vs generalizing x with
  | nil => simp [foldSum]
  | cons v vs ih => exact (ih _).trans (by simp)

theorem sumResult_spec (vs : List W32) (x : Invocation) : sumResult (foldSum vs x)
    = (let p := vs.foldl (fun a v => pairAdd a (f32v v)) x.sum
      if vs = [] ∧ x.any = false then 0 else toF32 (pairVal p.1 p.2)) := by
  rw [sumResult, foldSum_sum, foldSum_any]
  cases x.any with
  | true => simp
  | false => cases vs <;> simp

/-! ## The instructions -/

theorem posActive_congr (places : SamePlaces s c) (p : Nat) : posActive c f x p = posActive s f x p := by
  simp only [posActive, rowLen, lengthWord, places.storeNum]

/-- Counting cycles changes no operand. -/
theorem reduceVals_countCycles (op : Nat) : reduceVals (countCycles s f x op i.aux) f x i = reduceVals s f x i := by
  simp only [reduceVals, engOf_countCycles, posActive_congr (countCycles_places s f x op i.aux)]

theorem reduce_dest {op : Nat} (reduces : op = 0x60 ∨ op = 0x61) (valid : eInvalid op i = false) : i.d - 16 < 8 := by
  have dest : eBadDest op i.d = false := by
    simp only [eInvalid, Bool.or_eq_false_iff] at valid
    tauto
  rw [eBadDest, if_pos reduces, Bool.or_eq_false_iff, decide_eq_false_iff_not, decide_eq_false_iff_not] at dest
  omega

theorem exec_rmax (f : Nat) (i : EInstr) (s : State) : exec (.rmax f i) s = elemCmd 0x60 false true f i (fun f x s =>
    reduceChunk s f x i (reduceVals s f x i) foldMax maxResult ⟨false, false, (reduceVals s f x i).any isNaN32⟩) s := rfl

/-- The flags that RSUM raises in a chunk (R173, R177). -/
def sumFlags (i : EInstr) (f : Nat) (x : Invocation) (s : State) : CvtFlags :=
  let y := foldSum (reduceVals s f x i) x
  ⟨decide (x.chunks ≤ x.chunk + 1) && isFin32 y.sum.1 && isInf32 (sumResult y),
    isNaN32 y.sum.1 && !(x.nan || (reduceVals s f x i).any isNaN32) && !isNaN32 x.sum.1, (reduceVals s f x i).any isNaN32⟩

theorem exec_rsum (f : Nat) (i : EInstr) (s : State) : exec (.rsum f i) s = elemCmd 0x61 false true f i (fun f x s =>
    reduceChunk s f x i (reduceVals s f x i) foldSum sumResult (sumFlags i f x s)) s := rfl

theorem rmax_completes (valid : eInvalid 0x60 i = false) (err : i.err = .none) (next : issuing s f (eWord 0x60 i) = some x) (row : x.row = true)
    (clean : ∀ b, x.best = some b → isNaN32 b = false) :
    let vs := x.best.toList ++ reduceVals s f x i
    let nan := x.nan || (reduceVals s f x i).any isNaN32
    (x.chunks ≤ x.chunk + 1 → Completes (.rmax f i) s (fun t =>
      let m := sReg (engOf t f) (i.d - 16)
      (nan = true → m = 0x7FC00000#32) ∧ (nan = false → vs = [] → m = 0xFF800000#32)
      ∧ (nan = false → vs ≠ [] → m ∈ vs ∧ ∀ v ∈ vs, fvLt (f32v m) (f32v v) = false
        ∧ (fvEq (f32v m) (f32v v) = true → neg32 m = true → neg32 v = true))
      ∧ (∀ k, k < 8 → k ≠ i.d - 16 → sReg (engOf t f) k = sReg (engOf s f) k) ∧ (x.pc + 1 < x.prog.length → MemSame s t)))
    ∧ (x.chunk + 1 < x.chunks → Completes (.rmax f i) s (fun t =>
      (∃ y, (engOf t f).run = some y ∧ y.pc = x.sweep ∧ y.chunk = x.chunk + 1 ∧ y.nan = nan ∧ y.best.isSome = !vs.isEmpty)
      ∧ (engOf t f).sr = (engOf s f).sr ∧ MemSame s t)) := by
  have exec_eq := (exec_rmax f i s).trans (elemCmd_issues valid err next)
  rw [reduceVals_countCycles] at exec_eq
  have run : (engOf (countCycles s f x 0x60 i.aux) f).run = some x := (issuing_eq_some next).1
  refine ⟨fun last => ⟨_, exec_eq, ?_⟩, fun more => ⟨_, exec_eq, ?_⟩⟩
  · obtain ⟨result, others, mem⟩ := reduce_last (i := i) (vs := reduceVals s f x i) (fold := foldMax) (result := maxResult)
      (fl := ⟨false, false, (reduceVals s f x i).any isNaN32⟩) run row (reduce_dest (.inl rfl) valid) last
    obtain ⟨ofNaN, ofNone, ofSome⟩ := maxResult_spec (vs := reduceVals s f x i) clean
    dsimp only
    rw [result]
    exact ⟨ofNaN, ofNone, ofSome, others, mem⟩
  · obtain ⟨run', sregs, mem⟩ := reduce_more (i := i) (vs := reduceVals s f x i) (fold := foldMax) (result := maxResult)
      (fl := ⟨false, false, (reduceVals s f x i).any isNaN32⟩) run row more
    exact ⟨⟨_, run', rfl, rfl, foldMax_nan _ x, foldMax_isSome _ x⟩, sregs, mem⟩

theorem rsum_completes (valid : eInvalid 0x61 i = false) (err : i.err = .none) (next : issuing s f (eWord 0x61 i) = some x) (row : x.row = true) :
    let vs := reduceVals s f x i
    let p := vs.foldl (fun a v => pairAdd a (f32v v)) x.sum
    (x.chunks ≤ x.chunk + 1 → Completes (.rsum f i) s (fun t =>
      sReg (engOf t f) (i.d - 16) = (if vs = [] ∧ x.any = false then 0 else toF32 (pairVal p.1 p.2))
      ∧ (∀ k, k < 8 → k ≠ i.d - 16 → sReg (engOf t f) k = sReg (engOf s f) k) ∧ (x.pc + 1 < x.prog.length → MemSame s t)))
    ∧ (x.chunk + 1 < x.chunks → Completes (.rsum f i) s (fun t =>
      (∃ y, (engOf t f).run = some y ∧ y.pc = x.sweep ∧ y.chunk = x.chunk + 1 ∧ y.sum = p ∧ y.any = (x.any || !vs.isEmpty))
      ∧ (engOf t f).sr = (engOf s f).sr ∧ MemSame s t)) := by
  have exec_eq := (exec_rsum f i s).trans (elemCmd_issues valid err next)
  rw [reduceVals_countCycles] at exec_eq
  generalize sumFlags i f x (countCycles s f x 0x61 i.aux) = fl at exec_eq
  have run : (engOf (countCycles s f x 0x61 i.aux) f).run = some x := (issuing_eq_some next).1
  refine ⟨fun last => ⟨_, exec_eq, ?_⟩, fun more => ⟨_, exec_eq, ?_⟩⟩
  · obtain ⟨result, others, mem⟩ := reduce_last (i := i) (vs := reduceVals s f x i) (fold := foldSum) (result := sumResult) (fl := fl) run row
      (reduce_dest (.inr rfl) valid) last
    exact ⟨result.trans (sumResult_spec _ x), others, mem⟩
  · obtain ⟨run', sregs, mem⟩ := reduce_more (i := i) (vs := reduceVals s f x i) (fold := foldSum) (result := sumResult) (fl := fl) run row more
    exact ⟨⟨_, run', rfl, rfl, foldSum_sum _ x, foldSum_any _ x⟩, sregs, mem⟩

end Sys2Proof.Laws
end

section
/-! SUPPORT. What SOFTMAX and LNORM report of their row: empty and NaN rows counted once each, the row's flags (R177, R178). -/

namespace Sys2Proof.Laws

set_option Elab.async false

open Sys2Proof.Machine

variable {s t u : State} {f k : Nat} {x : Invocation}

/-! ## Registers that name no place -/

protected theorem SamePlaces.setReg (s : State) {r : Nat} (v : W64) (device : R.DEV_FABRIC_ID ≠ r) (image : R.THL_STATUS ≠ r)
    (store : R.THL_STORE_BASE ≠ r) : SamePlaces s (setReg s r v) :=
  ⟨rfl, rfl, rfl, rfl, rfl, reg_setReg_ne s v device, reg_setReg_ne s v image, reg_setReg_ne s v store⟩

/-- A register of the fronds names no place. -/
theorem SamePlaces.frondReg (s : State) {r : Nat} (v : W64) (high : 0x100000 ≤ r) : SamePlaces s (setReg s r v) :=
  .setReg s v (by unfold R.DEV_FABRIC_ID; omega) (by unfold R.THL_STATUS; omega) (by unfold R.THL_STORE_BASE; omega)

/-! ## The row's marks -/

/-- From `s` to `u` at most reports and the row flags of the frond's run have changed. -/
structure RowMarked (f : Nat) (s u : State) : Prop where
  places : SamePlaces s u
  known : u.seq.fronds.length = s.seq.fronds.length
  sr : (engOf u f).sr = (engOf s f).sr
  run : ∀ y, (engOf s f).run = some y → f < s.seq.fronds.length → ∃ fl, (engOf u f).run = some { y with rowFlags := fl }

namespace RowMarked

protected theorem refl (s : State) : RowMarked f s s := ⟨.refl s, rfl, rfl, fun y run _ => ⟨y.rowFlags, run⟩⟩

protected theorem trans (hs : RowMarked f s t) (ht : RowMarked f t u) : RowMarked f s u where
  places := hs.places.trans ht.places
  known := ht.known.trans hs.known
  sr := ht.sr.trans hs.sr
  run y run known := by
    obtain ⟨fl, first⟩ := hs.run y run known
    obtain ⟨fl', second⟩ := ht.run _ first (known.trans_eq hs.known.symm)
    exact ⟨fl', second⟩

/-- A change of neither places nor fronds. -/
theorem put (hs : RowMarked f s t) (places : SamePlaces t u) (seq : u.seq = t.seq) : RowMarked f s u :=
  hs.trans ⟨places, by rw [seq], by rw [engOf_congr seq], fun y run _ => ⟨y.rowFlags, by rw [engOf_congr seq, run]⟩⟩

protected theorem ite {c : Prop} {d : Decidable c} (hs : RowMarked f s t) (hu : RowMarked f s u) : RowMarked f s (if c then t else u) := by
  split
  · exact hs
  · exact hu

theorem flagEvent {fl : Field} {en : Bool} (hs : RowMarked f s t) (hf : f < 32) :
    RowMarked f s (flagEvent t (R.FRD_EE_FLAGS f) fl en (32 + f)) := by
  unfold Machine.flagEvent
  split
  · exact hs
  · have flagged : RowMarked f s (wf t (R.FRD_EE_FLAGS f) fl 1) :=
      hs.put (.frondReg t _ (by unfold R.FRD_EE_FLAGS; omega)) rfl
    exact flagged.put ((Sent.refl _).evgFireIf (by omega)).places (Reported.refl _).evgFireIf.seq

theorem eeFlags {c : CvtFlags} (hs : RowMarked f s t) (hf : f < 32) : RowMarked f s (eeFlags t f c) := by
  unfold Machine.eeFlags
  extract_lets _ _ t₁ t₂
  have h₁ : RowMarked f s t₁ := .ite (hs.flagEvent hf) hs
  have h₂ : RowMarked f s t₂ := .ite (h₁.flagEvent hf) h₁
  exact .ite (h₂.flagEvent hf) h₂

theorem rowFlag {b : Nat} (hs : RowMarked f s t) : RowMarked f s (rowFlag t f b) := by
  refine hs.trans ⟨⟨rfl, rfl, rfl, rfl, rfl, rfl, rfl, rfl⟩, length_fronds_modEng _, engOf_modEng_of_eq Engine.sr fun _ => rfl,
    fun y run known => ⟨setBits y.rowFlags b 1 1, ?_⟩⟩
  rw [Machine.rowFlag, engOf_modRun known, run]
  rfl

theorem countRow {b r : Nat} (hs : RowMarked f s t) (high : 0x100000 ≤ r) : RowMarked f s (countRow t f b r) := by
  have bumped : RowMarked f t (bump t r 1) := (RowMarked.refl t).put
    (.bump t (by unfold R.DEV_FABRIC_ID; omega) (by unfold R.THL_STATUS; omega) (by unfold R.THL_STORE_BASE; omega)) rfl
  exact (RowMarked.ite hs (hs.trans bumped)).rowFlag

theorem emptyRow (hs : RowMarked f s t) (hf : f < 32) : RowMarked f s (emptyRow t f) :=
  (hs.countRow (by unfold R.FRD_EE_EMPTY_CNT; omega)).flagEvent hf

theorem nanRow (hs : RowMarked f s t) (hf : f < 32) : RowMarked f s (nanRow t f) :=
  (hs.countRow (by unfold R.FRD_EE_NANROW_CNT; omega)).flagEvent hf

end RowMarked

/-! ## The row's verdict -/

/-- The row is counted and flagged as its values say: 0 plain, 1 nan, 2 empty, 3 posinf; not in a pre-pass (R178, R452). -/
def rowVerdict (s : State) (f : Nat) (x : Invocation) (verdict : Nat) : State :=
  if x.pre then s else match verdict with
    | 1 => nanRow s f
    | 2 => emptyRow s f
    | 3 => rowFlag s f 2
    | _ => s

theorem rowVerdict_marked (hf : f < 32) (verdict : Nat) : RowMarked f s (rowVerdict s f x verdict) := by
  unfold rowVerdict
  split
  · exact .refl s
  · split
    · exact (RowMarked.refl s).nanRow hf
    · exact (RowMarked.refl s).emptyRow hf
    · exact (RowMarked.refl s).rowFlag
    · exact .refl s

/-- One row more in a count, unless the row's flag stood already. -/
theorem toNat_countRow {b r : Nat} (run : (engOf s f).run = some x) (room : (reg s r).toNat + 1 < 2 ^ 64) :
    (reg (countRow s f b r) r).toNat = (reg s r).toNat + (if bitOf x.rowFlags b = true then 0 else 1) := by
  have kept (u : State) : reg (rowFlag u f b) r = reg u r := rfl
  rw [countRow, kept, run, Option.any_some]
  split
  · rfl
  · exact toNat_reg_bump room

/-- What a row that has verdict `verdict`, with count `r` and flag `b` of the row's byte, adds to the count. -/
theorem toNat_marked {b r : Nat} {fl : Field} (hf : f < 32) (hr : rowCount f r) (run : (engOf s f).run = some x)
    (room : (reg s r).toNat + 1 < 2 ^ 64) (pre : x.pre = true → u = s) (marked : x.pre = false → u = rowSticky (countRow s f b r) f fl) :
    (reg u r).toNat = (reg s r).toNat + (if x.pre = true ∨ bitOf x.rowFlags b = true then 0 else 1) := by
  cases isPre : x.pre with
  | true => rw [pre isPre]; simp
  | false =>
    rw [marked isPre, (RowsKept.refl _).rowSticky.counts hf r hr, toNat_countRow run room]
    simp

theorem toNat_rowVerdict_nan (hf : f < 32) (run : (engOf s f).run = some x) (room : (reg s (R.FRD_EE_NANROW_CNT f)).toNat + 1 < 2 ^ 64) :
    (reg (rowVerdict s f x 1) (R.FRD_EE_NANROW_CNT f)).toNat
      = (reg s (R.FRD_EE_NANROW_CNT f)).toNat + (if x.pre = true ∨ bitOf x.rowFlags 1 = true then 0 else 1) :=
  toNat_marked hf (.inr rfl) run room (fun pre => if_pos pre) fun no => if_neg (by simp [no])

theorem toNat_rowVerdict_empty (hf : f < 32) (run : (engOf s f).run = some x) (room : (reg s (R.FRD_EE_EMPTY_CNT f)).toNat + 1 < 2 ^ 64) :
    (reg (rowVerdict s f x 2) (R.FRD_EE_EMPTY_CNT f)).toNat
      = (reg s (R.FRD_EE_EMPTY_CNT f)).toNat + (if x.pre = true ∨ bitOf x.rowFlags 0 = true then 0 else 1) :=
  toNat_marked hf (.inl rfl) run room (fun pre => if_pos pre) fun no => if_neg (by simp [no])

end Sys2Proof.Laws
end

section
/-! SUPPORT. A whole row written into a region, and what follows it (R146, R152, R167, R175, R176, R178). -/

namespace Sys2Proof.Laws

set_option Elab.async false

open Sys2Proof.Machine

variable {s t u : State} {f r rnd : Nat} {x : Invocation} {scale : W32} {ys : List (W32 × Nat)}

/-! ## The row's elements -/

/-- The element of position `p`. -/
def rowElem (x : Invocation) (ys : List (W32 × Nat)) (p : Nat) : StoreElem :=
  ⟨x.group, p, ys[p]?.map (·.1), (ys.getD p (0, 0)).2, decide (p < ys.length)⟩

theorem writeRow_eq : writeRow s f x r rnd scale ys
    = regionStore s f x r rnd (((List.range ((ys.length + 31) / 32 * 32)).map (rowElem x ys)).map (fun _ => scale))
        ((List.range ((ys.length + 31) / 32 * 32)).map (rowElem x ys)) := rfl

/-- A row written keeps the s registers, the counts and the run's group. -/
theorem writeRow_keeps : StoreKeeps (fun _ => False) f s (writeRow s f x r rnd scale ys) := by
  rw [writeRow_eq]
  exact (StoreKeeps.refl s).regionStore (fun _ _ _ _ no => no.elim) fun _ _ _ _ _ no => no.elim

/-- The exact value that a store converts for a value of a row, an exact 1/k in its place where k is not 0 (R175). -/
def rowExact (y : W32 × Nat) : FV := if y.2 = 0 then f32v y.1 else fvDiv (.fin false 1 0) (fvInt (y.2 : Int))

/-- Address of the value of position `p`. -/
def rowAddr (f : Nat) (x : Invocation) (r p : Nat) : Nat :=
  storeBase f + (x.region r).1 + x.group * (x.region r).2.1 + p * (fmtBits (x.fmt r) / 8)

theorem elemWrite_rowElem {p : Nat} {y : W32 × Nat} (value : ys[p]? = some y) : elemWrite s f x r rnd (rowElem x ys p)
    = (rowAddr f x r p, leBytes (fmtBits (x.fmt r) / 8) (exactCode s x r rnd x.group p y.1 (rowExact y))) := by
  simp only [elemWrite, elemCode, rowElem, value, Option.map_some, elemAddr, rowAddr, StoreElem.exact, rowExact, List.getD_eq_getElem?_getD,
    Option.getD_some, Nat.add_assoc]

/-- The values of a row written into a plain region stand there, and no other byte has changed. -/
theorem writeRow_stored (region : PlainRegion s f x r) :
    (∀ p y, ys[p]? = some y → numAt (writeRow s f x r rnd scale ys) (rowAddr f x r p) (fmtBits (x.fmt r) / 8)
        = exactCode s x r rnd x.group p y.1 (rowExact y) % 2 ^ (8 * (fmtBits (x.fmt r) / 8)))
    ∧ ∀ a, (∀ p, p < ys.length → a < rowAddr f x r p ∨ rowAddr f x r p + fmtBits (x.fmt r) / 8 ≤ a) →
      byteAt (writeRow s f x r rnd scale ys) a = byteAt s a := by
  rw [writeRow_eq]
  have mem := (regionStore_wrote (s := s) (rnd := rnd) region (((List.range ((ys.length + 31) / 32 * 32)).map (rowElem x ys)).map (fun _ => scale))
    ((List.range ((ys.length + 31) / 32 * 32)).map (rowElem x ys))).mem
  generalize regionStore s f x r rnd _ _ = t at mem
  refine ⟨fun p y value => numAt_putAll mem ?_ ?_, fun a outside => byteAt_putAll mem fun w hw => ?_⟩
  · refine List.pairwise_map.mpr (List.Pairwise.filter _ (List.pairwise_map.mpr (List.pairwise_lt_range.imp fun {p q} lt => .inl ?_)))
    simp only [elemWrite, leBytes_length, elemAddr, rowElem]
    have step : (p + 1) * (fmtBits (x.fmt r) / 8) ≤ q * (fmtBits (x.fmt r) / 8) := Nat.mul_le_mul_right _ lt
    rw [Nat.succ_mul] at step
    omega
  · obtain ⟨lt, -⟩ := List.getElem?_eq_some_iff.mp value
    refine List.mem_map.mpr ⟨rowElem x ys p, List.mem_filter.mpr ⟨List.mem_map_of_mem (List.mem_range.mpr (by omega)), decide_eq_true lt⟩, ?_⟩
    exact elemWrite_rowElem value
  · obtain ⟨e, he, rfl⟩ := List.mem_map.mp hw
    obtain ⟨he, wr⟩ := List.mem_filter.mp he
    obtain ⟨p, -, rfl⟩ := List.mem_map.mp he
    have lt : p < ys.length := of_decide_eq_true wr
    rw [elemWrite_rowElem (List.getElem?_eq_getElem lt), leBytes_length]
    exact outside p lt

/-! ## Behind a whole-row instruction -/

/-- The run at word `n`, where a sweep begins in chunk 0. -/
def sweepAt (n : Nat) (z : Invocation) : Invocation := { z with chunk := 0, sweep := n, pc := n }

theorem advanceEngine_sweep (row : x.row = true) (more : x.pc + 1 < x.prog.length) : advanceEngine s f x true true
    = wf (clearLanes (modRun s f (sweepAt (x.pc + 1))) f) (R.FRD_EE_STATUS f) F.FRD_EE_STATUS_pc
        (((engOf (clearLanes (modRun s f (sweepAt (x.pc + 1))) f) f).run.map (·.pc)).getD 0) := by
  unfold advanceEngine
  simp only [row, more, Bool.not_true, Bool.false_eq_true, Bool.false_and, if_false, if_true]
  rfl

theorem advanceEngine_row (row : x.row = true) (last : x.prog.length ≤ x.pc + 1) : advanceEngine s f x true true
    = wf (nextRow s f x) (R.FRD_EE_STATUS f) F.FRD_EE_STATUS_pc (((engOf (nextRow s f x) f).run.map (·.pc)).getD 0) := by
  unfold advanceEngine
  simp only [row, show ¬ x.pc + 1 < x.prog.length by omega, Bool.not_true, Bool.false_eq_true, Bool.false_and, if_false]

theorem stopInvocation_mem : (stopInvocation s f).mem = s.mem := rfl

/-- The row's flag byte stored, when the program keeps flag bytes. -/
def storeRowFlags (s : State) (f : Nat) (x : Invocation) : State :=
  if fieldAt x.call 0x1C 4 = 0xFFFF_FFFF then s else storePut s f (fieldAt x.call 0x1C 4 + x.group) (leBytes 1 (runOf s f x).rowFlags)

theorem nextRow_of_more (more : x.group + 1 < x.rows) : nextRow s f x = (let u := storeRowFlags s f x
    if (frondOf u f).halted then stopInvocation u f else beginRow (modRun u f (fun y => { y with group := y.group + 1 })) f) := by
  unfold nextRow
  simp only [show ¬ x.rows ≤ x.group + 1 by omega, if_false]
  rfl

theorem storeRowFlags_seq : (storeRowFlags s f x).seq = s.seq := by
  unfold storeRowFlags
  split
  · rfl
  · rfl

theorem storeRowFlags_byte {a : Nat} (off : a ≠ storeBase f + fieldAt x.call 0x1C 4 + x.group) : byteAt (storeRowFlags s f x) a = byteAt s a := by
  unfold storeRowFlags
  split
  · rfl
  · refine byteAt_setBytes_outside (s := s) ?_
    rw [leBytes_length]
    omega

/-- A row that is not the last ends with its flag byte; no other byte changes. -/
theorem nextRow_byte {y : Invocation} (known : f < s.seq.fronds.length) (run : (engOf s f).run = some y) (more : x.group + 1 < x.rows) {a : Nat}
    (off : a ≠ storeBase f + fieldAt x.call 0x1C 4 + x.group) : byteAt (nextRow s f x) a = byteAt s a := by
  refine Eq.trans ?_ (storeRowFlags_byte off)
  rw [nextRow_of_more more]
  have known' : f < (storeRowFlags s f x).seq.fronds.length := by rwa [storeRowFlags_seq]
  have run' : (engOf (storeRowFlags s f x) f).run = some y := by rwa [engOf_congr storeRowFlags_seq]
  generalize storeRowFlags s f x = u at known' run'
  dsimp only
  split
  · exact memSame_of_mem stopInvocation_mem a
  · have next : (engOf (modRun u f (fun y => { y with group := y.group + 1 })) f).run = some { y with group := y.group + 1 } := by
      rw [engOf_modRun known', run']
      rfl
    exact memSame_of_mem (beginRow_mem (known'.trans_eq (length_fronds_modEng _).symm) next) a

/-- Behind a whole-row instruction that is not its row's last, or whose row is not the tile's last, at most the flag byte changes. -/
theorem advanceEngine_byte {y : Invocation} (known : f < s.seq.fronds.length) (run : (engOf s f).run = some y) (row : x.row = true)
    (goes : x.pc + 1 < x.prog.length ∨ x.group + 1 < x.rows) {a : Nat}
    (off : x.prog.length ≤ x.pc + 1 → a ≠ storeBase f + fieldAt x.call 0x1C 4 + x.group) :
    byteAt (advanceEngine s f x true true) a = byteAt s a := by
  by_cases more : x.pc + 1 < x.prog.length
  · exact memSame_of_mem (advanceEngine_mem_of_more row more) a
  · have last : x.prog.length ≤ x.pc + 1 := by omega
    rw [advanceEngine_row row last]
    exact nextRow_byte known run (goes.resolve_left more) (off last)

theorem numAt_congr_bytes {a n : Nat} (same : ∀ b, a ≤ b → b < a + n → byteAt t b = byteAt s b) : numAt t a n = numAt s a n := by
  rw [numAt, numAt, bytesAt, bytesAt, List.map_congr_left fun k hk => same (a + k) (by omega) (by have := List.mem_range.mp hk; omega)]

/-! ## A whole-row instruction -/

/-- What SOFTMAX and LNORM do once their values are known: flags, the row's verdict, the row written, and the sweep or row behind it. -/
def wholeRow (s : State) (f : Nat) (x : Invocation) (fl : CvtFlags) (verdict r rnd : Nat) (scale : W32) (ys : List (W32 × Nat)) : State :=
  advanceEngine (writeRow (rowVerdict (eeFlags s f fl) f x verdict) f x r rnd scale ys) f x true true

section

variable {c : State} {op aux verdict : Nat} {fl : CvtFlags}

/-- The counts that a whole row leaves are those of its verdict. -/
theorem wholeRow_counts (hf : f < 32) {q : Nat} (hq : rowCount f q) :
    reg (wholeRow s f x fl verdict r rnd scale ys) q = reg (rowVerdict (eeFlags s f fl) f x verdict) q :=
  ((RowsKept.refl _).advanceEngine.counts hf q hq).trans (writeRow_keeps.counts hf q hq)

theorem wholeRow_sr (hf : f < 32) : (engOf (wholeRow s f x fl verdict r rnd scale ys) f).sr = (engOf s f).sr := by
  have marked := ((RowMarked.refl s).eeFlags (c := fl) hf).trans (rowVerdict_marked (x := x) hf verdict)
  exact ((RowsKept.refl _).advanceEngine.sr.trans writeRow_keeps.sr).trans marked.sr

/-- The run when the row has been written. -/
theorem writeRow_run (hf : f < 32) (run : (engOf s f).run = some x) : ∃ y,
    (engOf (writeRow (rowVerdict (eeFlags s f fl) f x verdict) f x r rnd scale ys) f).run = some y ∧ y.group = x.group := by
  have marked := ((RowMarked.refl s).eeFlags (c := fl) hf).trans (rowVerdict_marked (x := x) hf verdict)
  obtain ⟨flags, first⟩ := marked.run x run (known_of_run run)
  have group := (writeRow_keeps (f := f) (s := rowVerdict (eeFlags s f fl) f x verdict) (x := x) (r := r) (rnd := rnd) (scale := scale) (ys := ys)).group
  rw [first] at group
  obtain ⟨y, run', eq⟩ := Option.map_eq_some_iff.mp group
  exact ⟨y, run', eq⟩

/-- The sweep behind a whole row begins in its first chunk. -/
theorem wholeRow_run (hf : f < 32) (run : (engOf s f).run = some x) (row : x.row = true) (more : x.pc + 1 < x.prog.length) :
    (engOf (wholeRow s f x fl verdict r rnd scale ys) f).run.map (fun y => (y.pc, y.sweep, y.chunk, y.group)) = some (x.pc + 1, x.pc + 1, 0, x.group) := by
  obtain ⟨y, run', group⟩ := writeRow_run (fl := fl) (verdict := verdict) (r := r) (rnd := rnd) (scale := scale) (ys := ys) hf run
  rw [wholeRow, advanceEngine_sweep row more, engOf_wf]
  generalize writeRow (rowVerdict (eeFlags s f fl) f x verdict) f x r rnd scale ys = u at run'
  have known := known_of_run run'
  have known' : f < (modRun u f (sweepAt (x.pc + 1))).seq.fronds.length := known.trans_eq (length_fronds_modEng _).symm
  rw [run_clearLanes known', engOf_modRun known, run', ← group]
  rfl

/-- A row written into a plain region (R146, R175, R176). -/
theorem wholeRow_written (hf : f < 32) (places : SamePlaces c s) (run : (engOf s f).run = some x) (row : x.row = true)
    (region : PlainRegion c f x r) (goes : x.pc + 1 < x.prog.length ∨ x.group + 1 < x.rows) :
    RowWritten c (wholeRow s f x fl verdict r rnd scale ys) f x r rnd ys := by
  have marked := ((RowMarked.refl s).eeFlags (c := fl) hf).trans (rowVerdict_marked (x := x) hf verdict)
  have placesU := places.trans marked.places
  obtain ⟨y, run', -⟩ := writeRow_run (fl := fl) (verdict := verdict) (r := r) (rnd := rnd) (scale := scale) (ys := ys) hf run
  have regionU : PlainRegion (rowVerdict (eeFlags s f fl) f x verdict) f x r :=
    ⟨region.plain, region.notBit, (placesU.regionTensor ..).trans region.free⟩
  obtain ⟨values, others⟩ := writeRow_stored (rnd := rnd) (scale := scale) (ys := ys) regionU
  have behind := fun {a} => advanceEngine_byte (a := a) (known_of_run run') run' row goes
  refine ⟨fun p z value free => ?_, fun a outside off => ?_⟩
  · refine (numAt_congr_bytes fun b low high => behind fun last => ?_).trans ((values p z value).trans ?_)
    · have := free.resolve_left (by omega)
      omega
    · simp only [exactCode, placesU.laneRandom, rowExact]
  · exact (behind off).trans ((others a outside).trans (placesU.byteAt a))

end

end Sys2Proof.Laws
end

section
/-! SUPPORT. SOFTMAX and LNORM: the verdicts on their rows, and their operands as the row's state before the instruction gives them (R171, R174,
R176, R178). -/

namespace Sys2Proof.Laws

set_option Elab.async false

open Sys2Proof.Machine

variable {s c : State} {f : Nat} {x : Invocation} {i : EInstr}

/-! ## Verdicts -/

theorem softmaxVals_nan {ys : List (Option W32)} (nan : ∃ y ∈ ys.filterMap id, isNaN32 y = true) : (softmaxVals ys).2.1 = 1 := by
  unfold softmaxVals
  rw [if_pos (List.any_eq_true.mpr nan)]

theorem softmaxVals_empty {ys : List (Option W32)} (empty : ∀ y ∈ ys.filterMap id, y = 0xFF800000#32) : (softmaxVals ys).2.1 = 2 := by
  have clean : ¬ (ys.filterMap id).any isNaN32 = true := fun some => by
    obtain ⟨y, hy, nan⟩ := List.any_eq_true.mp some
    rw [empty y hy] at nan
    exact absurd nan (by decide)
  have all : (ys.filterMap id).all (fun y => y = f32inf true) = true := List.all_eq_true.mpr fun y hy => decide_eq_true (empty y hy)
  unfold softmaxVals
  rw [if_neg clean, if_pos all]

theorem lnormVals_empty {xs : List (Option W32)} (eps : W32) (affine : Option (List (W32 × W32))) (empty : xs.filterMap id = []) :
    (lnormVals xs eps affine).2.1 = 2 := by
  unfold lnormVals
  rw [empty]
  rfl

theorem lnormVals_nan {xs : List (Option W32)} (eps : W32) (affine : Option (List (W32 × W32))) (some : xs.filterMap id ≠ [])
    (bad : ∃ v ∈ xs.filterMap id, isFin32 v = false) : (lnormVals xs eps affine).2.1 = 1 := by
  obtain ⟨v, hv, infinite⟩ := bad
  unfold lnormVals
  rw [if_neg (by simpa using some), if_pos (List.any_eq_true.mpr ⟨v, hv, by simp [infinite]⟩)]

/-- LNORM never finds a +inf that it counts apart. -/
theorem lnormVals_verdict (xs : List (Option W32)) (eps : W32) (affine : Option (List (W32 × W32))) : (lnormVals xs eps affine).2.1 ≠ 3 := by
  unfold lnormVals
  by_cases empty : (xs.filterMap id).isEmpty = true
  · rw [if_pos empty]
    exact Nat.succ_ne_succ_iff.mpr (by decide)
  · rw [if_neg empty]
    by_cases bad : (xs.filterMap id).any (fun v => !isFin32 v) = true
    · rw [if_pos bad]
      exact Nat.succ_ne_succ_iff.mpr (by decide)
    · rw [if_neg bad]
      exact Nat.zero_ne_add_one 2

/-! ## Operands -/

section

variable (places : SamePlaces s c) (scl : c.scl = s.scl) (seq : c.seq = s.seq)

include places scl seq

theorem softmaxReads_congr : softmaxReads c f x i = softmaxReads s f x i := by
  simp only [softmaxReads, engOf_congr seq, posActive_congr places, places.regionCode, places.regionRead scl]

omit seq in
theorem lnormReads_congr : lnormReads c f x i = lnormReads s f x i := by
  simp only [lnormReads, posActive_congr places, places.regionRead scl]

omit seq in
theorem lnormAffine_congr : lnormAffine c f x i = lnormAffine s f x i := by
  simp only [lnormAffine, places.regionRead scl]

end

/-! ## The instructions as whole rows -/

theorem softmaxRow_whole (c : State) : ∃ fl, advanceEngine (softmaxRow c f x i) f x true true
    = (let r := softmaxVals ((softmaxReads c f x i).map (fun y => y.map (·.1)))
      wholeRow c f x fl r.2.1 (bitsOf i.aux 2 2) i.rnd (operand (engOf c f) x i.b 0) r.1) :=
  ⟨_, rfl⟩

/-- The γ and β of an affine LNORM. -/
def affineOf (c : State) (f : Nat) (x : Invocation) (i : EInstr) : Option (List (W32 × W32)) :=
  if bitOf i.aux 8 then some ((lnormAffine c f x i).map (fun g => (g.1.1, g.2.1))) else none

/-- The row counted and flagged as LNORM's values say: no +inf is counted apart. -/
def lnormVerdict (s : State) (f : Nat) (x : Invocation) (verdict : Nat) : State :=
  if x.pre then s else match verdict with
    | 1 => nanRow s f
    | 2 => emptyRow s f
    | _ => s

theorem lnormVerdict_eq : ∀ {verdict : Nat}, verdict ≠ 3 → lnormVerdict s f x verdict = rowVerdict s f x verdict
  | 0, _ => rfl
  | 1, _ => rfl
  | 2, _ => rfl
  | 3, no => absurd rfl no
  | _ + 4, _ => rfl

theorem lnormRow_eq (c : State) : ∃ fl, lnormRow c f x i
    = (let r := lnormVals ((lnormReads c f x i).map (fun y => y.map (·.1))) (operand (engOf c f) x i.b 0) (affineOf c f x i)
      writeRow (lnormVerdict (eeFlags c f fl) f x r.2.1) f x (bitsOf i.aux 2 2) i.rnd 0 (r.1.map (fun w => (w, 0)))) :=
  ⟨_, rfl⟩

theorem lnormRow_whole (c : State) : ∃ fl, advanceEngine (lnormRow c f x i) f x true true
    = (let r := lnormVals ((lnormReads c f x i).map (fun y => y.map (·.1))) (operand (engOf c f) x i.b 0) (affineOf c f x i)
      wholeRow c f x fl r.2.1 (bitsOf i.aux 2 2) i.rnd 0 (r.1.map (fun w => (w, 0)))) := by
  obtain ⟨fl, eq⟩ := lnormRow_eq (f := f) (x := x) (i := i) c
  refine ⟨fl, ?_⟩
  rw [eq]
  dsimp only
  rw [lnormVerdict_eq (lnormVals_verdict _ _ _), wholeRow]

theorem exec_softmax (f : Nat) (i : EInstr) (s : State) :
    exec (.softmax f i) s = elemCmd 0x62 true true f i (fun f x s => softmaxRow s f x i) s := rfl

theorem exec_lnorm (f : Nat) (i : EInstr) (s : State) : exec (.lnorm f i) s = elemCmd 0x63 true true f i (fun f x s => lnormRow s f x i) s := rfl

/-! ## Completion -/

/-- A whole-row instruction of verdict `verdict` that writes `ys` completes, as the row's state before it counts. -/
structure RowCompletes (s t : State) (f : Nat) (x : Invocation) (verdict r rnd : Nat) (ys : List (W32 × Nat)) : Prop where
  empty : verdict = 2 → (reg s (R.FRD_EE_EMPTY_CNT f)).toNat + 1 < 2 ^ 64 → (reg t (R.FRD_EE_EMPTY_CNT f)).toNat
      = (reg s (R.FRD_EE_EMPTY_CNT f)).toNat + (if x.pre = true ∨ bitOf x.rowFlags 0 = true then 0 else 1)
  nan : verdict = 1 → (reg s (R.FRD_EE_NANROW_CNT f)).toNat + 1 < 2 ^ 64 → (reg t (R.FRD_EE_NANROW_CNT f)).toNat
      = (reg s (R.FRD_EE_NANROW_CNT f)).toNat + (if x.pre = true ∨ bitOf x.rowFlags 1 = true then 0 else 1)
  sr : (engOf t f).sr = (engOf s f).sr
  written : isBlockFmt (x.fmt r) = false → x.fmt r ≠ 0 → regionTensor s f x 0 r = none →
      (x.pc + 1 < x.prog.length ∨ x.group + 1 < x.rows) → RowWritten s t f x r rnd ys
  run : x.pc + 1 < x.prog.length →
      (engOf t f).run.map (fun y => (y.pc, y.sweep, y.chunk, y.group)) = some (x.pc + 1, x.pc + 1, 0, x.group)

theorem wholeRow_completes {op verdict r rnd : Nat} {fl : CvtFlags} {scale : W32} {ys : List (W32 × Nat)} (hf : f < 32)
    (run : (engOf s f).run = some x) (row : x.row = true) :
    RowCompletes s (wholeRow (countCycles s f x op i.aux) f x fl verdict r rnd scale ys) f x verdict r rnd ys := by
  have places := countCycles_places s f x op i.aux
  have kept : RowsKept f s (countCycles s f x op i.aux) := (RowsKept.refl s).countCycles
  have run' : (engOf (countCycles s f x op i.aux) f).run = some x := run
  generalize countCycles s f x op i.aux = c at places kept run'
  have flags : RowsKept f s (eeFlags c f fl) := kept.eeFlags
  have runFlags : (engOf (eeFlags c f fl) f).run = some x := (congrArg Engine.run ((Reported.refl c).eeFlags.eng f)).trans run'
  have emptySame := flags.counts hf _ (.inl rfl)
  have nanSame := flags.counts hf _ (.inr rfl)
  refine ⟨fun empty room => ?_, fun nan room => ?_, (wholeRow_sr hf).trans kept.sr, fun plain notBit free goes => ?_, fun more => ?_⟩
  · rw [wholeRow_counts hf (.inl rfl), empty, toNat_rowVerdict_empty hf runFlags (by rwa [emptySame]), emptySame]
  · rw [wholeRow_counts hf (.inr rfl), nan, toNat_rowVerdict_nan hf runFlags (by rwa [nanSame]), nanSame]
  · exact wholeRow_written hf places run' row ⟨plain, notBit, free⟩ goes
  · exact wholeRow_run hf run' row more

theorem softmax_completes (valid : eInvalid 0x62 i = false) (err : i.err = .none) (next : issuing s f (eWord 0x62 i) = some x)
    (row : x.row = true) (hf : f < 32) :
    let r := softmaxVals ((softmaxReads s f x i).map (fun y => y.map (fun q => q.1)))
    Completes (.softmax f i) s (fun t => RowCompletes s t f x r.2.1 (bitsOf i.aux 2 2) i.rnd r.1) := by
  have exec_eq := (exec_softmax f i s).trans (elemCmd_issues valid err next)
  obtain ⟨fl, whole⟩ := softmaxRow_whole (f := f) (x := x) (i := i) (countCycles s f x 0x62 i.aux)
  dsimp only at whole
  rw [softmaxReads_congr (countCycles_places s f x 0x62 i.aux) rfl rfl] at whole
  rw [whole] at exec_eq
  exact ⟨_, exec_eq, wholeRow_completes hf (issuing_eq_some next).1 row⟩

theorem lnorm_completes (valid : eInvalid 0x63 i = false) (err : i.err = .none) (next : issuing s f (eWord 0x63 i) = some x)
    (row : x.row = true) (hf : f < 32) :
    let r := lnormVals ((lnormReads s f x i).map (fun y => y.map (fun q => q.1))) (operand (engOf s f) x i.b 0) (affineOf s f x i)
    Completes (.lnorm f i) s (fun t => RowCompletes s t f x r.2.1 (bitsOf i.aux 2 2) i.rnd (r.1.map (fun w => (w, 0)))) := by
  have places := countCycles_places s f x 0x63 i.aux
  have exec_eq := (exec_lnorm f i s).trans (elemCmd_issues valid err next)
  obtain ⟨fl, whole⟩ := lnormRow_whole (f := f) (x := x) (i := i) (countCycles s f x 0x63 i.aux)
  dsimp only [affineOf] at whole
  rw [lnormReads_congr places rfl, lnormAffine_congr places rfl, engOf_countCycles] at whole
  rw [whole] at exec_eq
  exact ⟨_, exec_eq, wholeRow_completes hf (issuing_eq_some next).1 row⟩

end Sys2Proof.Laws
end

section
/-! CERTIFICATES. The instructions that write s registers and the whole-row instructions (R154, R167, R171 to R178). -/

namespace Sys2Proof.Laws

set_option Elab.async false

open Sys2Proof.Machine

/-- Settles O27: LDI and the reductions write their s register, which what follows them keeps; the whole-row instructions count, write and go on
as the verdict on their row's values says. -/
theorem elementRowInstructionsComplete : Obligations.ElementRowInstructionsComplete := by
  unfold Obligations.ElementRowInstructionsComplete
  refine ⟨fun s f d imm x => ldi_completes, fun s f i x => rmax_completes, fun s f i x => rsum_completes, ?_, ?_⟩
  · intro s f i x valid err next row hf emptyRoom nanRoom
    obtain ⟨t, exec_eq, done⟩ := softmax_completes valid err next row hf
    exact ⟨t, exec_eq, fun empty => done.empty (softmaxVals_empty empty) emptyRoom, fun nan => done.nan (softmaxVals_nan nan) nanRoom, done.sr,
      done.written, done.run⟩
  · intro s f i x valid err next row hf emptyRoom nanRoom
    obtain ⟨t, exec_eq, done⟩ := lnorm_completes valid err next row hf
    exact ⟨t, exec_eq, fun empty => done.empty (lnormVals_empty _ _ empty) emptyRoom,
      fun some bad => done.nan (lnormVals_nan _ _ some bad) nanRoom, done.sr, done.written, done.run⟩

end Sys2Proof.Laws
end

section
/-! CERTIFICATES. A LOOKUP_END that fails the device: with it every look-up of step 0 has been answered (R238, R260), so a request of step 1
that waited for that (R260) is served, and the line of its row is uncorrectable in a page that no parity covers (R337). The device fails and
stops its data plane (R498, R499): the step in progress ends with it. -/

namespace Sys2Proof.Laws

open Sys2Proof.Machine

/-- Descriptor of table 0, version 0: one row of 32 elements on one owner, its BF16 plane at the start of the tiered range, its extension plane
behind it (R188, R189). -/
def uncoveredTable : List Byte :=
  List.replicate 4 0 ++ leBytes 2 32 ++ List.replicate 4 0 ++ leBytes 2 1 ++ List.replicate 4 0 ++ leBytes 8 1 ++ leBytes 8 1
    ++ List.replicate 24 0 ++ leBytes 8 64 ++ List.replicate 64 0

/-- An image of one section, the SORUS_PLAN of stack 0: one sample in one micro-batch, device 7 alone in the rank list, an entry for table 0
(R199, R200). -/
def oneRankImage : List Byte :=
  List.replicate 12 0 ++ leBytes 2 1 ++ List.replicate 18 0 ++ leBytes 4 0x24 ++ leBytes 4 5 ++ leBytes 4 0x34 ++ leBytes 4 0x50 ++ leBytes 4 0
    ++ leBytes 2 1 ++ leBytes 2 1 ++ leBytes 2 1 ++ leBytes 2 1 ++ List.replicate 8 0 ++ leBytes 16 7 ++ List.replicate 48 0

/-- Device 7 asks for the row, in step 1. -/
def nextStepRequest : BagMsg :=
  { version := 0, table := 0, requester := 7, mb := 0, step := 1, rows := [{ row := 0 }], bags := [⟨0, [⟨0, 0⟩], []⟩], seq := 0, last := true }

/-- Page 0 of the tiered range, in no covered range, lies in frame 4096 of stack 0, whose first line holds poison. Step 0 is in progress, and
the request of step 1 waits for the LOOKUP_END of step 0. -/
def awaitingEnd : State :=
  { regs := [(R.THL_STATUS, 1), (R.STK_STATUS 0, 4)]
    mem := putBytes (putBytes [] (hbmBase 0) (leBytes 8 (pteAt 0 0 (.t1 0 4096)))) 0x109FC0000000 oneRankImage
    tier := { policy := some ⟨1, 0, 0, 0, 0, 0, 0, 0, 0, 0, [(4096, 1)], [(0, 1, 0)]⟩ }
    seq := { step := some 0 }
    sor := { heldReqs := [(7, nextStepRequest)]
             tables := [{ id := 0, versions := [{ desc := uncoveredTable, owners := [0], effStep := 0, fromEpoch := true }] }] }
    stackList := { poison := [4096 * 1024] } :: List.replicate 7 {} }

theorem exec_lookupEnd (source step count : Nat) (s : State) : exec (.lookupEnd source step count) s =
    .next (onData (fun s => if idleAsked s 0x20 then queueMsg s (.lookupEnd source step count) else acceptEnd s source step count) s) := rfl

theorem awaitingEnd_works : failed awaitingEnd = false := by decide

/-- That LOOKUP_END, taken in, leaves no step in progress: the request it lets go on reads the line. -/
theorem acceptEnd_awaitingEnd_step : (acceptEnd awaitingEnd 7 0 0).seq.step = none := by decide +kernel

/-- Refutes O30: a LOOKUP_END does not always leave the step sequencer as it was, for a look-up request that it lets go on can meet an
uncorrectable line, which fails the device. -/
theorem not_lookupsComplete : ¬ Obligations.LookupsComplete := by
  unfold Obligations.LookupsComplete
  rintro ⟨-, -, -, -, ends, -⟩
  obtain ⟨t, next, -, -, seqSame⟩ := (ends awaitingEnd 7 0 0 awaitingEnd_works (by decide)).1 (by decide)
  rw [exec_lookupEnd, onData, if_neg (by simp [awaitingEnd_works]), if_neg (by decide)] at next
  have stopped : awaitingEnd.seq.step = none := by
    rw [← seqSame, ← Host.Outcome.next.inj next, acceptEnd_awaitingEnd_step]
  exact absurd stopped (by decide)

end Sys2Proof.Laws
end

section
/-! CERTIFICATES. An UPDATE_BATCH_START of two tables that loses the second one's gradients: a request of the first was answered by a device
lost since, so its update is dropped and counted late with an event (R519), and the batch names a home beyond the eight stacks, whose event
has its pending bit in THL_STORE_BASE. The image is then no longer found where it lies, nor the place of the second table's gradients. -/

namespace Sys2Proof.Laws

set_option Elab.async false

open Sys2Proof.Machine

/-- The home whose event of a late update has its pending bit at bit 0 of THL_STORE_BASE. -/
def strayHome : Nat := 32 * ((R.THL_STORE_BASE - R.EVG_PEND 0) / 4) - 112

/-- An image of two sections: sparse OPTIMISER_PARAMS with records of tables 0 and 1, the pooled gradients of both on frond 0, those of table 1
from offset 64 on (R224 to R226), and the SORUS_PLAN of stack 0 with entries of both (R199, R200). -/
def twoTableImage : List Byte :=
  List.replicate 12 0 ++ leBytes 2 2 ++ List.replicate 18 0 ++ leBytes 4 0x24 ++ leBytes 4 0xC ++ leBytes 4 0x44 ++ leBytes 4 0x110 ++ leBytes 4 1
    ++ leBytes 4 5 ++ leBytes 4 0x154 ++ leBytes 4 0x70 ++ leBytes 4 0
    ++ leBytes 144 2 ++ leBytes 64 0 ++ leBytes 8 1 ++ leBytes 56 64 ++ leBytes 64 2 ++ leBytes 48 1

/-- A message of step 0 and micro-batch 0 for a table's version 0. -/
def stepZeroMsg (table : Nat) (bags : List Bag) : BagMsg :=
  { version := 0, table := table, requester := 0, mb := 0, step := 0, rows := [], bags := bags, seq := 0, last := true }

/-- Version 0 of table 1: one element a row, one owner (R188). -/
def oneElementVersion : TableVersion := { desc := [1, 0, 0, 0, 1], owners := [0], effStep := 0, fromEpoch := true }

/-- The one bag of table 1's batch, of one valid identifier. -/
def oneBag : BatchBag := ⟨0, 0, 1⟩

/-- The request of table 1's batch, which this device answers itself. -/
def oneBagReq : BatchReq := { k := 0, dst := 0, msg := stepZeroMsg 1 [⟨0, [], []⟩] }

def oneBagBatch : Batch := { table := 1, step := 0, mb := 0, version := 0, home := 0, bags := [oneBag], reqs := [oneBagReq], complete := true }

/-- GRAD_RDY of micro-batch 0 is set on frond 0 and the look-ups of both tables are complete. Device 9, which answered that of table 0, is lost,
and late updates of the stray home raise an event. The gradient of table 1 is 1. -/
def strayUpdate : State :=
  { regs := [(R.THL_STATUS, 1), (R.SOR_UPD_CTL strayHome, fset F.SOR_UPD_CTL_late_event_en 0 1)]
    mem := putBytes (putBytes [] 0x109FC0000000 twoTableImage) (storeBase 0 + 64) (leBytes 4 0x3F800000)
    recov := { lost := [{ device := 9, td := 0, reason := 0, step := 0, committed := false }] }
    seq := { admitted := [(0, 0, 0), (0, 1, 0)], fronds := { sb := 2 ^ 1020 } :: List.replicate 31 {} }
    sor := {
      tables := [{ id := 0, versions := [{ desc := [], owners := [9], effStep := 0, fromEpoch := true }] },
        { id := 1, versions := [oneElementVersion] }]
      batches := [
        { table := 0, step := 0, mb := 0, version := 0, home := strayHome, bags := [], complete := true
          reqs := [{ k := 0, dst := 9, msg := stepZeroMsg 0 [] }] },
        oneBagBatch] } }

/-- The gradients that an output brings to the owner of their rows, bag by bag. -/
def gradsOf : Out → List (List Nat)
  | .message _ (.updateReq m) => m.bags.map Bag.grad
  | _ => []

theorem exec_updateBatchStart {s : State} {f k n : Nat} (step : updateStep s f k = some n) (may : mayUpdate s n f k = true) :
    exec (.updateBatchStart f k) s = .next (startUpdate s n f k) := by
  change execUpdateBatchStart f k s = _
  simp [execUpdateBatchStart, step, may]

theorem updateStep_strayUpdate : updateStep strayUpdate 0 0 = some 0 := by decide +kernel

theorem mayUpdate_strayUpdate : mayUpdate strayUpdate 0 0 0 = true := by decide +kernel

/-- The gradient of the bag before the start, in FP16. -/
theorem bagGrad_strayUpdate : bagGrad strayUpdate oneBagBatch oneElementVersion.desc 208 0 oneBag = [0x3C00] := by decide +kernel

/-- The message that leaves for table 1 carries 0 in its place. -/
theorem startUpdate_strayUpdate_out :
    (startUpdate strayUpdate 0 0 0).out = [.message 0 (.updateReq (stepZeroMsg 1 [⟨0, [], [0]⟩]))] := by decide +kernel

/-- Refutes O31: the update of a table does not always carry the gradients that stood at the start, for the home of another batch may lead the
event of its late update to THL_STORE_BASE. -/
theorem not_gradientsReachTheirRows : ¬ Obligations.GradientsReachTheirRows := by
  unfold Obligations.GradientsReachTheirRows
  rintro ⟨starts, -⟩
  obtain ⟨t, next, -, -, sends, -⟩ := starts strayUpdate 0 0 0 (by decide) rfl updateStep_strayUpdate mayUpdate_strayUpdate
  rw [exec_updateBatchStart updateStep_strayUpdate mayUpdate_strayUpdate] at next
  obtain ⟨-, tells⟩ := sends 1 208 oneBagBatch oneElementVersion (by decide +kernel) (by decide) (by decide)
  have told := tells oneBagReq (by decide) (by decide)
  rw [← Host.Outcome.next.inj next, startUpdate_strayUpdate_out, List.mem_singleton] at told
  have same : [bagGrad strayUpdate oneBagBatch oneElementVersion.desc 208 0 oneBag] = [[0]] := congrArg gradsOf told
  rw [bagGrad_strayUpdate] at same
  exact absurd same (by decide)

end Sys2Proof.Laws
end

section
/-! CERTIFICATES. A ROW_COMMIT that fails the device: with its row committed the look-up request that waited for that (R260) is served, and the
line it reads is uncorrectable in a page that no parity covers (R337, R498). The command in progress is aborted, and its counter record goes
to bytes of a table's row, which a write by any path commits (R499, R513, R631): a new entry stands in the commit buffer. -/

namespace Sys2Proof.Laws

set_option Elab.async false

open Sys2Proof.Machine

/-- Descriptor of table 1, version 0: one row of 1,024 elements on one owner, its BF16 plane at 2,048 in the tiered range (R188, R189). -/
def recordTable : List Byte :=
  leBytes 4 1 ++ leBytes 2 1024 ++ List.replicate 4 0 ++ leBytes 2 1 ++ List.replicate 4 0 ++ leBytes 8 1 ++ leBytes 8 1
    ++ List.replicate 16 0 ++ leBytes 8 2048 ++ leBytes 8 4096 ++ leBytes 8 8192 ++ List.replicate 56 0

/-- An image of two sections: the SORUS_PLAN of oneRankImage and PARITY_GROUPS with one group, k = 1, of devices 0, 1 and 2 (R507, R508). -/
def groupedRankImage : List Byte :=
  List.replicate 12 0 ++ leBytes 2 2 ++ List.replicate 18 0 ++ leBytes 4 0x24 ++ leBytes 4 5 ++ leBytes 4 0x44 ++ leBytes 4 0x50 ++ leBytes 4 0
    ++ leBytes 4 7 ++ leBytes 4 0x94 ++ leBytes 4 0x16 ++ leBytes 4 0
    ++ leBytes 2 1 ++ leBytes 2 1 ++ leBytes 2 1 ++ leBytes 2 1 ++ List.replicate 8 0 ++ leBytes 16 7 ++ List.replicate 48 0
    ++ leBytes 4 1 ++ leBytes 4 8 ++ leBytes 2 1 ++ leBytes 6 3 ++ leBytes 2 0 ++ leBytes 2 1 ++ leBytes 2 2

/-- The commit of the row of table 0 of step 0, acknowledged. -/
def lastCommit : CommitEntry :=
  { own := 0, table := 0, version := 0, row := 0, rem := false, stack := 0, step := 0, parts := [], holder := none, acked := true, delta := [] }

/-- A command in progress whose counter records go to the tiered range from 0 on, the END record to 2,048 (R546, R631). -/
def recordingCmd : Cmd :=
  { index := 0, op := .fence, head := { flags := 0, timeout := 0, cmdId := 0, cntAddr := 2 ^ 62 }, tFetch := 0, tStart := 0, phase := .running }

/-- Page 0 of the tiered range, in no covered range, lies in frame 4096 of stack 0, whose first line holds poison. Every look-up of step 0 has
been answered, and the request of step 1 waits for the last commit of step 0. -/
def awaitingCommit : State :=
  { regs := [(R.THL_STATUS, 1), (R.STK_STATUS 0, 4)]
    mem := putBytes (putBytes [] (hbmBase 0) (leBytes 8 (pteAt 0 0 (.t1 0 4096)))) 0x109FC0000000 groupedRankImage
    tier := { policy := some ⟨1, 0, 0, 0, 0, 0, 0, 0, 0, 0, [(4096, 1)], [(0, 1, 0)]⟩ }
    seq := { step := some 1 }
    sor := {
      ends := [(7, 0, 0)]
      heldReqs := [(7, nextStepRequest)]
      commit := [lastCommit]
      tables := [{ id := 0, versions := [{ desc := uncoveredTable, owners := [0], effStep := 0, fromEpoch := true }] },
        { id := 1, versions := [{ desc := recordTable, owners := [0], effStep := 0, fromEpoch := true }] }] }
    cmd := { active := [recordingCmd] }
    stackList := { poison := [4096 * 1024] } :: List.replicate 7 {} }

theorem exec_rowCommit {s : State} {own table row : Nat} {rem : Bool} {c : CommitEntry} (up : failed s = false)
    (found : s.sor.commit.find? (fun c => c.own = own && c.table = table && c.row = row && c.rem = rem && c.acked) = some c)
    (written : c.parts.any (fun p => writeWaits s p.1 p.2.length) = false) (free : engineHeld s c.stack = false) :
    exec (.rowCommit own table row rem) s = .next (pumpRecs (commitDone s c)) := by
  change execRowCommit own table row rem s = _
  simp [execRowCommit, onData, up, found, written, free]

theorem awaitingCommit_works : failed awaitingCommit = false := by decide

/-- The commit that ends leaves another: the counter record of the command that the failure aborts. -/
theorem commitDone_awaitingCommit_commits : (pumpRecs (commitDone awaitingCommit lastCommit)).sor.commit.isEmpty = false := by
  decide +kernel

/-- Refutes O32: a ROW_COMMIT does not always leave the other commits as they were, for a look-up request that it lets go on can meet an
uncorrectable line, and the failure of the device writes the counter record of a command. -/
theorem not_rowsApplyAndCommit : ¬ Obligations.RowsApplyAndCommit := by
  unfold Obligations.RowsApplyAndCommit
  rintro ⟨-, -, -, -, -, -, commits⟩
  have found : awaitingCommit.sor.commit.find? (fun c => c.own = 0 && c.table = 0 && c.row = 0 && c.rem = false && c.acked) = some lastCommit := rfl
  obtain ⟨t, next, commit, -⟩ := (commits awaitingCommit 0 0 0 false awaitingCommit_works).1 lastCommit found
    (fun _ h => nomatch h) rfl rfl (by decide) (by decide)
  rw [exec_rowCommit awaitingCommit_works found rfl rfl] at next
  have left := commitDone_awaitingCommit_commits
  rw [Host.Outcome.next.inj next, commit] at left
  exact absurd left (by decide)

end Sys2Proof.Laws
end

section
/-! SUPPORT. Page-table entries: their fields after a field was replaced, and what is read where one was stored (R268, R269, R279, R309). -/

namespace Sys2Proof.Laws

set_option Elab.async false

open Sys2Proof.Machine

variable {s t : State}

/-! ## Fields of a number -/

theorem testBit_bitsOf (v lo w b : Nat) : (bitsOf v lo w).testBit b = (decide (b < w) && v.testBit (lo + b)) := by
  rw [bitsOf, Nat.testBit_mod_two_pow, Nat.testBit_shiftRight]

theorem bitsOf_setBits_same (v lo w x : Nat) : bitsOf (setBits v lo w x) lo w = x % 2 ^ w := by
  refine Nat.eq_of_testBit_eq fun b => ?_
  rw [testBit_bitsOf, testBit_setBits, Nat.testBit_mod_two_pow]
  by_cases inside : b < w
  · rw [if_neg (by omega), if_pos (by omega), Nat.add_sub_cancel_left]
  · simp [inside]

theorem bitsOf_setBits_other (v x : Nat) {lo w lo' w' : Nat} (apart : lo + w ≤ lo' ∨ lo' + w' ≤ lo) :
    bitsOf (setBits v lo' w' x) lo w = bitsOf v lo w := by
  refine Nat.eq_of_testBit_eq fun b => ?_
  rw [testBit_bitsOf, testBit_bitsOf, testBit_setBits]
  by_cases inside : b < w
  · split
    · rfl
    · rw [if_neg (by omega)]
  · simp [inside]

theorem setBits_lt {v n lo w : Nat} (x : Nat) (h : v < 2 ^ n) (fits : lo + w ≤ n) : setBits v lo w x < 2 ^ n := by
  refine Nat.lt_pow_two_of_testBit _ fun b hb => ?_
  rw [testBit_setBits, if_neg (by omega), if_neg (by omega)]
  exact Nat.testBit_lt_two_pow (h.trans_le (Nat.pow_le_pow_right (by decide) hb))

theorem leVal_lt (bs : List Byte) : leVal bs < 256 ^ bs.length := by
  induction bs with
  | nil => decide
  | cons b bs ih =>
    have := b.isLt
    rw [leVal, List.length_cons, pow_succ]
    omega

/-! ## Entries with their page's flags -/

theorem withFlags_lt (p : Nat) {e : Nat} (h : e < 2 ^ 64) : withFlags s p e < 2 ^ 64 :=
  setBits_lt _ (setBits_lt _ h (by decide)) (by decide)

/-- The flags of the range leave the other fields of an entry. -/
theorem bitsOf_withFlags (p e : Nat) {lo w : Nat} (apart : lo + w ≤ 40 ∨ 43 ≤ lo) : bitsOf (withFlags s p e) lo w = bitsOf e lo w := by
  rw [withFlags, bitsOf_setBits_other _ _ (by omega), bitsOf_setBits_other _ _ (by omega)]

/-- The place of an entry depends on tier, stack, source and frame. -/
theorem ptePlace_congr {e e' : Nat} (tier : pteTier e' = pteTier e) (stack : pteStack e' = pteStack e) (source : pteSource e' = pteSource e)
    (frame : pteFrame e' = pteFrame e) : ptePlace e' = ptePlace e := by rw [ptePlace, tier, stack, source, frame, ptePlace]

/-! ## Entries in memory -/

theorem pte_lt (s : State) (p : Nat) : pte s p < 2 ^ 64 := by
  have := leVal_lt (bytesAt s (pteAddr p) 8)
  rw [length_bytesAt] at this
  exact this

theorem pte_congr {p : Nat} (same : ∀ a, pteAddr p ≤ a → a < pteAddr p + 8 → byteAt t a = byteAt s a) : pte t p = pte s p := by
  rw [pte, numAt, bytesAt, pte, numAt, bytesAt]
  refine congrArg leVal (List.map_congr_left fun i hi => ?_)
  rw [List.mem_range] at hi
  exact same _ (by omega) (by omega)

theorem pte_of_mem (mem : t.mem = s.mem) (p : Nat) : pte t p = pte s p := pte_congr fun _ _ _ => by rw [byteAt, mem, byteAt]

theorem pte_setPte_same (p : Nat) {v : Nat} (h : v < 2 ^ 64) : pte (setPte s p v) p = v := by
  have stored := bytesAt_of_mem (t := setPte s p v) (s := s) (a := pteAddr p) (bs := leBytes 8 v) rfl
  rw [leBytes_length] at stored
  rw [pte, numAt, stored, leVal_leBytes]
  exact Nat.mod_eq_of_lt h

theorem setPte_outside (s : State) (p v : Nat) : MemSameOutside (pteAddr p) 8 s (setPte s p v) := by
  have outside := memSameOutside_of_mem (t := setPte s p v) (s := s) (a := pteAddr p) (bs := leBytes 8 v) rfl
  rwa [leBytes_length] at outside

theorem pteAddr_apart {p q : Nat} (hp : p < 2 ^ 28) (hq : q < 2 ^ 28) (ne : q ≠ p) : pteAddr q + 8 ≤ pteAddr p ∨ pteAddr p + 8 ≤ pteAddr q := by
  unfold pteAddr hbmBase
  omega

theorem pte_setPte_other {p q : Nat} (v : Nat) (hp : p < 2 ^ 28) (hq : q < 2 ^ 28) (ne : q ≠ p) : pte (setPte s p v) q = pte s q := by
  have apart := pteAddr_apart hp hq ne
  exact pte_congr fun a _ _ => setPte_outside s p v a (by omega)

/-! ## The pages with a nonzero entry -/

theorem mem_insertAsc {a b : Nat} {xs : List Nat} : b ∈ insertAsc a xs ↔ b = a ∨ b ∈ xs := by
  induction xs with
  | nil => simp [insertAsc]
  | cons x xs ih =>
    rw [insertAsc]
    split
    · simp
    · split
      · next eq => simp [eq]
      · simp only [List.mem_cons, ih]
        tauto

theorem mem_foldl_insertAsc {b : Nat} (ks : List Nat) : ∀ acc : List Nat, b ∈ ks.foldl (fun acc p => insertAsc p acc) acc ↔ b ∈ ks ∨ b ∈ acc := by
  induction ks with
  | nil => simp
  | cons k ks ih =>
    intro acc
    rw [List.foldl_cons, ih, mem_insertAsc, List.mem_cons]
    tauto

/-- The page whose entry holds the byte at an address, if one does. -/
def pageOfKey (a : Nat) : Option Nat :=
  match hbmStack a with
  | none => none
  | some n => let o := a - hbmBase n
    if o < 0x1000_0000 then some (o / 8 * 8 + n) else none

theorem mem_ptPages {x : Nat × Nat} : x ∈ ptPages s ↔ (∃ c ∈ s.mem, pageOfKey c.1 = some x.1) ∧ x.2 = pte s x.1 := by
  have pages : ptPages s = ((s.mem.filterMap (fun c => pageOfKey c.1)).foldl (fun acc p => insertAsc p acc) []).map (fun p => (p, pte s p)) := rfl
  simp only [pages, List.mem_map, mem_foldl_insertAsc, List.mem_filterMap, List.not_mem_nil, or_false]
  constructor
  · rintro ⟨p, found, rfl⟩
    exact ⟨found, rfl⟩
  · rintro ⟨found, value⟩
    exact ⟨x.1, found, Prod.ext rfl value.symm⟩

theorem pageOfKey_lt {a p : Nat} (h : pageOfKey a = some p) : p < 2 ^ 28 := by
  unfold pageOfKey hbmStack at h
  split at h
  · cases h
  · next n stack =>
    split at stack
    · cases stack
      dsimp only at h
      split at h
      · cases h
        omega
      · cases h
    · cases stack

theorem pageOfKey_of_low {a n : Nat} (stack : hbmStack a = some n) (low : a - hbmBase n < 0x1000_0000) :
    pageOfKey a = some ((a - hbmBase n) / 8 * 8 + n) := by
  rw [pageOfKey, stack]
  exact if_pos low

theorem hbmStack_pteAddr {p i : Nat} (hp : p < 2 ^ 28) (hi : i < 8) : hbmStack (pteAddr p + i) = some (p % 8) := by
  unfold pteAddr hbmBase hbmStack
  rw [if_pos (by omega), Option.some.injEq]
  omega

theorem pageOfKey_pteAddr {p i : Nat} (hp : p < 2 ^ 28) (hi : i < 8) : pageOfKey (pteAddr p + i) = some p := by
  have off : pteAddr p + i - hbmBase (p % 8) = p / 8 * 8 + i := by
    rw [pteAddr, Nat.add_assoc, Nat.add_sub_cancel_left]
  rw [pageOfKey_of_low (hbmStack_pteAddr hp hi) (by omega), off, Option.some.injEq]
  omega

theorem spGet_of_not_mem {V : Type} (d : V) {m : Sparse V} {a : Nat} (h : ∀ c ∈ m, c.1 ≠ a) : spGet d m a = d := by
  induction m with
  | nil => rfl
  | cons c m ih =>
    obtain ⟨first, rest⟩ := List.forall_mem_cons.mp h
    rw [spGet, if_neg first, ih rest]

/-- A page without a byte in the page table is unbacked. -/
theorem pte_of_not_mem_ptPages {p : Nat} (hp : p < 2 ^ 28) (none_ : ∀ x ∈ ptPages s, x.1 ≠ p) : pte s p = 0 := by
  have zero : bytesAt s (pteAddr p) 8 = List.replicate 8 0 := by
    refine List.ext_getElem (by simp) fun i hi _ => ?_
    rw [length_bytesAt] at hi
    simp only [bytesAt, List.getElem_map, List.getElem_range, List.getElem_replicate]
    refine spGet_of_not_mem 0 fun c hc key => none_ (p, pte s p) (mem_ptPages.mpr ⟨⟨c, hc, ?_⟩, rfl⟩) rfl
    rw [key, pageOfKey_pteAddr hp hi]
  rw [pte, numAt, zero]
  decide

end Sys2Proof.Laws
end

section
/-! SUPPORT. What the pressure on the frames changes (R283, R301, R302): the states of demotion and of waiting, their registers and events;
and a migration that starts (R287 to R295). -/

namespace Sys2Proof.Laws

set_option Elab.async false

open Sys2Proof.Machine

variable {s t : State}

/-! ## Pressure -/

theorem retryWaits_of_none (noWrites : s.tier.waitWrites = []) : retryWaits s = if frameWaits s then s else tierUnfull s := by
  have same : { s with tier := { s.tier with waitWrites := [] } } = s := by rw [← noWrites]
  unfold retryWaits
  dsimp only
  rw [same, noWrites]
  rfl

/-- From `s₀` to `s` at most demotions began or ended, and the tier manager found frames short or not. -/
structure Pressed (s₀ s : State) : Prop where
  mem : s.mem = s₀.mem
  thl : s.thl = s₀.thl
  sor : s.sor = s₀.sor
  recov : s.recov = s₀.recov
  tier : s.tier = { s₀.tier with demoting := s.tier.demoting, boundRise := s.tier.boundRise, fullSince := s.tier.fullSince }
  reg : ∀ r, ¬ sendReg r → r ∉ [R.TIER_STATUS, R.TIER_FLAGS, R.TIER_FULL_TIME] → Machine.reg s r = Machine.reg s₀ r
  status : ∀ f : Field, f.lo + f.w ≤ 6 → rf s R.TIER_STATUS f = rf s₀ R.TIER_STATUS f

namespace Pressed

variable {s₀ : State}

protected theorem refl (s : State) : Pressed s s := ⟨rfl, rfl, rfl, rfl, rfl, fun _ _ _ => rfl, fun _ _ => rfl⟩

/-- A change of those states of the tier manager alone. -/
theorem put (hs : Pressed s₀ s) (demoting : Bool) (boundRise : Nat) (fullSince : Option Nat) :
    Pressed s₀ { s with tier := { s.tier with demoting := demoting, boundRise := boundRise, fullSince := fullSince } } :=
  { hs with tier := by rw [hs.tier] }

protected theorem ite {c : Prop} {d : Decidable c} (hs : Pressed s₀ s) (ht : Pressed s₀ t) : Pressed s₀ (if c then s else t) := by
  split
  · exact hs
  · exact ht

/-- A field of TIER_STATUS above bit 5 is written. -/
protected theorem wf_status {f : Field} {x : Nat} (hs : Pressed s₀ s) (high : 6 ≤ f.lo) : Pressed s₀ (wf s R.TIER_STATUS f x) :=
  { hs with
    reg := fun r hr other => (reg_wf_ne s f x fun eq => other (by simp [eq])).trans (hs.reg r hr other)
    status := fun g low => (rf_wf_other _ x (by omega) (by omega)).trans (hs.status g low) }

protected theorem wf_flags {f : Field} {x : Nat} (hs : Pressed s₀ s) : Pressed s₀ (wf s R.TIER_FLAGS f x) :=
  { hs with
    reg := fun r hr other => (reg_wf_ne s f x fun eq => other (by simp [eq])).trans (hs.reg r hr other)
    status := fun g low => (congrArg (fget g) (reg_wf_ne s f x (by decide))).trans (hs.status g low) }

protected theorem bump_fullTime {n : Nat} (hs : Pressed s₀ s) : Pressed s₀ (bump s R.TIER_FULL_TIME n) :=
  { hs with
    reg := fun r hr other => (reg_bump_ne s n fun eq => other (by simp [eq])).trans (hs.reg r hr other)
    status := fun g low => (congrArg (fget g) (reg_bump_ne s n (by decide))).trans (hs.status g low) }

protected theorem evgFireIf {en : Bool} {src : Nat} (hs : Pressed s₀ s) (h : src < 320) : Pressed s₀ (evgFireIf s en src) := by
  have sent : Sent s (Machine.evgFireIf s en src) := (Sent.refl s).evgFireIf h
  refine ⟨sent.mem.trans hs.mem, sent.thl.trans hs.thl, sent.sor.trans hs.sor, sent.recov.trans hs.recov, ?_,
    fun r hr other => (sent.reg r hr).trans (hs.reg r hr other), fun f low => ?_⟩
  · rw [sent.tier]
    exact hs.tier
  · exact (congrArg (fget f) (sent.reg _ (Sent.not_sendReg_mid (by decide) (by decide)))).trans (hs.status f low)

protected theorem tierPressure (hs : Pressed s₀ s) : Pressed s₀ (tierPressure s) := by
  unfold Machine.tierPressure
  extract_lets _ _ s₁ _ s₂ s₃
  have low : Pressed s₀ s₂ := (hs.wf_status (f := F.TIER_STATUS_low) (x := 1) (by decide)).put true s₁.tier.boundRise s₁.tier.fullSince
  have h₃ : Pressed s₀ s₃ := .ite (.ite low (.evgFireIf (.wf_flags low) (by decide))) (.wf_status hs (by decide))
  split
  · exact hs
  · exact .ite (h₃.put false 0 s₃.tier.fullSince) h₃

protected theorem tierFull (hs : Pressed s₀ s) : Pressed s₀ (tierFull s) := by
  unfold Machine.tierFull
  extract_lets s₁
  have full : Pressed s₀ s₁ := .wf_flags (.wf_status hs (by decide))
  exact .ite hs (.evgFireIf (full.put s₁.tier.demoting s₁.tier.boundRise (some s₁.ft)) (by decide))

protected theorem tierUnfull (hs : Pressed s₀ s) : Pressed s₀ (tierUnfull s) := by
  unfold Machine.tierUnfull
  split
  · exact hs
  · exact .wf_status (.put (.bump_fullTime hs) s.tier.demoting s.tier.boundRise none) (by decide)

/-- Frames that become free let nothing go on when no write waits. -/
protected theorem framesFreed (hs : Pressed s₀ s) (noWrites : s₀.tier.waitWrites = []) : Pressed s₀ (framesFreed s) := by
  have pressed : Pressed s₀ (Machine.tierPressure s) := hs.tierPressure
  unfold Machine.framesFreed
  generalize Machine.tierPressure s = u at pressed
  rw [retryWaits_of_none (by rw [pressed.tier, noWrites])]
  exact .ite pressed pressed.tierUnfull

theorem byteAt (hs : Pressed s₀ s) (a : Nat) : Machine.byteAt s a = Machine.byteAt s₀ a := by rw [Machine.byteAt, hs.mem, Machine.byteAt]

theorem places (hs : Pressed s₀ s) : SamePlaces s₀ s where
  mem := hs.mem
  thl := hs.thl
  sor := hs.sor
  lost := by rw [hs.recov]
  spared := by rw [hs.recov]
  device := hs.reg _ (Sent.not_sendReg_low (by decide)) (by decide)
  image := hs.reg _ (Sent.not_sendReg_mid (by decide) (by decide)) (by decide)
  store := hs.reg _ (Sent.not_sendReg_mid (by decide) (by decide)) (by decide)

end Pressed

/-- An operation that waits for a frame shows it (R302). -/
theorem rb_tierFull (s : State) : rb (tierFull s) R.TIER_STATUS F.TIER_STATUS_full = true := by
  unfold tierFull
  split
  · assumption
  · rw [rb, rf, ((Sent.refl _).evgFireIf (by decide)).reg _ (Sent.not_sendReg_mid (by decide) (by decide)), decide_eq_true_eq]
    refine (congrArg (fget _) (reg_wf_ne _ _ _ (by decide))).trans ?_
    rw [reg_wf_same, fget_fset_same _ _ _ (by decide)]
    rfl

/-! ## A migration that starts -/

/-- The migration of a page that starts now, from the place its entry names. -/
def newMigration (s : State) (k : MigKind) (p : Nat) (dst : Place) (first : List Nat) : Migration :=
  ⟨p, k, ptePlace (pte s p), dst, 0, first ++ (List.range 1024).filter (fun l => !first.contains l), [], 0, [], first⟩

/-- A start adds the migration and sets the page's mig bit; the pressure on the frames follows (R292, R301). -/
theorem startMig_pressed (s : State) (k : MigKind) (p : Nat) (dst : Place) (first : List Nat) :
    Pressed { setPte s p (setBits (pte s p) 41 1 1) with tier := { s.tier with migs := s.tier.migs ++ [newMigration s k p dst first] } }
      (startMig s k p dst first) := (Pressed.refl _).tierPressure

section

variable (s) (τ : Tier) (k : MigKind) (p : Nat) (dst : Place) (first : List Nat)

/-- A start while the tier manager's other state changes: what that leaves of it. -/
theorem startMig_tier : ∃ demoting boundRise fullSince, (startMig { s with tier := τ } k p dst first).tier =
    { τ with
      migs := τ.migs ++ [newMigration s k p dst first], demoting := demoting, boundRise := boundRise, fullSince := fullSince } :=
  ⟨_, _, _, (startMig_pressed { s with tier := τ } k p dst first).tier⟩

theorem startMig_starts (migs : τ.migs = s.tier.migs) : MigStarts s (startMig { s with tier := τ } k p dst first) k p dst first := by
  have pressed := startMig_pressed { s with tier := τ } k p dst first
  obtain ⟨_, _, _, tier⟩ := startMig_tier s τ k p dst first
  refine ⟨⟨newMigration s k p dst first, ?_, rfl, rfl, rfl, rfl, rfl, rfl, rfl, rfl⟩, ?_, fun a out => ?_⟩
  · rw [tier, ← migs]
  · exact (pte_of_mem pressed.mem p).trans (pte_setPte_same (s := s) p (setBits_lt _ (pte_lt s p) (by decide)))
  · exact (pressed.byteAt a).trans (setPte_outside s p _ a out)

end

end Sys2Proof.Laws
end

section
/-! SUPPORT. Where pages are placed, heat epochs, and the scanner (R278 to R286, R311). -/

namespace Sys2Proof.Laws

set_option Elab.async false

open Sys2Proof.Machine

variable {s : State}

/-! ## The stack and the frame of R282 -/

theorem minBy_eq_none {A : Type} {key : A → Nat} {xs : List A} (h : minBy key xs = none) : xs = [] := by
  cases xs with
  | nil => rfl
  | cons x xs =>
    unfold minBy at h
    split at h
    · cases h
    · split at h <;> cases h

/-- The least of rising numbers by a key, the lowest on a tie. -/
theorem minBy_least {key : Nat → Nat} {x : Nat} : ∀ {xs : List Nat}, xs.Pairwise (· < ·) → minBy key xs = some x →
    x ∈ xs ∧ ∀ y ∈ xs, key x ≤ key y ∧ (y < x → key x < key y)
  | [], _, found => nomatch found
  | z :: zs, rising, found => by
    obtain ⟨below, rising⟩ := List.pairwise_cons.mp rising
    unfold minBy at found
    split at found
    · next none_ =>
      cases found
      simp [minBy_eq_none none_]
    · next y least =>
      obtain ⟨mem, least⟩ := minBy_least rising least
      split at found
      · next less =>
        cases found
        refine ⟨List.mem_cons_of_mem _ mem, List.forall_mem_cons.mpr ⟨by omega, least⟩⟩
      · next more =>
        cases found
        refine ⟨List.mem_cons_self, List.forall_mem_cons.mpr ⟨by omega, fun w hw => ?_⟩⟩
        have := (least w hw).1
        have := below w hw
        omega

/-- The lowest free number is free, and none below it is. -/
theorem lowestFree_least {first n f : Nat} {taken : List Nat} (h : lowestFree first n taken = some f) :
    first ≤ f ∧ f < first + n ∧ f ∉ taken ∧ ∀ g, first ≤ g → g ∉ taken → f ≤ g := by
  rw [lowestFree, List.find?_map, Option.map_eq_some_iff] at h
  obtain ⟨i, found, rfl⟩ := h
  obtain ⟨free, inside, before⟩ := List.find?_range_eq_some.mp found
  rw [List.mem_range] at inside
  refine ⟨by omega, by omega, by simpa using free, fun g low out => ?_⟩
  by_contra less
  have := before (g - first) (by omega)
  rw [Function.comp_apply, show first + (g - first) = g by omega] at this
  simp [out] at this

/-- R282: the least touched stack that has a free pool frame, the lowest on a tie, and its lowest free frame. -/
theorem chooseT1_least {ok : Nat → Bool} {n f : Nat} (h : chooseT1 s ok = some (.t1 n f)) :
    n < 8 ∧ ok n = true ∧ inPool s n f = true ∧ f ∉ takenFrames s n ∧ (∀ g, inPool s n g = true → g ∉ takenFrames s n → f ≤ g)
    ∧ ∀ m, m < 8 → ok m = true → 0 < stackFree s m → (reg s (R.TIER_STK_TOUCH n)).toNat ≤ (reg s (R.TIER_STK_TOUCH m)).toNat
        ∧ (m < n → (reg s (R.TIER_STK_TOUCH n)).toNat < (reg s (R.TIER_STK_TOUCH m)).toNat) := by
  unfold chooseT1 at h
  split at h
  · cases h
  · next least =>
    obtain ⟨g, frame, eq⟩ := Option.map_eq_some_iff.mp h
    cases eq
    obtain ⟨mem, least⟩ := minBy_least (List.pairwise_lt_range.filter _) least
    obtain ⟨low, high, free, lowest⟩ := lowestFree_least frame
    simp only [List.mem_filter, List.mem_range, Bool.and_eq_true, decide_eq_true_eq] at mem least
    refine ⟨mem.1, mem.2.1, by simp [inPool, low, high], free, fun g pool out => lowest g ?_ out, fun m hm okm freeM => least m ⟨hm, okm, freeM⟩⟩
    simp only [inPool, Bool.and_eq_true, decide_eq_true_eq] at pool
    exact pool.1

/-! ## Heat epochs -/

/-- The touch counts of the first `k` stacks shown (R282). -/
def touchesShown (s : State) (k : Nat) : State :=
  forEach (fun s n => setReg s (R.TIER_STK_TOUCH n) (BitVec.ofNat 64 (s.tier.touches.getD n 0))) s (List.range k)

theorem touchesShown_spec (s : State) (k : Nat) : ∃ regs, touchesShown s k = { s with regs := regs }
    ∧ (∀ n, n < k → reg { s with regs := regs } (R.TIER_STK_TOUCH n) = BitVec.ofNat 64 (s.tier.touches.getD n 0))
    ∧ ∀ r, (∀ n, n < k → r ≠ R.TIER_STK_TOUCH n) → reg { s with regs := regs } r = reg s r := by
  induction k with
  | zero => exact ⟨s.regs, rfl, fun n hn => absurd hn (Nat.not_lt_zero n), fun _ _ => rfl⟩
  | succ k ih =>
    obtain ⟨regs, shown, counts, others⟩ := ih
    refine ⟨(setReg { s with regs := regs } (R.TIER_STK_TOUCH k) (BitVec.ofNat 64 (s.tier.touches.getD k 0))).regs, ?_, fun n hn => ?_,
      fun r hr => ?_⟩
    · have next : touchesShown s (k + 1) =
          setReg (touchesShown s k) (R.TIER_STK_TOUCH k) (BitVec.ofNat 64 ((touchesShown s k).tier.touches.getD k 0)) := by
        simp only [touchesShown, forEach, List.range_succ, List.foldl_append, List.foldl_cons, List.foldl_nil]
      rw [next, shown]
      rfl
    · by_cases last : n = k
      · rw [last]
        exact reg_setReg_same { s with regs := regs } _ _
      · exact (reg_setReg_ne { s with regs := regs } _ (by unfold R.TIER_STK_TOUCH; omega)).trans (counts n (by omega))
    · exact (reg_setReg_ne { s with regs := regs } _ (hr k (by omega))).trans (others r fun n hn => hr n (by omega))

/-- The state in which heat epoch `e` has begun: the counts of the ended one are shown, the running ones and the budgets start anew (R278, R282,
R285, R287, R289). -/
def epochBegun (s : State) (e : Nat) : State :=
  let t := setReg (touchesShown s 8) R.TIER_HEAT_EPOCH (BitVec.ofNat 64 e)
  { t with tier := { t.tier with
      touches := List.replicate 8 0, abandoned := [], promoted := 0, demoted := 0, rebalanced := 0, rebal := overloaded s } }

theorem epochBegun_spec (s : State) (e : Nat) : ∃ regs, epochBegun s e = { s with
      regs := regs
      tier := { s.tier with
        touches := List.replicate 8 0, abandoned := [], promoted := 0, demoted := 0, rebalanced := 0, rebal := overloaded s } }
    ∧ reg { s with regs := regs } R.TIER_HEAT_EPOCH = BitVec.ofNat 64 e
    ∧ (∀ n, n < 8 → reg { s with regs := regs } (R.TIER_STK_TOUCH n) = BitVec.ofNat 64 (s.tier.touches.getD n 0))
    ∧ ∀ r, r < R.TIER_HEAT_EPOCH → reg { s with regs := regs } r = reg s r := by
  obtain ⟨regs, shown, counts, others⟩ := touchesShown_spec s 8
  refine ⟨(setReg { s with regs := regs } R.TIER_HEAT_EPOCH (BitVec.ofNat 64 e)).regs, ?_, reg_setReg_same { s with regs := regs } _ _,
    fun n hn => ?_, fun r hr => ?_⟩
  · rw [epochBegun, shown]
    rfl
  · exact (reg_setReg_ne { s with regs := regs } _ (by unfold R.TIER_STK_TOUCH R.TIER_HEAT_EPOCH; omega)).trans (counts n hn)
  · refine (reg_setReg_ne { s with regs := regs } _ (by omega)).trans (others r fun n _ => ?_)
    unfold R.TIER_STK_TOUCH
    unfold R.TIER_HEAT_EPOCH at hr
    omega

theorem epochBegun_places (s : State) (e : Nat) : SamePlaces s (epochBegun s e) := by
  obtain ⟨regs, begun, -, -, low⟩ := epochBegun_spec s e
  rw [begun]
  exact ⟨rfl, rfl, rfl, rfl, rfl, low _ (by decide), low _ (by decide), low _ (by decide)⟩

theorem epochBegun_policyDue (s : State) (e : Nat) : (epochBegun s e).tier.policyDue = s.tier.policyDue := by
  obtain ⟨regs, begun, -⟩ := epochBegun_spec s e
  rw [begun]

/-- The policy of the image depends on the image. -/
theorem sectionPolicy_congr {t : State} (places : SamePlaces s t) : sectionPolicy t = sectionPolicy s := by
  simp only [sectionPolicy, places.actSec, places.secNum]

/-- HEAT_EPOCH at the time of a later epoch begins it; a policy that is due takes effect then. -/
theorem exec_heatEpoch {time : Nat} : exec (.heatEpoch time) s = .next (
    let a := advance time s
    let b := epochBegun a (a.ft / 1000000)
    if a.ft / 1000000 ≤ heatEpoch a then a
    else if b.tier.policyDue then
      match sectionPolicy b with
      | some p => applyPolicy b p
      | none => b
    else b) := rfl

section

variable {time : Nat}

theorem heatEpoch_early (early : (advance time s).ft / 1000000 ≤ heatEpoch (advance time s)) : exec (.heatEpoch time) s = .next (advance time s) := by
  rw [exec_heatEpoch]
  dsimp only
  rw [if_pos early]

theorem heatEpoch_begins (later : heatEpoch (advance time s) < (advance time s).ft / 1000000) (kept : (advance time s).tier.policyDue = false) :
    exec (.heatEpoch time) s = .next (epochBegun (advance time s) ((advance time s).ft / 1000000)) := by
  have due := (epochBegun_policyDue _ ((advance time s).ft / 1000000)).trans kept
  rw [exec_heatEpoch]
  dsimp only
  rw [if_neg (by omega), if_neg (by simp [due])]

theorem heatEpoch_applies {p : TierPolicy} (later : heatEpoch (advance time s) < (advance time s).ft / 1000000)
    (changed : (advance time s).tier.policyDue = true) (new : sectionPolicy (advance time s) = some p) :
    exec (.heatEpoch time) s = .next (applyPolicy (epochBegun (advance time s) ((advance time s).ft / 1000000)) p) := by
  have due := (epochBegun_policyDue _ ((advance time s).ft / 1000000)).trans changed
  rw [exec_heatEpoch]
  dsimp only
  rw [if_neg (by omega), if_pos due, sectionPolicy_congr (epochBegun_places _ _), new]

theorem heatEpoch_completes (later : heatEpoch (advance time s) < (advance time s).ft / 1000000)
    (fits : (advance time s).ft / 1000000 < 2 ^ 64) (kept : (advance time s).tier.policyDue = false)
    (counts : ∀ n, n < 8 → (advance time s).tier.touches.getD n 0 < 2 ^ 64) :
    Completes (.heatEpoch time) s (fun t =>
      (reg t R.TIER_HEAT_EPOCH).toNat = (advance time s).ft / 1000000
      ∧ (∀ n, n < 8 → (reg t (R.TIER_STK_TOUCH n)).toNat = (advance time s).tier.touches.getD n 0)
      ∧ t.tier.touches = List.replicate 8 0 ∧ t.tier.abandoned = [] ∧ t.tier.promoted = 0 ∧ t.tier.demoted = 0 ∧ t.tier.rebalanced = 0
      ∧ t.tier.queue = (advance time s).tier.queue ∧ t.tier.migs = (advance time s).tier.migs ∧ t.tier.policy = (advance time s).tier.policy
      ∧ t = { advance time s with regs := t.regs, tier := t.tier }) := by
  refine ⟨_, heatEpoch_begins later kept, ?_⟩
  generalize advance time s = a at *
  obtain ⟨regs, begun, epoch, shown, -⟩ := epochBegun_spec a (a.ft / 1000000)
  rw [begun]
  refine ⟨?_, fun n hn => ?_, rfl, rfl, rfl, rfl, rfl, rfl, rfl, rfl, rfl⟩
  · exact (congrArg BitVec.toNat epoch).trans ((BitVec.toNat_ofNat _ _).trans (Nat.mod_eq_of_lt fits))
  · exact (congrArg BitVec.toNat (shown n hn)).trans ((BitVec.toNat_ofNat _ _).trans (Nat.mod_eq_of_lt (counts n hn)))

end

/-! ## A new policy -/

/-- What discarding pages leaves of the tier manager: the policy, and no write that waits when none did. -/
structure Discarded (s t : State) : Prop where
  policy : t.tier.policy = s.tier.policy
  due : t.tier.policyDue = s.tier.policyDue
  writes : s.tier.waitWrites = [] → t.tier.waitWrites = []
  regs : t.regs = s.regs

theorem discardPage_discarded (s : State) (p : Nat) : Discarded s (discardPage s p) :=
  ⟨rfl, rfl, fun none_ => congrArg (List.map _) none_, rfl⟩

theorem pte_discardPage {p q : Nat} (hp : p < 2 ^ 28) (hq : q < 2 ^ 28) : pte (discardPage s p) q = if q = p then 0 else pte s q := by
  split
  · next eq =>
    subst eq
    exact pte_setPte_same q (by decide)
  · next ne => exact pte_setPte_other (s := _) 0 hp hq ne

theorem forEach_discardPage (range : Nat) : ∀ (xs : List (Nat × Nat)) (s : State), (∀ x ∈ xs, x.1 < 2 ^ 28) →
    Discarded s (forEach (fun s x => if range ≤ x.1 then discardPage s x.1 else s) s xs)
    ∧ ∀ q, q < 2 ^ 28 → pte (forEach (fun s x => if range ≤ x.1 then discardPage s x.1 else s) s xs) q =
        if range ≤ q ∧ q ∈ xs.map (·.1) then 0 else pte s q
  | [], s, _ => ⟨⟨rfl, rfl, id, rfl⟩, fun q _ => by simp [forEach]⟩
  | x :: xs, s, low => by
    obtain ⟨hx, low⟩ := List.forall_mem_cons.mp low
    obtain ⟨rest, entries⟩ := forEach_discardPage range xs (if range ≤ x.1 then discardPage s x.1 else s) low
    have first : Discarded s (if range ≤ x.1 then discardPage s x.1 else s) := by
      split
      · exact discardPage_discarded s x.1
      · exact ⟨rfl, rfl, id, rfl⟩
    refine ⟨⟨rest.policy.trans first.policy, rest.due.trans first.due, fun h => rest.writes (first.writes h), rest.regs.trans first.regs⟩,
      fun q hq => (entries q hq).trans ?_⟩
    have entry : pte (if range ≤ x.1 then discardPage s x.1 else s) q = if range ≤ q ∧ q = x.1 then 0 else pte s q := by
      by_cases past : range ≤ x.1
      · rw [if_pos past, pte_discardPage hx hq]
        by_cases eq : q = x.1
        · simp [eq, past]
        · simp [eq]
      · rw [if_neg past, if_neg (by rintro ⟨h, rfl⟩; exact past h)]
    simp only [entry, List.map_cons, List.mem_cons]
    grind

/-- From `s` to `t` at most sources and commands in progress changed. -/
def SourcesOnly (s t : State) : Prop := ∃ sources cmd, t = { s with cmd := cmd, tier := { s.tier with sources := sources } }

protected theorem SourcesOnly.refl (s : State) : SourcesOnly s s := ⟨s.tier.sources, s.cmd, rfl⟩

protected theorem SourcesOnly.trans {t u : State} (hs : SourcesOnly s t) (ht : SourcesOnly t u) : SourcesOnly s u := by
  obtain ⟨_, _, rfl⟩ := hs
  obtain ⟨sources, cmd, rfl⟩ := ht
  exact ⟨sources, cmd, rfl⟩

protected theorem SourcesOnly.forEach {A : Type} {f : State → A → State} (step : ∀ s a, SourcesOnly s (f s a)) :
    ∀ (xs : List A) (s : State), SourcesOnly s (forEach f s xs)
  | [], s => .refl s
  | x :: xs, s => (step s x).trans (SourcesOnly.forEach step xs (f s x))

theorem useExpanders_sources (s : State) : SourcesOnly s (useExpanders s) := by
  unfold useExpanders
  split
  · exact .refl s
  · refine .forEach (fun s e => ?_) _ s
    extract_lets cur
    split
    · split
      · exact ⟨_, s.cmd, rfl⟩
      · exact .refl s
    · split
      · exact ⟨_, s.cmd, rfl⟩
      · exact .refl s

theorem finishRevokes_sources (s : State) : SourcesOnly s (finishRevokes s) := by
  refine .forEach (fun s k => ?_) _ s
  extract_lets x
  split
  · split
    · exact ⟨_, _, rfl⟩
    · exact ⟨_, s.cmd, rfl⟩
  · exact .refl s

/-- The pages of a range that has become smaller are discarded. -/
def policyTaken (s : State) (p : TierPolicy) : State :=
  let t := wf (setReg { s with tier := { s.tier with policy := some p, policyDue := false } } R.TIER_RANGE (BitVec.ofNat 64 p.rangePages))
    R.TIER_STATUS F.TIER_STATUS_policy_valid 1
  forEach (fun s x => if p.rangePages ≤ x.1 then discardPage s x.1 else s) t (ptPages t)

theorem applyPolicy_eq (s : State) (p : TierPolicy) : ∃ moves, applyPolicy s p = framesFreed (finishRevokes (useExpanders
    { policyTaken s p with tier := { (policyTaken s p).tier with poolMoves := moves } })) := by
  unfold applyPolicy pagesMoved policyTaken
  exact ⟨_, rfl⟩

theorem policyTaken_spec (s : State) (p : TierPolicy) : (policyTaken s p).tier.policy = some p ∧ (policyTaken s p).tier.policyDue = false
    ∧ (s.tier.waitWrites = [] → (policyTaken s p).tier.waitWrites = [])
    ∧ reg (policyTaken s p) R.TIER_RANGE = BitVec.ofNat 64 p.rangePages
    ∧ rf (policyTaken s p) R.TIER_STATUS F.TIER_STATUS_policy_valid = 1
    ∧ ∀ q, q < 2 ^ 28 → pte (policyTaken s p) q = if p.rangePages ≤ q then 0 else pte s q := by
  have low : ∀ t : State, ∀ x ∈ ptPages t, x.1 < 2 ^ 28 := fun t x hx => by
    obtain ⟨⟨c, -, key⟩, -⟩ := mem_ptPages.mp hx
    exact pageOfKey_lt key
  unfold policyTaken
  extract_lets _ t
  obtain ⟨⟨policy, due, writes, regs⟩, entries⟩ := forEach_discardPage p.rangePages (ptPages t) t (low t)
  generalize forEach (fun s x => if p.rangePages ≤ x.1 then discardPage s x.1 else s) t (ptPages t) = u at *
  have kept : ∀ r, reg u r = reg t r := fun r => by rw [reg, regs, reg]
  refine ⟨policy, due, writes, ?_, ?_, fun q hq => ?_⟩
  · rw [kept]
    exact (reg_wf_ne _ _ _ (by decide)).trans (reg_setReg_same _ _ _)
  · rw [rf, kept]
    exact rf_wf_same _ _ 1 (by decide)
  · rw [entries q hq]
    by_cases past : p.rangePages ≤ q
    · by_cases listed : q ∈ (ptPages t).map (·.1)
      · simp [past, listed]
      · rw [if_neg (by simp [listed]), if_pos past]
        exact pte_of_not_mem_ptPages hq fun x hx eq => listed (List.mem_map.mpr ⟨x, hx, eq⟩)
    · simp only [past, false_and, if_false]
      rfl

theorem applyPolicy_spec {p : TierPolicy} (noWrites : s.tier.waitWrites = []) : (applyPolicy s p).tier.policy = some p
    ∧ (applyPolicy s p).tier.policyDue = false ∧ (reg (applyPolicy s p) R.TIER_RANGE).toNat = p.rangePages % 2 ^ 64
    ∧ rb (applyPolicy s p) R.TIER_STATUS F.TIER_STATUS_policy_valid = true
    ∧ ∀ q, q < 2 ^ 28 → pte (applyPolicy s p) q = if p.rangePages ≤ q then 0 else pte s q := by
  obtain ⟨moves, eq⟩ := applyPolicy_eq s p
  obtain ⟨policy, due, writes, range, valid, entries⟩ := policyTaken_spec s p
  obtain ⟨sources, cmd, moved⟩ := (useExpanders_sources { policyTaken s p with tier := { (policyTaken s p).tier with poolMoves := moves } }).trans
    (finishRevokes_sources _)
  rw [eq, moved]
  generalize policyTaken s p = u at *
  have pressed := (Pressed.refl { u with cmd := cmd, tier := { u.tier with poolMoves := moves, sources := sources } }).framesFreed
    (writes noWrites)
  refine ⟨?_, ?_, ?_, ?_, fun q hq => (pte_of_mem pressed.mem q).trans (entries q hq)⟩
  · rw [pressed.tier]
    exact policy
  · rw [pressed.tier]
    exact due
  · rw [pressed.reg _ (Sent.not_sendReg_mid (by decide) (by decide)) (by decide)]
    exact (congrArg BitVec.toNat range).trans (BitVec.toNat_ofNat _ _)
  · rw [rb, pressed.status _ (by decide), decide_eq_true_eq]
    exact valid

theorem heatEpoch_policy {time : Nat} {p : TierPolicy} (later : heatEpoch (advance time s) < (advance time s).ft / 1000000)
    (changed : (advance time s).tier.policyDue = true) (new : sectionPolicy (advance time s) = some p)
    (noWrites : (advance time s).tier.waitWrites = []) :
    Completes (.heatEpoch time) s (fun t =>
      t.tier.policy = some p ∧ t.tier.policyDue = false ∧ (reg t R.TIER_RANGE).toNat = p.rangePages % 2 ^ 64
      ∧ rb t R.TIER_STATUS F.TIER_STATUS_policy_valid = true
      ∧ (∀ q, q < 2 ^ 28 → pte t q = if p.rangePages ≤ q then 0 else pte (advance time s) q)) := by
  refine ⟨_, heatEpoch_applies later changed new, ?_⟩
  generalize advance time s = a at *
  obtain ⟨regs, begun, -⟩ := epochBegun_spec a (a.ft / 1000000)
  rw [begun]
  exact applyPolicy_spec noWrites

/-! ## The scanner -/

/-- The entry of a page once the scanner has visited it. -/
def scannedEntry (s : State) (p : Nat) : Nat :=
  withFlags s p (setBits (setBits (pte s p) 56 8 (effHeat (pte s p) (heatEpoch s % 256))) 48 8 (heatEpoch s % 256))

theorem scannedEntry_lt (s : State) (p : Nat) : scannedEntry s p < 2 ^ 64 :=
  withFlags_lt p (setBits_lt _ (setBits_lt _ (pte_lt s p) (by decide)) (by decide))

/-- A visit stores the entry, moves the scanner, and perhaps asks for the page or selects it. -/
theorem scanPage_eq (s : State) (p : Nat) : ∃ demand demoteSel, scanPage s p = { setPte s p (scannedEntry s p) with
    tier := { s.tier with scanPos := p + 1, demand := demand, demoteSel := demoteSel } } := by
  unfold scanPage addDemand
  extract_lets _ _ e s₁ _ s₂ _ s₃
  have asked : ∃ demand, s₃ = { s₁ with tier := { s.tier with scanPos := p + 1, demand := demand } } := by
    unfold s₃
    split
    · split
      · exact ⟨_, rfl⟩
      · exact ⟨_, rfl⟩
    · exact ⟨_, rfl⟩
  clear_value s₃
  obtain ⟨demand, rfl⟩ := asked
  split
  · exact ⟨demand, _, rfl⟩
  · exact ⟨demand, _, rfl⟩

theorem exec_scanVisit_next {p : Nat}
    (next : (((ptPages s).filter (fun x => pteTier x.2 ≠ 0)).map (·.1)).find? (fun p => s.tier.scanPos ≤ p) = some p) :
    exec .scanVisit s = .next (scanPage s p) := by
  change execScanVisit s = _
  unfold execScanVisit
  extract_lets ps
  rw [next]

theorem scanVisit_completes {p : Nat}
    (next : (((ptPages s).filter (fun x => pteTier x.2 ≠ 0)).map (·.1)).find? (fun p => s.tier.scanPos ≤ p) = some p) :
    Completes .scanVisit s (fun t => pte t p = scannedEntry s p
      ∧ MemSameOutside (pteAddr p) 8 s t ∧ t.tier.scanPos = p + 1 ∧ t.tier.migs = s.tier.migs ∧ t = { s with mem := t.mem, tier := t.tier }) := by
  refine ⟨_, exec_scanVisit_next next, ?_⟩
  obtain ⟨demand, demoteSel, eq⟩ := scanPage_eq s p
  rw [eq]
  exact ⟨pte_setPte_same (s := s) p (scannedEntry_lt s p), setPte_outside s p _, rfl, rfl, rfl⟩

theorem scanVisit_idle (unbacked : ∀ x ∈ ptPages s, pteTier x.2 = 0) : exec .scanVisit s = .next s := by
  have none_ : (ptPages s).filter (fun x => pteTier x.2 ≠ 0) = [] := by
    rw [List.filter_eq_nil_iff]
    intro x hx
    simp [unbacked x hx]
  change execScanVisit s = _
  unfold execScanVisit
  rw [none_]
  rfl

end Sys2Proof.Laws
end

section
/-! SUPPORT. Touches, and the fetch of a critical row (R279, R281, R290). -/

namespace Sys2Proof.Laws

set_option Elab.async false

open Sys2Proof.Machine

variable {s : State}

/-! ## A touch of a page -/

/-- The heat of a page that is touched now. -/
def touchedHeat (s : State) (p : Nat) : Nat := min 255 (effHeat (pte s p) (heatEpoch s % 256) + 1)

/-- The entry of a page that is touched now. -/
def touchedEntry (s : State) (p : Nat) : Nat := withFlags s p (setBits (setBits (pte s p) 56 8 (touchedHeat s p)) 48 8 (heatEpoch s % 256))

theorem touchedEntry_lt (s : State) (p : Nat) : touchedEntry s p < 2 ^ 64 :=
  withFlags_lt p (setBits_lt _ (setBits_lt _ (pte_lt s p) (by decide)) (by decide))

theorem pteHeat_touchedEntry (s : State) (p : Nat) : pteHeat (touchedEntry s p) = touchedHeat s p := by
  rw [pteHeat, touchedEntry, bitsOf_withFlags _ _ (by decide), bitsOf_setBits_other _ _ (by decide), bitsOf_setBits_same]
  unfold touchedHeat
  omega

theorem pteStamp_touchedEntry (s : State) (p : Nat) : pteStamp (touchedEntry s p) = heatEpoch s % 256 := by
  rw [pteStamp, touchedEntry, bitsOf_withFlags _ _ (by decide), bitsOf_setBits_same]
  omega

/-- A touch leaves the fields of an entry below the stamp, but for the range's flags. -/
theorem bitsOf_touchedEntry (s : State) (p : Nat) {lo w : Nat} (low : lo + w ≤ 48) (apart : lo + w ≤ 40 ∨ 43 ≤ lo) :
    bitsOf (touchedEntry s p) lo w = bitsOf (pte s p) lo w := by
  rw [touchedEntry, bitsOf_withFlags _ _ apart, bitsOf_setBits_other _ _ (by omega), bitsOf_setBits_other _ _ (by omega)]

theorem pteTier_touchedEntry (s : State) (p : Nat) : pteTier (touchedEntry s p) = pteTier (pte s p) :=
  bitsOf_touchedEntry s p (by decide) (by decide)

theorem ptePlace_touchedEntry (s : State) (p : Nat) : ptePlace (touchedEntry s p) = ptePlace (pte s p) :=
  ptePlace_congr (pteTier_touchedEntry s p) (bitsOf_touchedEntry s p (by decide) (by decide)) (bitsOf_touchedEntry s p (by decide) (by decide))
    (bitsOf_touchedEntry s p (by decide) (by decide))

theorem pteTier_of_t2 {e src f : Nat} (place : ptePlace e = some (.t2 src f)) : pteTier e = 2 := by
  unfold ptePlace at place
  split at place
  · cases place
  · assumption
  · cases place

/-- A page with room in the queue joins it. -/
theorem queuePromotion_joins {p heat : Nat} (room : s.tier.queue.length < 4096) : ∃ queue, p ∈ queue
    ∧ queuePromotion s p heat = { s with tier := { s.tier with queue := queue } } := by
  unfold queuePromotion
  split
  · next waits => exact ⟨s.tier.queue, List.contains_iff_mem.mp waits, rfl⟩
  · exact ⟨_, List.mem_append_right _ List.mem_cons_self, rfl⟩

theorem queuePromotion_eq (s : State) (p heat : Nat) : ∃ queue, queuePromotion s p heat = { s with tier := { s.tier with queue := queue } } := by
  unfold queuePromotion
  split
  · exact ⟨_, rfl⟩
  · split
    · exact ⟨_, rfl⟩
    · split
      · exact ⟨_, rfl⟩
      · split
        · exact ⟨_, rfl⟩
        · exact ⟨_, rfl⟩

/-- A touch of a T2 page stores its entry and counts; at the threshold the page joins the promotion queue. -/
theorem touch_t2 {p : Nat} (t2 : pteTier (pte s p) = 2) : ∃ touches demand queue, touch s p = { setPte s p (touchedEntry s p) with
      tier := { s.tier with touches := touches, demand := demand, queue := queue } }
    ∧ ∀ pol, s.tier.policy = some pol → pol.promoteThr ≤ touchedHeat s p → s.tier.queue.length < 4096 → p ∈ queue := by
  have still : pteTier (touchedEntry s p) = 2 := (pteTier_touchedEntry s p).trans t2
  unfold touch
  extract_lets e₀ ep heat e s₁ tier s₂ tier₂ s₃
  rw [if_neg (by rw [t2]; decide)]
  have counted : ∃ touches demand, s₃ = { setPte s p (touchedEntry s p) with tier := { s.tier with touches := touches, demand := demand } } := by
    unfold s₃
    split
    · exact ⟨_, _, rfl⟩
    · exact ⟨_, _, rfl⟩
  obtain ⟨touches, demand, eq⟩ := counted
  split
  · next none_ => exact ⟨_, _, _, rfl, fun pol some_ => nomatch none_.symm.trans some_⟩
  · next pol some_ =>
    have policy : s.tier.policy = some pol := some_
    clear_value s₃
    subst eq
    split
    · next hot =>
      by_cases room : s.tier.queue.length < 4096
      · obtain ⟨queue, mem, joined⟩ := queuePromotion_joins (p := p) (heat := heat)
          (s := { setPte s p (touchedEntry s p) with tier := { s.tier with touches := touches, demand := demand } }) room
        exact ⟨touches, demand, queue, joined, fun _ _ _ _ => mem⟩
      · obtain ⟨queue, eq⟩ := queuePromotion_eq
          { setPte s p (touchedEntry s p) with tier := { s.tier with touches := touches, demand := demand } } p heat
        exact ⟨touches, demand, queue, eq, fun _ _ _ free => absurd free room⟩
    · next cold =>
      refine ⟨touches, demand, s.tier.queue, rfl, fun pol' some' warm => absurd ?_ cold⟩
      cases policy.symm.trans some'
      rw [Bool.and_eq_true, decide_eq_true_eq, decide_eq_true_eq]
      exact ⟨still, warm⟩

/-! ## The fetch of a critical row -/

/-- Nothing goes on where nothing waits. -/
theorem pumpInput_of_none (noReqs : s.sor.heldReqs = []) (noReads : s.recov.waitRd = []) (noInput : s.sor.inq = []) :
    pumpInput (serveWaits (pumpReqs s)) = s := by
  have reqs : pumpReqs s = s := by
    rw [pumpReqs_of_none noReqs, ← noReqs]
  have reads : serveWaits s = s := by
    rw [serveWaits, noReads]
    change { s with recov := { s.recov with waitRd := [] } } = s
    rw [← noReads]
  rw [reqs, reads, pumpInput, noInput]
  change { s with sor := { s.sor with inq := [] } } = s
  rw [← noInput]

theorem exec_criticalRowFetch (addr len : Nat) :
    exec (.criticalRowFetch addr len) s = .next (if failed s || readWaits s addr len then s else criticalFetch s addr len) := rfl

section

variable {addr len : Nat}

theorem criticalRowFetch_waits (waits : failed s = true ∨ readWaits s addr len = true) : exec (.criticalRowFetch addr len) s = .next s := by
  rw [exec_criticalRowFetch, if_pos (by simpa using waits)]

theorem exec_criticalRowFetch_open (up : failed s = false) (open_ : readWaits s addr len = false) :
    exec (.criticalRowFetch addr len) s = .next (criticalFetch s addr len) := by
  rw [exec_criticalRowFetch, up, open_]
  rfl

/-- The reads that still wait for bytes of T2 that were not fetched. -/
def stillWanted (s : State) : List (Nat × Nat) := s.sor.wanted.filter (fun w => !s.sor.fetched.any (fetchCovers w.1 w.2))

/-- The state in which the read of a critical row from its source is issued, counted and perhaps noted for the reads that wait. -/
def fetchIssued (s : State) (src f off n : Nat) (fetched : List (Nat × Nat)) : State :=
  let u := placeRead (bump s R.TIER_CRIT_CNT 1) (.t2 src f) off n
  { u with sor := { u.sor with fetched := fetched } }

variable (noReqs : s.sor.heldReqs = []) (noReads : s.recov.waitRd = []) (noInput : s.sor.inq = [])
  (pos : 0 < len) (within : addr % 0x1_0000 + len ≤ 0x1_0000)
include noReqs noReads noInput pos within

theorem criticalFetch_outside (other : pteTier (pte s (addr / 0x1_0000)) ≠ 2) :
    criticalFetch s addr len = { s with sor := { s.sor with wanted := stillWanted s } } := by
  unfold criticalFetch
  rw [pageSegs_within pos within]
  extract_lets s₁ _ s₂
  have kept : s₁ = s := by
    unfold s₁
    rw [forEach, List.foldl_cons, List.foldl_nil]
    split
    · next place =>
      unfold ptePlace at place
      split at place
      · cases place
      · next t2 => exact absurd t2 other
      · cases place
    · rfl
  clear_value s₁
  subst kept
  exact pumpInput_of_none (s := s₂) noReqs noReads noInput

theorem criticalFetch_t2 {src f : Nat} (place : ptePlace (pte s (addr / 0x1_0000)) = some (.t2 src f)) :
    ∃ fetched wanted, criticalFetch s addr len =
      let u := touch (fetchIssued s src f (addr % 0x1_0000) len fetched) (addr / 0x1_0000)
      { u with sor := { u.sor with wanted := wanted } } := by
  unfold criticalFetch
  rw [pageSegs_within pos within]
  extract_lets s₁ _ s₂
  have issued : ∃ fetched, s₁ = touch (fetchIssued s src f (addr % 0x1_0000) len fetched) (addr / 0x1_0000) := by
    unfold s₁
    rw [forEach, List.foldl_cons, List.foldl_nil, place]
    dsimp only
    split
    · exact ⟨_, rfl⟩
    · exact ⟨_, rfl⟩
  obtain ⟨fetched, issued⟩ := issued
  have t2 : pteTier (pte (fetchIssued s src f (addr % 0x1_0000) len fetched) (addr / 0x1_0000)) = 2 :=
    pteTier_of_t2 place
  obtain ⟨_, _, _, touched, -⟩ := touch_t2 t2
  refine ⟨fetched, stillWanted s₁, ?_⟩
  rw [pumpInput_of_none (s := s₂)]
  · rw [← issued]
    rfl
  · exact (congrArg (fun u : State => u.sor.heldReqs) (issued.trans touched)).trans noReqs
  · exact (congrArg (fun u : State => u.recov.waitRd) (issued.trans touched)).trans noReads
  · exact (congrArg (fun u : State => u.sor.inq) (issued.trans touched)).trans noInput

theorem criticalRowFetch_outside (up : failed s = false) (open_ : readWaits s addr len = false) (other : pteTier (pte s (addr / 0x1_0000)) ≠ 2) :
    Completes (.criticalRowFetch addr len) s (fun t => t = { s with sor := { s.sor with wanted := stillWanted s } }) :=
  ⟨_, exec_criticalRowFetch_open up open_, criticalFetch_outside noReqs noReads noInput pos within other⟩

theorem criticalRowFetch_t2 {src f : Nat} (up : failed s = false) (open_ : readWaits s addr len = false)
    (place : ptePlace (pte s (addr / 0x1_0000)) = some (.t2 src f)) (room : (reg s R.TIER_CRIT_CNT).toNat + 1 < 2 ^ 64) :
    Completes (.criticalRowFetch addr len) s (fun t => let p := addr / 0x1_0000
      Out.peatRead src f (addr % 0x1_0000) len ∈ t.out ∧ (reg t R.TIER_CRIT_CNT).toNat = (reg s R.TIER_CRIT_CNT).toNat + 1
      ∧ pteHeat (pte t p) = touchedHeat s p ∧ pteStamp (pte t p) = heatEpoch s % 256 ∧ ptePlace (pte t p) = some (.t2 src f)
      ∧ MemSameOutside (pteAddr p) 8 s t
      ∧ ∀ pol, s.tier.policy = some pol → pol.promoteThr ≤ pteHeat (pte t p) → s.tier.queue.length < 4096 → p ∈ t.tier.queue) := by
  refine ⟨_, exec_criticalRowFetch_open up open_, ?_⟩
  obtain ⟨fetched, wanted, eq⟩ := criticalFetch_t2 noReqs noReads noInput pos within place
  rw [eq]
  extract_lets p u
  let v := fetchIssued s src f (addr % 0x1_0000) len fetched
  obtain ⟨touches, demand, queue, touched, joins⟩ := touch_t2 (s := v) (p := p) (pteTier_of_t2 place)
  have epoch : heatEpoch v = heatEpoch s := congrArg BitVec.toNat (reg_bump_ne s 1 (by decide))
  have heat : touchedHeat v p = touchedHeat s p := by rw [touchedHeat, epoch]; rfl
  have entry : pte u p = touchedEntry v p := (congrArg (pte · p) touched).trans (pte_setPte_same (s := v) p (touchedEntry_lt v p))
  have hot : pteHeat (pte u p) = touchedHeat s p := by rw [entry, pteHeat_touchedEntry, heat]
  refine ⟨?_, ?_, hot, ?_, ?_, fun a out => ?_, fun pol policy warm free => ?_⟩
  · change _ ∈ u.out
    rw [show u.out = _ from congrArg State.out touched]
    exact List.mem_cons_self
  · change (reg u _).toNat = _
    rw [show reg u _ = _ from congrArg (reg · R.TIER_CRIT_CNT) touched]
    exact toNat_reg_bump room
  · change pteStamp (pte u p) = _
    rw [entry, pteStamp_touchedEntry, epoch]
  · change ptePlace (pte u p) = _
    rw [entry, ptePlace_touchedEntry]
    exact place
  · exact (congrArg (byteAt · a) touched).trans (setPte_outside v p _ a out)
  · change p ∈ u.tier.queue
    rw [show u.tier.queue = queue from congrArg (fun u : State => u.tier.queue) touched]
    exact joins pol policy (by rw [heat, ← hot]; exact warm) free

end

end Sys2Proof.Laws
end

section
/-! SUPPORT. The migrations that start (R276, R281 to R288, R302, R311). -/

namespace Sys2Proof.Laws

set_option Elab.async false

open Sys2Proof.Machine

variable {s : State} {pol : TierPolicy} {p : Nat} {dst : Place}

/-! ## Promotions and demotions -/

theorem exec_promote : exec .promote s = execPromote s := rfl

theorem promote_idle (policy : s.tier.policy = some pol) (scarce : freeT1 s ≤ pol.freeLow) : exec .promote s = .next s := by
  rw [exec_promote, execPromote, policy]
  dsimp only
  rw [if_pos (.inl scarce)]

theorem promote_starts (policy : s.tier.policy = some pol) (free : pol.freeLow < freeT1 s) (budget : s.tier.promoted < pol.promoteBudget)
    (place : chooseT1 s (fun _ => true) = some dst)
    (first : firstStart s .promote (s.tier.queue.filter (fun q => pteTier (pte s q) = 2)) = some p) :
    Completes .promote s (fun t => MigStarts s t .promote p dst [] ∧ t.tier.promoted = s.tier.promoted + 1 ∧ p ∉ t.tier.queue
      ∧ ∀ q ∈ s.tier.queue, q ≠ p → q ∈ t.tier.queue) := by
  rw [Completes, exec_promote, execPromote, policy]
  dsimp only
  rw [if_neg (by omega), first, place]
  refine ⟨_, rfl, startMig_starts s _ _ _ _ _ rfl, ?_⟩
  obtain ⟨_, _, _, tier⟩ := startMig_tier s { s.tier with promoted := s.tier.promoted + 1, queue := s.tier.queue.filter (· ≠ p) } .promote p dst []
  dsimp only
  rw [tier]
  exact ⟨rfl, by simp, fun q mem ne => List.mem_filter.mpr ⟨mem, decide_eq_true ne⟩⟩

theorem exec_demote : exec .demote s = execDemote s := rfl

theorem demote_idle (policy : s.tier.policy = some pol) (kept : s.tier.demoting = false) : exec .demote s = .next s := by
  rw [exec_demote, execDemote, policy]
  dsimp only
  rw [if_pos (.inl (by rw [kept]; rfl))]

theorem demote_starts (policy : s.tier.policy = some pol) (pressed : s.tier.demoting = true) (budget : s.tier.demoted < pol.demoteBudget)
    (place : chooseT2 s p = some dst) (first : firstStart s .demote (s.tier.demoteSel.filter (demotable s)) = some p) :
    Completes .demote s (fun t => MigStarts s t .demote p dst [] ∧ t.tier.demoted = s.tier.demoted + 1) := by
  rw [Completes, exec_demote, execDemote, policy]
  dsimp only
  rw [if_neg (by rw [pressed]; simpa using budget), first]
  dsimp only
  rw [place]
  refine ⟨_, rfl, startMig_starts s _ _ _ _ _ rfl, ?_⟩
  obtain ⟨_, _, _, tier⟩ := startMig_tier s { s.tier with demoted := s.tier.demoted + 1 } .demote p dst []
  dsimp only
  rw [tier]

/-! ## Rebalancing -/

theorem exec_rebalance : exec .rebalance s = execRebalance s := rfl

theorem rebalance_pool (policy : s.tier.policy = some pol) (budget : s.tier.rebalanced < pol.rebalBudget)
    (place : chooseT1 s (fun m => m ≠ pteStack (pte s p)) = some dst) (first : firstStart s .rebalance s.tier.poolMoves = some p) :
    Completes .rebalance s (fun t => MigStarts s t .rebalance p dst [] ∧ t.tier.rebalanced = s.tier.rebalanced + 1) := by
  rw [Completes, exec_rebalance, execRebalance, policy]
  dsimp only
  rw [if_neg (by omega), first]
  dsimp only
  rw [place]
  refine ⟨_, rfl, startMig_starts s _ _ _ _ _ rfl, ?_⟩
  obtain ⟨_, _, _, tier⟩ := startMig_tier s { s.tier with rebalanced := s.tier.rebalanced + 1 } .rebalance p dst []
  dsimp only
  rw [tier]

theorem overloadMove_eq {x : Overload} {h : Nat}
    (hottest : x.pages.find? (fun q => stillOn s x.stack q.1 && mayStart s .rebalance q.1) = some (p, h))
    (place : chooseT1 s (fun m => m ≠ x.stack) = some dst) : overloadMove s x = some (p, h, dst) := by
  rw [overloadMove, hottest, place]

/-- The overloads that are left when the first of them, unlike the others, is relieved. -/
theorem flatMap_relieved {x : Overload} {rest xs : List Overload} (new : x ∉ rest) :
    (x :: rest).flatMap (fun y => if y = x then xs else [y]) = xs ++ rest := by
  rw [List.flatMap_cons, if_pos rfl, List.append_right_inj]
  calc rest.flatMap (fun y => if y = x then xs else [y])
      _ = rest.flatMap (fun y => [y]) := List.flatMap_congr fun y mem => if_neg fun eq : y = x => new (eq ▸ mem)
      _ = rest := by simp

theorem rebalance_overload {x : Overload} {rest : List Overload} {h : Nat} (policy : s.tier.policy = some pol)
    (budget : s.tier.rebalanced < pol.rebalBudget) (noMoves : s.tier.poolMoves = []) (heavy : s.tier.rebal = x :: rest) (new : x ∉ rest)
    (hottest : x.pages.find? (fun q => stillOn s x.stack q.1 && mayStart s .rebalance q.1) = some (p, h))
    (place : chooseT1 s (fun m => m ≠ x.stack) = some dst) :
    Completes .rebalance s (fun t => MigStarts s t .rebalance p dst [] ∧ t.tier.rebalanced = s.tier.rebalanced + 1
      ∧ t.tier.rebal = relieved x p h ++ rest) := by
  have idle : firstStart s .rebalance s.tier.poolMoves = none := by
    rw [noMoves, firstStart, List.find?_nil]
  rw [Completes, exec_rebalance, execRebalance, policy]
  dsimp only
  rw [if_neg (by omega), idle, heavy, List.findSome?_cons, overloadMove_eq hottest place]
  dsimp only [Option.map_some]
  rw [flatMap_relieved new]
  refine ⟨_, rfl, startMig_starts s _ _ _ _ _ rfl, ?_⟩
  obtain ⟨_, _, _, tier⟩ := startMig_tier s { s.tier with rebalanced := s.tier.rebalanced + 1, rebal := relieved x p h ++ rest } .rebalance p dst []
  rw [tier]
  exact ⟨rfl, rfl⟩

/-! ## Demanded pages -/

theorem exec_demand : exec .demand s = execDemand s := rfl

section

variable {d : Nat × List Nat}
  (first : (s.tier.demand.filter (fun d => pteTier (pte s d.1) = 2)).find? (fun d => mayStart s .demand d.1) = some d)
include first

theorem demand_starts (place : chooseT1 s (fun _ => true) = some dst) :
    Completes .demand s (fun t => MigStarts s t .demand d.1 dst d.2 ∧ t.tier.demand = s.tier.demand) := by
  rw [Completes, exec_demand, execDemand, first]
  dsimp only
  rw [place]
  refine ⟨startMig s .demand d.1 dst d.2, rfl, startMig_starts s s.tier _ _ _ _ rfl, ?_⟩
  obtain ⟨_, _, _, tier⟩ := startMig_tier s s.tier .demand d.1 dst d.2
  exact (congrArg Tier.demand tier :)

variable (scarce : chooseT1 s (fun _ => true) = none)
include scarce

theorem demand_demotes {v : Nat × Place} (victim : demandVictim s = some v) :
    Completes .demand s (fun t => MigStarts s t .demote v.1 v.2 [] ∧ t.tier.demoted = s.tier.demoted ∧ t.tier.demand = s.tier.demand) := by
  rw [Completes, exec_demand, execDemand, first]
  dsimp only
  rw [scarce, victim]
  refine ⟨startMig s .demote v.1 v.2 [], rfl, startMig_starts s s.tier _ _ _ _ rfl, ?_⟩
  obtain ⟨_, _, _, tier⟩ := startMig_tier s s.tier .demote v.1 v.2 []
  exact ⟨(congrArg Tier.demoted tier :), (congrArg Tier.demand tier :)⟩

variable (noVictim : demandVictim s = none)
include noVictim

theorem demand_waits (demotes : ∃ m ∈ s.tier.migs, m.kind = .demote) : exec .demand s = .next s := by
  rw [exec_demand, execDemand, first]
  dsimp only
  rw [scarce, noVictim]
  dsimp only
  rw [if_pos (by simpa using demotes)]

theorem demand_full (demotes : ∀ m ∈ s.tier.migs, m.kind ≠ .demote) :
    Completes .demand s (fun t => rb t R.TIER_STATUS F.TIER_STATUS_full = true ∧ MemSame s t ∧ t.tier.migs = s.tier.migs) := by
  rw [Completes, exec_demand, execDemand, first]
  dsimp only
  rw [scarce, noVictim]
  dsimp only
  rw [if_neg (by simpa using demotes)]
  have pressed := (Pressed.refl s).tierFull
  exact ⟨_, rfl, rb_tierFull s, pressed.byteAt, by rw [pressed.tier]⟩

end

/-! ## Pages that must leave their frames -/

theorem exec_evacuate : exec .evacuate s = execEvacuate s := rfl

theorem evacuate_starts (first : firstStart s .evacuate (s.tier.evacuate.filter (fun q => (anyPlace s q).isSome)) = some p)
    (place : anyPlace s p = some dst) : Completes .evacuate s (fun t => MigStarts s t .evacuate p dst []) := by
  rw [Completes, exec_evacuate, execEvacuate, first]
  dsimp only
  rw [place]
  exact ⟨_, rfl, startMig_starts s s.tier _ _ _ _ rfl⟩

theorem evacuate_idle (none_ : firstStart s .evacuate (s.tier.evacuate.filter (fun q => (anyPlace s q).isSome)) = none) :
    exec .evacuate s = .next s := by
  rw [exec_evacuate, execEvacuate, none_]

theorem exec_revoke : exec .revoke s = execRevoke s := rfl

theorem revoke_starts (first : firstStart s .revoke (((revoking s).flatMap (pagesIn s)).filter (fun q => (revokePlace s q).isSome)) = some p)
    (place : revokePlace s p = some dst) : Completes .revoke s (fun t => MigStarts s t .revoke p dst []) := by
  rw [Completes, exec_revoke, execRevoke, first]
  dsimp only
  rw [place]
  exact ⟨_, rfl, startMig_starts s s.tier _ _ _ _ rfl⟩

theorem revoke_idle (none_ : firstStart s .revoke (((revoking s).flatMap (pagesIn s)).filter (fun q => (revokePlace s q).isSome)) = none) :
    exec .revoke s = .next s := by
  rw [exec_revoke, execRevoke, none_]

end Sys2Proof.Laws
end

section
/-! SUPPORT. Pages that are rebuilt (R286, R302, R305, R306). -/

namespace Sys2Proof.Laws

set_option Elab.async false

open Sys2Proof.Machine

variable {s t u : State} {p : Nat} {dst : Place}

/-! ## The rows of a page -/

section

variable (places : SamePlaces s t)
include places

theorem rowParts_congr (d : List Byte) (rem : Bool) (l : Nat) : rowParts t d rem l = rowParts s d rem l := by
  simp only [rowParts, rowZ, sparseRec, recNum, places.optNow]

theorem rowAt_congr (a : Nat) : rowAt t a = rowAt s a := by
  simp only [rowAt, rowAtPart, rowParts_congr places, places.sor, places.selfId]

theorem rowCuts_congr (a fuel n : Nat) : rowCuts t a fuel n = rowCuts s a fuel n := by
  induction fuel generalizing a n with
  | zero => rfl
  | succ fuel ih =>
    cases n with
    | zero => rfl
    | succ n => simp only [rowCuts, rowAt_congr places, rowParts_congr places, places.sor, ih]

theorem pageKeys_congr (p : Nat) : pageKeys t p = pageKeys s p := by
  simp only [pageKeys, pageRows, rowCuts_congr places, rowParts_congr places]

theorem pageUnasked_congr (recov : t.recov = s.recov) (p : Nat) : pageUnasked t p = pageUnasked s p := by
  simp only [pageUnasked, pageKeys_congr places, places.groupOf, places.selfId, rowLost, findRebuild, recov]

end

/-! ## A page that is ready and finds no frame -/

theorem exec_rebuild : exec .rebuild s = execRebuild s := rfl

theorem rebuild_idle (none_ : lostPages s = []) : exec .rebuild s = .next s := by
  rw [exec_rebuild, execRebuild, none_]
  rfl

theorem rebuild_full (ready : ∃ p ∈ (lostPages s).filter (mayStart s .rebuild), pageReady s p = true)
    (scarce : ∀ p ∈ (lostPages s).filter (mayStart s .rebuild), pageReady s p = true → choosePlace s p (pteCovered (pte s p)) = none)
    (asked : ∀ p ∈ (lostPages s).filter (mayStart s .rebuild), pageUnasked s p = false) :
    Completes .rebuild s (fun t => rb t R.TIER_STATUS F.TIER_STATUS_full = true ∧ t.tier.migs = s.tier.migs ∧ MemSame s t) := by
  have pressed := (Pressed.refl s).tierFull
  have full : exec .rebuild s = .next (tierFull s) := by
    rw [exec_rebuild]
    unfold execRebuild
    extract_lets ps s₁
    have noFrame : (ps.filter (pageReady s)).findSome? (fun p => (choosePlace s p (pteCovered (pte s p))).map (fun dst => (p, dst))) = none := by
      rw [List.findSome?_eq_none_iff]
      intro p mem
      obtain ⟨mem, rebuilt⟩ := List.mem_filter.mp mem
      rw [scarce p mem rebuilt]
      rfl
    have waits : s₁ = tierFull s := if_pos (List.any_eq_true.mpr ready)
    have noneLeft : ps.find? (pageUnasked s₁) = none := by
      rw [List.find?_eq_none, waits]
      intro p mem
      rw [pageUnasked_congr pressed.places pressed.recov, asked p mem]
      decide
    rw [noFrame, noneLeft, ← waits]
  exact ⟨_, full, rb_tierFull s, by rw [pressed.tier], pressed.byteAt⟩

/-! ## A page whose rows are in hand -/

/-- From `s` to `t` at most bytes, the stacks they lie in, and outputs changed. -/
def BytesOnly (s t : State) : Prop := ∃ mem l out, t = { s with mem := mem, stackList := l, out := out }

namespace BytesOnly

protected theorem refl (s : State) : BytesOnly s s := ⟨_, _, _, rfl⟩

protected theorem trans (hs : BytesOnly s t) (ht : BytesOnly t u) : BytesOnly s u := by
  obtain ⟨_, _, _, rfl⟩ := hs
  obtain ⟨mem, l, out, rfl⟩ := ht
  exact ⟨mem, l, out, rfl⟩

protected theorem forEach {A : Type} {f : State → A → State} (step : ∀ s a, BytesOnly s (f s a)) :
    ∀ (xs : List A) (s : State), BytesOnly s (forEach f s xs)
  | [], s => .refl s
  | x :: xs, s => (step s x).trans (BytesOnly.forEach step xs (f s x))

protected theorem zeroPlace (s : State) (pl : Place) : BytesOnly s (zeroPlace s pl) := by
  cases pl with
  | t1 => exact ⟨_, _, _, rfl⟩
  | t2 => exact ⟨_, _, _, rfl⟩

theorem selfId (hs : BytesOnly s t) : Machine.selfId t = Machine.selfId s := by
  obtain ⟨_, _, _, rfl⟩ := hs
  rfl

theorem findRebuild (hs : BytesOnly s t) (subject : Nat) (key : SlotKey) (parity : Bool) :
    Machine.findRebuild t subject key parity = Machine.findRebuild s subject key parity := by
  obtain ⟨_, _, _, rfl⟩ := hs
  rfl

end BytesOnly

/-- The part of a rebuilt row that lies in a page is stored in the frame the page is given. -/
def storeRebuilt (p : Nat) (dst : Place) (s : State) (x : RowAt × Nat × Nat × Nat) : State :=
  match findRebuild s (selfId s) ⟨storageOf x.1.desc, x.1.rem, x.1.row⟩ false with
  | none => s
  | some r => setBytes s (placeKey dst + (x.2.1 - p * 0x1_0000)) ((r.acc.drop x.2.2.1).take x.2.2.2)

theorem storeRebuilt_bytes (s : State) (x : RowAt × Nat × Nat × Nat) : BytesOnly s (storeRebuilt p dst s x) := by
  unfold storeRebuilt
  split
  · exact .refl s
  · exact ⟨_, _, _, rfl⟩

/-- The frame a rebuilt page is given, with the bytes of the rows in it. -/
def frameRebuilt (s : State) (p : Nat) (dst : Place) : State := forEach (storeRebuilt p dst) (zeroPlace s dst) (pageRows (zeroPlace s dst) p)

/-- The migration of a rebuilt page, ready to flip. -/
def rebuiltMig (s : State) (p : Nat) (dst : Place) : Migration := ⟨p, .rebuild, none, dst, 3, [], [], s.ft, [], []⟩

/-- A frame of peat is written over the bus (R275). -/
def frameSent (s : State) : Place → State
  | .t1 _ _ => s
  | .t2 k f => emit s (.peatWrite k f 0 (bytesAt s (placeKey (.t2 k f)) 0x1_0000))

theorem frameSent_bytes (s : State) : BytesOnly s (frameSent s dst) := by
  cases dst with
  | t1 => exact .refl s
  | t2 => exact ⟨_, _, _, rfl⟩

theorem frameSent_mem (s : State) : (frameSent s dst).mem = s.mem := by
  cases dst with
  | t1 => rfl
  | t2 => rfl

/-- The page's migration is added and its mig bit set (R292). -/
def rebuiltReady (u : State) (p : Nat) (dst : Place) : State :=
  { setPte u p (setBits (pte u p) 41 1 1) with tier := { u.tier with migs := u.tier.migs ++ [rebuiltMig u p dst] } }

theorem takeRebuilt_eq (s : State) (p : Nat) (dst : Place) : takeRebuilt s p dst =
    tierPressure (countPlaceWrite (rebuiltReady (frameSent (frameRebuilt s p dst) dst) p dst) dst 0x1_0000) := by
  cases dst with
  | t1 => rfl
  | t2 => rfl

theorem countPlaceWrite_tier (s : State) (pl : Place) (n : Nat) : (countPlaceWrite s pl n).tier = s.tier := by
  cases pl with
  | t1 => rfl
  | t2 => rfl

theorem takeRebuilt_bytes (s : State) (p : Nat) (dst : Place) : BytesOnly s (frameSent (frameRebuilt s p dst) dst) :=
  (BytesOnly.zeroPlace s dst).trans ((BytesOnly.forEach storeRebuilt_bytes _ _).trans (frameSent_bytes _))

theorem takeRebuilt_pressed (s : State) (p : Nat) (dst : Place) :
    Pressed (countPlaceWrite (rebuiltReady (frameSent (frameRebuilt s p dst) dst) p dst) dst 0x1_0000) (takeRebuilt s p dst) := by
  rw [takeRebuilt_eq]
  exact (Pressed.refl _).tierPressure

theorem takeRebuilt_migs (s : State) (p : Nat) (dst : Place) : (takeRebuilt s p dst).tier.migs = s.tier.migs ++ [rebuiltMig s p dst] := by
  obtain ⟨_, _, _, eq⟩ := takeRebuilt_bytes s p dst
  rw [(takeRebuilt_pressed s p dst).tier]
  refine (congrArg Tier.migs (countPlaceWrite_tier _ _ _)).trans ?_
  rw [eq]
  rfl

/-- The one row of a page stands in its frame. -/
theorem frameRebuilt_row {x : RowAt × Nat × Nat × Nat} {r : Rebuild} (one : pageRows (zeroPlace s dst) p = [x])
    (rebuilt : findRebuild s (selfId s) ⟨storageOf x.1.desc, x.1.rem, x.1.row⟩ false = some r) (start : x.2.1 = p * 0x1_0000)
    (inside : x.2.2.1 + x.2.2.2 ≤ r.acc.length) :
    bytesAt (frameRebuilt s p dst) (placeKey dst) x.2.2.2 = (r.acc.drop x.2.2.1).take x.2.2.2 := by
  have zeroed := BytesOnly.zeroPlace s dst
  have stored : frameRebuilt s p dst = setBytes (zeroPlace s dst) (placeKey dst) ((r.acc.drop x.2.2.1).take x.2.2.2) := by
    rw [frameRebuilt, one, forEach, List.foldl_cons, List.foldl_nil, storeRebuilt, zeroed.findRebuild, zeroed.selfId, rebuilt]
    dsimp only
    rw [start, Nat.sub_self, Nat.add_zero]
  have length : ((r.acc.drop x.2.2.1).take x.2.2.2).length = x.2.2.2 := by
    rw [List.length_take, List.length_drop]
    omega
  have read := bytesAt_of_mem (congrArg State.mem stored)
  rwa [length] at read

/-- The entry of a page that is ready to flip lies apart from its frame. -/
theorem bytesAt_takeRebuilt {n : Nat} (short : n ≤ 0x1_0000) (apart : placeKey dst + 0x1_0000 ≤ pteAddr p ∨ pteAddr p + 8 ≤ placeKey dst) :
    bytesAt (takeRebuilt s p dst) (placeKey dst) n = bytesAt (frameRebuilt s p dst) (placeKey dst) n := by
  have ready := setPte_outside (frameSent (frameRebuilt s p dst) dst) p
    (setBits (pte (frameSent (frameRebuilt s p dst) dst) p) 41 1 1)
  refine List.map_congr_left fun i hi => ?_
  rw [List.mem_range] at hi
  rw [(takeRebuilt_pressed s p dst).byteAt, byteAt, countPlaceWrite_mem]
  refine (ready (placeKey dst + i) (by omega)).trans ?_
  rw [byteAt, frameSent_mem, byteAt]

theorem rebuild_takes (first : (((lostPages s).filter (mayStart s .rebuild)).filter (pageReady s)).findSome?
      (fun q => (choosePlace s q (pteCovered (pte s q))).map (fun d => (q, d))) = some (p, dst)) :
    exec .rebuild s = .next (takeRebuilt s p dst) := by
  rw [exec_rebuild]
  unfold execRebuild
  extract_lets ps s₁
  rw [first]

theorem rebuild_ready (first : (((lostPages s).filter (mayStart s .rebuild)).filter (pageReady s)).findSome?
      (fun q => (choosePlace s q (pteCovered (pte s q))).map (fun d => (q, d))) = some (p, dst)) :
    Completes .rebuild s (fun t =>
      (∃ m, t.tier.migs = s.tier.migs ++ [m] ∧ m.page = p ∧ m.kind = .rebuild ∧ m.src = none ∧ m.dst = dst ∧ m.pass = 3 ∧ m.holdAt = s.ft
        ∧ m.held = [])
      ∧ (∀ x r, pageRows (zeroPlace s dst) p = [x] → findRebuild s (selfId s) ⟨storageOf x.1.desc, x.1.rem, x.1.row⟩ false = some r →
          x.2.1 = p * 0x1_0000 → x.2.2.1 + x.2.2.2 ≤ r.acc.length → x.2.2.2 ≤ 0x1_0000 →
          (placeKey dst + 0x1_0000 ≤ pteAddr p ∨ pteAddr p + 8 ≤ placeKey dst) →
          bytesAt t (placeKey dst) x.2.2.2 = (r.acc.drop x.2.2.1).take x.2.2.2)) :=
  ⟨_, rebuild_takes first, ⟨rebuiltMig s p dst, takeRebuilt_migs s p dst, rfl, rfl, rfl, rfl, rfl, rfl, rfl⟩,
    fun _ _ one rebuilt start inside short apart => (bytesAt_takeRebuilt short apart).trans (frameRebuilt_row one rebuilt start inside)⟩

end Sys2Proof.Laws
end

section
/-! CERTIFICATES. Pages are placed, visited and touched, and the migrations start (R276 to R292, R302, R305, R306, R311). -/

namespace Sys2Proof.Laws

set_option Elab.async false

open Sys2Proof.Machine

/-- Settles O33. R282's choice is the least stack by touches that has a free frame; an epoch and a policy that takes effect change the entries of
the pages past the range alone; a touch or a visit replaces the heat and the stamp of an entry; every start adds one migration and sets one mig
bit, and the pressure on the frames that follows changes neither. -/
theorem pagesArePlacedAndMigrationsStart : Obligations.PagesArePlacedAndMigrationsStart := by
  unfold Obligations.PagesArePlacedAndMigrationsStart
  refine ⟨fun s n f chosen => ?_, fun s time => ⟨heatEpoch_early, heatEpoch_completes, fun p => heatEpoch_policy⟩,
    fun s => ⟨fun p => scanVisit_completes, scanVisit_idle⟩, fun s addr len pos within up open_ idle noReads => ⟨fun src f place room => ?_, ?_⟩,
    fun s addr len => criticalRowFetch_waits, fun s pol policy => ?_, fun s d first => ?_, fun s p => ?_,
    fun s => rebuild_full, fun s p dst => rebuild_ready, fun s => rebuild_idle⟩
  · obtain ⟨stack, -, pool, free, lowest, least⟩ := chooseT1_least chosen
    exact ⟨stack, pool, free, lowest, fun m hm => least m hm rfl⟩
  · obtain ⟨-, -, -, noReqs, noInput, -⟩ := idle
    obtain ⟨t, next, read, counted, heat, fetched⟩ := criticalRowFetch_t2 noReqs noReads noInput pos within up open_ place room
    exact ⟨t, next, read, counted, heat, fetched⟩
  · obtain ⟨-, -, -, noReqs, noInput, -⟩ := idle
    exact criticalRowFetch_outside noReqs noReads noInput pos within up open_
  · exact ⟨fun p dst => promote_starts policy, promote_idle policy, fun p dst => demote_starts policy, demote_idle policy,
      fun p dst => rebalance_pool policy, fun x rest p h dst => rebalance_overload policy⟩
  · exact ⟨fun dst => demand_starts first, fun v scarce => demand_demotes first scarce, demand_waits first, demand_full first⟩
  · exact ⟨fun dst => evacuate_starts, evacuate_idle, fun dst => revoke_starts, revoke_idle⟩

end Sys2Proof.Laws
end

section
/-! CERTIFICATES. A REVOKE_PEAT whose own START record clears a page-table frame: the pool of stack 0 in effect is a page-table frame (R268), and
the record is the first write of an unbacked page, which is given that frame, filled with zeros (R270, R286, R631). The entry of the one page in
the slot is among them. -/

namespace Sys2Proof.Laws

set_option Elab.async false

open Sys2Proof.Machine

/-- The host port is attached and the rings are enabled. The pool of stack 0 is its page-table frame 0, the tiered range is page 0, which is
unbacked, and page 8, whose entry lies in that frame, is in the grant of slot 0. -/
def tableFramePool : State :=
  { regs := [(R.HST_STATUS, 3), (R.CMD_CFG, 2 ^ 31), (R.STK_STATUS 0, 4)]
    mem := putBytes [] (pteAddr 8) (leBytes 8 (pteAt 0 0 (.t2 4 0)))
    tier := { policy := some ⟨1, 0, 0, 0, 0, 0, 0, 0, 0, 0, [(0, 1)], []⟩, sources := modAt (fun _ => ⟨1, 0, 1, none⟩) (List.replicate 16 {}) 4 } }

/-- The counter records of the command go to the tiered range from 0 on (R546). -/
def recordedHead : CmdHead := { flags := 0, timeout := 0, cmdId := 0, cntAddr := 2 ^ 62 }

theorem exec_revokePeat (h : CmdHead) (slot : Nat) (s : State) :
    exec (.revokePeat h slot) s = .next (fetchCmd s h (.revokePeat slot) none) := rfl

theorem tableFramePool_commandSlot : CommandSlot tableFramePool recordedHead :=
  ⟨by decide +kernel, by decide, by decide, fun _ h => nomatch h⟩

/-- The slot holds no page once the START record is written, and the command frees it at once. -/
theorem tableFramePool_slot_freed :
    ((fetchCmd tableFramePool recordedHead (.revokePeat 0) none).tier.sources.getD 4 {}).state = 0 := by decide +kernel

/-- Refutes O34: a REVOKE_PEAT of a slot that holds pages does not always leave the slot being revoked, for its START record may be given a
page-table frame of the policy's pool. -/
theorem not_pagesKeepTheirBytesAndSourcesAreLost : ¬ Obligations.PagesKeepTheirBytesAndSourcesAreLost := by
  unfold Obligations.PagesKeepTheirBytesAndSourcesAreLost
  rintro ⟨-, -, -, -, -, -, -, -, -, revokes⟩
  obtain ⟨begins, -⟩ := revokes tableFramePool recordedHead 0 tableFramePool_commandSlot (by decide) (by decide)
  obtain ⟨t, next, -, stays, -⟩ := begins (by decide) (by decide +kernel) (by decide) (by decide +kernel)
  rw [exec_revokePeat] at next
  rw [← Host.Outcome.next.inj next] at stays
  exact absurd (tableFramePool_slot_freed.symm.trans stays) (by decide)

end Sys2Proof.Laws
end

section
/-! CERTIFICATES. A RD64 whose page is lost as the device fails: the line it reads holds poison, the page on its frame is covered and becomes
lost (R305, R337), and the row has no spare left while its stack has retired all the frames it may, which fails the device (R342, R343). A
completion record was held for a detached host, so that the failure brings the status page up to date (R499, R566), and HST_SPAGE has that
page lie over the entry of the lost one. -/

namespace Sys2Proof.Laws

set_option Elab.async false

open Sys2Proof.Machine

variable {s : State} {n tag off f p : Nat}

/-! ## A read that finds its line uncorrectable -/

theorem exec_rd64 {err : LineErr} (stack : n < 8) : exec (.rd64 n tag off err) s = .next (takeTx s n (.rd64 tag off err)) :=
  congrArg Host.Outcome.next (if_pos stack)

/-- A transaction that need not wait executes as it is issued (R323). -/
theorem takeTx_of_goes {tx : StackTx} (free : txWaits s n tx = false) (first : (stackOf s n).waiting.any (fun q => sameLine tx q.tx) = false) :
    takeTx s n tx = runTx (sendFlits s n false (txFlits tx)) n tx := by
  simp only [txWaits, Bool.or_eq_false_iff, Bool.not_eq_false'] at free
  obtain ⟨⟨now, unblocked⟩, front⟩ := free
  simp [takeTx, now, unblocked, front, first]

/-- A RD64 whose line is found uncorrectable answers POISON (R318, R337). -/
theorem runTx_rd64_of_none {err : LineErr} {t : State} (ok : offsetOk off 64 = true)
    (found : lineRead (bump (dramBurst n false s off) (R.STK_NARROW_CNT n) 1) n off err = (t, none)) :
    runTx s n (.rd64 tag off err) = reply t n 1 (.data tag 1 []) := by
  have needs : txNeeds (.rd64 tag off err) = [0] := by simp [txNeeds, txOk, ok, txLines]
  rw [runTx, needs]
  simp [forEach, txBurst, finishTx, txOk, ok, found]

/-- A line that holds poison is uncorrectable whatever else it meets (R337). -/
theorem lineRead_of_poison {err : LineErr} (poisoned : (stackOf s n).poison.contains (off / 64) = true) (noErrs : (stackOf s n).errs = []) :
    lineRead s n off err = (lineUncorrectable s n off, none) := by
  simp only [lineRead, noErrs, List.isEmpty_nil, if_true, lineFate, poisoned]

/-- A line has been found uncorrectable: counted, recorded and poisoned (R337). -/
def lineFound (s : State) (n off : Nat) : State :=
  modStack (stkFlag (errAddr (cntAdd (bump s (R.STK_UNCORR_CNT n) 1) 15 1) n off true none) n F.STK_FLAGS_uncorr F.STK_CTL_uncorr_event_en) n
    (fun x => { x with poison := insertAsc (off / 64) x.poison })

/-- In a covered page of the T1 pool the page is lost, and its row is failing (R337, R339). -/
theorem lineUncorrectable_covered (pool : inPool (lineFound s n off) n (frameOf off) = true)
    (page : pageOnFrame (lineFound s n off) n (frameOf off) = some p) (covered : pteCovered (pte (lineFound s n off) p) = true) :
    lineUncorrectable s n off = failRow (losePages (lineFound s n off) [p]) n (channelOf off) (frameOf off) := by
  refine congrArg (fun t => failRow t n (channelOf off) (frameOf off)) ?_
  rw [← lineFound, pool, page]
  exact if_pos covered

/-- A row without a spare, of a stack that has retired as many frames as it may, fails the device (R342, R343). -/
theorem failRow_full {c : Nat} (repairing : (stackOf s n).failing.contains (c, f) = false) (spent : 16 ≤ bankUse (stackOf s n) c (f % 64))
    (used : s.tier.retired.contains (n, f) = false) (full : 65536 ≤ (s.tier.retired.filter (fun r => r.1 = n)).length) :
    failRow s n c f = enterFailed s 4 := by
  have dry : 16 ≤ bankUse (stackOf s n) c (f % 64) + bankFailing (stackOf s n) c (f % 64) := Nat.le_add_right_of_le spent
  simp only [failRow, repairing, used, dry, retireFrame, full, Bool.false_eq_true, or_self, or_true, if_false, if_true]

/-! ## A page that is lost while no frame is short -/

/-- No frame is short, and no demotion runs (R283, R301). -/
def framesEnough (s : State) : State :=
  { wf s R.TIER_STATUS F.TIER_STATUS_low 0 with tier := { s.tier with demoting := false, boundRise := 0 } }

theorem framesEnough_retired (s : State) : (framesEnough s).tier.retired = s.tier.retired := rfl

/-- Under a policy that asks for no free frames none is short (R283, R301). -/
theorem tierPressure_of_zero {pol : TierPolicy} (inEffect : s.tier.policy = some pol) (low : pol.freeLow = 0) (high : pol.freeHigh = 0) :
    tierPressure s = framesEnough s := by
  have low' : freeLow s = 0 := by rw [freeLow, inEffect]; exact low
  have high' : freeHigh (wf s R.TIER_STATUS F.TIER_STATUS_low 0) = 0 := by rw [freeHigh, wf_tier, inEffect]; exact high
  simp [tierPressure, inEffect, low', high', framesEnough]

/-- Pages have left their frames and nothing goes on: no slot is being revoked, no write waits, no frame is short (R276, R301, R302). -/
theorem pagesMoved_of_rest {pol : TierPolicy} (noRevoke : ∀ k, k < 16 → (s.tier.sources.getD k {}).state ≠ 2) (noWrites : s.tier.waitWrites = [])
    (notFull : s.tier.fullSince = none) (inEffect : s.tier.policy = some pol) (low : pol.freeLow = 0) (high : pol.freeHigh = 0) :
    pagesMoved s = framesEnough s := by
  have revokes : finishRevokes s = s := forEach_eq_self fun k hk => if_neg fun h => noRevoke k (List.mem_range.mp hk) h.1
  have unfull : tierUnfull (framesEnough s) = framesEnough s := by
    rw [tierUnfull, show (framesEnough s).tier.fullSince = none from notFull]
  rw [pagesMoved, revokes, framesFreed, tierPressure_of_zero inEffect low high, retryWaits_of_none (s := framesEnough s) noWrites, unfull, ite_self]

/-- A page is lost, with its flags and its event (R305). -/
def pageLost (s : State) (p : Nat) : State :=
  let s := wf (wf (bump (losePage s p) R.TIER_LOST_CNT 1) R.TIER_FLAGS F.TIER_FLAGS_lost 1) R.TIER_STATUS F.TIER_STATUS_rebuilding 1
  evgFireIf s (rb s R.TIER_CTL F.TIER_CTL_lost_event_en) 130

theorem losePages_single (s : State) (p : Nat) : losePages s [p] = pagesMoved (pageLost s p) := by
  rw [losePages, if_neg (by simp)]
  rfl

/-! ## What leaves the tier manager, or its retired frames, as they were -/

theorem flitPump_tier (n : Nat) (up : Bool) (k : Nat) (s : State) : (flitPump n up k s).tier = s.tier := by
  induction k generalizing s with
  | zero => rfl
  | succ k ih =>
    unfold flitPump
    dsimp only
    split
    · rfl
    · split
      · rfl
      · exact ih _

theorem sendFlits_tier (s : State) (n : Nat) (up : Bool) (fs : List Flit) : (sendFlits s n up fs).tier = s.tier := flitPump_tier _ _ _ _

theorem dramBurst_tier (n : Nat) (write : Bool) (s : State) (off : Nat) : (dramBurst n write s off).tier = s.tier := by
  simp only [dramBurst, burst, modStack_tier, apply_ite State.tier, bump_tier, cntAdd_tier, ite_self]

theorem evgFireIf_tier (s : State) (en : Bool) {src : Nat} (known : src < 320) : (evgFireIf s en src).tier = s.tier :=
  ((Sent.refl s).evgFireIf known).tier

theorem lineFound_tier (s : State) (off : Nat) (stack : n < 8) : (lineFound s n off).tier = s.tier := by
  unfold lineFound stkFlag flagEvent
  rw [modStack_tier]
  split
  · rfl
  · exact evgFireIf_tier _ _ (by omega)

theorem pageLost_retired (p : Nat) (noMigs : s.tier.migs = []) : (pageLost s p).tier.retired = s.tier.retired := by
  have still : migOf s p = none := by rw [migOf, noMigs]; rfl
  rw [pageLost, evgFireIf_tier _ _ (by decide), wf_tier, wf_tier, bump_tier, losePage, still]
  rfl

/-! ## The read -/

/-- Frame 4096 and the 65,536 frames behind it are the pool of stack 0, and page 0 is the tiered range, which is covered (R308). -/
def coveredPagePolicy : TierPolicy := ⟨1, 0, 0, 0, 0, 0, 0, 0, 0, 0, [(4096, 65537)], [(0, 1, 2)]⟩

/-- Every frame of the pool but frame 4096. -/
def retiredFrames : List (Nat × Nat) := (List.range 65536).map (fun i => (0, 4097 + i))

theorem retiredFrames_full : 65536 ≤ (retiredFrames.filter (fun r => r.1 = 0)).length := by
  simp [retiredFrames, List.filter_map, Function.comp_def]

theorem not_mem_retiredFrames : retiredFrames.contains (0, 4096) = false := by
  simp only [retiredFrames, List.contains_eq_mem, List.mem_map, decide_eq_false_iff_not, Prod.mk.injEq, true_and]
  omega

/-- The record of a FENCE that ended while the host was detached (R544). -/
def detachedRecord : CplRec := ⟨0, 0, 0xB, 0, 0, 0, 0, 0, [], 0, 0, false, [], false⟩

/-- Page 0 lies in frame 4096 of stack 0, whose first line holds poison and whose bank has used its 16 spares. The host is detached, and
HST_SPAGE names the address of the entry of page 0. -/
def fullyRetired : State :=
  { regs := [(R.HST_SPAGE, BitVec.ofNat 64 (pteAddr 0)), (R.STK_STATUS 0, 4)]
    mem := putBytes [] (pteAddr 0) (leBytes 8 (setBits (pteAt 0 0 (.t1 0 4096)) 40 1 1))
    tier := { policy := some coveredPagePolicy, retired := retiredFrames }
    cmd := { held := [detachedRecord] }
    stackList := { poison := [4096 * 1024], bankSpares := [(0, 0, 16)] } :: List.replicate 7 {} }

/-- The offset of the poisoned line. -/
def poisonedOff : Nat := 4096 * 0x1_0000

/-- The burst of the read is served. -/
def burstServed : State :=
  bump (dramBurst 0 false (sendFlits fullyRetired 0 false (txFlits (.rd64 0 poisonedOff .good))) poisonedOff) (R.STK_NARROW_CNT 0) 1

/-- The line has been found uncorrectable. -/
def poisonFound : State := lineFound burstServed 0 poisonedOff

/-- Page 0 has been lost. -/
def pageGone : State := framesEnough (pageLost poisonFound 0)

theorem poisonFound_tier : poisonFound.tier = fullyRetired.tier := by
  rw [poisonFound, lineFound_tier _ _ (by decide), burstServed, bump_tier, dramBurst_tier, sendFlits_tier]

theorem pageGone_retired : pageGone.tier.retired = retiredFrames := by
  have noMigs : poisonFound.tier.migs = [] := by rw [poisonFound_tier, fullyRetired]
  rw [pageGone, framesEnough_retired, pageLost_retired 0 noMigs, poisonFound_tier, fullyRetired]

theorem losePages_poisonFound : losePages poisonFound [0] = pageGone :=
  (losePages_single _ _).trans (pagesMoved_of_rest (pol := coveredPagePolicy) (by decide +kernel) (by decide +kernel) (by decide +kernel)
    (by decide +kernel) rfl rfl)

theorem failRow_pageGone : failRow pageGone 0 (channelOf poisonedOff) (frameOf poisonedOff) = enterFailed pageGone 4 :=
  failRow_full (by decide +kernel) (by decide +kernel) (by rw [pageGone_retired]; exact not_mem_retiredFrames)
    (by rw [pageGone_retired]; exact retiredFrames_full)

theorem lineRead_burstServed : lineRead burstServed 0 poisonedOff .good = (enterFailed pageGone 4, none) := by
  rw [lineRead_of_poison (by decide +kernel) (by decide +kernel),
    lineUncorrectable_covered (p := 0) (by decide +kernel) (by decide +kernel) (by decide +kernel), ← poisonFound, losePages_poisonFound,
    failRow_pageGone]

theorem takeTx_fullyRetired : takeTx fullyRetired 0 (.rd64 0 poisonedOff .good) = reply (enterFailed pageGone 4) 0 1 (.data 0 1 []) := by
  rw [takeTx_of_goes (by decide +kernel) (by decide +kernel)]
  exact runTx_rd64_of_none (by decide +kernel) lineRead_burstServed

/-- The status page has gone over the entry of the lost page, which now reads as unbacked. -/
theorem pteTier_failed : pteTier (pte (reply (enterFailed pageGone 4) 0 1 (.data 0 1 [])) 0) = 0 := by decide +kernel

/-- Refutes O35: a read of a poisoned line does not always leave its covered page lost, for the stack may have no frame left to retire, and
the status page that the failure of the device writes may lie over the page's entry. -/
theorem not_stacksServeTransactions : ¬ Obligations.StacksServeTransactions := by
  unfold Obligations.StacksServeTransactions
  rintro ⟨serves, -⟩
  obtain ⟨-, -, poisoned, -⟩ := serves fullyRetired 0 (by decide) rfl
  obtain ⟨t, next, -, -, lost, -⟩ := poisoned 0 poisonedOff .good (by decide) ⟨by decide +kernel, by decide +kernel⟩ (.inr (by decide +kernel))
    rfl rfl
  have tier := lost 0 (by decide +kernel) (by decide +kernel) (by decide +kernel) (by decide)
  rw [exec_rd64 (by decide), takeTx_fullyRetired] at next
  rw [← Host.Outcome.next.inj next, pteTier_failed] at tier
  exact absurd tier (by decide)

end Sys2Proof.Laws
end

section
/-! CERTIFICATES. A MARGIN_RUN_DONE that lets a PIECE_RD go on. A target of a rebuild has asked this device for a parity slot that lies on the
channel of the run, so that its request waits (R348, R524); the request for the run is answered first, and the PIECE leaves behind it. -/

namespace Sys2Proof.Laws

set_option Elab.async false

open Sys2Proof.Machine

/-- An image of one section, PARITY_GROUPS: one group, k = 1, of devices 0, 1 and 2, its parity area in stack 0 behind the page-table frames
(R507, R508). -/
def parityAreaImage : List Byte :=
  List.replicate 12 0 ++ leBytes 2 1 ++ List.replicate 18 0 ++ leBytes 4 0x24 ++ leBytes 4 7 ++ leBytes 4 0x34 ++ leBytes 4 0x38 ++ leBytes 4 0
    ++ leBytes 4 1 ++ leBytes 4 0x28 ++ leBytes 8 (hbmBase 0 + 0x1000_0000) ++ leBytes 24 (hbmBase 0 + 0x2000_0000)
    ++ leBytes 2 1 ++ leBytes 6 3 ++ leBytes 2 0 ++ leBytes 2 1 ++ leBytes 2 2

/-- Descriptor of table 0: six rows of 32 elements over three owners (R188). -/
def threeOwnerTable : List Byte :=
  leBytes 4 0 ++ leBytes 2 32 ++ List.replicate 4 0 ++ leBytes 2 3 ++ List.replicate 4 0 ++ leBytes 8 6 ++ leBytes 8 6 ++ List.replicate 88 0

/-- Row 1 of table 0, whose parity in the stripe of device 1 lies on device 0, on channel 2 of stack 0 (R510, R511). -/
def askedRow : SlotKey := { table := 0, rem := false, row := 1 }

/-- A MARGIN of channel 2 of stack 0, downwards. -/
def marginRequest : MgtReq := { iface := 0, opcode := 0xD, tag := 7, body := [0, 2, 0] }

/-- The margin run of the request is on. Device 1 is lost, and device 2, which rebuilds its row, has asked for the parity slot. -/
def marginedPiece : State :=
  { regs := [(R.THL_STATUS, 1), (R.STK_STATUS 0, 0x84), (R.STK_MRG_STATUS 0, 0x201)]
    mem := putBytes [] 0x109FC0000000 parityAreaImage
    mgt := { running := 1, margin := some (marginRequest, 0) }
    sor := { tables := [{ id := 0, versions := [{ desc := threeOwnerTable, owners := [0, 1, 2], effStep := 0, fromEpoch := true }] }] }
    recov := { lost := [{ device := 1, td := 0, reason := 0, step := 0, committed := true }], waitRd := [(2, 1, askedRow)] } }

/-- Every step of every pin passes. -/
def passingPins : List MarginPin := List.replicate 72 ⟨List.replicate 64 0, List.replicate 64 0⟩

/-- The newest output of the state a command answers. -/
def newestOut : Host.Outcome State Fault Refusal → Option Out
  | .next t => t.out.head?
  | _ => none

/-- The PIECE, not the response, is the newest output. -/
theorem newestOut_marginedPiece : newestOut (exec (.marginRunDone 0 passingPins) marginedPiece) =
    some (.message 2 (.piece 1 0 askedRow (List.replicate 128 0))) := by decide +kernel

/-- Refutes O59: at MARGIN_RUN_DONE the response need not be the newest output, for a PIECE_RD that waited for the channel is answered
behind it. -/
theorem not_managementEffectsComplete : ¬ Obligations.ManagementEffectsComplete := by
  unfold Obligations.ManagementEffectsComplete
  rintro ⟨-, done⟩
  obtain ⟨t, next, -, -, -, -, answers, -⟩ := done marginedPiece 0 passingPins marginRequest (by decide) (by decide +kernel) rfl (by decide) rfl
    rfl (by decide) rfl (by simp [passingPins])
  have newest : t.out.head? = _ := (congrArg newestOut next).symm.trans newestOut_marginedPiece
  rw [Answers, newest] at answers
  exact absurd (Option.some.inj answers) nofun

end Sys2Proof.Laws
end
